-- ==== Sys2Proof/Word.lean ====
section
/-! DEFINITION. The machine's words: bytes, 32-bit register words, and the sorted association list
that holds every sparse table of the model (memory, registers, per-object state). -/

namespace Sys2Proof

/-- A byte of memory, of a host record or of a keeper-port frame. -/
abbrev Byte := BitVec 8

/-- A 32-bit word: a Helm register, an instruction word, a register-fabric word (R12). -/
abbrev Word := BitVec 32

/-- A sparse table: pairs of key and value in strictly rising key order, holding no value equal to the table's
default. Equal tables are then equal data. -/
abbrev SMap (α : Type) := List (Nat × α)

end Sys2Proof
end

