-- ==== Sys2Proof/Syntax.lean ====
section
/-! DEFINITION. The commands of the block: one constructor per row of the spec's command table. A command says what
happens to the block: a host or session action, a line or clock event, a Helm instruction step, a deadline. Operands are
what the environment supplies: which object, what it carries, what was measured. -/

namespace Sys2Proof

/-- The upset that the environment lays on one Helm instruction: a parity error on its fetch (R213), or a single-bit or
double-bit error in the local word it reads (R177). -/
inductive Upset where
  | none | imemParity | single | double
  deriving DecidableEq, Repr

/-- What a received frame carries (R366, R367, R370): overhead images by layer (15 for a Chart entry), parity error bits
by layer and item (Table OVD-3), violations for REI by layer, the pointer (0 valid, 1 all ones, 2 invalid or NDF), the
last frame of a multiframe, H4 in sequence, the payload type
when this frame carries PSI[0], complete trace messages by trace number (1 J0, 2 J1, 4 SM, 5 PM, 6 J2) with
their CRC-7 check, complete SSM messages of a PDH signal by the Sa bit that carries them (4-8; 0 is a T1 data link), and the conditions that other standards define, by defect code
(G.775, T1.231, T1.403, Clauses 46, 49, 81, 82). -/
structure RxFrame where
  images : List (Nat × List Byte)
  parity : List (Nat × Nat × Nat)
  viol : List (Nat × Nat)
  ptr : Nat
  mf : Bool
  h4 : Bool
  pt : Option Nat
  traces : List (Nat × List Byte × Bool)
  ssm : List (Nat × Nat)
  obs : List (Nat × Bool)
  deriving DecidableEq, Repr


/-- A head's optical diagnostics after the module's own calibration (R318, R319): temperature in 1/256 degC, supply in
0.1 mV, and per lane received and transmitted power in 0.1 uW and bias in 2 uA. -/
structure OpticsDiag where
  temp : BitVec 16
  supply : BitVec 16
  lanes : List (Nat × Nat × Nat)
  deriving DecidableEq, Repr

/-- Unlon's choice for a list that grants windows: where the session's map tables stand (the level-1 table first, the
level-2 tables behind it, 8 KiB each), and the physical pages (DPA[39:12]) of each granted window in list order. -/
structure Placement where
  base : Nat
  pages : List (List Nat)
  deriving DecidableEq, Repr

/-- The commands: one constructor per row of the spec's command table, in its order. -/
inductive Instr where
  /-- NOP (R44): Operation that does nothing and completes DONE_OK; admitted even in KEYLESS. -/
  | nop (n : Fin 16) (tag : Nat)
  /-- SESSION_OPEN (R90): S0 opens user session Sn into KEYLESS, optionally applying an initial grant list. -/
  | sessionOpen (n : Fin 16) (tag : Nat) (place : Option Placement)
  /-- SESSION_CLOSE (R46): S0 closes Sn: ends its operations, unbinds programs, returns and scrubs resources, erases key and Calendar entries. -/
  | sessionClose (n : Fin 16) (tag : Nat)
  /-- GRANT (R49): S0 grants or revokes resources, quota, power reserve, crate reserve and map cache share for a target session. -/
  | grant (n : Fin 16) (tag : Nat) (place : Option Placement)
  /-- WATCH_GRANT (R57): The owner of a slice gives or revokes watch access for another session. -/
  | watchGrant (n : Fin 16) (tag : Nat)
  /-- LOAD (R203): Copies and checks an MSL image into a Helm that holds no bound program. -/
  | load (n : Fin 16) (tag : Nat)
  /-- BIND (R247): Checks ports, pins and frame budget, initialises the Helm, waits for the floor and delivers START. -/
  | bind (n : Fin 16) (tag : Nat)
  /-- UNBIND (R248): Enqueues STOP for a running program and completes when the program is LOADED. -/
  | unbind (n : Fin 16) (tag : Nat)
  /-- SEND (R250): Delivers a 32-byte message to a running Helm program as a MESSAGE event. -/
  | send (n : Fin 16) (tag : Nat)
  /-- ACQUIRE (R287): Runs acquisition attempts through the SIGNAL to HANDSHAKE stages on a slice or bonded group. -/
  | acquire (n : Fin 16) (tag : Nat)
  /-- RELEASE_LINE (R294): Cancels any ACQUIRE on the slice, powers down the front end and stops transmit. -/
  | releaseLine (n : Fin 16) (tag : Nat)
  /-- SUPPLY (R313): SOUND code 0x01 returns one scan of all 16 Sounding ADC channels. -/
  | supply (n : Fin 16) (tag : Nat)
  /-- SOUND_BAY (R314): SOUND code 0x02 returns one bay's state, fault count, currents and BAY_VIN. -/
  | soundBay (n : Fin 16) (tag : Nat)
  /-- TDR (R315): SOUND code 0x10 sends a pulse and reports copper reflections with delay and length. -/
  | tdr (n : Fin 16) (tag : Nat) (refl : List (Nat × Fin 5 × Byte))
  /-- CABLE_LOSS (R317): SOUND code 0x11 returns the latest Leadline cable-loss estimate. -/
  | cableLoss (n : Fin 16) (tag : Nat)
  /-- OPTICS (R318): SOUND code 0x20 reads the head's optical diagnostics per lane. -/
  | optics (n : Fin 16) (tag : Nat) (diag : Option OpticsDiag)
  /-- EYE (R320): SOUND code 0x21 snapshots the Sextant coefficients and eye estimate. -/
  | eye (n : Fin 16) (tag : Nat)
  /-- JITTER (R321): SOUND code 0x30 accumulates filtered CDR phase over a window and reports peak-to-peak and RMS jitter. -/
  | jitter (n : Fin 16) (tag : Nat)
  /-- JITTER_WINDOW_END (R321): The jitter window of P2 ms expires and the result is written. -/
  | jitterWindowEnd (n : Fin 16) (tag pp rms : Nat)
  /-- WANDER (R322): SOUND code 0x31 measures TIE of the recovered clock against REFIN over a series. -/
  | wander (n : Fin 16) (tag : Nat)
  /-- WANDER_SAMPLE (R322): The wander sample period of P2 ms expires and one TIE sample is taken. -/
  | wanderSample (n : Fin 16) (tag : Nat) (tie : Word)
  /-- TRACES (R323): SOUND code 0x40 returns accepted and latest traces of the slice or a tributary J2. -/
  | traces (n : Fin 16) (tag : Nat)
  /-- SSM (R324): SOUND code 0x41 returns the accepted and latest SSM quality code. -/
  | ssm (n : Fin 16) (tag : Nat)
  /-- LOOP_PROBE (R326): SOUND code 0x42 runs loop-down, loop-up handshake and loop-down to probe the far-end loopback. -/
  | loopProbe (n : Fin 16) (tag : Nat)
  /-- AUTONEG (R325): SOUND code 0x43 returns the partner's Clause 37 base page. -/
  | autoneg (n : Fin 16) (tag : Nat)
  /-- CHART_WRITE (R401): Checks and writes route words into word A or B of entries of a Chart range. -/
  | chartWrite (n : Fin 16) (tag : Nat) (fail : List Nat)
  /-- CHART_WRITE_CFG (R420): CHART_WRITE with P2[1] = 1 writes configuration blocks of entries. -/
  | chartWriteCfg (n : Fin 16) (tag : Nat)
  /-- CHART_SWAP (R410): Flips the submitting session's active-word selector at the next frame or multiframe boundary. -/
  | chartSwap (n : Fin 16) (tag : Nat)
  /-- PROTECT_CFG (R425): PROTECT_CFG with P0 = 32 configures a protection group and makes the session its owner. -/
  | protectCfg (n : Fin 16) (tag : Nat)
  /-- PROTECT_CFG_DELETE (R426): PROTECT_CFG with P0 = 0 deletes a configured group. -/
  | protectCfgDelete (n : Fin 16) (tag : Nat)
  /-- PROTECT_CLEAR (R430): PROTECT_CMD CLEAR ends LOCKOUT, FORCE, MANUAL, EXERCISE and WTR. -/
  | protectClear (n : Fin 16) (tag : Nat)
  /-- LOCKOUT (R428): PROTECT_CMD LOCKOUT raises the highest request, selecting working. -/
  | lockout (n : Fin 16) (tag : Nat)
  /-- FORCE (R428): PROTECT_CMD FORCE requests a forced switch to protection. -/
  | force (n : Fin 16) (tag : Nat)
  /-- MANUAL_P (R428): PROTECT_CMD MANUAL_P requests a manual switch to protection. -/
  | manualP (n : Fin 16) (tag : Nat)
  /-- MANUAL_W (R428): PROTECT_CMD MANUAL_W requests a manual switch to working. -/
  | manualW (n : Fin 16) (tag : Nat)
  /-- EXERCISE (R445): PROTECT_CMD EXERCISE signals an exercise request for 10 s on a bidirectional group. -/
  | exercise (n : Fin 16) (tag : Nat)
  /-- METER_ARM (R441): PROTECT_CMD METER_ARM arms the group's disruption meter. -/
  | meterArm (n : Fin 16) (tag : Nat)
  /-- METER_DISARM (R442): PROTECT_CMD METER_DISARM disarms the meter, closing an open event with KIND 6. -/
  | meterDisarm (n : Fin 16) (tag : Nat)
  /-- SOAK (R471): Opens the PM gate of a run of points, attaches detached ones and optionally stores final bins through a Chute. -/
  | soak (n : Fin 16) (tag : Nat)
  /-- CAPTURE (R496): Takes the consumer role on a Chute, encodes entries into crates and delivers crates to host slots. -/
  | capture (n : Fin 16) (tag : Nat)
  /-- PATTERN (R384): Runs a pattern unit's generator and/or checker with optional error insertion for a duration. -/
  | pattern (n : Fin 16) (tag : Nat)
  /-- PM_READ (R468): Writes a consistent snapshot of the selected PM bins to host memory. -/
  | pmRead (n : Fin 16) (tag : Nat)
  /-- PM_RESET (R469): PM_RESET with a bin selector clears the counts of the selected bins and sets RESET. -/
  | pmReset (n : Fin 16) (tag : Nat)
  /-- ATTACH (R449): PM_RESET selector 0x80 attaches a point to a slice layer or Chart entry. -/
  | attach (n : Fin 16) (tag : Nat)
  /-- DETACH (R467): PM_RESET selector 0x81 returns a point to its Reset values, detached. -/
  | detach (n : Fin 16) (tag : Nat)
  /-- SUSPEND (R162): Suspends a long operation of the session named by TAG. -/
  | suspend (n : Fin 16) (tag bits errs : Nat)
  /-- RESUME (R160): Returns a suspended long operation to RUNNING or QUEUED. -/
  | resume (n : Fin 16) (tag : Nat)
  /-- CANCEL (R163): Ends a long operation DONE_CANCELLED, keeping its results so far. -/
  | cancel (n : Fin 16) (tag bits errs : Nat)
  /-- SELFTEST (R648): Runs the masked built-in tests on an object or the shared blocks. -/
  | selftest (n : Fin 16) (tag : Nat) (fail : BitVec 16) (dead : Option (Fin 2)) (found : List (Nat × Bool))
  /-- SELFTEST_QUIET_START (R650): A deferred SELFTEST enters RUNNING at the first moment the device is quiet. -/
  | selftestQuietStart (n : Fin 16) (tag : Nat)
  /-- SELFTEST_DEFER_EXPIRY (R650): DEFER_S expires without quiet and the SELFTEST completes DONE_PARTIAL without tests 8 and 9. -/
  | selftestDeferExpiry (n : Fin 16) (tag : Nat) (fail : BitVec 16) (dead : Option (Fin 2)) (found : List (Nat × Bool))
  /-- CALIBRATE (R655): Runs an RX, TX or TDR_BASE calibration on a slice. -/
  | calibrate (n : Fin 16) (tag : Nat) (failed : Bool) (live : List (List Nat))
  /-- BAY_ON (R579): BAY_CMD or BY_CMD action ON enables an OFF bay into SEATING or EMPTY. Of S0's BAY_CMD with this TAG, or of a BY_CMD write by PF0. -/
  | bayOn (b : Fin 4) (tag : Option Nat)
  /-- BAY_OFF (R579): BAY_CMD or BY_CMD action OFF turns the bay's e-fuse off and sets OFF. -/
  | bayOff (b : Fin 4) (tag : Option Nat)
  /-- BAY_CLEAR (R579): BAY_CMD or BY_CMD action CLEAR zeroes the fault count and restarts a RETRY or LATCHED bay. -/
  | bayClear (b : Fin 4) (tag : Option Nat)
  /-- BAY_RESTART (R579): BAY_CMD or BY_CMD action RESTART power-cycles the bay. -/
  | bayRestart (b : Fin 4) (tag : Option Nat)
  /-- POWER_FLOOR (R612): S0 sets KP_PWR_CTL.FLOOR, the deepest power state allowed. -/
  | powerFloor (n : Fin 16) (tag : Nat)
  /-- CALENDAR_ADD_WAKE (R602): CALENDAR_ADD with ACTION WAKE adds a timed wake entry. -/
  | calendarAddWake (n : Fin 16) (tag : Nat)
  /-- CALENDAR_ADD_RAISE (R602): CALENDAR_ADD with ACTION RAISE adds a timed source-raising entry. -/
  | calendarAddRaise (n : Fin 16) (tag : Nat)
  /-- CALENDAR_CANCEL (R602): CALENDAR_ADD with ACTION CANCEL frees one of the session's entries. -/
  | calendarCancel (n : Fin 16) (tag : Nat)
  /-- CALENDAR_WAKE_FIRE (R604): A WAKE entry's keeper time arrives; it raises the owner's source and holds CORE in Run. -/
  | calendarWakeFire (e : Fin 64)
  /-- CALENDAR_RAISE_FIRE (R605): A RAISE entry's keeper time arrives and it raises its source without waking. -/
  | calendarRaiseFire (e : Fin 64)
  /-- HOLD_MS_EXPIRY (R604): The HOLD_MS period after a WAKE entry ends and CORE is released to the Keeper's choice. -/
  | holdMsExpiry
  /-- QUERY_GLOBAL (R41): QUERY code 0 returns GL_ID, GL_CAPS and GL_MEM. -/
  | queryGlobal (n : Fin 16) (tag : Nat)
  /-- QUERY_SESSION (R144): QUERY code 1 returns the session's own state, quota, reserves and shares. -/
  | querySession (n : Fin 16) (tag : Nat)
  /-- QUERY_OPERATION (R158): QUERY code 2 returns the state, estimate and admission time of an operation by TAG. -/
  | queryOperation (n : Fin 16) (tag : Nat)
  /-- QUERY_OBJECT (R144): QUERY code 3 returns status of an owned or watched object. -/
  | queryObject (n : Fin 16) (tag : Nat)
  /-- QUERY_LINK (R144): QUERY code 4 returns the function's link speed, width and request limits. -/
  | queryLink (n : Fin 16) (tag : Nat)
  /-- QUERY_POWER (R144): QUERY code 5 returns the live allowance and the session's reserve and charge. -/
  | queryPower (n : Fin 16) (tag : Nat)
  /-- SUBMISSION_FETCH_DONE (R104): Data of a submission-record fetch arrives or the fetch fails. -/
  | submissionFetchDone (tag : Fin 64) (data : Option (List Byte))
  /-- ADMIT_RECORD (R147): One submission record is taken through the ordered admission checks and admitted QUEUED or refused. -/
  | admitRecord
  /-- OPERATION_START (R154): A QUEUED operation whose object is free and whose deferral has ended enters RUNNING. -/
  | operationStart (n : Fin 16) (tag : Nat)
  /-- OPERATION_END (R101): An operation's work ends and its data, completion record and MSI-X are written in order. -/
  | operationEnd (n : Fin 16) (tag : Nat)
  /-- DURATION_EXPIRY (R499): The duration of a SOAK or PATTERN ends and the operation finishes its work. -/
  | durationExpiry (n : Fin 16) (tag bits errs : Nat)
  /-- SQ_DOORBELL (R135): A submission doorbell write gives a new tail and makes records available to fetch. -/
  | sqDoorbell (n : Fin 16) (q : Fin 4) (tail : Fin 4096)
  /-- CQ_DOORBELL (R136): A completion doorbell write frees consumed completion slots and may resume held fetching. -/
  | cqDoorbell (n : Fin 16) (head : Fin 4096)
  /-- EQ_HEAD_DOORBELL (R547): An event-queue head doorbell frees records, completes their sources and rearms the MSI-X vector. -/
  | eqHeadDoorbell (n : Fin 16) (head : Fin 4096)
  /-- SES_KEY_COMMIT (R86): Writing COMMIT = 1 locks the session's non-zero seal key and moves KEYLESS to OPEN. -/
  | sesKeyCommit (n : Fin 16)
  /-- SESSION_RESET (R45): SES_CTL.SESSION_RESET ends Sn's operations, unbinds programs, scrubs memory and resets registers. -/
  | sessionReset (n : Fin 16)
  /-- SCRUB_DONE (R70): The slowest scrub engine of a release finishes and the release completes. -/
  | scrubDone (k : Nat)
  /-- MAPC_INVALIDATE (R84): Writing SES_MAPC_INV.BUSY = 1 starts invalidation of a session's map cache entries. -/
  | mapcInvalidate (n : Fin 16) (all : Bool) (page : BitVec 20)
  /-- MAPC_INV_DONE (R84): No access using a removed entry remains in flight and BUSY clears. -/
  | mapcInvDone
  /-- ADAPT_SNAP (R282): Writing SNAP copies all adaptation coefficients and eye state into the report registers. -/
  | adaptSnap (i : Fin 24)
  /-- ADAPT_FREEZE (R280): Writing FREEZE holds or resumes every adaptation coefficient, deferred during acquisition stages. -/
  | adaptFreeze (i : Fin 24) (on : Bool)
  /-- REPORT_REFRESH (R282): Every 1 ms the adaptation report registers are refreshed as one consistent set. -/
  | reportRefresh (i : Fin 24)
  /-- BACKGROUND_ADAPT_STEP (R279): Background Sextant or Leadline adaptation moves coefficients at most one step per 1 ms. -/
  | backgroundAdaptStep (i : Fin 24) (d : List (Fin 3)) (meas : List Nat)
  /-- REFRAME (R361): Writing FR_CTL.REFRAME forces the framer to HUNT with cause 3. -/
  | reframe (i : Fin 24)
  /-- MF_REFRAME (R361): Writing FR_CTL.MF_REFRAME forces the separate multiframe to HUNT. -/
  | mfReframe (i : Fin 24)
  /-- SLICE_RESET (R626): SLICE_CTL.RESET or a change of owner resets a slice or its bonded group. -/
  | sliceReset (i : Fin 24)
  /-- WARM_RESET (R627): GL_RESET.WARM with KEY 0x5A stops all work, closes user sessions and restarts Unlon. -/
  | warmReset (key : Byte)
  /-- COLD_RESET (R629): GL_RESET.COLD with KEY 0x5A cycles the E-die rails, resets K-die registers and runs the cold boot. -/
  | coldReset (key : Byte)
  /-- LOGBOOK_MARK_READ (R670): Writing LG_CTL.READ marks the dump read and clears LG_STAT.VALID. -/
  | logbookMarkRead
  /-- LOGBOOK_FORCE (R684): Writing LG_CTL.FORCE with KEY 0xA5 causes a dump with cause FORCED. -/
  | logbookForce (key : Byte)
  /-- COUNTER_SNAP (R665): Writing HL_CNT_CTL.SNAP copies all 256 counters into the snapshot bank in one cycle. -/
  | counterSnap
  /-- CU_MARK (R485): CU_CON.MARK sets the Chute's WAYPOINT to READ. -/
  | cuMark (c : Fin 64)
  /-- CU_REWIND (R485): CU_CON.REWIND sets READ back to WAYPOINT, or to RELEASE without one. -/
  | cuRewind (c : Fin 64)
  /-- CU_RELEASE (R485): CU_CON.RELEASE frees entries before READ and clears WAYPOINT. -/
  | cuRelease (c : Fin 64)
  /-- CU_OWN (R478): Writing CU_CON.OWN takes or drops the register consumer role of a Chute. -/
  | cuOwn (n : Fin 16) (c : Fin 64) (on : Bool)
  /-- CU_POP_TAKE (R505): A read of CU_POP takes one visible entry and latches its high word and sideband. -/
  | cuPopTake (n : Fin 16) (c : Fin 64)
  /-- CU_HACK_WRITE (R498): Writing CU_HACK acknowledges host slots and lets held crates be written. -/
  | cuHackWrite (c : Fin 64) (v : Word)
  /-- BC_SET (R529): PF0 writes a doorbell word that fires any Beacon source. -/
  | bcSet (v : BitVec 64)
  /-- SW_RAISE (R529): A session fires its own software source with SW_DATA. -/
  | swRaise (n k : Fin 16)
  /-- CLAIM (R540): A host function writes a source number to claim a mask-routed source. -/
  | claim (n : Fin 16) (k : BitVec 16)
  /-- EOI (R537): A function completes a source it holds active by writing its number. -/
  | eoi (n : Fin 16) (k : Fin 1024)
  /-- BC_VCLAIM (R536): A PF0 read of BC_VCLAIM(v) takes the lowest pending source routed to vector v. -/
  | bcVclaim (v : Fin 32)
  /-- PM_ATTACH (R474): Writing PM_ATTACH with GO attaches or detaches a point. -/
  | pmAttach (n : Fin 16) (p : Fin 2048) (v : Word)
  /-- PM_ALIGN_WRITE (R464): PF0 writes PM_ALIGN, closing every point's current intervals SHORT at the next second. -/
  | pmAlignWrite (v : BitVec 64)
  /-- LOOP_PENDING_CLEAR (R301): Writing 1 to LP_LOOP.PENDING clears the loop-pending flag without sending a loop-down. -/
  | loopPendingClear (i : Fin 16)
  /-- FD_PATH_WRITE (R556): Writing FD_PATH reassigns feeds to the OR group or priority positions and may cause a changeover. -/
  | fdPathWrite (v : Word)
  /-- BY_MAP_WRITE (R577): Writing BY_MAP sets the slices a bay serves, or is refused setting MAP_REJ. -/
  | byMapWrite (b : Fin 4) (v : Word)
  /-- PD_LIMIT_WRITE (R568): Writing PD_LIMIT_MW lowers the PoE power counted for LINE. -/
  | pdLimitWrite (v : Word)
  /-- LTR_UPDATE (R117): Writing GL_HOST_CTL.LTR_US sends a new LTR message within 10 µs. -/
  | ltrUpdate (v : Word)
  /-- IMEM_WRITE (R210): A write to Helm instruction memory is performed only while no program is bound. -/
  | imemWrite (h : Fin 32) (a : Fin 4096) (v : Word)
  /-- OV_INS_SINGLE (R389): OV_INS mode SINGLE inserts one bit error in the next unit of the item. -/
  | ovInsSingle (i : Fin 24) (layer : Fin 16) (item : Byte)
  /-- OV_INS_RATE (R389): OV_INS mode RATE inserts one bit error in every N-th unit. -/
  | ovInsRate (i : Fin 24) (layer : Fin 16) (item : Byte) (man exp : Fin 16)
  /-- OV_INS_BURST (R389): OV_INS mode BURST inserts errors in COUNT consecutive units. -/
  | ovInsBurst (i : Fin 24) (layer : Fin 16) (item : Byte) (count : Fin 1024)
  /-- FORCE_AIS (R390): OV_FORCE.AIS forces the layer's AIS on transmit. -/
  | forceAis (i : Fin 24) (layer : Fin 16) (on : Bool)
  /-- FORCE_RDI (R390): OV_FORCE.RDI forces the layer's RDI bits on transmit. -/
  | forceRdi (i : Fin 24) (layer : Fin 16) (on : Bool)
  /-- FORCE_UNEQ (R390): OV_FORCE.UNEQ forces unequipped or ODU OCI on transmit. -/
  | forceUneq (i : Fin 24) (layer : Fin 16) (on : Bool)
  /-- FORCE_LOF (R390): OV_FORCE.LOF inverts the transmitted framing word. -/
  | forceLof (i : Fin 24) (layer : Fin 16) (on : Bool)
  /-- FORCE_LOS (R390): OV_FORCE.LOS turns the transmitter off on the LINE layer. -/
  | forceLos (i : Fin 24) (layer : Fin 16) (on : Bool)
  /-- FORCE_LCK (R390): OV_FORCE.LCK forces ODU LCK on transmit. -/
  | forceLck (i : Fin 24) (layer : Fin 16) (on : Bool)
  /-- FORCE_LF (R390): OV_FORCE.LF sends PCS local fault ordered sets. -/
  | forceLf (i : Fin 24) (layer : Fin 16) (on : Bool)
  /-- FORCE_RF (R390): OV_FORCE.RF sends PCS remote fault ordered sets. -/
  | forceRf (i : Fin 24) (layer : Fin 16) (on : Bool)
  /-- RC_READ (R16): A read of an RC field returns its value and clears it, a coinciding hardware event winning. -/
  | rcRead (n : Fin 16) (a : BitVec 26)
  /-- WIDE_READ_LOW (R13): A read of the low word of a 64-bit register latches its high word for the function. -/
  | wideReadLow (n : Fin 16) (a : BitVec 26)
  /-- REGISTER_WRITE (R15): A write to a register field without a row of its own applies under its access code. -/
  | registerWrite (n : Fin 16) (a : BitVec 26) (v : Word) (narrow : Bool)
  /-- KP_NOP (R128): Keeper-port command NOP answers with STATUS only. -/
  | kpNop (crc : Byte)
  /-- KP_READ_ID (R126): Keeper-port command READ_ID returns KP_ID. -/
  | kpReadId (crc : Byte)
  /-- KP_READ (R126): Keeper-port command READ returns the K-die word at ADDR. -/
  | kpRead (a : BitVec 16) (crc : Byte)
  /-- KP_WRITE (R130): Keeper-port command WRITE writes DATA to a K-die register. -/
  | kpWrite (a : BitVec 16) (v : Word) (crc : Byte)
  /-- KP_WAKE (R131): Keeper-port command WAKE wakes the E-die to Run as a wake-capable event. -/
  | kpWake (crc : Byte)
  /-- KP_COLD_RESET (R629): Keeper-port command COLD_RESET with CONFIRM 0xC3 performs a cold reset. -/
  | kpColdReset (confirm crc : Byte)
  /-- KP_FRAME_ABORT (R129): KP_CS_N rises before the request CRC is checked, discarding the frame and counting ABORT. -/
  | kpFrameAbort
  /-- BME_CLEAR (R106): Clearing Bus Master Enable stops a function's DMA and MSI-X and moves its operations to HALTED. -/
  | bmeClear (n : Fin 16)
  /-- BME_SET (R110): Setting Bus Master Enable returns HALTED operations and writes staged records in stamp order. -/
  | bmeSet (n : Fin 16) (cto : Option Nat)
  /-- VF_FLR (R112): A VF FLR stops VFn and starts the session reset of Sn. -/
  | vfFlr (n : Fin 16)
  /-- FLR_DRAIN_END (R112): The FLR wait for outstanding reads ends, operations end E_RESET and the scrub starts. -/
  | flrDrainEnd (n : Fin 16)
  /-- PF0_FLR (R114): A PF0 FLR performs a warm reset and resets PF0 configuration space including SR-IOV. -/
  | pf0Flr
  /-- HOT_RESET (R115): A Hot Reset or Link Disable from the host performs a warm reset as a PF0 FLR does. -/
  | hotReset
  /-- VF_ENABLE_CLEAR (R96): Clearing VF Enable performs a VF FLR on every enabled VF at once. -/
  | vfEnableClear
  /-- PERST_DEASSERT (R121): PERST_N deasserts; with the E-die off it wakes the engine to Run. -/
  | perstDeassert
  /-- PERST_ASSERT (R124): PERST_N asserts; without L2/L3 Ready it declares the host link lost. -/
  | perstAssert
  /-- LINK_DOWN (R124): The PCIe link goes down; without L2/L3 Ready it declares the host link lost. -/
  | linkDown
  /-- L2_L3_READY (R119): The PME_Turn_Off and PME_TO_Ack exchange brings the link to L2/L3 Ready. -/
  | l2L3Ready
  /-- L1_ENTRY (R116): The link has been idle for L1_IDLE and the HX7260 requests ASPM L1. -/
  | l1Entry (deep : Bool)
  /-- L1_2_EXIT (R118): With a request to send in L1.2, the HX7260 drives CLKREQ_N low to leave L1.2. -/
  | l12Exit
  /-- COMPLETION_TIMEOUT (R103): A host read's completion timeout expires and the needing operation completes E_TIMEOUT. -/
  | completionTimeout (tag : Fin 64)
  /-- BAD_COMPLETION (R103): A host read receives UR, CA or a poisoned completion and is abandoned. -/
  | badCompletion (tag : Fin 64) (kind : Fin 3)
  /-- UNEXPECTED_COMPLETION (R105): A completion for an abandoned read arrives and is discarded and counted. -/
  | unexpectedCompletion (tag : Fin 64)
  /-- TAG_QUARANTINE_END (R105): The full completion timeout after an abandoned read elapses and its tag may be reused. -/
  | tagQuarantineEnd (tag : Fin 64)
  /-- CONFIG_RETRY (R122): A configuration request before Unlon is ready is answered with Retry Status. -/
  | configRetry
  /-- BAR2_ATOMICOP (R517): A PCIe AtomicOp request to BAR2 is answered with Unsupported Request. -/
  | bar2Atomicop
  /-- STAGING_STALL (R124): Host-bound staging stays non-empty for STALL without a posted credit. -/
  | stagingStall
  /-- PCIE_CREDIT_RETURN (R526): Posted flow-control credits return and host-bound staging drains. -/
  | pcieCreditReturn (k : Nat)
  /-- EVENT_DISPATCH (R193): A Helm dispatches the next queued event to its handler in 4 cycles. -/
  | eventDispatch (h : Fin 32) (idle : Nat)
  /-- HELM_TIMER_EXPIRY (R195): A Helm timer expires and enqueues a TIMER event. -/
  | helmTimerExpiry (h : Fin 32) (t : Fin 4)
  /-- BUDGET_ABORT (R255): A handler's cycle count passes WCET plus WCET/8 and it is aborted with fault BUDGET. -/
  | budgetAbort (h : Fin 32)
  /-- FAR_LOAD_COMPLETE (R180): The data of a far load or FADD returns and the Helm stall ends. -/
  | farLoadComplete (h : Fin 32) (u : Upset) (k : Nat)
  /-- FAR_STORE_COMPLETE (R183): A posted far store enters the write queue and becomes visible. -/
  | farStoreComplete (h : Fin 32)
  /-- ADD (R216): g[d] = g[a] + g[b], setting Z N C V. -/
  | add (h : Fin 32) (u : Upset)
  /-- ADC (R216): g[d] = g[a] + g[b] + C, setting Z N C V. -/
  | adc (h : Fin 32) (u : Upset)
  /-- SUB (R216): g[d] = g[a] − g[b], setting Z N C V. -/
  | sub (h : Fin 32) (u : Upset)
  /-- SBC (R216): g[d] = g[a] − g[b] − C, setting Z N C V. -/
  | sbc (h : Fin 32) (u : Upset)
  /-- AND (R216): g[d] = g[a] and g[b], setting Z N. -/
  | and (h : Fin 32) (u : Upset)
  /-- OR (R216): g[d] = g[a] or g[b], setting Z N. -/
  | or (h : Fin 32) (u : Upset)
  /-- XOR (R216): g[d] = g[a] xor g[b], setting Z N. -/
  | xor (h : Fin 32) (u : Upset)
  /-- ANDN (R216): g[d] = g[a] and not g[b], setting Z N. -/
  | andn (h : Fin 32) (u : Upset)
  /-- SHL (R216): Shifts g[a] left by g[b][4:0], setting Z N C. -/
  | shl (h : Fin 32) (u : Upset)
  /-- SHR (R216): Shifts g[a] right with zero fill by g[b][4:0]. -/
  | shr (h : Fin 32) (u : Upset)
  /-- SAR (R216): Shifts g[a] right with sign fill by g[b][4:0]. -/
  | sar (h : Fin 32) (u : Upset)
  /-- ROR (R216): Rotates g[a] right by g[b][4:0]. -/
  | ror (h : Fin 32) (u : Upset)
  /-- MUL (R215): g[d] = low 32 bits of g[a] × g[b]. -/
  | mul (h : Fin 32) (u : Upset)
  /-- MULHU (R215): g[d] = high 32 bits of the unsigned product. -/
  | mulhu (h : Fin 32) (u : Upset)
  /-- POPC (R215): g[d] = number of 1 bits in g[a]. -/
  | popc (h : Fin 32) (u : Upset)
  /-- CLZ (R215): g[d] = leading zero bits of g[a]. -/
  | clz (h : Fin 32) (u : Upset)
  /-- BSWAP (R215): g[d] = bytes of g[a] reversed. -/
  | bswap (h : Fin 32) (u : Upset)
  /-- CSEL (R217): g[d] = g[a] if the condition holds, else g[b]. -/
  | csel (h : Fin 32) (u : Upset)
  /-- ADDS (R215): Unsigned saturating add, C marking saturation. -/
  | adds (h : Fin 32) (u : Upset)
  /-- SUBS (R215): Unsigned saturating subtract, C marking saturation. -/
  | subs (h : Fin 32) (u : Upset)
  /-- ADDI (R216): g[d] = g[a] + sign-extended IMM12. -/
  | addi (h : Fin 32) (u : Upset)
  /-- ANDI (R216): g[d] = g[a] and zero-extended IMM12. -/
  | andi (h : Fin 32) (u : Upset)
  /-- ORI (R216): g[d] = g[a] or zero-extended IMM12. -/
  | ori (h : Fin 32) (u : Upset)
  /-- XORI (R216): g[d] = g[a] xor zero-extended IMM12. -/
  | xori (h : Fin 32) (u : Upset)
  /-- SHLI (R216): Shifts g[a] left by an immediate amount. -/
  | shli (h : Fin 32) (u : Upset)
  /-- SHRI (R216): Shifts g[a] right with zero fill by an immediate amount. -/
  | shri (h : Fin 32) (u : Upset)
  /-- SARI (R216): Shifts g[a] right with sign fill by an immediate amount. -/
  | sari (h : Fin 32) (u : Upset)
  /-- RORI (R216): Rotates g[a] right by an immediate amount. -/
  | rori (h : Fin 32) (u : Upset)
  /-- MOVL (R215): g[d] = zero-extended IMM16. -/
  | movl (h : Fin 32) (u : Upset)
  /-- MOVH (R215): Writes IMM16 into the upper half of g[d], keeping the lower half. -/
  | movh (h : Fin 32) (u : Upset)
  /-- MOVS (R215): g[d] = sign-extended IMM16. -/
  | movs (h : Fin 32) (u : Upset)
  /-- RDS (R173): Reads special register pc, ev, fc or tm into g[d]. -/
  | rds (h : Fin 32) (u : Upset)
  /-- EXTU (R215): Extracts an unsigned bit field of g[a] into g[d]. -/
  | extu (h : Fin 32) (u : Upset)
  /-- INS (R215): Inserts the low bits of g[a] into a bit field of g[d]. -/
  | ins (h : Fin 32) (u : Upset)
  /-- CMP (R216): Sets flags from g[a] − g[b]. -/
  | cmp (h : Fin 32) (u : Upset)
  /-- TST (R216): Sets flags from g[a] and g[b]. -/
  | tst (h : Fin 32) (u : Upset)
  /-- CMPI (R216): Sets flags from g[a] − sign-extended IMM12. -/
  | cmpi (h : Fin 32) (u : Upset)
  /-- TSTI (R216): Sets flags from g[a] and zero-extended IMM12. -/
  | tsti (h : Fin 32) (u : Upset)
  /-- B (R218): Branches to pc + OFFSET20 when the condition holds. -/
  | b (h : Fin 32) (u : Upset)
  /-- BL (R219): Branches when the condition holds, saving pc + 1 in g15. -/
  | bl (h : Fin 32) (u : Upset)
  /-- RET (R218): Returns to g15[11:0] when the condition holds. -/
  | ret (h : Fin 32) (u : Upset)
  /-- LOOP (R220): Runs a statically capped loop body min(g[r], cap) times. -/
  | loop (h : Fin 32) (u : Upset)
  /-- CBZ (R222): Branches when g[r] is 0. -/
  | cbz (h : Fin 32) (u : Upset)
  /-- CBNZ (R222): Branches when g[r] is not 0. -/
  | cbnz (h : Fin 32) (u : Upset)
  /-- LDW (R223): Loads a local data word into g[d]. -/
  | ldw (h : Fin 32) (u : Upset)
  /-- LDH (R223): Loads a zero-extended local halfword. -/
  | ldh (h : Fin 32) (u : Upset)
  /-- LDHS (R223): Loads a sign-extended local halfword. -/
  | ldhs (h : Fin 32) (u : Upset)
  /-- LDB (R223): Loads a zero-extended local byte. -/
  | ldb (h : Fin 32) (u : Upset)
  /-- LDBS (R223): Loads a sign-extended local byte. -/
  | ldbs (h : Fin 32) (u : Upset)
  /-- STW (R223): Stores g[d] as a local word. -/
  | stw (h : Fin 32) (u : Upset)
  /-- STH (R223): Stores g[d][15:0] as a local halfword. -/
  | sth (h : Fin 32) (u : Upset)
  /-- STB (R223): Stores g[d][7:0] as a local byte. -/
  | stb (h : Fin 32) (u : Upset)
  /-- FLD (R180): Loads a far word through the session map, stalling until it returns. -/
  | fld (h : Fin 32) (u : Upset)
  /-- FST (R225): Posts a far store, walking the map at issue. -/
  | fst (h : Fin 32) (u : Upset) (w : Fin 65)
  /-- FADD (R224): Indivisible far fetch-add on a Larder word, returning the old value. -/
  | fadd (h : Fin 32) (u : Upset)
  /-- FSYNC (R180): Waits until every posted far store has completed. -/
  | fsync (h : Fin 32) (u : Upset) (w : Fin 65)
  /-- OHRD (R226): Reads bytes of a port's overhead image into g[d]. -/
  | ohrd (h : Fin 32) (u : Upset)
  /-- OHWR (R188): Stages bytes of transmit overhead, committed at END. -/
  | ohwr (h : Fin 32) (u : Upset)
  /-- OHWM (R228): Stages a masked write of transmit overhead onto its base. -/
  | ohwm (h : Fin 32) (u : Upset) (own : List (Nat × Nat × Byte))
  /-- PUSH (R229): Pushes a 64-bit item into the Chute bound to the port. -/
  | push (h : Fin 32) (u : Upset)
  /-- PUSHC (R229): Pushes an item and commits the open packet. -/
  | pushc (h : Fin 32) (u : Upset)
  /-- RWD (R484): Rewinds every item pushed since the last commit without trace. -/
  | rwd (h : Fin 32) (u : Upset)
  /-- CRC (R230): Steps an unreflected CRC in g[d] over bits, a byte or a word of g[a]. -/
  | crc (h : Fin 32) (u : Upset)
  /-- BIP8 (R215): XORs the four bytes of g[a] into g[d]. -/
  | bip8 (h : Fin 32) (u : Upset)
  /-- BIP2 (R215): XORs the sixteen two-bit groups of g[a] into g[d]. -/
  | bip2 (h : Fin 32) (u : Upset)
  /-- BERR (R215): Adds the popcount of g[a] xor g[b] to g[d], saturating. -/
  | berr (h : Fin 32) (u : Upset)
  /-- BIPX (R231): Returns the parity error bits of a layer item for the frame in the read bank. -/
  | bipx (h : Fin 32) (u : Upset)
  /-- TALLY (R232): Increments the local histogram counter of bin(g[a]). -/
  | tally (h : Fin 32) (u : Upset)
  /-- TBIN (R232): g[d] = bin(g[a]). -/
  | tbin (h : Fin 32) (u : Upset)
  /-- DSET (R233): Stages declaration of a program-driven defect on a port. -/
  | dset (h : Fin 32) (u : Upset)
  /-- DCLR (R233): Stages clearing of a program-driven defect on a port. -/
  | dclr (h : Fin 32) (u : Upset)
  /-- PSTART (R235): Starts a pattern unit side with a pattern code. -/
  | pstart (h : Fin 32) (u : Upset)
  /-- PSTOP (R235): Stops a pattern unit side. -/
  | pstop (h : Fin 32) (u : Upset)
  /-- PERR (R235): Inverts one bit in each of the next n generated words. -/
  | perr (h : Fin 32) (u : Upset)
  /-- PRDC (R236): Reads and clears the checker's program error count. -/
  | prdc (h : Fin 32) (u : Upset) (bits errs : Nat)
  /-- PSTAT (R235): Reads the checker's sync and sync-lost status. -/
  | pstat (h : Fin 32) (u : Upset)
  /-- PWORD (R235): Sets the pattern unit's 32-bit user word. -/
  | pword (h : Fin 32) (u : Upset)
  /-- TARM (R237): Arms a one-shot timer for IMM16 µs. -/
  | tarm (h : Fin 32) (u : Upset)
  /-- TARMR (R237): Arms a one-shot timer for g[d][23:0] µs. -/
  | tarmr (h : Fin 32) (u : Upset)
  /-- TPER (R237): Arms a periodic timer of IMM16 µs. -/
  | tper (h : Fin 32) (u : Upset)
  /-- TCAN (R237): Cancels a timer and removes its undispatched TIMER event. -/
  | tcan (h : Fin 32) (u : Upset)
  /-- POST (R545): Sends a message record carrying two registers and a code to the owning session. -/
  | post (h : Fin 32) (u : Upset)
  /-- RAISE (R238): Raises Helm source k, k = 2–7. -/
  | raise (h : Fin 32) (u : Upset)
  /-- RAISES (R238): Raises software source k of the owning session. -/
  | raises (h : Fin 32) (u : Upset)
  /-- END (R239): Waits for far stores, commits staged overhead and defects, ends loops and returns to dispatch. -/
  | helmEnd (h : Fin 32) (u : Upset) (w : Fin 65)
  /-- SIGNAL_PRESENT (R286): A slice's signal becomes present by the criteria of Table FE-3. -/
  | signalPresent (i : Fin 24)
  /-- SIGNAL_ABSENT (R286): A slice's signal becomes absent, declaring LOS and OOF and propagating down the chain. -/
  | signalAbsent (i : Fin 24)
  /-- STAGE_COMPLETE (R287): An ACQUIRE stage's completion condition is met and the next stage is entered. -/
  | stageComplete (i : Fin 24) (coeffs : List (List Nat))
  /-- STAGE_TIMER_EXPIRY (R287): A stage timer expires, failing the attempt and restarting or ending E_PARTNER_SILENT. -/
  | stageTimerExpiry (i : Fin 24)
  /-- LOOP_UP_ACTIVATE_END (R297): UP_MS of the activate code ends and the line PRBS check starts. -/
  | loopUpActivateEnd (i : Fin 24)
  /-- LOOP_CONFIRM (R297): 256 consecutive PRBS bits match and the loop is confirmed. -/
  | loopConfirm (i : Fin 24)
  /-- LOOP_DOWN_END (R298): DOWN_MS of the deactivate code ends and PENDING and CONFIRMED clear. -/
  | loopDownEnd (i : Fin 24)
  /-- AUTONEG_COMPLETE (R292): Clause 37 auto-negotiation completes and the HANDSHAKE stage ends. -/
  | autonegComplete (i : Fin 24) (page : BitVec 16)
  /-- REFIN_VALID (R595): REFIN becomes valid after three good periods, transmit changing to it within 10 ms. -/
  | refinValid
  /-- REFIN_INVALID (R595): REFIN becomes invalid after missing or bad periods. -/
  | refinInvalid
  /-- PATTERN_FOUND (R332): The framer finds its pattern at a position and opens a candidate. -/
  | patternFound (i : Fin 24) (pos : Nat) (aux : Bool)
  /-- CANDIDATE_CHECK (R332): A candidate's expected position is checked, confirming it, declaring in-frame or discarding it. -/
  | candidateCheck (i : Fin 24) (pos : Nat) (found aux crc6 : Bool)
  /-- SYNC_CHECK_UNIT (R332): A check unit at the expected position updates the loss window and may declare OOF. -/
  | syncCheckUnit (i : Fin 24) (errored : Bool)
  /-- NFAS_LOSS (R338): With LOSS_NFAS, three NFAS frames with bit 2 = 0 declare OOF. -/
  | nfasLoss (i : Fin 24) (n : Nat)
  /-- CRC4_MFAS_WORD (R339): A CRC-4 multiframe alignment word is found, moving the multiframe toward SYNC. -/
  | crc4MfasWord (i : Fin 24) (frame : Nat)
  /-- CRC4_MF_TIMEOUT (R339): No CRC-4 multiframe within 8 ms returns the basic frame to HUNT with cause 5. -/
  | crc4MfTimeout (i : Fin 24)
  /-- CRC4_FAIL_THRESHOLD (R340): 915 of the last 1000 CRC-4 checks fail and the basic frame hunts again. -/
  | crc4FailThreshold (i : Fin 24) (failed : Nat)
  /-- MFAS_CHECK (R343): An OTU frame's MFAS is checked for multiframe SYNC or OOM. -/
  | mfasCheck (i : Fin 24) (mfas : Fin 256)
  /-- SYNC_HEADER (R346): A 64b/66b sync header is judged valid or invalid, advancing block lock. -/
  | syncHeader (i : Fin 24) (k : Fin 20) (hdr : Fin 4)
  /-- GFP_CORE_HEADER (R347): A GFP core header is tested or checked, moving the entry's delineation state. -/
  | gfpCoreHeader (e : Fin 8192) (octets : BitVec 32)
  /-- LANE_MARKER (R349): A logical lane's marker arrives and updates its lane lock. -/
  | laneMarker (i : Fin 24) (k : Fin 20) (num : Option (Fin 20)) (arrival : Nat)
  /-- GROUP_ALIGN (R351): All 20 lanes are locked, distinct and within 180 ns, and the group aligns. -/
  | groupAlign (i : Fin 24)
  /-- GROUP_OOF (R353): A lane loses lock or a physical lane loses signal and the group declares OOF. -/
  | groupOof (i : Fin 24)
  /-- FRAME_BOUNDARY (R358): A received frame ends, its overhead enters the read bank and FRAME and MFRAME events arise. -/
  | frameBoundary (c : Nat) (f : RxFrame)
  /-- MONITORING_TICK (R360): Every 125 µs in frame an Ethernet FRAME monitoring tick arises. -/
  | monitoringTick (i : Fin 24) (f : RxFrame)
  /-- LOF_TIMER (R371): OOF or in-frame has lasted LOF_MS, declaring or clearing LOF or LOM. -/
  | lofTimer (i : Fin 24)
  /-- SECOND_BOUNDARY (R374): A whole second of device time ends, raising SECOND events and judging DEG. -/
  | secondBoundary (deg : List (Nat × Nat × Nat × Nat))
  /-- EXC_WINDOW (R375): An EXC window of 10^(EXC_X+1) bits ends and is judged. -/
  | excWindow (c layer viol : Nat)
  /-- TRANSMIT_FRAME (R368): A transmit frame starts and its overhead is built from defaults, commits, back-insertions, errors and forces. -/
  | transmitFrame (c : Nat) (own : List (Nat × Nat × Byte))
  /-- CHECKER_SYNC (R385): A pattern checker gains sync after 64 matching bits. -/
  | checkerSync (u : Fin 64)
  /-- CHECKER_SYNC_LOSS (R385): A checker loses sync at 64 errors in 256 bits and reseeds. -/
  | checkerSyncLoss (u : Fin 64) (bits errs : Nat)
  /-- GENERATOR_INSERT (R386): The generator's N-bit count expires and one bit is inverted. -/
  | generatorInsert (u : Fin 64) (words : Nat)
  /-- CHART_FRAME_BOUNDARY (R409): A 125 µs Chart boundary commits swaps and writes, checks parity and evaluates protection. -/
  | chartFrameBoundary (upset : List (Nat × Fin 2))
  /-- TRIBUTARY_FRAME_START (R412): An entry side applies its newly active word at its tributary frame start. -/
  | tributaryFrameStart (e : Fin 8192) (side : Fin 2) (mframe : Bool)
  /-- SWAP_PERIOD_END (R413): A side with no frame start applies its new word at the end of the swap period. -/
  | swapPeriodEnd (e : Fin 8192)
  /-- HOLDOFF_EXPIRY (R429): A criterion held for HOLDOFF becomes an SF or SD request. -/
  | holdoffExpiry (g : Fin 64) (k : Fin 4)
  /-- WTR_EXPIRY (R430): Wait-to-restore runs out and the request becomes NR. -/
  | wtrExpiry (g : Fin 64)
  /-- EXERCISE_END (R445): The 10 s of an EXERCISE request end. -/
  | exerciseEnd (g : Fin 64)
  /-- PROTOCOL_FAILURE_CHANGE (R436): A K-byte protocol failure condition persists 50 ms, or is absent 50 ms, and is set or cleared. -/
  | protocolFailureChange (g : Fin 64) (w : Fin 4)
  /-- METER_TICK (R441): A 1 µs meter tick is judged disturbed or not, opening an event. -/
  | meterTick (g : Fin 64) (past : Fin 8)
  /-- METER_GUARD_EXPIRY (R442): GUARD ms of undisturbed ticks end the open meter event. -/
  | meterGuardExpiry (g : Fin 64)
  /-- PM_SECOND_JUDGEMENT (R453): A PM point classifies the past second and applies availability. -/
  | pmSecondJudgement (p : Fin 2048) (eb feb : Nat)
  /-- INTERVAL_BOUNDARY (R462): A 15-minute or 24-hour boundary rolls the bins of every point. -/
  | intervalBoundary
  /-- BIN_FINAL (R460): 10 s after a boundary the closed bin is final and the PM source is raised. -/
  | binFinal (p : Fin 2048)
  /-- INTERVAL_SHORT_CLOSE (R463): At the next second after a SOAK starts or ends, the current 15-minute interval closes SHORT. -/
  | intervalShortClose (p : Fin 2048)
  /-- CLIENT_FRAME_PUSH (R477): A Chart GFP-F client frame becomes one packet in the destination Chute. -/
  | clientFramePush (e : Fin 8192) (words : List Nat) (fcsOk : Bool)
  /-- GAP_WRITE (R482): After drops, a GAP entry is written ahead of the next accepted packet once room exists. -/
  | gapWrite (c : Fin 64)
  /-- PACKET_VISIBLE (R479): A committed packet crosses the clock domain and becomes visible to the consumer. -/
  | packetVisible (c : Fin 64)
  /-- SPACE_VISIBLE (R479): Space freed by a release becomes visible to producers. -/
  | spaceVisible (c : Fin 64)
  /-- PTR_MISMATCH_RESET (R486): Duplicated Chute pointers differ and the Chute resets with a PTR_RESET GAP. -/
  | ptrMismatchReset (c : Fin 64)
  /-- CAPTURE_TAKE (R500): The capture encoder takes an entry from its Chute and encodes it into the open crate. -/
  | captureTake (n : Fin 16) (tag : Nat) (bad : Bool)
  /-- CRATE_REQUEST (R492): The allocator serves a crate request from reserve or shared pool, or refuses it. -/
  | crateRequest (store : Fin 2)
  /-- CRATE_WAIT_GRANT (R492): A freed crate is granted to a waiting request in rotating order. -/
  | crateWaitGrant (store : Fin 2)
  /-- CRATE_FLUSH_TIMER (R497): P6 seconds after T_OPEN the open crate closes. -/
  | crateFlushTimer (n : Fin 16) (tag : Nat)
  /-- CRATE_WRITE (R498): A closed crate is written to its host slot when a slot is free. -/
  | crateWrite (n : Fin 16) (tag : Nat) (bad : Bool)
  /-- CRATE_SCRUB_DONE (R493): A freed shared crate finishes its scrub and rejoins the shared pool. -/
  | crateScrubDone (store : Fin 2)
  /-- MATRIX_STALL (R528): A request waits at a master port longer than MX_STALL, a device-fatal error. -/
  | matrixStall (m : Fin 16)
  /-- SOURCE_FIRE (R534): A doorbell word names a Beacon source, which goes pending and merges firings. -/
  | sourceFire (k : Fin 1024) (cause : Byte) (data : Word)
  /-- SOURCE_TAKE (R536): A pending source is taken by its route's target, writing its event record. -/
  | sourceTake (k : Fin 1024)
  /-- STEWARD_PRESENT (R542): The Beacon presents the highest-priority pending source to a Steward, which vectors to it. -/
  | stewardPresent (w : Fin 2) (lost : Bool)
  /-- WAKE_LATCH_SET (R550): A K-die source fires while the Beacon is stopped and its wake latch records it. -/
  | wakeLatchSet (k : Fin 18) (cause : Byte) (data : Word)
  /-- LATCH_REPLAY (R551): After the rebase on wake, each set latch is fired in ascending order and cleared. -/
  | latchReplay
  /-- FEED_VALID (R553): A feed stays in its window for 10 ms and becomes valid. The feed: 0 LINE, 1 DOCK, 2 PACK. -/
  | feedValid (f : Fin 3)
  /-- FEED_INVALID (R553): A feed passes a window edge and becomes invalid, starting a changeover if needed. -/
  | feedInvalid (f : Fin 3)
  /-- DEAD_TIME_END (R559): The 20 µs dead time ends and the new path's gate is driven. -/
  | deadTimeEnd
  /-- POWER_FAILURE (R555): SYS stays below 4.0 V for 5 µs and the device goes to Off. -/
  | powerFailure
  /-- PACK_LOW_CHANGE (R562): PACK crosses its low-warning threshold and PACK_LOW is set or cleared. PACK reads mv millivolts. -/
  | packLowChange (mv : Fin 65536)
  /-- CUTOFF_ENTRY (R563): PACK stays below CUTOFF for 5 ms and cutoff acts according to the device state. -/
  | cutoffEntry
  /-- PACK_GRACE_EXPIRY (R563): PACK_GRACE after cutoff expires and bays, E-die and Cellar power go off. -/
  | packGraceExpiry
  /-- CUTOFF_EXIT (R564): Another feed becomes valid or PACK recovers, ending cutoff. -/
  | cutoffExit
  /-- PACK_DISCONNECT (R565): PACK below 5.6 V with no other feed disconnects the K-die and goes Off. -/
  | packDisconnect
  /-- POE_DETECTION (R566): The PSE performs detection on the PD front end. -/
  | poeDetection
  /-- POE_CLASSIFICATION (R567): A classification event is counted toward the granted PD power. -/
  | poeClassification
  /-- POE_POWER_APPLIED (R567): The PSE applies power and the granted power is recorded. -/
  | poePowerApplied
  /-- POE_POWER_REMOVED (R570): The PSE removes power and LINE counts 0 mW at once. -/
  | poePowerRemoved
  /-- ALLOWANCE_RECOMPUTE (R573): The K-die recomputes the power allowance and reports it across the Tether. -/
  | allowanceRecompute
  /-- BAY_SHED (R575): Available power stays short for 100 ms and the highest SHED bay goes to DENIED. -/
  | bayShed
  /-- OVERDRAW_CHECK (R576): Every 100 ms measured input power is compared with available power. -/
  | overdrawCheck
  /-- HEAD_SEATED (R579): Both seat pins go low in SEATED mode, starting the debounce. -/
  | headSeated (b : Fin 4)
  /-- HEAD_UNSEATED (R579): A seat pin goes high and the bay goes EMPTY with the e-fuse off. The pin that goes high: SEAT_B, else SEAT_A. -/
  | headUnseated (b : Fin 4) (pinB : Bool)
  /-- SEAT_DEBOUNCE_END (R579): The 5 ms debounce or WINDOW insertion delay ends and the bay starts or is DENIED. -/
  | seatDebounceEnd (b : Fin 4)
  /-- BAY_OUT_OF_WINDOW (R579): BAY_VIN leaves its window and the bay returns to SEATING. -/
  | bayOutOfWindow
  /-- POWER_GOOD (R579): VOUT reaches power good after soft start and the bay is ON. -/
  | powerGood (b : Fin 4)
  /-- SHORT_START (R580): VOUT is below 0.33 V at twice the ramp time and the e-fuse trips. -/
  | shortStart (b : Fin 4)
  /-- FAST_TRIP (R580): Bay current exceeds 6.0 A and the e-fuse is off within 1 µs. -/
  | fastTrip (b : Fin 4)
  /-- OVERCURRENT (R580): Current is held at ILIM for ILIM_TIME and the e-fuse trips. -/
  | overcurrent (b : Fin 4)
  /-- PG_LOST (R580): Power good is lost for 1 ms in ON and the e-fuse trips. -/
  | pgLost (b : Fin 4)
  /-- RETRY_EXPIRY (R582): The bay's retry wait ends and it restarts as from SEATING's completion. -/
  | retryExpiry (b : Fin 4)
  /-- FAULT_COUNT_RESET (R582): A bay ON for 10 s without a break returns its fault count to 0. -/
  | faultCountReset (b : Fin 4)
  /-- HEAD_IDENT (R586): Unlon identifies the head in an ON bay and records BY_HEAD. What addresses 0x50 and 0x57 answer, and the maximum power a module declares. -/
  | headIdent (b : Fin 4) (m50 m57 : Option (List Byte)) (decl : Fin 65536)
  /-- HEAD_IDENT_RETRY (R586): A silent module is retried every 100 ms for up to 2 000 ms. -/
  | headIdentRetry (b : Fin 4) (m50 m57 : Option (List Byte)) (decl : Fin 65536)
  /-- HEAD_INT_CHANGE (R589): HEAD_INT_b changes and fires its HEAD source. -/
  | headIntChange (b : Fin 4) (on : Bool)
  /-- HEAD_LOS_CHANGE (R589): HEAD_LOS_b changes, acting as receive loss and firing its HEAD source. -/
  | headLosChange (b : Fin 4) (on : Bool)
  /-- ADC_SCAN (R312): Every 250 µs the Sounding ADC converts its 16 channels and checks limits. The raw conversions of the 16 channels. -/
  | adcScan (raw : List (Fin 4096))
  /-- KEEPER_CHOICE (R609): The Keeper chooses each domain's power state on an input change or each 1 ms. -/
  | keeperChoice
  /-- DOMAIN_WAKE_START (R610): Ahead of a known event the Keeper starts a domain's wake. -/
  | domainWakeStart (d : Fin 9)
  /-- UNKNOWN_EVENT_WAKE (R610): A doorbell, inbound access or edge brings its domain back to Run. -/
  | unknownEventWake (d : Fin 8)
  /-- STOW_ENTRY (R613): The Keeper finds Stow allowed and asks Unlon to stop admission and write the Attic. -/
  | stowEntry
  /-- STOW_COMMIT (R615): The K-die records times and drops the E-die rail enables, committing Stow. -/
  | stowCommit (pps : Nat)
  /-- STOW_ABORT (R615): A wake cause before the commit abandons Stow entry and rolls back. -/
  | stowAbort
  /-- MOOR_ENTRY (R614): The Keeper chooses Moor, removing Cellar power. -/
  | moorEntry
  /-- WAKE_FROM_STOW (R616): A wake cause in Stow raises the rails, restores from the Attic and reaches Run within 6 ms. -/
  | wakeFromStow (imageOk codeOk : Bool)
  /-- WAKE_FROM_MOOR (R616): A wake cause in Moor restores the E-die and retrains the Cellar within 25 ms. -/
  | wakeFromMoor (imageOk codeOk : Bool) (gib : Fin 5) (ecc : Bool) (rate : Fin 4)
  /-- PPS_REFINEMENT (R598): The first 1PPS edge after a wake refines device time to ±125 ps. -/
  | ppsRefinement
  /-- REBASE_SLEW_END (R599): A backward correction applied by slowed device time is used up. -/
  | rebaseSlewEnd
  /-- COMPASS_LOOP (R618): Every 100 µs Compass reads monitor margins and adjusts VDD_CORE. -/
  | compassLoop (margins : List (Fin 16))
  /-- MARGIN_ZERO (R618): A monitor margin of 0 raises VDD_CORE by 25 mV within 5 µs. -/
  | marginZero
  /-- SYSPLL_LEVEL_CHANGE (R620): Compass changes the SYSPLL level after setting or before lowering the voltage. -/
  | syspllLevelChange
  /-- THROTTLE_STEP (R621): With the junction at 100 °C or below 95 °C for 10 ms, Compass moves one level every 1 ms. -/
  | throttleStep
  /-- AVSBUS_TIMEOUT (R622): An AVSBus write is not acknowledged within 10 µs and is retried or fails. -/
  | avsbusTimeout
  /-- AVSBUS_RETRY (R622): After AVSBus failure Compass retries every 10 ms. -/
  | avsbusRetry (ack : Bool)
  /-- THERMAL_SHUTDOWN (R623): A die reaches 115 °C and bays and E-die are turned off. -/
  | thermalShutdown (t : BitVec 16)
  /-- THERMAL_RECOVERY (R623): Both dies have been below 95 °C for 1 s and the E-die may start again. -/
  | thermalRecovery
  /-- POR_K (R624): The first valid feed after Off or KRST_N held low resets everything. -/
  | porK (f : Option (Fin 3))
  /-- COLD_BOOT (R634): The boot ROM reads and verifies the Unlon slots and starts Unlon. -/
  | coldBoot (a b : Option (Fin 4)) (verA verB : Word)
  /-- UNLON_READY (R634): Unlon reports ready and GL_BOOT.READY reads 1. -/
  | unlonReady (copyOk : Bool) (gib : Fin 5) (ecc : Bool) (rate : Fin 4)
  /-- RAIL_CHECK_FAIL (R714): RAIL_PG or the core voltage check fails at power-up and the rails drop. -/
  | railCheckFail
  /-- RAIL_RETRY (R714): 100 ms after a failed rail check the power-up starts again. -/
  | railRetry
  /-- BACKGROUND_PAGE_SCRUB (R632): After a warm reset or Moor a held page finishes its background scrub and becomes grantable. -/
  | backgroundPageScrub (page : BitVec 28)
  /-- TETHER_RESEND (R640): A Tether transfer is unacknowledged for 0.8 µs and is sent again. -/
  | tetherResend (k : Fin 4)
  /-- TETHER_HEARTBEAT_MISS (R640): No heartbeat arrives for 50 µs and the Tether is lost. -/
  | tetherHeartbeatMiss
  /-- TETHER_RETRAIN (R642): Every 1 ms the E-die retrains a lost Tether, restoring state on success. -/
  | tetherRetrain (ok : Bool)
  /-- TETHER_FATAL (R642): The Tether is not restored within 100 ms, a device-fatal error. -/
  | tetherFatal
  /-- WARM_TETHER_TIMEOUT (R643): The Tether is not up 10 ms after a warm reset and the E-die goes to FAULT_HOLD. -/
  | warmTetherTimeout
  /-- LOGBOOK_DUMP (R671): A device-fatal cause stops all work and Unlon writes the Logbook, then FAULT_HOLD. -/
  | logbookDump (own : Option (Fin 2 ⊕ Word))
  /-- DUMP_TIMEOUT (R673): A dump not complete at 30 ms is ended by a hardware timer. -/
  | dumpTimeout (k : Fin 18)
  /-- FAULT_HOLD_AUTO_RESET (R684): AUTO_S seconds in FAULT_HOLD cause a warm reset. -/
  | faultHoldAutoReset
  /-- LOCKSTEP_MISMATCH (R660): A Steward comparator detects a mismatch, a device-fatal error. -/
  | lockstepMismatch (w : Fin 2) (consec : Bool) (lane : Word)
  /-- COMPARATOR_INJECTION (R662): Every 1 ms a known difference is injected to check each comparator. -/
  | comparatorInjection (w : Fin 2) (flagged real : Bool)
  /-- PATROL_PASS (R656): A periodic patrol pass reads and corrects the Larder or Cellar. -/
  | patrolPass (cellar : Bool) (found : List (Nat × Bool))
  /-- BACKGROUND_MBIST (R657): Every MBIST_S seconds an EMPTY Helm is tested in background. -/
  | backgroundMbist (failed : Bool)
  /-- BACKGROUND_CHART_CHECK (R658): Every 1 s inactive and spare Chart words are read and checked. -/
  | backgroundChartCheck (words spares : List (Nat × Nat))
  /-- STEWARD_EOI (R537): Unlon writes the end-of-interrupt for a source a Steward took, returning it to inactive or to pending. -/
  | stewardEoi (w : Fin 2) (k : Fin 1024)
  /-- HOST_READ_COMPLETION (R205): The completion data of a host-memory read for operation data arrives. -/
  | hostReadCompletion (tag : Fin 64) (data : List Byte)
  /-- BAR2_WRITE (R97): A host write through PF0 BAR2 writes the Larder or the Cellar aperture, or is ignored for scrubbing or absent pages. -/
  | bar2Write (off : Fin 16777216) (data : List Byte)
  /-- LINK_UP (R123): PCIe link training completes and the link reaches L0, so staged records may be written. -/
  | linkUp (speed : Fin 4) (x2 aspm : Bool)
  /-- D_STATE_WRITE (R119): The host writes PF0's PowerState, moving it between D0 and D3hot. -/
  | dStateWrite (d3 pme : Bool)
  /-- VF_ENABLE_SET (R95): The host sets VF Enable with NumVFs, enabling VFs so that SESSION_OPEN can succeed. -/
  | vfEnableSet (numVFs : Fin 16) (ari : Bool)
  /-- CODE_GROUP (R345): A 1000BASE-X code-group is received and run through the Clause 36 synchronization process. -/
  | codeGroup (i : Fin 24) (cg : Fin 4)
  /-- CSF_GFP_TIMEOUT (R370): No client management frame arrives for three times its 100 ms period and CSF-GFP clears. -/
  | csfGfpTimeout (e : Fin 8192)
  /-- RESERVED_ENCODING (R212): A Helm fetches a word with a reserved opcode or combination, or a non-zero reserved field, and faults ILLEGAL. -/
  | reservedEncoding (h : Fin 32) (u : Upset)
  /-- KP_UNKNOWN_COMMAND (R128): A keeper-port frame with an unknown CMD is answered with STATUS BAD and nothing is done. -/
  | kpUnknownCommand (cmd crc : Byte)
  deriving DecidableEq, Repr

end Sys2Proof
end

