-- ==== Sys2Proof/Config.lean ====
section
/-! DEFINITION. What the spec leaves open: values no rule states. Nothing in Lean can evaluate them, so a statement about
the machine holds whatever they are. -/

namespace Sys2Proof

/-- The stream of free values: the `n`-th value the spec leaves open in a run. `State.freeCtr` counts them. -/
opaque Config.free : Nat → Nat

/-- Budget rates that Table PRG-4 does not fix: of a PDH client whose framing its mapping leaves open (2 x MAP, + 1 for
MFRAME), and of a slice with no format in use (512 + 2 x layer, + 1 for MFRAME). -/
opaque Config.openRate : Nat → Nat

/-- The code words of a stock image, by stock ID (R267 gives its ports, floor and figures, not its code). -/
opaque Config.stockCode : Nat → List Word

/-- The initial data segment of a stock image, by stock ID. -/
opaque Config.stockData : Nat → List Byte

/-- The entry of a stock image's FRAME, MFRAME and SECOND handlers, by 16 x stock ID + kind. -/
opaque Config.stockEntry : Nat → Nat

/-- The handlers of a stock image for other kinds of event: kind, port mask, entry, declared worst case. -/
opaque Config.stockExtra : Nat → List (Nat × Nat × Nat × Nat)

/-- The timing port of a stock image. -/
opaque Config.stockTiming : Nat → Nat

end Sys2Proof
end

