-- ==== Sys2Proof/Machine/Regs.lean ====
section
/-! DEFINITION. The register fields of the spec's register tables (Register index, Tables REG-3 to REG-8, and each
field's home table): where a field lies, its width, access code (Table SCO-5), Reset value (R17) and Survives codes
(Table SCO-6). One constant per field; the values themselves live in `State.regs`. -/

namespace Sys2Proof.Machine

/-- Access codes of Table SCO-5 (R15). -/
inductive Access where
  | rw | ro | w1c | w1s | wo | rc | rwl
  deriving DecidableEq, Repr

/-- The register blocks of the address map (chapter 23). A block's instances are numbered as the spec numbers
them: slices 0-7 are HS0-HS7 and 8-23 are LP0-LP15 (R531); `ses n` is Sn's session control (VF BAR 0), `sesPf n`
the PF0 words of Sn (R92). -/
inductive Region where
  | glob | sesPf | ses | slice | sliceHS | sliceLP | helm | entry | pu | chute | pool | point | group | kdie
  deriving DecidableEq, Repr

/-- A number of its own for each block, for the key of a field. HS-only and LP-only slice registers share the
slice's block. -/
def Region.code : Region → Nat
  | .glob => 0 | .sesPf => 1 | .ses => 2 | .slice => 3 | .sliceHS => 3 | .sliceLP => 3 | .helm => 4 | .entry => 5
  | .pu => 6 | .chute => 7 | .pool => 8 | .point => 9 | .group => 10 | .kdie => 11

/-- How many instances a block has. -/
def Region.count : Region → Nat
  | .glob => 1 | .sesPf => 16 | .ses => 16 | .slice => 24 | .sliceHS => 24 | .sliceLP => 24 | .helm => 32
  | .entry => 8192 | .pu => 64 | .chute => 64 | .pool => 16 | .point => 2048 | .group => 64 | .kdie => 1

/-- One register field: block, byte offset of its register, number and stride of the register's copies inside the
block, least bit, width, access, Reset value, Survives mask (`sv` below; `svFixed` for a constant). -/
structure Fld where
  region : Region
  off    : Nat
  copies : Nat
  stride : Nat
  lsb    : Nat
  width  : Nat
  acc    : Access
  reset  : Nat
  surv   : Nat
  deriving DecidableEq, Repr

/-- The key of copy `j` of the field in instance `i` of its block. No two fields share a key (R685). -/
def Fld.key (f : Fld) (i j : Nat) : Nat :=
  ((f.region.code * 8192 + i) * 0x1000000 + (f.off + f.stride * j)) * 64 + f.lsb

namespace Reg

/-- Table SCO-9 (00_scope.md): Part number. -/
def GL_ID_PART : Fld := ⟨.glob, 0x0, 1, 0, 16, 16, .ro, 0x7260, 511⟩
/-- Table SCO-9 (00_scope.md): Major revision: 0x0A is A, 0x0B is B. -/
def GL_ID_REV_MAJOR : Fld := ⟨.glob, 0x0, 1, 0, 8, 8, .ro, 0xB, 511⟩
/-- Table SCO-9 (00_scope.md): Minor revision. -/
def GL_ID_REV_MINOR : Fld := ⟨.glob, 0x0, 1, 0, 0, 8, .ro, 0x0, 511⟩
/-- Table ARC-5 (01_architecture.md): Number of high-speed slices. -/
def GL_CAPS_NUM_HS : Fld := ⟨.glob, 0x4, 1, 0, 0, 4, .ro, 0x8, 511⟩
/-- Table ARC-5 (01_architecture.md): Number of low-speed slices. -/
def GL_CAPS_NUM_LP : Fld := ⟨.glob, 0x4, 1, 0, 4, 5, .ro, 0x10, 511⟩
/-- Table ARC-5 (01_architecture.md): Number of Helms. -/
def GL_CAPS_NUM_HELM : Fld := ⟨.glob, 0x4, 1, 0, 9, 6, .ro, 0x20, 511⟩
/-- Table ARC-5 (01_architecture.md): Number of Steward lockstep pairs. -/
def GL_CAPS_NUM_STEWARD : Fld := ⟨.glob, 0x4, 1, 0, 15, 2, .ro, 0x2, 511⟩
/-- Table ARC-6 (01_architecture.md): Larder size in MiB. -/
def GL_MEM_LARDER_MIB : Fld := ⟨.glob, 0x8, 1, 0, 0, 4, .ro, 0x8, 511⟩
/-- Table ARC-6 (01_architecture.md): Cellar size in GiB detected by Unlon at boot: 0 is no Cellar, 1–4 is the size. -/
def GL_MEM_CELLAR_GIB : Fld := ⟨.glob, 0x8, 1, 0, 4, 4, .ro, 0x0, 111⟩
/-- Table ARC-6 (01_architecture.md): 1: inline ECC is enabled on the Cellar. -/
def GL_MEM_CELLAR_ECC : Fld := ⟨.glob, 0x8, 1, 0, 8, 1, .ro, 0x0, 111⟩
/-- Table SES-9 (02_sessions.md): 0 CLOSED, 1 KEYLESS, 2 OPEN, 3 RESETTING, 4 CLOSING. -/
def SES_CTL_STATE : Fld := ⟨.sesPf, 0x0, 1, 0, 0, 3, .ro, 0x0, 231⟩
/-- Table SES-9 (02_sessions.md): Operation quota, set by GRANT. -/
def SES_CTL_QUOTA : Fld := ⟨.sesPf, 0x0, 1, 0, 3, 10, .ro, 0x40, 231⟩
/-- Table SES-9 (02_sessions.md): Map cache share, set by GRANT. -/
def SES_CTL_MAPC_SHARE : Fld := ⟨.sesPf, 0x0, 1, 0, 13, 6, .ro, 0x4, 231⟩
/-- Table SES-9 (02_sessions.md): 1: session reset of Sn; ignored for n = 0. -/
def SES_CTL_SESSION_RESET : Fld := ⟨.sesPf, 0x0, 1, 0, 19, 1, .wo, 0x0, 0⟩
/-- Table SES-10 (02_sessions.md): Power reserve in mW, set by GRANT; reads 0 for n = 0. -/
def SES_POWER_RESERVE_MW : Fld := ⟨.sesPf, 0x4, 1, 0, 0, 16, .ro, 0x0, 231⟩
/-- Table SES-10 (02_sessions.md): Estimates of admitted operations charged now, mW. -/
def SES_POWER_CHARGED_MW : Fld := ⟨.sesPf, 0x4, 1, 0, 16, 16, .ro, 0x0, 225⟩
/-- Table SES-11 (02_sessions.md): DPA[39:13] of the level-1 table. -/
def SES_MAP_BASE : Fld := ⟨.sesPf, 0x8, 1, 0, 13, 27, .rw, 0x0, 231⟩
/-- Table SES-12 (02_sessions.md): DPA[39:13] of the first byte (BASE) or last byte (LIMIT). -/
def SES_WALK_ADDR : Fld := ⟨.sesPf, 0x10, 1, 0, 13, 27, .rw, 0x0, 231⟩
/-- Table SES-12 (02_sessions.md): DPA[39:13] of the first byte (BASE) or last byte (LIMIT). -/
def SES_WALK_LIM_ADDR : Fld := ⟨.sesPf, 0x18, 1, 0, 13, 27, .rw, 0x0, 231⟩
/-- Table SES-13 (02_sessions.md): Session whose entries are invalidated. -/
def SES_MAPC_INV_SESSION : Fld := ⟨.glob, 0x1F00, 1, 0, 0, 4, .rw, 0x0, 0⟩
/-- Table SES-13 (02_sessions.md): 1: all of the session's entries, pinned ones included; 0: the entry covering PAGE only. -/
def SES_MAPC_INV_ALL : Fld := ⟨.glob, 0x1F00, 1, 0, 4, 1, .rw, 0x0, 0⟩
/-- Table SES-13 (02_sessions.md): SWA[31:12] to invalidate when ALL = 0. -/
def SES_MAPC_INV_PAGE : Fld := ⟨.glob, 0x1F00, 1, 0, 5, 20, .rw, 0x0, 0⟩
/-- Table SES-13 (02_sessions.md): Write 1 to start; reads 1 until the invalidation completes (R84). -/
def SES_MAPC_INV_BUSY : Fld := ⟨.glob, 0x1F00, 1, 0, 31, 1, .w1s, 0x0, 0⟩
/-- Table SES-14 (02_sessions.md): Bit n: a release of Sn is being scrubbed. -/
def SES_SCRUB_STAT_PENDING : Fld := ⟨.glob, 0x1F04, 1, 0, 0, 16, .ro, 0x0, 0⟩
/-- Table SES-14 (02_sessions.md): Bit per engine busy, from bit 16: Larder, Cellar, Helm, Chute, map cache. -/
def SES_SCRUB_STAT_ENGINES : Fld := ⟨.glob, 0x1F04, 1, 0, 16, 5, .ro, 0x0, 0⟩
/-- Table SES-15 (02_sessions.md): Operations in flight. -/
def SES_WORD_IN_FLIGHT : Fld := ⟨.ses, 0x0, 1, 0, 13, 10, .ro, 0x0, 225⟩
/-- Table SES-15 (02_sessions.md): Key words (R86, R87). -/
def SES_KEY_KEY : Fld := ⟨.ses, 0x20, 8, 4, 0, 32, .wo, 0x0, 231⟩
/-- Table SES-15 (02_sessions.md): 1: commit the key. -/
def SES_KEYC_COMMIT : Fld := ⟨.ses, 0x40, 1, 0, 0, 1, .wo, 0x0, 0⟩
/-- Table SES-15 (02_sessions.md): 1: key committed. -/
def SES_KEYC_KEY_SET : Fld := ⟨.ses, 0x40, 1, 0, 1, 1, .ro, 0x0, 231⟩
/-- Table SES-15 (02_sessions.md): Violations since last read; saturates at 0xFFFF. -/
def SES_VIOL_VIOL_COUNT : Fld := ⟨.ses, 0x44, 1, 0, 0, 16, .rc, 0x0, 225⟩
/-- Table SES-15 (02_sessions.md): Owned-resource window offset[19:4] of the latest violation. -/
def SES_VIOL_VIOL_OFFSET : Fld := ⟨.ses, 0x44, 1, 0, 16, 16, .ro, 0x0, 225⟩
/-- Table SES-15 (02_sessions.md): 0 none, 1 WALK_OUTSIDE, 2 WALK_ECC, 3 MAP_UNMAPPED, 4 WALK_DEVICE, 5 MAP_READONLY. -/
def SES_FAULT_FAULT_CAUSE : Fld := ⟨.ses, 0x48, 1, 0, 0, 3, .rc, 0x0, 225⟩
/-- Table SES-15 (02_sessions.md): 0–3 Helm cluster, 4 host DMA, 5 Chute writer, 6 capture. -/
def SES_FAULT_FAULT_MASTER : Fld := ⟨.ses, 0x48, 1, 0, 3, 5, .ro, 0x0, 225⟩
/-- Table SES-15 (02_sessions.md): SWA of the latest faulting access. -/
def SES_FAULTA_FAULT_ADDR : Fld := ⟨.ses, 0x4C, 1, 0, 0, 32, .ro, 0x0, 225⟩
/-- Table HST-9 (03_host_link.md): 1 Gen1, 2 Gen2, 3 Gen3. -/
def GL_LINK_STAT_SPEED : Fld := ⟨.glob, 0x10, 1, 0, 0, 2, .ro, 0x0, 0⟩
/-- Table HST-9 (03_host_link.md): 1 ×1, 2 ×2. -/
def GL_LINK_STAT_WIDTH : Fld := ⟨.glob, 0x10, 1, 0, 2, 2, .ro, 0x0, 0⟩
/-- Table HST-9 (03_host_link.md): 0 down, 1 L0, 2 L1, 3 L1.2, 4 L2/L3 Ready, 5 Recovery. -/
def GL_LINK_STAT_LINK : Fld := ⟨.glob, 0x10, 1, 0, 4, 3, .ro, 0x0, 0⟩
/-- Table HST-9 (03_host_link.md): 1: PERST_N asserted. -/
def GL_LINK_STAT_PERST : Fld := ⟨.glob, 0x10, 1, 0, 7, 1, .ro, 0x0, 0⟩
/-- Table HST-9 (03_host_link.md): Tags in use or quarantined, 0–64. -/
def GL_LINK_STAT_TAGS_BUSY : Fld := ⟨.glob, 0x10, 1, 0, 8, 7, .ro, 0x0, 0⟩
/-- Table HST-10 (03_host_link.md): Cellar offset of the aperture in 8 MiB units, 0–511. -/
def GL_BAR2_APERTURE_BASE : Fld := ⟨.glob, 0x14, 1, 0, 0, 9, .rw, 0x0, 103⟩
/-- Table HST-11 (03_host_link.md): Loss time in 10 ms units, 10–500. Values below 10 act as 10. -/
def GL_HOST_CTL_STALL : Fld := ⟨.glob, 0x18, 1, 0, 0, 9, .rw, 0x32, 103⟩
/-- Table HST-11 (03_host_link.md): Idle time before L1 request, µs, 1–1023. 0 acts as 1. -/
def GL_HOST_CTL_L1_IDLE : Fld := ⟨.glob, 0x18, 1, 0, 9, 10, .rw, 0x14, 103⟩
/-- Table HST-11 (03_host_link.md): Reported latency tolerance, µs. -/
def GL_HOST_CTL_LTR_US : Fld := ⟨.glob, 0x18, 1, 0, 19, 10, .rw, 0x64, 103⟩
/-- Table HST-12 (03_host_link.md): Completion timeouts, saturating. -/
def GL_HOST_ERR_CTO : Fld := ⟨.glob, 0x1C, 1, 0, 0, 8, .rc, 0x0, 99⟩
/-- Table HST-12 (03_host_link.md): UR, CA and poisoned completions, saturating. -/
def GL_HOST_ERR_BADCPL : Fld := ⟨.glob, 0x1C, 1, 0, 8, 8, .rc, 0x0, 99⟩
/-- Table HST-12 (03_host_link.md): Unexpected completions discarded, saturating. -/
def GL_HOST_ERR_UNEXP : Fld := ⟨.glob, 0x1C, 1, 0, 16, 8, .rc, 0x0, 99⟩
/-- Table HST-13 (03_host_link.md): Same value as GL_ID. -/
def KP_ID_ID : Fld := ⟨.kdie, 0x0, 1, 0, 0, 32, .ro, 0x72600B00, 511⟩
/-- Table HST-14 (03_host_link.md): Requests failing CRC, saturating. -/
def KP_PORT_STAT_CRC_ERR : Fld := ⟨.kdie, 0x40, 1, 0, 0, 8, .rc, 0x0, 239⟩
/-- Table HST-14 (03_host_link.md): Requests cut short by KP_CS_N, saturating. -/
def KP_PORT_STAT_ABORT : Fld := ⟨.kdie, 0x40, 1, 0, 8, 8, .rc, 0x0, 239⟩
/-- Table OPS-11 (04_operations.md): Host address[63:12] of ring q. -/
def SQ_BASE_ADDR : Fld := ⟨.ses, 0x100, 4, 16, 12, 52, .rw, 0x0, 225⟩
/-- Table OPS-11 (04_operations.md): SQ_CFG(q): 4–12; 0–3 act as 4, 13–15 act as 12. -/
def SQ_CFG_LOG2_SIZE : Fld := ⟨.ses, 0x108, 4, 16, 0, 4, .rw, 0x4, 225⟩
/-- Table OPS-11 (04_operations.md): 1: ring enabled (R133). -/
def SQ_CFG_EN : Fld := ⟨.ses, 0x108, 4, 16, 4, 1, .rw, 0x0, 225⟩
/-- Table OPS-11 (04_operations.md): SQ_STAT(q): next record to fetch. -/
def SQ_STAT_HEAD : Fld := ⟨.ses, 0x10C, 4, 16, 0, 12, .ro, 0x0, 225⟩
/-- Table OPS-11 (04_operations.md): Last tail written by doorbell. -/
def SQ_STAT_TAIL : Fld := ⟨.ses, 0x10C, 4, 16, 12, 12, .ro, 0x0, 225⟩
/-- Table OPS-11 (04_operations.md): Ignored doorbell and configuration writes, saturating. -/
def SQ_STAT_RING_ERR : Fld := ⟨.ses, 0x10C, 4, 16, 24, 8, .rc, 0x0, 225⟩
/-- Table OPS-11 (04_operations.md): Host address[63:12] of the completion ring. -/
def CQ_BASE_ADDR : Fld := ⟨.ses, 0x140, 1, 0, 12, 52, .rw, 0x0, 225⟩
/-- Table OPS-11 (04_operations.md): CQ_CFG, as SQ_CFG (R134). -/
def CQ_CFG_LOG2_SIZE : Fld := ⟨.ses, 0x148, 1, 0, 0, 4, .rw, 0x4, 225⟩
/-- Table OPS-11 (04_operations.md): 1: ring enabled. -/
def CQ_CFG_EN : Fld := ⟨.ses, 0x148, 1, 0, 4, 1, .rw, 0x0, 225⟩
/-- Table OPS-11 (04_operations.md): CQ_STAT: next record to write. -/
def CQ_STAT_TAIL : Fld := ⟨.ses, 0x14C, 1, 0, 0, 12, .ro, 0x0, 225⟩
/-- Table OPS-11 (04_operations.md): Current phase. -/
def CQ_STAT_PHASE : Fld := ⟨.ses, 0x14C, 1, 0, 12, 1, .ro, 0x1, 225⟩
/-- Table OPS-11 (04_operations.md): Slots reserved by operations in flight. -/
def CQ_STAT_RESERVED_SLOTS : Fld := ⟨.ses, 0x14C, 1, 0, 13, 13, .ro, 0x0, 225⟩
/-- Table OPS-11 (04_operations.md): 1: fetching held for want of a slot (R148). -/
def CQ_STAT_HELD : Fld := ⟨.ses, 0x14C, 1, 0, 26, 1, .ro, 0x0, 225⟩
/-- Table OPS-11 (04_operations.md): Submission doorbell (R135). -/
def SQ_DB_SQ_TAIL : Fld := ⟨.ses, 0x10000, 4, 4096, 0, 12, .wo, 0x0, 0⟩
/-- Table OPS-11 (04_operations.md): Completion doorbell (R136). -/
def CQ_DB_CQ_HEAD : Fld := ⟨.ses, 0x14000, 1, 0, 0, 12, .wo, 0x0, 0⟩
/-- Table MSM-12 (05_maelsil_machine.md): Program state, encoded as in Binding programs and the frame budget › Program states. -/
def HM_STAT_PSTATE : Fld := ⟨.helm, 0x0, 1, 0, 0, 3, .ro, 0x0, 33⟩
/-- Table MSM-12 (05_maelsil_machine.md): pc of the running or last handler. -/
def HM_STAT_PC : Fld := ⟨.helm, 0x0, 1, 0, 3, 12, .ro, 0x0, 33⟩
/-- Table MSM-12 (05_maelsil_machine.md): Kind of the running or last event. -/
def HM_STAT_KIND : Fld := ⟨.helm, 0x0, 1, 0, 15, 4, .ro, 0x0, 33⟩
/-- Table MSM-12 (05_maelsil_machine.md): Ignored instruction-memory writes, saturating. -/
def HM_STAT_WR_IGN : Fld := ⟨.helm, 0x0, 1, 0, 19, 8, .rc, 0x0, 33⟩
/-- Table MSM-13 (05_maelsil_machine.md): Table MSM-6, for the latest fault. -/
def HM_FAULT_CAUSE : Fld := ⟨.helm, 0x4, 1, 0, 0, 4, .ro, 0x0, 33⟩
/-- Table MSM-13 (05_maelsil_machine.md): pc of the faulting instruction. -/
def HM_FAULT_PC : Fld := ⟨.helm, 0x4, 1, 0, 4, 12, .ro, 0x0, 33⟩
/-- Table MSM-13 (05_maelsil_machine.md): Event kind being handled. -/
def HM_FAULT_KIND : Fld := ⟨.helm, 0x4, 1, 0, 16, 4, .ro, 0x0, 33⟩
/-- Table MSM-14 (05_maelsil_machine.md): Events queued, 0–32. -/
def HM_EVQ_DEPTH : Fld := ⟨.helm, 0x8, 1, 0, 0, 6, .ro, 0x0, 33⟩
/-- Table MSM-14 (05_maelsil_machine.md): Events dropped (R192), saturating. -/
def HM_EVQ_DROP : Fld := ⟨.helm, 0x8, 1, 0, 6, 16, .rc, 0x0, 33⟩
/-- Table MSM-15 (05_maelsil_machine.md): Local-data corrections, saturating. -/
def HM_ECC_CORR : Fld := ⟨.helm, 0xC, 1, 0, 0, 16, .rc, 0x0, 33⟩
/-- Table MSM-16 (05_maelsil_machine.md): Register values as of the latest END or fault. g0 reads 0. -/
def HM_REGS_G : Fld := ⟨.helm, 0x40, 16, 4, 0, 32, .ro, 0x0, 33⟩
/-- Table PRG-8 (07_programs.md): Load of the bound program, 0.01 % units (R252); 0 when not bound. -/
def HM_BUDGET_LOAD : Fld := ⟨.helm, 0x10, 1, 0, 0, 14, .ro, 0x0, 33⟩
/-- Table PRG-8 (07_programs.md): Floor of the image held: 0 200 MHz, 1 400 MHz, 2 600 MHz, 3 800 MHz. -/
def HM_BUDGET_FLOOR : Fld := ⟨.helm, 0x10, 1, 0, 14, 2, .ro, 0x0, 33⟩
/-- Table PRG-9 (07_programs.md): Most cycles taken by handler table entry i since BIND or the last read, dispatch included. -/
def HM_PEAK_PEAK : Fld := ⟨.helm, 0x80, 16, 4, 0, 17, .rc, 0x0, 33⟩
/-- Table PRG-10 (07_programs.md): Highest floor in force (R258), coded as HM_BUDGET.FLOOR; 0 also when none. -/
def GL_FLOOR_REQUIRED : Fld := ⟨.glob, 0x30, 1, 0, 0, 2, .ro, 0x0, 39⟩
/-- Table PRG-10 (07_programs.md): Current SYSPLL level, same coding. -/
def GL_FLOOR_LEVEL : Fld := ⟨.glob, 0x30, 1, 0, 2, 2, .ro, 0x0, 39⟩
/-- Table PRG-10 (07_programs.md): 1: Compass is throttling (R259). -/
def GL_FLOOR_THROTTLE : Fld := ⟨.glob, 0x30, 1, 0, 4, 1, .ro, 0x0, 39⟩
/-- Table FE-9 (08_front_ends.md): 0 IDLE, 1 ACQUIRING, 2 ACQUIRED, 3 bonded member. -/
def LINE_STAT_LSTATE : Fld := ⟨.slice, 0x0, 1, 0, 0, 2, .ro, 0x0, 32⟩
/-- Table FE-9 (08_front_ends.md): Current stage, or the stage of the last end, 1–6. -/
def LINE_STAT_STAGE : Fld := ⟨.slice, 0x0, 1, 0, 2, 3, .ro, 0x0, 32⟩
/-- Table FE-9 (08_front_ends.md): Format code in use, 0 when IDLE. -/
def LINE_STAT_FORMAT : Fld := ⟨.slice, 0x0, 1, 0, 5, 7, .ro, 0x0, 32⟩
/-- Table FE-9 (08_front_ends.md): Signal present (R286). -/
def LINE_STAT_SIG : Fld := ⟨.slice, 0x0, 1, 0, 12, 1, .ro, 0x0, 0⟩
/-- Table FE-9 (08_front_ends.md): Clock recovery locked. -/
def LINE_STAT_LOCK : Fld := ⟨.slice, 0x0, 1, 0, 13, 1, .ro, 0x0, 0⟩
/-- Table FE-9 (08_front_ends.md): Adaptation stage completed in this acquisition. -/
def LINE_STAT_SETTLED : Fld := ⟨.slice, 0x0, 1, 0, 14, 1, .ro, 0x0, 0⟩
/-- Table FE-9 (08_front_ends.md): Transmit side on. -/
def LINE_STAT_TX_ON : Fld := ⟨.slice, 0x0, 1, 0, 15, 1, .ro, 0x0, 0⟩
/-- Table FE-9 (08_front_ends.md): Restarts in the current or last ACQUIRE. -/
def LINE_STAT_RESTARTS : Fld := ⟨.slice, 0x0, 1, 0, 16, 4, .ro, 0x0, 32⟩
/-- Table FE-9 (08_front_ends.md): Timing source in use. -/
def LINE_STAT_TXTIME : Fld := ⟨.slice, 0x0, 1, 0, 20, 2, .ro, 0x0, 32⟩
/-- Table FE-9 (08_front_ends.md): R277. -/
def LINE_STAT_TX_HOLDOVER : Fld := ⟨.slice, 0x0, 1, 0, 22, 1, .ro, 0x0, 0⟩
/-- Table FE-10 (08_front_ends.md): ms, 1–1 000 (R288). -/
def ACQ_TMO0_T_SIGNAL : Fld := ⟨.slice, 0x4, 1, 0, 0, 10, .rw, 0x64, 33⟩
/-- Table FE-10 (08_front_ends.md): ms, 1–63. -/
def ACQ_TMO0_T_LOCK : Fld := ⟨.slice, 0x4, 1, 0, 10, 6, .rw, 0xA, 33⟩
/-- Table FE-10 (08_front_ends.md): ms, 1–1 000. -/
def ACQ_TMO0_T_ADAPT : Fld := ⟨.slice, 0x4, 1, 0, 16, 10, .rw, 0x32, 33⟩
/-- Table FE-11 (08_front_ends.md): ms, 1–4 000. -/
def ACQ_TMO1_T_FRAME : Fld := ⟨.slice, 0x8, 1, 0, 0, 12, .rw, 0xFA, 33⟩
/-- Table FE-11 (08_front_ends.md): 10 ms units, 1–1 000. -/
def ACQ_TMO1_T_HANDSHAKE : Fld := ⟨.slice, 0x8, 1, 0, 12, 10, .rw, 0xC8, 33⟩
/-- Table FE-12 (08_front_ends.md): R280. -/
def ADAPT_CTL_FREEZE : Fld := ⟨.slice, 0xC, 1, 0, 0, 1, .rw, 0x0, 33⟩
/-- Table FE-12 (08_front_ends.md): R280. -/
def ADAPT_CTL_BG_OFF : Fld := ⟨.slice, 0xC, 1, 0, 1, 1, .rw, 0x0, 33⟩
/-- Table FE-12 (08_front_ends.md): R282. -/
def ADAPT_CTL_SNAP : Fld := ⟨.slice, 0xC, 1, 0, 2, 1, .w1s, 0x0, 0⟩
/-- Table FE-12 (08_front_ends.md): HS only: signal-detect threshold in mV peak-to-peak differential, 20–120; reserved on LP. -/
def ADAPT_CTL_SD_MV : Fld := ⟨.sliceHS, 0xC, 1, 0, 3, 7, .rw, 0x32, 33⟩
/-- Table FE-13 (08_front_ends.md): 0–15. -/
def HS_RPT0_CTLE : Fld := ⟨.sliceHS, 0x10, 1, 0, 0, 4, .ro, 0x0, 0⟩
/-- Table FE-13 (08_front_ends.md): Two's complement, −32 to +31. -/
def HS_RPT0_DFE1 : Fld := ⟨.sliceHS, 0x10, 1, 0, 4, 6, .ro, 0x0, 0⟩
/-- Table FE-13 (08_front_ends.md): As DFE1. -/
def HS_RPT0_DFE2 : Fld := ⟨.sliceHS, 0x10, 1, 0, 10, 6, .ro, 0x0, 0⟩
/-- Table FE-13 (08_front_ends.md): 0–31. -/
def HS_RPT0_VGA : Fld := ⟨.sliceHS, 0x10, 1, 0, 16, 5, .ro, 0x0, 0⟩
/-- Table FE-13 (08_front_ends.md): Eye height estimate, mV. -/
def HS_RPT1_EYE_H : Fld := ⟨.sliceHS, 0x14, 1, 0, 0, 12, .ro, 0x0, 0⟩
/-- Table FE-13 (08_front_ends.md): Eye width estimate, 0.001 UI. -/
def HS_RPT1_EYE_W : Fld := ⟨.sliceHS, 0x14, 1, 0, 12, 10, .ro, 0x0, 0⟩
/-- Table FE-14 (08_front_ends.md): Equaliser gain, 0.1 dB units. -/
def LP_RPT_EQ_GAIN : Fld := ⟨.sliceLP, 0x10, 1, 0, 0, 10, .ro, 0x0, 0⟩
/-- Table FE-14 (08_front_ends.md): Cable loss (R285), 0.1 dB units; 0x3FF when none. -/
def LP_RPT_LOSS_EST : Fld := ⟨.sliceLP, 0x10, 1, 0, 10, 10, .ro, 0x3FF, 0⟩
/-- Table FE-14 (08_front_ends.md): Received peak amplitude, 10 mV units. -/
def LP_RPT_PEAK : Fld := ⟨.sliceLP, 0x10, 1, 0, 20, 10, .ro, 0x0, 0⟩
/-- Table FE-15 (08_front_ends.md): Loop-up sent without a later loop-down (R301). -/
def LP_LOOP_PENDING : Fld := ⟨.sliceLP, 0x20, 1, 0, 0, 1, .w1c, 0x0, 103⟩
/-- Table FE-15 (08_front_ends.md): Loop confirmed by R297; cleared with PENDING. -/
def LP_LOOP_CONFIRMED : Fld := ⟨.sliceLP, 0x20, 1, 0, 1, 1, .ro, 0x0, 103⟩
/-- Table FE-15 (08_front_ends.md): Loop kind last sent, Table FE-7. -/
def LP_LOOP_KIND : Fld := ⟨.sliceLP, 0x20, 1, 0, 2, 4, .ro, 0x0, 103⟩
/-- Table FE-16 (08_front_ends.md): Activate duration, ms, 10–10 000. -/
def LP_LOOP_TIME_UP_MS : Fld := ⟨.sliceLP, 0x24, 1, 0, 0, 14, .rw, 0x64, 33⟩
/-- Table FE-16 (08_front_ends.md): Deactivate duration, ms, 10–10 000. -/
def LP_LOOP_TIME_DOWN_MS : Fld := ⟨.sliceLP, 0x24, 1, 0, 14, 14, .rw, 0xC8, 33⟩
/-- Table FE-17 (08_front_ends.md): IN_BAND loop-up pattern, sent most significant used bit first. -/
def LP_LOOP_CODE_UP_CODE : Fld := ⟨.sliceLP, 0x28, 1, 0, 0, 8, .rw, 0x1, 33⟩
/-- Table FE-17 (08_front_ends.md): Pattern length in bits, 1–8; 0 acts as 1, and 9–15 act as 8. -/
def LP_LOOP_CODE_UP_LEN : Fld := ⟨.sliceLP, 0x28, 1, 0, 8, 4, .rw, 0x5, 33⟩
/-- Table FE-17 (08_front_ends.md): IN_BAND loop-down pattern. -/
def LP_LOOP_CODE_DOWN_CODE : Fld := ⟨.sliceLP, 0x28, 1, 0, 12, 8, .rw, 0x1, 33⟩
/-- Table FE-17 (08_front_ends.md): As UP_LEN. -/
def LP_LOOP_CODE_DOWN_LEN : Fld := ⟨.sliceLP, 0x28, 1, 0, 20, 4, .rw, 0x3, 33⟩
/-- Table SND-6 (09_soundings.md): Averaged conversion (R312, R327). -/
def KP_ADC_RAW : Fld := ⟨.kdie, 0x100, 16, 4, 0, 12, .ro, 0x0, 0⟩
/-- Table SND-6 (09_soundings.md): 1: at least one conversion since the channel's source was powered. -/
def KP_ADC_VALID : Fld := ⟨.kdie, 0x100, 16, 4, 12, 1, .ro, 0x0, 0⟩
/-- Table SND-7 (09_soundings.md): Averaging over 1, 4, 16 or 64 conversions. -/
def KP_ADC_CTL_AVG : Fld := ⟨.kdie, 0x80, 1, 0, 0, 2, .rw, 0x2, 239⟩
/-- Table FRM-7 (10_framing.md): Confirm count; 0 selects the default (R336). -/
def FR_CFG_N : Fld := ⟨.slice, 0x100, 1, 0, 0, 7, .rw, 0x0, 33⟩
/-- Table FRM-7 (10_framing.md): Loss count; 0 selects the default. -/
def FR_CFG_M : Fld := ⟨.slice, 0x100, 1, 0, 7, 7, .rw, 0x0, 33⟩
/-- Table FRM-7 (10_framing.md): Window; 0 selects the default. -/
def FR_CFG_W : Fld := ⟨.slice, 0x100, 1, 0, 14, 11, .rw, 0x0, 33⟩
/-- Table FRM-7 (10_framing.md): 1: ESF in-frame without the CRC-6 check (R341). -/
def FR_CFG_CRC6_OFF : Fld := ⟨.slice, 0x100, 1, 0, 25, 1, .rw, 0x0, 33⟩
/-- Table FRM-7 (10_framing.md): E1: R338. -/
def FR_CFG_LOSS_NFAS : Fld := ⟨.slice, 0x100, 1, 0, 26, 1, .rw, 0x0, 33⟩
/-- Table FRM-8 (10_framing.md): OTU MFAS confirm count (R343); 0 selects 2. -/
def FR_CFG2_MF_N : Fld := ⟨.slice, 0x104, 1, 0, 0, 4, .rw, 0x0, 33⟩
/-- Table FRM-8 (10_framing.md): OTU MFAS loss count; 0 selects 5. -/
def FR_CFG2_MF_M : Fld := ⟨.slice, 0x104, 1, 0, 4, 4, .rw, 0x0, 33⟩
/-- Table FRM-9 (10_framing.md): Forced reframe (R361); reads 0. -/
def FR_CTL_REFRAME : Fld := ⟨.slice, 0x108, 1, 0, 0, 1, .w1s, 0x0, 0⟩
/-- Table FRM-9 (10_framing.md): Forced multiframe hunt; reads 0. -/
def FR_CTL_MF_REFRAME : Fld := ⟨.slice, 0x108, 1, 0, 1, 1, .w1s, 0x0, 0⟩
/-- Table FRM-10 (10_framing.md): 0 HUNT, 1 PRESYNC, 2 SYNC, 3 NONE. -/
def FR_STAT_STATE : Fld := ⟨.slice, 0x10C, 1, 0, 0, 2, .ro, 0x3, 32⟩
/-- Table FRM-10 (10_framing.md): As STATE, for the separate multiframe; 3 for the other formats. -/
def FR_STAT_MF_STATE : Fld := ⟨.slice, 0x10C, 1, 0, 2, 2, .ro, 0x3, 32⟩
/-- Table FRM-10 (10_framing.md): 1: out of frame while the framer runs. -/
def FR_STAT_OOF : Fld := ⟨.slice, 0x10C, 1, 0, 4, 1, .ro, 0x0, 32⟩
/-- Table FRM-10 (10_framing.md): 1: out of multiframe. -/
def FR_STAT_OOM : Fld := ⟨.slice, 0x10C, 1, 0, 5, 1, .ro, 0x0, 32⟩
/-- Table FRM-10 (10_framing.md): Latest OOF: 0 none, 1 pattern or header errors, 2 signal absent, 3 forced, 4 lane alignment, 5 CRC-4 multiframe. -/
def FR_STAT_CAUSE : Fld := ⟨.slice, 0x10C, 1, 0, 6, 3, .ro, 0x0, 32⟩
/-- Table FRM-10 (10_framing.md): Candidates held, 0–8. -/
def FR_STAT_CAND : Fld := ⟨.slice, 0x10C, 1, 0, 9, 4, .ro, 0x0, 32⟩
/-- Table FRM-10 (10_framing.md): Errored units in the current window. -/
def FR_STAT_ERR_WIN : Fld := ⟨.slice, 0x10C, 1, 0, 13, 11, .ro, 0x0, 32⟩
/-- Table FRM-11 (10_framing.md): OOF declarations (R364), saturating. -/
def FR_CNT_OOF_CNT : Fld := ⟨.slice, 0x110, 1, 0, 0, 16, .rc, 0x0, 32⟩
/-- Table FRM-11 (10_framing.md): OOM declarations, saturating. -/
def FR_CNT_OOM_CNT : Fld := ⟨.slice, 0x110, 1, 0, 16, 16, .rc, 0x0, 32⟩
/-- Table FRM-12 (10_framing.md): Device time of the decisive bit (R357). -/
def FR_IF_TIME : Fld := ⟨.slice, 0x118, 1, 0, 0, 64, .ro, 0x0, 32⟩
/-- Table FRM-12 (10_framing.md): Device time of the decisive bit (R357). -/
def FR_OOF_TIME : Fld := ⟨.slice, 0x120, 1, 0, 0, 64, .ro, 0x0, 32⟩
/-- Table FRM-13 (10_framing.md): Bit l: logical lane l locked. -/
def FR_BOND_LOCKED : Fld := ⟨.sliceHS, 0x140, 1, 0, 0, 20, .ro, 0x0, 32⟩
/-- Table FRM-13 (10_framing.md): 1: group aligned (R351). -/
def FR_BOND_ALIGNED : Fld := ⟨.sliceHS, 0x140, 1, 0, 20, 1, .ro, 0x0, 32⟩
/-- Table FRM-13 (10_framing.md): 1: measured skew above 180 ns. -/
def FR_BOND_SKEW_OVR : Fld := ⟨.sliceHS, 0x140, 1, 0, 21, 1, .ro, 0x0, 32⟩
/-- Table FRM-13 (10_framing.md): 1: two lanes carry one number. -/
def FR_BOND_LANE_DUP : Fld := ⟨.sliceHS, 0x140, 1, 0, 22, 1, .ro, 0x0, 32⟩
/-- Table FRM-14 (10_framing.md): Slice within the group that carries lane l, 0–3. -/
def FR_LANE_PHYS : Fld := ⟨.sliceHS, 0x180, 20, 4, 0, 2, .ro, 0x0, 32⟩
/-- Table FRM-14 (10_framing.md): Interleave position, 0–4. -/
def FR_LANE_POS : Fld := ⟨.sliceHS, 0x180, 20, 4, 2, 3, .ro, 0x0, 32⟩
/-- Table FRM-14 (10_framing.md): Arrival after the earliest lane, 0.1 ns units; 0x7FF while not locked. -/
def FR_LANE_SKEW : Fld := ⟨.sliceHS, 0x180, 20, 4, 5, 11, .ro, 0x7FF, 32⟩
/-- Table FRM-14 (10_framing.md): Errored markers, saturating. -/
def FR_LANE_MK_ERR : Fld := ⟨.sliceHS, 0x180, 20, 4, 16, 8, .rc, 0x0, 32⟩
/-- Table OVD-9 (11_overhead_defects.md): Bit i: defect 32k + i declared. -/
def OV_DEF_DEF : Fld := ⟨.slice, 0x200, 8, 4, 0, 32, .ro, 0x0, 32⟩
/-- Table OVD-9 (11_overhead_defects.md): Bit i: declared since last cleared (R16). -/
def OV_DEF_LATCH_LATCH : Fld := ⟨.slice, 0x220, 8, 4, 0, 32, .w1c, 0x0, 32⟩
/-- Table OVD-9 (11_overhead_defects.md): Bit i: program state of defect 32k + i (R377). -/
def OV_PROG_PROG : Fld := ⟨.slice, 0x240, 8, 4, 0, 32, .ro, 0x0, 32⟩
/-- Table OVD-10 (11_overhead_defects.md): R371; 11–15 act as 10. -/
def OV_CFG_LOF_MS : Fld := ⟨.slice, 0x260, 9, 4, 0, 4, .rw, 0x3, 33⟩
/-- Table OVD-10 (11_overhead_defects.md): R373. -/
def OV_CFG_TIM_EN : Fld := ⟨.slice, 0x260, 9, 4, 4, 1, .rw, 0x0, 33⟩
/-- Table OVD-10 (11_overhead_defects.md): Table OVD-4. -/
def OV_CFG_PLM_EN : Fld := ⟨.slice, 0x260, 9, 4, 5, 1, .rw, 0x0, 33⟩
/-- Table OVD-10 (11_overhead_defects.md): R374. -/
def OV_CFG_DEG_EN : Fld := ⟨.slice, 0x260, 9, 4, 6, 1, .rw, 0x1, 33⟩
/-- Table OVD-10 (11_overhead_defects.md): R375. -/
def OV_CFG_EXC_EN : Fld := ⟨.slice, 0x260, 9, 4, 7, 1, .rw, 0x1, 33⟩
/-- Table OVD-10 (11_overhead_defects.md): 2–10; out of range acts as the nearest end. -/
def OV_CFG_DEGM : Fld := ⟨.slice, 0x260, 9, 4, 8, 4, .rw, 0x7, 33⟩
/-- Table OVD-10 (11_overhead_defects.md): Percent, 1–100. -/
def OV_CFG_DEGTHR : Fld := ⟨.slice, 0x260, 9, 4, 12, 7, .rw, 0x1E, 33⟩
/-- Table OVD-10 (11_overhead_defects.md): 3–5. -/
def OV_CFG_EXC_X : Fld := ⟨.slice, 0x260, 9, 4, 19, 3, .rw, 0x3, 33⟩
/-- Table OVD-10 (11_overhead_defects.md): R373. -/
def OV_CFG_TIM_SEL : Fld := ⟨.slice, 0x260, 9, 4, 22, 2, .rw, 0x3, 33⟩
/-- Table OVD-10 (11_overhead_defects.md): R368. -/
def OV_CFG_RAW_WR : Fld := ⟨.slice, 0x260, 9, 4, 24, 1, .rw, 0x0, 33⟩
/-- Table OVD-10 (11_overhead_defects.md): 0 one byte, 1 16 bytes, 2 64 bytes; OTN always 64. -/
def OV_CFG_TRC_LEN : Fld := ⟨.slice, 0x260, 9, 4, 25, 2, .rw, 0x1, 33⟩
/-- Table OVD-11 (11_overhead_defects.md): OV_LABEL: expected C2. -/
def OV_LABEL_C2 : Fld := ⟨.slice, 0x284, 1, 0, 0, 8, .rw, 0x2, 33⟩
/-- Table OVD-11 (11_overhead_defects.md): Expected OPU PT. -/
def OV_LABEL_PT : Fld := ⟨.slice, 0x284, 1, 0, 8, 8, .rw, 0x20, 33⟩
/-- Table OVD-11 (11_overhead_defects.md): OV_PATH_SEL: AU-4, AU-3 or STS-1 number for layer 3, 1–192. -/
def OV_PATH_SEL_INDEX : Fld := ⟨.slice, 0x288, 1, 0, 0, 8, .rw, 0x1, 33⟩
/-- Table OVD-11 (11_overhead_defects.md): OV_CONSEQ (R380). -/
def OV_CONSEQ_DOWN_EN : Fld := ⟨.slice, 0x28C, 1, 0, 0, 1, .rw, 0x1, 33⟩
/-- Table OVD-11 (11_overhead_defects.md). -/
def OV_CONSEQ_BACK_EN : Fld := ⟨.slice, 0x28C, 1, 0, 1, 1, .rw, 0x1, 33⟩
/-- Table OVD-11 (11_overhead_defects.md). -/
def OV_CONSEQ_TIM_AIS : Fld := ⟨.slice, 0x28C, 1, 0, 2, 1, .rw, 0x0, 33⟩
/-- Table OVD-11 (11_overhead_defects.md). -/
def OV_CONSEQ_PLM_AIS : Fld := ⟨.slice, 0x28C, 1, 0, 3, 1, .rw, 0x0, 33⟩
/-- Table OVD-11 (11_overhead_defects.md): OV_INS (R389). -/
def OV_INS_LAYER : Fld := ⟨.slice, 0x290, 1, 0, 0, 4, .rw, 0x0, 32⟩
/-- Table OVD-11 (11_overhead_defects.md): Table OVD-3; 0 payload, 0x10 framing word. -/
def OV_INS_ITEM : Fld := ⟨.slice, 0x290, 1, 0, 4, 8, .rw, 0x0, 32⟩
/-- Table OVD-11 (11_overhead_defects.md): 0 off, 1 SINGLE, 2 RATE, 3 BURST. -/
def OV_INS_MODE : Fld := ⟨.slice, 0x290, 1, 0, 12, 2, .rw, 0x0, 32⟩
/-- Table OVD-11 (11_overhead_defects.md): 1–9. -/
def OV_INS_MAN : Fld := ⟨.slice, 0x290, 1, 0, 14, 4, .rw, 0x0, 32⟩
/-- Table OVD-11 (11_overhead_defects.md): 1–9. -/
def OV_INS_EXP : Fld := ⟨.slice, 0x290, 1, 0, 18, 4, .rw, 0x0, 32⟩
/-- Table OVD-11 (11_overhead_defects.md): 1–1023. -/
def OV_INS_COUNT : Fld := ⟨.slice, 0x290, 1, 0, 22, 10, .rw, 0x0, 32⟩
/-- Table OVD-11 (11_overhead_defects.md): OV_FORCE (R390). -/
def OV_FORCE_LAYER : Fld := ⟨.slice, 0x294, 1, 0, 0, 4, .rw, 0x0, 32⟩
/-- Table OVD-11 (11_overhead_defects.md): One bit each, in that order from bit 4. -/
def OV_FORCE_AIS : Fld := ⟨.slice, 0x294, 1, 0, 4, 1, .rw, 0x0, 32⟩
/-- Table OVD-11 (11_overhead_defects.md): One bit each, in that order from bit 4. -/
def OV_FORCE_RDI : Fld := ⟨.slice, 0x294, 1, 0, 5, 1, .rw, 0x0, 32⟩
/-- Table OVD-11 (11_overhead_defects.md): One bit each, in that order from bit 4. -/
def OV_FORCE_UNEQ : Fld := ⟨.slice, 0x294, 1, 0, 6, 1, .rw, 0x0, 32⟩
/-- Table OVD-11 (11_overhead_defects.md): One bit each, in that order from bit 4. -/
def OV_FORCE_LOF : Fld := ⟨.slice, 0x294, 1, 0, 7, 1, .rw, 0x0, 32⟩
/-- Table OVD-11 (11_overhead_defects.md): One bit each, in that order from bit 4. -/
def OV_FORCE_LOS : Fld := ⟨.slice, 0x294, 1, 0, 8, 1, .rw, 0x0, 32⟩
/-- Table OVD-11 (11_overhead_defects.md): One bit each, in that order from bit 4. -/
def OV_FORCE_LCK : Fld := ⟨.slice, 0x294, 1, 0, 9, 1, .rw, 0x0, 32⟩
/-- Table OVD-11 (11_overhead_defects.md): One bit each, in that order from bit 4. -/
def OV_FORCE_LF : Fld := ⟨.slice, 0x294, 1, 0, 10, 1, .rw, 0x0, 32⟩
/-- Table OVD-11 (11_overhead_defects.md): One bit each, in that order from bit 4. -/
def OV_FORCE_RF : Fld := ⟨.slice, 0x294, 1, 0, 11, 1, .rw, 0x0, 32⟩
/-- Table OVD-11 (11_overhead_defects.md): OV_LPRBS (R388). -/
def OV_LPRBS_GEN : Fld := ⟨.slice, 0x29C, 1, 0, 0, 1, .rw, 0x0, 32⟩
/-- Table OVD-11 (11_overhead_defects.md). -/
def OV_LPRBS_CHK : Fld := ⟨.slice, 0x29C, 1, 0, 1, 1, .rw, 0x0, 32⟩
/-- Table OVD-11 (11_overhead_defects.md): 0–5; other values act as 0. -/
def OV_LPRBS_CODE : Fld := ⟨.slice, 0x29C, 1, 0, 2, 4, .rw, 0x0, 32⟩
/-- Table OVD-11 (11_overhead_defects.md): 0 whole signal, 1 payload. -/
def OV_LPRBS_SCOPE : Fld := ⟨.slice, 0x29C, 1, 0, 6, 1, .rw, 0x0, 32⟩
/-- Table OVD-11 (11_overhead_defects.md): Checker in sync. -/
def OV_LPRBS_SYNC : Fld := ⟨.slice, 0x29C, 1, 0, 7, 1, .ro, 0x0, 0⟩
/-- Table OVD-11 (11_overhead_defects.md): Taken for a handshake. -/
def OV_LPRBS_HELD : Fld := ⟨.slice, 0x29C, 1, 0, 8, 1, .ro, 0x0, 0⟩
/-- Table OVD-11 (11_overhead_defects.md): OV_LPRBS_ERR: errors, saturating. -/
def OV_LPRBS_ERR : Fld := ⟨.slice, 0x2A0, 1, 0, 0, 32, .rc, 0x0, 32⟩
/-- Table OVD-11 (11_overhead_defects.md): Expected trace t: 1 J0, 2 J1, 4 SM TTI, 5 PM TTI. -/
def EXP_TRC_EXP_TRC : Fld := ⟨.slice, 0x400, 192, 4, 0, 32, .rw, 0x0, 33⟩
/-- Table OVD-11 (11_overhead_defects.md): Transmit trace t. -/
def TX_TRC_TX_TRC : Fld := ⟨.slice, 0x440, 192, 4, 0, 32, .rw, 0x0, 33⟩
/-- Table OVD-12 (11_overhead_defects.md): PU_CTL: Table OVD-7. -/
def PU_CTL_CODE : Fld := ⟨.pu, 0x0, 1, 0, 0, 4, .rw, 0x0, 32⟩
/-- Table OVD-12 (11_overhead_defects.md): 0 stopped, 1 generate, 2 check, 3 both. -/
def PU_CTL_RUN : Fld := ⟨.pu, 0x0, 1, 0, 4, 2, .rw, 0x0, 32⟩
/-- Table OVD-12 (11_overhead_defects.md): R386. -/
def PU_CTL_MAN : Fld := ⟨.pu, 0x0, 1, 0, 6, 4, .rw, 0x0, 32⟩
/-- Table OVD-12 (11_overhead_defects.md): R386. -/
def PU_CTL_EXP : Fld := ⟨.pu, 0x0, 1, 0, 10, 4, .rw, 0x0, 32⟩
/-- Table OVD-12 (11_overhead_defects.md): PU_WORD: user word. -/
def PU_WORD_WORD : Fld := ⟨.pu, 0x4, 1, 0, 0, 32, .rw, 0x0, 32⟩
/-- Table OVD-12 (11_overhead_defects.md): PU_STAT: checker in sync. -/
def PU_STAT_SYNC : Fld := ⟨.pu, 0x8, 1, 0, 0, 1, .ro, 0x0, 0⟩
/-- Table OVD-12 (11_overhead_defects.md): Losses of sync, saturating. -/
def PU_STAT_LOSS : Fld := ⟨.pu, 0x8, 1, 0, 1, 16, .rc, 0x0, 32⟩
/-- Table OVD-12 (11_overhead_defects.md): PU_ERR: operation error count, 64-bit. -/
def PU_ERR : Fld := ⟨.pu, 0x10, 1, 0, 0, 64, .ro, 0x0, 32⟩
/-- Table OVD-12 (11_overhead_defects.md): PU_BITS: compared bits, 64-bit. -/
def PU_BITS : Fld := ⟨.pu, 0x18, 1, 0, 0, 64, .ro, 0x0, 32⟩
/-- Table CHT-4 (12_chart.md): Bits [32i + 31:32i] of route word A or B (Table CHT-3, R406). -/
def CH_WA_WORD : Fld := ⟨.entry, 0x0, 4, 4, 0, 32, .ro, 0x0, 33⟩
/-- Table CHT-4 (12_chart.md): Bits [32i + 31:32i] of route word A or B (Table CHT-3, R406). -/
def CH_WB_WORD : Fld := ⟨.entry, 0x10, 4, 4, 0, 32, .ro, 0x0, 33⟩
/-- Table CHT-5 (12_chart.md): TIM-LP on J2 (R373). -/
def CH_CFG_TIM_EN : Fld := ⟨.entry, 0x20, 1, 0, 0, 1, .rw, 0x0, 33⟩
/-- Table CHT-5 (12_chart.md): Label check against LABEL. -/
def CH_CFG_PLM_EN : Fld := ⟨.entry, 0x20, 1, 0, 1, 1, .rw, 0x0, 33⟩
/-- Table CHT-5 (12_chart.md): R374. -/
def CH_CFG_DEG_EN : Fld := ⟨.entry, 0x20, 1, 0, 2, 1, .rw, 0x1, 33⟩
/-- Table CHT-5 (12_chart.md): R375. -/
def CH_CFG_EXC_EN : Fld := ⟨.entry, 0x20, 1, 0, 3, 1, .rw, 0x1, 33⟩
/-- Table CHT-5 (12_chart.md): 2–10; values out of range act as the nearest end. -/
def CH_CFG_DEGM : Fld := ⟨.entry, 0x20, 1, 0, 4, 4, .rw, 0x7, 33⟩
/-- Table CHT-5 (12_chart.md): Percent, 1–100. -/
def CH_CFG_DEGTHR : Fld := ⟨.entry, 0x20, 1, 0, 8, 7, .rw, 0x1E, 33⟩
/-- Table CHT-5 (12_chart.md): 3–5. -/
def CH_CFG_EXC_X : Fld := ⟨.entry, 0x20, 1, 0, 15, 3, .rw, 0x3, 33⟩
/-- Table CHT-6 (12_chart.md): Word applied: 0 A, 1 B (R412). -/
def CH_STAT_WORD : Fld := ⟨.entry, 0x24, 1, 0, 0, 1, .ro, 0x0, 33⟩
/-- Table CHT-6 (12_chart.md): Delineator: 0 HUNT, 1 PRESYNC, 2 SYNC, 3 not GFP-F (R348). -/
def CH_STAT_GFP : Fld := ⟨.entry, 0x24, 1, 0, 1, 2, .ro, 0x3, 33⟩
/-- Table CHT-6 (12_chart.md): R407. -/
def CH_STAT_MISFIT : Fld := ⟨.entry, 0x24, 1, 0, 3, 1, .ro, 0x0, 33⟩
/-- Table CHT-6 (12_chart.md): R408. -/
def CH_STAT_ORPHAN : Fld := ⟨.entry, 0x24, 1, 0, 4, 1, .w1c, 0x0, 33⟩
/-- Table CHT-6 (12_chart.md): R417. -/
def CH_STAT_PERR : Fld := ⟨.entry, 0x24, 1, 0, 5, 1, .ro, 0x0, 33⟩
/-- Table CHT-6 (12_chart.md): R418. -/
def CH_STAT_PERR_INACT : Fld := ⟨.entry, 0x24, 1, 0, 6, 1, .ro, 0x0, 33⟩
/-- Table CHT-6 (12_chart.md): R419. -/
def CH_STAT_SPARED : Fld := ⟨.entry, 0x24, 1, 0, 7, 1, .ro, 0x0, 33⟩
/-- Table CHT-7 (12_chart.md): Expected J2 and, from a pattern unit, the J2 sent (R399). -/
def CH_EXP_J2 : Fld := ⟨.entry, 0x30, 4, 4, 0, 32, .rw, 0x0, 33⟩
/-- Table CHT-8 (12_chart.md): Selector: 0 A, 1 B. -/
def CH_SEL_ACTIVE : Fld := ⟨.glob, 0x490000, 16, 4, 0, 1, .ro, 0x0, 33⟩
/-- Table CHT-8 (12_chart.md): 1: a swap has been admitted and has not yet committed. -/
def CH_SEL_PENDING : Fld := ⟨.glob, 0x490000, 16, 4, 1, 1, .ro, 0x0, 33⟩
/-- Table CHT-8 (12_chart.md): Kind of the pending swap: 0 frame, 1 multiframe. -/
def CH_SEL_KIND : Fld := ⟨.glob, 0x490000, 16, 4, 2, 1, .ro, 0x0, 33⟩
/-- Table CHT-9 (12_chart.md): R409; follows device time. -/
def CH_FC : Fld := ⟨.glob, 0x490040, 1, 0, 0, 32, .ro, 0x0, 255⟩
/-- Table CHT-9 (12_chart.md): CH_ERR: active-word parity errors, saturating. -/
def CH_ERR_PERR_CNT : Fld := ⟨.glob, 0x490044, 1, 0, 0, 16, .rc, 0x0, 39⟩
/-- Table CHT-9 (12_chart.md): Spare words in use, 0–64. -/
def CH_ERR_SPARES_USED : Fld := ⟨.glob, 0x490044, 1, 0, 16, 7, .ro, 0x0, 47⟩
/-- Table PSW-8 (13_protection.md): PS_STAT: top request, Table PSW-4. -/
def PS_STAT_REQ : Fld := ⟨.group, 0x0, 1, 0, 0, 4, .ro, 0x0, 33⟩
/-- Table PSW-8 (13_protection.md): 0 working, 1 protection. -/
def PS_STAT_SEL : Fld := ⟨.group, 0x0, 1, 0, 4, 1, .ro, 0x0, 33⟩
/-- Table PSW-8 (13_protection.md): Bridge on (R433). -/
def PS_STAT_BRIDGE : Fld := ⟨.group, 0x0, 1, 0, 5, 1, .ro, 0x0, 33⟩
/-- Table PSW-8 (13_protection.md): WTR running. -/
def PS_STAT_WTR_RUN : Fld := ⟨.group, 0x0, 1, 0, 6, 1, .ro, 0x0, 33⟩
/-- Table PSW-8 (13_protection.md): Table PSW-5. -/
def PS_STAT_PSB_FAIL : Fld := ⟨.group, 0x0, 1, 0, 7, 1, .ro, 0x0, 33⟩
/-- Table PSW-8 (13_protection.md): Table PSW-5. -/
def PS_STAT_CH_MM : Fld := ⟨.group, 0x0, 1, 0, 8, 1, .ro, 0x0, 33⟩
/-- Table PSW-8 (13_protection.md): Table PSW-5. -/
def PS_STAT_ARCH_MM : Fld := ⟨.group, 0x0, 1, 0, 9, 1, .ro, 0x0, 33⟩
/-- Table PSW-8 (13_protection.md): Table PSW-5. -/
def PS_STAT_MODE_MM : Fld := ⟨.group, 0x0, 1, 0, 10, 1, .ro, 0x0, 33⟩
/-- Table PSW-8 (13_protection.md): Criteria after hold-off. -/
def PS_STAT_SF_W : Fld := ⟨.group, 0x0, 1, 0, 11, 1, .ro, 0x0, 33⟩
/-- Table PSW-8 (13_protection.md): Criteria after hold-off. -/
def PS_STAT_SD_W : Fld := ⟨.group, 0x0, 1, 0, 12, 1, .ro, 0x0, 33⟩
/-- Table PSW-8 (13_protection.md): Criteria after hold-off. -/
def PS_STAT_SF_P : Fld := ⟨.group, 0x0, 1, 0, 13, 1, .ro, 0x0, 33⟩
/-- Table PSW-8 (13_protection.md): Criteria after hold-off. -/
def PS_STAT_SD_P : Fld := ⟨.group, 0x0, 1, 0, 14, 1, .ro, 0x0, 33⟩
/-- Table PSW-8 (13_protection.md): OBSERVE selection (R438). -/
def PS_STAT_SHADOW : Fld := ⟨.group, 0x0, 1, 0, 15, 1, .ro, 0x0, 33⟩
/-- Table PSW-8 (13_protection.md): 1: configured. -/
def PS_STAT_CONFIGURED : Fld := ⟨.group, 0x0, 1, 0, 16, 1, .ro, 0x0, 33⟩
/-- Table PSW-8 (13_protection.md): Meter armed. -/
def PS_STAT_ARMED : Fld := ⟨.group, 0x0, 1, 0, 17, 1, .ro, 0x0, 33⟩
/-- Table PSW-8 (13_protection.md): Meter event open. -/
def PS_STAT_OPEN : Fld := ⟨.group, 0x0, 1, 0, 18, 1, .ro, 0x0, 33⟩
/-- Table PSW-8 (13_protection.md): PS_K, one byte each from bit 0; RX values are the accepted ones. -/
def PS_K_K1_TX : Fld := ⟨.group, 0x4, 1, 0, 0, 8, .ro, 0x0, 33⟩
/-- Table PSW-8 (13_protection.md): PS_K, one byte each from bit 0; RX values are the accepted ones. -/
def PS_K_K2_TX : Fld := ⟨.group, 0x4, 1, 0, 8, 8, .ro, 0x0, 33⟩
/-- Table PSW-8 (13_protection.md): PS_K, one byte each from bit 0; RX values are the accepted ones. -/
def PS_K_K1_RX : Fld := ⟨.group, 0x4, 1, 0, 16, 8, .ro, 0x0, 33⟩
/-- Table PSW-8 (13_protection.md): PS_K, one byte each from bit 0; RX values are the accepted ones. -/
def PS_K_K2_RX : Fld := ⟨.group, 0x4, 1, 0, 24, 8, .ro, 0x0, 33⟩
/-- Table PSW-8 (13_protection.md): PS_SWITCHES: changes of SEL, saturating. -/
def PS_SWITCHES : Fld := ⟨.group, 0x8, 1, 0, 0, 16, .rc, 0x0, 33⟩
/-- Table PSW-8 (13_protection.md): Whole seconds of WTR left. -/
def PS_WTR_LEFT : Fld := ⟨.group, 0xC, 1, 0, 0, 10, .ro, 0x0, 33⟩
/-- Table PSW-8 (13_protection.md): PS_MTR_LAST: DURATION of the latest ended event, µs. -/
def PS_MTR_LAST : Fld := ⟨.group, 0x10, 1, 0, 0, 32, .ro, 0x0, 33⟩
/-- Table PSW-8 (13_protection.md): PS_MTR_MAX: largest DURATION since read. -/
def PS_MTR_MAX : Fld := ⟨.group, 0x14, 1, 0, 0, 32, .rc, 0x0, 33⟩
/-- Table PSW-8 (13_protection.md): PS_MTR_CNT: ended events, saturating. -/
def PS_MTR_EVENTS : Fld := ⟨.group, 0x18, 1, 0, 0, 16, .rc, 0x0, 33⟩
/-- Table PSW-8 (13_protection.md): PS_LOG_OVW: overwritten entries, saturating. -/
def PS_LOG_OVW : Fld := ⟨.group, 0x1C, 1, 0, 0, 16, .rc, 0x0, 33⟩
/-- Table PM-7 (14_performance_monitoring.md): PM_CFG: object of the entity. -/
def PM_CFG_SRC : Fld := ⟨.point, 0x0, 1, 0, 0, 16, .ro, 0x0, 33⟩
/-- Table PM-7 (14_performance_monitoring.md): Layer code or entry offset. -/
def PM_CFG_SEL : Fld := ⟨.point, 0x0, 1, 0, 16, 8, .ro, 0x0, 33⟩
/-- Table PM-7 (14_performance_monitoring.md): Parity item of Table OVD-3; 0 is the default of Table PM-1. -/
def PM_CFG_ITEM : Fld := ⟨.point, 0x0, 1, 0, 24, 4, .rw, 0x0, 33⟩
/-- Table PM-7 (14_performance_monitoring.md): 0 ITU-T, 1 ANSI (R451). -/
def PM_CFG_PROFILE : Fld := ⟨.point, 0x0, 1, 0, 28, 1, .rw, 0x0, 33⟩
/-- Table PM-7 (14_performance_monitoring.md): Gate held open (R454). -/
def PM_CFG_FREE : Fld := ⟨.point, 0x0, 1, 0, 29, 1, .rw, 0x0, 33⟩
/-- Table PM-7 (14_performance_monitoring.md): 1: attached. -/
def PM_CFG_ATTACHED : Fld := ⟨.point, 0x0, 1, 0, 30, 1, .ro, 0x0, 33⟩
/-- Table PM-7 (14_performance_monitoring.md): R450. -/
def PM_CFG_ORPHANED : Fld := ⟨.point, 0x0, 1, 0, 31, 1, .ro, 0x0, 33⟩
/-- Table PM-7 (14_performance_monitoring.md): PM_THR; 0 is the default. -/
def PM_THR_SES_THR : Fld := ⟨.point, 0x4, 1, 0, 0, 20, .rw, 0x0, 33⟩
/-- Table PM-7 (14_performance_monitoring.md): PM_STAT: gate open. -/
def PM_STAT_GATE : Fld := ⟨.point, 0x8, 1, 0, 0, 1, .ro, 0x0, 33⟩
/-- Table PM-7 (14_performance_monitoring.md): Near end UNAVAILABLE. -/
def PM_STAT_NE_UNAV : Fld := ⟨.point, 0x8, 1, 0, 1, 1, .ro, 0x0, 33⟩
/-- Table PM-7 (14_performance_monitoring.md): Far end UNAVAILABLE. -/
def PM_STAT_FE_UNAV : Fld := ⟨.point, 0x8, 1, 0, 2, 1, .ro, 0x0, 33⟩
/-- Table PM-7 (14_performance_monitoring.md): Near-end pending seconds, 0–9. -/
def PM_STAT_NE_PEND : Fld := ⟨.point, 0x8, 1, 0, 3, 4, .ro, 0x0, 33⟩
/-- Table PM-7 (14_performance_monitoring.md): Far-end pending seconds, 0–9. -/
def PM_STAT_FE_PEND : Fld := ⟨.point, 0x8, 1, 0, 7, 4, .ro, 0x0, 33⟩
/-- Table PM-7 (14_performance_monitoring.md): Named by a SOAK in flight. -/
def PM_STAT_SOAKED : Fld := ⟨.point, 0x8, 1, 0, 11, 1, .ro, 0x0, 33⟩
/-- Table PM-7 (14_performance_monitoring.md): PM_ATTACH: object. -/
def PM_ATT_SRC : Fld := ⟨.point, 0xC, 1, 0, 0, 16, .wo, 0x0, 0⟩
/-- Table PM-7 (14_performance_monitoring.md): Layer code or entry offset. -/
def PM_ATT_SEL : Fld := ⟨.point, 0xC, 1, 0, 16, 8, .wo, 0x0, 0⟩
/-- Table PM-7 (14_performance_monitoring.md): 1: detach. -/
def PM_ATT_DETACH : Fld := ⟨.point, 0xC, 1, 0, 30, 1, .wo, 0x0, 0⟩
/-- Table PM-7 (14_performance_monitoring.md): 1: perform. -/
def PM_ATT_GO : Fld := ⟨.point, 0xC, 1, 0, 31, 1, .wo, 0x0, 0⟩
/-- Table PM-7 (14_performance_monitoring.md): Current 15-minute bin, Table PM-6. -/
def PM_BIN : Fld := ⟨.point, 0x40, 16, 4, 0, 32, .ro, 0x0, 33⟩
/-- Table PM-8 (14_performance_monitoring.md): Device time of a 24-hour boundary (R462, R464). -/
def PM_ALIGN : Fld := ⟨.glob, 0x5D0000, 1, 0, 0, 64, .rw, 0x0, 39⟩
/-- Table CHU-6 (15_chutes_cellar.md): CU_STAT: entries held, 0–512. -/
def CU_STAT_FILL : Fld := ⟨.chute, 0x0, 1, 0, 0, 10, .ro, 0x0, 0⟩
/-- Table CHU-6 (15_chutes_cellar.md): Open packets, 0–8. -/
def CU_STAT_OPEN : Fld := ⟨.chute, 0x0, 1, 0, 10, 4, .ro, 0x0, 0⟩
/-- Table CHU-6 (15_chutes_cellar.md): Full flag (R480). -/
def CU_STAT_FULL : Fld := ⟨.chute, 0x0, 1, 0, 14, 1, .ro, 0x0, 0⟩
/-- Table CHU-6 (15_chutes_cellar.md): Empty flag. -/
def CU_STAT_EMPTY : Fld := ⟨.chute, 0x0, 1, 0, 15, 1, .ro, 0x1, 0⟩
/-- Table CHU-6 (15_chutes_cellar.md): Waypoint set. -/
def CU_STAT_WAYPT : Fld := ⟨.chute, 0x0, 1, 0, 16, 1, .ro, 0x0, 0⟩
/-- Table CHU-6 (15_chutes_cellar.md): 0 none, 1 CAPTURE, 2 SOAK, 3 registers. -/
def CU_STAT_CONSUMER : Fld := ⟨.chute, 0x0, 1, 0, 17, 2, .ro, 0x0, 0⟩
/-- Table CHU-6 (15_chutes_cellar.md): CU_DROP: entries dropped, saturating. -/
def CU_DROP : Fld := ⟨.chute, 0x4, 1, 0, 0, 32, .rc, 0x0, 33⟩
/-- Table CHU-6 (15_chutes_cellar.md): CU_ERR: resets under R486, saturating. -/
def CU_ERR_PTR_MISMATCH : Fld := ⟨.chute, 0x8, 1, 0, 0, 8, .rc, 0x0, 33⟩
/-- Table CHU-6 (15_chutes_cellar.md): Packets dropped for length, saturating. -/
def CU_ERR_OVERLEN : Fld := ⟨.chute, 0x8, 1, 0, 8, 8, .rc, 0x0, 33⟩
/-- Table CHU-6 (15_chutes_cellar.md): GAP entries written, saturating. -/
def CU_ERR_GAPS : Fld := ⟨.chute, 0x8, 1, 0, 16, 16, .rc, 0x0, 33⟩
/-- Table CHU-6 (15_chutes_cellar.md): CU_CON: register consumer (R478). -/
def CU_CON_OWN : Fld := ⟨.chute, 0xC, 1, 0, 0, 1, .rw, 0x0, 33⟩
/-- Table CHU-6 (15_chutes_cellar.md): Mark (R485); reads 0. -/
def CU_CON_MARK : Fld := ⟨.chute, 0xC, 1, 0, 1, 1, .w1s, 0x0, 0⟩
/-- Table CHU-6 (15_chutes_cellar.md): Rewind; reads 0. -/
def CU_CON_REWIND : Fld := ⟨.chute, 0xC, 1, 0, 2, 1, .w1s, 0x0, 0⟩
/-- Table CHU-6 (15_chutes_cellar.md): Release; reads 0. -/
def CU_CON_RELEASE : Fld := ⟨.chute, 0xC, 1, 0, 3, 1, .w1s, 0x0, 0⟩
/-- Table CHU-6 (15_chutes_cellar.md): Release on take when no waypoint is set. -/
def CU_CON_AUTO : Fld := ⟨.chute, 0xC, 1, 0, 4, 1, .rw, 0x1, 33⟩
/-- Table CHU-6 (15_chutes_cellar.md): CU_POP: R505. -/
def CU_POP : Fld := ⟨.chute, 0x10, 1, 0, 0, 64, .ro, 0x0, 0⟩
/-- Table CHU-6 (15_chutes_cellar.md): CU_POP_TAG: latched entry valid. -/
def CU_POP_VALID : Fld := ⟨.chute, 0x18, 1, 0, 0, 1, .ro, 0x0, 0⟩
/-- Table CHU-6 (15_chutes_cellar.md): First entry of a packet. -/
def CU_POP_SOP : Fld := ⟨.chute, 0x18, 1, 0, 1, 1, .ro, 0x0, 0⟩
/-- Table CHU-6 (15_chutes_cellar.md): Last entry of a packet. -/
def CU_POP_EOP : Fld := ⟨.chute, 0x18, 1, 0, 2, 1, .ro, 0x0, 0⟩
/-- Table CHU-6 (15_chutes_cellar.md): GAP entry (Table CHU-1). -/
def CU_POP_GAP : Fld := ⟨.chute, 0x18, 1, 0, 3, 1, .ro, 0x0, 0⟩
/-- Table CHU-6 (15_chutes_cellar.md): CU_HACK: slots finished by the host (R498). -/
def CU_HACK : Fld := ⟨.chute, 0x20, 1, 0, 0, 32, .rw, 0x0, 33⟩
/-- Table CHU-6 (15_chutes_cellar.md): CU_DELIV: crates written to the host by the current or last operation. -/
def CU_DELIV : Fld := ⟨.chute, 0x24, 1, 0, 0, 32, .ro, 0x0, 33⟩
/-- Table CHU-6 (15_chutes_cellar.md): CU_HELD: crates held. -/
def CU_HELD : Fld := ⟨.chute, 0x28, 1, 0, 0, 16, .ro, 0x0, 33⟩
/-- Table CHU-7 (15_chutes_cellar.md): Larder crate reserve, set by GRANT. -/
def CU_POOL_L_RES : Fld := ⟨.pool, 0x0, 1, 0, 0, 11, .ro, 0x0, 39⟩
/-- Table CHU-7 (15_chutes_cellar.md): Larder crates held. -/
def CU_POOL_L_USED : Fld := ⟨.pool, 0x0, 1, 0, 16, 11, .ro, 0x0, 33⟩
/-- Table CHU-7 (15_chutes_cellar.md): Cellar crate reserve, 0–65 535. -/
def CU_POOL_C_RES : Fld := ⟨.pool, 0x4, 1, 0, 0, 16, .ro, 0x0, 39⟩
/-- Table CHU-7 (15_chutes_cellar.md): Cellar crates held, 0–65 535. -/
def CU_POOL_C_USED : Fld := ⟨.pool, 0x4, 1, 0, 16, 16, .ro, 0x0, 33⟩
/-- Table CHU-8 (15_chutes_cellar.md): CU_LPOOL: Larder crates, 0–1 024 (R488, R489). -/
def CU_LPOOL_SIZE : Fld := ⟨.glob, 0x509000, 1, 0, 0, 11, .rwl, 0x0, 39⟩
/-- Table CHU-8 (15_chutes_cellar.md): CU_CPOOL: Cellar crates. -/
def CU_CPOOL_SIZE : Fld := ⟨.glob, 0x509004, 1, 0, 0, 16, .rwl, 0x0, 39⟩
/-- Table CHU-8 (15_chutes_cellar.md): CU_FREE: shared Larder crates free. -/
def CU_FREE_LFREE : Fld := ⟨.glob, 0x509008, 1, 0, 0, 11, .ro, 0x0, 33⟩
/-- Table CHU-8 (15_chutes_cellar.md): Shared Cellar crates free. -/
def CU_FREE_CFREE : Fld := ⟨.glob, 0x509008, 1, 0, 16, 16, .ro, 0x0, 33⟩
/-- Table CHU-8 (15_chutes_cellar.md): CU_ARB: rotating session pointer (R492). -/
def CU_ARB_PTR : Fld := ⟨.glob, 0x50900C, 1, 0, 0, 4, .ro, 0x0, 33⟩
/-- Table MTX-5 (16_matrix.md): Pieces per round; 0 acts as 1. -/
def MX_WEIGHT_HOST_DMA : Fld := ⟨.glob, 0xA000, 1, 0, 0, 4, .rw, 0x4, 39⟩
/-- Table MTX-5 (16_matrix.md): As above, for masters 5 and 6 together. -/
def MX_WEIGHT_CHUTE_WR : Fld := ⟨.glob, 0xA000, 1, 0, 4, 4, .rw, 0x6, 39⟩
/-- Table MTX-5 (16_matrix.md): As above. -/
def MX_WEIGHT_STEWARD0 : Fld := ⟨.glob, 0xA000, 1, 0, 8, 4, .rw, 0x4, 39⟩
/-- Table MTX-5 (16_matrix.md): As above. -/
def MX_WEIGHT_STEWARD1 : Fld := ⟨.glob, 0xA000, 1, 0, 12, 4, .rw, 0x4, 39⟩
/-- Table MTX-5 (16_matrix.md): As above. -/
def MX_WEIGHT_LOGBOOK : Fld := ⟨.glob, 0xA000, 1, 0, 16, 4, .rw, 0x1, 39⟩
/-- Table MTX-5 (16_matrix.md): Helm clusters on the general port, each. -/
def MX_WEIGHT_HELM_GEN : Fld := ⟨.glob, 0xA000, 1, 0, 20, 4, .rw, 0x2, 39⟩
/-- Table MTX-6 (16_matrix.md): R528, in 0.1 ms units, 1–1 000; 0 acts as 1. -/
def MX_STALL_LIMIT : Fld := ⟨.glob, 0xA004, 1, 0, 0, 10, .rw, 0xA, 39⟩
/-- Table MTX-7 (16_matrix.md): Undecoded direct accesses (R508), saturating. -/
def MX_ERR_DECODE : Fld := ⟨.glob, 0xA008, 1, 0, 0, 8, .rc, 0x0, 39⟩
/-- Table MTX-7 (16_matrix.md): Atomics refused (R518), saturating. -/
def MX_ERR_ATOMIC : Fld := ⟨.glob, 0xA008, 1, 0, 8, 8, .rc, 0x0, 39⟩
/-- Table MTX-7 (16_matrix.md): Reads meeting uncorrectable errors (R521), saturating. -/
def MX_ERR_UNCORR : Fld := ⟨.glob, 0xA008, 1, 0, 16, 8, .rc, 0x0, 39⟩
/-- Table MTX-7 (16_matrix.md): Master of the latest error counted here. -/
def MX_ERR_LAST_MASTER : Fld := ⟨.glob, 0xA008, 1, 0, 24, 4, .ro, 0x0, 39⟩
/-- Table MTX-8 (16_matrix.md): 0 no Cellar, 1 3 200, 2 3 733, 3 4 266 MT/s (R522). -/
def MX_CELLAR_RATE : Fld := ⟨.glob, 0xA00C, 1, 0, 0, 2, .ro, 0x0, 111⟩
/-- Table MTX-8 (16_matrix.md): As GL_MEM.CELLAR_ECC. -/
def MX_CELLAR_INLINE_ECC : Fld := ⟨.glob, 0xA00C, 1, 0, 2, 1, .ro, 0x0, 111⟩
/-- Table MTX-8 (16_matrix.md): Addressable Cellar in MiB (R523), 0–4 096. -/
def MX_CELLAR_ADDR_MIB : Fld := ⟨.glob, 0xA00C, 1, 0, 8, 13, .ro, 0x0, 111⟩
/-- Table MTX-9 (16_matrix.md): Host-bound staging in use, KiB, data part. -/
def MX_STAT_STAGE_KIB : Fld := ⟨.glob, 0xA010, 1, 0, 0, 7, .ro, 0x0, 0⟩
/-- Table MTX-9 (16_matrix.md): 1: staging waits for posted credits. -/
def MX_STAT_CRED_WAIT : Fld := ⟨.glob, 0xA010, 1, 0, 7, 1, .ro, 0x0, 0⟩
/-- Table MTX-9 (16_matrix.md): Larder write queue pieces held. -/
def MX_STAT_LWQ : Fld := ⟨.glob, 0xA010, 1, 0, 8, 8, .ro, 0x0, 0⟩
/-- Table MTX-9 (16_matrix.md): Cellar write queue pieces held. -/
def MX_STAT_CWQ : Fld := ⟨.glob, 0xA010, 1, 0, 16, 8, .ro, 0x0, 0⟩
/-- Table BCN-9 (17_beacon.md): Doorbell word of Table BCN-1; fires any source. -/
def BC_SET_BC_SET : Fld := ⟨.glob, 0x11000, 1, 0, 0, 64, .wo, 0x0, 0⟩
/-- Table BCN-9 (17_beacon.md): BC_ERR: doorbells naming reserved sources (R530), saturating. -/
def BC_ERR_RSV_SRC : Fld := ⟨.glob, 0x11008, 1, 0, 0, 16, .rc, 0x0, 39⟩
/-- Table BCN-9 (17_beacon.md): Refused route writes (R541), saturating. -/
def BC_ERR_ROUTE : Fld := ⟨.glob, 0x11008, 1, 0, 16, 16, .rc, 0x0, 39⟩
/-- Table BCN-9 (17_beacon.md): BC_VCLAIM(v), v = 3–31: a read takes the lowest pending source routed to vector v and returns it, or 0xFFFF when there is none. -/
def BC_VCLAIM_SRC : Fld := ⟨.glob, 0x11100, 32, 4, 0, 16, .ro, 0xFFFF, 0⟩
/-- Table BCN-10 (17_beacon.md): Host address[63:12] of the event queue. -/
def EQ_BASE_ADDR : Fld := ⟨.ses, 0x180, 1, 0, 12, 52, .rw, 0x0, 225⟩
/-- Table BCN-10 (17_beacon.md): EQ_CFG: 4–12; 0–3 act as 4, 13–15 act as 12. -/
def EQ_CFG_LOG2_SIZE : Fld := ⟨.ses, 0x188, 1, 0, 0, 4, .rw, 0x4, 225⟩
/-- Table BCN-10 (17_beacon.md): 1: queue enabled (R543). -/
def EQ_CFG_EN : Fld := ⟨.ses, 0x188, 1, 0, 4, 1, .rw, 0x0, 225⟩
/-- Table BCN-10 (17_beacon.md): EQ_STAT: next record to write. -/
def EQ_STAT_TAIL : Fld := ⟨.ses, 0x18C, 1, 0, 0, 12, .ro, 0x0, 225⟩
/-- Table BCN-10 (17_beacon.md): Current phase. -/
def EQ_STAT_PHASE : Fld := ⟨.ses, 0x18C, 1, 0, 12, 1, .ro, 0x1, 225⟩
/-- Table BCN-10 (17_beacon.md): R547. -/
def EQ_STAT_ARM : Fld := ⟨.ses, 0x18C, 1, 0, 13, 1, .ro, 0x1, 225⟩
/-- Table BCN-10 (17_beacon.md): DATA for the next SW_RAISE. -/
def SW_DATA : Fld := ⟨.ses, 0x190, 1, 0, 0, 32, .rw, 0x0, 33⟩
/-- Table BCN-10 (17_beacon.md): Fires software source k of this session with SW_DATA and CAUSE 0. -/
def SW_RAISE : Fld := ⟨.ses, 0x194, 1, 0, 0, 4, .wo, 0x0, 0⟩
/-- Table BCN-10 (17_beacon.md): Write a source number to claim it (R540). A read returns the source won by this function's latest claim, or 0xFFFF. -/
def BC_CLAIM : Fld := ⟨.ses, 0x198, 1, 0, 0, 16, .rw, 0xFFFF, 0⟩
/-- Table BCN-10 (17_beacon.md): Completes the named source (R537). -/
def BC_EOI : Fld := ⟨.ses, 0x19C, 1, 0, 0, 10, .wo, 0x0, 0⟩
/-- Table BCN-10 (17_beacon.md): BC_QSTAT: records dropped (R548, R549), saturating. -/
def BC_QSTAT_DROP : Fld := ⟨.ses, 0x1A0, 1, 0, 0, 16, .rc, 0x0, 33⟩
/-- Table BCN-10 (17_beacon.md): Event-queue head doorbell (R136, R547). -/
def EQ_DB_EQ_HEAD : Fld := ⟨.ses, 0x15000, 1, 0, 0, 12, .wo, 0x0, 0⟩
/-- Table BCN-11 (17_beacon.md): KP_WAKE_EN: bit k is 1 when source k wakes the engine (R550). -/
def KP_WAKE_EN : Fld := ⟨.kdie, 0x200, 1, 0, 0, 32, .rw, 0xF7B, 239⟩
/-- Table BCN-11 (17_beacon.md): KP_WLATCH: bit k is 1 when source k is latched and not yet replayed. -/
def KP_WLATCH_LATCH : Fld := ⟨.kdie, 0x204, 1, 0, 0, 32, .w1c, 0x0, 239⟩
/-- Table BCN-11 (17_beacon.md): KP_WTIME(k), 64-bit: keeper time of the first latched edge. -/
def KP_WTIME_KTIME : Fld := ⟨.kdie, 0x300, 32, 8, 0, 48, .ro, 0x0, 239⟩
/-- Table BCN-11 (17_beacon.md): Edges latched, 1–15. -/
def KP_WTIME_EDGES : Fld := ⟨.kdie, 0x300, 32, 8, 48, 4, .ro, 0x0, 239⟩
/-- Table FDB-9 (18_feeds_bays.md): FD_STAT: bit 0 LINE, 1 DOCK, 2 PACK. -/
def FD_STAT_VALID : Fld := ⟨.kdie, 0x400, 1, 0, 0, 3, .ro, 0x0, 255⟩
/-- Table FDB-9 (18_feeds_bays.md): Feed carrying SYS: 0 none, 1 LINE, 2 DOCK, 3 PACK. -/
def FD_STAT_SYS_PATH : Fld := ⟨.kdie, 0x400, 1, 0, 3, 2, .ro, 0x0, 255⟩
/-- Table FDB-9 (18_feeds_bays.md): R562. -/
def FD_STAT_PACK_LOW : Fld := ⟨.kdie, 0x400, 1, 0, 5, 1, .ro, 0x0, 255⟩
/-- Table FDB-9 (18_feeds_bays.md): R563. -/
def FD_STAT_CUTOFF : Fld := ⟨.kdie, 0x400, 1, 0, 6, 1, .ro, 0x0, 255⟩
/-- Table FDB-9 (18_feeds_bays.md): R576. -/
def FD_STAT_OVERDRAW : Fld := ⟨.kdie, 0x400, 1, 0, 7, 1, .ro, 0x0, 255⟩
/-- Table FDB-9 (18_feeds_bays.md): FD_PATH: 0 OR group, 1–3 priority position (R556). -/
def FD_PATH_LINE : Fld := ⟨.kdie, 0x404, 1, 0, 0, 2, .rw, 0x0, 239⟩
/-- Table FDB-9 (18_feeds_bays.md): FD_PATH: 0 OR group, 1–3 priority position (R556). -/
def FD_PATH_DOCK : Fld := ⟨.kdie, 0x404, 1, 0, 2, 2, .rw, 0x0, 239⟩
/-- Table FDB-9 (18_feeds_bays.md): FD_PATH: 0 OR group, 1–3 priority position (R556). -/
def FD_PATH_PACK : Fld := ⟨.kdie, 0x404, 1, 0, 4, 2, .rw, 0x1, 239⟩
/-- Table FDB-9 (18_feeds_bays.md): FD_PACK: 5.60 V + 50 mV × value, 0–28; values above 28 act as 28. -/
def FD_PACK_CUTOFF : Fld := ⟨.kdie, 0x408, 1, 0, 0, 5, .rw, 0x8, 239⟩
/-- Table FDB-9 (18_feeds_bays.md): 50 mV units, 0–20. -/
def FD_PACK_WARN : Fld := ⟨.kdie, 0x408, 1, 0, 5, 5, .rw, 0x4, 239⟩
/-- Table FDB-9 (18_feeds_bays.md): PACK_GRACE, ms, 0–1 000. -/
def FD_PACK_GRACE : Fld := ⟨.kdie, 0x408, 1, 0, 10, 10, .rw, 0x64, 239⟩
/-- Table FDB-9 (18_feeds_bays.md): FD_LIMITS, mW. -/
def FD_LIM_DOCK_LIMIT : Fld := ⟨.kdie, 0x40C, 1, 0, 0, 16, .rw, 0x2710, 239⟩
/-- Table FDB-9 (18_feeds_bays.md): mW. -/
def FD_LIM_PACK_LIMIT : Fld := ⟨.kdie, 0x40C, 1, 0, 16, 16, .rw, 0x2328, 239⟩
/-- Table FDB-9 (18_feeds_bays.md): FD_BASE, mW. -/
def FD_BASE_BASE_MW : Fld := ⟨.kdie, 0x410, 1, 0, 0, 16, .rw, 0xBB8, 239⟩
/-- Table FDB-9 (18_feeds_bays.md): Percent, 50–100; out of range acts as the nearest end. -/
def FD_BASE_LINE_EFF : Fld := ⟨.kdie, 0x410, 1, 0, 16, 7, .rw, 0x58, 239⟩
/-- Table FDB-9 (18_feeds_bays.md): FD_POE_CFG (R566); 0 and 7 act as 6. -/
def FD_POE_CFG_CLASS : Fld := ⟨.kdie, 0x414, 1, 0, 0, 3, .rw, 0x6, 239⟩
/-- Table FDB-9 (18_feeds_bays.md): R569. -/
def FD_POE_CFG_MPS_KEEP : Fld := ⟨.kdie, 0x414, 1, 0, 3, 1, .rw, 0x1, 239⟩
/-- Table FDB-9 (18_feeds_bays.md): R568. -/
def FD_POE_CFG_PD_LIMIT_MW : Fld := ⟨.kdie, 0x414, 1, 0, 16, 16, .rw, 0xFFFF, 239⟩
/-- Table FDB-9 (18_feeds_bays.md): FD_POE_STAT: 0 no PSE, 1 classified, 2 powered. -/
def FD_POE_STATE : Fld := ⟨.kdie, 0x418, 1, 0, 0, 2, .ro, 0x0, 255⟩
/-- Table FDB-9 (18_feeds_bays.md): Class events, 0–5. -/
def FD_POE_EVENTS : Fld := ⟨.kdie, 0x418, 1, 0, 2, 3, .ro, 0x0, 255⟩
/-- Table FDB-9 (18_feeds_bays.md): Granted PD power (Table FDB-3). -/
def FD_POE_PD_MW : Fld := ⟨.kdie, 0x418, 1, 0, 16, 16, .ro, 0x0, 255⟩
/-- Table FDB-9 (18_feeds_bays.md): FD_ALLOW: allowance (R572). -/
def FD_ALLOW_MW : Fld := ⟨.kdie, 0x41C, 1, 0, 0, 16, .ro, 0x0, 255⟩
/-- Table FDB-9 (18_feeds_bays.md): Available power (R571). -/
def FD_AVAIL_MW : Fld := ⟨.kdie, 0x41C, 1, 0, 16, 16, .ro, 0x0, 255⟩
/-- Table FDB-9 (18_feeds_bays.md): FD_PACKLOW, mW. -/
def FD_PACK_LOW_MW : Fld := ⟨.kdie, 0x420, 1, 0, 0, 16, .rw, 0x1770, 239⟩
/-- Table FDB-9 (18_feeds_bays.md): FD_ADC_LIM(c): raw limits for channel c. -/
def FD_ADC_LOW : Fld := ⟨.kdie, 0x440, 16, 4, 0, 12, .rw, 0x0, 239⟩
/-- Table FDB-9 (18_feeds_bays.md): FD_ADC_LIM(c): raw limits for channel c. -/
def FD_ADC_HIGH : Fld := ⟨.kdie, 0x440, 16, 4, 16, 12, .rw, 0xFFF, 239⟩
/-- Table FDB-9 (18_feeds_bays.md): A crossing fires ADC_LIMIT once; it rearms when the value returns within the limits. -/
def FD_ADC_EN_LOW : Fld := ⟨.kdie, 0x440, 16, 4, 28, 1, .rw, 0x0, 239⟩
/-- Table FDB-9 (18_feeds_bays.md): A crossing fires ADC_LIMIT once; it rearms when the value returns within the limits. -/
def FD_ADC_EN_HIGH : Fld := ⟨.kdie, 0x440, 16, 4, 29, 1, .rw, 0x0, 239⟩
/-- Table FDB-10 (18_feeds_bays.md): BY_CFG: 0 SEATED, 1 WINDOW; the lock is open while the bay is OFF (R585). -/
def BY_CFG_MODE : Fld := ⟨.kdie, 0x500, 4, 64, 0, 1, .rwl, 0x0, 255⟩
/-- Table FDB-10 (18_feeds_bays.md): 50 mA units, 10–40. -/
def BY_CFG_ILIM : Fld := ⟨.kdie, 0x500, 4, 64, 1, 6, .rw, 0x1E, 255⟩
/-- Table FDB-10 (18_feeds_bays.md): 0.1 V/ms units, 1–33. -/
def BY_CFG_SLEW : Fld := ⟨.kdie, 0x500, 4, 64, 7, 6, .rw, 0xB, 255⟩
/-- Table FDB-10 (18_feeds_bays.md): R575. -/
def BY_CFG_SHED : Fld := ⟨.kdie, 0x500, 4, 64, 13, 1, .rw, 0x0, 255⟩
/-- Table FDB-10 (18_feeds_bays.md): R572. -/
def BY_CFG_AUTO_BUDGET : Fld := ⟨.kdie, 0x500, 4, 64, 14, 1, .rw, 0x1, 255⟩
/-- Table FDB-10 (18_feeds_bays.md): mW. -/
def BY_CFG_BUDGET_MW : Fld := ⟨.kdie, 0x500, 4, 64, 16, 16, .rw, 0x5DC, 255⟩
/-- Table FDB-10 (18_feeds_bays.md): BY_TIME: 10 ms units, 1–100. -/
def BY_TIME_INS_DELAY : Fld := ⟨.kdie, 0x504, 4, 64, 0, 7, .rw, 0x14, 255⟩
/-- Table FDB-10 (18_feeds_bays.md): 0.25 s units, 1–256. -/
def BY_TIME_RETRY : Fld := ⟨.kdie, 0x504, 4, 64, 7, 9, .rw, 0x8, 255⟩
/-- Table FDB-10 (18_feeds_bays.md): 1–15; 0 acts as 1. -/
def BY_TIME_FLT_LIMIT : Fld := ⟨.kdie, 0x504, 4, 64, 16, 4, .rw, 0x4, 255⟩
/-- Table FDB-10 (18_feeds_bays.md): ms, 1–20. -/
def BY_TIME_ILIM_TIME : Fld := ⟨.kdie, 0x504, 4, 64, 20, 5, .rw, 0x5, 255⟩
/-- Table FDB-10 (18_feeds_bays.md): BY_MAP: slice masks (R577). -/
def BY_MAP_HS : Fld := ⟨.kdie, 0x508, 4, 64, 0, 8, .rw, 0x0, 255⟩
/-- Table FDB-10 (18_feeds_bays.md): BY_MAP: slice masks (R577). -/
def BY_MAP_LP : Fld := ⟨.kdie, 0x508, 4, 64, 8, 16, .rw, 0x0, 255⟩
/-- Table FDB-10 (18_feeds_bays.md): BY_STAT: Table FDB-4. -/
def BY_STAT_STATE : Fld := ⟨.kdie, 0x50C, 4, 64, 0, 3, .ro, 0x0, 255⟩
/-- Table FDB-10 (18_feeds_bays.md): 1: pin driven low. -/
def BY_STAT_SEAT_A : Fld := ⟨.kdie, 0x50C, 4, 64, 3, 1, .ro, 0x0, 0⟩
/-- Table FDB-10 (18_feeds_bays.md): 1: pin driven low. -/
def BY_STAT_SEAT_B : Fld := ⟨.kdie, 0x50C, 4, 64, 4, 1, .ro, 0x0, 0⟩
/-- Table FDB-10 (18_feeds_bays.md): Power good. -/
def BY_STAT_PG : Fld := ⟨.kdie, 0x50C, 4, 64, 5, 1, .ro, 0x0, 0⟩
/-- Table FDB-10 (18_feeds_bays.md): HEAD_LOS_b level; HEAD_INT_b asserted. -/
def BY_STAT_LOS : Fld := ⟨.kdie, 0x50C, 4, 64, 6, 1, .ro, 0x0, 0⟩
/-- Table FDB-10 (18_feeds_bays.md): HEAD_LOS_b level; HEAD_INT_b asserted. -/
def BY_STAT_INT : Fld := ⟨.kdie, 0x50C, 4, 64, 7, 1, .ro, 0x0, 0⟩
/-- Table FDB-10 (18_feeds_bays.md): Consecutive faults (R582). -/
def BY_STAT_COUNT : Fld := ⟨.kdie, 0x50C, 4, 64, 8, 4, .ro, 0x0, 255⟩
/-- Table FDB-10 (18_feeds_bays.md): Table FDB-6 code. -/
def BY_STAT_LAST_FAULT : Fld := ⟨.kdie, 0x50C, 4, 64, 12, 3, .ro, 0x0, 255⟩
/-- Table FDB-10 (18_feeds_bays.md): R577. -/
def BY_STAT_MAP_REJ : Fld := ⟨.kdie, 0x50C, 4, 64, 15, 1, .w1c, 0x0, 255⟩
/-- Table FDB-10 (18_feeds_bays.md): 0.25 s units. -/
def BY_STAT_RETRY_LEFT : Fld := ⟨.kdie, 0x50C, 4, 64, 16, 9, .ro, 0x0, 255⟩
/-- Table FDB-10 (18_feeds_bays.md): BY_CMD: as BAY_CMD (R591); 4–7 ignored. -/
def BY_CMD_ACTION : Fld := ⟨.kdie, 0x510, 4, 64, 0, 3, .wo, 0x0, 0⟩
/-- Table FDB-10 (18_feeds_bays.md): BY_HEAD: as QUERY bytes 2 and 3 (R592), written by Unlon. -/
def BY_HEAD_KIND : Fld := ⟨.kdie, 0x514, 4, 64, 0, 2, .ro, 0x0, 255⟩
/-- Table FDB-10 (18_feeds_bays.md): BY_HEAD: as QUERY bytes 2 and 3 (R592), written by Unlon. -/
def BY_HEAD_STATUS : Fld := ⟨.kdie, 0x514, 4, 64, 2, 2, .ro, 0x0, 255⟩
/-- Table FDB-10 (18_feeds_bays.md): Declared maximum power, mW. -/
def BY_HEAD_DECL_MW : Fld := ⟨.kdie, 0x514, 4, 64, 16, 16, .ro, 0x0, 255⟩
/-- Table FDB-11 (18_feeds_bays.md): Sum of RESERVE_MW over S1–S15 plus S0's charge, mW. -/
def FD_ADMIT_COMMITTED_MW : Fld := ⟨.glob, 0x34, 1, 0, 0, 16, .ro, 0x0, 0⟩
/-- Table FDB-11 (18_feeds_bays.md): R574. -/
def FD_ADMIT_DEFICIT : Fld := ⟨.glob, 0x34, 1, 0, 16, 1, .ro, 0x0, 0⟩
/-- Table KPR-9 (19_keeper_power_states.md): CP_CTL: coded as GL_FLOOR.LEVEL (R619). -/
def CP_CTL_MIN_LEVEL : Fld := ⟨.glob, 0x38, 1, 0, 0, 2, .rw, 0x0, 39⟩
/-- Table KPR-9 (19_keeper_power_states.md): R618. -/
def CP_CTL_HI : Fld := ⟨.glob, 0x38, 1, 0, 4, 4, .rw, 0x8, 39⟩
/-- Table KPR-9 (19_keeper_power_states.md): R618. -/
def CP_CTL_LO : Fld := ⟨.glob, 0x38, 1, 0, 8, 4, .rw, 0x4, 39⟩
/-- Table KPR-9 (19_keeper_power_states.md): CP_STAT: VDD_CORE = 0.650 V + 5 mV × value. -/
def CP_STAT_VDD : Fld := ⟨.glob, 0x3C, 1, 0, 0, 6, .ro, 0x0, 0⟩
/-- Table KPR-9 (19_keeper_power_states.md): R622. -/
def CP_STAT_AVS_FAIL : Fld := ⟨.glob, 0x3C, 1, 0, 6, 1, .ro, 0x0, 0⟩
/-- Table KPR-9 (19_keeper_power_states.md): Smallest monitor margin in the latest loop. -/
def CP_STAT_MARGIN : Fld := ⟨.glob, 0x3C, 1, 0, 7, 4, .ro, 0x0, 0⟩
/-- Table KPR-9 (19_keeper_power_states.md): R619. -/
def CP_STAT_SLICE_FLOOR : Fld := ⟨.glob, 0x3C, 1, 0, 11, 2, .ro, 0x0, 0⟩
/-- Table KPR-9 (19_keeper_power_states.md): GL_TIME: device time (R21, R597). -/
def GL_TIME : Fld := ⟨.glob, 0x40, 1, 0, 0, 64, .ro, 0x0, 255⟩
/-- Table KPR-9 (19_keeper_power_states.md): GL_REFIN: 0 none, 1 2.048 MHz, 2 1.544 MHz, 3 10 MHz, 4 8 kHz, 5 1PPS; 6–7 act as 0. -/
def GL_REFIN_SEL : Fld := ⟨.glob, 0x48, 1, 0, 0, 3, .rw, 0x0, 103⟩
/-- Table KPR-9 (19_keeper_power_states.md): R595. -/
def GL_REFIN_VALID : Fld := ⟨.glob, 0x48, 1, 0, 3, 1, .ro, 0x0, 0⟩
/-- Table KPR-10 (19_keeper_power_states.md): µs (R611). -/
def LAT_TOL : Fld := ⟨.ses, 0x1C0, 1, 0, 0, 24, .rw, 0xFFFFFF, 225⟩
/-- Table KPR-11 (19_keeper_power_states.md): KP_TIME, 64-bit: keeper time (R22). -/
def KP_KTIME : Fld := ⟨.kdie, 0x600, 1, 0, 0, 48, .ro, 0x0, 255⟩
/-- Table KPR-11 (19_keeper_power_states.md): KP_PWR_CTL: R612; 5–7 act as 4. -/
def KP_PWR_CTL_FLOOR : Fld := ⟨.kdie, 0x608, 1, 0, 0, 3, .rw, 0x3, 239⟩
/-- Table KPR-11 (19_keeper_power_states.md): R604, ms, 1–1 000; 0 acts as 1. -/
def KP_PWR_CTL_HOLD_MS : Fld := ⟨.kdie, 0x608, 1, 0, 3, 10, .rw, 0xA, 239⟩
/-- Table KPR-11 (19_keeper_power_states.md): R602. -/
def KP_PWR_CTL_USER_WAKE : Fld := ⟨.kdie, 0x608, 1, 0, 13, 1, .rw, 0x1, 239⟩
/-- Table KPR-11 (19_keeper_power_states.md): KP_PWR_STAT: Table KPR-3 code, 6 ENTERING, 7 WAKING. -/
def KP_PWR_STAT_EDIE : Fld := ⟨.kdie, 0x60C, 1, 0, 0, 3, .ro, 0x0, 255⟩
/-- Table KPR-11 (19_keeper_power_states.md): Cause of the latest wake: source 0–31, or 63 for a WAKE entry. -/
def KP_PWR_STAT_WAKE_SRC : Fld := ⟨.kdie, 0x60C, 1, 0, 3, 6, .ro, 0x0, 255⟩
/-- Table KPR-11 (19_keeper_power_states.md): R623 occurred. -/
def KP_PWR_STAT_THERM_SHUT : Fld := ⟨.kdie, 0x60C, 1, 0, 9, 1, .w1c, 0x0, 255⟩
/-- Table KPR-11 (19_keeper_power_states.md): Abandoned Stow entries (R615), saturating. -/
def KP_PWR_STAT_ABORTS : Fld := ⟨.kdie, 0x60C, 1, 0, 16, 8, .rc, 0x0, 255⟩
/-- Table KPR-11 (19_keeper_power_states.md): KP_DOM: 2 bits each for CORE, HELM0–HELM3, HSQ0, HSQ1, LIU, from bit 0: 0 Run, 1 Doze, 2 Nap. -/
def KP_DOM : Fld := ⟨.kdie, 0x610, 1, 0, 0, 16, .ro, 0x0, 0⟩
/-- Table KPR-11 (19_keeper_power_states.md): KP_CAL(e), e = 0–63: keeper time[31:0]. -/
def KP_CAL_TIME_LO : Fld := ⟨.kdie, 0x800, 64, 16, 0, 32, .ro, 0x0, 255⟩
/-- Table KPR-11 (19_keeper_power_states.md): Keeper time[47:32]. -/
def KP_CAL_TIME_HI : Fld := ⟨.kdie, 0x804, 64, 16, 0, 16, .ro, 0x0, 255⟩
/-- Table KPR-11 (19_keeper_power_states.md): Entry pending. -/
def KP_CAL_VALID : Fld := ⟨.kdie, 0x804, 64, 16, 16, 1, .ro, 0x0, 255⟩
/-- Table KPR-11 (19_keeper_power_states.md): 1 WAKE, 2 RAISE. -/
def KP_CAL_ACTION : Fld := ⟨.kdie, 0x804, 64, 16, 17, 2, .ro, 0x0, 255⟩
/-- Table KPR-11 (19_keeper_power_states.md): Software source. -/
def KP_CAL_K : Fld := ⟨.kdie, 0x804, 64, 16, 19, 4, .ro, 0x0, 255⟩
/-- Table RST-6 (20_reset_startup.md): 1: warm reset. -/
def GL_RESET_WARM : Fld := ⟨.glob, 0x20, 1, 0, 0, 1, .wo, 0x0, 0⟩
/-- Table RST-6 (20_reset_startup.md): 1: cold reset; COLD wins when both are written. -/
def GL_RESET_COLD : Fld := ⟨.glob, 0x20, 1, 0, 1, 1, .wo, 0x0, 0⟩
/-- Table RST-6 (20_reset_startup.md): Must be 0x5A in the same write. -/
def GL_RESET_KEY : Fld := ⟨.glob, 0x20, 1, 0, 8, 8, .wo, 0x0, 0⟩
/-- Table RST-7 (20_reset_startup.md): Written as each event completes: 0 POR-K, 1 cold by keeper port, 2 cold by GL_RESET or a failed Unlon check, 3 cold after a failed Attic image, 4 cold after thermal shutdown, 5 warm by GL_RESET, 6 warm by PF0 FLR, 7 warm by Hot Reset or Link Disable, 8 warm by FAULT_HOLD auto-reset, 9 wake from Stow, 10 wake from Moor. -/
def GL_RST_CAUSE : Fld := ⟨.glob, 0x24, 1, 0, 0, 4, .ro, 0x0, 0⟩
/-- Table RST-8 (20_reset_startup.md): 1: Unlon has reported ready. -/
def GL_BOOT_READY : Fld := ⟨.glob, 0x28, 1, 0, 0, 1, .ro, 0x0, 0⟩
/-- Table RST-8 (20_reset_startup.md): Slot running: 0 A, 1 B. -/
def GL_BOOT_SLOT : Fld := ⟨.glob, 0x28, 1, 0, 1, 1, .ro, 0x0, 0⟩
/-- Table RST-8 (20_reset_startup.md): Slot A failed in this boot. -/
def GL_BOOT_FAIL_A : Fld := ⟨.glob, 0x28, 1, 0, 2, 1, .ro, 0x0, 0⟩
/-- Table RST-8 (20_reset_startup.md): Slot B failed in this boot. -/
def GL_BOOT_FAIL_B : Fld := ⟨.glob, 0x28, 1, 0, 3, 1, .ro, 0x0, 0⟩
/-- Table RST-8 (20_reset_startup.md): Last failure: 1 magic or length, 2 digest, 3 signature, 4 flash did not answer. -/
def GL_BOOT_FAIL_CAUSE : Fld := ⟨.glob, 0x28, 1, 0, 4, 4, .ro, 0x0, 0⟩
/-- Table RST-8 (20_reset_startup.md): VERSION of the running image. -/
def GL_UNLON_VERSION : Fld := ⟨.glob, 0x2C, 1, 0, 0, 32, .ro, 0x0, 0⟩
/-- Table RST-9 (20_reset_startup.md): 1: slice reset (R626); reads 1 until complete. -/
def SLICE_CTL_RESET : Fld := ⟨.slice, 0x1C, 1, 0, 0, 1, .w1s, 0x0, 0⟩
/-- Table RST-10 (20_reset_startup.md): KP_RST: latest cause, coded as GL_RST_CAUSE. -/
def KP_RST_LAST : Fld := ⟨.kdie, 0x700, 1, 0, 0, 4, .ro, 0x0, 255⟩
/-- Table RST-10 (20_reset_startup.md): R635. -/
def KP_RST_BOOT_FAIL : Fld := ⟨.kdie, 0x700, 1, 0, 4, 1, .ro, 0x0, 255⟩
/-- Table RST-10 (20_reset_startup.md): QSPI balls released (R635). -/
def KP_RST_QSPI_REL : Fld := ⟨.kdie, 0x700, 1, 0, 5, 1, .ro, 0x0, 0⟩
/-- Table RST-10 (20_reset_startup.md): Tether losses (R640), saturating. -/
def KP_RST_TETHER_LOST : Fld := ⟨.kdie, 0x700, 1, 0, 8, 8, .rc, 0x0, 255⟩
/-- Table RST-10 (20_reset_startup.md): KP_TETHER: 1 Tether working. -/
def KP_TETHER_UP : Fld := ⟨.kdie, 0x704, 1, 0, 0, 1, .ro, 0x0, 0⟩
/-- Table RST-10 (20_reset_startup.md): Resends (R640), saturating. -/
def KP_TETHER_RETRIES : Fld := ⟨.kdie, 0x704, 1, 0, 8, 8, .rc, 0x0, 255⟩
/-- Table HLT-6 (21_health.md): R650, s, 1–86 400; 0 acts as 1. -/
def HL_CFG_DEFER_S : Fld := ⟨.glob, 0x12000, 1, 0, 0, 17, .rw, 0x258, 47⟩
/-- Table HLT-6 (21_health.md): 1: R656 runs. -/
def HL_CFG_PATROL_EN : Fld := ⟨.glob, 0x12000, 1, 0, 17, 1, .rw, 0x1, 47⟩
/-- Table HLT-6 (21_health.md): 1: R657 runs. -/
def HL_CFG_MBIST_EN : Fld := ⟨.glob, 0x12000, 1, 0, 18, 1, .rw, 0x1, 47⟩
/-- Table HLT-6 (21_health.md): 1: R658 runs. -/
def HL_CFG_CHART_EN : Fld := ⟨.glob, 0x12000, 1, 0, 19, 1, .rw, 0x1, 47⟩
/-- Table HLT-7 (21_health.md): Larder pass period, s, 10–3 600; out of range acts as the nearest end. -/
def HL_BG_CFG_LARDER_S : Fld := ⟨.glob, 0x12004, 1, 0, 0, 12, .rw, 0x3C, 47⟩
/-- Table HLT-7 (21_health.md): Cellar pass period, h, 1–168. -/
def HL_BG_CFG_CELLAR_H : Fld := ⟨.glob, 0x12004, 1, 0, 12, 8, .rw, 0x18, 47⟩
/-- Table HLT-7 (21_health.md): Background MBIST interval, s, 1–1 000. -/
def HL_BG_CFG_MBIST_S : Fld := ⟨.glob, 0x12004, 1, 0, 20, 10, .rw, 0xA, 47⟩
/-- Table HLT-8 (21_health.md): DPA of the latest uncorrectable error; for Helm, Chart and Steward memories, the number of DATA in Table HLT-4. -/
def HL_ECC_LOG_ADDR : Fld := ⟨.glob, 0x12008, 1, 0, 0, 40, .ro, 0x0, 47⟩
/-- Table HLT-8 (21_health.md): CAUSE bits of Table HLT-4, source 34. -/
def HL_ECC_LOG_KIND : Fld := ⟨.glob, 0x12008, 1, 0, 40, 7, .ro, 0x0, 47⟩
/-- Table HLT-8 (21_health.md): 1: found by patrol. -/
def HL_ECC_LOG_PATROL : Fld := ⟨.glob, 0x12008, 1, 0, 47, 1, .ro, 0x0, 47⟩
/-- Table HLT-8 (21_health.md): Uncorrectable errors since read, saturating. -/
def HL_ECC_LOG_COUNT : Fld := ⟨.glob, 0x12008, 1, 0, 48, 16, .rc, 0x0, 47⟩
/-- Table HLT-9 (21_health.md): Injections passed, both Stewards, wrapping. -/
def HL_LOCKSTEP_INJ_OK : Fld := ⟨.glob, 0x12010, 1, 0, 0, 24, .ro, 0x0, 47⟩
/-- Table HLT-9 (21_health.md): R661; a warm reset after the dump clears it. -/
def HL_LOCKSTEP_CONSEC : Fld := ⟨.glob, 0x12010, 1, 0, 24, 1, .ro, 0x0, 0⟩
/-- Table HLT-10 (21_health.md): Bit h: Helm h marked failed (R652). -/
def HL_FAIL_HELM : Fld := ⟨.glob, 0x12018, 1, 0, 0, 32, .ro, 0x0, 47⟩
/-- Table HLT-11 (21_health.md): HL_CNT_CTL: R665. -/
def HL_CNT_CTL_SNAP : Fld := ⟨.glob, 0x12100, 1, 0, 0, 1, .w1s, 0x0, 0⟩
/-- Table HLT-11 (21_health.md): HL_SNAP_TIME: device time of the latest snapshot. -/
def HL_SNAP_TIME : Fld := ⟨.glob, 0x12108, 1, 0, 0, 64, .ro, 0x0, 47⟩
/-- Table HLT-11 (21_health.md): HL_CNT(i), i = 0–255: snapshot of counter i. -/
def HL_CNT_VALUE : Fld := ⟨.glob, 0x14000, 256, 8, 0, 48, .ro, 0x0, 47⟩
/-- Table HLT-12 (21_health.md): Bit k: kind k completed since cold reset. -/
def CAL_STAT_DONE : Fld := ⟨.slice, 0x30, 1, 0, 0, 3, .ro, 0x0, 239⟩
/-- Table HLT-12 (21_health.md): Bit 3 + k: the latest calibration of kind k failed, and the previous trim is kept. -/
def CAL_STAT_FAILED : Fld := ⟨.slice, 0x30, 1, 0, 3, 3, .ro, 0x0, 239⟩
/-- Table LOG-9 (22_logbook.md): A dump is in the region and has not been marked read. -/
def LG_STAT_VALID : Fld := ⟨.glob, 0xB000, 1, 0, 0, 1, .ro, 0x0, 111⟩
/-- Table LOG-9 (22_logbook.md): FLAGS.COMPLETE of that dump. -/
def LG_STAT_COMPLETE : Fld := ⟨.glob, 0xB000, 1, 0, 1, 1, .ro, 0x0, 111⟩
/-- Table LOG-9 (22_logbook.md): Its CAUSE. -/
def LG_STAT_CAUSE : Fld := ⟨.glob, 0xB000, 1, 0, 2, 4, .ro, 0x0, 111⟩
/-- Table LOG-9 (22_logbook.md): R670. -/
def LG_STAT_OVW_UNREAD : Fld := ⟨.glob, 0xB000, 1, 0, 6, 1, .w1c, 0x0, 111⟩
/-- Table LOG-9 (22_logbook.md): 1: in FAULT_HOLD. -/
def LG_STAT_HOLD : Fld := ⟨.glob, 0xB000, 1, 0, 7, 1, .ro, 0x0, 0⟩
/-- Table LOG-10 (22_logbook.md): Auto-reset time, s, 1–3 600; 0 never; above 3 600 acts as 3 600. -/
def LG_CTL_AUTO_S : Fld := ⟨.glob, 0xB004, 1, 0, 0, 12, .rw, 0x0, 111⟩
/-- Table LOG-10 (22_logbook.md): 1: marks the dump read; VALID = 0, and the contents are kept. -/
def LG_CTL_READ : Fld := ⟨.glob, 0xB004, 1, 0, 12, 1, .w1s, 0x0, 0⟩
/-- Table LOG-10 (22_logbook.md): R684. -/
def LG_CTL_FORCE : Fld := ⟨.glob, 0xB004, 1, 0, 13, 1, .wo, 0x0, 0⟩
/-- Table LOG-10 (22_logbook.md): 0xA5 in the same write as FORCE. -/
def LG_CTL_KEY : Fld := ⟨.glob, 0xB004, 1, 0, 16, 8, .wo, 0x0, 0⟩
/-- Table LOG-11 (22_logbook.md): Region base (R669). -/
def LG_BASE_DPA : Fld := ⟨.glob, 0xB008, 1, 0, 0, 40, .ro, 0x0, 111⟩
/-- Table LOG-11 (22_logbook.md): R681. -/
def LG_COUNT : Fld := ⟨.kdie, 0xC00, 1, 0, 0, 64, .ro, 0x0, 255⟩
/-- Table REG-2 (23_register_index.md): R686. -/
def WIN_PAGE : Fld := ⟨.ses, 0x1D0, 1, 0, 0, 3, .rw, 0x0, 225⟩

/-- The fields of the PF0 global registers, part 1. -/
def globFlds1 : List Fld :=
  [GL_ID_PART, GL_ID_REV_MAJOR, GL_ID_REV_MINOR, GL_CAPS_NUM_HS, GL_CAPS_NUM_LP, GL_CAPS_NUM_HELM, GL_CAPS_NUM_STEWARD, GL_MEM_LARDER_MIB, GL_MEM_CELLAR_GIB, GL_MEM_CELLAR_ECC, SES_MAPC_INV_SESSION, SES_MAPC_INV_ALL, SES_MAPC_INV_PAGE, SES_MAPC_INV_BUSY, SES_SCRUB_STAT_PENDING, SES_SCRUB_STAT_ENGINES, GL_LINK_STAT_SPEED, GL_LINK_STAT_WIDTH, GL_LINK_STAT_LINK, GL_LINK_STAT_PERST, GL_LINK_STAT_TAGS_BUSY, GL_BAR2_APERTURE_BASE, GL_HOST_CTL_STALL, GL_HOST_CTL_L1_IDLE]
/-- The fields of the PF0 global registers, part 2. -/
def globFlds2 : List Fld :=
  [GL_HOST_CTL_LTR_US, GL_HOST_ERR_CTO, GL_HOST_ERR_BADCPL, GL_HOST_ERR_UNEXP, GL_FLOOR_REQUIRED, GL_FLOOR_LEVEL, GL_FLOOR_THROTTLE, CH_SEL_ACTIVE, CH_SEL_PENDING, CH_SEL_KIND, CH_FC, CH_ERR_PERR_CNT, CH_ERR_SPARES_USED, PM_ALIGN, CU_LPOOL_SIZE, CU_CPOOL_SIZE, CU_FREE_LFREE, CU_FREE_CFREE, CU_ARB_PTR, MX_WEIGHT_HOST_DMA, MX_WEIGHT_CHUTE_WR, MX_WEIGHT_STEWARD0, MX_WEIGHT_STEWARD1, MX_WEIGHT_LOGBOOK]
/-- The fields of the PF0 global registers, part 3. -/
def globFlds3 : List Fld :=
  [MX_WEIGHT_HELM_GEN, MX_STALL_LIMIT, MX_ERR_DECODE, MX_ERR_ATOMIC, MX_ERR_UNCORR, MX_ERR_LAST_MASTER, MX_CELLAR_RATE, MX_CELLAR_INLINE_ECC, MX_CELLAR_ADDR_MIB, MX_STAT_STAGE_KIB, MX_STAT_CRED_WAIT, MX_STAT_LWQ, MX_STAT_CWQ, BC_SET_BC_SET, BC_ERR_RSV_SRC, BC_ERR_ROUTE, BC_VCLAIM_SRC, FD_ADMIT_COMMITTED_MW, FD_ADMIT_DEFICIT, CP_CTL_MIN_LEVEL, CP_CTL_HI, CP_CTL_LO, CP_STAT_VDD, CP_STAT_AVS_FAIL]
/-- The fields of the PF0 global registers, part 4. -/
def globFlds4 : List Fld :=
  [CP_STAT_MARGIN, CP_STAT_SLICE_FLOOR, GL_TIME, GL_REFIN_SEL, GL_REFIN_VALID, GL_RESET_WARM, GL_RESET_COLD, GL_RESET_KEY, GL_RST_CAUSE, GL_BOOT_READY, GL_BOOT_SLOT, GL_BOOT_FAIL_A, GL_BOOT_FAIL_B, GL_BOOT_FAIL_CAUSE, GL_UNLON_VERSION, HL_CFG_DEFER_S, HL_CFG_PATROL_EN, HL_CFG_MBIST_EN, HL_CFG_CHART_EN, HL_BG_CFG_LARDER_S, HL_BG_CFG_CELLAR_H, HL_BG_CFG_MBIST_S, HL_ECC_LOG_ADDR, HL_ECC_LOG_KIND]
/-- The fields of the PF0 global registers, part 5. -/
def globFlds5 : List Fld :=
  [HL_ECC_LOG_PATROL, HL_ECC_LOG_COUNT, HL_LOCKSTEP_INJ_OK, HL_LOCKSTEP_CONSEC, HL_FAIL_HELM, HL_CNT_CTL_SNAP, HL_SNAP_TIME, HL_CNT_VALUE, LG_STAT_VALID, LG_STAT_COMPLETE, LG_STAT_CAUSE, LG_STAT_OVW_UNREAD, LG_STAT_HOLD, LG_CTL_AUTO_S, LG_CTL_READ, LG_CTL_FORCE, LG_CTL_KEY, LG_BASE_DPA]
/-- The fields of the PF0 global registers. -/
def globFlds : List Fld := globFlds1 ++ globFlds2 ++ globFlds3 ++ globFlds4 ++ globFlds5
/-- The fields of the per-session PF0 words, part 1. -/
def sesPfFlds1 : List Fld :=
  [SES_CTL_STATE, SES_CTL_QUOTA, SES_CTL_MAPC_SHARE, SES_CTL_SESSION_RESET, SES_POWER_RESERVE_MW, SES_POWER_CHARGED_MW, SES_MAP_BASE, SES_WALK_ADDR, SES_WALK_LIM_ADDR]
/-- The fields of the per-session PF0 words. -/
def sesPfFlds : List Fld := sesPfFlds1
/-- The fields of a session control block, part 1. -/
def sesFlds1 : List Fld :=
  [SES_WORD_IN_FLIGHT, SES_KEY_KEY, SES_KEYC_COMMIT, SES_KEYC_KEY_SET, SES_VIOL_VIOL_COUNT, SES_VIOL_VIOL_OFFSET, SES_FAULT_FAULT_CAUSE, SES_FAULT_FAULT_MASTER, SES_FAULTA_FAULT_ADDR, SQ_BASE_ADDR, SQ_CFG_LOG2_SIZE, SQ_CFG_EN, SQ_STAT_HEAD, SQ_STAT_TAIL, SQ_STAT_RING_ERR, CQ_BASE_ADDR, CQ_CFG_LOG2_SIZE, CQ_CFG_EN, CQ_STAT_TAIL, CQ_STAT_PHASE, CQ_STAT_RESERVED_SLOTS, CQ_STAT_HELD, SQ_DB_SQ_TAIL, CQ_DB_CQ_HEAD]
/-- The fields of a session control block, part 2. -/
def sesFlds2 : List Fld :=
  [EQ_BASE_ADDR, EQ_CFG_LOG2_SIZE, EQ_CFG_EN, EQ_STAT_TAIL, EQ_STAT_PHASE, EQ_STAT_ARM, SW_DATA, SW_RAISE, BC_CLAIM, BC_EOI, BC_QSTAT_DROP, EQ_DB_EQ_HEAD, LAT_TOL, WIN_PAGE]
/-- The fields of a session control block. -/
def sesFlds : List Fld := sesFlds1 ++ sesFlds2
/-- OV_CFG(l) exists for layers 1 to 8; its constant counts copies from layer 0, so that its copy number is the layer. -/
def layerFld (f : Fld) : Fld := { f with off := 0x264, copies := 8 }
/-- The fields every slice has, part 1. -/
def sliceFlds1 : List Fld :=
  [LINE_STAT_LSTATE, LINE_STAT_STAGE, LINE_STAT_FORMAT, LINE_STAT_SIG, LINE_STAT_LOCK, LINE_STAT_SETTLED, LINE_STAT_TX_ON, LINE_STAT_RESTARTS, LINE_STAT_TXTIME, LINE_STAT_TX_HOLDOVER, ACQ_TMO0_T_SIGNAL, ACQ_TMO0_T_LOCK, ACQ_TMO0_T_ADAPT, ACQ_TMO1_T_FRAME, ACQ_TMO1_T_HANDSHAKE, ADAPT_CTL_FREEZE, ADAPT_CTL_BG_OFF, ADAPT_CTL_SNAP, FR_CFG_N, FR_CFG_M, FR_CFG_W, FR_CFG_CRC6_OFF, FR_CFG_LOSS_NFAS, FR_CFG2_MF_N]
/-- The fields every slice has, part 2. -/
def sliceFlds2 : List Fld :=
  [FR_CFG2_MF_M, FR_CTL_REFRAME, FR_CTL_MF_REFRAME, FR_STAT_STATE, FR_STAT_MF_STATE, FR_STAT_OOF, FR_STAT_OOM, FR_STAT_CAUSE, FR_STAT_CAND, FR_STAT_ERR_WIN, FR_CNT_OOF_CNT, FR_CNT_OOM_CNT, FR_IF_TIME, FR_OOF_TIME, OV_DEF_DEF, OV_DEF_LATCH_LATCH, OV_PROG_PROG, layerFld OV_CFG_LOF_MS, layerFld OV_CFG_TIM_EN, layerFld OV_CFG_PLM_EN, layerFld OV_CFG_DEG_EN, layerFld OV_CFG_EXC_EN, layerFld OV_CFG_DEGM, layerFld OV_CFG_DEGTHR]
/-- The fields every slice has, part 3. -/
def sliceFlds3 : List Fld :=
  [layerFld OV_CFG_EXC_X, layerFld OV_CFG_TIM_SEL, layerFld OV_CFG_RAW_WR, layerFld OV_CFG_TRC_LEN, OV_LABEL_C2, OV_LABEL_PT, OV_PATH_SEL_INDEX, OV_CONSEQ_DOWN_EN, OV_CONSEQ_BACK_EN, OV_CONSEQ_TIM_AIS, OV_CONSEQ_PLM_AIS, OV_INS_LAYER, OV_INS_ITEM, OV_INS_MODE, OV_INS_MAN, OV_INS_EXP, OV_INS_COUNT, OV_FORCE_LAYER, OV_FORCE_AIS, OV_FORCE_RDI, OV_FORCE_UNEQ, OV_FORCE_LOF, OV_FORCE_LOS, OV_FORCE_LCK]
/-- The fields every slice has, part 4. -/
def sliceFlds4 : List Fld :=
  [OV_FORCE_LF, OV_FORCE_RF, OV_LPRBS_GEN, OV_LPRBS_CHK, OV_LPRBS_CODE, OV_LPRBS_SCOPE, OV_LPRBS_SYNC, OV_LPRBS_HELD, OV_LPRBS_ERR, SLICE_CTL_RESET, CAL_STAT_DONE, CAL_STAT_FAILED]
/-- The trace memories, 16 words each. -/
def sliceFlds5 : List Fld :=
  [1, 2, 4, 5].flatMap fun t =>
    [{ EXP_TRC_EXP_TRC with off := 0x400 + 0x80 * t, copies := 16 }, { TX_TRC_TX_TRC with off := 0x440 + 0x80 * t, copies := 16 }]
/-- The fields every slice has. -/
def sliceFlds : List Fld := sliceFlds1 ++ sliceFlds2 ++ sliceFlds3 ++ sliceFlds4 ++ sliceFlds5
/-- The fields only HS slices have, part 1. -/
def sliceHSFlds1 : List Fld :=
  [ADAPT_CTL_SD_MV, HS_RPT0_CTLE, HS_RPT0_DFE1, HS_RPT0_DFE2, HS_RPT0_VGA, HS_RPT1_EYE_H, HS_RPT1_EYE_W, FR_BOND_LOCKED, FR_BOND_ALIGNED, FR_BOND_SKEW_OVR, FR_BOND_LANE_DUP, FR_LANE_PHYS, FR_LANE_POS, FR_LANE_SKEW, FR_LANE_MK_ERR]
/-- The fields only HS slices have. -/
def sliceHSFlds : List Fld := sliceHSFlds1
/-- The fields only LP slices have, part 1. -/
def sliceLPFlds1 : List Fld :=
  [LP_RPT_EQ_GAIN, LP_RPT_LOSS_EST, LP_RPT_PEAK, LP_LOOP_PENDING, LP_LOOP_CONFIRMED, LP_LOOP_KIND, LP_LOOP_TIME_UP_MS, LP_LOOP_TIME_DOWN_MS, LP_LOOP_CODE_UP_CODE, LP_LOOP_CODE_UP_LEN, LP_LOOP_CODE_DOWN_CODE, LP_LOOP_CODE_DOWN_LEN]
/-- The fields only LP slices have. -/
def sliceLPFlds : List Fld := sliceLPFlds1
/-- The fields of a Helm block, part 1. -/
def helmFlds1 : List Fld :=
  [HM_STAT_PSTATE, HM_STAT_PC, HM_STAT_KIND, HM_STAT_WR_IGN, HM_FAULT_CAUSE, HM_FAULT_PC, HM_FAULT_KIND, HM_EVQ_DEPTH, HM_EVQ_DROP, HM_ECC_CORR, HM_REGS_G, HM_BUDGET_LOAD, HM_BUDGET_FLOOR, HM_PEAK_PEAK]
/-- The fields of a Helm block. -/
def helmFlds : List Fld := helmFlds1
/-- The fields of a Chart entry, part 1. -/
def entryFlds1 : List Fld :=
  [CH_WA_WORD, CH_WB_WORD, CH_CFG_TIM_EN, CH_CFG_PLM_EN, CH_CFG_DEG_EN, CH_CFG_EXC_EN, CH_CFG_DEGM, CH_CFG_DEGTHR, CH_CFG_EXC_X, CH_STAT_WORD, CH_STAT_GFP, CH_STAT_MISFIT, CH_STAT_ORPHAN, CH_STAT_PERR, CH_STAT_PERR_INACT, CH_STAT_SPARED, CH_EXP_J2]
/-- The fields of a Chart entry. -/
def entryFlds : List Fld := entryFlds1
/-- The fields of a pattern unit, part 1. -/
def puFlds1 : List Fld :=
  [PU_CTL_CODE, PU_CTL_RUN, PU_CTL_MAN, PU_CTL_EXP, PU_WORD_WORD, PU_STAT_SYNC, PU_STAT_LOSS, PU_ERR, PU_BITS]
/-- The fields of a pattern unit. -/
def puFlds : List Fld := puFlds1
/-- The fields of a Chute, part 1. -/
def chuteFlds1 : List Fld :=
  [CU_STAT_FILL, CU_STAT_OPEN, CU_STAT_FULL, CU_STAT_EMPTY, CU_STAT_WAYPT, CU_STAT_CONSUMER, CU_DROP, CU_ERR_PTR_MISMATCH, CU_ERR_OVERLEN, CU_ERR_GAPS, CU_CON_OWN, CU_CON_MARK, CU_CON_REWIND, CU_CON_RELEASE, CU_CON_AUTO, CU_POP, CU_POP_VALID, CU_POP_SOP, CU_POP_EOP, CU_POP_GAP, CU_HACK, CU_DELIV, CU_HELD]
/-- The fields of a Chute. -/
def chuteFlds : List Fld := chuteFlds1
/-- The fields of a CU_POOL pair, part 1. -/
def poolFlds1 : List Fld :=
  [CU_POOL_L_RES, CU_POOL_L_USED, CU_POOL_C_RES, CU_POOL_C_USED]
/-- The fields of a CU_POOL pair. -/
def poolFlds : List Fld := poolFlds1
/-- The fields of a PM point, part 1. -/
def pointFlds1 : List Fld :=
  [PM_CFG_SRC, PM_CFG_SEL, PM_CFG_ITEM, PM_CFG_PROFILE, PM_CFG_FREE, PM_CFG_ATTACHED, PM_CFG_ORPHANED, PM_THR_SES_THR, PM_STAT_GATE, PM_STAT_NE_UNAV, PM_STAT_FE_UNAV, PM_STAT_NE_PEND, PM_STAT_FE_PEND, PM_STAT_SOAKED, PM_ATT_SRC, PM_ATT_SEL, PM_ATT_DETACH, PM_ATT_GO, PM_BIN]
/-- The fields of a PM point. -/
def pointFlds : List Fld := pointFlds1
/-- The fields of a protection group, part 1. -/
def groupFlds1 : List Fld :=
  [PS_STAT_REQ, PS_STAT_SEL, PS_STAT_BRIDGE, PS_STAT_WTR_RUN, PS_STAT_PSB_FAIL, PS_STAT_CH_MM, PS_STAT_ARCH_MM, PS_STAT_MODE_MM, PS_STAT_SF_W, PS_STAT_SD_W, PS_STAT_SF_P, PS_STAT_SD_P, PS_STAT_SHADOW, PS_STAT_CONFIGURED, PS_STAT_ARMED, PS_STAT_OPEN, PS_K_K1_TX, PS_K_K2_TX, PS_K_K1_RX, PS_K_K2_RX, PS_SWITCHES, PS_WTR_LEFT, PS_MTR_LAST, PS_MTR_MAX]
/-- The fields of a protection group, part 2. -/
def groupFlds2 : List Fld :=
  [PS_MTR_EVENTS, PS_LOG_OVW]
/-- The fields of a protection group. -/
def groupFlds : List Fld := groupFlds1 ++ groupFlds2
/-- The fields of the K-die registers, part 1. -/
def kdieFlds1 : List Fld :=
  [KP_ID_ID, KP_PORT_STAT_CRC_ERR, KP_PORT_STAT_ABORT, KP_ADC_RAW, KP_ADC_VALID, KP_ADC_CTL_AVG, KP_WAKE_EN, KP_WLATCH_LATCH, KP_WTIME_KTIME, KP_WTIME_EDGES, FD_STAT_VALID, FD_STAT_SYS_PATH, FD_STAT_PACK_LOW, FD_STAT_CUTOFF, FD_STAT_OVERDRAW, FD_PATH_LINE, FD_PATH_DOCK, FD_PATH_PACK, FD_PACK_CUTOFF, FD_PACK_WARN, FD_PACK_GRACE, FD_LIM_DOCK_LIMIT, FD_LIM_PACK_LIMIT, FD_BASE_BASE_MW]
/-- The fields of the K-die registers, part 2. -/
def kdieFlds2 : List Fld :=
  [FD_BASE_LINE_EFF, FD_POE_CFG_CLASS, FD_POE_CFG_MPS_KEEP, FD_POE_CFG_PD_LIMIT_MW, FD_POE_STATE, FD_POE_EVENTS, FD_POE_PD_MW, FD_ALLOW_MW, FD_AVAIL_MW, FD_PACK_LOW_MW, FD_ADC_LOW, FD_ADC_HIGH, FD_ADC_EN_LOW, FD_ADC_EN_HIGH, BY_CFG_MODE, BY_CFG_ILIM, BY_CFG_SLEW, BY_CFG_SHED, BY_CFG_AUTO_BUDGET, BY_CFG_BUDGET_MW, BY_TIME_INS_DELAY, BY_TIME_RETRY, BY_TIME_FLT_LIMIT, BY_TIME_ILIM_TIME]
/-- The fields of the K-die registers, part 3. -/
def kdieFlds3 : List Fld :=
  [BY_MAP_HS, BY_MAP_LP, BY_STAT_STATE, BY_STAT_SEAT_A, BY_STAT_SEAT_B, BY_STAT_PG, BY_STAT_LOS, BY_STAT_INT, BY_STAT_COUNT, BY_STAT_LAST_FAULT, BY_STAT_MAP_REJ, BY_STAT_RETRY_LEFT, BY_CMD_ACTION, BY_HEAD_KIND, BY_HEAD_STATUS, BY_HEAD_DECL_MW, KP_KTIME, KP_PWR_CTL_FLOOR, KP_PWR_CTL_HOLD_MS, KP_PWR_CTL_USER_WAKE, KP_PWR_STAT_EDIE, KP_PWR_STAT_WAKE_SRC, KP_PWR_STAT_THERM_SHUT, KP_PWR_STAT_ABORTS]
/-- The fields of the K-die registers, part 4. -/
def kdieFlds4 : List Fld :=
  [KP_DOM, KP_CAL_TIME_LO, KP_CAL_TIME_HI, KP_CAL_VALID, KP_CAL_ACTION, KP_CAL_K, KP_RST_LAST, KP_RST_BOOT_FAIL, KP_RST_QSPI_REL, KP_RST_TETHER_LOST, KP_TETHER_UP, KP_TETHER_RETRIES, LG_COUNT]
/-- The fields of the K-die registers. -/
def kdieFlds : List Fld := kdieFlds1 ++ kdieFlds2 ++ kdieFlds3 ++ kdieFlds4

/-- The fields an instance of a block has; of a slice, the HS-only or LP-only ones with the common ones. -/
def fldsOf (r : Region) (i : Nat) : List Fld :=
  match r with
  | .glob => globFlds
  | .sesPf => sesPfFlds
  | .ses => sesFlds
  | .slice => sliceFlds ++ (if i < 8 then sliceHSFlds else sliceLPFlds)
  | .sliceHS => sliceHSFlds
  | .sliceLP => sliceLPFlds
  | .helm => helmFlds
  | .entry => entryFlds
  | .pu => puFlds
  | .chute => chuteFlds
  | .pool => poolFlds
  | .point => pointFlds
  | .group => groupFlds
  | .kdie => kdieFlds

end Reg

/-- Survives codes of Table SCO-6, one bit each. -/
def svSL : Nat := 1
def svSE : Nat := 2
def svFL : Nat := 4
def svWM : Nat := 8
def svCD : Nat := 16
def svNP : Nat := 32
def svST : Nat := 64
def svMR : Nat := 128
/-- A constant field: it survives everything, POR-K too. -/
def svFixed : Nat := 256

/-- The field keeps its value across the event whose bit is `c` (R18, R630). -/
def Fld.survives (f : Fld) (c : Nat) : Bool := Nat.land f.surv c != 0

end Sys2Proof.Machine
end

