-- ==== Sys2Proof/Machine/State.lean ====
section
/-! DEFINITION. The machine's state as plain data, its reset value, and the reasons a step can stop.
Register fields live in `State.regs` under the keys of Machine/Regs.lean; everything the spec gives the machine that is
no register field is a named field of the structures below. -/

namespace Sys2Proof.Machine

/-- Reasons a step stops with a fault. -/
inductive Fault where
  /-- Raised by a command that carries data no agent can put on the wire: a record that is not 64 bytes, a scan that is
  not 16 conversions (`WellFormed` says which). Safe: the hardware never receives it. -/
  | illFormed
  deriving DecidableEq, Repr

/-- Reasons a step is refused. -/
inductive Refusal where
  /-- Raised by an arm of `exec` that has no meaning yet. Safe. -/
  | notModelled (mnemonic : String)
  deriving DecidableEq, Repr

/-- What leaves the block: the model's own log of outputs, newest last. -/
inductive Out where
  /-- A memory write delivered to the host: function, address, bytes. -/
  | hostWrite (func addr : Nat) (data : List Byte)
  /-- An MSI-X message delivered to the host. -/
  | msix (func vector : Nat)
  /-- A read request for host memory: tag, function, address, length. -/
  | hostRead (tag func addr len : Nat)
  /-- The value answered to a register read. -/
  | readData (func value : Nat)
  /-- The bytes driven on KP_MISO from the marker on. -/
  | keeper (data : List Byte)
  /-- A PCIe message: 0 Unsupported Request, 1 Configuration Request Retry Status. -/
  | pcie (kind : Nat)
  /-- An LTR message carrying this tolerance in microseconds. -/
  | ltr (us : Nat)
  /-- A Steward is vectored to this address. -/
  | vector (steward addr : Nat)
  /-- A voltage request on AVSBus, in the steps of CP_STAT.VDD. -/
  | avs (vdd : Nat)
  /-- A loop code or PRBS sent to the line by a slice. -/
  | line (slice kind : Nat)
  deriving DecidableEq, Repr

/-- Device time and keeper time (R21, R22, R594-R600) and the model's real-time clock. -/
structure TimeSt where
  /-- Device time, ns since POR-K, modulo 2^64. -/
  device : Nat
  /-- Keeper time, ticks of 1/32768 s, modulo 2^48. -/
  keeper : Nat
  /-- Accumulator of the keeper tick: 64 per ns, one tick per 1 953 125 (the model's own). -/
  keeperAcc : Nat
  /-- Nanoseconds of backward correction still to be absorbed by slowed device time (R599). -/
  slewLeft : Nat
  /-- Accumulator of the slowed rate (the model's own). -/
  slewAcc : Nat
  /-- Device time and keeper time recorded at the last stop of device time (D0, K0 of R594). -/
  d0 : Nat
  k0 : Nat
  /-- Device time is stopped: the E-die is off (R597). -/
  stopped : Bool
  deriving DecidableEq, Repr

/-- Operation states (R158); DONE, CANCELLED and FAILED are an `Op` whose `fin` is set, until its record is written. -/
inductive OpState where
  | queued | running | suspended | halted
  deriving DecidableEq, Repr

/-- How an operation ended: status (Table OPS-10), RESULT, device time (R64). -/
structure OpEnd where
  status : Nat
  result : Nat
  time : Nat
  deriving DecidableEq, Repr

/-- An operation in flight, or a refused record waiting for its completion record (R147-R167). -/
structure Op where
  sess : Nat
  tag : Nat
  opcode : Nat
  obj : Nat
  flags : Nat
  haddr : Nat
  /-- P0-P11. -/
  p : List Nat
  ring : Nat
  st : OpState
  /-- The state held before HALTED (R110). -/
  prev : OpState
  started : Bool
  /-- The estimate charged, mW (R145). -/
  est : Nat
  /-- Completion slots reserved (R148). -/
  slots : Nat
  /-- A refused record: never in flight (R167). -/
  refused : Bool
  /-- The clock, and device time, at admission. -/
  admitTime : Nat
  admitDev : Nat
  /-- Admission order. -/
  seq : Nat
  fin : Option OpEnd
  /-- Host data fetched for the operation, and how many bytes are still to come. -/
  data : List Byte
  want : Nat
  /-- Data the operation writes to HADDR when it ends. -/
  outp : List Byte
  /-- Host-bound bytes dropped while HALTED (R157). -/
  dropped : Nat
  /-- Progress, by opcode. -/
  stage : Nat
  /-- A deadline on the clock, by opcode; `rem` is what is left of it while suspended. -/
  due : Option Nat
  rem : Nat
  aux : List Nat
  deriving DecidableEq, Repr

/-- What a host-memory read is for (R102-R105). -/
inductive ReadFor where
  | fetch (sess q : Nat)
  | data (sess tag : Nat)
  deriving DecidableEq, Repr

/-- A device-to-host read: its tag is busy until the completion, and quarantined after an abandonment (R105). -/
structure HostRead where
  tag : Nat
  func : Nat
  purpose : ReadFor
  /-- Bytes asked for. -/
  len : Nat
  issued : Nat
  abandoned : Bool
  /-- Bus Master Enable was cleared after the issue: the data is discarded (R106). -/
  discard : Bool
  deriving DecidableEq, Repr

/-- A VF FLR in its wait for outstanding reads (Table HST-5), and when it began. -/
structure Fn where
  bme : Bool
  /-- Completion timeout, ms (default 50, Table HST-1). -/
  ctoMs : Nat
  /-- The FLR in progress: the clock at its start. -/
  flr : Option Nat
  deriving DecidableEq, Repr

def Fn.init : Fn := { bme := false, ctoMs := 50, flr := none }

/-- An item waiting in host-bound staging (R526). -/
inductive Stage where
  | data (func addr : Nat) (bytes : List Byte)
  | record (func addr : Nat) (bytes : List Byte)
  | event (func addr : Nat) (bytes : List Byte)
  | msix (func vector : Nat)
  deriving DecidableEq, Repr

/-- The PCIe endpoint: SR-IOV settings, functions, outstanding reads, host-bound staging and side-band pins. -/
structure HostSt where
  vfEnable : Bool
  numVFs : Nat
  ari : Bool
  /-- PF0 is in D3hot (R119). -/
  d3hot : Bool
  /-- PF0's PME_En (R120). -/
  pmeEn : Bool
  fns : SMap Fn
  reads : List HostRead
  staging : List Stage
  /-- The clock when staging last became non-empty or a posted credit last came back (R124). -/
  creditAt : Nat
  /-- PERST_N is asserted. -/
  perst : Bool
  /-- The session whose record is admitted next (R147). -/
  nextSes : Nat
  /-- WAKE_N is driven low (R120). -/
  wakeLow : Bool
  /-- CLKREQ_N is driven low (R118). -/
  clkreqLow : Bool
  /-- The clock since which the link has been idle in both directions (R116). -/
  idleSince : Nat
  aspmL1 : Bool
  deriving DecidableEq, Repr

/-- One window of a session: base SWA, Larder (1) or Cellar (2), and the physical pages in order (DPA[39:12]). -/
structure Window where
  swa : Nat
  kind : Nat
  pages : List Nat
  deriving DecidableEq, Repr

/-- What the session machinery holds beside its registers. -/
structure Sess where
  /-- The state a session reset returns to (Table SES-2). -/
  prev : Nat
  /-- A session reset or a close: what is still to happen when the scrub ends, and the operation to complete. -/
  closing : Bool
  closeTag : Option Nat
  /-- A session reset, FLR or close under way: 0 none, 1 waiting for outstanding reads, 2 for programs to be unbound, 3
  in its scrub; and when the wait for reads ends at the latest (Table HST-5). -/
  phase : Nat
  drain : Nat
  /-- The tables of the map that Unlon built (R76): the level-1 table, then the level-2 tables, by DPA. -/
  tables : List Nat
  windows : List Window
  /-- Fetched submission records of SQ0-SQ3 awaiting admission. -/
  fetched : List (List (List Byte))
  /-- A failed fetch waits for the next doorbell (R104); bit q. -/
  fetchHold : Nat
  /-- Next ring of the round robin (R138). -/
  nextRing : Nat
  /-- Completion-ring and event-queue records written and consumed since enabling (absolute counts). -/
  cqWritten : Nat
  cqRead : Nat
  eqWritten : Nat
  eqRead : Nat
  /-- Message and copy records dropped since the last overflow record (R548). -/
  eqDropped : Nat
  /-- Message and copy records waiting in staging for the queue or for Bus Master Enable (R549). -/
  eqWait : List (List Byte)
  deriving DecidableEq, Repr

def Sess.init : Sess :=
  { prev := 0, closing := false, closeTag := none, phase := 0, drain := 0, tables := [], windows := [], fetched := [[], [], [], []], fetchHold := 0,
    nextRing := 0, cqWritten := 0, cqRead := 0, eqWritten := 0, eqRead := 0, eqDropped := 0, eqWait := [] }

/-- A map-cache entry (R81): session, SWA page (SWA[31:12], a block when `blk`), DPA page, write permission, pinned. -/
structure MapEntry where
  sess : Nat
  page : Nat
  blk : Bool
  dpa : Nat
  w : Bool
  pinned : Bool
  deriving DecidableEq, Repr

/-- A release waiting for the scrub engines (R69-R72): whose, what it ends (0 a GRANT, 1 a session reset, 2 a close), the
clock at which each engine of Table SES-5 is done with it (Larder, Cellar, Helm, Chute, map cache; 0 for an engine it does
not need), what is held busy, and the operation to complete. -/
structure Scrub where
  sess : Nat
  kind : Nat
  ends : List Nat
  /-- Objects held busy. -/
  objs : List Nat
  /-- Pages held busy (DPA[39:12]). -/
  pages : List Nat
  /-- The GRANT or SESSION_CLOSE operation of S0 that completes with it, and its RESULT. -/
  tag : Option Nat
  result : Nat
  deriving DecidableEq, Repr

/-- A granted Chart range: its index in object class 3, first entry, entries and owning session. -/
structure ChartRange where
  id : Nat
  first : Nat
  count : Nat
  sess : Nat
  deriving DecidableEq, Repr

/-- Ownership (R48): objects by ID (an unlisted one is S0's), Chart ranges, window pages, watchers, busy pages. -/
structure OwnSt where
  objs : SMap Nat
  ranges : List ChartRange
  /-- Owner of a window page, by DPA[39:12]; an unlisted page is S0's. -/
  pages : SMap Nat
  /-- Watch grants: slice index and watcher (R57). -/
  watches : List (Nat × Nat)
  scrubs : List Scrub
  /-- Pages still to be scrubbed in the background after a warm reset or Moor (R632, R633), by DPA[39:12]. -/
  bgPages : List Nat
  /-- Cellar pages zeroed since the contents were lost, from the lowest on (R633). -/
  swept : Nat
  mapCache : List MapEntry
  /-- A pending SES_MAPC_INV (R84). -/
  invPending : Bool
  deriving DecidableEq, Repr

/-- Larder and Cellar (Table SES-6), byte by byte; an unlisted byte is 0. -/
structure MemSt where
  larder : List Host.Cell
  cellar : List Host.Cell
  /-- 64-bit words (DPA / 8) marked uncorrectable (R520). -/
  bad : List Nat
  /-- Cellar pages whose contents are undefined since a wake from Moor (R633): by DPA[39:12], where their free values
  start, and the byte offsets written since. -/
  undef : SMap (Nat × List Nat)
  deriving DecidableEq, Repr

/-- A route written over the default of Table BCN-6 (R539). -/
structure Route where
  mode : Nat
  target : Nat
  mask : Nat
  deriving DecidableEq, Repr

/-- A Beacon source (R534): state 0 inactive, 1 pending, 2 active, 3 active+pending, and what BC_SRC holds. -/
structure Source where
  st : Nat
  count : Nat
  cause : Nat
  data : Nat
  time : Nat
  latched : Bool
  en : Bool
  prio : Nat
  /-- `none`: the default route of its owner. -/
  route : Option Route
  /-- The target that took it: a code of Table BCN-5. -/
  holder : Nat
  /-- The event-queue record that carries it, counted from the queue's enabling. -/
  pos : Nat
  /-- A mask-routed source has been presented since it last fired (R540). -/
  presented : Bool
  deriving DecidableEq, Repr

/-- The Beacon: its sources, each Steward's vector base and last-taken source per priority (R542), and the
deferred work of the wake latches. -/
structure BeaconSt where
  sources : SMap Source
  vbase : List Nat
  /-- Steward 0's and Steward 1's last taken source, four priorities each. -/
  last : List Nat
  /-- The address each Steward was last vectored to, and its exception registers: pc and flags saved then (R207). -/
  vec : SMap (Nat × Nat × Nat)
  /-- The DATA and CAUSE a wake latch replays with, by source (R551). -/
  latchData : SMap Nat
  latchCause : SMap Nat
  deriving DecidableEq, Repr

/-- A handler table entry (Table MSM-10). -/
structure Handler where
  kind : Nat
  mask : Nat
  entry : Nat
  wcet : Nat
  deriving DecidableEq, Repr

/-- A port table entry (Table MSM-11). -/
structure PortReq where
  cls : Nat
  sel : Nat
  dir : Nat
  deriving DecidableEq, Repr

/-- The image a Helm holds (Table MSM-9): its stock ID, or 0xFFFF_FFFF for an image of the session's own. -/
structure Image where
  stock : Nat
  codeWords : Nat
  handlers : List Handler
  ports : List PortReq
  timing : Nat
  floor : Nat
  farBase : Nat
  farLen : Nat
  data : List Byte
  deriving DecidableEq, Repr

/-- A bound port (Table MSM-3): source object, selector, receive-only, whether PORT_READY has come (R27), the read
bank (R187: the overhead of the frame last dispatched), the rates BIND used (R253) and when events were last delivered. -/
structure Port where
  src : Nat
  sel : Nat
  ro : Bool
  ready : Bool
  bank : List Byte
  rateF : Nat
  rateM : Nat
  lastF : Option Nat
  lastM : Option Nat
  /-- A boundary was skipped: the next event delivered carries OVF (R253). -/
  thin : Bool
  /-- The watch behind the port has ended (R60). -/
  cut : Bool
  deriving DecidableEq, Repr

/-- A queued event (Table MSM-5); a MESSAGE carries its 32 bytes, a FRAME or MFRAME its frame's overhead. -/
structure Event where
  kind : Nat
  port : Nat
  cause : Nat
  set : Bool
  ovf : Bool
  stamp : Nat
  payload : List Byte
  deriving DecidableEq, Repr

/-- An active loop (R220): first and last instruction of the body, iterations left after the present one. -/
structure LoopSt where
  first : Nat
  last : Nat
  left : Nat
  deriving DecidableEq, Repr

/-- A Helm timer (R195, R237): periodic or one-shot, expiry in whole microseconds of device time, period. -/
structure Timer where
  periodic : Bool
  due : Nat
  period : Nat
  deriving DecidableEq, Repr

/-- A far access under way: 0 FLD, 1 FADD, 2 FST; device physical address, destination register, operand, and the most
further cycles it takes (R181). -/
structure FarOp where
  kind : Nat
  dpa : Nat
  d : Nat
  val : Word
  most : Nat
  deriving DecidableEq, Repr

/-- The handler under way: its table entry (none: START or STOP without a handler never runs), event kind and port,
cycles so far, watchdog limit (R255). -/
structure Run where
  entry : Nat
  kind : Nat
  port : Nat
  cycles : Nat
  limit : Nat
  deriving DecidableEq, Repr

/-- Program states of Table PRG-1. -/
inductive PState where
  | empty | loaded | starting | running | stopping | faulted
  deriving DecidableEq, Repr

/-- A Helm (Table MSM-1). -/
structure Helm where
  ps : PState
  image : Option Image
  /-- Instruction memory by index, and local data by byte address; unlisted is 0. -/
  imem : SMap Word
  ram : List Host.Cell
  /-- Local words (address / 4) holding a double-bit error (R177, R223). -/
  badRam : List Nat
  /-- g1-g15. -/
  g : SMap Word
  z : Bool
  n : Bool
  c : Bool
  v : Bool
  pc : Nat
  ev : Word
  fc : Word
  tm : Word
  /-- fc counts: the timing port has become ready (R174). -/
  fcOn : Bool
  queue : List Event
  /-- An event was dropped since the last dispatch (R192). -/
  ovf : Bool
  run : Option Run
  lastKind : Nat
  loops : List LoopSt
  timers : SMap (Option Timer)
  posted : List FarOp
  stall : Option FarOp
  /-- Staged transmit overhead: port, offset, byte, oldest first (R188). -/
  stagedOh : List (Nat × Nat × Byte)
  /-- Staged defect changes: port, code, set, oldest first (R233). -/
  stagedDef : List (Nat × Nat × Bool)
  /-- Program-driven defects the program has declared: source object, selector, code. -/
  progDef : List (Nat × Nat × Nat)
  ports : SMap (Option Port)
  /-- STOP is queued, or its handler runs (R192). -/
  stopReq : Bool
  /-- UNBIND, session reset or revocation met STARTING: STOP follows START's END (R249). -/
  stopWait : Bool
  bindTag : Option Nat
  unbindTags : List Nat
  deriving DecidableEq, Repr

/-- An empty Helm. -/
def Helm.init : Helm :=
  { ps := .empty, image := none, imem := [], ram := [], badRam := [], g := [], z := false, n := false, c := false,
    v := false, pc := 0, ev := 0, fc := 0, tm := 0, fcOn := false, queue := [], ovf := false, run := none,
    lastKind := 0, loops := [], timers := [], posted := [], stall := none, stagedOh := [], stagedDef := [],
    progDef := [], ports := [], stopReq := false, stopWait := false, bindTag := none,
    unbindTags := [] }

/-- The overhead processor of a carrier: a slice, or a Chart entry's tributary (chapter 11). Defect sets are bit masks
over the codes of Table OVD-4 (bit i is code i), as OV_DEF(k) numbers them. -/
structure Ovh where
  /-- The latest received overhead image, by layer. -/
  rx : SMap (List Byte)
  /-- Program writes in force, by layer * 256 + offset (R368 step 2). -/
  tx : SMap (Option Byte)
  /-- Commits waiting for a transmit frame that starts at least 2 us later: clock, key, byte (R188). -/
  txPend : List (Nat × Nat × Option Byte)
  /-- The image sent in the latest transmit frame, by layer. -/
  sent : SMap (List Byte)
  /-- Parity error bits of the latest frame, by layer * 256 + item (R231). -/
  parity : SMap Nat
  /-- Violations of the latest frame for back-insertion, by layer (R381). -/
  viol : SMap Nat
  /-- Consecutive observations toward declaring (bit 0 of the key clear) or clearing a defect, by 2 * code. -/
  runs : SMap Nat
  hw : Nat
  prog : Nat
  dcl : Nat
  latch : Nat
  /-- Defects declared at some instant of the running second, and of the past one. -/
  secDcl : Nat
  lastDcl : Nat
  /-- Accepted and latest values, and the candidate with its run, by item: 1 J0, 2 J1, 4 SM TTI, 5 PM TTI, 6 J2,
  16 C2, 17 PT, 18 SSM, 19 V5 label, 20 K1, 21 K2. -/
  acc : SMap (List Byte)
  latest : SMap (List Byte)
  cand : SMap (List Byte × Nat)
  /-- Consecutive bad and good seconds (R374), and bad and clean windows (R375), by layer. -/
  bad : SMap Nat
  good : SMap Nat
  excBad : SMap Nat
  excGood : SMap Nat
  /-- Blocks and errored blocks of the running second, and whether the layer had a server signal fail in it. -/
  ssfSec : SMap Bool
  /-- Since when OOF, in-frame, OOM and multiframe SYNC have lasted (R371): the clock. -/
  oofSince : Option Nat
  ifSince : Option Nat
  oomSince : Option Nat
  mfSince : Option Nat
  /-- Consequent actions wanted since a clock, waiting for a transmit frame, and the ones in force (R382); bits of
  Table OVD-5: row r back action bit r, downstream bit 8 + r. -/
  csqPend : List (Nat × Nat)
  csq : Nat
  /-- OV_INS progress: units until the next insertion (RATE), units still to insert (BURST, SINGLE). -/
  insLeft : Nat
  insEvery : Nat
  /-- CSF: the clock of the latest client management frame (R370). -/
  csfAt : Option Nat
  /-- Device time of the last change of an accepted trace (R323). -/
  trcAt : Nat
  /-- Transmit frames sent, for traces and MFAS. -/
  txN : Nat
  deriving DecidableEq, Repr

def Ovh.init : Ovh :=
  { rx := [], tx := [], txPend := [], sent := [], parity := [], viol := [], runs := [], hw := 0, prog := 0, dcl := 0,
    latch := 0, secDcl := 0, lastDcl := 0, acc := [], latest := [], cand := [], bad := [], good := [], excBad := [], excGood := [], ssfSec := [],
    oofSince := none, ifSince := none, oomSince := none, mfSince := none, csqPend := [], csq := 0, insLeft := 0,
    insEvery := 0, csfAt := none, trcAt := 0, txN := 0 }

/-- A Chute entry: 64 bits of data and its sideband (R476). -/
structure CEntry where
  data : Nat
  sop : Bool
  eop : Bool
  gap : Bool
  deriving DecidableEq, Repr

/-- A producer's open packet (R483): the producer, the entries accepted, every entry offered, and the cause bit of
Table CHU-1 that damaged it (0: sound). -/
structure OpenPkt where
  producer : Nat
  entries : List Nat
  count : Nat
  cause : Nat
  deriving DecidableEq, Repr

/-- A Chute (R476-R487). -/
structure Chute where
  /-- Visible entries from RELEASE on; READ and WAYPOINT are offsets into them (R485). -/
  held : List CEntry
  read : Nat
  waypt : Option Nat
  /-- Committed packets not yet visible, oldest first (R479). -/
  hidden : List (List CEntry)
  /-- Released entries whose space producers do not see yet (R479). -/
  freed : Nat
  opened : List OpenPkt
  /-- Drops since the last GAP entry: entries, packets, cause bits 48-52 of Table CHU-1 as bits 0-4. -/
  gapItems : Nat
  gapPackets : Nat
  gapCause : Nat
  /-- 0 none, 1 CAPTURE, 2 SOAK, 3 registers (R478); the operation's session and tag. -/
  consumer : Nat
  conSess : Nat
  conTag : Nat
  /-- The entry latched by the last take through CU_POP (R505). -/
  pop : Option CEntry
  deriving DecidableEq, Repr

def Chute.init : Chute :=
  { held := [], read := 0, waypt := none, hidden := [], freed := 0, opened := [], gapItems := 0, gapPackets := 0,
    gapCause := 0, consumer := 0, conSess := 0, conTag := 0, pop := none }

/-- A crate being filled: from the shared part, its records, T_OPEN, and the GAP items in it (R494). -/
structure Crate where
  shared : Bool
  recs : List Byte
  tOpen : Option Nat
  gapItems : Nat
  deriving DecidableEq, Repr

/-- A closed crate waiting for its host slot: SEQ, shared, header and records. -/
structure HeldCrate where
  seq : Nat
  shared : Bool
  img : List Byte
  deriving DecidableEq, Repr

/-- The capture engine of a CAPTURE or of a SOAK that stores (R496-R503). -/
structure Cap where
  sess : Nat
  tag : Nat
  chute : Nat
  /-- 0 Raw, 1 Packed, 2 Trend, 3 Tally; the Trend bound in the sample's unit; P1 as given. -/
  enc : Nat
  bound : Nat
  loss : Nat
  store : Nat
  slots : Nat
  limit : Nat
  flush : Nat
  base : Nat
  /-- A crate request: 0 none, 1 asked, 2 waiting (R492). -/
  req : Nat
  crate : Option Crate
  /-- The next SEQ. -/
  seq : Nat
  heldCrates : List HeldCrate
  delivered : Nat
  /-- Records that wait for a crate, with their starting time. -/
  queue : List (Nat × List Byte)
  /-- The packet being taken, and the device time of its first entry. -/
  part : List Nat
  began : Nat
  /-- Packed: the packet of the previous PACKET record; the REPEAT's offset in the crate (R501). -/
  last : Option (List Nat)
  repAt : Option Nat
  /-- Trend: the open run of sample entries (R502). -/
  run : List Nat
  /-- Tally: bins, total, sum, first and last time in microseconds (R503). -/
  bins : SMap Nat
  total : Nat
  sum : Nat
  t0 : Nat
  t1 : Nat
  /-- RESUME's GAP is due (R499). -/
  resumeGap : Bool
  /-- A GAP record has been written: the capture is partial (Table OPS-10). -/
  gaps : Bool
  /-- Filling has ended: the status the operation ends with, and RESULT when it is not the crates delivered. -/
  fin : Option (Nat × Option Nat)
  deriving DecidableEq, Repr

/-- A pattern unit beside its registers (R384-R387). -/
structure PatUnit where
  /-- The program error count, read and cleared by PRDC (R236). -/
  progErr : Nat
  /-- The checker has been in sync since the operation started (R387); sync lost since the last PSTAT. -/
  everSync : Bool
  lostSince : Bool
  /-- PERR words still to spoil (R235), and the bits inverted since the unit started. -/
  perrLeft : Nat
  inverted : Nat
  /-- The PATTERN operation that drives the unit; it is paused (Table OPS-9). -/
  opSess : Nat
  opTag : Option Nat
  paused : Bool
  deriving DecidableEq, Repr

def PatUnit.init : PatUnit :=
  { progErr := 0, everSync := false, lostSince := false, perrLeft := 0, inverted := 0, opSess := 0, opTag := none,
    paused := false }
/-- 64b/66b block lock (Table FRM-4): 0 HUNT, 1 PRESYNC, 2 SYNC; headers counted, and invalid ones, in the window. -/
structure BlockLock where
  st : Nat
  n : Nat
  bad : Nat
  deriving DecidableEq, Repr

def BlockLock.init : BlockLock := { st := 0, n := 0, bad := 0 }

/-- A received logical lane of a bonded group (R349-R352), by physical lane and interleave position: the number its
markers carry, matching and errored markers in a row, arrival in 0.1 ns, and its block lock. -/
structure Lane where
  num : Option Nat
  good : Nat
  errs : Nat
  locked : Bool
  arrival : Nat
  blk : BlockLock
  deriving DecidableEq, Repr

def Lane.init : Lane := { num := none, good := 0, errs := 0, locked := false, arrival := 0, blk := .init }

/-- A slice's framer beside its registers (chapter 10). -/
structure Framer where
  /-- Candidates in the order opened: position and count (R333). -/
  cands : List (Nat × Nat)
  /-- The last W check units, newest first: errored (R335). -/
  win : List Bool
  /-- The clock from which the CRC-4 multiframe hunt's 8 ms run, and the frame numbers of the words found (R339). -/
  mfFrom : Nat
  mfWords : List Nat
  /-- The last MFAS, and frames in a row that followed it, or in SYNC missed it (R343). -/
  mfLast : Option Nat
  mfRun : Nat
  blk : BlockLock
  lanes : SMap Lane
  /-- Clause 36 (R345): the state, rx_even, and good code-groups in a row. -/
  cg : Nat
  cgEven : Bool
  cgGood : Nat
  /-- Frames since in-frame, modulo 16 (R344); the frame in progress at in-frame has not ended (R359). -/
  frames : Nat
  fresh : Bool
  /-- The next monitoring tick (R360). -/
  tickDue : Option Nat
  deriving DecidableEq, Repr

def Framer.init : Framer :=
  { cands := [], win := [], mfFrom := 0, mfWords := [], mfLast := none, mfRun := 0, blk := .init, lanes := [], cg := 0,
    cgEven := false, cgGood := 0, frames := 0, fresh := false, tickDue := none }

/-- An ACQUIRE in progress on its slice (R287-R302). -/
structure Acq where
  sess : Nat
  tag : Nat
  p1 : Nat
  p2 : Nat
  furthest : Nat
  /-- The stage timer's deadline, or what is left of it while suspended; `none`: the timer does not run. -/
  due : Option Nat
  rem : Option Nat
  /-- The front end powers up until then (first attempt only). -/
  power : Nat
  suspended : Bool
  /-- The latest loss estimate of this ACQUIRE. -/
  loss : Option Nat
  deriving DecidableEq, Repr

/-- What a slice's front end holds beside its registers. -/
structure Line where
  /-- The session an ended ACQUIRE's charge stays with until RELEASE_LINE (Table OPS-6), and that charge in mW. -/
  chargeTo : Nat
  charge : Nat
  acq : Option Acq
  fr : Framer
  /-- P2 of the ACQUIRE in force. -/
  opts : Nat
  /-- Since when the signal has been present. -/
  sigSince : Option Nat
  /-- Device time at the end of the latest adaptation stage (R317). -/
  adaptAt : Nat
  /-- Live coefficients: HS CTLE, DFE1, DFE2, VGA, EYE_H, EYE_W; LP EQ_GAIN, LOSS_EST, PEAK, slicer. -/
  live : List Nat
  /-- The partner's Clause 37 base page and its device time. -/
  autoneg : Option (Nat × Nat)
  /-- The loop handshake (R297, R298, R300, R326): 0 none, 1 loop-down of the pending kind, 2 loop-up activate, 3 its
  PRBS, 4 loop-down of LOOP_KIND, 5 auto-negotiation, 6 the last loop-down of a LOOP_PROBE; the kind sent, the end of
  the code or what is left of it while suspended, and when the activate code began. -/
  loop : Nat
  loopKind : Nat
  loopDue : Option Nat
  loopRem : Option Nat
  loopFrom : Nat
  /-- The LOOP_PROBE that runs the handshake: session, tag, stage-timer deadline, and ms to confirmation once found. -/
  probe : Option (Nat × Nat)
  probeDue : Option Nat
  probeMs : Option Nat
  deriving DecidableEq, Repr

def Line.init : Line :=
  { chargeTo := 0, charge := 0, acq := none, fr := .init, opts := 0, sigSince := none, adaptAt := 0,
    live := [], autoneg := none, loop := 0, loopKind := 0, loopDue := none, loopRem := none,
    loopFrom := 0, probe := none, probeDue := none, probeMs := none }

/-- Power bookkeeping. -/
structure PowerSt where
  /-- The allowance last reported to the E-die, mW (R573). -/
  reported : Nat
  deriving DecidableEq, Repr


/-- A Chart entry beside its registers (chapter 12). Route words are 128-bit numbers laid out as Table CHT-3. -/
structure ChartEnt where
  wa : Nat
  wb : Nat
  /-- Words whose parity fails: bit 0 word A, bit 1 word B (R417, R418); words held in a spare (R419). -/
  perr : Nat
  spare : Nat
  /-- The word committed at the last Chart boundary, and the word each side has in effect (R404, R412). -/
  tgt : Nat
  use0 : Nat
  use1 : Nat
  pend0 : Bool
  pend1 : Bool
  /-- The pending word waits for a multiframe start; the end of the swap's period (R413). -/
  mf : Bool
  due : Option Nat
  /-- CH_CFG and CH_EXP_J2 in effect since the last boundary (R420), `none` while never changed. -/
  cfgUse : Nat
  j2Use : List Byte
  /-- GFP-F delineator: core headers counted, and failures in a row (R347). -/
  gfpN : Nat
  gfpBad : Nat
  deriving DecidableEq, Repr

def ChartEnt.init : ChartEnt :=
  { wa := 0, wb := 0, perr := 0, spare := 0, tgt := 0, use0 := 0, use1 := 0, pend0 := false, pend1 := false,
    mf := false, due := none, cfgUse := 0x19e7c, j2Use := [], gfpN := 0, gfpBad := 0 }

/-- The six counts of one direction of a bin (Table PM-6). -/
structure PmCnt where
  eb : Nat
  bbe : Nat
  es : Nat
  ses : Nat
  uas : Nat
  sep : Nat
  deriving DecidableEq, Repr

def PmCnt.zero : PmCnt := { eb := 0, bbe := 0, es := 0, ses := 0, uas := 0, sep := 0 }

/-- A PM bin (Table PM-6): its serial number within the point, START, FLAGS without SETTLING, SECS and the counts;
`judged` once a second of it has been judged (R463). -/
structure Bin where
  serial : Nat
  start : Nat
  flags : Nat
  secs : Nat
  near : PmCnt
  far : PmCnt
  judged : Bool
  deriving DecidableEq, Repr

/-- A pending second (R457): the serials of its 15-minute and 24-hour bins, and how it was judged. -/
structure PendSec where
  s15 : Nat
  s24 : Nat
  eb : Nat
  es : Bool
  ses : Bool
  deriving DecidableEq, Repr

/-- The availability of one direction (Table PM-3). -/
structure Avail where
  unav : Bool
  pend : List PendSec
  deriving DecidableEq, Repr

/-- A PM point beside its registers. -/
structure PmPt where
  cur15 : Option Bin
  /-- Recent bins 1 to 32, newest first; a missing one is NODATA. -/
  recent : List Bin
  cur24 : Option Bin
  prev24 : Option Bin
  serial : Nat
  ne : Avail
  fe : Avail
  /-- The SOAK that names the point. -/
  soak : Option (Nat × Nat)
  /-- The gate was closed, or the entity absent, at some instant of the running second, and of the past one. -/
  closed : Bool
  absent : Bool
  closedLast : Bool
  absentLast : Bool
  /-- The past second waits for its judgement. -/
  ready : Bool
  /-- The current interval closes SHORT at the next second boundary after this whole second (R463); the 24-hour one
  too (R464). -/
  short15 : Option Nat
  short24 : Option Nat
  /-- Bins that become final: the clock, the serial, and whether a boundary closed it (R460). -/
  finals : List (Nat × Nat × Bool)
  deriving DecidableEq, Repr

def PmPt.init : PmPt :=
  { cur15 := none, recent := [], cur24 := none, prev24 := none, serial := 0, ne := { unav := false, pend := [] },
    fe := { unav := false, pend := [] }, soak := none, closed := false, absent := false, closedLast := false,
    absentLast := false, ready := false, short15 := none, short24 := none, finals := [] }

/-- A protection group beside its registers (chapter 13). -/
structure Group where
  /-- The configuration block of Table PSW-1; empty while unconfigured. -/
  cfg : List Byte
  /-- A deleted group whose selector has not returned to working yet: its block (R426). -/
  old : List Byte
  /-- Since when SF_W, SD_W, SF_P, SD_P have been declared without a break. -/
  since : List (Option Nat)
  /-- The command in effect (Table PSW-7), 0 none, and the end of an EXERCISE. -/
  cmd : Nat
  exUntil : Option Nat
  wtr : Option Nat
  dnr : Bool
  /-- Frames of the protection slice without 3 equal K1 values (Table PSW-5). -/
  kBad : Nat
  /-- The conditions of Table PSW-5, and since when each is as it is. -/
  fails : List (Bool × Nat)
  /-- Type 2's bridge is on; in PROGRAM mode, by USER1. -/
  bridge : Bool
  /-- The open meter event: first, last disturbed tick, disturbed ticks; the last tick judged. -/
  ev : Option (Nat × Nat × Nat)
  tick : Nat
  /-- Log entries, newest first (32 at most): time, KIND, VALUE, VALUE2; and how many were written. -/
  log : List (Nat × Nat × Nat × Nat)
  logN : Nat
  deriving DecidableEq, Repr

def Group.init : Group :=
  { cfg := [], old := [], since := [none, none, none, none], cmd := 0, exUntil := none, wtr := none, dnr := false, kBad := 0,
    fails := [(false, 0), (false, 0), (false, 0), (false, 0)], bridge := false, ev := none, tick := 0, log := [], logN := 0 }

/-- A bay beside its registers (chapter 18). Times are of the clock. -/
structure Bay where
  /-- SEATING: the end of the debounce or of the insertion delay (R579). -/
  seatAt : Option Nat
  /-- STARTING: the soft start began then, with this SLEW (R585). -/
  startAt : Nat
  slew : Nat
  /-- RETRY: the end of the wait (R582). -/
  retryAt : Option Nat
  /-- ON without a break since then (R582). -/
  onAt : Option Nat
  /-- LATCHED: the head has been unseated since (R579). -/
  pulled : Bool
  /-- Peak current in mA since the previous BAY sounding (R314). -/
  peak : Nat
  /-- The identity memory read by Unlon (R592). -/
  mem : List Byte
  /-- Identification runs since then (R586); the next attempt. -/
  idFrom : Option Nat
  idNext : Nat
  deriving DecidableEq, Repr

def Bay.init : Bay :=
  { seatAt := none, startAt := 0, slew := 0, retryAt := none, onAt := none, pulled := false, peak := 0, mem := [],
    idFrom := none, idNext := 0 }

/-- Feeds, PoE front end and Sounding ADC beside their registers (chapters 9 and 18). -/
structure FeedSt where
  /-- The path whose gate conducts: 0 none, 1 the OR group, 2 LINE, 3 DOCK, 4 PACK (R557). -/
  path : Nat
  /-- A changeover in its dead time: the path to come and the end of the dead time (R559). -/
  dead : Option (Nat × Nat)
  /-- Cutoff has removed PACK from selection (Table FDB-2). -/
  packOut : Bool
  /-- The end of PACK_GRACE (Table FDB-2). -/
  grace : Option Nat
  /-- Cutoff holds the device in Moor (R563, R564). -/
  moorHold : Bool
  /-- The class presented at the latest detection (R566). -/
  cls : Nat
  /-- Available power has been short since then; the next shed counts from the last one (R575). -/
  shortAt : Option Nat
  /-- Measured power has exceeded the available power since then (R576). -/
  overAt : Option Nat
  /-- The latest conversions of each ADC channel, newest first, 64 at most (R327). -/
  hist : SMap (List Nat)
  /-- The end of the latest scan in device time; the next scan on the clock. -/
  scanAt : Nat
  scanDue : Nat
  /-- Limits crossed and not yet rearmed, by channel: bit 0 LOW, bit 1 HIGH (Table FDB-9). -/
  crossed : SMap Nat
  deriving DecidableEq, Repr

/-- The Keeper and Compass beside their registers (chapter 19). Times are of the clock. -/
structure KeeperSt where
  /-- The TCXO_EN pin (R594). -/
  tcxo : Bool
  /-- E0 of R598: device time of the last 1PPS edge before entry, when REFIN was valid there. -/
  e0 : Option Nat
  /-- The 1.1 s after a wake in which the first 1PPS edge refines device time. -/
  ppsUntil : Option Nat
  /-- User entries that fired while the Beacon was stopped: index, source and keeper time (R552). -/
  held : List (Nat × Nat × Nat)
  /-- The end of HOLD_MS (R604). -/
  holdUntil : Option Nat
  /-- A Stow or Moor entry under way: its target (3 or 4) and its start (Table KPR-5). -/
  entry : Option (Nat × Nat)
  /-- A wake-capable edge or a keeper-port WAKE has come during the entry (R615). -/
  abort : Bool
  /-- A wake under way: where from (3 or 4) and its start (Table KPR-6). -/
  wake : Option (Nat × Nat)
  /-- Compass: the next loop, loops in a row with margin at least HI (R618). -/
  loopDue : Nat
  hiRun : Nat
  /-- A raise waiting for its voltage: the new level, and the clock of the AVSBus write (R620). -/
  raise : Option (Nat × Nat)
  /-- An AVSBus write not yet known as acknowledged: its clock, and failures in a row (R622). -/
  avsAt : Option Nat
  avsTries : Nat
  /-- The last acknowledged voltage in steps of CP_STAT.VDD, the retry after a failure, the level cap. -/
  acked : Nat
  avsRetry : Option Nat
  cap : Option Nat
  /-- Throttling: under way, the next step, and since when the junction has been below 95 °C (R621). -/
  throttling : Bool
  stepDue : Nat
  coolSince : Option Nat
  /-- Thermal shutdown holds the E-die off, and its next start is a cold boot (R623). -/
  shutHold : Bool
  coldNext : Bool
  deriving DecidableEq, Repr

/-- Start-up, the Attic and the Tether (chapter 20). Times are of the clock. -/
structure BootSt where
  /-- 0 none, 1 cold boot before the ROM's check, 2 warm reset, 3 BOOT_FAIL, 4 rails down after the third failed check, 5 cold
  boot with an image found (R627-R635, R714). -/
  phase : Nat
  since : Nat
  /-- What GL_RST_CAUSE reads once the event completes (Table RST-7). -/
  cause : Nat
  /-- The Attic image: 0 invalid, 1 written, 2 used (R637, R638). -/
  attic : Nat
  /-- The power-up runs, and step 6 of it is not done: the next rail retry. -/
  railRetry : Option Nat
  /-- Failed checks of the power-up under way, and the clock of its step 1 (R713, R714). -/
  railFails : Nat
  railAt : Nat
  /-- The slot and version that run (GL_BOOT.SLOT, GL_UNLON_VER); set once more when Unlon reports ready. -/
  slot : Nat
  version : Nat
  /-- The fitted Cellar as Unlon found it: GiB (0 none), inline ECC, rate code (R522, R523). -/
  gib : Nat
  ecc : Bool
  rate : Nat
  /-- The Tether is lost since then; the next retraining (R642). -/
  lostAt : Option Nat
  trainDue : Nat
  deriving DecidableEq, Repr

/-- A dump under way (chapter 22): its cause and CAUSE_DATA, device time and clock of detection, LG_COUNT then, the
second cause, the counters of step 3, and the session sections before sealing, by session. -/
structure Dump where
  cause : Nat
  data : Nat
  dtime : Nat
  at_ : Nat
  count : Nat
  second : Option Nat
  /-- The comparator lane of a mismatch, and its Steward. -/
  lane : Option (Nat × Nat)
  counters : SMap Nat
  /-- BC_SRC(0)-BC_SRC(1023), and the registers of Table LOG-7 at offset 0, as they stand. -/
  device : List Byte
  sections : SMap (List Byte)
  deriving DecidableEq, Repr

/-- The Logbook and the background checks (chapters 21 and 22). Times are of the clock. -/
structure HealthSt where
  dump : Option Dump
  /-- FAULT_HOLD since then (R683). -/
  holdAt : Nat
  /-- Next patrol passes, background MBIST, its next Helm, Chart check. -/
  larderDue : Nat
  cellarDue : Nat
  mbistDue : Nat
  mbistHelm : Nat
  chartDue : Nat
  deriving DecidableEq, Repr

/-- The machine. -/
structure State where
  /-- Commands waiting, first in, first out. -/
  pending : List Instr
  /-- Register fields by `Fld.key`; an unlisted field holds its Reset value. -/
  regs : SMap Nat
  /-- The model's own real-time clock, ns. -/
  clock : Nat
  /-- The model's own: how many free values have been drawn. -/
  freeCtr : Nat
  /-- The model's own log of outputs. -/
  out : List Out
  tm : TimeSt
  /-- The 256 event counters of R664, and the accumulator of counter 0 (MHz per ns). -/
  cnt : SMap Nat
  coreAcc : Nat
  host : HostSt
  /-- Sessions S0-S15. -/
  sessions : SMap Sess
  ops : List Op
  own : OwnSt
  mem : MemSt
  beacon : BeaconSt
  helms : SMap Helm
  /-- Overhead processors by carrier. -/
  ovhs : SMap Ovh
  chart : SMap ChartEnt
  /-- Protection groups. -/
  groups : SMap Group
  chutes : SMap Chute
  caps : List Cap
  /-- Freed shared crates in scrub (R493): store and the clock at its end. -/
  crateScrub : List (Nat × Nat)
  /-- PM points; the whole second last ended, and the last 15-minute boundary rolled, in device time (ns). -/
  pm : SMap PmPt
  sec : Nat
  pmRolled : Nat
  /-- Pattern units. -/
  pats : SMap PatUnit
  /-- Slices HS0-HS7, LP0-LP15. -/
  lines : SMap Line
  power : PowerSt
  bays : SMap Bay
  feed : FeedSt
  keep : KeeperSt
  boot : BootSt
  health : HealthSt
  /-- Latched high words of 64-bit registers, plus 1, by 2^40 x function (16 the keeper port) + register (R13). -/
  hiLatch : SMap Nat
  deriving DecidableEq, Repr

/-- The machine right after a POR-K (Table RST-5, step 1): the E-die's rails rise, nothing has booted, every register
holds its Reset value but EDIE, which shows WAKING, and VDD_CORE at its start voltage (Table KPR-7). Every other field is
empty or 0 (R631). -/
def State.reset : State :=
  { pending := [], regs := [(Reg.CP_STAT_VDD.key 0 0, 6), (Reg.KP_PWR_STAT_EDIE.key 0 0, 7)], clock := 0, freeCtr := 0,
    out := [],
    tm := { device := 0, keeper := 0, keeperAcc := 0, slewLeft := 0, slewAcc := 0, d0 := 0, k0 := 0,
            stopped := false },
    cnt := [], coreAcc := 0,
    host := { vfEnable := false, numVFs := 0, ari := false, d3hot := false, pmeEn := false, fns := [], reads := [],
              staging := [], creditAt := 0, perst := false, nextSes := 0, wakeLow := false, clkreqLow := true,
              idleSince := 0, aspmL1 := false },
    sessions := [], ops := [],
    own := { objs := [], ranges := [], pages := [], watches := [], scrubs := [], bgPages := [], swept := 0, mapCache := [],
             invPending := false },
    mem := { larder := [], cellar := [], bad := [], undef := [] },
    beacon := { sources := [], vbase := [], last := [], vec := [], latchData := [], latchCause := [] },
    helms := [], ovhs := [], chart := [], groups := [], chutes := [], caps := [], crateScrub := [],
    pm := [], sec := 0, pmRolled := 0, pats := [], lines := [], power := { reported := 0 }, bays := [],
    feed := { path := 0, dead := none, packOut := false, grace := none, moorHold := false, cls := 0, shortAt := none,
              overAt := none, hist := [], scanAt := 0, scanDue := 0, crossed := [] },
    keep := { tcxo := true, e0 := none, ppsUntil := none, held := [], holdUntil := none, entry := none, abort := false,
              wake := none, loopDue := 0, hiRun := 0, raise := none, avsAt := none, avsTries := 0, acked := 6,
              avsRetry := none, cap := none, throttling := false, stepDue := 0, coolSince := none, shutHold := false,
              coldNext := false },
    boot := { phase := 1, since := 0, cause := 0, attic := 0, railRetry := none, railFails := 0, railAt := 0, slot := 0,
              version := 0, gib := 0, ecc := false, rate := 0, lostAt := none, trainDue := 0 },
    health := { dump := none, holdAt := 0, larderDue := 0, cellarDue := 0, mbistDue := 0, mbistHelm := 0, chartDue := 0 },
    hiLatch := [] }

end Sys2Proof.Machine
end

