-- ==== Sys2Proof/Machine/Ops.lean ====
section
/-! DEFINITION. The named operations every meaning is built from: sparse tables, bit fields and byte order, register
fields, time, memory, ownership, the session map walk, host-bound staging, the Beacon's source machine and event
queues, and the operation store. -/

namespace Sys2Proof.Machine

open Reg

/-! ### Sparse tables -/

/-- What the table holds at key `x`: the default where nothing is listed. -/
def smGet {α : Type} (d : α) : SMap α → Nat → α
  | [], _ => d
  | (k, v) :: m, x => if x = k then v else if x < k then d else smGet d m x

/-- The table without key `x`. -/
def smDel {α : Type} : SMap α → Nat → SMap α
  | [], _ => []
  | (k, v) :: m, x => if x = k then m else if x < k then (k, v) :: m else (k, v) :: smDel m x

/-- The table with `v` listed at key `x`. -/
def smIns {α : Type} : SMap α → Nat → α → SMap α
  | [], x, v => [(x, v)]
  | (k, w) :: m, x, v => if x = k then (k, v) :: m else if x < k then (x, v) :: (k, w) :: m else (k, w) :: smIns m x v

/-- Write: the default is never listed, so equal tables are equal data. -/
def smSet {α : Type} [DecidableEq α] (d : α) (m : SMap α) (x : Nat) (v : α) : SMap α :=
  if v = d then smDel m x else smIns m x v

/-- Strictly rising keys. -/
def smSorted {α : Type} : SMap α → Bool
  | [] => true
  | [_] => true
  | (k, _) :: (k', w) :: m => decide (k < k') && smSorted ((k', w) :: m)

/-- The canonical form: strictly rising keys and no default listed. -/
def smWf {α : Type} [DecidableEq α] (d : α) (m : SMap α) : Bool :=
  smSorted m && m.all (fun e => decide (e.2 ≠ d))

/-! ### Bits and bytes -/

/-- The field of `w` bits at bit `l` of `v`. -/
def bitsAt (v l w : Nat) : Nat := v / 2 ^ l % 2 ^ w

/-- `v` with its field of `w` bits at bit `l` set to `x`. -/
def setBitsAt (v l w x : Nat) : Nat := v - bitsAt v l w * 2 ^ l + x % 2 ^ w * 2 ^ l

/-- Little-endian bytes (R8): the `n` low bytes of `v`. -/
def leBytes : Nat → Nat → List Byte
  | 0, _ => []
  | n + 1, v => BitVec.ofNat 8 v :: leBytes n (v / 256)

/-- The number that little-endian bytes spell (R8). -/
def leNat : List Byte → Nat
  | [] => 0
  | b :: bs => b.toNat + 256 * leNat bs

/-- The `n` bytes of a list from offset `o`; bytes past the end read as 0. -/
def sliceBytes (l : List Byte) (o n : Nat) : List Byte :=
  (List.range n).map fun i => l.getD (o + i) 0

/-- The little-endian number of `n` bytes at offset `o` of a list. -/
def leAt (l : List Byte) (o n : Nat) : Nat := leNat (sliceBytes l o n)

/-- Addition that saturates at the field's largest value. -/
def satAdd (w a b : Nat) : Nat := min (2 ^ w - 1) (a + b)

def clamp (lo hi v : Nat) : Nat := max lo (min hi v)

def boolNat (b : Bool) : Nat := if b then 1 else 0

/-- The CRC of one bit step, unreflected (R230). -/
def crcBit (w p crc : Nat) (x : Bool) : Nat :=
  let top := crc.testBit (w - 1) != x
  let c := crc * 2 % 2 ^ w
  if top then Nat.xor c p else c

/-- An unreflected CRC over one byte, most significant bit first. -/
def crcByte (w p crc : Nat) (b : Byte) : Nat :=
  [7, 6, 5, 4, 3, 2, 1, 0].foldl (fun c i => crcBit w p c (b.getLsbD i)) crc

/-- An unreflected CRC over bytes. -/
def crcBytes (w p init : Nat) (l : List Byte) : Nat := l.foldl (crcByte w p) init

/-- One bit step of a reflected CRC-32 (R202). -/
def crc32Bit (crc : Nat) : Nat :=
  if crc.testBit 0 then Nat.xor (crc / 2) 0xEDB88320 else crc / 2

/-- CRC-32, polynomial 0x04C1_1DB7, reflected, initial value and final XOR 0xFFFF_FFFF (R202). -/
def crc32 (l : List Byte) : Nat :=
  Nat.xor (l.foldl (fun c b => (List.range 8).foldl (fun x _ => crc32Bit x) (Nat.xor c b.toNat)) 0xFFFFFFFF) 0xFFFFFFFF

/-! ### Register fields -/

/-- The value of copy `j` of a field in instance `i` of its block. -/
def State.rd (s : State) (f : Fld) (i : Nat := 0) (j : Nat := 0) : Nat := smGet f.reset s.regs (f.key i j)

/-- The machine with that field set, cut to its width. -/
def State.wr (s : State) (f : Fld) (v : Nat) (i : Nat := 0) (j : Nat := 0) : State :=
  { s with regs := smSet f.reset s.regs (f.key i j) (v % 2 ^ f.width) }

/-- A one-bit field as a Bool. -/
def State.flag (s : State) (f : Fld) (i : Nat := 0) (j : Nat := 0) : Bool := s.rd f i j != 0

def State.setFlag (s : State) (f : Fld) (b : Bool) (i : Nat := 0) (j : Nat := 0) : State := s.wr f (boolNat b) i j

/-- A saturating count. -/
def State.bump (s : State) (f : Fld) (i : Nat := 0) (j : Nat := 0) (n : Nat := 1) : State :=
  s.wr f (satAdd f.width (s.rd f i j) n) i j

/-- Bit `b` of a field that is a mask. -/
def State.maskBit (s : State) (f : Fld) (b : Nat) (i : Nat := 0) (j : Nat := 0) : Bool := (s.rd f i j).testBit b

def State.setMaskBit (s : State) (f : Fld) (b : Nat) (on : Bool) (i : Nat := 0) (j : Nat := 0) : State :=
  s.wr f (setBitsAt (s.rd f i j) b 1 (boolNat on)) i j

/-- A value the spec leaves open: the next of the stream of free values, and the machine with the stream advanced. -/
def State.drawn (s : State) : Nat := Config.free s.freeCtr

def State.draw (s : State) : State := { s with freeCtr := s.freeCtr + 1 }

/-- The machine with an output logged. -/
def State.emit (s : State) (o : Out) : State := { s with out := s.out ++ [o] }

/-- Event counter `i` counts `n` events; it wraps at 48 bits (R664). -/
def State.count (s : State) (i : Nat) (n : Nat := 1) : State :=
  { s with cnt := smSet 0 s.cnt i ((smGet 0 s.cnt i + n) % 2 ^ 48) }

/-! ### Time -/

/-- Device time as a record carries it (R23). -/
def State.stamp (s : State) : Nat := s.tm.device % 2 ^ 48

/-- The clock `n` microseconds from now. -/
def State.inUs (s : State) (n : Nat) : Nat := s.clock + 1000 * n

/-- The clock `n` milliseconds from now. -/
def State.inMs (s : State) (n : Nat) : Nat := s.clock + 1000000 * n

/-- A deadline that is set and has come. -/
def State.isDue (s : State) : Option Nat → Bool
  | none => false
  | some t => decide (t ≤ s.clock)

/-- Device time advanced by one nanosecond of real time: a backward correction is absorbed by dropping one nanosecond
in 10 000 (R599); device time stands while the E-die is off (R597). -/
def TimeSt.deviceTick (t : TimeSt) : TimeSt :=
  if t.stopped then t
  else if t.slewLeft = 0 then { t with device := (t.device + 1) % 2 ^ 64 }
  else if t.slewAcc + 1 = 10000 then { t with slewAcc := 0, slewLeft := t.slewLeft - 1 }
  else { t with device := (t.device + 1) % 2 ^ 64, slewAcc := t.slewAcc + 1 }

/-- Keeper time advanced by one nanosecond: a tick is 30 517.578125 ns exactly (R22). -/
def TimeSt.keeperTick (t : TimeSt) : TimeSt :=
  if t.keeperAcc + 64 < 1953125 then { t with keeperAcc := t.keeperAcc + 64 }
  else { t with keeperAcc := t.keeperAcc + 64 - 1953125, keeper := (t.keeper + 1) % 2 ^ 48 }

/-- The SYSPLL level in MHz (Table PRG-10). -/
def levelMhz (v : Nat) : Nat := 200 * (v % 4 + 1)

/-- Core clock cycles of one nanosecond, for event counter 0: none while the E-die is off or CORE is not in Run. -/
def State.coreTick (s : State) : State :=
  if s.tm.stopped ∨ s.rd KP_DOM % 4 ≠ 0 then s
  else
    let a := s.coreAcc + levelMhz (s.rd GL_FLOOR_LEVEL)
    if a < 1000 then { s with coreAcc := a } else { s.count 0 with coreAcc := a - 1000 }

/-- One nanosecond of quiet: the clock, device time and keeper time advance. -/
def State.tick (s : State) : State :=
  { s.coreTick with clock := s.clock + 1, tm := s.tm.deviceTick.keeperTick }

/-! ### Objects, slices and sessions -/

/-- Slice index to object ID: HS0-HS7 are 0-7, LP0-LP15 are 8-23 (R531, Table SCO-7). -/
def sliceObj (i : Nat) : Nat := if i < 8 then i else 0x1000 + (i - 8)

/-- Object ID to slice index. -/
def objSlice? (o : Nat) : Option Nat :=
  if o < 8 then some o else if 0x1000 ≤ o ∧ o < 0x1010 then some (o - 0x1000 + 8) else none

/-- Object class and index (R19). -/
def objClass (o : Nat) : Nat := o / 4096 % 16
def objIndex (o : Nat) : Nat := o % 4096

/-- The owner of an object; S0 where nothing is granted (R48). -/
def State.ownerOf (s : State) (o : Nat) : Nat := smGet 0 s.own.objs o

/-- The owner of a Chart range, by object ID. -/
def State.rangeOf? (s : State) (o : Nat) : Option ChartRange :=
  if objClass o = 3 then s.own.ranges.find? (fun r => r.id = objIndex o) else none

/-- The owner of a Chart entry: the session of the range that holds it, else S0. -/
def State.entryOwner (s : State) (e : Nat) : Nat :=
  match s.own.ranges.find? (fun r => decide (r.first ≤ e ∧ e < r.first + r.count)) with
  | some r => r.sess
  | none => 0

/-- The owner of any object ID, ranges and crate pools included. -/
def State.objOwner (s : State) (o : Nat) : Nat :=
  if objClass o = 3 then (match s.rangeOf? o with | some r => r.sess | none => 0)
  else if objClass o = 6 then objIndex o
  else s.ownerOf o

/-- The session watches the slice (R57). -/
def State.watches (s : State) (n i : Nat) : Bool := s.own.watches.any (fun w => w.1 = i && w.2 = n)

/-- A session's state (Table SES-1); S0 is always open (R43). -/
def State.sesState (s : State) (n : Nat) : Nat := if n = 0 then 2 else s.rd SES_CTL_STATE n

def State.sess (s : State) (n : Nat) : Sess := smGet Sess.init s.sessions n

def State.setSess (s : State) (n : Nat) (x : Sess) : State := { s with sessions := smSet Sess.init s.sessions n x }

def State.fn (s : State) (n : Nat) : Fn := smGet Fn.init s.host.fns n

def State.setFn (s : State) (n : Nat) (x : Fn) : State :=
  { s with host := { s.host with fns := smSet Fn.init s.host.fns n x } }

def State.helm (s : State) (h : Nat) : Helm := smGet Helm.init s.helms h

def State.setHelm (s : State) (h : Nat) (x : Helm) : State := { s with helms := smSet Helm.init s.helms h x }

/-- The function of Sn is enabled: PF0 always, VFn by VF Enable and NumVFs (R95). -/
def State.fnEnabled (s : State) (n : Nat) : Bool := n = 0 || (s.host.vfEnable && decide (n ≤ s.host.numVFs))

/-- The E-die is powered: Run, Doze, Nap, ENTERING or WAKING (Table KPR-3). -/
def State.eDieOn (s : State) : Bool := s.rd KP_PWR_STAT_EDIE ≤ 2 || s.rd KP_PWR_STAT_EDIE = 6

/-- Unlon has reported ready: the register fabric answers (R628, R644). -/
def State.ready (s : State) : Bool := s.flag GL_BOOT_READY && s.eDieOn

/-! ### Memory (R73) -/

/-- Bytes of fitted, addressable Cellar (R523). -/
def State.cellarSize (s : State) : Nat := s.rd MX_CELLAR_ADDR_MIB * 0x100000

def cellarBase : Nat := 0x100000000

def inLarder (a : Nat) : Bool := decide (a < 0x800000)

def State.inCellar (s : State) (a : Nat) : Bool := decide (cellarBase ≤ a ∧ a < cellarBase + s.cellarSize)

/-- The DPA is Larder or fitted Cellar; everything else is a device region. -/
def State.inMemory (s : State) (a : Nat) : Bool := inLarder a || s.inCellar a

/-- The byte at a DPA has been undefined since a wake from Moor and not written (R633): where its free value lies. -/
def State.undefAt (s : State) (a : Nat) : Option Nat :=
  match s.mem.undef.find? (fun e => e.1 = a / 4096) with
  | some (_, b, w) => if w.contains (a % 4096) then none else some (b + a % 4096)
  | none => none

/-- One byte at a DPA; a device region reads 0, and an undefined byte is a free value (R633). -/
def State.byteAt (s : State) (a : Nat) : Byte :=
  if inLarder a then smGet 0 s.mem.larder a
  else if s.inCellar a then
    (match s.undefAt a with
     | some k => BitVec.ofNat 8 (Config.free k)
     | none => smGet 0 s.mem.cellar (a - cellarBase))
  else 0

/-- The byte at a DPA is defined from now on. -/
def State.define (s : State) (a : Nat) : State :=
  if (s.undefAt a).isSome then
    { s with mem := { s.mem with undef := s.mem.undef.map fun e =>
        if e.1 = a / 4096 then (e.1, e.2.1, a % 4096 :: e.2.2) else e } }
  else s

/-- One byte written at a DPA; a device region discards it. -/
def State.setByte (s : State) (a : Nat) (b : Byte) : State :=
  if inLarder a then { s with mem := { s.mem with larder := smSet 0 s.mem.larder a b } }
  else if s.inCellar a then
    let s := s.define a
    { s with mem := { s.mem with cellar := smSet 0 s.mem.cellar (a - cellarBase) b } }
  else s

def State.bytesAt (s : State) (a n : Nat) : List Byte := (List.range n).map fun i => s.byteAt (a + i)

/-- Little-endian number at a DPA (R8). -/
def State.numAt (s : State) (a n : Nat) : Nat := leNat (s.bytesAt a n)

def State.setBytes (s : State) (a : Nat) : List Byte → State
  | [] => s
  | b :: bs => (s.setByte a b).setBytes (a + 1) bs

def State.setNum (s : State) (a n v : Nat) : State := s.setBytes a (leBytes n v)

/-- The 64-bit word holding the byte at DPA `a` is marked uncorrectable (R520); with inline ECC an undefined word may
be (R633): free. -/
def State.badWord (s : State) (a : Nat) : Bool :=
  s.mem.bad.contains (a / 8) ||
    (s.flag MX_CELLAR_INLINE_ECC &&
      (match s.undefAt (a / 8 * 8) with | some k => Config.free (k + 4096) % 2 = 1 | none => false))

def State.markBad (s : State) (a : Nat) : State :=
  if s.badWord a then s else { s with mem := { s.mem with bad := a / 8 :: s.mem.bad } }

/-- A write that covers whole words clears their marks (R520). -/
def State.coverWords (s : State) (a n : Nat) : State :=
  { s with mem := { s.mem with bad := s.mem.bad.filter (fun w => !decide (a ≤ 8 * w ∧ 8 * w + 8 ≤ a + n)) } }

/-- A page (DPA[39:12]) zeroed by a scrub (R69): its bytes are 0 and its code words are good. -/
def State.scrubPage (s : State) (p : Nat) : State :=
  let a := p * 4096
  { s with mem :=
    { larder := s.mem.larder.filter (fun c => !decide (a ≤ c.1 ∧ c.1 < a + 4096))
      cellar := s.mem.cellar.filter (fun c => !decide (a ≤ c.1 + cellarBase ∧ c.1 + cellarBase < a + 4096))
      bad := s.mem.bad.filter (fun w => !decide (a ≤ 8 * w ∧ 8 * w < a + 4096))
      undef := smDel s.mem.undef p } }

/-- A Cellar page that lost its contents and is not zeroed yet; the pages of sessions' windows are not swept (R633), nor
are those of the Logbook, which Unlon has prepared when it is ready (R669). -/
def State.unswept (s : State) (p : Nat) : Bool :=
  let log := s.rd LG_BASE_DPA / 4096
  decide (0x100000 + s.own.swept ≤ p ∧ p < 0x100000 + s.cellarSize / 4096) && !decide (log ≤ p ∧ p < log + 1024) &&
    !s.sessions.any (fun e => e.2.windows.any fun w => w.pages.contains p)

/-- The page is held by a scrub: a release under way or a background sweep (R51, R632, R633). -/
def State.pageBusy (s : State) (p : Nat) : Bool :=
  s.own.bgPages.contains p || s.own.scrubs.any (fun r => r.pages.contains p) || s.unswept p

/-- The object is held by a scrub (R51). -/
def State.objBusy (s : State) (o : Nat) : Bool := s.own.scrubs.any (fun r => r.objs.contains o)

/-! ### Beacon sources (chapter 17) -/

def Source.init : Source :=
  { st := 0, count := 0, cause := 0, data := 0, time := 0, latched := false, en := true, prio := 3, route := none,
    holder := 0, pos := 0, presented := false }

def State.source (s : State) (k : Nat) : Source := smGet Source.init s.beacon.sources k

def State.setSource (s : State) (k : Nat) (x : Source) : State :=
  { s with beacon := { s.beacon with sources := smSet Source.init s.beacon.sources k x } }

/-- Reserved source numbers (Tables BCN-2 and BCN-3). -/
def srcReserved (k : Nat) : Bool :=
  decide ((18 ≤ k ∧ k < 32) ∨ (39 ≤ k ∧ k < 64) ∨ (64 ≤ k ∧ k < 256 ∧ 4 ≤ k % 8) ∨ (672 ≤ k ∧ k < 704) ∨
    (705 ≤ k ∧ k < 736) ∨ (752 ≤ k ∧ k < 768) ∨ 1024 ≤ k)

/-- The owner of a source (Table BCN-2). -/
def State.srcOwner (s : State) (k : Nat) : Nat :=
  if k < 64 then 0
  else if k < 256 then s.ownerOf (sliceObj ((k - 64) / 8))
  else if k < 512 then s.ownerOf (0x2000 + (k - 256) / 8)
  else if k < 576 then s.ownerOf (0x4000 + (k - 512))
  else if k < 640 then s.ownerOf (0x9000 + (k - 576))
  else if k < 656 then k - 640
  else if k < 672 then k - 656
  else if k < 736 then 0
  else if k < 752 then k - 736
  else if k < 768 then 0
  else (k - 768) / 16

/-- Sources whose route cannot be written (Table BCN-6). -/
def srcFixed (k : Nat) : Bool := decide ((736 ≤ k ∧ k < 752) ∨ (768 ≤ k ∧ k < 1024))

/-- The default route of a source (Table BCN-6). -/
def State.defaultRoute (s : State) (k : Nat) : Route :=
  if 32 ≤ k ∧ k < 64 then { mode := 1, target := 0, mask := 3 } else { mode := 0, target := s.srcOwner k, mask := 0 }

def State.routeOf (s : State) (k : Nat) : Route :=
  match (s.source k).route with
  | some r => r
  | none => s.defaultRoute k

/-- A firing merged into a source (R534, Table BCN-4). -/
def Source.merge (x : Source) (cause data time n : Nat) (latched : Bool) : Source :=
  if x.st = 0 ∨ x.st = 2 then
    { x with st := x.st + 1, count := min 0xFFFF n, cause := cause % 256, data := data % 2 ^ 32, time := time,
             latched := latched, presented := false }
  else
    { x with count := min 0xFFFF (x.count + n), cause := Nat.lor x.cause (cause % 256), data := data % 2 ^ 32,
             time := time, latched := x.latched || latched, presented := false }

/-- A doorbell word reaches the Beacon (R529, R530). -/
def State.fire (s : State) (k cause data : Nat) : State :=
  if srcReserved k then s.bump BC_ERR_RSV_SRC
  else s.setSource k ((s.source k).merge cause data s.stamp 1 false)

/-- The Beacon's domain is in Run or Doze and the Tether carries K-die events (R550, R641). -/
def State.beaconUp (s : State) : Bool :=
  s.ready && s.rd KP_DOM % 4 ≤ 1 && s.flag KP_TETHER_UP

/-- Nothing wakes the E-die: cutoff with PACK alone (R564), or thermal shutdown (R623). -/
def State.noWake (s : State) : Bool :=
  s.feed.moorHold || s.keep.shutHold || (s.flag FD_STAT_CUTOFF && s.rd FD_STAT_VALID % 4 = 0)

/-- A wake from Stow or Moor begins (Table KPR-6): TCXO_EN and the rails rise; WAKE_SRC names the cause. -/
def State.startWake (s : State) (src : Nat) : State :=
  let st := s.rd KP_PWR_STAT_EDIE
  if (st == 3 || st == 4) && !s.noWake then
    let s := (s.wr KP_PWR_STAT_EDIE 7).wr KP_PWR_STAT_WAKE_SRC src
    { s with keep := { s.keep with wake := some (st, s.clock), tcxo := true },
             boot := { s.boot with railAt := s.clock, railFails := 0, railRetry := none } }
  else s

/-- A K-die event while the Beacon is stopped: its wake latch records it, and wakes the engine when KP_WAKE_EN lets it
(R550). -/
def State.latch (s : State) (k cause data : Nat) : State :=
  let first := !s.maskBit KP_WLATCH_LATCH k
  let s := if first then (s.wr KP_WTIME_KTIME s.tm.keeper 0 k).wr KP_WTIME_EDGES 1 0 k
           else s.wr KP_WTIME_EDGES (min 15 (s.rd KP_WTIME_EDGES 0 k + 1)) 0 k
  let c0 := if first then 0 else smGet 0 s.beacon.latchCause k
  let b := { s.beacon with latchData := smSet 0 s.beacon.latchData k (data % 2 ^ 32)
                           latchCause := smSet 0 s.beacon.latchCause k (Nat.lor c0 (cause % 256)) }
  let s := { s with beacon := b }
  let s := s.setMaskBit KP_WLATCH_LATCH k true
  let s : State := if !s.eDieOn && s.host.pmeEn then { s with host := { s.host with wakeLow := true } } else s
  if s.maskBit KP_WAKE_EN k then s.startWake k else s

/-- A K-die source fires: directly, or through its latch while the Beacon is stopped, never both (R551). During Stow
entry a wake-capable edge also abandons the entry (R615). -/
def State.kfire (s : State) (k cause data : Nat) : State :=
  if s.beaconUp then
    let s := s.fire k cause data
    if s.keep.entry.isSome && s.maskBit KP_WAKE_EN k then { s with keep := { s.keep with abort := true } } else s
  else s.latch k cause data

/-- A source returns to inactive with COUNT, CAUSE and DATA cleared (R533, R534). -/
def Source.clear (x : Source) : Source :=
  { x with st := 0, count := 0, cause := 0, data := 0, time := 0, latched := false, presented := false, holder := 0,
           pos := 0 }

def State.clearSource (s : State) (k : Nat) : State := s.setSource k (s.source k).clear

/-- A source changes owner: cleared and back to its default route (R533). -/
def State.rerouteSource (s : State) (k : Nat) : State := s.setSource k { (s.source k).clear with route := none }

/-- A source is taken by a target (R536): its counts go with the presentation. -/
def Source.take (x : Source) (holder pos : Nat) : Source :=
  { x with st := 2, count := 0, cause := 0, data := 0, time := 0, latched := false, holder := holder, pos := pos,
           presented := false }

/-- A completion (R537): active to inactive, active+pending to pending. -/
def Source.complete (x : Source) : Source :=
  if x.st = 2 then { x with st := 0, holder := 0, pos := 0 } else if x.st = 3 then { x with st := 1, holder := 0, pos := 0 } else x

/-! ### Host-bound staging and rings -/

/-- Bytes of staging an item uses in the data part (R526). -/
def Stage.size : Stage → Nat
  | .data _ _ b => b.length
  | .event _ _ b => b.length
  | .record _ _ _ => 0
  | .msix _ _ => 0

def Stage.func : Stage → Nat
  | .data f _ _ => f
  | .event f _ _ => f
  | .record f _ _ => f
  | .msix f _ => f

/-- Data part of staging in use, bytes. -/
def State.stagingUsed (s : State) : Nat := s.host.staging.foldl (fun n x => n + x.size) 0

/-- Room in the 64 KiB data part (R526). -/
def State.stagingRoom (s : State) (n : Nat) : Bool := decide (s.stagingUsed + n ≤ 65536)

/-- An item enters staging; the STALL timer starts when staging becomes non-empty (R124). -/
def State.pushStage (s : State) (x : Stage) : State :=
  { s with host := { s.host with staging := s.host.staging ++ [x],
                                 creditAt := if s.host.staging = [] then s.clock else s.host.creditAt } }

/-- A ring's size exponent: 4-12, 0-3 act as 4, 13-15 act as 12 (Tables OPS-11, BCN-10). -/
def ringLog2 (v : Nat) : Nat := clamp 4 12 v

/-- Records of an event queue not yet consumed. -/
def Sess.eqUsed (x : Sess) : Nat := x.eqWritten - x.eqRead

/-- The event queue of Sn takes a record now: enabled, Bus Master Enable set (R543, R549). -/
def State.eqLive (s : State) (n : Nat) : Bool := s.flag EQ_CFG_EN n && (s.fn n).bme

def State.eqSize (s : State) (n : Nat) : Nat := 2 ^ ringLog2 (s.rd EQ_CFG_LOG2_SIZE n)

/-- A slot is free: at most 2^LOG2_SIZE - 1 unconsumed records (R543). -/
def State.eqFree (s : State) (n : Nat) : Bool := decide ((s.sess n).eqUsed + 1 < s.eqSize n)

/-- Write one 16-byte event record at the tail, with the queue's phase in byte 1 bit 7 (R137, R543); send vector 0
when ARM is set (R547). -/
def State.eqWrite (s : State) (n : Nat) (rec : List Byte) : State :=
  let tail := s.rd EQ_STAT_TAIL n
  let ph := s.rd EQ_STAT_PHASE n
  let rec' := rec.set 1 (rec.getD 1 0 ||| BitVec.ofNat 8 (128 * ph))
  let wrap := tail + 1 = s.eqSize n
  let s := s.pushStage (.event n (s.rd EQ_BASE_ADDR n * 4096 + 16 * tail) rec')
  let s := (s.wr EQ_STAT_TAIL (if wrap then 0 else tail + 1) n).wr EQ_STAT_PHASE (if wrap then 1 - ph else ph) n
  let s := (s.setSess n { s.sess n with eqWritten := (s.sess n).eqWritten + 1 }).count 155
  if s.flag EQ_STAT_ARM n then (s.pushStage (.msix n 0)).setFlag EQ_STAT_ARM false n else s

/-- An event record (Table BCN-7) without its PHASE bit. -/
def eventRecord (src cause flags data time count : Nat) : List Byte :=
  leBytes 2 src ++ leBytes 1 cause ++ leBytes 1 flags ++ leBytes 4 data ++ leBytes 6 time ++ leBytes 2 count

/-- The overflow record due after drops, written first when a slot is free (R548). -/
def State.eqOverflow (s : State) (n : Nat) : State :=
  if (s.sess n).eqDropped = 0 then s
  else if s.eqLive n && s.eqFree n then
    let d := (s.sess n).eqDropped
    let s := s.eqWrite n (eventRecord 0 0 2 (min 0xFFFFFFFF d) s.stamp 0)
    s.setSess n { s.sess n with eqDropped := 0 }
  else s

/-- A message or copy record that cannot be written is dropped as the newest and counted (R548). -/
def State.eqDrop (s : State) (n : Nat) : State :=
  (s.setSess n { s.sess n with eqDropped := (s.sess n).eqDropped + 1 }).bump BC_QSTAT_DROP n |>.count 156

/-- A message or copy record for Sn: written, or waiting in staging while the queue cannot write (R549), or
dropped (R548); during a session reset or close it is discarded (R245). -/
def State.eqMessage (s : State) (n : Nat) (rec : List Byte) : State :=
  if (s.sess n).phase ≠ 0 then s
  else if s.eqLive n then
    let s := s.eqOverflow n
    if s.eqFree n && s.stagingRoom 16 then s.eqWrite n rec else s.eqDrop n
  else if s.stagingRoom (16 * ((s.sess n).eqWait.length + 1)) then
    s.setSess n { s.sess n with eqWait := (s.sess n).eqWait ++ [rec] }
  else s.eqDrop n

/-- Messages that waited are written in order once the queue can write (R549). -/
def State.eqFlush (s : State) (n : Nat) : State :=
  let w := (s.sess n).eqWait
  w.foldl (fun s r => s.eqMessage n r) (s.setSess n { s.sess n with eqWait := [] })

/-! ### Status codes (Table OPS-10) -/

def doneOk : Nat := 0x00
def doneCancelled : Nat := 0x01
def donePartial : Nat := 0x02
def eBusy : Nat := 0x10
def eNotOwner : Nat := 0x11
def eQuota : Nat := 0x12
def eNoCrate : Nat := 0x13
def eBadRecord : Nat := 0x14
def eMapFault : Nat := 0x15
def eBudget : Nat := 0x16
def eTimeout : Nat := 0x17
def ePartnerSilent : Nat := 0x18
def eHalted : Nat := 0x19
def eReset : Nat := 0x1A
def eDeferred : Nat := 0x1B
def eAllowance : Nat := 0x1C
def eUnsupported : Nat := 0x1D
def eDeviceFault : Nat := 0x1E

/-! ### The operation store -/

/-- An operation in flight by session and tag. -/
def State.op? (s : State) (n tag : Nat) : Option Op := s.ops.find? (fun o => o.sess = n && o.tag = tag && !o.refused)

/-- Every operation of a session and tag that is in flight, changed by `f`. -/
def State.modOp (s : State) (n tag : Nat) (f : Op → Op) : State :=
  { s with ops := s.ops.map fun o => if o.sess = n ∧ o.tag = tag ∧ o.refused = false then f o else o }

/-- Parameter word Pi. -/
def Op.par (o : Op) (i : Nat) : Nat := o.p.getD i 0

/-- The operation has not ended. -/
def Op.live (o : Op) : Bool := o.fin.isNone && !o.refused

/-- The state it is in, or held before HALTED: HALTED goes on with its device-side work (R107). -/
def Op.eff (o : Op) : OpState := if o.st = .halted then o.prev else o.st

def Op.active (o : Op) : Bool := o.eff = .running

def Op.setEff (x : OpState) (o : Op) : Op := if o.st = .halted then { o with prev := x } else { o with st := x }

/-- End an operation: status, RESULT and the device time of the end (R64). Its charge ends with it, unless it stays HALTED
until its record is written (R146, R108); host data dropped while HALTED makes it E_HALTED (R157). A second ending changes
nothing (R155). -/
def Op.finish (t status result : Nat) (o : Op) : Op :=
  if o.fin.isSome then o
  else
    let lost := o.st = .halted ∧ o.dropped ≠ 0 ∧ (status = 0 ∨ status = 2)
    { o with fin := some { status := if lost then eHalted else status,
                           result := if lost then min 0xFFFFFFFF o.dropped else result % 2 ^ 32, time := t },
             est := if o.st = .halted then o.est else 0, due := none, want := 0 }

def State.endOp (s : State) (n tag status result : Nat) : State := s.modOp n tag (Op.finish s.stamp status result)

/-- End with data for HADDR: no more than the buffer length; beyond it DONE_PARTIAL with the full size (R143). -/
def State.endWithData (s : State) (n tag : Nat) (data : List Byte) (len : Nat) : State :=
  let s := s.modOp n tag (fun o => { o with outp := data.take len })
  if data.length ≤ len then s.endOp n tag 0 data.length else s.endOp n tag 2 data.length

/-- The work of a row on the RUNNING operation of session `n` and tag `tag`: it has begun (R158), has its host data, has
not ended, and is of the row's opcode and form; otherwise the row has not happened and nothing changes. -/
def State.runOp (s : State) (n tag opcode : Nat) (form : Op → Bool) (f : Op → State → State) : State :=
  match s.op? n tag with
  | some o => if o.opcode = opcode && o.live && o.active && o.started && o.want = 0 && form o then f o s else s
  | none => s

/-- End every live operation of any session that satisfies `p`. -/
def State.endOpsWhere (s : State) (p : Op → Bool) (status : Nat) (result : Op → Nat) : State :=
  { s with ops := s.ops.map fun o => if o.live && p o then o.finish s.stamp status (result o) else o }

/-- Operations charged to the session's quota (R147, R150): control operations are not. -/
def isControl (opcode : Nat) : Bool := opcode = 0x30 || opcode = 0x31 || opcode = 0x32

/-- Long operations (Table OPS-4, kind L). -/
def isLong (opcode : Nat) : Bool := [0x10, 0x12, 0x19, 0x20, 0x21, 0x22, 0x38, 0x39].contains opcode

/-- Management opcodes (R142). -/
def isManagement (opcode : Nat) : Bool := [1, 2, 3, 0x3C, 0x3D].contains opcode

def State.inFlight (s : State) (n : Nat) : Nat :=
  (s.ops.filter fun o => o.sess = n && !o.refused && !isControl o.opcode).length

/-- Completion slots reserved in Sn's ring (CQ_STAT.RESERVED_SLOTS). -/
def State.slotsReserved (s : State) (n : Nat) : Nat :=
  s.ops.foldl (fun k o => if o.sess = n then k + o.slots else k) 0

/-- Completion slots free (R148): none while the ring is not enabled (R132). -/
def State.slotsFree (s : State) (n : Nat) : Nat :=
  if !s.flag CQ_CFG_EN n then 0
  else 2 ^ ringLog2 (s.rd CQ_CFG_LOG2_SIZE n) - ((s.sess n).cqWritten - (s.sess n).cqRead) - s.slotsReserved n

/-- The estimates charged to Sn now (SES_POWER_RES.CHARGED_MW): of operations, and of acquired slices (Table OPS-6). -/
def State.charged (s : State) (n : Nat) : Nat :=
  s.ops.foldl (fun k o => if o.sess = n then k + o.est else k) 0 +
  s.lines.foldl (fun k e => if e.2.chargeTo = n then k + e.2.charge else k) 0

/-- The sum of the power reserves of S1-S15. -/
def State.reserves (s : State) : Nat :=
  (List.range 15).foldl (fun k i => k + s.rd SES_POWER_RESERVE_MW (i + 1)) 0

/-- The allowance the E-die admits by (R32): none while the Tether is lost (R641). -/
def State.allowance (s : State) : Nat := if s.flag KP_TETHER_UP then s.power.reported else 0

end Sys2Proof.Machine
end

