-- ==== Sys2Proof/Machine/Gcm.lean ====
section
/-! DEFINITION. AES-256-GCM, which seals the session sections of the Logbook (R680). PRESUMED: the algorithm itself is
that of FIPS 197 and NIST SP 800-38D; the spec names it and gives key, nonce, additional data and tag. Bytes are numbers
below 256. -/

namespace Sys2Proof.Machine

/-- Product of `a` and `b` in the field of AES, over the `k` low bits of `b`. -/
def gfMul : Nat → Nat → Nat → Nat
  | 0, _, _ => 0
  | k + 1, a, b =>
    Nat.xor (if b.testBit 0 then a else 0) (gfMul k (Nat.xor (2 * a % 256) (if 128 ≤ a then 0x1b else 0)) (b / 2))

/-- The inverse in that field: the 254th power. -/
def gfInv (a : Nat) : Nat :=
  ((List.range 7).foldl (fun (p : Nat × Nat) _ =>
    let q := gfMul 8 p.1 p.1
    (q, gfMul 8 p.2 q)) (a, 1)).2

def rotl8 (b k : Nat) : Nat := b * 2 ^ k % 256 + b * 2 ^ k / 256

/-- The AES substitution box. -/
def aesSub (a : Nat) : Nat :=
  let b := gfInv a
  [1, 2, 3, 4].foldl (fun x k => Nat.xor x (rotl8 b k)) (Nat.xor b 0x63)

def xorList (a b : List Nat) : List Nat := List.zipWith Nat.xor a b

/-- Round constant `k` of the key expansion. -/
def aesRcon (k : Nat) : Nat := 2 ^ (k - 1)

/-- The 60 words of the AES-256 key schedule. -/
def aesKeys (key : List Nat) : List (List Nat) :=
  let w0 := (List.range 8).map fun i => (key.drop (4 * i)).take 4
  (List.range 52).foldl (fun ws k =>
    let i := k + 8
    let t := ws.getD (i - 1) []
    let t := if i % 8 = 0 then xorList ((t.drop 1 ++ t.take 1).map aesSub) [aesRcon (i / 8), 0, 0, 0]
             else if i % 8 = 4 then t.map aesSub else t
    ws ++ [xorList (ws.getD (i - 8) []) t]) w0

def aesShift (x : List Nat) : List Nat :=
  (List.range 16).map fun i => x.getD (4 * ((i / 4 + i % 4) % 4) + i % 4) 0

def aesMix (x : List Nat) : List Nat :=
  (List.range 16).map fun i =>
    let at_ (r : Nat) : Nat := x.getD (i / 4 * 4 + (i + r) % 4) 0
    Nat.xor (Nat.xor (gfMul 8 (at_ 0) 2) (gfMul 8 (at_ 1) 3)) (Nat.xor (at_ 2) (at_ 3))

/-- One block of 16 bytes encrypted under a key schedule. -/
def aesBlock (ws : List (List Nat)) (x : List Nat) : List Nat :=
  let rk (r : Nat) : List Nat := ((ws.drop (4 * r)).take 4).flatten
  let x := (List.range 13).foldl (fun x r => xorList (aesMix (aesShift (x.map aesSub))) (rk (r + 1))) (xorList x (rk 0))
  xorList (aesShift (x.map aesSub)) (rk 14)

/-- The number that big-endian bytes spell. -/
def beNat (l : List Nat) : Nat := l.foldl (fun n b => 256 * n + b) 0

def beBytes (n v : Nat) : List Nat := ((List.range n).map fun i => v / 256 ^ i % 256).reverse

/-- Product in the field of GHASH. -/
def ghMul (x y : Nat) : Nat :=
  ((List.range 128).foldl (fun (p : Nat × Nat) i =>
    (if x.testBit (127 - i) then Nat.xor p.1 p.2 else p.1,
     if p.2.testBit 0 then Nat.xor (p.2 / 2) (0xe1 * 2 ^ 120) else p.2 / 2)) (0, y)).1

/-- A list cut into `n` blocks of 16, the last padded with zeros. -/
def blocks16 : Nat → List Nat → List (List Nat)
  | 0, _ => []
  | n + 1, l => (l.take 16 ++ List.replicate (16 - l.length) 0) :: blocks16 n (l.drop 16)

def blocksOf (l : List Nat) : List (List Nat) := blocks16 ((l.length + 15) / 16) l

/-- AES-256-GCM: ciphertext and tag of `plain` under a 32-byte key and a 12-byte nonce, with additional data. -/
def gcmSeal (key nonce aad plain : List Byte) : List Byte × List Byte :=
  let nats (l : List Byte) : List Nat := l.map (·.toNat)
  let ws := aesKeys (nats key)
  let h := beNat (aesBlock ws (List.replicate 16 0))
  let ctr (i : Nat) : List Nat := aesBlock ws (nats nonce ++ beBytes 4 i)
  let c := ((blocksOf (nats plain)).zipIdx.flatMap fun e => xorList e.1 (ctr (e.2 + 2))).take plain.length
  let lens := beBytes 8 (8 * aad.length) ++ beBytes 8 (8 * plain.length)
  let s := (blocksOf (nats aad) ++ blocksOf c ++ [lens]).foldl (fun y b => ghMul (Nat.xor y (beNat b)) h) 0
  (c.map (BitVec.ofNat 8), (xorList (beBytes 16 s) (ctr 1)).map (BitVec.ofNat 8))

end Sys2Proof.Machine
end

