-- ==== Sys2Proof/Machine/Operands.lean ====
section
/-! DEFINITION. The operand forms: the fields of a Maelsil word (Table MSM-7), which instruction a word spells (the
tables of chapter 06, with R212's zero fields), the operands each form reads, and the fields of a submission record
(Table OPS-1). -/

namespace Sys2Proof.Machine

/-! ### Maelsil words -/

/-- The Helm instructions, by mnemonic (chapter 06). -/
inductive HOp where
  | add | adc | sub | sbc | and | or | xor | andn | shl | shr | sar | ror | mul | mulhu | popc | clz | bswap | csel
  | adds | subs | addi | andi | ori | xori | shli | shri | sari | rori | movl | movh | movs | rds | extu | ins | cmp
  | tst | cmpi | tsti | b | bl | ret | loop | cbz | cbnz | ldw | ldh | ldhs | ldb | ldbs | stw | sth | stb | fld | fst
  | fadd | fsync | ohrd | ohwr | ohwm | push | pushc | rwd | crc | bip8 | bip2 | berr | bipx | tally | tbin | dset
  | dclr | pstart | pstop | perr | prdc | pstat | pword | tarm | tarmr | tper | tcan | post | raise | raises | fin
  deriving DecidableEq, Repr

/-- The field of `w` bits at bit `l` of an instruction word. -/
def wFld (x : Word) (l w : Nat) : Nat := bitsAt x.toNat l w

/-- Major opcode, [31:26]. -/
def wMajor (x : Word) : Nat := (wFld x 26 6)
/-- d, [25:22]; also COND and r of format D. -/
def wD (x : Word) : Nat := (wFld x 22 4)
/-- a, [21:18]. -/
def wA (x : Word) : Nat := (wFld x 18 4)
/-- b, [17:14]. -/
def wB (x : Word) : Nat := (wFld x 14 4)
/-- FN of format A, [13:0]. -/
def wFnA (x : Word) : Nat := (wFld x 0 14)
/-- FN of format B, [17:12]. -/
def wFnB (x : Word) : Nat := (wFld x 12 6)
/-- IMM12 and OFF12, [11:0]. -/
def wImm12 (x : Word) : Nat := (wFld x 0 12)
/-- FN of format C, [21:16]. -/
def wFnC (x : Word) : Nat := (wFld x 16 6)
/-- IMM16, [15:0]. -/
def wImm16 (x : Word) : Nat := (wFld x 0 16)
/-- KIND of format D, [21:20]. -/
def wKind (x : Word) : Nat := (wFld x 20 2)
/-- OFFSET20, [19:0]. -/
def wOff20 (x : Word) : Nat := (wFld x 0 20)
/-- PT of format E, [17:15]. -/
def wPt (x : Word) : Nat := (wFld x 15 3)
/-- FN of format E, [14:12]. -/
def wFnE (x : Word) : Nat := (wFld x 12 3)

/-- A field of `w` bits, sign-extended. -/
def signExt (w v : Nat) : Int := if v < 2 ^ (w - 1) then (v : Int) else (v : Int) - 2 ^ w

/-- sext12(IMM12) as a word. -/
def wSimm12 (x : Word) : Word := BitVec.ofInt 32 (signExt 12 (wImm12 x))

/-- A branch target: pc plus the signed OFFSET20 (R200). -/
def wTarget (x : Word) (pc : Nat) : Int := (pc : Int) + signExt 20 (wOff20 x)

/-- A condition code other than the reserved 8 (R217). -/
def condOk (c : Nat) : Bool := c != 8

/-- `o` when every field that must be 0 is 0 (R212). -/
def whenZero (o : HOp) (fields : List Nat) : Option HOp := if fields.all (fun f => f == 0) then some o else none

/-- Format A of the ALU, OP 0x01-0x07 (Table MSI-2). -/
def decodeAluA (x : Word) : Option HOp :=
  match wMajor x, wFnA x with
  | 0x01, 0 => some .add | 0x01, 1 => some .adc | 0x01, 2 => some .sub | 0x01, 3 => some .sbc
  | 0x02, 0 => some .and | 0x02, 1 => some .or | 0x02, 2 => some .xor | 0x02, 3 => some .andn
  | 0x03, 0 => some .shl | 0x03, 1 => some .shr | 0x03, 2 => some .sar | 0x03, 3 => some .ror
  | 0x04, 0 => some .mul | 0x04, 1 => some .mulhu
  | 0x05, 0 => whenZero .popc [(wB x)] | 0x05, 1 => whenZero .clz [(wB x)] | 0x05, 2 => whenZero .bswap [(wB x)]
  | 0x06, c => if c < 16 ∧ condOk c then some .csel else none
  | 0x07, 0 => some .adds | 0x07, 1 => some .subs
  | _, _ => none

/-- Immediate forms, OP 0x08-0x0B (Table MSI-3). -/
def decodeAluI (x : Word) : Option HOp :=
  match wMajor x, wFnB x with
  | 0x08, 0 => some .addi | 0x08, 1 => some .andi | 0x08, 2 => some .ori | 0x08, 3 => some .xori
  | 0x08, 4 => whenZero .shli [(wFld x 5 7)] | 0x08, 5 => whenZero .shri [(wFld x 5 7)]
  | 0x08, 6 => whenZero .sari [(wFld x 5 7)] | 0x08, 7 => whenZero .rori [(wFld x 5 7)]
  | 0x0B, 0 => whenZero .extu [(wFld x 10 2)] | 0x0B, 1 => whenZero .ins [(wFld x 10 2)]
  | 0x09, _ => if (wFnC x) = 0 then some .movl else if (wFnC x) = 1 then some .movh else if (wFnC x) = 2 then some .movs else none
  | 0x0A, _ => if (wFnC x) = 0 ∧ (wImm16 x) < 4 then some .rds else none
  | _, _ => none

/-- Compares, OP 0x0C-0x0F (Table MSI-4). -/
def decodeCmp (x : Word) : Option HOp :=
  match (wMajor x) with
  | 0x0C => if (wFnA x) = 0 then whenZero .cmp [(wD x)] else if (wFnA x) = 1 then whenZero .tst [(wD x)] else none
  | 0x0D => if (wFnB x) = 0 then whenZero .cmpi [(wD x)] else if (wFnB x) = 1 then whenZero .tsti [(wD x)] else none
  | _ => none

/-- Branches and LOOP, OP 0x10-0x13 (Table MSI-5). -/
def decodeBranch (x : Word) : Option HOp :=
  match wMajor x, wKind x with
  | 0x10, 0 => if condOk (wD x) then some .b else none
  | 0x10, 1 => if condOk (wD x) then some .bl else none
  | 0x10, 2 => if condOk (wD x) then whenZero .ret [(wOff20 x)] else none
  | 0x11, 3 => none
  | 0x11, _ => some .loop
  | 0x12, 0 => some .cbz
  | 0x12, 1 => some .cbnz
  | _, _ => none

/-- Local and far access, OP 0x14-0x1B (Tables MSI-6, MSI-7). -/
def decodeMem (x : Word) : Option HOp :=
  match wMajor x, wFnB x with
  | 0x14, 0 => some .ldw | 0x14, 1 => some .ldh | 0x14, 2 => some .ldhs | 0x14, 3 => some .ldb | 0x14, 4 => some .ldbs
  | 0x15, 0 => some .stw | 0x15, 1 => some .sth | 0x15, 2 => some .stb
  | 0x18, 0 => some .fld | 0x19, 0 => some .fst | 0x1A, 0 => some .fadd
  | 0x1B, 0 => whenZero .fsync [(wD x), (wA x), (wImm12 x)]
  | _, _ => none

/-- Format E and the helpers, OP 0x1C-0x26 (Tables MSI-8, MSI-10, MSI-12 to MSI-14). -/
def decodePort (x : Word) : Option HOp :=
  match wMajor x, wFnE x with
  | 0x1C, f => if f < 3 then some .ohrd else none
  | 0x1D, f => if f < 3 then some .ohwr else none
  | 0x1E, f => if f < 3 then some .ohwm else none
  | 0x1F, 0 => whenZero .push [(wImm12 x)] | 0x1F, 1 => whenZero .pushc [(wImm12 x)]
  | 0x1F, 2 => whenZero .rwd [(wD x), (wA x), (wImm12 x)]
  | 0x22, 0 => whenZero .bipx [(wA x)]
  | 0x25, 0 => whenZero .dset [(wD x), (wA x), (wFld x 8 4)] | 0x25, 1 => whenZero .dclr [(wD x), (wA x), (wFld x 8 4)]
  | 0x26, 0 => whenZero .pstart [(wFld x 4 8), (wD x), (wA x)] | 0x26, 1 => whenZero .pstop [(wD x), (wA x), (wImm12 x)]
  | 0x26, 2 => whenZero .perr [(wD x), (wA x)] | 0x26, 3 => whenZero .prdc [(wA x), (wImm12 x)]
  | 0x26, 4 => whenZero .pstat [(wA x), (wImm12 x)] | 0x26, 5 => whenZero .pword [(wA x), (wImm12 x)]
  | _, _ => none

/-- CRC, BIP and Tally, format A (Tables MSI-10, MSI-12). -/
def decodeHelper (x : Word) : Option HOp :=
  match (wMajor x) with
  | 0x20 => if (wFld x 0 4) ≤ 4 ∧ (wFld x 4 2) ≤ 2 then whenZero .crc [(wFld x 6 8), (wB x)] else none
  | 0x21 => if (wFnA x) = 0 then whenZero .bip8 [(wB x)] else if (wFnA x) = 1 then whenZero .bip2 [(wB x)]
            else if (wFnA x) = 2 then some .berr else none
  | 0x24 => if (wFnA x) = 0 then some .tally else if (wFnA x) = 1 then whenZero .tbin [(wB x)] else none
  | _ => none

/-- Timers, POST, RAISE and END, OP 0x27-0x29 and 0x3F (Tables MSI-15, MSI-16; R238). -/
def decodeCtl (x : Word) : Option HOp :=
  match (wMajor x) with
  | 0x27 => if (wFld x 20 2) = 0 then
      (match (wFld x 18 2) with
       | 0 => whenZero .tarm [(wD x)] | 1 => whenZero .tarmr [(wImm16 x)] | 2 => whenZero .tper [(wD x)]
       | _ => whenZero .tcan [(wD x), (wImm16 x)])
      else none
  | 0x28 => if (wFnB x) = 0 then some .post else none
  | 0x29 => if (wFnC x) = 0 ∧ 2 ≤ (wImm16 x) ∧ (wImm16 x) ≤ 7 then whenZero .raise [(wD x)]
            else if (wFnC x) = 1 ∧ (wImm16 x) ≤ 15 then whenZero .raises [(wD x)] else none
  | 0x3F => if (wFnA x) = 0 then whenZero .fin [(wD x), (wA x), (wB x)] else none
  | _ => none

/-- The instruction a word spells on a Helm; `none` is ILLEGAL (R198, R201, R212). -/
def helmOp (x : Word) : Option HOp :=
  let o := (wMajor x)
  if o < 0x08 then decodeAluA x else if o < 0x0C then decodeAluI x else if o < 0x10 then decodeCmp x
  else if o < 0x14 then decodeBranch x else if o < 0x1C then decodeMem x
  else if o = 0x20 ∨ o = 0x21 ∨ o = 0x24 then decodeHelper x
  else if o < 0x27 then decodePort x else decodeCtl x

/-- A general register; g0 reads 0 (R171). -/
def Helm.reg (m : Helm) (r : Nat) : Word := if r = 0 then 0 else smGet 0 m.g r

/-- A register written; a write to g0 is discarded (R171). -/
def Helm.setReg (m : Helm) (r : Nat) (v : Word) : Helm := if r = 0 then m else { m with g := smSet 0 m.g r v }

/-- The instruction at pc (unlisted words are 0, which is ILLEGAL, R198). -/
def Helm.fetch (m : Helm) : Word := smGet 0 m.imem m.pc

def Helm.codeWords (m : Helm) : Nat := match m.image with | some i => i.codeWords | none => 0

/-- The address g[a] + sext12(IMM12), modulo 2^32, of a local or far access. -/
def Helm.addr (m : Helm) (x : Word) : Word := m.reg (wA x) + (wSimm12 x)

/-- The port a format E word names. -/
def Helm.port? (m : Helm) (p : Nat) : Option Port := smGet none m.ports p

def Helm.setPort (m : Helm) (p : Nat) (x : Port) : Helm := { m with ports := smSet none m.ports p (some x) }

/-- The kinds of port of Table MSI-9. -/
inductive PortKind where
  | sliceRx | sliceTx | chart | chute | pattern
  deriving DecidableEq, Repr

/-- The kind of a bound port (Table MSM-3). -/
def Port.kind (p : Port) : PortKind :=
  match objClass p.src with
  | 3 => .chart
  | 4 => .chute
  | 7 => .pattern
  | _ => if p.sel < 128 then .sliceRx else .sliceTx

/-- The layer code of a slice port: selector bits [6:0]. -/
def Port.layer (p : Port) : Nat := p.sel % 128

/-! ### Submission records (Table OPS-1) -/

/-- Flag bits of byte 1: WAIT_CRATE, INTRUSIVE, FORCE. -/
def flagWait : Nat := 1
def flagIntrusive : Nat := 2
def flagForce : Nat := 4

/-- The flags an opcode allows (Table OPS-1). -/
def flagsAllowed (opcode : Nat) : Nat :=
  match opcode with
  | 0x20 => flagWait
  | 0x21 => flagWait
  | 0x12 => flagIntrusive
  | 0x38 => flagIntrusive
  | 0x39 => flagIntrusive
  | 0x03 => flagForce
  | _ => 0

end Sys2Proof.Machine
end

