-- ==== Sys2Proof/Machine/Flags.lean ====
section
/-! DEFINITION. The Helm's flag computations (R216, R217 and each entry's own rule): every form the instruction
reference gives, once. -/

namespace Sys2Proof.Machine

/-- Z and N of a result (R216). -/
def Helm.setZN (m : Helm) (r : Word) : Helm := { m with z := r == 0, n := r.msb }

/-- Flags of an addition x + y + cin: Z and N of the result, C the carry out of bit 31, V the signed overflow. -/
def Helm.flagsAdd (m : Helm) (x y : Word) (cin : Bool) : Helm :=
  let r := x + y + BitVec.ofNat 32 (boolNat cin)
  { m.setZN r with c := decide (2 ^ 32 ≤ x.toNat + y.toNat + boolNat cin)
                   v := x.msb == y.msb && r.msb != x.msb }

/-- Flags of a subtraction x - y - bin: C is the borrow, 1 exactly when x < y + bin unsigned. -/
def Helm.flagsSub (m : Helm) (x y : Word) (bin : Bool) : Helm :=
  let r := x - y - BitVec.ofNat 32 (boolNat bin)
  { m.setZN r with c := decide (x.toNat < y.toNat + boolNat bin)
                   v := x.msb != y.msb && r.msb != x.msb }

/-- Flags of a shift or rotate by `k`: Z and N, and C the last bit shifted out, unchanged for an amount of 0. -/
def Helm.flagsShift (m : Helm) (r : Word) (k : Nat) (lastOut : Bool) : Helm :=
  if k = 0 then m.setZN r else { m.setZN r with c := lastOut }

/-- Flags of a saturating operation: Z and N, and C exactly when the result saturated; V unchanged. -/
def Helm.flagsSat (m : Helm) (r : Word) (sat : Bool) : Helm := { m.setZN r with c := sat }

/-- Flags of CRC: Z alone (Table MSI-10). -/
def Helm.flagsZ (m : Helm) (r : Word) : Helm := { m with z := r == 0 }

/-- The eight tests of Table MSI-1. -/
def Helm.test (m : Helm) (t : Nat) : Bool :=
  match t with
  | 0 => true
  | 1 => m.z
  | 2 => m.n
  | 3 => m.c
  | 4 => m.v
  | 5 => m.c || m.z
  | 6 => m.n != m.v
  | _ => m.z || m.n != m.v

/-- A condition field: test number in [2:0], inverted by bit 3 (R217). -/
def Helm.cond (m : Helm) (c : Nat) : Bool := m.test (c % 8) != decide (8 ≤ c)

end Sys2Proof.Machine
end

