-- ==== Sys2Proof/Machine/Walk.lean ====
section
/-! DEFINITION. The session map: the two-level walk (R74-R79), the map cache (R81-R85) and what a walk that ends in any
outcome but Translated leaves behind (R78). -/

namespace Sys2Proof.Machine

open Reg

/-- First byte of the walkable region of Sn (Table SES-12). -/
def State.walkBase (s : State) (n : Nat) : Nat := s.rd SES_WALK_ADDR n * 8192

/-- Last byte of the walkable region of Sn. -/
def State.walkLimit (s : State) (n : Nat) : Nat := s.rd SES_WALK_LIM_ADDR n * 8192 + 0x1FFF

/-- A table is walkable when all 8 KiB of it lie inside the region and inside the Larder or fitted Cellar (R75). -/
def State.walkable (s : State) (n t : Nat) : Bool :=
  decide (s.walkBase n ≤ t ∧ t + 0x1FFF ≤ s.walkLimit n) && s.inMemory t && s.inMemory (t + 0x1FFF)

/-- The outcomes of Table SES-8; FAULT_CAUSE is the order number of a fault, `dpa` the table entry an ECC fault read. -/
inductive WalkOut where
  | fault (cause : Nat) (dpa : Nat)
  | mapped (page : Nat) (blk : Bool) (dpa : Nat) (w : Bool)
  deriving DecidableEq, Repr

/-- The leaf check of R76 and R77 rows 4 and 5: no byte of the page or block in a device region, and W for a write. -/
def State.leafCheck (s : State) (page : Nat) (blk : Bool) (dpa : Nat) (w write : Bool) : WalkOut :=
  let len := if blk then 0x400000 else 0x1000
  if !((decide (dpa + len ≤ 0x800000)) || (s.inCellar dpa && s.inCellar (dpa + len - 1))) then .fault 4 0
  else if write && !w then .fault 5 0
  else .mapped page blk dpa w

/-- The walk of `swa` for Sn, checked in the order of Table SES-8 (R77). -/
def State.walk (s : State) (n swa : Nat) (write : Bool) : WalkOut :=
  let l1 := s.rd SES_MAP_BASE n * 8192
  if !s.walkable n l1 then .fault 1 0
  else
    let a1 := l1 + 8 * (swa / 2 ^ 22 % 1024)
    if s.badWord a1 then .fault 2 a1
    else
      let e1 := s.numAt a1 8
      if !e1.testBit 0 then .fault 3 0
      else if e1.testBit 2 then
        s.leafCheck (swa / 2 ^ 22 * 1024) true (bitsAt e1 22 18 * 2 ^ 22) (e1.testBit 1) write
      else
        let l2 := bitsAt e1 13 27 * 2 ^ 13
        if !s.walkable n l2 then .fault 1 0
        else
          let a2 := l2 + 8 * (swa / 4096 % 1024)
          if s.badWord a2 then .fault 2 a2
          else
            let e2 := s.numAt a2 8
            if !e2.testBit 0 then .fault 3 0
            else s.leafCheck (swa / 4096) false (bitsAt e2 12 28 * 4096) (e2.testBit 1) write

/-- The entry of the map cache that translates `swa` for Sn (R81). -/
def MapEntry.hits (n swa : Nat) (e : MapEntry) : Bool :=
  e.sess = n && (if e.blk then decide (swa / 2 ^ 22 = e.page / 1024) else decide (swa / 4096 = e.page))

/-- The DPA an entry gives. -/
def MapEntry.addr (e : MapEntry) (swa : Nat) : Nat :=
  if e.blk then e.dpa + swa % 2 ^ 22 else e.dpa + swa % 4096

/-- A new entry enters the share of Sn; with the share full, its least recently used unpinned entry goes (R81). The
list is ordered from least to most recently used. -/
def cacheInstall (share : Nat) (e : MapEntry) (l : List MapEntry) : List MapEntry :=
  if (l.filter (fun x => x.sess = e.sess)).length < share then l ++ [e]
  else match l.find? (fun x => x.sess = e.sess && !x.pinned) with
    | some old => l.erase old ++ [e]
    | none => l

/-- A source fires with a CAUSE and a DATA that no rule states: free values. -/
def State.fireFree (s : State) (k : Nat) : State := s.draw.draw.fire k (s.drawn % 256) s.draw.drawn

/-- A source fires with a stated DATA and a CAUSE that no rule states. -/
def State.fireData (s : State) (k data : Nat) : State := s.draw.fire k (s.drawn % 256) data

/-- MX_ERR counts an access and records its master; source 35 fires (R508, R518, R521). -/
def State.matrixErr (s : State) (f : Fld) (master : Nat) : State :=
  ((s.bump f).wr MX_ERR_LAST_MASTER master).fireFree 35

/-- The counters of Table HLT-3 for a memory: corrected and uncorrectable. Memories: 0 Larder, 1 Cellar, 2 map walk,
3 Helm local, 4 Helm instruction, 5 Chart, 6 Steward. -/
def eccCounters (k : Nat) : Nat × Nat :=
  match k with
  | 0 => (176, 177) | 1 => (178, 179) | 2 => (188, 188) | 3 => (180, 181) | 4 => (182, 182) | 5 => (184, 183)
  | _ => (186, 187)

/-- A corrected error of memory `k`, reported with the DATA of Table HLT-4 (R659). -/
def State.eccCorr (s : State) (k data : Nat) : State := (s.count (eccCounters k).1).fire 33 (2 ^ k) data

/-- An uncorrectable error is recorded in HL_ECC_LOG, patrol findings included. -/
def State.eccNote (s : State) (k data : Nat) (patrol : Bool) : State :=
  (((s.wr HL_ECC_LOG_ADDR data).wr HL_ECC_LOG_KIND (2 ^ k)).setFlag HL_ECC_LOG_PATROL
    patrol).bump HL_ECC_LOG_COUNT

def State.eccLog (s : State) (k data : Nat) (patrol : Bool) : State := (s.count (eccCounters k).2).eccNote k data patrol

/-- An uncorrectable error of memory `k`, reported with the DATA of Table HLT-4 (R659). -/
def State.eccUncorr (s : State) (k data : Nat) : State := (s.eccLog k data false).fire 34 (2 ^ k) data

/-- A translated access, or the fault of Table SES-8; with the map cache as the access leaves it. -/
def State.translate (s : State) (n swa : Nat) (write : Bool) : Except Nat Nat × State :=
  match s.own.mapCache.find? (MapEntry.hits n swa) with
  | some e =>
    let s := { s with own := { s.own with mapCache := s.own.mapCache.erase e ++ [e] } }
    if write && !e.w then (.error 5, s) else (.ok (e.addr swa), s)
  | none =>
    let s := s.count 196
    match s.walk n swa write with
    | .fault c a => (.error c, if c = 2 then (s.eccUncorr 2 (a % 2 ^ 32)).matrixErr MX_ERR_UNCORR 10 else s)
    | .mapped page blk dpa w =>
      let e : MapEntry := { sess := n, page := page, blk := blk, dpa := dpa, w := w, pinned := false }
      (.ok (e.addr swa), { s with own := { s.own with mapCache := cacheInstall (s.rd SES_CTL_MAPC_SHARE n) e s.own.mapCache } })

/-- A walk fault recorded for its session: FAULT_CAUSE, FAULT_MASTER, FAULT_ADDR and source 736 + n (R78). -/
def State.mapFault (s : State) (n master cause swa : Nat) : State :=
  ((((s.wr SES_FAULT_FAULT_CAUSE cause n).wr SES_FAULT_FAULT_MASTER master n).wr SES_FAULTA_FAULT_ADDR swa n)).fireFree
    (736 + n)

/-- A window violation of Sn: counted, its window offset[19:4] recorded, source 736 + n raised (R67). -/
def State.violation (s : State) (n off : Nat) : State :=
  ((s.bump SES_VIOL_VIOL_COUNT n).wr SES_VIOL_VIOL_OFFSET (off / 16) n).fireFree (736 + n)

/-- The entries of a session, or of one page of it, leave the map cache (R84, R85). -/
def State.dropMaps (s : State) (p : MapEntry → Bool) : State :=
  { s with own := { s.own with mapCache := s.own.mapCache.filter (fun e => !p e) } }

end Sys2Proof.Machine
end

