-- ==== Sys2Proof/Machine/ChuteBase.lean ====
section
/-! DEFINITION. The Chute: what producers and consumers may do with it (R476-R487). -/

namespace Sys2Proof.Machine

open Reg

def State.chute (s : State) (c : Nat) : Chute := smGet Chute.init s.chutes c

def State.setChute (s : State) (c : Nat) (x : Chute) : State := { s with chutes := smSet Chute.init s.chutes c x }

/-- Causes of Table CHU-1 as masks: FULL, OVERLEN, OPEN_LIMIT, PTR_RESET, SUSPENDED. -/
def gapFull : Nat := 1
def gapOverlen : Nat := 2
def gapOpenLimit : Nat := 4
def gapPtrReset : Nat := 8
def gapSuspended : Nat := 16

/-- GAP entry data (Table CHU-1). -/
def gapData (items packets cause : Nat) : Nat :=
  min 0xFFFFFFFF items + min 0xFFFF packets * 2 ^ 32 + cause % 32 * 2 ^ 48

def gapEntry (d : Nat) : CEntry := { data := d, sop := false, eop := false, gap := true }

/-- Entries that occupy the Chute as producers see it (R480, R487). -/
def Chute.occupied (x : Chute) : Nat :=
  x.held.length + x.freed + (x.hidden.map List.length).sum + (x.opened.map fun p => p.entries.length).sum

def Chute.room (x : Chute) : Nat := 512 - x.occupied

/-- Open packets; one dropped for the open-packet limit is none. -/
def Chute.openCount (x : Chute) : Nat := (x.opened.filter fun p => p.cause ≠ gapOpenLimit).length

def Chute.gapDue (x : Chute) : Bool := x.gapItems ≠ 0 || x.gapPackets ≠ 0 || x.gapCause ≠ 0

/-- The Chute takes `n` entries now: never when they do not fit; with up to 12 entries left the full flag may refuse, a
choice the spec leaves open (R480). -/
def State.chuteTakes (s : State) (x : Chute) (n : Nat) : Bool :=
  decide (n ≤ x.room) && (decide (12 < x.room) || decide (s.drawn % 13 < x.room))

/-- The choice of R480 has been used. -/
def State.chuteDraw (s : State) (x : Chute) : State := if 12 < x.room ∨ x.room = 0 then s else s.draw

/-- The pending GAP entry written: committed ahead of what follows (R482). -/
def State.putGap (s : State) (c : Nat) : State :=
  let x := s.chute c
  ((s.setChute c { x with hidden := x.hidden ++ [[gapEntry (gapData x.gapItems x.gapPackets x.gapCause)]]
                          gapItems := 0, gapPackets := 0, gapCause := 0 }).bump CU_ERR_GAPS c).count 210

/-- The producer's packet changed. -/
def Chute.modPkt (x : Chute) (p : Nat) (f : OpenPkt → OpenPkt) : Chute :=
  { x with opened := x.opened.map fun o => if o.producer = p then f o else o }

/-- A later entry of an open packet: accepted, refused (R481), or the 257th (R483). -/
def State.pushMore (s : State) (c p : Nat) (o : OpenPkt) (v : Nat) : State :=
  let x := s.chute c
  if o.cause ≠ 0 then s.setChute c (x.modPkt p fun o => { o with count := o.count + 1 })
  else if 256 ≤ o.entries.length then
    s.setChute c (x.modPkt p fun o => { o with count := o.count + 1, cause := gapOverlen })
  else
    let ok := s.chuteTakes x 1
    let s := if ok then (s.chuteDraw x).count 208 else s.chuteDraw x
    s.setChute c (x.modPkt p fun o =>
      if ok then { o with count := o.count + 1, entries := o.entries ++ [v] }
      else { o with count := o.count + 1, cause := gapFull })

/-- The first entry of a packet: a pending GAP goes ahead of it (R482); a ninth open packet is dropped (R483). -/
def State.pushFirst (s : State) (c p v : Nat) : State :=
  let x := s.chute c
  if 8 ≤ x.openCount then
    s.setChute c { x with opened := x.opened ++ [{ producer := p, entries := [], count := 1, cause := gapOpenLimit }] }
  else
    let n := if x.gapDue then 2 else 1
    let ok := s.chuteTakes x n
    let s := s.chuteDraw x
    if ok then
      let s := (if x.gapDue then s.putGap c else s).count 208
      let x := s.chute c
      s.setChute c { x with opened := x.opened ++ [{ producer := p, entries := [v], count := 1, cause := 0 }] }
    else s.setChute c { x with opened := x.opened ++ [{ producer := p, entries := [], count := 1, cause := gapFull }] }

/-- A producer pushes one entry (R477, R481, R483); it never waits. -/
def State.chutePush (s : State) (c p v : Nat) : State :=
  match (s.chute c).opened.find? fun o => o.producer = p with
  | some o => s.pushMore c p o (v % 2 ^ 64)
  | none => s.pushFirst c p (v % 2 ^ 64)

/-- The entries of a committed packet, with their sideband. -/
def packetOf (l : List Nat) : List CEntry :=
  l.mapIdx fun i v => { data := v, sop := i = 0, eop := i + 1 = l.length, gap := false }

/-- A producer commits: a sound packet waits to become visible; a damaged one is discarded and counted (R481). -/
def State.chuteCommit (s : State) (c p : Nat) : State :=
  let x := s.chute c
  match x.opened.find? fun o => o.producer = p with
  | none => s
  | some o =>
    let x := { x with opened := x.opened.filter fun q => q.producer ≠ p }
    if o.cause = 0 then s.setChute c { x with hidden := x.hidden ++ [packetOf o.entries] }
    else
      let s := s.setChute c { x with gapItems := min 0xFFFFFFFF (x.gapItems + o.count),
                                     gapPackets := min 0xFFFF (x.gapPackets + 1), gapCause := Nat.lor x.gapCause o.cause }
      let s := (s.bump CU_DROP c 0 o.count).count 209 o.count
      if o.cause = gapOverlen then s.bump CU_ERR_OVERLEN c else s

/-- A producer rewinds its open packet without trace (R484). -/
def State.chuteRewind (s : State) (c p : Nat) : State :=
  let x := s.chute c
  s.setChute c { x with opened := x.opened.filter fun q => q.producer ≠ p }

/-- Release: every entry before READ is freed (R485). -/
def Chute.release (x : Chute) : Chute :=
  { x with held := x.held.drop x.read, freed := x.freed + min x.read x.held.length, read := 0, waypt := none }

/-- Mark (R485). -/
def Chute.mark (x : Chute) : Chute := { x with waypt := some x.read }

/-- Rewind to WAYPOINT, or to RELEASE without one (R485). -/
def Chute.rewind (x : Chute) : Chute := { x with read := x.waypt.getD 0 }

/-- Take: READ moves forward by one visible entry; with AUTO and no waypoint it also releases (R485). -/
def State.chuteTake (s : State) (c : Nat) : Option CEntry × State :=
  let x := s.chute c
  match x.held[x.read]? with
  | none => (none, s)
  | some e =>
    let x := { x with read := x.read + 1 }
    (some e, s.setChute c (if s.flag CU_CON_AUTO c && x.waypt.isNone then x.release else x))

/-- Producers of a Chute: a Chart entry, a Helm's port, or the SOAK of a session and tag. -/
def prodEntry (e : Nat) : Nat := e
def prodHelm (h p : Nat) : Nat := 0x10000 + 8 * h + p
def prodSoak (n tag : Nat) : Nat := 0x20000 + 65536 * n + tag

/-- The pointer-mismatch reset (R486). -/
def State.chutePtrReset (s : State) (c : Nat) : State :=
  let x := s.chute c
  let entries := x.held.length + (x.hidden.map List.length).sum + (x.opened.map fun o => o.entries.length).sum
  let packets := ((x.held ++ x.hidden.flatten).filter fun e => e.eop).length
  let g := gapEntry (gapData (x.gapItems + entries) (x.gapPackets + packets) (Nat.lor x.gapCause gapPtrReset))
  let opened := x.opened.map fun o => { o with entries := [], count := 0, cause := gapPtrReset }
  let s := s.setChute c { x with held := [], read := 0, waypt := none, hidden := [[g]], freed := 0, opened := opened,
                                 gapItems := 0, gapPackets := 0, gapCause := 0 }
  ((((s.bump CU_ERR_PTR_MISMATCH c).bump CU_ERR_GAPS c).count 210).count 211).fireFree (512 + c)

/-- CU_STAT (Table CHU-6). -/
def State.cuStat (s : State) (c : Nat) : Nat :=
  let x := s.chute c
  let fill := x.occupied - x.freed
  fill + x.openCount * 2 ^ 10 + boolNat (x.room = 0) * 2 ^ 14 + boolNat (x.held.length ≤ x.read) * 2 ^ 15 +
    boolNat x.waypt.isSome * 2 ^ 16 + x.consumer * 2 ^ 17

end Sys2Proof.Machine
end

