-- ==== Sys2Proof/Machine/CrateBase.lean ====
section
/-! DEFINITION. Crates: pools and holdings (R488-R493), the crate and record layout (R494, R495), the capture encodings
(R500-R503) and the capture engine that CAPTURE and a storing SOAK share (R496-R499). -/

namespace Sys2Proof.Machine

open Reg

/-! ### Pools -/

def crateSize (store : Nat) : Nat := if store = 0 then 0x1000 else 0x10000

/-- Crates an engine holds: the open one and the held ones; those from the shared part alone. -/
def Cap.holds (k : Cap) (sharedOnly : Bool) : Nat :=
  (match k.crate with | some c => boolNat (!sharedOnly || c.shared) | none => 0) +
  (k.heldCrates.filter fun c => !sharedOnly || c.shared).length

/-- Crates that Sn holds in a store (CU_POOL L_USED, C_USED). -/
def State.cratesHeld (s : State) (n store : Nat) : Nat :=
  s.caps.foldl (fun k c => if c.sess = n ∧ c.store = store then k + c.holds false else k) 0

/-- Sn's crate reserve in a store. -/
def State.crateReserve (s : State) (n store : Nat) : Nat :=
  if store = 0 then s.rd CU_POOL_L_RES n else s.rd CU_POOL_C_RES n

def State.poolSize (s : State) (store : Nat) : Nat := if store = 0 then s.rd CU_LPOOL_SIZE else s.rd CU_CPOOL_SIZE

/-- Shared crates free: the pool less all reserves, less shared crates held or in scrub (R491, R493). -/
def State.sharedFree (s : State) (store : Nat) : Nat :=
  s.poolSize store - (List.range 16).foldl (fun k n => k + s.crateReserve n store) 0 -
    s.caps.foldl (fun k c => if c.store = store then k + c.holds true else k) 0 -
    (s.crateScrub.filter fun e => e.1 = store).length

/-- A crate is freed: a shared one is scrubbed before it rejoins the shared part (R493). -/
def State.freeCrate (s : State) (store : Nat) (shared : Bool) : State :=
  if shared then { s with crateScrub := s.crateScrub ++ [(store, s.inUs (if store = 0 then 2 else 16))] } else s

/-! ### Bins (R232) -/

/-- bin(x): 0 for 0, else 1 + the largest k with 2^(k/8) at most x, that is 2^k at most x^8. -/
def binOf (x : Nat) : Nat := if x = 0 then 0 else 1 + Nat.log2 (x ^ 8)

/-! ### Records (R495) -/

/-- A record: descriptor and 64-bit words. -/
def recordOf (kind arg : Nat) (ws : List Nat) : List Byte :=
  leBytes 1 kind ++ leBytes 1 0 ++ leBytes 2 ws.length ++ leBytes 4 (min 0xFFFFFFFF arg) ++ (ws.map (leBytes 8)).flatten

/-- Words that hold 32-bit values two by two, the last padded with 0. -/
def pairUp : List Nat → List Nat
  | [] => []
  | [a] => [a % 2 ^ 32]
  | a :: b :: l => (a % 2 ^ 32 + b % 2 ^ 32 * 2 ^ 32) :: pairUp l

/-! ### Trend (R502) -/

/-- A sample entry's time and signed value. -/
def smpT (e : Nat) : Nat := e % 2 ^ 32
def smpV (e : Nat) : Int := (BitVec.ofNat 32 (e / 2 ^ 32)).toInt

/-- Division rounded to the nearest, halves away from 0; `d` is positive. -/
def roundDiv (n : Int) (d : Nat) : Int :=
  let q := (2 * n.natAbs + d) / (2 * d)
  if n < 0 then -(q : Int) else (q : Int)

/-- Every sample of a run lies within `e` of the line through its first and last samples. -/
def trendFits (e : Nat) (run : List Nat) : Bool :=
  match run, run.getLast? with
  | a :: _, some z =>
    let d := smpT z - smpT a
    run.all fun x =>
      let r := smpV a + (if d = 0 then 0 else roundDiv ((smpV z - smpV a) * ((smpT x - smpT a : Nat) : Int)) d)
      decide ((r - smpV x).natAbs ≤ e)
  | _, _ => true

/-- The spacings of a run's sample times. -/
def spacings : List Nat → List Nat
  | a :: b :: l => (smpT b - smpT a) :: spacings (b :: l)
  | _ => []

/-- The record of a closed run: a SEGMENT for 5 or more samples, else SAMPLES. -/
def runRecord (run : List Nat) : List Byte :=
  match run, run.getLast? with
  | a :: rest, some z =>
    if run.length < 5 then recordOf 5 run.length run
    else
      let vs := run.map smpV
      let lo := rest.foldl (fun m x => min m (smpV x)) (smpV a)
      let hi := rest.foldl (fun m x => max m (smpV x)) (smpV a)
      let w := fun (v : Int) => (BitVec.ofInt 32 v).toNat
      let sp := spacings run
      let uni := sp.all fun d => d = sp.headD 0
      let inner := (run.drop 1).take (run.length - 2)
      recordOf 4 run.length
        ([smpT a + smpT z * 2 ^ 32, w (vs.headD 0) + w (smpV z) * 2 ^ 32, w lo + w hi * 2 ^ 32,
          run.length + boolNat uni * 2 ^ 16 + (if uni then sp.headD 0 * 2 ^ 32 else 0)] ++
         (if uni then [] else pairUp (inner.map smpT)))
  | _, _ => []

/-! ### Tally (R503) -/

/-- The HISTOGRAM record of an engine's bins. -/
def Cap.histRecord (k : Cap) : List Byte :=
  let secs := (k.t1 - k.t0 + 999999) / 1000000
  recordOf 6 secs
    ([k.t0 % 2 ^ 32 + k.t1 % 2 ^ 32 * 2 ^ 32, k.total % 2 ^ 64, k.sum % 2 ^ 64, k.sum / 2 ^ 64 % 2 ^ 64] ++
     pairUp ((List.range 257).map (smGet 0 k.bins) ++ [0]))

/-! ### The engine -/

/-- Bytes left for records in a crate. -/
def Cap.left (k : Cap) (c : Crate) : Nat := crateSize k.store - 64 - c.recs.length

/-- The 64-byte crate header (Table CHU-2). -/
def Cap.header (k : Cap) (c : Crate) (flags now : Nat) : List Byte :=
  leBytes 4 k.seq ++ leBytes 2 (0x4000 + k.chute) ++ leBytes 1 k.enc ++ leBytes 1 flags ++ leBytes 4 k.loss ++
  leBytes 4 (64 + c.recs.length) ++ leBytes 8 (c.tOpen.getD now) ++ leBytes 8 now ++ leBytes 4 (min 0xFFFFFFFF c.gapItems) ++
  leBytes 2 k.tag ++ List.replicate 26 0

/-- The open crate closes and is held for its host slot (R497, R498); a Packed run does not reach into the next. -/
def Cap.close (k : Cap) (flags now : Nat) : Cap :=
  match k.crate with
  | none => k
  | some c =>
    { k with heldCrates := k.heldCrates ++ [{ seq := k.seq, shared := c.shared, img := k.header c flags now ++ c.recs }]
             crate := none, seq := k.seq + 1, last := none, repAt := none }

/-- The engine closes its crate because a record does not fit, or for the flush: it asks for another, unless that was
the last of P3 crates, which ends filling (R497, R499). -/
def Cap.roll (k : Cap) (now : Nat) : Cap :=
  if k.crate.isNone then k
  else if k.limit ≠ 0 ∧ k.limit ≤ k.seq + 1 then { k.close 1 now with fin := some (doneOk, none), queue := [] }
  else { k.close 0 now with req := 1 }

/-- Records are placed in the open crate, in order, while they fit; the rest waits for a new crate. -/
def Cap.place (now : Nat) : Nat → Cap → Cap
  | 0, k => k
  | fuel + 1, k =>
    match k.crate, k.queue with
    | some c, (t, r) :: q =>
      if r.length ≤ k.left c then
        let gi := if (r.headD 0).toNat = 7 then leAt r 8 4 else 0
        let c := { c with recs := c.recs ++ r, tOpen := some (c.tOpen.getD t), gapItems := c.gapItems + gi }
        Cap.place now fuel { k with crate := some c, queue := q }
      else k.roll now
    | _, _ => k

/-- A record joins the engine's output. -/
def Cap.put (k : Cap) (now t : Nat) (r : List Byte) : Cap :=
  Cap.place now (k.queue.length + 1) { k with queue := k.queue ++ [(t, r)] }

/-- The open SEGMENT or HISTOGRAM closes (R500, R502, R503). -/
def Cap.closeRun (k : Cap) (now : Nat) : Cap :=
  let k := if k.run = [] then k else { k with run := [] }.put now k.began (runRecord k.run)
  if k.total = 0 then k else { k with bins := [], total := 0, sum := 0 }.put now k.began k.histRecord

/-- A GAP record: it closes any open SEGMENT or HISTOGRAM and breaks any REPEAT run (R500). -/
def Cap.putGap (k : Cap) (now data : Nat) : Cap :=
  let k := k.closeRun now
  { k with last := none, repAt := none, gaps := true }.put now now (recordOf 7 0 [data])

/-- A whole packet in Raw, and in Packed where it does not repeat the one before (R501). -/
def Cap.putPacket (k : Cap) (now : Nat) (p : List Nat) : Cap :=
  let k' := k.put now k.began (recordOf 1 p.length p)
  if k.enc = 1 ∧ k'.crate.isSome ∧ k'.queue = [] then { k' with last := some p, repAt := none } else k'

/-- Packed: a packet identical to the previous one adds 1 to the REPEAT behind it, or adds that REPEAT (R501). -/
def Cap.putPacked (k : Cap) (now : Nat) (p : List Nat) : Cap :=
  match k.last, k.crate with
  | some q, some c =>
    if q = p then
      (match k.repAt with
       | some o =>
         let n := min 0xFFFFFFFF (leAt c.recs (o + 4) 4 + 1)
         { k with crate := some { c with recs := c.recs.take (o + 4) ++ leBytes 4 n ++ c.recs.drop (o + 8) } }
       | none =>
         let at_ := c.recs.length
         let k' := k.put now k.began (recordOf 2 1 [])
         if k'.crate.isSome ∧ k'.seq = k.seq then { k' with repAt := some at_ } else k')
    else k.putPacket now p
  | _, _ => k.putPacket now p

/-- Trend: the sample extends the open run, or closes it and opens the next (R502). -/
def Cap.putSample (k : Cap) (now e : Nat) : Cap :=
  let ext := k.run ++ [e]
  let later := match k.run.getLast? with | some z => decide (smpT z < smpT e) | none => true
  let room := match k.crate with | some c => decide ((runRecord ext).length ≤ k.left c) | none => true
  if k.run = [] then { k with run := [e] }
  else if later && decide (ext.length ≤ 65535) && trendFits k.bound ext && room then { k with run := ext }
  else { k.closeRun now with run := [e], began := now }

/-- Tally: one value into its bin (R503). -/
def Cap.putValue (k : Cap) (now v us : Nat) : Cap :=
  let k := if smGet 0 k.bins (binOf v) = 0xFFFFFFFF then { k.closeRun now with began := now } else k
  { k with bins := smSet 0 k.bins (binOf v) (smGet 0 k.bins (binOf v) + 1), total := k.total + 1, sum := k.sum + v,
           t0 := if k.total = 0 then us else k.t0, t1 := us }

/-- An entry taken from the Chute is encoded (R500-R503). -/
def Cap.take (k : Cap) (now : Nat) (e : CEntry) : Cap :=
  let k := if k.resumeGap then { k with resumeGap := false }.putGap now (16 * 2 ^ 48) else k
  let k := match k.crate with
    | some c => { k with crate := some { c with tOpen := some (c.tOpen.getD now) } }
    | none => k
  if e.gap then k.putGap now e.data
  else
    let fresh := k.part = [] && (k.enc ≤ 1 || (k.run = [] && k.total = 0))
    let k := { k with part := k.part ++ [e.data], began := if fresh then now else k.began }
    if !e.eop then k
    else
      let p := k.part
      let k := { k with part := [] }
      match k.enc with
      | 0 => k.putPacket now p
      | 1 => k.putPacked now p
      | 2 => k.putSample now (p.headD 0)
      | _ => k.putValue now (p.headD 0 % 2 ^ 32) (now / 1000)

/-- Filling ends: the open run and the open crate close, the crate with LAST set (R499). -/
def Cap.endFill (k : Cap) (now status : Nat) (result : Option Nat) : Cap :=
  if k.fin.isSome then k
  else
    let k := k.closeRun now
    let k := if k.fin.isSome then k else k.close 1 now
    { k with fin := some (status, result), req := 0, queue := [] }

def State.cap? (s : State) (n tag : Nat) : Option Cap := s.caps.find? fun k => k.sess = n && k.tag = tag

def State.setCap (s : State) (x : Cap) : State :=
  { s with caps := s.caps.map fun k => if k.sess = x.sess ∧ k.tag = x.tag then x else k }

/-- CU_HELD follows the crates held, CU_DELIV the crates written. -/
def State.capRegs (s : State) (x : Cap) : State :=
  (s.wr CU_HELD x.heldCrates.length x.chute).wr CU_DELIV x.delivered x.chute

/-- The consumer role of a Chute is given up; entries stay (R478). -/
def State.dropConsumer (s : State) (c : Nat) : State :=
  s.setChute c { (s.chute c).rewind with consumer := 0, conSess := 0, conTag := 0 }

/-- The engine of an operation is gone: its open and held crates are freed, and the Chute has no consumer (R499). -/
def State.dropCap (s : State) (n tag : Nat) : State :=
  match s.cap? n tag with
  | none => s
  | some k =>
    let s := { s with caps := s.caps.filter fun x => !(x.sess = n && x.tag = tag) }
    let s := match k.crate with | some c => s.freeCrate k.store c.shared | none => s
    let s := k.heldCrates.foldl (fun s c => s.freeCrate k.store c.shared) s
    (s.wr CU_HELD 0 k.chute).dropConsumer k.chute

/-- An engine that has ended filling and holds no crate ends its operation (R499, R101). -/
def State.capDone (s : State) (n tag : Nat) : State :=
  match s.cap? n tag with
  | none => s
  | some k =>
    match k.fin with
    | some (st, r) =>
      if k.heldCrates = [] then
        (s.dropCap n tag).endOp n tag (if st = doneOk ∧ k.gaps then donePartial else st) (r.getD k.delivered)
      else s
    | none => s

/-- The engine's operation ends filling with a status (R499). -/
def State.capEnd (s : State) (n tag status : Nat) (result : Option Nat) : State :=
  match s.cap? n tag with
  | none => s.endOp n tag status (result.getD 0)
  | some k =>
    let k := k.endFill s.tm.device status result
    ((s.setCap k).capRegs k).capDone n tag

/-- The consumer role of a Chute is taken for an engine, with no crate yet and one asked for (R497). -/
def State.startCap (s : State) (k : Cap) (role : Nat) : State :=
  let x := s.chute k.chute
  let s := s.setChute k.chute { x with consumer := role, conSess := k.sess, conTag := k.tag }
  ({ s with caps := s.caps ++ [k] }).capRegs k

end Sys2Proof.Machine
end

