-- ==== Sys2Proof/Machine/Formats.lean ====
section
/-! DEFINITION. The tables of line formats, layers and Chart mappings: which slices carry a format (Tables FE-1, FE-2),
its layers and overhead images (Tables OVD-1 to OVD-4), its frame rates (Table PRG-4) and loop kinds (Table FE-7). -/

namespace Sys2Proof.Machine

open Reg

/-- The families of line formats: what layers a format lists (Table OVD-1). -/
inductive Family where
  | none | sdh | otn | pdh | pcs | unframed
  deriving DecidableEq, Repr

/-- The family of a format code. -/
def familyOf (fmt : Nat) : Family :=
  if (1 ≤ fmt ∧ fmt ≤ 8) ∨ fmt = 0x60 then .sdh
  else if 0x10 ≤ fmt ∧ fmt ≤ 0x13 then .otn
  else if 0x20 ≤ fmt ∧ fmt ≤ 0x23 then .pcs
  else if [0x42, 0x4A, 0x52, 0x5A].contains fmt then .unframed
  else if [0x40, 0x41, 0x48, 0x49, 0x4C, 0x4D, 0x50, 0x51, 0x58, 0x59].contains fmt then .pdh
  else .none

/-- A format code of Table FE-1 or FE-2 (R268). -/
def fmtListed (fmt : Nat) : Bool := familyOf fmt != .none

/-- OTU4 and 100GbE: the four slices of a quad are bonded (R273). -/
def fmtBonded (fmt : Nat) : Bool := fmt = 0x13 || fmt = 0x23

/-- E1, T1 and J1 formats. -/
def fmtE1 (fmt : Nat) : Bool := decide (0x40 ≤ fmt ∧ fmt ≤ 0x42)
def fmtT1 (fmt : Nat) : Bool := [0x48, 0x49, 0x4A, 0x4C, 0x4D].contains fmt

/-- The slice carries the format: HS formats on HS slices (bonded ones on the lead), E1 and T1 on every LP slice, E3,
DS3 and STS-1 on LP0-LP3 (Tables FE-1 and FE-2, R273). -/
def sliceCarries (i fmt : Nat) : Bool :=
  if fmt < 0x40 then decide (i < 8) && (!fmtBonded fmt || i % 4 = 0)
  else if fmtE1 fmt || fmtT1 fmt then decide (8 ≤ i)
  else decide (8 ≤ i ∧ i < 12)

/-- The slices an ACQUIRE of the format on slice `i` takes: the whole quad for a bonded format. -/
def groupOf (i fmt : Nat) : List Nat := if fmtBonded fmt then [i, i + 1, i + 2, i + 3] else [i]

/-- The estimate of an ACQUIRE, mW (Tables FE-1, FE-2; R269). -/
def fmtEstimate (fmt : Nat) : Nat :=
  if fmtBonded fmt then 5600
  else if fmt = 0x22 then 1650
  else if [0x04, 0x08, 0x11, 0x12, 0x21].contains fmt then 1300
  else if fmt < 0x40 then 520
  else if fmtE1 fmt || fmtT1 fmt then 240
  else 300

/-- The format has a multiframe of its own that FRAME waits for (Table FE-4, R339, R343). -/
def fmtMultiframe (fmt : Nat) : Bool := fmt = 0x41 || familyOf fmt = .otn

/-- A loop kind the format carries (Table FE-7). -/
def loopFits (kind fmt : Nat) : Bool :=
  match kind with
  | 1 => [0x40, 0x41, 0x42, 0x48, 0x4A, 0x4C].contains fmt
  | 2 => [0x49, 0x4D].contains fmt
  | 3 => [0x49, 0x4D].contains fmt
  | 4 => fmt = 0x59
  | _ => false

/-! ### Layers -/

/-- The layers of a family, from the line upward (R365). -/
def familyLayers : Family → List Nat
  | .none => []
  | .sdh => [0, 1, 2, 3]
  | .otn => [0, 4, 5, 6]
  | .pdh => [0, 7]
  | .pcs => [0, 8]
  | .unframed => [0]

/-- The framed layer: the lowest above the line. -/
def framedLayer : Family → Nat
  | .sdh => 1
  | .otn => 4
  | .pdh => 7
  | .pcs => 8
  | _ => 0

/-- Layer `k` lies at or above layer `l` on one slice. -/
def layerAtOrAbove (l k : Nat) : Bool :=
  l = 0 || (decide (l ≤ k) && (decide (k ≤ 3) || decide (4 ≤ l ∧ k ≤ 6) || decide (l = k)))

/-- Bytes of the PDH image (Table OVD-1), by line format. -/
def pdhImage (fmt : Nat) : Nat := if fmt = 0x50 then 1 else if fmt = 0x51 then 7 else if fmt = 0x58 ∨ fmt = 0x59 then 6 else 4

/-- Image bytes of a slice layer (Table OVD-1). -/
def imageSize (layer fmt : Nat) : Nat :=
  match layer with
  | 1 => 27 | 2 => 45 | 3 => 9 | 4 => 14 | 5 => 42 | 6 => 8
  | 7 => pdhImage fmt
  | 8 => 4
  | _ => 0

/-- The layer of a slice defect (Table OVD-4): OOF, LOF, OOM and LOM are the framed layer's. -/
def defectLayer (fam : Family) (code : Nat) : Option Nat :=
  if code = 0x01 then some 0
  else if 0x02 ≤ code ∧ code ≤ 0x05 then some (framedLayer fam)
  else if code = 0x10 then some 1
  else if 0x20 ≤ code ∧ code ≤ 0x23 then some 2
  else if 0x30 ≤ code ∧ code ≤ 0x37 then some 3
  else if 0x51 ≤ code ∧ code ≤ 0x55 then some 4
  else if 0x60 ≤ code ∧ code ≤ 0x65 then some 5
  else if code = 0x66 then some 6
  else if 0x80 ≤ code ∧ code ≤ 0x85 then (if fam = .unframed then some 0 else some 7)
  else if 0x90 ≤ code ∧ code ≤ 0x93 then some 8
  else none

def userDefects : List Nat := [0xF0, 0xF1, 0xF2, 0xF3]

/-- The program-driven defects of a slice layer (column P of Table OVD-4). -/
def progDefects (layer : Nat) : List Nat :=
  match layer with
  | 0 => []
  | 1 => 0x10 :: userDefects
  | 2 => [0x21, 0x22] ++ userDefects
  | 3 => [0x32, 0x34, 0x36, 0x37] ++ userDefects
  | 4 => [0x51, 0x53] ++ userDefects
  | 5 => [0x63, 0x65] ++ userDefects
  | 6 => 0x66 :: userDefects
  | 7 => [0x84, 0x85] ++ userDefects
  | _ => userDefects

/-! ### Chart mappings (Table CHT-1) -/

/-- What overhead a mapping carries (R367). -/
inductive Trib where
  | none | hp | lo | pdh | odu | gfp
  deriving DecidableEq, Repr

/-- The mapping codes Table CHT-1 lists, 0 among them. -/
def mapListed (m : Nat) : Bool :=
  decide (m ≤ 0x13) || decide (0x18 ≤ m ∧ m ≤ 0x1C) || decide (0x20 ≤ m ∧ m ≤ 0x26) || m = 0x30 || m = 0x31

def tribOf (m : Nat) : Trib :=
  if m = 0 then .none
  else if m ≤ 6 ∨ (9 ≤ m ∧ m ≤ 0x0D) then .hp
  else if m ≤ 8 ∨ m = 0x0E ∨ m = 0x0F then .lo
  else if m ≤ 0x13 ∨ m = 0x30 ∨ m = 0x31 then .pdh
  else if m ≤ 0x1C then .odu
  else .gfp

/-- The PDH framing of an asynchronous client: E1, T1, E3 or DS3 (the row names no framing; an image of 4, 4, 1 or 6
bytes). -/
def mapPdhImage (m fmt : Nat) : Nat :=
  if m = 0x10 ∨ m = 0x11 then 4 else if m = 0x12 then 1 else if m = 0x13 then 6 else pdhImage fmt

/-- Image bytes of a Chart port (R367). -/
def tribImage (m fmt : Nat) : Nat :=
  match tribOf m with
  | .none => 0
  | .hp => 9
  | .lo => 4
  | .pdh => mapPdhImage m fmt
  | .odu => 50
  | .gfp => 8

/-- The program-driven defects of a Chart range port, by what its entry carries (Table OVD-4). -/
def progDefectsTrib : Trib → List Nat
  | .hp => [0x32, 0x34, 0x36, 0x37] ++ userDefects
  | .lo => [0x43, 0x45, 0x47, 0x48] ++ userDefects
  | .odu => [0x63, 0x65, 0x66] ++ userDefects
  | .pdh => [0x84, 0x85] ++ userDefects
  | .gfp => userDefects
  | .none => userDefects

/-- Every code that is program-driven on some layer. -/
def progCodes : List Nat :=
  ((List.range 9).flatMap progDefects ++ [Trib.hp, .lo, .odu, .pdh, .gfp].flatMap progDefectsTrib).dedup

/-- The parity items of a slice layer (Table OVD-3). -/
def parityItems (layer fmt : Nat) : List Nat :=
  match layer with
  | 1 => [1] | 2 => [1] | 3 => [1] | 4 => [1]
  | 5 => [1, 2, 3, 4, 5, 6, 7]
  | 7 => if fmt = 0x58 ∨ fmt = 0x59 then [1, 2] else if [0x41, 0x49, 0x4D, 0x51].contains fmt then [1] else []
  | _ => []

/-- The parity items of a Chart port. -/
def parityItemsTrib (m fmt : Nat) : List Nat :=
  match tribOf m with
  | .hp => [1]
  | .lo => [1]
  | .odu => [1, 2, 3, 4, 5, 6, 7]
  | .pdh => if m = 0x13 then [1, 2] else if m = 0x30 ∨ m = 0x31 then parityItems 7 fmt else [1]
  | _ => []

/-! ### Budget rates (Table PRG-4) -/

/-- FRAME and MFRAME rates of a line format's framed layers. The E1 basic frame has no multiframe. -/
def fmtRates (fmt : Nat) : Nat × Nat :=
  match familyOf fmt with
  | .sdh => (8000, 500)
  | .pcs => (8000, 0)
  | .otn => if fmt = 0x10 then (20421, 80) else if fmt = 0x11 then (82026, 321)
            else if fmt = 0x12 then (84986, 332) else (856388, 3346)
  | .pdh => if fmt = 0x40 then (8000, 0) else if fmt = 0x41 then (8000, 500)
            else if fmt = 0x48 ∨ fmt = 0x4C then (8000, 667) else if fmt = 0x49 ∨ fmt = 0x4D then (8000, 334)
            else if fmt = 0x50 then (22375, 0) else if fmt = 0x51 then (8000, 0) else (9399, 0)
  | _ => (0, 0)

/-- Rates of a Chart entry by its mapping, with the source slice's format for a PDH signal taken whole or by timeslot.
A client whose framing the row leaves open takes a rate of Config. -/
def mapRates (m fmt : Nat) : Nat × Nat :=
  match tribOf m with
  | .none => (82026, 2000)
  | .hp => (8000, 0)
  | .lo => (8000, 2000)
  | .pdh =>
    if m = 0x10 then (8000, 500)
    else if m = 0x13 then (9399, 0)
    else if (m = 0x30 ∨ m = 0x31) ∧ familyOf fmt = .pdh then fmtRates fmt
    else (Config.openRate (2 * m), Config.openRate (2 * m + 1))
  | .odu => if m = 0x18 ∨ m = 0x1A then (10168, 40) else if m = 0x1C then (82026, 321) else (20421, 80)
  | .gfp => if m ≤ 0x23 then (8000, 0) else if m = 0x24 then (10168, 40) else if m = 0x25 then (20421, 80)
            else (82026, 321)

end Sys2Proof.Machine
end

