-- ==== Sys2Proof/Machine/OvhBase.lean ====
section
/-! DEFINITION. What overhead and defects share: the events of Helm ports, the server signal fail of R376, the declared
state of R377, the events a change raises (R378) and the consequent actions (R380, R382). A carrier is a slice (0-23) or a
Chart entry (32 + entry). -/

namespace Sys2Proof.Machine

open Reg

def State.ovh (s : State) (c : Nat) : Ovh := smGet Ovh.init s.ovhs c

def State.setOvh (s : State) (c : Nat) (x : Ovh) : State := { s with ovhs := smSet Ovh.init s.ovhs c x }

def State.ent (s : State) (e : Nat) : ChartEnt := smGet ChartEnt.init s.chart e

def State.setEnt (s : State) (e : Nat) (x : ChartEnt) : State := { s with chart := smSet ChartEnt.init s.chart e x }

/-- The carrier of a Chart entry. -/
def entryCarrier (e : Nat) : Nat := 32 + e

/-- Fields of a route word (Table CHT-3). -/
def wordMap (w : Nat) : Nat := bitsAt w 0 8
def wordBidir (w : Nat) : Bool := w.testBit 8
def wordSrc (w : Nat) : Nat := bitsAt w 16 16
def wordDst (w : Nat) : Nat := bitsAt w 32 16
def wordSrcPos (w : Nat) : Nat := bitsAt w 48 16
def wordDstPos (w : Nat) : Nat := bitsAt w 64 16
def wordTs (w : Nat) : Nat := bitsAt w 80 32
def wordLabel (w : Nat) : Nat := bitsAt w 120 8

/-- The family of a slice's format in use; none when IDLE. -/
def State.family (s : State) (i : Nat) : Family := familyOf (s.rd LINE_STAT_FORMAT i)

/-- The format of the slice a word's source names, 0 for a pattern unit. -/
def State.srcFormat (s : State) (w : Nat) : Nat :=
  match objSlice? (wordSrc w) with
  | some i => s.rd LINE_STAT_FORMAT i
  | none => 0

/-! ### Ports -/

/-- The carrier of a port: a slice, or the Chart entry at its offset. -/
def State.portCarrier? (s : State) (q : Port) : Option Nat :=
  match objSlice? q.src with
  | some i => some i
  | none => match s.rangeOf? q.src with
    | some r => some (entryCarrier (r.first + q.sel))
    | none => none

/-- The mapping and source format a Chart carrier has in effect. -/
def State.tribAt (s : State) (c : Nat) : Nat × Nat :=
  let w := (s.ent (c - 32)).use0
  (wordMap w, s.srcFormat w)

/-- Bytes of a port's overhead image (R365, R367). -/
def State.portImage (s : State) (q : Port) : Nat :=
  match s.portCarrier? q with
  | none => 0
  | some c => if c < 24 then imageSize q.layer (s.rd LINE_STAT_FORMAT c) else
      let (m, f) := s.tribAt c
      tribImage m f

/-- The program-driven defects of a port (R234). -/
def State.portProgDefects (s : State) (q : Port) : List Nat :=
  match s.portCarrier? q with
  | none => []
  | some c => if c < 24 then progDefects q.layer else progDefectsTrib (tribOf (s.tribAt c).1)

/-- The parity items of a port (R231). -/
def State.portItems (s : State) (q : Port) : List Nat :=
  match s.portCarrier? q with
  | none => []
  | some c => if c < 24 then parityItems q.layer (s.rd LINE_STAT_FORMAT c) else
      let (m, f) := s.tribAt c
      parityItemsTrib m f

/-- The layer a port reads: its selector's on a slice, 15 for the one image of a Chart entry. -/
def portLayer (c : Nat) (q : Port) : Nat := if c < 24 then q.layer else 15

/-- The port's framer is in frame and the layer is in the slice's format (R186, R254). A Chart port follows the slice
that its source names; a GFP-F client's also its delineator (R348). -/
def State.portInFrame (s : State) (q : Port) : Bool :=
  let sliceUp := fun i => s.rd FR_STAT_STATE i = 2 && s.flag LINE_STAT_SIG i
  match s.portCarrier? q with
  | none => false
  | some c =>
    if c < 24 then sliceUp c && (familyLayers (s.family c)).contains q.layer
    else
      let w := (s.ent (c - 32)).use0
      wordMap w ≠ 0 && (tribOf (wordMap w) != .gfp || s.rd CH_STAT_GFP (c - 32) = 2) &&
        (match objSlice? (wordSrc w) with | some i => sliceUp i | none => true)

/-! ### Events of Helm ports -/

/-- Kinds of event that carry a port (Table MSM-4). -/
def kindCarriesPort (k : Nat) : Bool := [2, 3, 5, 8, 9, 10].contains k

/-- The handler that takes an event: at most one (R189). -/
def Image.handlerFor (i : Image) (kind port : Nat) : Option Nat :=
  i.handlers.findIdx? fun h => h.kind = kind && (!kindCarriesPort kind || h.mask.testBit port)

def Helm.handlerFor (m : Helm) (kind port : Nat) : Option Nat :=
  match m.image with
  | some i => i.handlerFor kind port
  | none => none

/-- The program takes events: STARTING or RUNNING, with no STOP queued (R192, R194). -/
def Helm.takesEvents (m : Helm) : Bool := (m.ps = .starting || m.ps = .running) && !m.stopReq

/-- An event arises for Helm `h`: enqueued when a handler matches it (R190), dropped and counted with 32 queued
(R192); stamped with fc[14:0]. -/
def State.enqueue (s : State) (h kind port cause : Nat) (set : Bool) (payload : List Byte) (ovf : Bool := false) :
    State :=
  let m := s.helm h
  if m.takesEvents && (m.handlerFor kind port).isSome then
    if 32 ≤ m.queue.length then ((s.setHelm h { m with ovf := true }).bump HM_EVQ_DROP h).count (72 + h)
    else
      let e : Event := { kind := kind, port := if kindCarriesPort kind then port else 0, cause := cause, set := set,
                         ovf := ovf, stamp := m.fc.toNat % 2 ^ 15, payload := payload }
      s.setHelm h { m with queue := m.queue ++ [e] }
  else s

/-- The bound ports that satisfy `p`: Helm, port number and port, in ascending order. -/
def State.portsWhere (s : State) (p : Nat → Port → Bool) : List (Nat × Nat × Port) :=
  (s.helms.map fun e => (List.range 8).filterMap fun k =>
    match smGet none e.2.ports k with
    | some q => if p e.1 q then some (e.1, k, q) else none
    | none => none).flatten

/-- A DEFECT_CHANGE for every port that satisfies `p` (R378). -/
def State.defectEvent (s : State) (p : Port → Bool) (code : Nat) (set : Bool) : State :=
  (s.portsWhere fun _ q => p q && !q.cut).foldl (fun s e => s.enqueue e.1 5 e.2.1 code set []) s

/-! ### Defects -/

/-- LOS, LOF and the AIS of each layer. -/
def serverCodes : List Nat := [0x01, 0x03, 0x20, 0x30, 0x60, 0x80]

/-- A server signal fail of layer `l` of a slice with declared defects `d` (R376). -/
def ovhSsf (fam : Family) (d l : Nat) : Bool :=
  serverCodes.any fun c =>
    d.testBit c && (match defectLayer fam c with | some k => decide (k < l) && layerAtOrAbove k l | none => false)

/-- Defects that a server signal fail does not hold cleared: a layer's own AIS, LOF and LOM, and the framer's OOF and
OOM that LOF and LOM are timed from (R376). -/
def ssfExempt (code : Nat) : Bool := [0x01, 0x02, 0x03, 0x04, 0x05, 0x20, 0x30, 0x40, 0x60, 0x80].contains code

/-- The layer a code of carrier `c` belongs to; a Chart entry's image counts as layer 15. -/
def State.codeLayer (s : State) (c code : Nat) : Nat := if c < 24 then (defectLayer (s.family c) code).getD 0 else 15

/-- The carrier's layer `l` has a server signal fail (R376). -/
def State.ssf (s : State) (c l : Nat) : Bool :=
  if c < 24 then ovhSsf (s.family c) (s.ovh c).dcl l
  else
    let own := (s.ovh c).dcl
    let w := (s.ent (c - 32)).use0
    own.testBit 0x30 || own.testBit 0x31 || own.testBit 0x70 ||
    (match objSlice? (wordSrc w) with
     | some i => serverCodes.any (fun k => (s.ovh i).dcl.testBit k)
     | none => false)

/-- The rows of Table OVD-5 that declared defects drive: bit r for a back action, 8 + r for a downstream one. TIM and
PLM drive AIS downstream only with TIM_AIS and PLM_AIS (R380). -/
def csqWanted (d : Nat) (down back timAis plmAis : Bool) : Nat :=
  let has := fun (l : List Nat) => l.any fun c => d.testBit c
  let row := fun (r : Nat) (always tim plm : List Nat) (hasDown hasBack : Bool) =>
    let b := has always || has tim || has plm
    let dn := has always || (timAis && has tim) || (plmAis && has plm)
    boolNat (hasBack && back && b) * 2 ^ r + boolNat (hasDown && down && dn) * 2 ^ (8 + r)
  row 0 [0x01, 0x03, 0x20, 0x22] [] [] true true +
  row 1 [0x30, 0x31, 0x33, 0x37] [0x32] [0x34] true true +
  row 2 [0x40, 0x41, 0x42, 0x44, 0x48] [0x43] [0x45] true true +
  row 3 [0x01, 0x03, 0x05] [0x51] [] true true +
  row 4 [0x60, 0x61, 0x62] [0x63] [0x66] true true +
  row 5 [0x70, 0x71] [] [] true false +
  row 6 [0x01, 0x03, 0x80] [] [] true true +
  row 7 [0x01, 0x02, 0x90, 0x91] [] [] false true

/-- The rows that apply to a family: section and path rows to SDH, the OTU and ODU rows to OTN, and so on. -/
def csqRows (fam : Family) : Nat :=
  match fam with
  | .sdh => 0x0303
  | .otn => 0x1818
  | .pdh => 0x4040
  | .unframed => 0x4040
  | .pcs => 0x8080
  | .none => 0

/-- The consequent actions wanted by the defects of a carrier; a Chart entry follows its source slice's settings. -/
def State.csqOf (s : State) (c d : Nat) : Nat :=
  let i := if c < 24 then c else (objSlice? (wordSrc (s.ent (c - 32)).use0)).getD 24
  let all := csqWanted d (s.flag OV_CONSEQ_DOWN_EN i) (s.flag OV_CONSEQ_BACK_EN i) (s.flag OV_CONSEQ_TIM_AIS i)
    (s.flag OV_CONSEQ_PLM_AIS i)
  Nat.land all (if c < 24 then csqRows (s.family c) else 0x3636)

/-! ### Protection criteria (R427, Table PSW-3) -/

def State.grp (s : State) (g : Nat) : Group := smGet Group.init s.groups g

def State.setGrp (s : State) (g : Nat) (x : Group) : State := { s with groups := smSet Group.init s.groups g x }

/-- Fields of the configuration block (Table PSW-1). -/
def Group.type (x : Group) : Nat := leAt x.cfg 0 1
def Group.mode (x : Group) : Nat := leAt x.cfg 1 1
def Group.work (x : Group) : Nat := leAt x.cfg 6 2
def Group.prot (x : Group) : Nat := leAt x.cfg 8 2
def Group.workOfs (x : Group) : Nat := leAt x.cfg 10 2
def Group.protOfs (x : Group) : Nat := leAt x.cfg 12 2

/-- The carrier of a member: a slice, or an entry of a range. -/
def State.memberCarrier? (s : State) (o ofs : Nat) : Option Nat :=
  match objSlice? o with
  | some i => some i
  | none => match s.rangeOf? o with
    | some r => some (entryCarrier (r.first + ofs))
    | none => none

/-- SF of a carrier for a group type; a METER takes the SF of a linear side or of an SNC_N entry. -/
def State.sideSf (s : State) (type c : Nat) : Bool :=
  let d := (s.ovh c).dcl
  if c < 24 then s.rd LINE_STAT_LSTATE c ≠ 2 || [0x01, 0x03, 0x20, 0x22].any d.testBit
  else
    let e := c - 32
    let m := wordMap (s.ent e).tgt
    let sf := s.ssf c 15
    let nVc := [0x32, 0x33, 0x37, 0x43, 0x44, 0x48].any d.testBit
    let nOdu := [0x60, 0x61, 0x62, 0x63].any d.testBit
    m = 0 || s.flag CH_STAT_MISFIT e || s.flag CH_STAT_PERR e || sf ||
    (match type with
     | 3 => nVc
     | 5 => nOdu
     | 7 => if tribOf m = .odu then nOdu else nVc
     | _ => false)

/-- SD of a carrier. -/
def State.sideSd (s : State) (type c : Nat) : Bool :=
  let d := (s.ovh c).dcl
  if c < 24 then d.testBit 0x21
  else match type with
    | 3 => d.testBit 0x36 || d.testBit 0x47
    | 5 => d.testBit 0x65
    | _ => false

/-- SF_W, SD_W, SF_P, SD_P as declared now; a member that is gone is in SF. -/
def State.criteria (s : State) (x : Group) : List Bool :=
  let side := fun o ofs => match s.memberCarrier? o ofs with
    | some c => (s.sideSf x.type c, s.sideSd x.type c)
    | none => (true, false)
  let w := side x.work x.workOfs
  let p := side x.prot x.protOfs
  [w.1, w.2, p.1, p.2]

/-- The criteria of every group that runs them are noted as they start and stop (R429). -/
def State.protScan (s : State) : State :=
  s.groups.foldl (fun s e =>
    let x := s.grp e.1
    if x.cfg = [] ∨ x.type = 7 ∨ x.mode = 1 then s
    else
      let crit := s.criteria x
      let since := (List.range 4).map fun k =>
        if crit.getD k false then (match x.since.getD k none with | some t => some t | none => some s.clock) else none
      s.setGrp e.1 { x with since := since }) s

/-- The ports a defect of a carrier reaches: those of the defect's layer or above on the slice, or those bound to the
entry (R378). -/
def State.defectReaches (s : State) (c layer : Nat) (q : Port) : Bool :=
  if c < 24 then decide (q.src = sliceObj c) && layerAtOrAbove layer q.layer
  else decide (s.portCarrier? q = some c)

/-- The declared state of one defect becomes hardware OR program (R377); a change shows in OV_DEF, reaches the ports
(R378), fires the slice's DEFECT source and starts or stops consequent actions (R382). -/
def State.settleDefect (s : State) (c code layer : Nat) : State :=
  let o := s.ovh c
  let on := o.hw.testBit code || o.prog.testBit code
  if on = o.dcl.testBit code then s
  else
    let d := setBitsAt o.dcl code 1 (boolNat on)
    let want := s.csqOf c d
    let s := s.setOvh c { o with dcl := d, secDcl := Nat.lor o.secDcl d, latch := if on then Nat.lor o.latch (2 ^ code) else o.latch,
                                 csqPend := o.csqPend ++ [(s.clock, want)] }
    let s := s.defectEvent (s.defectReaches c layer) code on
    (if c < 24 then s.fireFree (64 + 8 * c + 2) else s).protScan

/-- One hardware detection changed, without its effect on the layers above. -/
def State.hwDefect1 (s : State) (c code : Nat) (on : Bool) : State :=
  let o := s.ovh c
  let layer := s.codeLayer c code
  let held := !ssfExempt code && s.ssf c layer
  let on := on && !held
  if o.hw.testBit code = on then s
  else (s.setOvh c { o with hw := setBitsAt o.hw code 1 (boolNat on) }).settleDefect c code layer

/-- The counts of R372 to R375 restart. -/
def Ovh.restart (o : Ovh) : Ovh :=
  { o with cand := [], runs := [], bad := [], good := [], excBad := [], excGood := [] }

/-- Every defect that a server signal fail of carrier `c` holds clears, and the counts restart (R376). -/
def State.holdCleared (s : State) (c : Nat) : State :=
  (List.range 256).foldl (fun s k =>
    if (s.ovh c).hw.testBit k && !ssfExempt k && s.ssf c (s.codeLayer c k) then
      (s.setOvh c { (s.ovh c).restart with hw := setBitsAt (s.ovh c).hw k 1 0 }).settleDefect c k (s.codeLayer c k)
    else s) s

/-- Hardware finds a defect of a carrier declared or cleared. A new server signal fail holds the defects of the layers
above it, on the slice and on the Chart entries it carries, cleared (R376). -/
def State.hwDefect (s : State) (c code : Nat) (on : Bool) : State :=
  let s' := s.hwDefect1 c code on
  if on && (serverCodes.contains code || [0x31, 0x70].contains code) && (s.ovh c).dcl != (s'.ovh c).dcl then
    let s' := s'.holdCleared c
    s'.ovhs.foldl (fun (s : State) e => if 32 ≤ e.1 then s.holdCleared e.1 else s) s'
  else s'

/-- Some program has the defect declared on the carrier. -/
def State.progStands (s : State) (c code : Nat) : Bool :=
  s.helms.any fun e => e.2.progDef.any fun d =>
    d.2.2 = code && (match objSlice? d.1 with
      | some i => decide (i = c)
      | none => match s.rangeOf? d.1 with
        | some r => decide (entryCarrier (r.first + d.2.1) = c)
        | none => false)

/-- A program defect is declared on layer `l` of slice `i` (R437, Table PSW-6 look at the USER codes of one layer). -/
def State.userOn (s : State) (i l code : Nat) : Bool :=
  s.helms.any fun e => e.2.progDef.any fun d => d.1 = sliceObj i && d.2.1 % 128 = l && d.2.2 = code

/-- A program-driven defect of a carrier follows the programs that declare it (R233, R377). -/
def State.progDefect (s : State) (c code layer : Nat) : State :=
  let o := s.ovh c
  let on := s.progStands c code
  (s.setOvh c { o with prog := setBitsAt o.prog code 1 (boolNat on) }).settleDefect c code layer

end Sys2Proof.Machine
end

