-- ==== Sys2Proof/Machine/PmBase.lean ====
section
/-! DEFINITION. PM points: entities and thresholds (Table PM-1), the classification of a second (R453-R456), availability
and commits (R457-R461), bins and their rolls (R462-R465), attachment (R449, R450) and the records of R468. -/

namespace Sys2Proof.Machine

open Reg

def State.pt (s : State) (p : Nat) : PmPt := smGet PmPt.init s.pm p

def State.setPt (s : State) (p : Nat) (x : PmPt) : State := { s with pm := smSet PmPt.init s.pm p x }

def pmObj (p : Nat) : Nat := 0x8000 + p

/-! ### Entities -/

/-- The carrier a point's entity lies on: a slice, or a Chart entry of a granted range. -/
def State.pmCarrier? (s : State) (p : Nat) : Option Nat :=
  let src := s.rd PM_CFG_SRC p
  match objSlice? src with
  | some i => some i
  | none => match s.rangeOf? src with
    | some r => some (entryCarrier (r.first + s.rd PM_CFG_SEL p))
    | none => none

/-- The SDH order: STM-N, n / 3 for OC-n, 1 for STS-1. -/
def sdhOrder (fmt : Nat) : Nat :=
  if fmt = 2 ∨ fmt = 6 then 4 else if fmt = 3 ∨ fmt = 7 then 16 else if fmt = 4 ∨ fmt = 8 then 64 else 1

/-- 15 % of a rate, rounded up. -/
def fifteenPercent (r : Nat) : Nat := (15 * r + 99) / 100

/-- The default SES threshold of a slice layer (Table PM-1); `none` where the row has no EB source. -/
def sliceThr (i layer fmt : Nat) : Option Nat :=
  match layer with
  | 0 => if i < 8 then none else if fmtT1 fmt then some 1544 else if fmtE1 fmt then some 2048 else some 2444
  | 1 => some 2400
  | 2 => some (2400 * sdhOrder fmt)
  | 3 => some 2400
  | 4 => some (fifteenPercent (fmtRates fmt).1)
  | 5 => some (fifteenPercent (fmtRates fmt).1)
  | 6 => some (fifteenPercent (fmtRates fmt).1)
  | 7 => if fmt = 0x41 then some 300 else if fmt = 0x49 ∨ fmt = 0x4D then some 320
         else if fmt = 0x48 ∨ fmt = 0x4C then some 8 else if fmt = 0x51 then some 2400
         else if fmt = 0x58 ∨ fmt = 0x59 then some 44 else none
  | _ => some 2400

/-- The default threshold of a Chart entry by its mapping. An E3 or DS3 client is judged on the B3 of its VC-3; a PDH
signal taken whole or by timeslot on the row of its slice's format. -/
def tribThr (m fmt : Nat) : Option Nat :=
  match tribOf m with
  | .none => none
  | .hp => some 2400
  | .lo => some 600
  | .pdh => if m = 0x10 ∨ m = 0x11 then some 600 else if m = 0x12 ∨ m = 0x13 then some 2400 else sliceThr 8 7 fmt
  | .odu => some (fifteenPercent (mapRates m fmt).1)
  | .gfp => if m ≤ 0x23 then some 2400 else some (fifteenPercent (mapRates m fmt).1)

/-- The threshold in force of point `p` (R451). -/
def State.pmThr (s : State) (p : Nat) : Option Nat :=
  let d := match s.pmCarrier? p with
    | none => none
    | some c => if c < 24 then sliceThr c (s.rd PM_CFG_SEL p) (s.rd LINE_STAT_FORMAT c) else
        let (m, f) := s.tribAt c
        tribThr m f
  match d with
  | none => none
  | some t => some (if s.rd PM_THR_SES_THR p = 0 then t else s.rd PM_THR_SES_THR p)

/-- The SES defects of a slice layer beside the server signal fail (Table PM-2). -/
def sliceSesDefects (fam : Family) (layer : Nat) : List Nat :=
  (if layer = framedLayer fam then [0x02, 0x03, 0x04, 0x05] else []) ++
  (match layer with
   | 3 => [0x31, 0x33, 0x32, 0x34]
   | 5 => [0x60, 0x61, 0x62, 0x63, 0x66]
   | 7 => [0x80]
   | 8 => [0x90, 0x91, 0x93]
   | _ => [])

def tribSesDefects (m : Nat) : List Nat :=
  match tribOf m with
  | .none => []
  | .hp => [0x31, 0x33, 0x32, 0x34]
  | .lo => [0x41, 0x42, 0x44, 0x43, 0x45]
  | .pdh => if m = 0x30 ∨ m = 0x31 then [0x80] else [0x41, 0x42, 0x44, 0x43, 0x45, 0x80]
  | .odu => [0x60, 0x61, 0x62, 0x63, 0x66]
  | .gfp => [0x70, 0x71]

/-- The far-end defect of a slice layer and of a mapping (Table PM-1); 0: no far-end source. -/
def sliceFar (layer fmt : Nat) : Nat :=
  match layer with
  | 2 => 0x23 | 3 => 0x35 | 4 => 0x52 | 5 => 0x64
  | 7 => if fmt = 0x40 ∨ fmt = 0x41 ∨ fmt = 0x50 ∨ fmt = 0x51 ∨ fmt = 0x58 ∨ fmt = 0x59 then 0x81 else 0
  | _ => 0

def tribFar (m fmt : Nat) : Nat :=
  match tribOf m with
  | .none => 0
  | .hp => 0x35
  | .lo => 0x46
  | .pdh => if m = 0x10 ∨ m = 0x11 then 0x46 else if m = 0x12 ∨ m = 0x13 then 0x35 else sliceFar 7 fmt
  | .odu => 0x64
  | .gfp => if m ≤ 0x23 then 0x35 else 0x64

/-- The far end of PDH rows without errors of their own: E1 basic frame and E3 G.751 count none (Table PM-1). -/
def farCounts (far fmt : Nat) : Bool := far ≠ 0 && !(far = 0x81 && (fmt = 0x40 || fmt = 0x50))

/-- A defect of `l` or a server signal fail at some instant of the past second, from the sticky masks (R455). -/
def State.pmNearDef (s : State) (p : Nat) : Bool :=
  match s.pmCarrier? p with
  | none => false
  | some c =>
    let d := (s.ovh c).lastDcl
    if c < 24 then
      let fam := s.family c
      let l := s.rd PM_CFG_SEL p
      ovhSsf fam d l || (sliceSesDefects fam l).any d.testBit
    else
      let (m, _) := s.tribAt c
      let sl := match objSlice? (wordSrc (s.ent (c - 32)).use0) with | some i => (s.ovh i).lastDcl | none => 0
      serverCodes.any sl.testBit || [0x30, 0x31, 0x70].any d.testBit || (tribSesDefects m).any d.testBit

/-- The far-end defect code of a point's entity and the format of its slice. -/
def State.pmFar (s : State) (p : Nat) : Nat × Nat :=
  match s.pmCarrier? p with
  | none => (0, 0)
  | some c => if c < 24 then (sliceFar (s.rd PM_CFG_SEL p) (s.rd LINE_STAT_FORMAT c), s.rd LINE_STAT_FORMAT c) else
      let (m, f) := s.tribAt c
      (tribFar m f, f)

def State.pmFarDef (s : State) (p : Nat) : Bool :=
  match s.pmCarrier? p with
  | none => false
  | some c => (s.pmFar p).1 ≠ 0 && (s.ovh c).lastDcl.testBit (s.pmFar p).1

/-- The entity of an attached point is absent now (R453). -/
def State.pmAbsent (s : State) (p : Nat) : Bool :=
  s.flag PM_CFG_ORPHANED p ||
  (match s.pmCarrier? p with
   | none => true
   | some c =>
     if c < 24 then s.rd LINE_STAT_LSTATE c ≠ 2 || !(familyLayers (s.family c)).contains (s.rd PM_CFG_SEL p)
     else
       let e := c - 32
       let w := (s.ent e).tgt
       wordMap w = 0 || s.flag CH_STAT_MISFIT e || s.flag CH_STAT_PERR e ||
       (match objSlice? (wordSrc w) with | some i => s.rd LINE_STAT_LSTATE i ≠ 2 | none => false))

/-- The gate of a point is open (R454). -/
def State.pmGate (s : State) (p : Nat) : Bool :=
  s.flag PM_CFG_FREE p ||
  (match (s.pt p).soak with
   | some (n, t) => (match s.op? n t with | some o => o.active && o.fin.isNone | none => false)
   | none => false)

/-- Gates, entities and protection criteria as they stand now are noted. -/
def State.pmScan (s : State) : State :=
  s.pm.foldl (fun s e =>
    let x := s.pt e.1
    s.setPt e.1 { x with closed := x.closed || !s.pmGate e.1, absent := x.absent || s.pmAbsent e.1 }) s.protScan

/-! ### Bins -/

def flagSuspended : Nat := 1
def flagMissing : Nat := 2
def flagIntr : Nat := 4
def flagReset : Nat := 8
def flagSwitched : Nat := 16
def flagShort : Nat := 32
def flagSettling : Nat := 64
def flagNodata : Nat := 128
def flagOrphaned : Nat := 256

def Bin.fresh (serial start flags : Nat) : Bin :=
  { serial := serial, start := start, flags := flags, secs := 0, near := .zero, far := .zero, judged := false }

def Bin.mark (b : Bin) (f : Nat) : Bin := { b with flags := Nat.lor b.flags f }

/-- Every bin of a point changed by `f`. -/
def PmPt.mapBins (x : PmPt) (f : Bin → Bin) : PmPt :=
  { x with cur15 := x.cur15.map f, recent := x.recent.map f, cur24 := x.cur24.map f, prev24 := x.prev24.map f }

/-- The current bins flagged. -/
def PmPt.markCur (x : PmPt) (f : Nat) : PmPt := { x with cur15 := x.cur15.map (·.mark f), cur24 := x.cur24.map (·.mark f) }

def sat32 (a b : Nat) : Nat := min 0xFFFFFFFF (a + b)

/-- A second committed as available (R459). -/
def PmCnt.avail (c : PmCnt) (q : PendSec) : PmCnt :=
  { c with eb := sat32 c.eb q.eb, es := sat32 c.es (boolNat q.es), ses := sat32 c.ses (boolNat q.ses),
           bbe := if q.ses then c.bbe else sat32 c.bbe q.eb }

/-- A bin that holds the second takes a change of one direction's counts. -/
def Bin.take (far : Bool) (q : PendSec) (f : PmCnt → PmCnt) (sec : Bool) (b : Bin) : Bin :=
  if b.serial = q.s15 ∨ b.serial = q.s24 then
    (if far then { b with far := f b.far } else { b with near := f b.near, secs := if sec then sat32 b.secs 1 else b.secs })
  else b

/-- Seconds committed as available: a run of 3 to 9 SES adds one SEP to the bins of its last second (R459). -/
def PmPt.commitAvail (x : PmPt) (far : Bool) (run : List PendSec) : PmPt :=
  let y := run.foldl (fun y q => y.mapBins (Bin.take far q (fun c => c.avail q) true)) x
  match run.getLast? with
  | some z => if 3 ≤ run.length ∧ run.all (·.ses) then
      y.mapBins (Bin.take far z (fun c => { c with sep := sat32 c.sep 1 }) false) else y
  | none => y

/-- Seconds committed as UAS (R459). -/
def PmPt.commitUas (x : PmPt) (far : Bool) (run : List PendSec) : PmPt :=
  run.foldl (fun y q => y.mapBins (Bin.take far q (fun c => { c with uas := sat32 c.uas 1 }) true)) x

def PmPt.dir (x : PmPt) (far : Bool) : Avail := if far then x.fe else x.ne

def PmPt.setDir (x : PmPt) (far : Bool) (a : Avail) : PmPt := if far then { x with fe := a } else { x with ne := a }

/-- One judged second of one direction (Table PM-3). -/
def PmPt.judge (x : PmPt) (far : Bool) (q : PendSec) : PmPt :=
  let a := x.dir far
  let run := a.pend ++ [q]
  if a.unav then
    if q.ses then (x.commitUas far run).setDir far { a with pend := [] }
    else if 10 ≤ run.length then (x.commitAvail far run).setDir far { unav := false, pend := [] }
    else x.setDir far { a with pend := run }
  else
    if !q.ses then ((x.commitAvail far a.pend).commitAvail far [q]).setDir far { a with pend := [] }
    else if 10 ≤ run.length then (x.commitUas far run).setDir far { unav := true, pend := [] }
    else x.setDir far { a with pend := run }

/-- Pending runs committed as they stand (R461). -/
def PmPt.settle (x : PmPt) : PmPt :=
  let one := fun (x : PmPt) (far : Bool) =>
    let a := x.dir far
    (if a.unav then x.commitUas far a.pend else x.commitAvail far a.pend).setDir far { a with pend := [] }
  one (one x false) true

/-- The serials of the bins that hold a second starting at `t`: the newest that opened by then. -/
def PmPt.serialsAt (x : PmPt) (t : Nat) : Nat × Nat :=
  let pick := fun (l : List Bin) => match l.find? fun b => decide (b.start ≤ t) with
    | some b => b.serial
    | none => (l.head?.map (·.serial)).getD 0
  (pick (x.cur15.toList ++ x.recent), pick (x.cur24.toList ++ x.prev24.toList))

/-- Flags of the bins that hold a second, and the note that one of theirs was judged. -/
def PmPt.noteSecond (x : PmPt) (ser : Nat × Nat) (f : Nat) : PmPt :=
  x.mapBins fun b => if b.serial = ser.1 ∨ b.serial = ser.2 then { b.mark f with judged := true } else b

/-- Seconds of a bin still pending: it shows SETTLING once closed (R460). -/
def PmPt.settling (x : PmPt) (b : Bin) : Bool :=
  (x.ne.pend ++ x.fe.pend).any fun q => q.s15 = b.serial || q.s24 = b.serial

/-- The current 15-minute interval closes at device time `t`; a shorter one is SHORT (R462, R463). -/
def PmPt.roll15 (x : PmPt) (t clock : Nat) (boundary : Bool) : PmPt :=
  match x.cur15 with
  | none => x
  | some b =>
    let b := if t - b.start < 900000000000 then b.mark flagShort else b
    { x with recent := (b :: x.recent).take 32, cur15 := some (Bin.fresh (x.serial + 1) t 0), serial := x.serial + 1,
             finals := x.finals ++ [(clock + 10000000000, b.serial, boundary)] }

def PmPt.roll24 (x : PmPt) (t : Nat) : PmPt :=
  match x.cur24 with
  | none => x
  | some b =>
    let b := if t - b.start < 86400000000000 then b.mark flagShort else b
    { x with prev24 := some b, cur24 := some (Bin.fresh (x.serial + 1) t 0), serial := x.serial + 1 }

/-! ### Attachment -/

/-- A point back at its Reset values and detached (R450). -/
def State.pmReset (s : State) (p : Nat) : State :=
  let s := (((s.wr PM_CFG_SRC 0 p).wr PM_CFG_SEL 0 p).wr PM_CFG_ITEM 0 p).wr PM_CFG_PROFILE 0 p
  let s := (((s.wr PM_CFG_FREE 0 p).wr PM_CFG_ATTACHED 0 p).wr PM_CFG_ORPHANED 0 p).wr PM_THR_SES_THR 0 p
  s.setPt p { PmPt.init with soak := (s.pt p).soak, serial := (s.pt p).serial }

/-- Attach a point to an entity (R449): history NODATA, new intervals flagged RESET, AVAILABLE. -/
def State.pmAttach (s : State) (p src sel : Nat) : State :=
  let t := s.tm.device
  let n := (s.pt p).serial
  let x := { PmPt.init with soak := (s.pt p).soak, serial := n + 2, cur15 := some (Bin.fresh (n + 1) t flagReset),
                            cur24 := some (Bin.fresh (n + 2) t flagReset) }
  let s := (((s.wr PM_CFG_SRC src p).wr PM_CFG_SEL sel p).wr PM_CFG_ATTACHED 1 p).wr PM_CFG_ORPHANED 0 p
  let s := s.setPt p x
  s.setPt p { x with closed := !s.pmGate p, absent := s.pmAbsent p }

/-- What R449 says of an attachment by Sn: 0 accepted, else the status. -/
def State.pmAttachCheck (s : State) (n p src sel : Nat) : Nat :=
  if s.ownerOf (pmObj p) ≠ n then eNotOwner
  else match objSlice? src with
    | some i =>
      if s.ownerOf src ≠ n ∧ !(sel = 0 ∧ s.watches n i) then eNotOwner
      else if 8 < sel then eBadRecord else doneOk
    | none =>
      if objClass src ≠ 3 then eBadRecord
      else match s.rangeOf? src with
        | some r => if r.sess ≠ n then eNotOwner else if r.count ≤ sel then eBadRecord else doneOk
        | none => eNotOwner

/-- A point becomes ORPHANED (R450). -/
def State.pmOrphan (s : State) (p : Nat) : State :=
  (s.wr PM_CFG_ORPHANED 1 p).setPt p (((s.pt p).markCur flagOrphaned))

/-- The points attached to an entity on the object `o`, of a session. -/
def State.pmOrphanObj (s : State) (n o : Nat) (watchOnly : Bool) : State :=
  s.pm.foldl (fun s e =>
    if s.flag PM_CFG_ATTACHED e.1 && s.rd PM_CFG_SRC e.1 = o && s.ownerOf (pmObj e.1) = n &&
       !(watchOnly && s.ownerOf o = n) then s.pmOrphan e.1 else s) s

/-- The entity carried by slice `i`: its own layers, and the Chart entries it feeds. -/
def State.pmOnSlice (s : State) (p i : Nat) : Bool :=
  match s.pmCarrier? p with
  | none => false
  | some c => if c < 24 then c = i else objSlice? (wordSrc (s.ent (c - 32)).use0) = some i

/-- An intrusive step ran on slice `i` (Table PM-4). -/
def State.pmIntrusive (s : State) (i : Nat) : State :=
  s.pm.foldl (fun s e => if s.pmOnSlice e.1 i then s.setPt e.1 ((s.pt e.1).markCur flagIntr) else s) s

/-- The source of a carrier changed: its points count the new one, flagged SWITCHED (R466). -/
def State.pmSwitched (s : State) (p : Nat → Bool) : State :=
  s.pm.foldl (fun s e => if p e.1 then s.setPt e.1 ((s.pt e.1).markCur flagSwitched) else s) s

/-! ### Records -/

/-- A 64-byte bin record (Table PM-6). -/
def binRecord (x : PmPt) (closed : Bool) : Option Bin → List Byte
  | none => leBytes 8 0 ++ leBytes 4 flagNodata ++ leBytes 52 0
  | some b =>
    let f := if closed && x.settling b then Nat.lor b.flags flagSettling else b.flags
    let six := fun (c : PmCnt) => ([c.eb, c.bbe, c.es, c.ses, c.uas, c.sep].map (leBytes 4)).flatten
    if Nat.land f flagNodata ≠ 0 then leBytes 8 0 ++ leBytes 4 f ++ leBytes 52 0
    else leBytes 8 b.start ++ leBytes 4 f ++ leBytes 4 b.secs ++ six b.near ++ six b.far

/-- PM_STAT (Table PM-7). -/
def State.pmStat (s : State) (p : Nat) : Nat :=
  let x := s.pt p
  boolNat (s.pmGate p) + boolNat x.ne.unav * 2 + boolNat x.fe.unav * 4 + x.ne.pend.length * 8 + x.fe.pend.length * 128 +
    boolNat x.soak.isSome * 2048

/-- PM_CFG as a word. -/
def State.pmCfg (s : State) (p : Nat) : Nat :=
  s.rd PM_CFG_SRC p + s.rd PM_CFG_SEL p * 2 ^ 16 + s.rd PM_CFG_ITEM p * 2 ^ 24 + s.rd PM_CFG_PROFILE p * 2 ^ 28 +
    s.rd PM_CFG_FREE p * 2 ^ 29 + s.rd PM_CFG_ATTACHED p * 2 ^ 30 + s.rd PM_CFG_ORPHANED p * 2 ^ 31

/-- The 16-byte header of PM_READ (R468). -/
def State.pmHeader (s : State) (p : Nat) : List Byte :=
  leBytes 4 (s.pmCfg p) ++ leBytes 4 (s.pmStat p) ++ leBytes 8 s.tm.device

/-- The records a PM_READ selector names (Table PM-5); `none`: a selector it refuses. -/
def State.pmRecords (s : State) (p sel : Nat) : Option (List Byte) :=
  let x := s.pt p
  let recent := fun k => binRecord x true (x.recent[k - 1]?)
  if sel = 0 then some (binRecord x false x.cur15)
  else if sel ≤ 32 then some (recent sel)
  else if sel = 64 then some (binRecord x false x.cur24)
  else if sel = 65 then some (binRecord x true x.prev24)
  else if sel = 0xFF then
    some (binRecord x false x.cur15 ++ ((List.range 32).map fun k => recent (k + 1)).flatten ++
      binRecord x false x.cur24 ++ binRecord x true x.prev24)
  else none

/-! ### SOAK's points -/

/-- The points a SOAK names. -/
def soakPoints (o : Op) : List Nat := (List.range (o.par 1 / 65536)).map fun k => o.par 1 % 65536 + k

/-- The current 15-minute interval closes SHORT at the next second boundary, unless it holds no judged second (R463). -/
def PmPt.shortMark (x : PmPt) (sec : Nat) : PmPt :=
  match x.cur15 with
  | some b => if b.judged then { x with short15 := some sec } else x
  | none => x

/-- A SOAK ends: its points commit their runs as they stand, their 15-minute intervals close SHORT at the next second,
flagged SUSPENDED when it was cancelled (R166, R461, R463). -/
def State.soakEnd (s : State) (o : Op) (cancelled : Bool) : State :=
  let s := s.pmScan
  (soakPoints o).foldl (fun s p =>
    let x := s.pt p
    if x.soak = some (o.sess, o.tag) then
      let x := if cancelled then (x.settle.markCur flagSuspended) else x.settle
      s.setPt p { x.shortMark s.sec with soak := none, closed := true }
    else s) s

end Sys2Proof.Machine
end

