-- ==== Sys2Proof/Machine/PatBase.lean ====
section
/-! DEFINITION. Pattern units: what starting, stopping and counting do, whoever asks (R384-R387), and how the operations
that a program's fault ends give up what they hold (R262). -/

namespace Sys2Proof.Machine

open Reg

def State.pat (s : State) (u : Nat) : PatUnit := smGet PatUnit.init s.pats u

def State.setPat (s : State) (u : Nat) (x : PatUnit) : State := { s with pats := smSet PatUnit.init s.pats u x }

def patObj (u : Nat) : Nat := 0x7000 + u

/-- The unit generates, or checks, now: RUN says so and its operation does not pause it (Table OPS-9). -/
def State.patGen (s : State) (u : Nat) : Bool := s.maskBit PU_CTL_RUN 0 u && !(s.pat u).paused
def State.patChk (s : State) (u : Nat) : Bool := s.maskBit PU_CTL_RUN 1 u && !(s.pat u).paused

/-- The checker seeds itself anew (R385). -/
def State.patSeed (s : State) (u : Nat) : State := s.wr PU_STAT_SYNC 0 u

/-- Start the sides of mask `sides` (1 generator, 2 checker) with a pattern code. -/
def State.patStart (s : State) (u sides code : Nat) : State :=
  let s := (s.wr PU_CTL_CODE code u).wr PU_CTL_RUN (Nat.lor (s.rd PU_CTL_RUN u) sides) u
  let s := if sides.testBit 0 then s.setPat u { s.pat u with perrLeft := 0, inverted := 0 } else s
  if sides.testBit 1 then s.patSeed u else s

/-- Stop the sides of mask `sides`. -/
def State.patStop (s : State) (u sides : Nat) : State :=
  let s := s.wr PU_CTL_RUN (Nat.land (s.rd PU_CTL_RUN u) (3 - sides % 4)) u
  let s := if sides.testBit 0 then s.setPat u { s.pat u with perrLeft := 0 } else s
  if sides.testBit 1 then s.patSeed u else s

/-- Bits compared and errors found in sync since the counts were last brought up to date (R385, R236): both counts of
errors take them. Out of sync nothing is counted. -/
def State.patCount (s : State) (u bits errs : Nat) : State :=
  if s.patChk u && s.flag PU_STAT_SYNC u then
    let s := (s.wr PU_BITS (satAdd 64 (s.rd PU_BITS u) bits) u).wr PU_ERR (satAdd 64 (s.rd PU_ERR u) errs) u
    s.setPat u { s.pat u with progErr := min 0xFFFFFFFF ((s.pat u).progErr + errs) }
  else s

/-- The PATTERN operation of a unit lets go of it: the sides it drove stop. -/
def State.patRelease (s : State) (u sides : Nat) : State :=
  let s := s.patStop u sides
  s.setPat u { s.pat u with opTag := none, paused := false, opSess := 0 }

/-- The sides a PATTERN operation drives, by P2 (Table OPS-4). -/
def patSides (p2 : Nat) : Nat := if p2 = 0 then 1 else if p2 = 1 then 2 else 3

/-- A SOAK, CAPTURE or PATTERN ends abnormally with a status and RESULT: its points, engine and Chute, or unit are let
go; a CAPTURE's closed crates still go out first (R499). -/
def State.endDependent (s : State) (o : Op) (status result : Nat) : State :=
  if o.opcode = 0x20 then
    let s := if o.started then s.soakEnd o false else s
    s.capEnd o.sess o.tag status (some result)
  else if o.opcode = 0x21 then s.capEnd o.sess o.tag status (some result)
  else
    let s := if o.started then s.patRelease (objIndex o.obj) (patSides (o.par 2)) else s
    s.endOp o.sess o.tag status result

end Sys2Proof.Machine
end

