-- ==== Sys2Proof/Machine/HelmBase.lean ====
section
/-! DEFINITION. What every Helm instruction shares: the cycle count and the watchdog (R214, R255), the order of faults
(R213), the end-of-body check of loops (R222), what a fault leaves (R197, R240, R261, R262) and the program states
(Table PRG-2). -/

namespace Sys2Proof.Machine

open Reg

/-- The outcome of a command. -/
abbrev Res := Host.Outcome State Fault Refusal

/-- The source base of Helm `h` (R238). -/
def helmSrc (h : Nat) : Nat := 256 + 8 * h

/-- The owner of Helm `h`. -/
def State.helmOwner (s : State) (h : Nat) : Nat := s.ownerOf (0x2000 + h)

/-- The program changes state; source 256 + 8h + 0 fires on every change (R241). -/
def State.setPs (s : State) (h : Nat) (p : PState) : State :=
  if (s.helm h).ps = p then s else (s.setHelm h { s.helm h with ps := p }).fireFree (helmSrc h)

/-- A program is bound while STARTING, RUNNING, STOPPING or FAULTED (R243). -/
def PState.bound : PState → Bool
  | .empty => false
  | .loaded => false
  | _ => true

/-- Table PRG-1's number of a state. -/
def PState.code : PState → Nat
  | .empty => 0 | .loaded => 1 | .starting => 2 | .running => 3 | .stopping => 4 | .faulted => 5

/-- A STARTING, RUNNING or STOPPING program sets a floor (R258). -/
def PState.floors : PState → Bool
  | .starting => true
  | .running => true
  | .stopping => true
  | _ => false

/-- The level code of a floor in MHz: 0 200, 1 400, 2 600, 3 800. -/
def floorLevel (mhz : Nat) : Nat := mhz / 200 - 1

/-- GL_FLOOR.REQUIRED: the highest floor in force (R258). -/
def State.refloor (s : State) : State :=
  s.wr GL_FLOOR_REQUIRED (s.helms.foldl (fun n e =>
    match e.2.image with | some i => if e.2.ps.floors then max n (floorLevel i.floor) else n | none => n) 0)

/-! ### Loops -/

/-- The end-of-body check at instruction `p` (R222): a loop whose body ends there runs again or ends; the answer is the
loops left and where execution continues, if not at `p + 1`. -/
def loopEnd (p : Nat) : List LoopSt → List LoopSt × Option Nat
  | [] => ([], none)
  | l :: ls =>
    if l.last = p then
      (if l.left = 0 then loopEnd p ls else ({ l with left := l.left - 1 } :: ls, some l.first))
    else ((l :: (loopEnd p ls).1), (loopEnd p ls).2)

/-- Execution falls through the instruction at pc. -/
def Helm.fallThrough (m : Helm) : Helm :=
  let (ls, t) := loopEnd m.pc m.loops
  { m with loops := ls, pc := match t with | some a => a | none => (m.pc + 1) % 4096 }

def State.helmNext (s : State) (h : Nat) : State := s.setHelm h (s.helm h).fallThrough

/-! ### What ends with a program -/

/-- HM_REGS as of the latest END or fault. -/
def State.snapRegs (s : State) (h : Nat) : State :=
  (List.range 16).foldl (fun s r => s.wr HM_REGS_G ((s.helm h).reg r).toNat h r) s

/-- The bound ports of a Helm, by number. -/
def Helm.portList (m : Helm) : List (Nat × Port) :=
  (List.range 8).filterMap fun k => (m.port? k).map fun q => (k, q)

/-- Uncommitted Chute items of the Helm are rewound (R229). -/
def State.rewindPorts (s : State) (h : Nat) : State :=
  (s.helm h).portList.foldl (fun s e =>
    if e.2.kind = .chute then s.chuteRewind (objIndex e.2.src) (prodHelm h e.1) else s) s

/-- Program-driven defects that the program had declared are cleared (R261, R377). -/
def State.clearProgDefects (s : State) (h : Nat) : State :=
  let l := (s.helm h).progDef
  let s := s.setHelm h { s.helm h with progDef := [] }
  l.foldl (fun s d =>
    let q : Port := { src := d.1, sel := d.2.1, ro := false, ready := true, bank := [], rateF := 0,
                      rateM := 0, lastF := none, lastM := none, thin := false, cut := false }
    match s.portCarrier? q with
    | some c => s.progDefect c d.2.2 (portLayer c q)
    | none => s) s

/-- The port writes transmit overhead: a slice's transmit selector, or a Chart range port. -/
def Port.transmits (q : Port) : Bool := (q.kind = .sliceTx || q.kind = .chart) && !q.ro

/-- Program writes on the Helm's transmit ports end: from the first transmit frame at least 2 us later the overhead is
the transmitter's own (R261). -/
def State.dropTxWrites (s : State) (h : Nat) : State :=
  (s.helm h).portList.foldl (fun s e =>
    match s.portCarrier? e.2 with
    | some c =>
      if e.2.transmits then
        let o := s.ovh c
        let l := portLayer c e.2
        let mine := (o.tx.map Prod.fst ++ o.txPend.map fun p => p.2.1).filter fun k => k / 256 = l
        s.setOvh c { o with txPend := o.txPend ++ mine.dedup.map fun k => (s.clock, k, none) }
      else s
    | none => s) s

/-- The status of Table PRG-5 for a fault cause, as a code of Table OPS-10. -/
def faultStatus (cause : Nat) : Nat := if cause = 11 then eBudget else if cause = 9 then eMapFault else eDeviceFault

/-- The declared far region of an image covers a map-cache entry (R83). -/
def Image.farCovers (im : Image) (e : MapEntry) : Bool :=
  let lo := im.farBase / 4096
  let hi := (im.farBase + im.farLen) / 4096
  if e.blk then decide (e.page / 1024 * 1024 < hi ∧ lo < e.page / 1024 * 1024 + 1024) else decide (lo ≤ e.page ∧ e.page < hi)

/-- Entries of Sn stay pinned while a bound program of Sn declares a far region over them (R83). -/
def State.repin (s : State) (n : Nat) : State :=
  let images := (s.helms.filter fun e => e.2.ps.bound && s.helmOwner e.1 = n).filterMap fun e => e.2.image
  { s with own := { s.own with mapCache := s.own.mapCache.map fun e =>
      if e.sess = n then { e with pinned := images.any fun im => im.farCovers e } else e } }

/-- The program is LOADED: no further event, queue discarded, ports unbound (R194), and every UNBIND waiting for it
completes DONE_OK (R248, R249). -/
def State.helmLoaded (s : State) (h : Nat) : State :=
  let n := s.helmOwner h
  let s := (s.rewindPorts h).clearProgDefects h
  let tags := (s.helm h).unbindTags
  let m := s.helm h
  let s := s.setHelm h { m with queue := [], ovf := false, run := none, loops := [], timers := [], stall := none,
                                stagedOh := [], stagedDef := [], ports := [], stopReq := false, stopWait := false, bindTag := none, unbindTags := [], fcOn := false }
  let s := (s.wr HM_BUDGET_LOAD 0 h).setPs h .loaded
  let s := (s.refloor).repin n
  tags.foldl (fun s t => s.endOp n t doneOk 0) s

/-- An event that carries nothing, as START and STOP are queued. -/
def Helm.plainEvent (m : Helm) (kind : Nat) : Event :=
  { kind := kind, port := 0, cause := 0, set := false, ovf := false, stamp := m.fc.toNat % 2 ^ 15, payload := [] }

/-- UNBIND, session reset or revocation meets a bound program (Table PRG-2, R192, R249): STOP discards the queue. -/
def State.requestStop (s : State) (h : Nat) : State :=
  let m := s.helm h
  match m.ps with
  | .starting => s.setHelm h { m with stopWait := true }
  | .running => (s.setHelm h { m with queue := [m.plainEvent 1], stopReq := true }).setPs h .stopping
  | .faulted => s.helmLoaded h
  | _ => s

/-- HM_PEAK of a handler that ended (Table PRG-9). -/
def State.notePeak (s : State) (h : Nat) (r : Run) : State :=
  if r.entry < 16 then s.wr HM_PEAK_PEAK (max (s.rd HM_PEAK_PEAK h r.entry) r.cycles) h r.entry else s

/-- The operations that depend on a program (R262): the session's SOAK, CAPTURE and PATTERN on its ports' sources. -/
def State.dependents (s : State) (h : Nat) : List Op :=
  let srcs := (s.helm h).portList.map fun e => e.2.src
  s.ops.filter fun o => [0x20, 0x21, 0x22].contains o.opcode && o.live && o.sess = s.helmOwner h && srcs.contains o.obj

/-- The program moves to FAULTED (R261, R262). -/
def State.toFaulted (s : State) (h cause kind : Nat) : State :=
  let n := s.helmOwner h
  let deps := s.dependents h
  let s := (s.clearProgDefects h).dropTxWrites h
  let m := s.helm h
  let s := s.setHelm h { m with queue := [], ovf := false, timers := [], bindTag := none }
  let s := (s.setPs h .faulted).refloor
  let s := match (if kind = 0 then m.bindTag else none) with
    | some t => s.endOp n t (faultStatus cause) cause
    | none => s
  let s := deps.foldl (fun s o => s.endDependent o (faultStatus cause) cause) s
  if (s.helm h).stopWait then s.helmLoaded h else s

/-- A fault, or the watchdog's abort, stops the handler (R197, R240, R244): HM_FAULT records it, nothing staged is
committed, and the program is FAULTED, or LOADED from its STOP handler. In STOPPING the STOP still to come follows. -/
def State.helmFault (s : State) (h cause : Nat) : State :=
  let m := s.helm h
  match m.run with
  | none => s
  | some r =>
    let s := ((s.wr HM_FAULT_CAUSE cause h).wr HM_FAULT_PC m.pc h).wr HM_FAULT_KIND r.kind h
    let s := ((s.notePeak h r).snapRegs h).rewindPorts h
    let s := s.setHelm h { s.helm h with run := none, lastKind := r.kind, loops := [], stall := none, stagedOh := [],
                                         stagedDef := [] }
    if m.ps = .stopping then (if r.kind = 1 then s.helmLoaded h else s) else s.toFaulted h cause r.kind

/-- Cycles of the running handler pass: they count in its budget, in tm and in the Helm's counter. -/
def State.helmCycles (s : State) (h k : Nat) : State :=
  let m := s.helm h
  (s.setHelm h { m with run := m.run.map (fun r => { r with cycles := r.cycles + k }), tm := m.tm + BitVec.ofNat 32 k }).count
    (40 + h) k

/-- Fault code 11. -/
def faultBudget : Nat := 11

/-- One instruction of Helm `h` (R212-R214): nothing happens unless a handler runs unstalled and its word spells `op`.
When its `cost` cycles pass the watchdog's limit the instruction is abandoned with BUDGET; a parity error on the fetch
comes first among the faults; an effect that answers a fault code has no effect but that fault and what the failed
access itself records (R197, R78, R659). -/
def State.helmStep (s : State) (h : Nat) (u : Upset) (op : HOp) (cost : Word → Helm → Nat)
    (eff : Word → State → Except (Nat × State) State) : State :=
  let m := s.helm h
  match m.run with
  | none => s
  | some r =>
    if m.stall.isSome ∨ helmOp m.fetch ≠ some op then s
    else
      let x := m.fetch
      let k := cost x m
      if r.limit < r.cycles + k then (s.helmCycles h (r.limit + 1 - r.cycles)).helmFault h faultBudget
      else
        let s := s.helmCycles h k
        if u = .imemParity then (s.eccUncorr 4 h).helmFault h 2
        else match eff x s with
          | .ok s' => s'
          | .error (e, s') => s'.helmFault h e

end Sys2Proof.Machine
end

