-- ==== Sys2Proof/Machine/Capture.lean ====
section
/-! DEFINITION. The commands of the Chutes, the crates and CAPTURE (chapter 15). -/

namespace Sys2Proof.Machine

open Reg

/-! ### Chutes -/

/-- CLIENT_FRAME_PUSH: a client frame of a GFP-F entry, as the 64-bit entries it fills, becomes one packet of the entry's Chute;
a bad FCS rewinds it (R477, R484). An entry that routes nothing or is not delineated has none. -/
def execClientFramePush (e : Fin 8192) (words : List Nat) (fcsOk : Bool) (s : State) : Res :=
  let w := (s.ent e).use1
  let m := wordMap w
  if m < 0x20 ∨ 0x26 < m ∨ objClass (wordDst w) ≠ 4 ∨ s.flag CH_STAT_MISFIT e ∨ s.flag CH_STAT_PERR e ∨ s.rd CH_STAT_GFP e ≠ 2 then .next s
  else
    let c := objIndex (wordDst w)
    let s := words.foldl (fun (s : State) v => s.chutePush c (prodEntry e) v) s
    .next (if fcsOk then s.chuteCommit c (prodEntry e) else s.chuteRewind c (prodEntry e))

/-- GAP_WRITE: the pending GAP entry goes ahead of the next packet once there is room for both (R482). -/
def execGapWrite (c : Fin 64) (s : State) : Res :=
  if (s.chute c).gapDue && decide (2 ≤ (s.chute c).room) then .next (s.putGap c) else .next s

/-- PACKET_VISIBLE: the oldest committed packet has crossed (R479). -/
def execPacketVisible (c : Fin 64) (s : State) : Res :=
  let x := s.chute c
  match x.hidden with
  | p :: r => .next (s.setChute c { x with held := x.held ++ p, hidden := r })
  | [] => .next s

/-- SPACE_VISIBLE: producers see the space freed by releases (R479). -/
def execSpaceVisible (c : Fin 64) (s : State) : Res := .next (s.setChute c { s.chute c with freed := 0 })

/-- PTR_MISMATCH_RESET (R486). -/
def execPtrMismatchReset (c : Fin 64) (s : State) : Res := .next (s.chutePtrReset c)

/-! ### Starting an engine -/

/-- CAPTURE's parameters are good (R496). -/
def State.captureOk (s : State) (o : Op) : Bool :=
  let enc := o.par 0 % 4
  let q := o.par 0 / 16
  decide (o.par 0 / 4 % 4 = 0 ∧ o.par 0 < 64 ∧ o.par 4 < 2 ∧ 1 ≤ o.par 5 ∧ o.par 5 ≤ 4096 ∧ o.par 6 ≤ 86400) &&
  (if enc = 2 then decide ((q = 0 ∧ 1 ≤ o.par 1 ∧ o.par 1 ≤ 256) ∨ (q = 1 ∧ 1 ≤ o.par 1 ∧ o.par 1 ≤ 100)) else q = 0 && o.par 1 = 0) &&
  !(o.par 4 = 1 && s.rd CU_CPOOL_SIZE = 0) && o.haddr % crateSize (o.par 4) = 0

/-- SOAK's parameters are good (R471, R473, R496); without a Chute the capture words are 0. -/
def State.soakOk (s : State) (o : Op) : Bool :=
  let n := o.par 1 / 65536
  decide (n ≤ 256 ∧ (n = 0 ∨ o.par 1 % 65536 + n ≤ 2048)) &&
  (if o.par 2 = 0 then [3, 4, 5, 6, 7].all fun i => o.par i = 0
   else objClass (o.par 2) = 4 && decide (o.par 2 < 0x4040 ∧ o.par 3 ≤ 1 ∧ o.par 5 < 2 ∧ 1 ≤ o.par 6 ∧ o.par 6 ≤ 4096 ∧ o.par 7 ≤ 86400) &&
     !(o.par 5 = 1 && s.rd CU_CPOOL_SIZE = 0) && o.haddr % crateSize (o.par 5) = 0)

/-- A new engine with its first crate asked for (R497). -/
def newCap (o : Op) (chute enc bound loss store slots limit flush : Nat) : Cap :=
  { sess := o.sess, tag := o.tag, chute := chute, enc := enc, bound := bound, loss := loss, store := store, slots := slots,
    limit := limit, flush := flush, base := o.haddr, req := 1, crate := none, seq := 0, heldCrates := [], delivered := 0,
    queue := [], part := [], began := 0, last := none, repAt := none, run := [], bins := [], total := 0, sum := 0, t0 := 0,
    t1 := 0, resumeGap := false, gaps := false, fin := none }

/-- CAPTURE: the consumer role is taken, or found taken (R478), and the first crate is requested (R497). -/
def execCapture (n : Fin 16) (tag : Nat) (s : State) : Res :=
  .next (s.runOp n tag 0x21 (fun o => o.stage = 0) fun o s =>
    let c := objIndex o.obj
    if (s.chute c).consumer ≠ 0 then s.endOp n tag eBusy 0
    else
      let bound := o.par 1 * (if o.par 0 / 16 = 0 then 250 else 10)
      (s.modOp n tag fun o => { o with stage := 1 }).startCap
        (newCap o c (o.par 0 % 4) bound (o.par 1) (o.par 4) (o.par 5) (o.par 3) (o.par 6)) 1)

/-! ### The engine -/

/-- The operation of an engine is under way: running, or halted while running (R107). -/
def State.capRuns (s : State) (n tag : Nat) : Bool :=
  match s.op? n tag with
  | some o => o.live && o.active
  | none => false

/-- The encoder's read of the REPEAT record it is about to extend meets an uncorrectable error: a GAP record takes its place
(R521). -/
def Cap.repeatLost (k : Cap) (now : Nat) (e : CEntry) : Option Cap :=
  match k.repAt, k.crate, k.last with
  | some o, some c, some p =>
    if k.enc = 1 ∧ e.eop ∧ !e.gap ∧ k.part ++ [e.data] = p then
      some (Cap.putGap { k with crate := some { c with recs := c.recs.take o } } now (gapData (leAt c.recs (o + 4) 4 * p.length) 0 0))
    else none
  | _, _, _ => none

/-- CAPTURE_TAKE: with a crate open, the next visible entry is taken, encoded and released (R497, R500). `bad`: the encoder's
own read of the crate, if it makes one, meets an uncorrectable error (R521). -/
def execCaptureTake (n : Fin 16) (tag : Nat) (bad : Bool) (s : State) : Res :=
  match s.cap? n tag with
  | none => .next s
  | some k =>
    if k.crate.isNone ∨ k.queue ≠ [] ∨ k.fin.isSome ∨ !s.capRuns n tag then .next s
    else match s.chuteTake k.chute with
      | (none, s) => .next s
      | (some e, s) =>
        let s := s.setChute k.chute (s.chute k.chute).release
        let now := s.tm.device
        let (k, s) := match (if bad then k.repeatLost now e else none) with
          | some k' => (k', s.matrixErr MX_ERR_UNCORR (match s.op? n tag with | some o => if o.opcode = 0x20 then 5 else 6 | none => 6))
          | none => (k, s)
        let k := k.take now e
        .next (((s.setCap k).capRegs k).capDone n tag)

/-- An engine gets a crate: the records that waited go in (R491). -/
def State.capGrant (s : State) (k : Cap) (shared : Bool) : State :=
  let k := { k with crate := some { shared := shared, recs := [], tOpen := none, gapItems := 0 }, req := 0 }
  let k := Cap.place s.tm.device (k.queue.length + 1) k
  ((s.setCap k).capRegs k).capDone k.sess k.tag

/-- The admission order of an engine's operation. -/
def State.capSeq (s : State) (k : Cap) : Nat := match s.op? k.sess k.tag with | some o => o.seq | none => 0

/-- The engine served first among those that ask: sessions from CU_ARB.PTR on, each session's in admission order (R492). -/
def State.capFirst (s : State) (store : Nat) (p : Cap → Bool) : Option Cap :=
  let rank := fun (k : Cap) => (k.sess + 16 - s.rd CU_ARB_PTR) % 16
  s.caps.foldl (fun (b : Option Cap) k =>
    if k.store = store ∧ p k then
      match b with
      | some y => if rank k < rank y ∨ (rank k = rank y ∧ s.capSeq k < s.capSeq y) then some k else b
      | none => some k
    else b) none

/-- A crate for an engine: its session's reserve first, then the shared part (R491); `none`: refused. -/
def State.capServe (s : State) (k : Cap) : Option State :=
  if s.cratesHeld k.sess k.store < s.crateReserve k.sess k.store then some (s.capGrant k false)
  else if 0 < s.sharedFree k.store then some ((s.capGrant k true).wr CU_ARB_PTR ((k.sess + 1) % 16))
  else none

/-- CRATE_REQUEST: the allocator serves one request of a store; a refused one waits with WAIT_CRATE, else its operation ends
E_NO_CRATE (R492, R497). -/
def execCrateRequest (store : Fin 2) (s : State) : Res :=
  match s.capFirst store (fun k => k.req = 1) with
  | none => .next s
  | some k =>
    match s.capServe k with
    | some s => .next s
    | none =>
      let waits := match s.op? k.sess k.tag with | some o => o.flags.testBit 0 | none => false
      if waits then .next (s.setCap { k with req := 2 })
      else
        let s := match s.op? k.sess k.tag with
          | some o => if o.opcode = 0x20 then s.soakEnd o false else s
          | none => s
        .next (s.capEnd k.sess k.tag eNoCrate none)

/-- CRATE_WAIT_GRANT: a waiting request is served (R492). -/
def execCrateWaitGrant (store : Fin 2) (s : State) : Res :=
  match s.capFirst store (fun k => k.req = 2 && (decide (s.cratesHeld k.sess k.store < s.crateReserve k.sess k.store) || decide (0 < s.sharedFree k.store))) with
  | none => .next s
  | some k => .next ((s.capServe k).getD s)

/-- CRATE_FLUSH_TIMER: P6 seconds after its T_OPEN the open crate closes, with the run and the histogram in it (R497, R503). -/
def execCrateFlushTimer (n : Fin 16) (tag : Nat) (s : State) : Res :=
  match s.cap? n tag with
  | none => .next s
  | some k =>
    match k.crate.bind (·.tOpen) with
    | some t =>
      if k.flush ≠ 0 ∧ k.fin.isNone ∧ t + k.flush * 1000000000 ≤ s.tm.device then
        let now := s.tm.device
        let k := (k.closeRun now).roll now
        .next (((s.setCap k).capRegs k).capDone n tag)
      else .next s
    | none => .next s

/-- CRATE_WRITE: the oldest held crate goes to its host slot when the slot is free (R498). `bad`: host DMA meets an
uncorrectable error in it, and the operation ends E_DEVICE_FAULT (R521). -/
def execCrateWrite (n : Fin 16) (tag : Nat) (bad : Bool) (s : State) : Res :=
  match s.cap? n tag, s.op? n tag with
  | some k, some o =>
    (match k.heldCrates with
    | [] => .next s
    | c :: r =>
      let size := crateSize k.store
      if o.st = .halted ∨ s.rd CU_HACK k.chute + k.slots ≤ c.seq ∨ !s.stagingRoom size then .next s
      else if bad then
        let s := (s.matrixErr MX_ERR_UNCORR 4).freeCrate k.store c.shared
        let s := if o.opcode = 0x20 then s.soakEnd o false else s
        .next ((s.setCap { k with heldCrates := r }).capEnd n tag eDeviceFault none)
      else
        let img := (c.img ++ List.replicate (size - c.img.length) 0).take size
        let s := s.pushStage (.data n (k.base + c.seq % k.slots * size) img)
        let s := (s.freeCrate k.store c.shared).count (if k.store = 0 then 212 else 213)
        let k := { k with heldCrates := r, delivered := k.delivered + 1 }
        .next ((((s.setCap k).capRegs k).fireData (512 + k.chute) c.seq).capDone n tag))
  | _, _ => .next s

/-- CRATE_SCRUB_DONE: a freed shared crate rejoins the shared part (R493). -/
def execCrateScrubDone (store : Fin 2) (s : State) : Res :=
  match s.crateScrub.find? fun e => e.1 = store.val && decide (e.2 ≤ s.clock) with
  | some e => .next { s with crateScrub := s.crateScrub.erase e }
  | none => .next s

end Sys2Proof.Machine
end

