-- ==== Sys2Proof/Machine/Pattern.lean ====
section
/-! DEFINITION. The commands of the pattern units (chapter 11): PATTERN, the checker's sync, and the generator's inserted
errors. -/

namespace Sys2Proof.Machine

open Reg

/-- The error-insertion word P4 is good: MAN 0 inserts nothing, else MAN and EXP are 1-9 (R386). -/
def insertOk (p4 : Nat) : Bool :=
  decide (p4 < 256) && (p4 % 16 = 0 || decide (p4 % 16 ≤ 9 ∧ 1 ≤ p4 / 16 ∧ p4 / 16 ≤ 9))

/-- PATTERN: the unit starts with the operation's code, user word and insertion rate; the operation counts of a checking
PATTERN start at 0 (R384, R386, R236). -/
def execPattern (n : Fin 16) (tag : Nat) (s : State) : Res :=
  .next (s.runOp n tag 0x22 (fun o => o.stage = 0) fun o s =>
    let u := objIndex o.obj
    if 8 ≤ o.par 0 ∨ 3 ≤ o.par 2 ∨ !insertOk (o.par 4) then s.endOp n tag eBadRecord 4
    else
      let sides := patSides (o.par 2)
      let s := s.modOp n tag fun o => { o with stage := 1, due := if o.par 3 = 0 then none else some (s.clock + o.par 3 * 1000000000) }
      let s := s.wr PU_WORD_WORD (o.par 1) u
      let s := if sides.testBit 0 then (s.wr PU_CTL_MAN (o.par 4) u).wr PU_CTL_EXP (o.par 4 / 16) u else s
      let s := if sides.testBit 1 then ((s.wr PU_ERR 0 u).wr PU_BITS 0 u).setPat u { s.pat u with everSync := false } else s
      (s.setPat u { s.pat u with opSess := n, opTag := some tag, paused := false }).patStart u sides (o.par 0))

/-- How a PATTERN ends whose work is done: its bit errors, or nothing when its checker never had sync (R387). -/
def State.patResult (s : State) (o : Op) : Nat × Nat :=
  let u := objIndex o.obj
  if o.par 2 = 0 then (doneOk, 0)
  else if !(s.pat u).everSync then (donePartial, 0)
  else (doneOk, min 0xFFFFFFFF (s.rd PU_ERR u))

/-- The signal a unit checks carries downstream AIS (R387): its entry routes nothing or the tributary or slice it comes
from sends AIS downstream. -/
def State.unitAis (s : State) (u : Nat) : Bool :=
  let down := fun c => (s.ovh c).csq / 256 ≠ 0
  s.chart.any fun e =>
    let off := s.flag CH_STAT_MISFIT e.1 || s.flag CH_STAT_PERR e.1
    (wordMap e.2.use1 ≠ 0 && wordDst e.2.use1 = patObj u &&
      (off || down (entryCarrier e.1) || (match objSlice? (wordSrc e.2.use1) with | some i => down i | none => false))) ||
    (wordMap e.2.use0 ≠ 0 && wordBidir e.2.use0 && wordSrc e.2.use0 = patObj u &&
      (off || (match objSlice? (wordDst e.2.use0) with | some i => down i | none => false)))

/-- CHECKER_SYNC: 64 consecutive bits match (R385). -/
def execCheckerSync (u : Fin 64) (s : State) : Res :=
  if s.patChk u && !s.flag PU_STAT_SYNC u && !s.unitAis u then
    .next ((s.wr PU_STAT_SYNC 1 u).setPat u { s.pat u with everSync := true })
  else .next s

/-- CHECKER_SYNC_LOSS: 64 or more errors in 256 compared bits; `bits` and `errs` are what was compared since the counts were
last brought up to date (R385). -/
def execCheckerSyncLoss (u : Fin 64) (bits errs : Nat) (s : State) : Res :=
  if s.patChk u && s.flag PU_STAT_SYNC u then
    let s := (s.patCount u bits errs).bump PU_STAT_LOSS u
    .next ((s.setPat u { s.pat u with lostSince := true }).patSeed u)
  else .next s

/-- GENERATOR_INSERT: the N-th bit is sent inverted; of the `words` 32-bit words sent since the last one, those that PERR
still has to spoil carry one inverted bit each (R386, R235). -/
def execGeneratorInsert (u : Fin 64) (words : Nat) (s : State) : Res :=
  if !s.patGen u then .next s
  else
    let x := s.pat u
    let k := min x.perrLeft words
    let rate := decide (1 ≤ s.rd PU_CTL_MAN u ∧ s.rd PU_CTL_MAN u ≤ 9 ∧ 1 ≤ s.rd PU_CTL_EXP u ∧ s.rd PU_CTL_EXP u ≤ 9)
    .next (s.setPat u { x with perrLeft := x.perrLeft - k, inverted := x.inverted + k + boolNat rate })

end Sys2Proof.Machine
end

