-- ==== Sys2Proof/Machine/FrameBase.lean ====
section
/-! DEFINITION. The framer (chapter 10): its parameters, what in-frame, OOF, multiframe SYNC and OOM each reach (R356),
block lock, Clause 36 synchronization and the logical lanes of a bonded group. A slice is named by its index. -/

namespace Sys2Proof.Machine

open Reg

def State.line (s : State) (i : Nat) : Line := smGet Line.init s.lines i

def State.setLine (s : State) (i : Nat) (x : Line) : State := { s with lines := smSet Line.init s.lines i x }

def State.framer (s : State) (i : Nat) : Framer := (s.line i).fr

def State.setFramer (s : State) (i : Nat) (x : Framer) : State := s.setLine i { s.line i with fr := x }

/-- The format in use on a slice. -/
def State.fmt (s : State) (i : Nat) : Nat := s.rd LINE_STAT_FORMAT i

/-- FR_STAT.STATE: 0 HUNT, 1 PRESYNC, 2 SYNC, 3 NONE. -/
def State.frState (s : State) (i : Nat) : Nat := s.rd FR_STAT_STATE i

/-! ### Parameters (Table FRM-3, R343) -/

/-- Formats framed by check mode (Table FRM-1). -/
def fmtCheck (fmt : Nat) : Bool := fmt = 0x21 || fmt = 0x22 || fmt = 0x23

/-- Formats framed in pattern mode on their own or, once aligned, on the reassembled stream. -/
def fmtPattern (fmt : Nat) : Bool := (familyOf fmt = .sdh || familyOf fmt = .otn || familyOf fmt = .pdh)

/-- Default and range of N. -/
def frmN (fmt : Nat) : Nat × Nat × Nat :=
  if fmtCheck fmt then (64, 16, 127)
  else if fmt = 0x48 ∨ fmt = 0x4C then (24, 6, 63)
  else if fmt = 0x49 ∨ fmt = 0x4D then (12, 6, 63)
  else if fmt = 0x50 then (3, 1, 8)
  else if fmt = 0x58 ∨ fmt = 0x59 then (28, 8, 63)
  else (2, 1, 8)

/-- Default of M, of W, and the top of M's range. -/
def frmMW (fmt : Nat) : Nat × Nat × Nat :=
  if fmtCheck fmt then (16, 64, 127)
  else if fmt = 0x40 ∨ fmt = 0x41 then (3, 3, 15)
  else if fmtT1 fmt then (2, 4, 15)
  else if fmt = 0x50 ∨ fmt = 0x51 then (4, 4, 15)
  else if fmt = 0x58 ∨ fmt = 0x59 then (3, 16, 15)
  else (5, 5, 15)

/-- A group's reassembled stream and its lanes run with the defaults (R349, R351). -/
def State.frN (s : State) (i : Nat) : Nat :=
  let (d, lo, hi) := frmN (s.fmt i)
  let v := s.rd FR_CFG_N i
  if v = 0 ∨ fmtBonded (s.fmt i) then d else clamp lo hi v

def State.frM (s : State) (i : Nat) : Nat :=
  let (d, _, hi) := frmMW (s.fmt i)
  let v := s.rd FR_CFG_M i
  if v = 0 ∨ fmtBonded (s.fmt i) then d else clamp 1 hi v

/-- The window; when W is less than M it acts as M (R335). -/
def State.frW (s : State) (i : Nat) : Nat :=
  let (_, d, _) := frmMW (s.fmt i)
  let v := s.rd FR_CFG_W i
  let w := if v = 0 ∨ fmtBonded (s.fmt i) then d else if fmtCheck (s.fmt i) then clamp 16 1024 v else clamp (s.frM i) 16 v
  max w (s.frM i)

def State.frMfN (s : State) (i : Nat) : Nat := if s.rd FR_CFG2_MF_N i = 0 then 2 else clamp 1 8 (s.rd FR_CFG2_MF_N i)
def State.frMfM (s : State) (i : Nat) : Nat := if s.rd FR_CFG2_MF_M i = 0 then 5 else clamp 1 15 (s.rd FR_CFG2_MF_M i)

/-! ### Defects timed from the framer -/

/-- LOF_MS of the framed layer, in ms (R371; 11-15 act as 10). -/
def State.lofMs (s : State) (i : Nat) : Nat := min 10 (s.rd OV_CFG_LOF_MS i (framedLayer (s.family i)))

/-- LOF and LOM follow OOF and OOM that have lasted LOF_MS, and clear after as long in frame (R371). -/
def State.lofCheck (s : State) (i : Nat) : State :=
  let lasted := fun (t : Option Nat) => match t with | some a => decide (a + 1000000 * s.lofMs i ≤ s.clock) | none => false
  let o := s.ovh i
  let s := if lasted o.oofSince then s.hwDefect i 0x03 true else if lasted o.ifSince then s.hwDefect i 0x03 false else s
  if lasted o.oomSince then s.hwDefect i 0x05 true else if lasted o.mfSince then s.hwDefect i 0x05 false else s

/-- LINK_DOWN of 1GbE: no sync, or auto-negotiation asked for and not complete (Table OVD-4). -/
def State.linkDown (s : State) (i : Nat) : State :=
  if s.fmt i = 0x20 then
    s.hwDefect i 0x93 (s.frState i ≠ 2 || (bitsAt (s.line i).opts 4 2 = 2 && (s.line i).autoneg.isNone))
  else s

/-! ### Declarations -/

/-- The candidates held show in CAND; the errored units of the window in ERR_WIN. -/
def State.frShow (s : State) (i : Nat) : State :=
  let f := s.framer i
  let bad := if fmtCheck (s.fmt i) && s.fmt i ≠ 0x23 then (if f.blk.st = 2 then f.blk.bad else 0) else (f.win.filter id).length
  (s.wr FR_STAT_CAND f.cands.length i).wr FR_STAT_ERR_WIN (if s.fmt i = 0x20 then 0 else bad) i

/-- OOM: declared with its count, time and events (R343, R364); the multiframe hunts. -/
def State.frOom (s : State) (i : Nat) : State :=
  let was := s.rd FR_STAT_MF_STATE i
  if was = 3 then s
  else
    let f := s.framer i
    let s := s.setFramer i { f with mfWords := [], mfLast := none, mfRun := 0 }
    let s := (s.wr FR_STAT_MF_STATE 0 i).wr FR_STAT_OOM 1 i
    if was = 2 then
      let s := s.bump FR_CNT_OOM_CNT i
      let o := s.ovh i
      let s := s.setOvh i { o with oomSince := some s.clock, mfSince := none }
      ((s.hwDefect i 0x04 true).lofCheck i).fireFree (64 + 8 * i + 1)
    else s

/-- OOF with a cause (Table FRM-10): the framer hunts; a declaration is counted and timed only from SYNC (R364). -/
def State.frOof (s : State) (i cause : Nat) : State :=
  let was := s.frState i
  if was = 3 then s
  else
    let f := s.framer i
    let s := s.setFramer i { f with cands := [], win := [], blk := .init, cg := 0, cgEven := false, cgGood := 0, tickDue := none }
    let s := (s.wr FR_STAT_STATE 0 i).setFlag FR_STAT_OOF true i
    let s := if was = 2 then
        let s := ((s.wr FR_STAT_CAUSE cause i).wr FR_OOF_TIME s.tm.device i).bump FR_CNT_OOF_CNT i
        let o := s.ovh i
        let s := (s.setOvh i { o with oofSince := some s.clock, ifSince := none }).count (104 + i)
        ((s.hwDefect i 0x02 true).lofCheck i).fireFree (64 + 8 * i + 1)
      else s
    (s.linkDown i).frShow i

/-- OOF and, where a separate multiframe is in SYNC, OOM, on loss of signal (R355). -/
def State.frLost (s : State) (i : Nat) : State := (s.frOof i 2).frOom i

/-- PORT_READY for each port behind the framer that has not had it (R27); fc starts on the timing port (R174). -/
def State.portsReady (s : State) (p : Port → Bool) : State :=
  (s.portsWhere fun _ q => p q && !q.ready && !q.cut).foldl (fun s e =>
    let (h, k, q) := e
    let m := s.helm h
    let m := m.setPort k { q with ready := true }
    let timing := match m.image with | some im => decide (im.timing = k) | none => false
    let m := if timing then { m with fcOn := true, fc := 0 } else m
    (s.setHelm h m).enqueue h 8 k 0 false []) s

/-- A slice port in one of the format's layers (R254). -/
def State.slicePort (s : State) (i : Nat) (q : Port) : Bool :=
  q.src = sliceObj i && (familyLayers (s.family i)).contains q.layer

/-- In-frame: registers, the OOF defect, PORT_READY and the framing source (R356); a separate multiframe hunts from
here (R339, R343) and the counted one starts at 0 (R344). -/
def State.frIn (s : State) (i : Nat) : State :=
  let fmt := s.fmt i
  let f := s.framer i
  let pcs := familyOf fmt = .pcs
  let s := s.setFramer i { f with cands := [], win := [], mfFrom := s.clock, mfWords := [], mfLast := none, mfRun := 0,
                                  frames := 0, fresh := !pcs, tickDue := if pcs then some (s.clock + 125000) else none }
  let s := ((s.wr FR_STAT_STATE 2 i).wr FR_STAT_OOF 0 i).wr FR_IF_TIME s.tm.device i
  let s := if fmtMultiframe fmt then (s.wr FR_STAT_MF_STATE 0 i).wr FR_STAT_OOM 1 i else s
  let o := s.ovh i
  let s := s.setOvh i { o with ifSince := some s.clock, oofSince := none }
  let s := ((s.hwDefect i 0x02 false).lofCheck i).portsReady (s.slicePort i)
  let s := s.portsReady fun q => match s.portCarrier? q with
    | some c => 32 ≤ c && objSlice? (wordSrc (s.ent (c - 32)).use0) = some i && s.portInFrame q
    | none => false
  ((s.fireFree (64 + 8 * i + 1)).linkDown i).frShow i

/-- Multiframe SYNC (R339, R343). -/
def State.frMfSync (s : State) (i : Nat) : State :=
  let s := (s.wr FR_STAT_MF_STATE 2 i).wr FR_STAT_OOM 0 i
  let o := s.ovh i
  let s := s.setOvh i { o with mfSince := some s.clock, oomSince := none }
  ((s.hwDefect i 0x04 false).lofCheck i).fireFree (64 + 8 * i + 1)

/-- The framer starts to hunt at the entry to the FRAME stage (R329). -/
def State.frStart (s : State) (i : Nat) : State :=
  let fmt := s.fmt i
  if familyOf fmt = .unframed ∨ familyOf fmt = .none then s
  else
    let s := s.setFramer i Framer.init
    let s := ((s.wr FR_STAT_STATE 0 i).wr FR_STAT_OOF 1 i).wr FR_STAT_MF_STATE (if fmtMultiframe fmt then 0 else 3) i
    ((s.wr FR_STAT_OOM (boolNat (fmtMultiframe fmt)) i).linkDown i).frShow i

/-- The framer stops: STATE and MF_STATE read NONE and nothing is declared (R329), but the OOF of R28 from SYNC. -/
def State.frStop (s : State) (i : Nat) : State :=
  let s := if s.frState i = 2 then s.frOof i 2 else s
  let s := (s.setFramer i Framer.init).wr FR_STAT_STATE 3 i
  let s := (((s.wr FR_STAT_MF_STATE 3 i).wr FR_STAT_OOF 0 i).wr FR_STAT_OOM 0 i).frShow i
  if i < 8 then
    let s := (((s.wr FR_BOND_LOCKED 0 i).wr FR_BOND_ALIGNED 0 i).wr FR_BOND_SKEW_OVR 0 i).wr FR_BOND_LANE_DUP 0 i
    (List.range 20).foldl (fun s l => s.wr FR_LANE_SKEW 0x7FF i l) s
  else s

/-! ### Pattern mode (Table FRM-2) -/

/-- A candidate has its count: in-frame at N with the auxiliary checks passed, else it waits in PRESYNC. -/
def State.frCount (s : State) (i pos n : Nat) : State :=
  let f := s.framer i
  if s.frN i ≤ n then s.frIn i
  else
    let cs := if f.cands.any (fun c => c.1 = pos) then f.cands.map (fun c => if c.1 = pos then (pos, n) else c)
              else f.cands ++ [(pos, n)]
    ((s.setFramer i { f with cands := cs }).wr FR_STAT_STATE 1 i).frShow i

/-- One check unit judged in SYNC (R335): OOF with cause 1 when M of the last W are errored. -/
def State.frUnit (s : State) (i : Nat) (errored : Bool) : State :=
  let f := s.framer i
  let win := (errored :: f.win).take (s.frW i)
  let s := s.setFramer i { f with win := win }
  if s.frM i ≤ (win.filter id).length then
    let s := s.frOof i 1
    if s.rd FR_STAT_MF_STATE i = 3 then s else s.frOom i
  else s.frShow i

/-! ### 64b/66b block lock (Table FRM-4) -/

/-- A sync header of 0b01 or 0b10 is valid (R346). -/
def headerValid (h : Nat) : Bool := h % 4 = 1 || h % 4 = 2

/-- One sync header; the answer says whether lock was gained (some true) or lost (some false). -/
def BlockLock.step (b : BlockLock) (n m w : Nat) (valid : Bool) : BlockLock × Option Bool :=
  if b.st = 2 then
    let k := b.n + 1
    let e := b.bad + boolNat (!valid)
    if m ≤ e then (BlockLock.init, some false)
    else if w ≤ k then ({ st := 2, n := 0, bad := 0 }, none)
    else ({ b with n := k, bad := e }, none)
  else if !valid then (BlockLock.init, none)
  else if n ≤ b.n + 1 then ({ st := 2, n := 0, bad := 0 }, some true)
  else ({ st := 1, n := b.n + 1, bad := 0 }, none)

/-! ### Clause 36 synchronization (R345) -/

/-- States: 0 LOSS_OF_SYNC; 1, 3, 5 COMMA_DETECT_1-3; 2, 4 ACQUIRE_SYNC_1-2; 6 SYNC_ACQUIRED_1; 7, 8, 9 SYNC_ACQUIRED_2-4
without and 10, 11, 12 with a good code-group counted. Code-groups: 0 invalid, 1 data, 2 comma, 3 another valid one. -/
def cgNext (st : Nat) (even : Bool) (good cg : Nat) : Nat × Bool × Nat :=
  let comma := cg = 2
  let bad := cg = 0 || (comma && even)
  let flip := !even
  match st with
  | 0 => if comma then (1, true, 0) else (0, flip, 0)
  | 1 => if cg = 1 then (2, flip, 0) else (0, flip, 0)
  | 2 => if bad then (0, flip, 0) else if comma then (3, true, 0) else (2, flip, 0)
  | 3 => if cg = 1 then (4, flip, 0) else (0, flip, 0)
  | 4 => if bad then (0, flip, 0) else if comma then (5, true, 0) else (4, flip, 0)
  | 5 => if cg = 1 then (6, flip, 0) else (0, flip, 0)
  | 6 => if bad then (7, flip, 0) else (6, flip, 0)
  | 7 => if bad then (8, flip, 0) else (10, flip, 1)
  | 8 => if bad then (9, flip, 0) else (11, flip, 1)
  | 9 => if bad then (0, flip, 0) else (12, flip, 1)
  | 10 => if bad then (8, flip, 0) else if good = 3 then (6, flip, 0) else (10, flip, good + 1)
  | 11 => if bad then (9, flip, 0) else if good = 3 then (7, flip, 0) else (11, flip, good + 1)
  | _ => if bad then (0, flip, 0) else if good = 3 then (8, flip, 0) else (12, flip, good + 1)

/-! ### Logical lanes (R349-R353) -/

/-- Markers in a row that lose a lane its lock (Table FRM-5). -/
def laneLoss (fmt : Nat) : Nat := if fmt = 0x13 then 5 else 4

def Framer.lane (f : Framer) (k : Nat) : Lane := smGet Lane.init f.lanes k

def Framer.setLane (f : Framer) (k : Nat) (x : Lane) : Framer := { f with lanes := smSet Lane.init f.lanes k x }

/-- The places 0-19 (5 x physical lane + position) whose lanes are locked. -/
def Framer.lockedAt (f : Framer) : List Nat := (List.range 20).filter fun k => (f.lane k).locked

/-- The numbers of the locked lanes. -/
def Framer.numbers (f : Framer) : List Nat := f.lockedAt.filterMap fun k => (f.lane k).num

/-- Earliest arrival among the locked lanes, and the skew across them, 0.1 ns. -/
def Framer.earliest (f : Framer) : Nat :=
  match f.lockedAt.map fun k => (f.lane k).arrival with
  | a :: l => l.foldl min a
  | [] => 0

def Framer.skew (f : Framer) : Nat :=
  (f.lockedAt.map fun k => (f.lane k).arrival).foldl max 0 - f.earliest

/-- Two locked lanes carry one number (R351). -/
def Framer.laneDup (f : Framer) : Bool := f.numbers.dedup.length != f.numbers.length

/-- FR_BOND_STAT and FR_LANE follow the lanes (Tables FRM-13, FRM-14). -/
def State.bondShow (s : State) (i : Nat) : State :=
  let f := s.framer i
  let s := s.wr FR_BOND_LOCKED (f.numbers.dedup.foldl (fun n l => n + 2 ^ l) 0) i
  let s := s.setFlag FR_BOND_LANE_DUP f.laneDup i
  let s := s.setFlag FR_BOND_SKEW_OVR (decide (1800 < f.skew)) i
  (List.range 20).foldl (fun s l =>
    match f.lockedAt.find? fun k => (f.lane k).num = some l with
    | some k => ((s.wr FR_LANE_PHYS (k / 5) i l).wr FR_LANE_POS (k % 5) i l).wr FR_LANE_SKEW
        (min 0x7FE ((f.lane k).arrival - f.earliest)) i l
    | none => s.wr FR_LANE_SKEW 0x7FF i l) s

/-- The group may align: 20 lanes locked, all numbers different, skew 180 ns or less (R351). -/
def Framer.canAlign (f : Framer) : Bool := f.lockedAt.length = 20 && !f.laneDup && decide (f.skew ≤ 1800)

/-- A 100GbE PCS lane finds markers only with block lock (Table FRM-5). -/
def laneReady (fmt : Nat) (x : Lane) : Bool := fmt ≠ 0x23 || x.blk.st = 2

/-- One marker of a lane: `num` is the number it carries, `none` an errored marker. Lock after 2 matching in a row; loss
after 5 (OTL4.4) or 4 (100GbE) errored; once aligned, one away from its expected position is errored (R352). -/
def Lane.marker (x : Lane) (fmt : Nat) (aligned : Bool) (num : Option Nat) (arrival : Nat) : Lane :=
  if x.locked then
    let ok := num.isSome && num = x.num && (!aligned || arrival = x.arrival)
    if ok then { x with errs := 0, arrival := arrival }
    else if laneLoss fmt ≤ x.errs + 1 then { x with locked := false, good := 0, errs := 0, num := none }
    else { x with errs := x.errs + 1 }
  else
    match num with
    | none => { x with good := 0, num := none }
    | some l =>
      let g := if x.num = some l then x.good + 1 else 1
      { x with num := some l, good := g, locked := decide (2 ≤ g), errs := 0, arrival := arrival }

/-- The group leaves alignment (R353): the group framer hunts; lanes still locked keep their lock. -/
def State.groupOof (s : State) (i cause : Nat) : State :=
  let s := s.wr FR_BOND_ALIGNED 0 i
  let lanes := (s.framer i).lanes
  let s := (s.frOof i cause).frOom i
  (s.setFramer i { s.framer i with lanes := lanes }).bondShow i

/-- The lead slice of the group a slice belongs to, when it runs as one. -/
def State.groupLead? (s : State) (i : Nat) : Option Nat :=
  if i < 8 ∧ fmtBonded (s.fmt (i / 4 * 4)) then some (i / 4 * 4) else none

/-- Forced reframe (R361): HUNT with cause 3; on a bonded group every logical lane hunts again. -/
def State.reframe (s : State) (i : Nat) : State :=
  if s.frState i = 3 then s
  else
    let s := s.frOof i 3
    let s := if s.rd FR_STAT_MF_STATE i = 3 then s else s.frOom i
    let s := s.wr FR_STAT_CAUSE 3 i
    if fmtBonded (s.fmt i) then
      ((s.setFramer i { s.framer i with lanes := [] }).wr FR_BOND_ALIGNED 0 i).bondShow i
    else s

/-- Forced multiframe hunt (R361). -/
def State.mfReframe (s : State) (i : Nat) : State :=
  if s.frState i = 3 ∨ s.rd FR_STAT_MF_STATE i = 3 then s
  else
    let s := s.frOom i
    s.setFramer i { s.framer i with mfFrom := s.clock }

end Sys2Proof.Machine
end

