-- ==== Sys2Proof/Machine/LineBase.lean ====
section
/-! DEFINITION. The front end of a slice (chapter 08): stages and their timers (R287, R288), the end of an attempt and of
an ACQUIRE (R289, Table FE-5), the loop handshake (R297-R301) and the loss of a signal (R28, R286). -/

namespace Sys2Proof.Machine

open Reg

/-- The LINE and LOOP sources of a slice. -/
def State.lineFire (s : State) (i : Nat) : State := s.fireFree (64 + 8 * i)
def State.loopFire (s : State) (i : Nat) : State := s.fireFree (64 + 8 * i + 3)

/-- The slices a slice's ACQUIRE works on: the quad when it leads a group. -/
def State.group (s : State) (i : Nat) : List Nat := groupOf i (s.fmt i)

/-- Every slice of the group of `i` changed by `f`. -/
def State.onGroup (s : State) (i : Nat) (f : Nat → State → State) : State := (s.group i).foldl (fun s j => f j s) s

/-- Fields of P2 (Table FE-8). -/
def optTx (p2 : Nat) : Nat := bitsAt p2 0 2
def optTxEn (p2 : Nat) : Bool := p2.testBit 2
def optHs (p2 : Nat) : Nat := bitsAt p2 4 2
def optKind (p2 : Nat) : Nat := bitsAt p2 6 4
def optHold (p2 : Nat) : Bool := p2.testBit 10
def optRxMode (p2 : Nat) : Nat := bitsAt p2 17 2

/-- The timer of a stage, ms (R288). -/
def State.stageMs (s : State) (i stage : Nat) : Nat :=
  match stage with
  | 1 => clamp 1 1000 (s.rd ACQ_TMO0_T_SIGNAL i)
  | 2 => clamp 1 63 (s.rd ACQ_TMO0_T_LOCK i)
  | 3 => clamp 1 1000 (s.rd ACQ_TMO0_T_ADAPT i)
  | 4 => clamp 1 4000 (s.rd ACQ_TMO1_T_FRAME i)
  | _ => 10 * clamp 1 1000 (s.rd ACQ_TMO1_T_HANDSHAKE i)

/-- UP_MS and DOWN_MS within their range. -/
def State.upMs (s : State) (i : Nat) : Nat := clamp 10 10000 (s.rd LP_LOOP_TIME_UP_MS i)
def State.downMs (s : State) (i : Nat) : Nat := clamp 10 10000 (s.rd LP_LOOP_TIME_DOWN_MS i)

/-- Loop registers exist on LP slices. -/
def State.loopPending (s : State) (i : Nat) : Bool := 8 ≤ i && s.flag LP_LOOP_PENDING i

/-- The preset coefficients that a new attempt starts from (R287): no rule states them. -/
def State.preset (s : State) (i : Nat) : State :=
  let n := if i < 8 then 6 else 2
  let x := s.line i
  let s' := (List.range n).foldl (fun (p : State × List Nat) _ => (p.1.draw, p.2 ++ [p.1.drawn])) (s, [])
  s'.1.setLine i { x with live := s'.2 }

/-- The report registers take the live coefficients as one set (R282). -/
def State.report (s : State) (i : Nat) : State :=
  let v := fun k => (s.line i).live.getD k 0
  if i < 8 then
    (((((s.wr HS_RPT0_CTLE (v 0) i).wr HS_RPT0_DFE1 (v 1) i).wr HS_RPT0_DFE2 (v 2) i).wr HS_RPT0_VGA (v 3) i).wr
      HS_RPT1_EYE_H (v 4) i).wr HS_RPT1_EYE_W (v 5) i
  else (s.wr LP_RPT_EQ_GAIN (v 0) i).wr LP_RPT_PEAK (v 1) i

/-- The transmit timing in use (R277): REFCLK until LOCK with loop timing; REFIN when valid, else holdover. -/
def State.txTiming (s : State) (i : Nat) : State :=
  let p2 := (s.line i).opts
  s.onGroup i fun j s =>
    match optTx p2 with
    | 1 => s.wr LINE_STAT_TXTIME (boolNat (s.flag LINE_STAT_LOCK i)) j
    | 2 => if s.flag GL_REFIN_VALID then (s.wr LINE_STAT_TXTIME 2 j).wr LINE_STAT_TX_HOLDOVER 0 j
           else (s.wr LINE_STAT_TXTIME 0 j).wr LINE_STAT_TX_HOLDOVER 1 j
    | _ => s.wr LINE_STAT_TXTIME 0 j

/-- A stage is entered: its timer starts, at its remaining full length while suspended (R288, Table OPS-9). -/
def State.enterStage (s : State) (i stage : Nat) (timed : Bool := true) : State :=
  match (s.line i).acq with
  | none => s
  | some a =>
    let ms := 1000000 * s.stageMs i stage
    let a := { a with furthest := max a.furthest stage, due := if timed && !a.suspended then some (s.clock + ms) else none,
                      rem := if timed && a.suspended then some ms else none }
    let s := s.setLine i { s.line i with acq := some a }
    (s.wr LINE_STAT_STAGE stage i).lineFire i

/-- The attempt starts at SIGNAL (R287): lock, settling, framer and coefficients start over. -/
def State.startAttempt (s : State) (i : Nat) : State :=
  let s := s.frStop i
  let s := s.onGroup i fun j s =>
    (((s.wr LINE_STAT_LOCK 0 j).wr LINE_STAT_SETTLED 0 j).preset j).setFlag LINE_STAT_TX_ON
      (s.flag LINE_STAT_TX_ON j || optTxEn (s.line i).opts) j
  let s := s.setLine i { s.line i with loop := 0, loopDue := none, loopRem := none }
  let s := s.wr OV_LPRBS_HELD 0 i
  (s.txTiming i).enterStage i 1

/-- The ACQUIRE RESULT word (Table FE-5). -/
def State.acqResult (s : State) (i last : Nat) : Nat :=
  match (s.line i).acq with
  | none => 0
  | some a =>
    last + a.furthest * 16 + s.rd LINE_STAT_RESTARTS i * 256 + boolNat (s.loopPending i) * 4096 +
      boolNat (8 ≤ i && s.flag LP_LOOP_CONFIRMED i) * 8192 + (a.loss.getD 0xFFFF) * 65536

/-- Partner data is discarded (R311). -/
def State.dropPartner (s : State) (i : Nat) : State :=
  let o := s.ovh i
  (s.setOvh i { o with acc := [], latest := [], cand := [] }).setLine i { s.line i with autoneg := none }

/-- A front end is powered down and its slice reads IDLE (R289, R294): transmit off, forces ended (R390), hardware
detection idle; the loop flags stay (R301). -/
def State.idleSlice (s : State) (j : Nat) : State :=
  let s := (s.frStop j).dropPartner j
  let s := (((s.wr LINE_STAT_LSTATE 0 j).wr LINE_STAT_FORMAT 0 j).wr LINE_STAT_SIG 0 j).wr LINE_STAT_LOCK 0 j
  let s := (((s.wr LINE_STAT_SETTLED 0 j).wr LINE_STAT_TX_ON 0 j).wr LINE_STAT_TXTIME 0 j).wr LINE_STAT_TX_HOLDOVER 0 j
  let s := [OV_FORCE_AIS, OV_FORCE_RDI, OV_FORCE_UNEQ, OV_FORCE_LOF, OV_FORCE_LOS, OV_FORCE_LCK, OV_FORCE_LF, OV_FORCE_RF].foldl
    (fun s f => s.wr f 0 j) s
  let o := s.ovh j
  let s := s.setOvh j { o.restart with hw := 0, dcl := o.prog, oofSince := none, ifSince := none, oomSince := none,
                                       mfSince := none, csqPend := [], csq := 0, rx := [], parity := [], viol := [] }
  let x := s.line j
  (s.setLine j { Line.init with live := x.live }).wr OV_LPRBS_HELD 0 j

/-- The slice, or its whole group, returns to IDLE and its charge ends (R289, Table OPS-6). -/
def State.idleLine (s : State) (i : Nat) : State :=
  ((s.group i).foldl (fun s j => s.idleSlice j) s).lineFire i |>.pmScan

/-- The ACQUIRE ends in any way but DONE_OK (R287, R289). -/
def State.acqEnd (s : State) (i status : Nat) : State :=
  match (s.line i).acq with
  | none => s
  | some a =>
    let r := s.acqResult i (s.rd LINE_STAT_STAGE i)
    (s.endOp a.sess a.tag status r).idleLine i

/-- The ACQUIRE reaches stage 6: DONE_OK, LSTATE ACQUIRED, and its charge stays with the session (R289, Table OPS-6). -/
def State.acquired (s : State) (i : Nat) : State :=
  match (s.line i).acq with
  | none => s
  | some a =>
    let est := (match s.op? a.sess a.tag with | some o => o.est | none => 0)
    let s := s.setLine i { s.line i with acq := some { a with furthest := 6 } }
    let r := s.acqResult i 6
    let s := (s.endOp a.sess a.tag doneOk r).modOp a.sess a.tag fun o => { o with est := 0 }
    let s := s.setLine i { s.line i with acq := none, chargeTo := a.sess, charge := est, loop := 0, loopDue := none, loopRem := none }
    (((s.wr LINE_STAT_STAGE 6 i).wr LINE_STAT_LSTATE 2 i).wr OV_LPRBS_HELD 0 i).lineFire i |>.pmScan

/-- An attempt fails (R287): a restart while fewer have been made than P1, else E_PARTNER_SILENT. -/
def State.failAttempt (s : State) (i : Nat) : State :=
  match (s.line i).acq with
  | none => s
  | some a =>
    if s.rd LINE_STAT_RESTARTS i < a.p1 % 16 then (s.bump LINE_STAT_RESTARTS i).startAttempt i
    else s.acqEnd i ePartnerSilent

/-! ### The loop handshake -/

/-- A code starts to be sent for `ms`: phase, kind and end (or what is left while suspended). -/
def State.loopSend (s : State) (i phase kind ms : Nat) : State :=
  let x := s.line i
  let susp := match x.acq with | some a => a.suspended | none => false
  let s := s.setLine i { x with loop := phase, loopKind := kind, loopDue := if susp then none else some (s.inMs ms),
                                loopRem := if susp then some (1000000 * ms) else none, loopFrom := if phase = 2 then s.clock else x.loopFrom }
  (s.wr LINE_STAT_TX_ON 1 i).emit (.line i (16 * phase + kind))

/-- T_HANDSHAKE runs from a loop-up or auto-negotiation on; loop-downs are bounded apart (R293). -/
def State.startHsTimer (s : State) (i : Nat) : State :=
  let x := s.line i
  let ms := 1000000 * s.stageMs i 5
  match x.acq with
  | some a =>
    let a := if a.suspended then { a with due := none, rem := some ms } else { a with due := some (s.clock + ms), rem := none }
    s.setLine i { x with acq := some a }
  | none => s.setLine i { x with probeDue := some (s.clock + ms) }

/-- A loop-up starts (R297 steps 1 and 2). -/
def State.loopUp (s : State) (i kind : Nat) : State :=
  let s := ((s.wr LP_LOOP_PENDING 1 i).wr LP_LOOP_CONFIRMED 0 i).wr LP_LOOP_KIND kind i
  ((s.startHsTimer i).loopSend i 2 kind (s.upMs i)).loopFire i

/-- PENDING and CONFIRMED clear (R298). -/
def State.loopClear (s : State) (i : Nat) : State := ((s.wr LP_LOOP_PENDING 0 i).wr LP_LOOP_CONFIRMED 0 i).loopFire i

/-- Stage 5 after its first loop-down, `sent` being the kind that went out, if any (R298, R300). -/
def State.hsNext (s : State) (i : Nat) (sent : Option Nat) : State :=
  match (s.line i).acq with
  | none => s
  | some a =>
    let kind := optKind a.p2
    match optHs a.p2 with
    | 1 => s.loopUp i kind
    | 2 => (s.setLine i { s.line i with loop := 5, loopDue := none }).startHsTimer i
    | 3 => if kind ≠ 0 ∧ sent ≠ some kind then s.loopSend i 4 kind (s.downMs i) else s.acquired i
    | _ => s.acquired i

/-- The entry to stage 5 (R291): skipped when no handshake applies; a pending loop-down runs first (R298). -/
def State.enterHandshake (s : State) (i : Nat) : State :=
  match (s.line i).acq with
  | none => s
  | some a =>
    let down := s.loopPending i && loopFits (s.rd LP_LOOP_KIND i) (s.fmt i)
    if optHs a.p2 = 0 && !down then s.acquired i
    else
      let s := (s.enterStage i 5 false).wr OV_LPRBS_HELD 1 i
      let s := s.wr OV_LPRBS_SYNC 0 i
      if down then s.loopSend i 1 (s.rd LP_LOOP_KIND i) (s.downMs i) else s.hsNext i none

/-- The entry to stage 4: the framer hunts; skipped for unframed formats (Table FE-4). -/
def State.enterFrame (s : State) (i : Nat) : State :=
  if familyOf (s.fmt i) = .unframed then s.enterHandshake i else (s.enterStage i 4).frStart i

/-! ### Soundings: results -/

/-- STATUS values of Table SND-3. -/
def sndValid : Nat := 0
def sndNoSignal : Nat := 1
def sndNoHead : Nat := 2
def sndNoDiag : Nat := 3
def sndNoRef : Nat := 4
def sndNoData : Nat := 5
def sndDisturbed : Nat := 6
def sndNotSettled : Nat := 7

/-- A sounding's result: the header of Table SND-2 and its body. -/
def soundBytes (code status count aux time : Nat) (body : List Byte) : List Byte :=
  leBytes 1 code ++ leBytes 1 status ++ leBytes 2 count ++ leBytes 4 aux ++ leBytes 8 time ++ body

/-- The sounding completes with its result for a buffer of P1 bytes (R143, R310). -/
def State.soundEnd (s : State) (o : Op) (status count aux time : Nat) (body : List Byte) : State :=
  s.endWithData o.sess o.tag (soundBytes (o.par 0 % 256) status count aux time body) (o.par 1)

/-- A LOOP_PROBE ends with its one entry (R326). -/
def State.probeEnd (s : State) (i status : Nat) : State :=
  let x := s.line i
  match x.probe with
  | none => s
  | some (n, t) =>
    let s := s.setLine i { x with probe := none, probeDue := none, probeMs := none, loop := 0, loopDue := none, loopRem := none }
    let s := s.wr OV_LPRBS_HELD 0 i
    match s.op? n t with
    | none => s
    | some o =>
      let body := leBytes 1 (boolNat x.probeMs.isSome) ++ leBytes 1 0 ++ leBytes 2 (min 65535 (x.probeMs.getD 0))
      s.soundEnd o status 1 0 s.tm.device body

/-- Step 3 of a LOOP_PROBE: the loop-down that always follows (R326). -/
def State.probeDown (s : State) (i : Nat) : State :=
  let s := s.setLine i { s.line i with probeDue := none }
  s.loopSend i 6 (s.rd LP_LOOP_KIND i) (s.downMs i)

/-- A SOUND that measures the received signal ends NO_SIGNAL with what it has gathered (Table SND-3): JITTER with
nothing, WANDER with its samples. -/
def State.soundsLost (s : State) (i status : Nat) (wanderOnly : Bool) : State :=
  (s.ops.filter fun o => o.opcode = 0x12 && o.live && o.active && o.started && o.obj = sliceObj i).foldl (fun s o =>
    match o.par 0 % 256 with
    | 0x30 => if wanderOnly then s else s.soundEnd o status 0 0 s.tm.device []
    | 0x31 => s.soundEnd o status (o.data.length / 4) 0 (leNat o.outp) o.data
    | _ => s) s

/-- An intrusive sounding on a slice disturbs the other soundings that run there (R309): a JITTER or WANDER ends with
what it has gathered, and one that has not begun to measure reads DISTURBED when it does. -/
def State.disturb (s : State) (i n tag : Nat) : State :=
  let s := s.soundsLost i sndDisturbed false
  { s with ops := s.ops.map fun o =>
      if o.opcode = 0x12 ∧ o.live ∧ o.active ∧ o.obj = sliceObj i ∧ ¬(o.sess = n ∧ o.tag = tag) then { o with stage := 6 } else o }

/-! ### Loss of signal (R28, R286, R355) -/

/-- The signal of a slice becomes absent: LOS, the framer's OOF with cause 2, partner data discarded, an attempt beyond
SIGNAL failed, a probe ended. -/
def State.signalLost (s : State) (i : Nat) : State :=
  if !s.flag LINE_STAT_SIG i then s
  else
    let s := (s.wr LINE_STAT_SIG 0 i).setLine i { s.line i with sigSince := none }
    let s := ((s.hwDefect i 0x01 true).count (128 + i)).lineFire i
    let lead := (s.groupLead? i).getD i
    let s := if fmtBonded (s.fmt lead) then s.groupOof lead 2 else s.frLost lead
    let s := (s.dropPartner i).soundsLost i sndNoSignal false
    let s := if (s.line i).probe.isSome then s.probeEnd i sndNoSignal else s
    match (s.line lead).acq with
    | some _ => if 1 < s.rd LINE_STAT_STAGE lead then s.failAttempt lead else s
    | none => s

/-- The signal of a slice becomes present: LOS clears. -/
def State.signalFound (s : State) (i : Nat) : State :=
  if s.flag LINE_STAT_SIG i then s
  else
    let s := (s.wr LINE_STAT_SIG 1 i).setLine i { s.line i with sigSince := some s.clock }
    (s.hwDefect i 0x01 false).lineFire i

/-! ### Release -/

/-- RELEASE_LINE's effect on a slice that is ACQUIRING or ACQUIRED (R289, R294): an ACQUIRE in flight ends with
`status`. -/
def State.releaseLine (s : State) (i status : Nat) : State :=
  match (s.line i).acq with
  | some _ => s.acqEnd i status
  | none => if s.rd LINE_STAT_LSTATE i = 2 then s.idleLine i else s

/-- A slice's line work ends for a reset, a revocation or a session's end: of the whole group when the slice is in one
(R274). -/
def State.endLine (s : State) (i status : Nat) : State :=
  let lead := (s.groupLead? i).getD i
  let s := if (s.line i).probe.isSome then
      let x := s.line i
      (s.setLine i { x with probe := none, probeDue := none, probeMs := none, loop := 0, loopDue := none }).wr OV_LPRBS_HELD 0 i
    else s
  s.releaseLine lead status

end Sys2Proof.Machine
end

