-- ==== Sys2Proof/Machine/ChartBase.lean ====
section
/-! DEFINITION. Chart words: which are well formed (R396-R400), which collide (R403), which fit the slices' formats (R407),
how an entry applies a word (R404, R412, R415), and what leaves with an object or a range (R408). -/

namespace Sys2Proof.Machine

open Reg

/-! ### Kinds of mapping -/

def mapAu4 (m : Nat) : Bool := [1, 2, 3, 4, 6, 7, 8, 0x12, 0x20, 0x21, 0x22, 0x23].contains m
def mapSonet (m : Nat) : Bool := [5, 9, 0xA, 0xB, 0xC, 0xD, 0xE, 0xF].contains m
/-- Clients that go into a container of either row of Table CHT-2. -/
def mapEither (m : Nat) : Bool := [0x10, 0x11, 0x13].contains m
def mapSdh (m : Nat) : Bool := mapAu4 m || mapSonet m || mapEither m
def mapOtn (m : Nat) : Bool := decide (0x18 ≤ m ∧ m ≤ 0x1C) || decide (0x24 ≤ m ∧ m ≤ 0x26)
def mapClient (m : Nat) : Bool := decide (0x10 ≤ m ∧ m ≤ 0x13)
def mapLp (m : Nat) : Bool := m = 0x30 || m = 0x31 || m = 9
def mapGfp (m : Nat) : Bool := decide (0x20 ≤ m ∧ m ≤ 0x26)

/-- AU-4s or STS-1s that one container takes, in its own row's count. -/
def mapSpan (m : Nat) : Nat :=
  match m with
  | 0x02 => 4 | 0x03 => 16 | 0x04 => 64 | 0x21 => 4 | 0x22 => 16 | 0x23 => 64
  | 0x0A => 3 | 0x0B => 12 | 0x0C => 48 | 0x0D => 192
  | _ => 1

/-- Tributary slots of an OTN mapping, and of how many (Table CHT-1). -/
def mapSlots (m : Nat) : Nat × Nat :=
  match m with
  | 0x18 => (1, 8) | 0x19 => (2, 8) | 0x1A => (1, 80) | 0x1B => (2, 80) | 0x1C => (8, 80)
  | 0x24 => (1, 80) | 0x25 => (2, 80) | _ => (8, 80)

/-! ### Positions (Table CHT-2) -/

def posN (p : Nat) : Nat := bitsAt p 0 8
def posK (p : Nat) : Nat := bitsAt p 8 2
def posL (p : Nat) : Nat := bitsAt p 10 3
def posM (p : Nat) : Nat := bitsAt p 13 3

/-- A number that starts a container on a multiple of its span. -/
def spanOk (n span top : Nat) : Bool := decide (1 ≤ n ∧ n + span ≤ top + 1) && (n - 1) % span = 0

def posAu4 (m p : Nat) : Bool :=
  spanOk (posN p) (mapSpan m) 64 &&
  (if m = 6 ∨ m = 0x12 ∨ m = 0x13 then decide (1 ≤ posK p ∧ posL p = 0 ∧ posM p = 0)
   else if m = 7 ∨ m = 0x10 then decide (1 ≤ posK p ∧ 1 ≤ posL p ∧ 1 ≤ posM p ∧ posM p ≤ 3)
   else if m = 8 ∨ m = 0x11 then decide (1 ≤ posK p ∧ 1 ≤ posL p ∧ 1 ≤ posM p ∧ posM p ≤ 4)
   else decide (posK p = 0 ∧ posL p = 0 ∧ posM p = 0))

def posSonet (m p : Nat) : Bool :=
  posK p = 0 && spanOk (posN p) (mapSpan m) 192 &&
  (if m = 0xE ∨ m = 0x11 then decide (1 ≤ posL p ∧ 1 ≤ posM p ∧ posM p ≤ 4)
   else if m = 0xF ∨ m = 0x10 then decide (1 ≤ posL p ∧ 1 ≤ posM p ∧ posM p ≤ 3)
   else decide (posL p = 0 ∧ posM p = 0))

/-- First slot in [7:0], port number 1-80 in [14:8], [15] 0. -/
def posOtn (m p : Nat) : Bool :=
  let (k, n) := mapSlots m
  decide (1 ≤ posN p ∧ posN p + k ≤ n + 1 ∧ 1 ≤ bitsAt p 8 7 ∧ bitsAt p 8 7 ≤ 80 ∧ p < 32768)

/-- The position on a side of object class `cls`. -/
def posOk (m cls p : Nat) : Bool :=
  if cls ≠ 0 then p = 0
  else if mapOtn m then posOtn m p
  else if mapEither m then posAu4 m p || posSonet m p
  else if mapSonet m then posSonet m p else posAu4 m p

/-! ### Words (R396-R400) -/

/-- Objects a word may name: slices, pattern units, and on the destination side Chutes and 0xFFFF. -/
def wordObj (o : Nat) (dst : Bool) : Bool :=
  match objClass o with
  | 0 => decide (objIndex o < 8)
  | 1 => decide (objIndex o < 16)
  | 7 => decide (objIndex o < 64)
  | 4 => dst && decide (objIndex o < 64)
  | _ => dst && o = 0xFFFF

/-- An object of class `cls` can carry the mapping on its side. -/
def clsCarries (m cls : Nat) : Bool :=
  match cls with
  | 0 => mapSdh m || mapOtn m
  | 1 => mapLp m || mapClient m
  | 4 => mapGfp m
  | _ => true

/-- The label field allowed (Table CHT-3): C2, V5[3:1], PT, else 0. -/
def labelOk (m l : Nat) : Bool :=
  if (1 ≤ m ∧ m ≤ 6) ∨ (9 ≤ m ∧ m ≤ 0xD) ∨ mapOtn m then true
  else if [7, 8, 0xE, 0xF, 0x10, 0x11].contains m then decide (l < 8)
  else l = 0

/-- The word obeys R396 to R400. A container side and a client side belong to each PDH client mapping. -/
def wordOk (w : Nat) : Bool :=
  let m := wordMap w
  let src := wordSrc w
  let dst := wordDst w
  if m = 0 then w = 0
  else
    let gfp := bitsAt w 112 7
    mapListed m && bitsAt w 9 7 = 0 && bitsAt w 119 1 = 0 && (mapGfp m || gfp = 0) && labelOk m (wordLabel w) &&
    (if m = 0x30 then wordTs w ≠ 0 && !(wordTs w).testBit 0 else wordTs w = 0) &&
    wordObj src false && wordObj dst true && !(objClass src = 7 && objClass dst = 7) &&
    clsCarries m (objClass src) && clsCarries m (objClass dst) &&
    !(mapClient m && objClass src = 1 && objClass dst = 1) && !(mapClient m && objClass src = 0 && objClass dst = 0) &&
    posOk m (objClass src) (wordSrcPos w) && posOk m (objClass dst) (wordDstPos w) &&
    !(wordBidir w && (objClass dst = 4 || dst = 0xFFFF))

/-! ### Collisions (R403) -/

/-- What a word takes of one object: STS-1s of an AU-4 (`au4`) or AU-3 structure with the TUG-3, TUG-2 and TU in it and
the TU kind, OTN slots, timeslots, or all of it. -/
inductive Cover where
  | sdh (lo hi : Nat) (au4 : Bool) (k l m : Nat) (tu12 : Bool)
  | otn (lo hi : Nat) (odu4 : Bool) (port : Nat)
  | slots (mask : Nat)
  | whole
  deriving DecidableEq, Repr

def coverOf (m o p ts : Nat) : Cover :=
  if objClass o = 0 then
    (if mapOtn m then
       let (k, n) := mapSlots m
       .otn (posN p) (posN p + k - 1) (n = 80) (bitsAt p 8 7)
     else if mapSonet m || (mapEither m && posK p = 0) then
       .sdh (posN p) (posN p + mapSpan m - 1) false 0 (posL p) (posM p) (m = 0xF || m = 0x10)
     else .sdh (3 * posN p - 2) (3 * (posN p + mapSpan m - 1)) true (posK p) (posL p) (posM p) (m = 7 || m = 0x10))
  else if m = 0x30 then .slots ts else .whole

/-- Two covers of one object share something. -/
def Cover.overlaps : Cover → Cover → Bool
  | .sdh a b _ k l m _, .sdh a' b' _ k' l' m' _ =>
    let z := fun (x y : Nat) => x = 0 || y = 0 || x = y
    decide (a ≤ b' ∧ a' ≤ b) && z k k' && z l l' && z m m'
  | .otn a b _ _, .otn a' b' _ _ => decide (a ≤ b' ∧ a' ≤ b)
  | .slots a, .slots b => Nat.land a b ≠ 0
  | _, _ => true

/-- Two covers of one object disagree on its structure. -/
def Cover.clashes : Cover → Cover → Bool
  | .sdh a b u k l m t, .sdh a' b' u' k' l' m' t' =>
    decide (a ≤ b' ∧ a' ≤ b) &&
    (u != u' || a != a' || b != b' || (k = 0 && l = 0) != (k' = 0 && l' = 0) ||
     (k = k' && ((l = 0) != (l' = 0) || (l = l' && l ≠ 0 && ((m = 0) != (m' = 0) || t != t')))))
  | .otn a b u q, .otn a' b' u' q' => u != u' || (decide (a ≤ b' ∧ a' ≤ b) && (a != a' || b != b' || q != q'))
  | .slots _, .slots _ => false
  | .whole, .whole => false
  | _, _ => true

/-- Destinations of a word that can collide: DST, and SRC of a two-way word. Chutes take many producers. -/
def wordDests (w : Nat) : List (Nat × Cover) :=
  let m := wordMap w
  let d := if wordDst w = 0xFFFF ∨ objClass (wordDst w) = 4 then [] else [(wordDst w, coverOf m (wordDst w) (wordDstPos w) (wordTs w))]
  if wordBidir w then d ++ [(wordSrc w, coverOf m (wordSrc w) (wordSrcPos w) (wordTs w))] else d

/-- Slices a word takes tributaries from. -/
def wordSources (w : Nat) : List (Nat × Cover) :=
  let m := wordMap w
  let all := [(wordSrc w, coverOf m (wordSrc w) (wordSrcPos w) (wordTs w))] ++
    (if wordBidir w then [(wordDst w, coverOf m (wordDst w) (wordDstPos w) (wordTs w))] else [])
  all.filter fun e => objClass e.1 ≤ 1

/-- Two words of one letter and session collide. -/
def wordsClash (a b : Nat) : Bool :=
  wordMap a ≠ 0 && wordMap b ≠ 0 &&
  ((wordDests a).any (fun x => (wordDests b).any fun y => x.1 = y.1 && x.2.overlaps y.2) ||
   (wordSources a).any (fun x => (wordSources b).any fun y => x.1 = y.1 && x.2.clashes y.2))

/-! ### Fit (R407) -/

/-- STS-1s of a slice's format. -/
def fmtSts (fmt : Nat) : Nat := if fmt = 0x60 then 1 else 3 * sdhOrder fmt

/-- The mapping at a position fits a slice format; a slice without a format holds no misfit. -/
def sideFits (m fmt p ts : Nat) : Bool :=
  if fmt = 0 then true
  else if fmt < 0x40 ∨ fmt = 0x60 then
    (match familyOf fmt with
     | .sdh =>
       let sonet := fmt = 0x60 || decide (5 ≤ fmt)
       if fmt = 0x60 then m = 9 && p = 0
       else if mapEither m then (if sonet then posSonet m p && decide (posN p ≤ fmtSts fmt) else posAu4 m p && decide (posN p ≤ sdhOrder fmt))
       else if mapAu4 m then !sonet && decide (posN p + mapSpan m ≤ sdhOrder fmt + 1)
       else if m = 5 then !sonet && decide (posN p ≤ fmtSts fmt)
       else mapSonet m && sonet && decide (posN p + mapSpan m ≤ fmtSts fmt + 1)
     | .otn =>
       let (k, n) := mapSlots m
       if m = 0x18 ∨ m = 0x19 then fmt = 0x11 || fmt = 0x12
       else if 0x1A ≤ m ∧ m ≤ 0x1C then fmt = 0x13
       else mapOtn m && (fmt = 0x13 && decide (posN p + k ≤ n + 1) || decide (posN p + k ≤ (if fmt = 0x10 then 2 else 8) + 1))
     | _ => false)
  else
    match m with
    | 0x30 => (fmtE1 fmt && fmt ≠ 0x42) || (fmtT1 fmt && fmt ≠ 0x4A && decide (ts < 2 ^ 25))
    | 0x31 => true
    | 0x10 => fmtE1 fmt
    | 0x11 => fmtT1 fmt
    | 0x12 => decide (0x50 ≤ fmt ∧ fmt ≤ 0x52)
    | 0x13 => decide (0x58 ≤ fmt ∧ fmt ≤ 0x5A)
    | _ => false

/-- A word fits the formats of its slices; a whole PDH signal joins two LP slices of one format (R398). -/
def State.wordFits (s : State) (w : Nat) : Bool :=
  let m := wordMap w
  let f := fun o => match objSlice? o with | some i => some (s.rd LINE_STAT_FORMAT i) | none => none
  let one := fun o p => match f o with | some x => sideFits m x p (wordTs w) | none => true
  m = 0 || (one (wordSrc w) (wordSrcPos w) && one (wordDst w) (wordDstPos w) &&
    (match f (wordSrc w), f (wordDst w) with
     | some a, some b => m ≠ 0x31 || a = 0 || b = 0 || a = b
     | _, _ => true))

/-! ### Entries -/

/-- The active letter of an entry: its owner's selector (R395). -/
def State.activeLetter (s : State) (e : Nat) : Nat := s.rd CH_SEL_ACTIVE 0 (s.entryOwner e)

def ChartEnt.word (x : ChartEnt) (letter : Nat) : Nat := if letter = 0 then x.wa else x.wb

def ChartEnt.setWord (x : ChartEnt) (letter w : Nat) : ChartEnt := if letter = 0 then { x with wa := w } else { x with wb := w }

/-- A word's parity fails, or no longer does. -/
def ChartEnt.setPerr (x : ChartEnt) (letter : Nat) (bad : Bool) : ChartEnt :=
  { x with perr := setBitsAt x.perr letter 1 (boolNat bad) }

/-- Entries in a session's ranges. -/
def State.inRanges (s : State) (n e : Nat) : Bool := s.own.ranges.any fun r => r.sess = n && decide (r.first ≤ e ∧ e < r.first + r.count)

def State.entriesOf (s : State) (n : Nat) : List Nat :=
  ((s.own.ranges.filter fun r => r.sess = n).map fun r => (List.range r.count).map (r.first + ·)).flatten

/-- CH_FC (R409). -/
def State.chFc (s : State) : Nat := s.tm.device / 125000 % 2 ^ 32

/-- CH_CFG as a word. -/
def State.chCfg (s : State) (e : Nat) : Nat :=
  s.rd CH_CFG_TIM_EN e + 2 * s.rd CH_CFG_PLM_EN e + 4 * s.rd CH_CFG_DEG_EN e + 8 * s.rd CH_CFG_EXC_EN e +
    16 * s.rd CH_CFG_DEGM e + 256 * s.rd CH_CFG_DEGTHR e + 2 ^ 15 * s.rd CH_CFG_EXC_X e

def State.chJ2 (s : State) (e : Nat) : List Byte := ((List.range 4).map fun k => leBytes 4 (s.rd CH_EXP_J2 e k)).flatten

/-- Words of one source tributary: same source, position and mapping (R415). -/
def sameTributary (a b : Nat) : Bool :=
  wordMap a = wordMap b && wordSrc a = wordSrc b && wordSrcPos a = wordSrcPos b && wordTs a = wordTs b

/-- Every hardware and program defect of an entry clears at once, and its counts restart (R415). -/
def State.clearEntry (s : State) (e : Nat) : State :=
  let c := entryCarrier e
  let was := (s.ovh c).dcl
  let s := s.setOvh c { (s.ovh c).restart with hw := 0, prog := 0, acc := [], latest := [], csfAt := none, rx := [], parity := [], viol := [] }
  (List.range 256).foldl (fun s k => if was.testBit k then s.settleDefect c k 15 else s) s

/-- One side of an entry applies its word: 0 the source side, 1 the destination side. A new source tributary is judged
afresh (R415), its points are flagged SWITCHED (R466), a GFP-F client starts in HUNT (R348), and ports whose tributary is
now in frame become ready (R27). -/
def State.applySide (s : State) (e side : Nat) : State :=
  let c := entryCarrier e
  let x := s.ent e
  let w := x.tgt
  let s :=
    if side = 1 then s.setEnt e { x with use1 := w, pend1 := false }
    else
      let s := s.setEnt e { x with use0 := w, pend0 := false, gfpN := 0, gfpBad := 0 }
      if sameTributary x.use0 w then s
      else
        let s := (s.clearEntry e).pmSwitched fun p => s.pmCarrier? p = some c
        let gfp := mapGfp (wordMap w)
        let s := s.wr CH_STAT_GFP (if gfp then 0 else 3) e
        let s := if gfp then s.hwDefect c 0x70 true else s
        s.portsReady fun q => s.portCarrier? q = some c && s.portInFrame q
  let x := s.ent e
  let s := s.setEnt e (if x.pend0 || x.pend1 then x else { x with due := none })
  if x.pend0 || x.pend1 then s else (s.wr CH_STAT_WORD (s.activeLetter e) e).pmScan

/-- A CHART_SWAP that has committed completes when every entry has applied its word (R412). -/
def State.swapCheck (s : State) (n : Nat) : State :=
  match s.ops.find? fun o => o.sess = n && o.opcode = 0x19 && o.live && o.stage = 1 with
  | none => s
  | some o =>
    if (s.entriesOf n).any fun e => (s.ent e).pend0 || (s.ent e).pend1 then s
    else s.endOp n o.tag doneOk (o.aux.getD 0 0)

/-- Both sides of an entry apply a word at once, without a frame start. -/
def State.applyNow (s : State) (e w : Nat) : State :=
  ((s.setEnt e { s.ent e with tgt := w }).applySide e 0).applySide e 1

/-- An object leaves Sn: every entry of Sn that names it loses both words and becomes ORPHAN (R408). -/
def State.chartOrphan (s : State) (n o : Nat) : State :=
  s.chart.foldl (fun s x =>
    let e := x.1
    let names := fun w => wordMap w ≠ 0 && (wordSrc w = o || wordDst w = o)
    if s.inRanges n e && (names (s.ent e).wa || names (s.ent e).wb) then
      let s := s.setEnt e { s.ent e with wa := 0, wb := 0, perr := 0 }
      (((s.wr CH_STAT_ORPHAN 1 e).wr CH_STAT_PERR 0 e).wr CH_STAT_PERR_INACT 0 e).applyNow e 0
    else s) s

/-- A Chart range scrubbed: its entries are as after reset; spare words they held stay used (R50, R408). -/
def State.scrubEntry (s : State) (e : Nat) : State :=
  let s := (s.setEnt e { s.ent e with wa := 0, wb := 0, perr := 0 }).applyNow e 0
  let s := [CH_CFG_TIM_EN, CH_CFG_PLM_EN, CH_CFG_DEG_EN, CH_CFG_EXC_EN, CH_CFG_DEGM, CH_CFG_DEGTHR, CH_CFG_EXC_X, CH_STAT_WORD,
    CH_STAT_GFP, CH_STAT_MISFIT, CH_STAT_ORPHAN, CH_STAT_PERR, CH_STAT_PERR_INACT].foldl (fun s f => s.wr f f.reset e) s
  let s := (List.range 4).foldl (fun s k => s.wr CH_EXP_J2 0 e k) s
  { s.setEnt e { ChartEnt.init with spare := (s.ent e).spare } with ovhs := smDel s.ovhs (entryCarrier e) }

end Sys2Proof.Machine
end

