-- ==== Sys2Proof/Machine/ProtectBase.lean ====
section
/-! DEFINITION. Protection groups: the log, the requests and their ranks (Table PSW-4), evaluation (R428-R431), switching
(R432, R433), K bytes (R434-R436) and the disruption meter (R441, R442). -/

namespace Sys2Proof.Machine

open Reg

def groupObj (g : Nat) : Nat := 0x9000 + g

/-! ### Configuration fields -/

def Group.revertive (x : Group) : Bool := x.type = 2 || (leAt x.cfg 2 1).testBit 0
/-- Hold-off in ns. -/
def Group.holdoff (x : Group) : Nat := leAt x.cfg 3 1 * 100000000
/-- WTR in ns. -/
def Group.wtrNs (x : Group) : Nat := leAt x.cfg 4 1 * 60000000000
def Group.meterSrc (x : Group) : Nat := leAt x.cfg 5 1
def Group.pu (x : Group) : Nat := leAt x.cfg 14 2
def Group.guard (x : Group) : Nat := leAt x.cfg 16 2
def Group.linear (x : Group) : Bool := decide (x.type ≤ 2)
def Group.bidir (x : Group) : Bool := x.type = 1 || x.type = 2
/-- ENGINE and OBSERVE groups evaluate; a METER does not. -/
def Group.evaluates (x : Group) : Bool := x.cfg ≠ [] && x.type ≠ 7 && x.mode ≠ 1

/-- A log entry: the newest of 32, with the group's source raised (R444). -/
def State.psLog (s : State) (g time kind v v2 : Nat) : State :=
  let x := s.grp g
  let s := if x.log.length = 32 then s.bump PS_LOG_OVW g else s
  (s.setGrp g { x with log := ((time % 2 ^ 48, kind, v, v2) :: x.log).take 32, logN := x.logN + 1 }).fireFree (576 + g)

/-! ### Requests (Table PSW-4) -/

/-- K1[7:4] of a request. -/
def reqK1 (r : Nat) : Nat :=
  match r with
  | 11 => 15 | 10 => 13 | 9 => 14 | 8 => 13 | 7 => 11 | 6 => 11 | 5 => 8 | 4 => 6 | 3 => 4 | 2 => 2 | 1 => 1
  | _ => 0

/-- The request a far-end K1 spells; `none`: an undefined code. -/
def farReq (k1 : Nat) : Option Nat :=
  match k1 / 16 % 16 with
  | 15 => some 11
  | 14 => some 9
  | 13 => some (if k1 % 16 = 0 then 10 else 8)
  | 11 => some (if k1 % 16 = 0 then 7 else 6)
  | 8 => some 5
  | 6 => some 4
  | 4 => some 3
  | 2 => some 2
  | 1 => some 1
  | 0 => some 0
  | _ => none

/-- The side a local request selects; `cur` is the side selected now. -/
def reqSide (r : Nat) (manualP : Bool) (cur : Nat) : Nat :=
  match r with
  | 9 => 1 | 8 => 1 | 6 => 1 | 4 => 1 | 1 => 1
  | 5 => boolNat manualP
  | 3 => cur
  | _ => 0

/-- The rank of a standing command. -/
def cmdReq (cmd : Nat) : Nat :=
  match cmd with
  | 1 => 11 | 2 => 9 | 3 => 5 | 4 => 5 | 5 => 3
  | _ => 0

/-- SF_W, SD_W, SF_P, SD_P after hold-off. -/
def State.psCrit (s : State) (g : Nat) : Nat :=
  s.rd PS_STAT_SF_W g + 2 * s.rd PS_STAT_SD_W g + 4 * s.rd PS_STAT_SF_P g + 8 * s.rd PS_STAT_SD_P g

/-- The request of the criteria after hold-off, the highest first. -/
def critReq (c : Nat) : Nat :=
  if c.testBit 2 then 10 else if c.testBit 0 then 8 else if c.testBit 3 then 7 else if c.testBit 1 then 6 else 0

/-- The top local request. -/
def Group.localReq (x : Group) (crit : Nat) : Nat :=
  max (max (cmdReq x.cmd) (critReq crit)) (if x.wtr.isSome then 4 else if x.dnr then 1 else 0)

/-- PS_STAT[10:7]. -/
def State.psFails (s : State) (g : Nat) : Nat :=
  s.rd PS_STAT_PSB_FAIL g + 2 * s.rd PS_STAT_CH_MM g + 4 * s.rd PS_STAT_ARCH_MM g + 8 * s.rd PS_STAT_MODE_MM g

/-- The far-end request and the side its channel names: a bidirectional group's only, NR while PSB_FAIL or CH_MM stands,
none under MODE_MM (Table PSW-5). -/
def State.farOf (s : State) (g : Nat) (cur : Nat) : Nat × Nat :=
  let x := s.grp g
  let k1 := s.rd PS_K_K1_RX g
  if x.bidir && !s.flag PS_STAT_PSB_FAIL g && !s.flag PS_STAT_CH_MM g && !s.flag PS_STAT_MODE_MM g then
    match farReq k1 with
    | some r => (r, if r = 3 then cur else boolNat (k1 % 16 ≠ 0))
    | none => (0, 0)
  else (0, 0)

/-! ### Switching (R432) -/

/-- Every consumer of a group's working side now takes the other side: defects judged afresh, points flagged SWITCHED. -/
def State.switchConsumers (s : State) (x : Group) : State :=
  if x.linear then
    match objSlice? x.work with
    | none => s
    | some i =>
      -- the HP layer of the working slice
      let was := (s.ovh i).dcl
      let hp := fun k => decide (0x30 ≤ k ∧ k ≤ 0x37)
      let o := s.ovh i
      let hw := (List.range 256).foldl (fun n k => if hp k then setBitsAt n k 1 0 else n) o.hw
      let s := s.setOvh i { o.restart with hw := hw, acc := (o.acc.filter fun e => !(e.1 = 2 || e.1 = 16)),
                                           latest := (o.latest.filter fun e => !(e.1 = 2 || e.1 = 16)) }
      let s := (List.range 256).foldl (fun s k => if hp k && was.testBit k then s.settleDefect i k 3 else s) s
      let s := s.chart.foldl (fun (s : State) e =>
        if wordMap e.2.use0 ≠ 0 ∧ wordSrc e.2.use0 = x.work then s.clearEntry e.1 else s) s
      s.pmSwitched fun p => s.pmOnSlice p i && !(s.pmCarrier? p = some i && decide (s.rd PM_CFG_SEL p < 3))
  else match s.memberCarrier? x.work x.workOfs with
    | some c => (s.clearEntry (c - 32)).pmSwitched fun p => s.pmCarrier? p = some c
    | none => s

/-- The selector moves (R432): counted in PS_SWITCHES, logged, and applied to the consumers. -/
def State.psSelect (s : State) (g side req : Nat) : State :=
  if s.rd PS_STAT_SEL g = side then s
  else ((((s.wr PS_STAT_SEL side g).bump PS_SWITCHES g).psLog g s.tm.device 3 side req).switchConsumers (s.grp g))

/-! ### K bytes -/

/-- Keys of the K bytes an engine puts into a slice's transmit MS layer, in `Ovh.tx`. -/
def kKey (o : Nat) : Nat := 32 * 256 + o

/-- K1 and K2 go out on the protection slice from the first frame at least 2 us later (R435). -/
def State.sendK (s : State) (g k1 k2 : Nat) : State :=
  if s.rd PS_K_K1_TX g = k1 ∧ s.rd PS_K_K2_TX g = k2 then s
  else
    let s := (s.wr PS_K_K1_TX k1 g).wr PS_K_K2_TX k2 g
    match objSlice? (s.grp g).prot with
    | some i =>
      let o := s.ovh i
      s.setOvh i { o with txPend := o.txPend ++ [(s.clock, kKey 3, some (BitVec.ofNat 8 k1)), (s.clock, kKey 6, some (BitVec.ofNat 8 k2))] }
    | none => s

/-- The K bytes of R434: the signalled request (REVERSE for a higher far-end one) and channel, the channel on the
protection line, the architecture, and the mode. -/
def kBytes (x : Group) (loc locSide far farSide side : Nat) (bridge : Bool) : Nat × Nat :=
  let (r, ch) := if loc < far then (2, farSide) else (loc, if loc = 3 then side else locSide)
  let chan := if x.type = 2 then boolNat bridge else side
  (reqK1 r * 16 + ch, chan * 16 + boolNat (x.type = 2) * 8 + (if x.bidir then 5 else 4))

/-! ### Protocol failures (Table PSW-5) -/

/-- The conditions as they are now. -/
def State.psConds (s : State) (g : Nat) : List Bool :=
  let x := s.grp g
  if x.cfg ≠ [] ∧ x.bidir ∧ x.mode = 0 then
    let k1 := s.rd PS_K_K1_RX g
    let k2 := s.rd PS_K_K2_RX g
    let t1 := s.rd PS_K_K1_TX g
    let t2 := s.rd PS_K_K2_TX g
    [decide (12 ≤ x.kBad) || (farReq k1).isNone, k2 / 16 != t1 % 16, k2.testBit 3 != t2.testBit 3, k2 % 8 == 4]
  else [false, false, false, false]

def State.noteFails (s : State) (g : Nat) : State :=
  let x := s.grp g
  let now := s.psConds g
  let fails := (List.range 4).map fun k =>
    let (b, t) := x.fails.getD k (false, 0)
    if b = now.getD k false then (b, t) else (!b, s.clock)
  s.setGrp g { x with fails := fails }

/-- A received frame of slice `i`: accepted K bytes of the groups it protects (R435, R438). -/
def State.kFrame (s : State) (i : Nat) : State :=
  s.groups.foldl (fun s e =>
    let g := e.1
    let x := s.grp g
    if !(x.evaluates && x.linear && x.prot = sliceObj i) then s
    else
      let o := s.ovh i
      let run := (smGet ([], 0) o.cand 20).2
      let s := s.setGrp g { x with kBad := if 3 ≤ run then 0 else min 12 (x.kBad + 1) }
      let acc := fun item d => match (smGet [] o.acc item).head? with | some (b : Byte) => b.toNat | none => d
      let k1 := acc 20 (s.rd PS_K_K1_RX g)
      let k2 := acc 21 (s.rd PS_K_K2_RX g)
      let s := if k1 = s.rd PS_K_K1_RX g ∧ k2 = s.rd PS_K_K2_RX g then s
        else ((s.wr PS_K_K1_RX k1 g).wr PS_K_K2_RX k2 g).psLog g s.tm.device 1 (k1 + 256 * k2) 0
      s.noteFails g) s

/-! ### Evaluation (R428-R431) -/

/-- The criteria after hold-off as the clock has them (R429); a change is logged. -/
def State.critUpdate (s : State) (g : Nat) : State :=
  let x := s.grp g
  let on := fun k => match x.since.getD k none with | some t => decide (t + x.holdoff ≤ s.clock) | none => false
  let was := s.psCrit g
  let s := (((s.setFlag PS_STAT_SF_W (on 0) g).setFlag PS_STAT_SD_W (on 1) g).setFlag PS_STAT_SF_P (on 2) g).setFlag PS_STAT_SD_P (on 3) g
  if s.psCrit g = was then s else s.psLog g s.tm.device 2 (s.psCrit g) 0

/-- WTR and DNR follow a working criterion that cleared or arose (R430). -/
def Group.waitAfter (x : Group) (was now sel clock far : Nat) : Group :=
  let cleared := (was.testBit 0 && !now.testBit 0) || (was.testBit 1 && !now.testBit 1)
  let arose := (now.testBit 0 && !was.testBit 0) || (now.testBit 1 && !was.testBit 1)
  let higher := decide (4 < max (max (cmdReq x.cmd) (critReq now)) far)
  if arose then { x with wtr := none, dnr := false }
  else if cleared && sel = 1 && !higher then
    (if x.revertive then { x with wtr := some (clock + x.wtrNs) } else { x with dnr := true })
  else x

/-- The side selected now: an observer's is SHADOW (R438). -/
def State.psCur (s : State) (g : Nat) : Nat := if (s.grp g).mode = 2 then s.rd PS_STAT_SHADOW g else s.rd PS_STAT_SEL g

/-- The criteria as the clock has them, with the wait that their change starts or ends. -/
def State.critStep (s : State) (g : Nat) : State :=
  let was := s.psCrit g
  let s := s.critUpdate g
  s.setGrp g ((s.grp g).waitAfter was (s.psCrit g) (s.psCur g) s.clock (s.farOf g (s.psCur g)).1)

/-- One evaluation of an ENGINE or OBSERVE group; a wait ends when working is selected. -/
def State.evalGroup (s : State) (g : Nat) : State :=
  let s := s.critStep g
  let crit := s.psCrit g
  let observe := (s.grp g).mode = 2
  let cur := s.psCur g
  let (far, farSide) := s.farOf g cur
  let x := s.grp g
  let loc := x.localReq crit
  let locSide := reqSide loc (x.cmd = 3) cur
  let top := max loc far
  let side := if far ≤ loc then locSide else farSide
  let x := if side = 0 then { x with wtr := none, dnr := false } else x
  let bridge := x.type ≠ 2 || side = 1
  let s := (s.setGrp g { x with bridge := bridge }).setFlag PS_STAT_WTR_RUN x.wtr.isSome g
  let s := s.wr PS_STAT_REQ top g
  if observe then
    if s.rd PS_STAT_SHADOW g = side then s else (s.wr PS_STAT_SHADOW side g).psLog g s.tm.device 3 side top
  else
    let s := (s.setFlag PS_STAT_BRIDGE bridge g).psSelect g side top
    if x.linear then
      let (k1, k2) := kBytes x loc locSide far farSide side bridge
      (s.sendK g k1 k2).noteFails g
    else s

/-- A PROGRAM group follows USER0 and, in type 2, USER1 on the protection slice's MS layer (R437). -/
def State.evalProgram (s : State) (g : Nat) : State :=
  let x := s.grp g
  match objSlice? x.prot with
  | none => s
  | some i =>
    let bridge := x.type ≠ 2 || s.userOn i 2 0xF1
    let s := (s.setGrp g { x with bridge := bridge }).setFlag PS_STAT_BRIDGE bridge g
    s.psSelect g (boolNat (s.userOn i 2 0xF0)) (s.rd PS_STAT_REQ g)

/-- The slice whose HP layer and above a protection slice's bridge carries (R433). -/
def State.bridgeFrom? (s : State) (i : Nat) : Option Nat :=
  match s.groups.find? fun e => e.2.cfg ≠ [] && e.2.linear && e.2.mode ≠ 2 && e.2.bridge && e.2.prot = sliceObj i with
  | some e => objSlice? e.2.work
  | none => none

/-! ### The meter (R441, R442) -/

/-- The open event ends: KIND 5 when its guard has passed, KIND 6 when the meter is disarmed or the group deleted. -/
def State.meterEnd (s : State) (g kind : Nat) : State :=
  let x := s.grp g
  match x.ev with
  | none => s
  | some (a, z, n) =>
    let dur := min 0xFFFFFFFF (z - a + 1)
    let s := (s.setGrp g { x with ev := none }).wr PS_STAT_OPEN 0 g
    let s := ((s.wr PS_MTR_LAST dur g).wr PS_MTR_MAX (max (s.rd PS_MTR_MAX g) dur) g).bump PS_MTR_EVENTS g
    s.psLog g (1000 * a) kind dur (min 0xFFFFFFFF n)

def State.meterDisarm (s : State) (g : Nat) : State := (s.meterEnd g 6).wr PS_STAT_ARMED 0 g

/-- The enabled meter sources that are disturbed now (Table PSW-6). -/
def State.meterNow (s : State) (g : Nat) : Nat :=
  let x := s.grp g
  let src0 := objClass x.pu = 7 && (s.patChk (objIndex x.pu)) && !s.flag PU_STAT_SYNC (objIndex x.pu)
  let side := if x.type ≠ 7 ∧ s.flag PS_STAT_SEL g then s.memberCarrier? x.prot x.protOfs else s.memberCarrier? x.work x.workOfs
  let src1 := match side with | some c => s.sideSf x.type c | none => true
  let src2 := s.helms.any fun e => e.2.progDef.any fun d =>
    d.2.2 = 0xF2 && d.1 = x.work && (objClass x.work ≠ 3 || d.2.1 = x.workOfs)
  boolNat src0 + 2 * boolNat src1 + 4 * boolNat src2

/-! ### Deletion (R426) -/

/-- The group is deleted: its meter's event is logged and the log cleared, its registers and owner go back; a selector on
protection returns to working at the next Chart frame boundary. -/
def State.deleteGroup (s : State) (g : Nat) : State :=
  let x := s.grp g
  if x.cfg = [] then s
  else
    let s := s.meterDisarm g
    let sel := s.flag PS_STAT_SEL g
    let s := match (if x.linear ∧ x.mode = 0 then objSlice? x.prot else none) with
      | some i =>
        let o := s.ovh i
        s.setOvh i { o with txPend := o.txPend ++ [(s.clock, kKey 3, none), (s.clock, kKey 6, none)] }
      | none => s
    let s := [PS_STAT_REQ, PS_STAT_BRIDGE, PS_STAT_WTR_RUN, PS_STAT_PSB_FAIL, PS_STAT_CH_MM, PS_STAT_ARCH_MM, PS_STAT_MODE_MM,
      PS_STAT_SF_W, PS_STAT_SD_W, PS_STAT_SF_P, PS_STAT_SD_P, PS_STAT_SHADOW, PS_STAT_CONFIGURED, PS_STAT_ARMED, PS_STAT_OPEN, PS_K_K1_TX,
      PS_K_K2_TX, PS_K_K1_RX, PS_K_K2_RX].foldl (fun s f => s.wr f 0 g) s
    let s := { s with own := { s.own with objs := smDel s.own.objs (groupObj g) } }
    (s.setGrp g { Group.init with old := if sel then x.cfg else [] }).rerouteSource (576 + g)

/-- Groups of Sn that use an object as WORK, PROT or PU are deleted (R426). -/
def State.protOrphan (s : State) (n o : Nat) : State :=
  s.groups.foldl (fun s e =>
    let x := s.grp e.1
    if x.cfg ≠ [] ∧ s.ownerOf (groupObj e.1) = n ∧ (x.work = o ∨ x.prot = o ∨ x.pu = o) then s.deleteGroup e.1 else s) s

end Sys2Proof.Machine
end

