-- ==== Sys2Proof/Machine/PowerBase.lean ====
section
/-! DEFINITION. Resets and loss of power (Tables RST-2 and RST-3), the feeds' power figures and the allowance (R571-R574),
the state machine of a bay (R577-R585), and the rebase of device time (R597). -/

namespace Sys2Proof.Machine

open Reg

/-! ### Registers under a reset (R17, R18, R630) -/

/-- The block of a code of `Region.code`. -/
def regionOf (c : Nat) : Region :=
  ([.glob, .sesPf, .ses, .slice, .helm, .entry, .pu, .chute, .pool, .point, .group] : List Region).getD c .kdie

def keyRegion (k : Nat) : Nat := k / 64 / 0x1000000 / 8192
def keyInstance (k : Nat) : Nat := k / 64 / 0x1000000 % 8192
def keyOffset (k : Nat) : Nat := k / 64 % 0x1000000

/-- The field has a copy at this register offset. -/
def Fld.at? (f : Fld) (o : Nat) : Option Nat :=
  if o < f.off then none
  else if f.copies ≤ 1 then (if o = f.off then some 0 else none)
  else if (o - f.off) % f.stride = 0 ∧ (o - f.off) / f.stride < f.copies then some ((o - f.off) / f.stride) else none

/-- The field that a key names. -/
def keyFld? (k : Nat) : Option Fld :=
  (fldsOf (regionOf (keyRegion k)) (keyInstance k)).find? fun f => f.lsb = k % 64 && (f.at? (keyOffset k)).isSome

/-- The register word at offset `o` of a block, as its fields hold it; a WO field reads 0 (Table SCO-5). -/
def State.word (s : State) (r : Region) (i o : Nat) : Nat :=
  (fldsOf r i).foldl (fun w f => match f.at? o with
    | some j => if f.acc = .wo then w else w + s.rd f i j * 2 ^ f.lsb
    | none => w) 0

/-- An event with Survives code `c` reaches the blocks (by code and instance) that `reach` names: their fields that do
not list it take their Reset value (R630). -/
def State.resetRegs (s : State) (c : Nat) (reach : Nat → Nat → Bool) : State :=
  { s with regs := s.regs.filter fun e =>
      !reach (keyRegion e.1) (keyInstance e.1) ||
      (match keyFld? e.1 with | some f => f.survives (c + svFixed) | none => false) }

/-- Every E-die block. -/
def onEDie (r _ : Nat) : Bool := r != 11

/-- Fields that show a pin, a link or a measurement and hold what it is after the reset (R16). -/
def linkFlds : List Fld := [GL_LINK_STAT_SPEED, GL_LINK_STAT_WIDTH, GL_LINK_STAT_LINK]
def bayPins : List Fld := [BY_STAT_SEAT_A, BY_STAT_SEAT_B, BY_STAT_PG, BY_STAT_LOS, BY_STAT_INT]

/-- Fields put back as they were in `t`. -/
def State.keepFlds (s t : State) (l : List Fld) (n : Nat) : State :=
  l.foldl (fun s f => (List.range n).foldl (fun s i => s.wr f (t.rd f 0 i) 0 i) s) s

/-! ### Time across a stop (R597-R599) -/

/-- Device time stops with the E-die (R597). -/
def State.stopTime (s : State) : State :=
  { s with tm := { s.tm with d0 := s.tm.device, k0 := s.tm.keeper, stopped := true, slewLeft := 0, slewAcc := 0 } }

/-- Device time set from keeper time: D0 + (K - K0) x 30 517.578125 ns, to the nanosecond below (R597). -/
def State.rebase (s : State) : State :=
  if s.tm.stopped then
    let dk := (s.tm.keeper + 2 ^ 48 - s.tm.k0) % 2 ^ 48
    { s with tm := { s.tm with device := (s.tm.d0 + dk * 1953125 / 64) % 2 ^ 64, stopped := false } }
  else s

/-! ### The E-die's own state lost -/

/-- Every operation, record, program, Chart word in effect, group, Chute, PM bin, unit, front end and route of the E-die
is gone: what Table RST-3 says of warm, cold, Stow, Moor and POR-K alike. -/
def State.coreLost (s : State) : State :=
  let shared := s.caps.foldl (fun l k => l ++ List.replicate (k.holds true) (k.store, s.inUs (if k.store = 0 then 2 else 16))) []
  { s with
    ops := [], helms := [], ovhs := [], chart := [], groups := [], chutes := [], caps := [], crateScrub := shared,
    pm := [], pats := [], lines := [], hiLatch := [],
    host := { s.host with staging := [], reads := [] },
    own := { s.own with scrubs := [], mapCache := [], invPending := false },
    beacon := { s.beacon with sources := [], vbase := [], last := [], vec := [] } }

/-- User sessions' Calendar entries are erased (R606). -/
def State.eraseCalendar (s : State) (p : Nat → Bool) : State :=
  let s := { s with keep := { s.keep with held := s.keep.held.filter fun h => !p (h.1 / 4) } }
  (List.range 64).foldl (fun s e => if p (e / 4) then
    ((((s.wr KP_CAL_TIME_LO 0 0 e).wr KP_CAL_TIME_HI 0 0 e).wr KP_CAL_VALID 0 0 e).wr KP_CAL_ACTION 0 0 e).wr KP_CAL_K 0 0 e
    else s) s

/-- Everything is S0's again; `bg` are the pages to be scrubbed in the background. -/
def OwnSt.clear (o : OwnSt) (bg : List Nat) : OwnSt :=
  { o with objs := [], ranges := [], pages := [], watches := [], bgPages := bg }

/-- The Keeper and Compass as the E-die starts: 200 MHz at its start voltage (Tables KPR-7, RST-5). -/
def State.compassStart (s : State) : State :=
  let s := s.wr CP_STAT_VDD 6
  { s with keep := { s.keep with raise := none, avsAt := none, avsTries := 0, acked := 6, avsRetry := none, cap := none,
                                 throttling := false, coolSince := none, hiRun := 0, entry := none, wake := none,
                                 holdUntil := none } }

/-- The state of domain `d` (Table KPR-4): CORE, HELM0-HELM3, HSQ0, HSQ1, LIU. -/
def State.dom (s : State) (d : Nat) : Nat := bitsAt (s.rd KP_DOM) (2 * d) 2

/-- Domain `d` goes to a state; entries into Doze and Nap are counted (counters 232 and 233). KP_PWR_STAT.EDIE shows the
state of CORE. -/
def State.setDom (s : State) (d x : Nat) : State :=
  if s.dom d = x then s
  else
    let s := s.wr KP_DOM (setBitsAt (s.rd KP_DOM) (2 * d) 2 x)
    let s := if d = 0 ∧ s.rd KP_PWR_STAT_EDIE ≤ 2 then s.wr KP_PWR_STAT_EDIE x else s
    if x = 0 then s else s.count (231 + x)

/-- Domain `d` is back in Run. A Helm cluster takes its clock from SYSPLL: CORE is never deeper (R608). -/
def State.domRun (s : State) (d : Nat) : State :=
  let s := if 1 ≤ d ∧ d ≤ 4 then s.setDom 0 0 else s
  s.setDom d 0

/-- Stow entry is abandoned and rolled back: the image is invalid and admission goes on (R615). -/
def State.stowAbort (s : State) : State :=
  if s.rd KP_PWR_STAT_EDIE == 6 then
    let s := ((s.bump KP_PWR_STAT_ABORTS).count 236).wr KP_PWR_STAT_EDIE 0
    { s with keep := { s.keep with entry := none, abort := false }, boot := { s.boot with attic := 0 } }
  else s

/-- A warm reset (R627): GL_RST_CAUSE will read `cause` when Unlon is ready. -/
def State.warmReset (s : State) (cause : Nat) : State :=
  let t := s
  let held := ((s.own.pages.filter fun e => e.2 ≠ 0).map (·.1)) ++ (s.own.scrubs.map (·.pages)).flatten
  let bg := held.foldl (fun l p => if l.contains p then l else l ++ [p]) s.own.bgPages
  let s := (s.coreLost.resetRegs svWM onEDie).keepFlds t linkFlds 1
  let s := { s with sessions := [], own := s.own.clear bg }
  let s := (s.eraseCalendar (fun n => n != 0)).wr KP_DOM 0
  let s := (s.stowAbort.wr KP_PWR_STAT_EDIE 0).wr KP_TETHER_UP 0
  let s := s.compassStart
  { s with boot := { s.boot with phase := 2, since := s.clock, cause := cause, lostAt := none },
           host := { s.host with fns := s.host.fns.map fun e => (e.1, { e.2 with flr := none }) },
           health := { s.health with dump := none } }

/-- What the host's own resets add (R114, R115): PF0's configuration space returns to defaults, VF Enable to 0. -/
def State.configReset (s : State) : State :=
  { s with host := { s.host with vfEnable := false, numVFs := 0, ari := false, d3hot := false, pmeEn := false, fns := [],
                                 aspmL1 := false } }

/-! ### Paths and power (chapter 18) -/

/-- Position of feed f (0 LINE, 1 DOCK, 2 PACK) in FD_PATH. -/
def State.feedPos (s : State) (f : Nat) : Nat :=
  if f = 0 then s.rd FD_PATH_LINE else if f = 1 then s.rd FD_PATH_DOCK else s.rd FD_PATH_PACK

def State.feedValid (s : State) (f : Nat) : Bool := (s.rd FD_STAT_VALID).testBit f

/-- The feed may be selected: valid, and not PACK while cutoff has removed it (Table FDB-2). -/
def State.feedUsable (s : State) (f : Nat) : Bool := s.feedValid f && !(f = 2 && s.feed.packOut)

/-- Usable members of the OR group. -/
def State.orMembers (s : State) : List Nat := [0, 1, 2].filter fun f => s.feedPos f = 0 && s.feedUsable f

/-- The path that should feed SYS (R557): 1 the OR group, 2 + f a priority feed, 0: none is valid. -/
def State.wantedPath (s : State) : Nat :=
  if s.orMembers ≠ [] then 1
  else match [1, 2, 3].filterMap (fun p => [0, 1, 2].find? fun f => s.feedPos f = p && s.feedUsable f) with
    | f :: _ => 2 + f
    | [] => 0

/-- A feed's voltage as the Sounding ADC averages it, in µV (Table SND-4). -/
def State.feedUv (s : State) (f : Nat) : Nat := s.rd KP_ADC_RAW 0 (2 * f) * (if f = 2 then 2500 else 6000)

/-- A feed's power figure (Table FDB-1); what PD_LIMIT_MW holds above the granted power acts as the granted power
(R568). -/
def State.figure (s : State) (f : Nat) : Nat :=
  if f = 0 then
    if s.rd FD_POE_STATE = 2 then
      let pd := s.rd FD_POE_PD_MW
      min (pd * clamp 50 100 (s.rd FD_BASE_LINE_EFF) / 100) (min pd (s.rd FD_POE_CFG_PD_LIMIT_MW))
    else 0
  else if f = 1 then s.rd FD_LIM_DOCK_LIMIT
  else if s.flag FD_STAT_PACK_LOW then s.rd FD_PACK_LOW_MW else s.rd FD_LIM_PACK_LIMIT

/-- The valid OR member with the highest voltage. -/
def State.orTop? (s : State) : Option Nat :=
  s.orMembers.foldl (fun b f => match b with
    | none => some f
    | some g => if s.feedUv g < s.feedUv f then some f else b) none

/-- The OR group's figure: its highest member's, or the lower of two within 0.5 V (R571). -/
def State.orFigure (s : State) : Nat :=
  match s.orTop? with
  | none => 0
  | some g => (s.orMembers.filter fun f => decide (s.feedUv g ≤ s.feedUv f + 500000)).foldl
      (fun m f => min m (s.figure f)) (s.figure g)

/-- PACK is the only valid feed. -/
def State.packAlone (s : State) : Bool := !s.feedValid 0 && !s.feedValid 1

/-- The available power (R571); through a dead time it stays what it was. -/
def State.availMw (s : State) : Nat :=
  if s.flag FD_STAT_CUTOFF && s.packAlone then 0
  else if s.feed.dead.isSome then s.rd FD_AVAIL_MW
  else if s.feed.path = 0 then 0
  else if s.feed.path = 1 then s.orFigure
  else s.figure (s.feed.path - 2)

/-- The feed that carries SYS (FD_STAT.SYS_PATH): on a path that has no valid feed, the last one. -/
def State.sysPath (s : State) : Nat :=
  if s.feed.dead.isSome ∨ s.feed.path = 0 then 0
  else if s.feed.path = 1 then (match s.orTop? with | some f => f + 1 | none => s.rd FD_STAT_SYS_PATH)
  else s.feed.path - 1

def State.feedStat (s : State) : Nat :=
  s.rd FD_STAT_VALID + s.rd FD_STAT_SYS_PATH * 8 + s.rd FD_STAT_PACK_LOW * 32 + s.rd FD_STAT_CUTOFF * 64 +
    s.rd FD_STAT_OVERDRAW * 128

/-- FEED fires with FD_STAT (Table FDB-8). -/
def State.feedFire (s : State) (cause : Nat) : State :=
  let s := s.wr FD_STAT_SYS_PATH s.sysPath
  s.kfire 0 cause s.feedStat

/-- Budget of a bay (R572). -/
def State.bayBudget (s : State) (b : Nat) : Nat :=
  let x := s.rd BY_CFG_BUDGET_MW 0 b
  if s.flag BY_CFG_AUTO_BUDGET 0 b then max x (s.rd BY_HEAD_DECL_MW 0 b) else x

def State.bayState (s : State) (b : Nat) : Nat := s.rd BY_STAT_STATE 0 b

def State.bay (s : State) (b : Nat) : Bay := smGet Bay.init s.bays b

def State.setBay (s : State) (b : Nat) (x : Bay) : State := { s with bays := smSet Bay.init s.bays b x }

/-- The bays whose budget counts. -/
def State.poweredBays (s : State) : List Nat := [0, 1, 2, 3].filter fun b => s.bayState b = 4 || s.bayState b = 5

def State.bayBudgets (s : State) : Nat := s.poweredBays.foldl (fun k b => k + s.bayBudget b) 0

/-- The allowance as its inputs stand (R572). -/
def State.allowNow (s : State) : Nat := s.availMw - s.rd FD_BASE_BASE_MW - s.bayBudgets

/-- What the E-die has committed (Table FDB-11). -/
def State.committed (s : State) : Nat := s.reserves + s.charged 0

/-- Deficit (R574), by the allowance the E-die admits by. -/
def State.deficit (s : State) : Bool := decide (s.allowance < s.committed)

/-- A change of path is due (R557, R559): a changeover starts, break before make, and FEED fires with `cause` beside
CHANGEOVER. When no feed is valid the last path stays under ideal-diode control. -/
def State.pathScan (s : State) (cause : Nat) : State :=
  let w := s.wantedPath
  let going := (match s.feed.dead with | some (p, _) => p | none => s.feed.path)
  if w = 0 ∨ w = going then (if cause = 0 then s.wr FD_STAT_SYS_PATH s.sysPath else s.feedFire cause)
  else if s.feed.path = 0 ∧ s.feed.dead = none then
    ({ s with feed := { s.feed with path := w } } : State).feedFire cause
  else
    ({ s with feed := { s.feed with path := 0, dead := some (w, s.clock + 18000) } } : State).feedFire (Nat.lor cause 8)

/-- The shortage that BAY_SHED counts from (R575). -/
def State.shortScan (s : State) : State :=
  if s.availMw < s.rd FD_BASE_BASE_MW + s.bayBudgets then
    (if s.feed.shortAt.isSome then s else { s with feed := { s.feed with shortAt := some s.clock } })
  else { s with feed := { s.feed with shortAt := none } }

/-! ### Bays -/

def State.bayIlim (s : State) (b : Nat) : Nat := clamp 10 40 (s.rd BY_CFG_ILIM 0 b)
def State.bayWindow (s : State) (b : Nat) : Bool := s.flag BY_CFG_MODE 0 b
def State.baySeated (s : State) (b : Nat) : Bool := s.flag BY_STAT_SEAT_A 0 b && s.flag BY_STAT_SEAT_B 0 b
def State.bayLimit (s : State) (b : Nat) : Nat := max 1 (s.rd BY_TIME_FLT_LIMIT 0 b)

/-- Ramp time of a soft start, in ns: 3.3 V divided by the slew (Table FDB-6). -/
def bayRampNs (slew : Nat) : Nat := 33000000 / clamp 1 33 slew

/-- R581: the budget fits the allowance, and the sum of ILIM stays within 5.0 A. -/
def State.bayMayStart (s : State) (b : Nat) : Bool :=
  decide (s.bayBudget b ≤ s.allowNow) &&
  decide (s.poweredBays.foldl (fun k c => k + s.bayIlim c) 0 + s.bayIlim b ≤ 100)

/-- BAYb fires with its state, last fault and count as DATA (Table FDB-8). -/
def State.bayFire (s : State) (b cause : Nat) : State :=
  s.kfire (8 + b) cause (s.bayState b + s.rd BY_STAT_LAST_FAULT 0 b * 16 + s.rd BY_STAT_COUNT 0 b * 256)

/-- The slices of a bay's map (R577). -/
def State.baySlices (s : State) (b : Nat) : List Nat :=
  ((List.range 8).filter fun i => s.maskBit BY_MAP_HS i 0 b) ++
  ((List.range 16).filter fun i => s.maskBit BY_MAP_LP i 0 b).map (· + 8)

/-- The bay that serves a slice. -/
def State.bayOf? (s : State) (i : Nat) : Option Nat := [0, 1, 2, 3].find? fun b => (s.baySlices b).contains i

/-- The HS slices of a bay that is not ON have their signal absent (R286, R577). -/
def State.bayDark (s : State) (b : Nat) : State :=
  if s.eDieOn then ((s.baySlices b).filter (· < 8)).foldl (fun s i => s.signalLost i) s else s

/-- A bay takes state `st`, its timers stopped, and fires with `cause` beside "state change"; the e-fuse is off in every
state but STARTING and ON. The head's identity is forgotten when the bay leaves ON. -/
def State.bayMove (s : State) (b st cause : Nat) : State :=
  let was := s.bayState b
  let x := s.bay b
  let s := s.setBay b { x with seatAt := none, retryAt := none, onAt := none, idFrom := none,
                               mem := if was = 5 ∧ st ≠ 5 then [] else x.mem, pulled := false }
  let s := s.wr BY_STAT_STATE st 0 b
  let s := if was = 5 ∧ st ≠ 5 then
      (((s.wr BY_STAT_PG 0 0 b).wr BY_HEAD_KIND 0 0 b).wr BY_HEAD_STATUS 0 0 b).wr BY_HEAD_DECL_MW 0 0 b |>.bayDark b
    else s
  (s.bayFire b (Nat.lor 1 cause)).shortScan

/-- The bay starts: the soft start begins with the SLEW of now (R585). -/
def State.bayStart (s : State) (b : Nat) : State :=
  let s := s.bayMove b 4 0
  s.setBay b { s.bay b with startAt := s.clock, slew := s.rd BY_CFG_SLEW 0 b }

/-- SEATING completes: STARTING when R581 allows, else DENIED (Table FDB-5). -/
def State.bayTry (s : State) (b : Nat) : State :=
  if s.bayMayStart b then s.bayStart b else s.bayMove b 3 16

/-- DENIED bays are tried again, lowest first, at each allowance change and each change of another bay's state. -/
def State.deniedScan (s : State) : State :=
  [0, 1, 2, 3].foldl (fun s b => if s.bayState b = 3 && s.bayMayStart b then s.bayStart b else s) s

/-- SEATING begins: the debounce or the insertion delay runs. -/
def State.baySeating (s : State) (b : Nat) : State :=
  let s := s.bayMove b 2 0
  let d := if s.bayWindow b then clamp 1 100 (s.rd BY_TIME_INS_DELAY 0 b) * 10000000 else 4900000
  s.setBay b { s.bay b with seatAt := some (s.clock + d) }

/-- OFF on BAY_CMD ON (Table FDB-5). -/
def State.bayEnable (s : State) (b : Nat) : State :=
  if s.bayWindow b || s.baySeated b then s.baySeating b else s.bayMove b 1 0

/-- The e-fuse goes off and the bay is OFF. -/
def State.bayOffNow (s : State) (b : Nat) : State := if s.bayState b = 0 then s else s.bayMove b 0 0

/-- Retry wait after the k-th consecutive fault in 0.25 s units: RETRY x 2^(k-1), at most 64 s (R582). -/
def bayRetry (retry k : Nat) : Nat := min 256 (clamp 1 256 retry * 2 ^ (k - 1))

/-- A fault in STARTING or ON (R580, R582). -/
def State.bayFault (s : State) (b code : Nat) : State :=
  let k := min 15 (s.rd BY_STAT_COUNT 0 b + 1)
  let s := (s.wr BY_STAT_COUNT k 0 b).wr BY_STAT_LAST_FAULT code 0 b
  if s.bayLimit b ≤ k then (s.bayMove b 7 6).deniedScan
  else
    let q := bayRetry (s.rd BY_TIME_RETRY 0 b) k
    let s := s.bayMove b 6 2
    (s.setBay b { s.bay b with retryAt := some (s.clock + q * 245000000) }).deniedScan

/-- An action of BAY_CMD or BY_CMD on a bay (Table FDB-5): 0 ON, 1 OFF, 2 CLEAR, 3 RESTART. -/
def State.bayCmd (s : State) (b action : Nat) : State :=
  let st := s.bayState b
  match action with
  | 0 => if st = 0 then (s.bayEnable b).deniedScan else s
  | 1 => (s.bayOffNow b).deniedScan
  | 2 =>
    let s := s.wr BY_STAT_COUNT 0 0 b
    if st = 6 ∨ st = 7 then (s.bayEnable b).deniedScan else s
  | 3 => if st = 0 then s else (s.bayEnable b).deniedScan
  | _ => s

/-- The allowance is recomputed and reported (R573); each change, and each entry to and exit from deficit, fires
ALLOWANCE, with `extra` causes beside (Table FDB-8). -/
def State.allowUpdate (s : State) (extra : Nat) : State :=
  let a := s.allowNow
  let old := s.rd FD_ALLOW_MW
  let d0 := s.flag FD_ADMIT_DEFICIT
  let s := (s.wr FD_AVAIL_MW s.availMw).wr FD_ALLOW_MW a
  let s := if s.eDieOn && s.flag KP_TETHER_UP then { s with power := { s.power with reported := a } } else s
  let s := if s.eDieOn then (s.wr FD_ADMIT_COMMITTED_MW s.committed).setFlag FD_ADMIT_DEFICIT s.deficit else s
  let d1 := s.flag FD_ADMIT_DEFICIT
  let cause := Nat.lor extra (boolNat (old < a) + 2 * boolNat (a < old) + 4 * boolNat (!d0 && d1) + 8 * boolNat (d0 && !d1))
  let s := if cause = 0 then s else s.kfire 1 cause a
  s.deniedScan.shortScan

/-! ### Losing power -/

/-- The E-die loses its power while the K-die stays up: after Stow (3) or Moor (4) entry, or when cutoff or heat turns
it off. Registers that list the state's code are the Attic's to restore; the rest take their Reset values (R630). -/
def State.coreOff (s : State) (st : Nat) : State :=
  let c := if st = 3 then svST else svMR
  let s := (if s.tm.stopped then s else s.stopTime).coreLost.resetRegs c onEDie
  let s := ((s.wr KP_PWR_STAT_EDIE st).wr KP_DOM 0).wr KP_TETHER_UP 0
  let s := { s with cnt := [], coreAcc := 0, mem := { s.mem with larder := [], bad := if st = 3 then s.mem.bad.filter (fun w => decide (0x100000 ≤ w)) else [] },
                    own := { s.own with watches := [] },
                    keep := { s.keep with tcxo := false, entry := none, holdUntil := none, raise := none, avsAt := none },
                    health := { s.health with dump := none } }
  let s := s.wr GL_LINK_STAT_LINK 0
  if st = 3 then s
  else { s with mem := { s.mem with cellar := [], undef := [] }, own := { s.own with swept := 0 } }

/-- The power failure of R555, and the last disconnect of R565: bays and rails off, the device in Off. Nothing is kept;
the next valid feed brings a POR-K. -/
def State.goOff (s : State) : State :=
  let s := [0, 1, 2, 3].foldl (fun s b => s.bayOffNow b) s
  let s := s.coreOff 4
  let s := ((s.wr KP_PWR_STAT_EDIE 5).wr FD_STAT_VALID 0).wr FD_STAT_SYS_PATH 0
  { s with feed := { s.feed with path := 0, dead := none, grace := none, moorHold := false },
           boot := { s.boot with phase := 0, attic := 0 } }

/-- A cold reset (R629): GL_RST_CAUSE will read `cause`. The K-die's settings that do not list CD return to their
defaults, which may cause a changeover; bays and their settings stay. -/
def State.coldReset (s : State) (cause : Nat) : State :=
  let t := s
  let s := s.rebase.coreLost.resetRegs svCD (fun _ _ => true)
  let s := (s.keepFlds t bayPins 4).keepFlds t [KP_ADC_RAW, KP_ADC_VALID] 16
  let s := (s.eraseCalendar (fun n => n != 0)).wr KP_PWR_STAT_EDIE 7
  let s := s.compassStart.configReset
  let s := { s with sessions := [], own := { s.own.clear [] with swept := 0 }, cnt := [], coreAcc := 0,
                    mem := { larder := [], cellar := [], bad := [], undef := [] },
                    keep := { s.keep with tcxo := true, coldNext := false },
                    boot := { s.boot with phase := 1, since := s.clock, cause := cause, attic := 0, railRetry := none, railFails := 0, railAt := s.clock,
                                          lostAt := none },
                    health := { s.health with dump := none } }
  s.pathScan 0 |>.shortScan

end Sys2Proof.Machine
end

