-- ==== Sys2Proof/Machine/Perf.lean ====
section
/-! DEFINITION. The commands of performance monitoring (chapter 14): SOAK, PM_READ, PM_RESET with its attachments, the
judgement of a second, the boundaries, and the end of a duration. -/

namespace Sys2Proof.Machine

open Reg

/-! ### SOAK (R471-R473) -/

/-- The default entity of a slice (R472): its layer code. -/
def soakLayer (fmt : Nat) : Nat :=
  match familyOf fmt with
  | .sdh => 3 | .otn => 5 | .pdh => 7 | .pcs => 8 | _ => 0

/-- Seconds a SOAK has run: `aux` holds the nanoseconds run before, and the clock since which it runs. -/
def State.soakSecs (s : State) (o : Op) : Nat :=
  (o.aux.getD 0 0 + (if o.active then s.clock - o.aux.getD 1 s.clock else 0)) / 1000000000

/-- SOAK: its points open their gates, detached ones are attached to the slice's default entity, current intervals close
SHORT at the next second (R463), and with a Chute the consumer role is taken. -/
def execSoak (n : Fin 16) (tag : Nat) (s : State) : Res :=
  .next (s.runOp n tag 0x20 (fun o => o.stage = 0) fun o s =>
    let c := objIndex (o.par 2)
    let sel := match objSlice? o.obj with | some i => soakLayer (s.rd LINE_STAT_FORMAT i) | none => 0
    let loose := (soakPoints o).filter fun p => !s.flag PM_CFG_ATTACHED p
    match (loose.map fun p => s.pmAttachCheck n p o.obj sel).find? fun r => r ≠ doneOk with
    | some r => s.endOp n tag r (if r = eBadRecord then 4 else 0)
    | none =>
      if o.par 2 ≠ 0 ∧ (s.chute c).consumer ≠ 0 then s.endOp n tag eBusy 0
      else
        let s := s.pmScan
        let s := s.modOp n tag fun o =>
          { o with stage := 1, aux := [0, s.clock], due := if o.par 0 = 0 then none else some (s.clock + o.par 0 * 1000000000) }
        let s := loose.foldl (fun s p => s.pmAttach p o.obj sel) s
        let s := (soakPoints o).foldl (fun s p => s.setPt p { (s.pt p).shortMark s.sec with soak := some (n, tag) }) s
        if o.par 2 = 0 then s else s.startCap (newCap o c (o.par 3) 0 0 (o.par 5) (o.par 6) 0 (o.par 7)) 2)

/-- DURATION_EXPIRY: a SOAK's or a PATTERN's duration has passed (R499, R387). `bits` and `errs` are what a PATTERN's checker
compared since its counts were last brought up to date. -/
def execDurationExpiry (n : Fin 16) (tag bits errs : Nat) (s : State) : Res :=
  match s.op? n tag with
  | none => .next s
  | some o =>
    if !(o.live && s.isDue o.due && s.capRuns n tag) then .next s
    else if o.opcode = 0x20 then
      let secs := s.soakSecs o
      let s := (s.soakEnd o false).modOp n tag fun o => { o with due := none }
      .next (s.capEnd n tag doneOk (some secs))
    else if o.opcode = 0x22 then
      let u := objIndex o.obj
      let s := s.patCount u bits errs
      let (st, r) := s.patResult o
      .next ((s.patRelease u (patSides (o.par 2))).endOp n tag st r)
    else .next s

/-! ### PM_READ and PM_RESET (R467-R469) -/

/-- PM_READ: header and records from one instant (R468). -/
def execPmRead (n : Fin 16) (tag : Nat) (s : State) : Res :=
  .next (s.runOp n tag 0x28 (fun _ => true) fun o s =>
    match s.pmRecords (objIndex o.obj) (o.par 0) with
    | none => s.endOp n tag eBadRecord 4
    | some l => s.endWithData n tag (s.pmHeader (objIndex o.obj) ++ l) (o.par 1))

/-- Pending seconds of a bin are never committed to it. -/
def PmPt.forget (x : PmPt) (serial : Nat) : PmPt :=
  let f := fun (q : PendSec) => { q with s15 := if q.s15 = serial then 0 else q.s15, s24 := if q.s24 = serial then 0 else q.s24 }
  { x with ne := { x.ne with pend := x.ne.pend.map f }, fe := { x.fe with pend := x.fe.pend.map f } }

/-- A bin cleared: counts 0, RESET set, START kept (R469). -/
def Bin.clear (b : Bin) : Bin := { b with secs := 0, near := .zero, far := .zero, flags := Nat.lor b.flags flagReset }

/-- The bins of a PM_RESET selector cleared. -/
def PmPt.reset (x : PmPt) (sel : Nat) : PmPt :=
  let x := match x.cur15 with
    | some b => if sel = 0 ∨ sel = 0xFF then { x.forget b.serial with cur15 := some b.clear } else x
    | none => x
  let x := match x.cur24 with
    | some b => if sel = 64 ∨ sel = 0xFF then { x.forget b.serial with cur24 := some b.clear } else x
    | none => x
  if sel = 0xFF then
    let x := (x.recent ++ x.prev24.toList).foldl (fun x b => x.forget b.serial) x
    { x with recent := [], prev24 := none, finals := [] }
  else x

/-- PM_RESET of bins (R469). -/
def execPmReset (n : Fin 16) (tag : Nat) (s : State) : Res :=
  .next (s.runOp n tag 0x29 (fun o => o.par 0 ≠ 0x80 && o.par 0 ≠ 0x81) fun o s =>
    let p := objIndex o.obj
    if o.par 0 = 0 ∨ o.par 0 = 64 ∨ o.par 0 = 0xFF then (s.setPt p ((s.pt p).reset (o.par 0))).endOp n tag doneOk 0
    else s.endOp n tag eBadRecord 4)

/-- PM_RESET ATTACH (R449, Table PM-5). -/
def execAttach (n : Fin 16) (tag : Nat) (s : State) : Res :=
  .next (s.runOp n tag 0x29 (fun o => o.par 0 = 0x80) fun o s =>
    let p := objIndex o.obj
    let src := o.par 1 % 65536
    let sel := bitsAt (o.par 1) 16 8
    if 2 ^ 24 ≤ o.par 1 ∨ 64 ≤ o.par 2 ∨ 2 ^ 20 ≤ o.par 3 then s.endOp n tag eBadRecord 4
    else
      let r := s.pmAttachCheck n p src sel
      if r ≠ doneOk then s.endOp n tag r (if r = eBadRecord then 4 else 0)
      else
        let s := ((s.wr PM_CFG_ITEM (bitsAt (o.par 2) 0 4) p).wr PM_CFG_PROFILE (bitsAt (o.par 2) 4 1) p).wr PM_CFG_FREE
          (bitsAt (o.par 2) 5 1) p
        ((s.wr PM_THR_SES_THR (o.par 3) p).pmAttach p src sel).endOp n tag doneOk 0)

/-- PM_RESET DETACH: the point's Reset values (Table PM-5). -/
def execDetach (n : Fin 16) (tag : Nat) (s : State) : Res :=
  .next (s.runOp n tag 0x29 (fun o => o.par 0 = 0x81) fun o s => (s.pmReset (objIndex o.obj)).endOp n tag doneOk 0)

/-! ### Seconds and intervals -/

/-- PM_SECOND_JUDGEMENT: the past second of a point is suspended, missing or classified (R453), and a classified one judged at
each end (R455, R456). `eb` and `feb` are the errored blocks of the near and of the far end in it. -/
def execPmSecondJudgement (p : Fin 2048) (eb feb : Nat) (s : State) : Res :=
  let x := s.pt p
  if !x.ready then .next s
  else
    let ser := x.serialsAt ((s.sec - 1) * 1000000000)
    let x := { x with ready := false }
    if x.closedLast then .next (s.setPt p (x.noteSecond ser flagSuspended))
    else if x.absentLast then .next (s.setPt p (x.noteSecond ser flagMissing))
    else
      let thr := s.pmThr p
      let nearDef := s.pmNearDef p
      let (far, fmt) := s.pmFar p
      let second := fun (n : Nat) (d : Bool) =>
        let ses := d || (match thr with | some t => decide (t ≤ n) | none => false)
        ({ s15 := ser.1, s24 := ser.2, eb := n, es := ses || decide (1 ≤ n), ses := ses } : PendSec)
      let near := second (if thr.isNone then 0 else eb) nearDef
      let x := (x.noteSecond ser 0).judge false near
      let x := if far = 0 ∨ nearDef then x else x.judge true (second (if farCounts far fmt then feb else 0) (s.pmFarDef p))
      .next (s.setPt p x)

/-- The latest 15-minute boundary at or before device time `t` (R462). -/
def pmBoundary (align t : Nat) : Nat :=
  let o := align % 900000000000
  if t < o then 0 else o + (t - o) / 900000000000 * 900000000000

/-- INTERVAL_BOUNDARY: the bins of every point roll, the 24-hour ones at every 96th boundary (R462). -/
def execIntervalBoundary (s : State) : Res :=
  let align := s.rd PM_ALIGN
  let b := pmBoundary align s.tm.device
  if b ≤ s.pmRolled then .next s
  else
    let day := b % 86400000000000 = align % 86400000000000
    let s := s.pm.foldl (fun s e =>
      let x := s.pt e.1
      let x := match x.cur15 with | some c => if c.start < b then x.roll15 b s.clock true else x | none => x
      let x := match x.cur24 with | some c => if day ∧ c.start < b then x.roll24 b else x | none => x
      s.setPt e.1 { x with short15 := none, short24 := if day then none else x.short24 }) s
    .next { s with pmRolled := b }

/-- BIN_FINAL: 10 s after it closed, a bin is final; after a boundary the PM source of the point's owner is raised (R460), and
the SOAK that stores the point pushes its record (R473). -/
def execBinFinal (p : Fin 2048) (s : State) : Res :=
  let x := s.pt p
  match x.finals with
  | (t, serial, boundary) :: r =>
    if s.clock < t then .next s
    else
      let s := s.setPt p { x with finals := r }
      let s := if boundary then s.fireFree (656 + s.ownerOf (pmObj p)) else s
      match x.soak.bind (fun k => s.op? k.1 k.2), x.recent.find? fun b => b.serial = serial with
      | some o, some b =>
        if o.par 2 = 0 then .next s
        else
          let c := objIndex (o.par 2)
          let q := prodSoak o.sess o.tag
          let l := leBytes 8 (pmObj p) ++ binRecord x true (some b)
          let s := (List.range 9).foldl (fun (s : State) i => s.chutePush c q (leAt l (8 * i) 8)) s
          .next (s.chuteCommit c q)
      | _, _ => .next s
  | [] => .next s

/-- INTERVAL_SHORT_CLOSE: at the second after a SOAK started or ended, or PM_ALIGN was written, the current intervals close
SHORT (R463, R464). -/
def execIntervalShortClose (p : Fin 2048) (s : State) : Res :=
  let x := s.pt p
  let x := match x.short15 with
    | some k => if k < s.sec then { x.roll15 ((k + 1) * 1000000000) s.clock false with short15 := none } else x
    | none => x
  let x := match x.short24 with
    | some k => if k < s.sec then { x.roll24 ((k + 1) * 1000000000) with short24 := none } else x
    | none => x
  .next (s.setPt p x)

end Sys2Proof.Machine
end

