-- ==== Sys2Proof/Machine/Overhead.lean ====
section
/-! DEFINITION. The overhead processor (chapter 11): acceptance and hardware detection in a received frame (R370-R373),
frame events (R358), timers, seconds and windows (R371, R374, R375), and the transmitted overhead (R368). -/

namespace Sys2Proof.Machine

open Reg

/-! ### Detection -/

/-- A defect that is declared after `n` observations in a row of `set` and cleared after `k` in a row of `clr`. Nothing is
counted while a server signal fail holds it (R376). -/
def State.persist (s : State) (c code : Nat) (set clr : Bool) (n k : Nat) : State :=
  let o := s.ovh c
  if !ssfExempt code && s.ssf c (s.codeLayer c code) then
    s.setOvh c { o with runs := smSet 0 (smSet 0 o.runs (2 * code) 0) (2 * code + 1) 0 }
  else
    let a := if set then smGet 0 o.runs (2 * code) + 1 else 0
    let b := if clr then smGet 0 o.runs (2 * code + 1) + 1 else 0
    let s := s.setOvh c { o with runs := smSet 0 (smSet 0 o.runs (2 * code) (min a 4095)) (2 * code + 1) (min b 4095) }
    if n ≤ a then s.hwDefect c code true else if k ≤ b then s.hwDefect c code false else s

/-- A condition seen in `n` frames in a row, and not seen in `n` in a row. -/
def State.persist1 (s : State) (c code n : Nat) (cond : Bool) : State := s.persist c code cond (!cond) n n

/-- A value becomes accepted after `n` consecutive equal arrivals (R372); the latest changes at once. -/
def State.acceptVal (s : State) (c item n : Nat) (v : List Byte) : State :=
  let o := s.ovh c
  let (w, k) := smGet ([], 0) o.cand item
  let k := if w = v then min 255 (k + 1) else 1
  let o := { o with latest := smSet [] o.latest item v, cand := smSet ([], 0) o.cand item (v, k) }
  let o := if decide (n ≤ k) && decide (item ≤ 6) && smGet [] o.acc item != v then { o with trcAt := s.tm.device } else o
  s.setOvh c (if n ≤ k then { o with acc := smSet [] o.acc item v } else o)

/-- A trace arrives: 3 in a row; a 16-byte one with a bad CRC-7 restarts the count (R372). -/
def State.acceptTrace (s : State) (c item : Nat) (v : List Byte) (crcOk : Bool) : State :=
  if v.length = 16 ∧ !crcOk then
    let o := s.ovh c
    s.setOvh c { o with latest := smSet [] o.latest item v, cand := smSet ([], 0) o.cand item ([], 0) }
  else s.acceptVal c item 3 v

def State.accepted (s : State) (c item : Nat) : List Byte := smGet [] (s.ovh c).acc item

/-- The accepted value of a one-byte item. -/
def State.accByte? (s : State) (c item : Nat) : Option Nat := (s.accepted c item).head?.map BitVec.toNat

/-- Length of a trace in bytes (Table OVD-10): OTN always 64; code 3 acts as 64. -/
def trcLen (code : Nat) : Nat := if code = 0 then 1 else if code = 1 then 16 else 64

/-- Bytes `t` of the expected trace of a slice: 1 J0, 2 J1, 4 SM TTI, 5 PM TTI. -/
def State.expTrace (s : State) (i t n : Nat) : List Byte :=
  ((List.range 16).map fun k => leBytes 4 (s.rd EXP_TRC_EXP_TRC i (32 * t + k))).flatten.take n

/-- The transmit trace memory. -/
def State.txTrace (s : State) (i t : Nat) : List Byte :=
  ((List.range 16).map fun k => leBytes 4 (s.rd TX_TRC_TX_TRC i (32 * t + k))).flatten

/-- The layer and the TIM defect of a slice trace. -/
def traceLayer (t : Nat) : Nat × Nat := if t = 1 then (1, 0x10) else if t = 2 then (3, 0x32) else if t = 4 then (4, 0x51) else (5, 0x63)

/-- TIM of a slice trace (R373): an accepted trace that differs from the expected one over the bytes compared. -/
def State.timCheck (s : State) (i t : Nat) : State :=
  let (l, code) := traceLayer t
  let got := s.accepted i t
  let len := if 4 ≤ t then 64 else trcLen (s.rd OV_CFG_TRC_LEN i l)
  let exp := s.expTrace i t len
  let sel := s.rd OV_CFG_TIM_SEL i l
  let cut := fun (v : List Byte) =>
    if t < 4 ∨ sel = 0 then v.take len else if sel = 1 then v.take 16 else if sel = 2 then (v.drop 16).take 16 else v.take 32
  s.hwDefect i code (s.flag OV_CFG_TIM_EN i l && got ≠ [] && cut got ≠ cut exp)

/-- UNEQ and PLM of a C2 label (Table OVD-4). -/
def State.c2Check (s : State) (c : Nat) (plmEn : Bool) (expect : Nat) : State :=
  match s.accByte? c 16 with
  | none => s
  | some v => (s.hwDefect c 0x33 (v = 0)).hwDefect c 0x34 (plmEn && v ≠ 0 && v ≠ 1 && v ≠ expect)

/-- The image of a layer in the frame. -/
def rxImage (f : RxFrame) (l : Nat) : List Byte :=
  match f.images.find? fun e => e.1 = l with
  | some e => e.2
  | none => []

def rxByte (f : RxFrame) (l o : Nat) : Nat := ((rxImage f l).getD o 0).toNat

def rxSees (f : RxFrame) (code : Nat) : Option Bool :=
  match f.obs.find? fun e => e.1 = code with
  | some e => some e.2
  | none => none

/-- Conditions that other standards define, as they are seen: declared and cleared at once, MFRAI-E1 after three
signalling multiframes, T1 and J1 RAI after the standard's own persistence (Table OVD-4). -/
def State.detectObs (s : State) (c : Nat) (f : RxFrame) : State :=
  let fam := s.family c
  let codes := match fam with
    | .pdh => [0x80, 0x82, 0x83] ++ (if fmtT1 (s.fmt c) then [0x81] else [])
    | .unframed => [0x80]
    | .pcs => [0x90, 0x91, 0x92]
    | _ => []
  codes.foldl (fun s k =>
    match rxSees f k with
    | some b => if k = 0x82 then s.persist1 c k 3 b else s.hwDefect c k b
    | none => s) s

/-- RAI of an E1, E3 or DS3 frame (Table OVD-4). -/
def raiSeen (fmt : Nat) (f : RxFrame) : Bool :=
  if fmtE1 fmt then (rxByte f 7 1).testBit 5
  else if fmt = 0x50 then (rxByte f 7 0).testBit 1
  else if fmt = 0x51 then (rxByte f 7 4).testBit 7
  else rxByte f 7 0 % 4 = 0

/-- The item of an SSM message: the Sa bit that carries it (4 to 8), 0 for a T1 or J1 data link. -/
def ssmItem (sa : Nat) : Nat := if sa = 0 then 18 else 48 + sa

/-- SSM of a PDH signal (R372): E1 after 3 equal multiframes; T1 and J1 ESF when a code fills 7 of the last 10. -/
def State.acceptSsm (s : State) (c sa v : Nat) : State :=
  if fmtE1 (s.fmt c) then s.acceptVal c (ssmItem sa) 3 [BitVec.ofNat 8 v]
  else
    let o := s.ovh c
    let b : Byte := BitVec.ofNat 8 v
    let win := (b :: (smGet ([], 0) o.cand 18).1).take 10
    let o := { o with latest := smSet [] o.latest 18 [b], cand := smSet ([], 0) o.cand 18 (win, 0) }
    s.setOvh c (if 7 ≤ (win.filter (· = b)).length then { o with acc := smSet [] o.acc 18 [b] } else o)

/-- Hardware detection in a received frame of a slice (Table OVD-4). -/
def State.detectSlice (s : State) (i : Nat) (f : RxFrame) : State :=
  match s.family i with
  | .sdh =>
    let k2 := rxByte f 2 6 % 8
    let s := (s.persist1 i 0x20 3 (k2 = 7)).persist1 i 0x23 5 (k2 = 6)
    let s := (s.persist i 0x30 (f.ptr = 1) (f.ptr = 0) 3 3).persist i 0x31 (f.ptr = 2) (f.ptr = 0) 8 3
    let s := ((s.acceptVal i 16 5 [BitVec.ofNat 8 (rxByte f 3 2)]).acceptVal i 18 8 [BitVec.ofNat 8 (rxByte f 2 36 % 16)])
    let s := ((s.acceptVal i 20 3 [BitVec.ofNat 8 (rxByte f 2 3)]).acceptVal i 21 3 [BitVec.ofNat 8 (rxByte f 2 6)])
    let s := s.c2Check i (s.flag OV_CFG_PLM_EN i 3) (s.rd OV_LABEL_C2 i)
    let s := s.persist1 i 0x35 5 ((rxByte f 3 3).testBit 3)
    let s := f.traces.foldl (fun s t =>
      if (t.1 = 1 ∨ t.1 = 2) ∧ t.2.1.length = trcLen (s.rd OV_CFG_TRC_LEN i (traceLayer t.1).1) then s.acceptTrace i t.1 t.2.1 t.2.2 else s) s
    (s.timCheck i 1).timCheck i 2
  | .otn =>
    let sm := rxByte f 4 9
    let pm := rxByte f 5 25
    let s := ((s.persist1 i 0x52 5 (sm.testBit 3)).persist1 i 0x54 5 (sm.testBit 2)).persist1 i 0x55 3 (sm / 16 = 0xB)
    let s := ((s.persist1 i 0x60 3 (pm % 8 = 7)).persist1 i 0x61 3 (pm % 8 = 6)).persist1 i 0x62 3 (pm % 8 = 5)
    let s := s.persist1 i 0x64 5 (pm.testBit 3)
    let s := match f.pt with | some v => s.acceptVal i 17 5 [BitVec.ofNat 8 v] | none => s
    let s := match s.accByte? i 17 with
      | some v => s.hwDefect i 0x66 (s.flag OV_CFG_PLM_EN i 6 && v ≠ s.rd OV_LABEL_PT i)
      | none => s
    let s := f.traces.foldl (fun s t => if t.1 = 4 ∨ t.1 = 5 then s.acceptTrace i t.1 t.2.1 t.2.2 else s) s
    (s.timCheck i 4).timCheck i 5
  | .pdh =>
    let s := if fmtT1 (s.fmt i) then s else s.persist1 i 0x81 3 (raiSeen (s.fmt i) f)
    let s := f.ssm.foldl (fun s m => s.acceptSsm i m.1 m.2) s
    s.detectObs i f
  | _ => s.detectObs i f

/-- CH_CFG in effect: TIM_EN, PLM_EN, DEG_EN, EXC_EN. -/
def ChartEnt.cfg (x : ChartEnt) (b w : Nat) : Nat := bitsAt x.cfgUse b w

/-- Hardware detection in a received tributary frame of Chart entry `e` (Table OVD-4, R367). -/
def State.detectEntry (s : State) (e : Nat) (f : RxFrame) : State :=
  let c := entryCarrier e
  let x := s.ent e
  let w := x.use0
  let plm := x.cfg 1 1 = 1
  match tribOf (wordMap w) with
  | .hp =>
    let s := (s.persist c 0x30 (f.ptr = 1) (f.ptr = 0) 3 3).persist c 0x31 (f.ptr = 2) (f.ptr = 0) 8 3
    let s := (s.acceptVal c 16 5 [BitVec.ofNat 8 (rxByte f 15 2)]).c2Check c plm (wordLabel w)
    s.persist1 c 0x35 5 ((rxByte f 15 3).testBit 3)
  | .lo =>
    let s := s.persist c 0x42 (!f.h4) f.h4 8 8
    if f.mf then
      let v5 := rxByte f 15 0
      let s := (s.persist c 0x40 (f.ptr = 1) (f.ptr = 0) 3 3).persist c 0x41 (f.ptr = 2) (f.ptr = 0) 8 3
      let s := s.persist1 c 0x44 5 (v5 / 2 % 8 = 0)
      let s := s.acceptVal c 19 5 [BitVec.ofNat 8 (v5 / 2 % 8)]
      let s := match s.accByte? c 19 with
        | some v => s.hwDefect c 0x45 (plm && v ≠ 0 && v ≠ 1 && v ≠ wordLabel w % 8)
        | none => s
      let s := s.persist1 c 0x46 5 (v5 % 2 = 1)
      let s := f.traces.foldl (fun s t => if t.1 = 6 then s.acceptTrace c 6 t.2.1 t.2.2 else s) s
      let got := s.accepted c 6
      s.hwDefect c 0x43 (x.cfg 0 1 = 1 && got ≠ [] && got ≠ x.j2Use.take got.length)
    else s
  | .odu =>
    let pm := rxByte f 15 25
    let s := ((s.persist1 c 0x60 3 (pm % 8 = 7)).persist1 c 0x61 3 (pm % 8 = 6)).persist1 c 0x62 3 (pm % 8 = 5)
    let s := s.persist1 c 0x64 5 (pm.testBit 3)
    let s := match f.pt with | some v => s.acceptVal c 17 5 [BitVec.ofNat 8 v] | none => s
    match s.accByte? c 17 with
    | some v => s.hwDefect c 0x66 (plm && v ≠ wordLabel w)
    | none => s
  | .gfp =>
    -- a client management frame: PTI 0b100, UPI 0x01 or 0x02
    if rxByte f 15 4 / 32 = 4 ∧ (rxByte f 15 5 = 1 ∨ rxByte f 15 5 = 2) then
      (s.setOvh c { s.ovh c with csfAt := some s.clock }).hwDefect c 0x71 true
    else s
  | _ => s

/-! ### Frame events -/

/-- The frame as a port's read bank and BIPX see it: parity by item, three bytes each, then the layer's image. -/
def rxBank (f : RxFrame) (l : Nat) : List Byte :=
  ((List.range 8).map fun k => leBytes 3 (match f.parity.find? fun e => e.1 = l ∧ e.2.1 = k with | some e => e.2.2 | none => 0)).flatten ++
    rxImage f l

/-- A Chart port takes at most the rate used at BIND (R253); a slice port every boundary. -/
def portDue (chart : Bool) (rate clock : Nat) (last : Option Nat) : Bool :=
  !chart || (rate ≠ 0 && (match last with | some t => decide (1000000000 ≤ (clock - t) * rate) | none => true))

/-- FRAME (kind 2) or MFRAME (kind 3) on each port that satisfies `p` and has had PORT_READY (R27, R358). -/
def State.portFrames (s : State) (p : Port → Bool) (kind : Nat) (bank : Port → List Byte) : State :=
  (s.portsWhere fun _ q => p q && q.ready && !q.cut).foldl (fun s e =>
    let (h, k, q) := e
    let chart := q.kind = .chart
    let last := if kind = 2 then q.lastF else q.lastM
    let rate := if kind = 2 then q.rateF else q.rateM
    if portDue chart rate s.clock last then
      let s := s.enqueue h kind k 0 false (bank q) q.thin
      let m := s.helm h
      let q := if kind = 2 then { q with lastF := some s.clock, thin := false } else { q with lastM := some s.clock, thin := false }
      s.setHelm h (m.setPort k q)
    else s.setHelm h ((s.helm h).setPort k { q with thin := rate ≠ 0 || q.thin })) s

/-- fc counts a boundary of the timing port (R174). -/
def State.countFc (s : State) (p : Port → Bool) : State :=
  (s.portsWhere fun h q => p q && q.ready && !q.cut &&
      (match (s.helm h).image with | some im => decide ((s.helm h).port? im.timing = some q) | none => false)).foldl (fun s e =>
    let m := s.helm e.1
    let timing := match m.image with | some im => decide (im.timing = e.2.1) | none => false
    if timing && m.fcOn then s.setHelm e.1 { m with fc := m.fc + 1 } else s) s

/-- FRAME, then MFRAME at a multiframe boundary, on the ports of a carrier (R191, R358). -/
def State.frameEvents (s : State) (c : Nat) (p : Port → Bool) (f : RxFrame) (mframe : Bool) : State :=
  let bank := fun q => rxBank f (portLayer c q)
  let s := (s.countFc p).portFrames p 2 bank
  if mframe then s.portFrames p 3 bank else s

/-- A multiframe boundary of a slice (R344, R358, Table PRG-4). -/
def State.sliceMframe (s : State) (i : Nat) (f : RxFrame) : Bool :=
  let fmt := s.fmt i
  match familyOf fmt with
  | .sdh => (s.framer i).frames = 0
  | .otn => s.rd FR_STAT_MF_STATE i = 2 && rxByte f 4 6 = 255
  | .pdh => if fmt = 0x41 then s.rd FR_STAT_MF_STATE i = 2 && f.mf
            else if fmt = 0x48 ∨ fmt = 0x4C then rxByte f 7 1 = 12
            else if fmt = 0x49 ∨ fmt = 0x4D then rxByte f 7 1 = 24 else false
  | _ => false

/-- The overhead of the frame is stored: images, parity bits, violations for REI. -/
def State.storeRx (s : State) (c : Nat) (f : RxFrame) : State :=
  let o := s.ovh c
  s.setOvh c { o with rx := f.images.foldl (fun m e => smSet [] m e.1 e.2) o.rx
                      parity := f.parity.foldl (fun m e => smSet 0 m (e.1 * 256 + e.2.1) e.2.2) o.parity
                      viol := f.viol.foldl (fun m e => smSet 0 m e.1 e.2) o.viol }

/-- FRAME_BOUNDARY: a received frame of carrier `c` ends (R358). Out of frame, or on a signal without a framer, only the
conditions of other standards are seen. The frame in progress at in-frame raises no event (R359). -/
def execFrameBoundary (c : Nat) (f : RxFrame) (s : State) : Res :=
  if c < 24 then
    if s.rd LINE_STAT_LSTATE c = 0 ∨ !s.flag LINE_STAT_SIG c then .next s
    else if s.frState c ≠ 2 ∨ familyOf (s.fmt c) = .pcs then .next (s.detectObs c f)
    else if (s.framer c).fresh then .next ((s.setFramer c { s.framer c with fresh := false }).detectObs c f)
    else
      let fr := s.framer c
      let s := (s.setFramer c { fr with frames := (fr.frames + 1) % 16 }).storeRx c f
      let s := (s.detectSlice c f).kFrame c
      .next (s.frameEvents c (s.slicePort c) f (s.sliceMframe c f))
  else if c < 32 ∨ 8224 ≤ c then .next s
  else
    let e := c - 32
    let w := (s.ent e).use0
    let up := wordMap w ≠ 0 && !s.flag CH_STAT_MISFIT e && !s.flag CH_STAT_PERR e &&
      (match objSlice? (wordSrc w) with | some i => s.frState i = 2 && s.flag LINE_STAT_SIG i | none => true)
    if !up then .next s
    else
      let s := (s.storeRx c f).detectEntry e f
      .next (s.frameEvents c (fun q => s.portCarrier? q = some c && s.portInFrame q) f f.mf)

/-- MONITORING_TICK: every 125 us in frame on an Ethernet slice (R360). -/
def execMonitoringTick (i : Fin 24) (f : RxFrame) (s : State) : Res :=
  let fr := s.framer i
  if familyOf (s.fmt i) = .pcs && s.frState i = 2 && s.isDue fr.tickDue then
    let s := (s.setFramer i { fr with tickDue := fr.tickDue.map (· + 125000) }).storeRx i f
    let s := (s.detectObs i f).linkDown i
    .next (s.frameEvents i (s.slicePort i) f false)
  else .next s

/-- LOF_TIMER: OOF or in-frame has lasted LOF_MS (R371). -/
def execLofTimer (i : Fin 24) (s : State) : Res := .next (s.lofCheck i)

/-! ### Seconds and windows -/

/-- DEG and EXC codes of a carrier's layer; 0: none. -/
def degCode (c layer m : Nat) : Nat × Nat :=
  if c < 24 then
    (match layer with
     | 2 => (0x21, 0x22) | 3 => (0x36, 0x37) | 4 => (0x53, 0) | 5 => (0x65, 0) | 7 => (0x84, 0x85) | _ => (0, 0))
  else
    (match tribOf m with
     | .hp => (0x36, 0x37) | .lo => (0x47, 0x48) | .odu => (0x65, 0) | _ => (0, 0))

/-- DEG_EN, DEGTHR, DEGM, EXC_EN of a carrier's layer, within their ranges. -/
def State.degCfg (s : State) (c layer : Nat) : Bool × Nat × Nat × Bool :=
  if c < 24 then
    (s.flag OV_CFG_DEG_EN c layer, clamp 1 100 (s.rd OV_CFG_DEGTHR c layer), clamp 2 10 (s.rd OV_CFG_DEGM c layer),
     s.flag OV_CFG_EXC_EN c layer)
  else
    let x := s.ent (c - 32)
    (x.cfg 2 1 = 1, clamp 1 100 (x.cfg 8 7), clamp 2 10 (x.cfg 4 4), x.cfg 3 1 = 1)

/-- The layer had a server signal fail at some instant of the second (R374). -/
def State.ssfInSecond (s : State) (c layer : Nat) : Bool :=
  if c < 24 then ovhSsf (s.family c) (s.ovh c).secDcl layer
  else
    let d := (s.ovh c).secDcl
    let up := match objSlice? (wordSrc (s.ent (c - 32)).use0) with | some i => (s.ovh i).secDcl | none => 0
    d.testBit 0x30 || d.testBit 0x31 || d.testBit 0x70 || serverCodes.any up.testBit

/-- DEG judged for a second with `blocks` blocks of which `errored` were errored (R374). -/
def State.judgeDeg (s : State) (c layer blocks errored : Nat) : State :=
  let code := (degCode c layer (wordMap (s.ent (c - 32)).use0)).1
  let (en, thr, m, _) := s.degCfg c layer
  let o := s.ovh c
  if code = 0 then s
  else if !en || s.ssfInSecond c layer then
    let s := s.setOvh c { o with bad := smSet 0 o.bad layer 0, good := smSet 0 o.good layer 0 }
    if en then s else s.hwDefect c code false
  else
    let isBad := decide ((blocks * thr + 99) / 100 ≤ errored)
    let b := if isBad then min 10 (smGet 0 o.bad layer + 1) else 0
    let g := if isBad then 0 else min 10 (smGet 0 o.good layer + 1)
    let s := s.setOvh c { o with bad := smSet 0 o.bad layer b, good := smSet 0 o.good layer g }
    if m ≤ b then s.hwDefect c code true else if m ≤ g then s.hwDefect c code false else s

/-- SECOND_BOUNDARY: a whole second of device time has ended. SECOND events (R191), DEG from the block counts of the
second (carrier, layer, blocks, errored blocks), and the seconds of the PM points are noted for judgement (R453). -/
def execSecondBoundary (deg : List (Nat × Nat × Nat × Nat)) (s : State) : Res :=
  let sec := s.tm.device / 1000000000
  if sec ≤ s.sec then .next s
  else
    let s := s.pmScan
    let s := deg.foldl (fun s d => s.judgeDeg d.1 d.2.1 d.2.2.1 d.2.2.2) s
    let s : State := { s with sec := sec }
    let s : State := (List.range 32).foldl (fun s h => s.enqueue h 4 0 0 false []) s
    let s : State := { s with ovhs := s.ovhs.map fun e => (e.1, { e.2 with lastDcl := e.2.secDcl, secDcl := e.2.dcl }) }
    .next (s.pm.foldl (fun (s : State) e =>
      let x := s.pt e.1
      s.setPt e.1 { x with closedLast := x.closed, absentLast := x.absent, ready := s.flag PM_CFG_ATTACHED e.1,
                           closed := !s.pmGate e.1, absent := s.pmAbsent e.1 }) s)

/-- EXC_WINDOW: a window of the item ended with `viol` parity violations (R375). -/
def execExcWindow (c layer viol : Nat) (s : State) : Res :=
  let code := (degCode c layer (wordMap (s.ent (c - 32)).use0)).2
  let (_, _, _, en) := s.degCfg c layer
  let o := s.ovh c
  if code = 0 then .next s
  else if !en || s.ssf c (s.codeLayer c code) then
    let s := s.setOvh c { o with excBad := smSet 0 o.excBad layer 0, excGood := smSet 0 o.excGood layer 0 }
    .next (if en then s else s.hwDefect c code false)
  else
    let b := if 10 ≤ viol then min 3 (smGet 0 o.excBad layer + 1) else 0
    let g := if viol = 0 then min 3 (smGet 0 o.excGood layer + 1) else 0
    let s := s.setOvh c { o with excBad := smSet 0 o.excBad layer b, excGood := smSet 0 o.excGood layer g }
    .next (if 3 ≤ b then s.hwDefect c code true else if 3 ≤ g then s.hwDefect c code false else s)

/-- CSF_GFP_TIMEOUT: no client management frame for three times its 100 ms period (Table OVD-4). -/
def execCsfGfpTimeout (e : Fin 8192) (s : State) : Res :=
  let c := entryCarrier e
  match (s.ovh c).csfAt with
  | some t =>
    if t + 300000000 ≤ s.clock then .next ((s.setOvh c { s.ovh c with csfAt := none }).hwDefect c 0x71 false) else .next s
  | none => .next s

/-! ### The transmit side -/

/-- Step 1 of R368, the default image of a layer (Table OVD-6), in transmit frame number `k`. -/
def State.txDefault (s : State) (c l k : Nat) : List Byte :=
  let fmt := s.fmt c
  let at_ : Nat → List (Nat × Nat) → List Byte := fun n l =>
    (List.range n).map fun o => match l.find? fun (e : Nat × Nat) => e.1 = o with | some e => BitVec.ofNat 8 e.2 | none => (0 : Byte)
  let trc := fun (t len : Nat) => ((s.txTrace c t).getD (k % len) 0).toNat
  let fas := [(0, 0xF6), (1, 0xF6), (2, 0xF6), (3, 0x28), (4, 0x28), (5, 0x28)]
  match l with
  | 1 => at_ 27 (fas ++ [(6, trc 1 (trcLen (s.rd OV_CFG_TRC_LEN c 1)))])
  | 2 => let kb := fun o => ((smGet none (s.ovh c).tx (kKey o)).getD 0).toNat
         at_ 45 [(3, kb 3), (6, kb 6)]
  | 3 => (match s.bridgeFrom? c with
          | some w => (s.ovh w).sent.foldl (fun m e => if e.1 = 3 then e.2 else m) (at_ 9 [])
          | none => at_ 9 [(0, trc 2 (trcLen (s.rd OV_CFG_TRC_LEN c 3)))])
  | 4 => at_ 14 (fas ++ [(6, k % 256), (7, trc 4 64)])
  | 5 => at_ 42 [(23, trc 5 64), (25, 6)]
  | 6 => at_ 8 []
  | 7 => if fmtE1 fmt then at_ 4 [(0, 0x9B), (1, 0xDF), (2, 0xFF)]
         else if fmtT1 fmt then at_ 4 [(1, k % 24 + 1), (2, 0xFF)]
         else if fmt = 0x51 then at_ 7 [(0, 0xF6), (1, 0x28)]
         else if fmt = 0x58 ∨ fmt = 0x59 then at_ 6 [(0, 3)]
         else at_ (pdhImage fmt) []
  | 15 => let (m, f) := s.tribAt c
          if tribOf m = .lo then at_ 4 [(1, ((s.ent (c - 32)).j2Use.getD (k % 16) 0).toNat)] else at_ (tribImage m f) []
  | _ => at_ (imageSize l fmt) []

/-- Bits of an overhead byte that are computed (parity and CRC), by mask (R368). -/
def State.txComputed (s : State) (c l o : Nat) : Nat :=
  let fmt := s.fmt c
  match l, o with
  | 1, 9 => 0xFF | 2, 0 => 0xFF | 2, 1 => 0xFF | 2, 2 => 0xFF | 3, 1 => 0xFF | 4, 8 => 0xFF | 5, 24 => 0xFF
  | 7, 0 => if fmt = 0x41 then 0x80 else 0
  | 7, 1 => if fmt = 0x41 then 0x80 else if fmt = 0x58 ∨ fmt = 0x59 then 0x03 else 0
  | 7, 2 => if fmt = 0x51 then 0xFF else 0
  | 15, 0 => if tribOf (s.tribAt c).1 = .lo then 0xC0 else 0
  | 15, 1 => if tribOf (s.tribAt c).1 = .hp then 0xFF else 0
  | 15, 24 => if tribOf (s.tribAt c).1 = .odu then 0xFF else 0
  | _, _ => 0

/-- Bits of an overhead byte that are framing (R368). -/
def State.txFraming (s : State) (c l o : Nat) : Nat :=
  let fmt := s.fmt c
  if l = 1 ∧ o < 6 then 0xFF
  else if l = 4 ∧ o < 7 then 0xFF
  else if l = 7 ∧ o = 0 ∧ fmtE1 fmt then 0x7F
  else if l = 7 ∧ o = 0 ∧ fmtT1 fmt then 0x01
  else if l = 7 ∧ o < 2 ∧ fmt = 0x51 then 0xFF
  else 0

/-- Step 2 of R368: a program write `v` onto the byte `x`: XORed onto computed bits, discarded on framing bits unless
RAW_WR, else in place. The GFP-F and PCS images take none (R367). -/
def State.txWrite (s : State) (c l o x v : Nat) : Nat :=
  let comp := s.txComputed c l o
  let fr := if c < 24 ∧ s.flag OV_CFG_RAW_WR c l then 0 else s.txFraming c l o
  if l = 8 ∨ (l = 15 ∧ tribOf (s.tribAt c).1 = .gfp) then x
  else
    (List.range 8).foldl (fun n b =>
      let xb := x.testBit b
      let vb := v.testBit b
      let r := if comp.testBit b then xb != vb else if fr.testBit b then xb else vb
      n + boolNat r * 2 ^ b) 0

/-- A byte of an image changed. -/
def setAt (l : List Byte) (o : Nat) (f : Nat → Nat) : List Byte := l.set o (BitVec.ofNat 8 (f (l.getD o 0).toNat))

/-- Step 3 of R368, with BACK_EN: REI in each frame (R381) and the back actions in force (Table OVD-5). -/
def State.txBack (s : State) (c l : Nat) (img : List Byte) : List Byte :=
  let o := s.ovh c
  let i := if c < 24 then c else (objSlice? (wordSrc (s.ent (c - 32)).use0)).getD 24
  if !s.flag OV_CONSEQ_BACK_EN i then img
  else
    let v := smGet 0 o.viol l
    let act := fun (r : Nat) => o.csq.testBit r
    let status := fun (b : Nat) (x : Nat) => setBitsAt x 4 4 (min 8 v) |> fun x => if act b then setBitsAt x 3 1 1 else x
    match l with
    | 2 => let m := setAt img 41 fun _ => min v 255
           if act 0 then setAt m 6 fun x => setBitsAt x 0 3 6 else m
    | 3 => setAt img 3 (status 1)
    | 4 => setAt img 9 (status 3)
    | 5 => setAt img 25 (status 4)
    | 7 =>
      let fmt := s.fmt c
      let img := if act 6 then
          (if fmtE1 fmt then setAt img 1 fun x => setBitsAt x 5 1 1
           else if fmt = 0x50 then setAt img 0 fun x => setBitsAt x 1 1 1
           else if fmt = 0x51 then setAt img 4 fun x => setBitsAt x 7 1 1
           else if fmt = 0x58 ∨ fmt = 0x59 then setAt img 0 fun x => setBitsAt x 0 2 0 else img)
        else img
      if fmt = 0x41 then setAt img 3 fun x => setBitsAt x 0 2 (3 - min 3 (bitsAt v 0 2))
      else if (fmt = 0x58 ∨ fmt = 0x59) ∧ v ≠ 0 then setAt img 3 fun x => setBitsAt x 1 3 0
      else img
    | 8 => if act 7 then setAt img 1 fun _ => 2 else img
    | 15 =>
      (match tribOf (s.tribAt c).1 with
       | .hp => setAt img 3 (status 1)
       | .lo => let m := setAt img 0 fun x => setBitsAt x 5 1 (boolNat (v ≠ 0))
                if act 2 then setAt m 0 fun x => setBitsAt x 0 1 1 else m
       | .odu => setAt img 25 (status 4)
       | _ => img)
    | _ => img

/-- The byte and bit that an inserted error inverts in an item of a layer (Table OVD-3; 0x10 the framing word). -/
def insByte (l item fmt : Nat) : Option (Nat × Nat) :=
  if item = 0x10 then (if l = 1 ∨ l = 4 ∨ l = 7 then some (0, 0) else none)
  else match l, item with
  | 1, 1 => some (9, 0) | 2, 1 => some (0, 0) | 3, 1 => some (1, 0) | 4, 1 => some (8, 0) | 5, 1 => some (24, 0)
  | 7, 1 => if fmt = 0x51 then some (2, 0) else if fmt = 0x41 then some (0, 7) else if fmt = 0x58 ∨ fmt = 0x59 then some (1, 0) else some (0, 0)
  | 7, 2 => if fmt = 0x59 then some (2, 0) else none
  | 5, k => if 2 ≤ k ∧ k ≤ 7 then some ([21, 18, 15, 11, 8, 5].getD (k - 2) 0, 0) else none
  | _, _ => none

/-- N of R386: round(10^EXP / MAN); 0 inserts nothing. -/
def insRate (man exp : Nat) : Nat :=
  let man := min 9 man
  let exp := clamp 1 9 exp
  if man = 0 then 0 else (2 * 10 ^ exp + man) / (2 * man)

/-- Step 4 of R368: OV_INS inserts into this frame when it is due; the machine with the insertion advanced (R389). For
item 0 the units are payload bits, all of them in this frame. -/
def State.txInsert (s : State) (c : Nat) : Bool × State :=
  if 24 ≤ c then (false, s)
  else
    let o := s.ovh c
    match s.rd OV_INS_MODE c with
    | 1 => (true, s.wr OV_INS_MODE 0 c)
    | 2 =>
      let n := insRate (s.rd OV_INS_MAN c) (s.rd OV_INS_EXP c)
      if n = 0 ∨ s.rd OV_INS_ITEM c = 0 then (false, s)
      else if n ≤ o.insLeft + 1 then (true, s.setOvh c { o with insLeft := 0 })
      else (false, s.setOvh c { o with insLeft := o.insLeft + 1 })
    | 3 =>
      let k := s.rd OV_INS_COUNT c
      if k = 0 ∨ s.rd OV_INS_ITEM c = 0 then (false, s.wr OV_INS_MODE 0 c)
      else if k ≤ o.insLeft + 1 then (true, (s.setOvh c { o with insLeft := 0 }).wr OV_INS_MODE 0 c)
      else (true, s.setOvh c { o with insLeft := o.insLeft + 1 })
    | _ => (false, s)

/-- Step 5 of R368: forced alarms of the layer named in OV_FORCE (R390). -/
def State.txForce (s : State) (c l : Nat) (img : List Byte) : List Byte :=
  if 24 ≤ c ∨ s.rd OV_FORCE_LAYER c ≠ l then img
  else
    let fmt := s.fmt c
    let on := fun (f : Fld) => s.flag f c
    let img := if on OV_FORCE_RDI then
        (match l with
         | 2 => setAt img 6 fun x => setBitsAt x 0 3 6
         | 3 => setAt img 3 fun x => setBitsAt x 3 1 1
         | 4 => setAt img 9 fun x => setBitsAt x 3 1 1
         | 5 => setAt img 25 fun x => setBitsAt x 3 1 1
         | 7 => if fmtE1 fmt then setAt img 1 fun x => setBitsAt x 5 1 1 else if fmt = 0x50 then setAt img 0 fun x => setBitsAt x 1 1 1
                else if fmt = 0x51 then setAt img 4 fun x => setBitsAt x 7 1 1 else setAt img 0 fun x => setBitsAt x 0 2 0
         | _ => img)
      else img
    let img := if on OV_FORCE_UNEQ then
        (match l with | 3 => setAt img 2 fun _ => 0 | 5 => setAt img 25 fun x => setBitsAt x 0 3 6 | _ => img)
      else img
    let img := if on OV_FORCE_LCK ∧ l = 5 then setAt img 25 fun x => setBitsAt x 0 3 5 else img
    let img := if on OV_FORCE_AIS then
        (match l with
         | 2 => setAt img 6 fun x => setBitsAt x 0 3 7
         | 5 => setAt img 25 fun x => setBitsAt x 0 3 7
         | 8 => img
         | _ => img.map fun _ => 0xFF)
      else img
    let img := if on OV_FORCE_LOF then
        img.mapIdx fun k b => BitVec.ofNat 8 (Nat.xor b.toNat (s.txFraming c l k))
      else img
    let img := if on OV_FORCE_LF ∧ l = 8 then setAt img 1 fun _ => 1 else img
    if on OV_FORCE_RF ∧ l = 8 then setAt img 1 fun _ => 2 else img

/-- Commits that have waited 2 us come into force (R188), and the consequent actions wanted then (R382). -/
def State.txMature (s : State) (c : Nat) : State :=
  let o := s.ovh c
  let ripe := fun (t : Nat) => decide (t + 2000 ≤ s.clock)
  let tx := (o.txPend.filter fun p => ripe p.1).foldl (fun m p => smSet none m p.2.1 p.2.2) o.tx
  let csq := match (o.csqPend.filter fun p => ripe p.1).getLast? with | some p => p.2 | none => o.csq
  s.setOvh c { o with tx := tx, csq := csq, txPend := o.txPend.filter fun p => !ripe p.1,
                      csqPend := o.csqPend.filter fun p => !ripe p.1 }

/-- The image a layer sends. -/
def State.txImage (s : State) (c l k : Nat) (own : List (Nat × Nat × Byte)) (held ins : Bool) : List Byte :=
  let o := s.ovh c
  let img := s.txDefault c l k
  let img := own.foldl (fun m e => if e.1 = l then m.set e.2.1 e.2.2 else m) img
  let img := if held then img else img.mapIdx fun j b =>
    match smGet none o.tx (l * 256 + j) with
    | some v => BitVec.ofNat 8 (s.txWrite c l j b.toNat v.toNat)
    | none => b
  let img := s.txBack c l img
  let img := if ins ∧ s.rd OV_INS_LAYER c = l then
      (match insByte l (s.rd OV_INS_ITEM c) (s.fmt c) with
       | some (j, b) => setAt img j fun x => Nat.xor x (2 ^ b)
       | none => img)
    else img
  s.txForce c l img

/-- TRANSMIT_FRAME: a transmit frame of carrier `c` starts; `own` are the bytes the transmitter computes or that a routed
container brings (layer, offset, byte). Chart routing and insertion are held while loop codes go out (R302). -/
def execTransmitFrame (c : Nat) (own : List (Nat × Nat × Byte)) (s : State) : Res :=
  if 8224 ≤ c ∨ (24 ≤ c ∧ c < 32) then .next s
  else
    let s := s.txMature c
    let on := if c < 24 then s.flag LINE_STAT_TX_ON c && !(s.rd OV_FORCE_LAYER c = 0 && s.flag OV_FORCE_LOS c)
              else wordMap (s.ent (c - 32)).use0 ≠ 0
    if !on then .next (s.setOvh c { s.ovh c with sent := [] })
    else
      let held := c < 24 && (s.line c).loop ≠ 0
      let k := (s.ovh c).txN
      let layers := if c < 24 then (familyLayers (s.family c)).filter (· ≠ 0) else [15]
      let (ins, s') := if held then (false, s) else s.txInsert c
      let imgs := layers.map fun l => (l, s.txImage c l k own held ins)
      let o := s'.ovh c
      .next (s'.setOvh c { o with sent := imgs.foldl (fun m e => smSet [] m e.1 e.2) [], txN := (k + 1) % 65536 })

end Sys2Proof.Machine
end

