-- ==== Sys2Proof/Machine/Sound.lean ====
section
/-! DEFINITION. The measurements of SOUND (chapter 09): what each code returns, from the machine's own state and from
what the operands say was measured. -/

namespace Sys2Proof.Machine

open Reg

/-- The operation of a SOUND row: running, and of the row's code (Table SND-1). -/
def isCode (code : Nat) (o : Op) : Bool := o.par 0 % 256 = code

/-- The slice a sounding names, and the lead of its bonded group. -/
def sndSlice (o : Op) : Nat := (objSlice? o.obj).getD 0
def State.sndLead (s : State) (i : Nat) : Nat := (s.groupLead? i).getD i

/-- The slice is ACQUIRED and its signal present (Table SND-3, NO_SIGNAL). -/
def State.sndLive (s : State) (i : Nat) : Bool := s.rd LINE_STAT_LSTATE (s.sndLead i) = 2 && s.flag LINE_STAT_SIG i

/-- A slice in the map of a bay that is not ON has no head (R577). -/
def State.noHead (s : State) (i : Nat) : Bool := match s.bayOf? i with | some b => s.bayState b != 5 | none => false

/-- A sounding that overlaps an intrusive one reads DISTURBED (R309). -/
def State.disturbed (s : State) (i : Nat) (o : Op) : Bool := o.stage = 6 || (s.line i).probe.isSome

/-- A sounding that is not intrusive begins: NO_HEAD, DISTURBED, and for one that measures the signal NO_SIGNAL come
first. -/
def State.sndBegin (s : State) (o : Op) (signal : Bool) (f : Nat → State) : State :=
  let i := sndSlice o
  if s.noHead i then s.soundEnd o sndNoHead 0 0 s.tm.device []
  else if s.disturbed i o then s.soundEnd o sndDisturbed 0 0 s.tm.device []
  else if signal && !s.sndLive i then s.soundEnd o sndNoSignal 0 0 s.tm.device []
  else f i

/-- SUPPLY: the KP_ADC words of all channels, of one scan; TIME is its end (R313). -/
def execSupply (n : Fin 16) (tag : Nat) (s : State) : Res :=
  .next (s.runOp n tag 0x12 (isCode 0x01) fun o s =>
    let body := ((List.range 16).map fun c => leBytes 4 (s.rd KP_ADC_RAW 0 c + s.rd KP_ADC_VALID 0 c * 4096)).flatten
    s.soundEnd o sndValid 16 0 s.feed.scanAt body)

/-- BAY: state, consecutive faults, current, peak since the previous one and BAY_VIN; NO_HEAD for an EMPTY bay (R314). -/
def execSoundBay (n : Fin 16) (tag : Nat) (s : State) : Res :=
  .next (s.runOp n tag 0x12 (isCode 0x02) fun o s =>
    let b := objIndex o.obj
    let body := leBytes 1 (s.bayState b) ++ leBytes 1 (s.rd BY_STAT_COUNT 0 b) ++ leBytes 2 (s.rd KP_ADC_RAW 0 (7 + b)) ++
      leBytes 2 (s.bay b).peak ++ leBytes 2 (s.rd KP_ADC_RAW 0 11)
    let st := if s.bayState b = 1 then sndNoHead else sndValid
    (s.setBay b { s.bay b with peak := 0 }).soundEnd o st 1 0 s.tm.device body)

/-- The velocity factor in 0.001: 0 means 660 (R315). -/
def tdrVf (p2 : Nat) : Nat := if bitsAt p2 0 10 = 0 then 660 else bitsAt p2 0 10

/-- LENGTH = DELAY x 299 792 458 m/s x VF / 2, to the nearest metre (R315). -/
def tdrLength (vf delay : Nat) : Nat := (2 * (delay * 299792458 * vf) + 20000000000000) / (2 * 20000000000000)

/-- Reflections in order of delay. -/
def insRefl (x : Nat × Fin 5 × Byte) : List (Nat × Fin 5 × Byte) → List (Nat × Fin 5 × Byte)
  | [] => [x]
  | y :: l => if x.1 ≤ y.1 then x :: y :: l else y :: insRefl x l

/-- The entries of a TDR: reflections from 5 m to 2 000 m, the first four (R315, R316). -/
def tdrEntries (vf : Nat) (refl : List (Nat × Fin 5 × Byte)) : List (List Byte) :=
  (((refl.foldr insRefl []).filter fun r => decide (5 ≤ tdrLength vf r.1 ∧ tdrLength vf r.1 ≤ 2000)).take 4).map fun r =>
    leBytes 4 r.1 ++ leBytes 2 (tdrLength vf r.1) ++ leBytes 1 r.2.1 ++ [r.2.2]

/-- TDR: the reflections of the pulse (delay in 0.1 ns, kind, coefficient). On an ACQUIRED slice it is intrusive and the
line goes down (R28, R308, R316). -/
def execTdr (n : Fin 16) (tag : Nat) (refl : List (Nat × Fin 5 × Byte)) (s : State) : Res :=
  .next (s.runOp n tag 0x12 (isCode 0x10) fun o s =>
    let i := sndSlice o
    if s.noHead i then s.soundEnd o sndNoHead 0 0 s.tm.device []
    else if s.rd LINE_STAT_LSTATE i = 1 then s.endOp n tag eBusy 0
    else
      let s := if s.rd LINE_STAT_LSTATE i = 2 then ((s.disturb i n tag).pmIntrusive i).signalLost i else s
      let vf := tdrVf (o.par 2)
      let es := tdrEntries vf refl
      s.soundEnd o sndValid es.length vf s.tm.device es.flatten)

/-- CABLE_LOSS: the latest Leadline estimate; TIME is the end of the adaptation that made it (R317). -/
def execCableLoss (n : Fin 16) (tag : Nat) (s : State) : Res :=
  .next (s.runOp n tag 0x12 (isCode 0x11) fun o s => s.sndBegin o false fun i =>
    let t := (s.line i).adaptAt
    if t = 0 then s.soundEnd o sndNotSettled 0 0 s.tm.device []
    else s.soundEnd o sndValid 1 0 t (leBytes 4 (s.rd LP_RPT_LOSS_EST i)))

/-- A power of `p` 0.1 uW in 0.01 dBm: 10 log10 to the nearest 0.01 dB, no less than -40 dBm (R319). -/
def dBm100 (p : Nat) : Int :=
  if p = 0 then -4000 else max (-4000) (((Nat.log 10 (p ^ 2000) : Int) - 7999) / 2)

/-- OPTICS: the head's own figures, after its calibration: per lane received and transmitted power in 0.1 uW and bias in
2 uA, and the module's temperature and supply; `none` where the module offers no diagnostics (R318, R319). -/
def execOptics (n : Fin 16) (tag : Nat) (diag : Option OpticsDiag) (s : State) : Res :=
  .next (s.runOp n tag 0x12 (isCode 0x20) fun o s =>
    if (s.bayOf? (sndSlice o)).isNone then s.soundEnd o sndNoHead 0 0 s.tm.device []
    else s.sndBegin o false fun i =>
      match diag with
      | none => s.soundEnd o sndNoDiag 0 0 s.tm.device []
      | some d =>
        let k := if fmtBonded (s.fmt i) then 4 else 1
        let body := (List.range k).map fun l =>
          let e := d.lanes.getD l (0, 0, 0)
          (leNat' 2 (dBm100 e.1)) ++ (leNat' 2 (dBm100 e.2.1)) ++ leBytes 2 e.2.2 ++ leBytes 2 0
        s.soundEnd o sndValid k (d.temp.toNat + d.supply.toNat * 65536) s.tm.device body.flatten)
where
  /-- A signed number in `n` little-endian bytes. -/
  leNat' (n : Nat) (v : Int) : List Byte := leBytes n (v % (256 : Int) ^ n).toNat

/-- EYE: a snapshot of the coefficients and the eye (R282, R320). -/
def execEye (n : Fin 16) (tag : Nat) (s : State) : Res :=
  .next (s.runOp n tag 0x12 (isCode 0x21) fun o s => s.sndBegin o true fun i =>
    let s := s.report i
    s.soundEnd o sndValid 1 0 s.tm.device (leBytes 4 (s.word .slice i 0x10) ++ leBytes 4 (s.word .slice i 0x14)))

/-- Table SND-5 gives the filter for the format: the high band is given for no Ethernet PCS and not for OTU4. -/
def jitterFilter (sel fmt : Nat) : Bool := !(sel = 1 && (familyOf fmt = .pcs || fmt = 0x13))

/-- JITTER: the window starts (R321). -/
def execJitter (n : Fin 16) (tag : Nat) (s : State) : Res :=
  .next (s.runOp n tag 0x12 (fun o => isCode 0x30 o && o.stage ≠ 1) fun o s => s.sndBegin o true fun i =>
    if jitterFilter (bitsAt (o.par 0) 8 2) (s.fmt (s.sndLead i)) then
      s.modOp n tag fun o => { o with stage := 1, due := some (s.inMs (o.par 2)) }
    else s.endOp n tag eUnsupported 3)

/-- JITTER_WINDOW_END: the window's peak-to-peak and RMS jitter in 0.01 UI (R321). -/
def execJitterWindowEnd (n : Fin 16) (tag pp rms : Nat) (s : State) : Res :=
  .next (s.runOp n tag 0x12 (fun o => isCode 0x30 o && o.stage = 1 && s.isDue o.due) fun o s =>
    s.soundEnd o sndValid 1 0 s.tm.device (leBytes 4 pp ++ leBytes 4 rms))

/-- WANDER: the first entry is 0 at TIME; without REFIN, NO_REF (R322). -/
def execWander (n : Fin 16) (tag : Nat) (s : State) : Res :=
  .next (s.runOp n tag 0x12 (fun o => isCode 0x31 o && o.stage ≠ 1) fun o s => s.sndBegin o true fun _ =>
    if s.flag GL_REFIN_VALID then
      s.modOp n tag fun o => { o with stage := 1, due := some (s.inMs (o.par 2)), data := leBytes 4 0,
                                      outp := leBytes 8 s.tm.device }
    else s.soundEnd o sndNoRef 0 0 s.tm.device [])

/-- WANDER_SAMPLE: the time interval error now, in units of 125 ps; the series ends after P3 s (R322). -/
def execWanderSample (n : Fin 16) (tag : Nat) (tie : Word) (s : State) : Res :=
  .next (s.runOp n tag 0x12 (fun o => isCode 0x31 o && o.stage = 1 && s.isDue o.due) fun o s =>
    let d := o.data ++ leBytes 4 (BitVec.ofInt 32 (tie.toInt * 125)).toNat
    if 1000 * o.par 3 / o.par 2 + 1 ≤ d.length / 4 then s.soundEnd o sndValid (d.length / 4) 0 (leNat o.outp) d
    else s.modOp n tag fun o => { o with data := d, due := some ((o.due.getD 0) + 1000000 * o.par 2) })

/-- An entry of TRACES: kind, length, accepted and latest trace (R323). -/
def traceEntry (kind : Nat) (acc latest : List Byte) : List Byte :=
  let len := if acc = [] then latest.length else acc.length
  leBytes 1 kind ++ leBytes 1 len ++ leBytes 2 0 ++ sliceBytes acc 0 64 ++ sliceBytes latest 0 64

/-- The entries of a list of traces of a carrier: kind and item; NO_DATA when none has arrived. -/
def State.traceResult (s : State) (o : Op) (c : Nat) (ts : List (Nat × Nat)) : State :=
  let x := s.ovh c
  let es := ts.map fun t => (t.1, smGet [] x.acc t.2, smGet [] x.latest t.2)
  if ts ≠ [] ∧ es.all (fun e => e.2.2 = []) then s.soundEnd o sndNoData 0 0 s.tm.device []
  else
    let aux := es.zipIdx.foldl (fun a e => a + (if e.1.2.1 ≠ e.1.2.2 then 2 ^ e.2 else 0)) 0
    s.soundEnd o sndValid es.length aux x.trcAt (es.map fun e => traceEntry e.1 e.2.1 e.2.2).flatten

/-- The traces a format carries: kind of R323 and item. -/
def fmtTraces (fmt : Nat) : List (Nat × Nat) :=
  match familyOf fmt with
  | .sdh => [(1, 1), (2, 2)]
  | .otn => [(4, 4), (5, 5)]
  | _ => []

/-- TRACES: the accepted and latest traces of the slice, or the J2 of a tributary of the session's own (R323). -/
def execTraces (n : Fin 16) (tag : Nat) (s : State) : Res :=
  .next (s.runOp n tag 0x12 (isCode 0x40) fun o s => s.sndBegin o true fun i =>
    if (o.par 2).testBit 31 then
      let e := bitsAt (o.par 2) 0 13
      if s.entryOwner e = n then s.traceResult o (32 + e) [(3, 6)] else s.endOp n tag eNotOwner 0
    else s.traceResult o i (fmtTraces (s.fmt i)))

/-- An SSM entry from one item of the slice, NO_DATA when it has not come (R324). -/
def State.ssmResult (s : State) (o : Op) (i src item : Nat) : State :=
  let x := s.ovh i
  match (smGet [] x.latest item).head? with
  | none => s.soundEnd o sndNoData 0 0 s.tm.device []
  | some l => s.soundEnd o sndValid 1 0 s.tm.device (leBytes 1 src ++ [(smGet [] x.acc item).headD 0, l, 0])

/-- SSM: S1, an E1 Sa bit (P2[2:0] names Sa4-Sa7 by their number and Sa8 by 0), or the T1 ESF data link (R324). -/
def execSsm (n : Fin 16) (tag : Nat) (s : State) : Res :=
  .next (s.runOp n tag 0x12 (isCode 0x41) fun o s => s.sndBegin o true fun i =>
    let fmt := s.fmt i
    let p := o.par 2
    if familyOf fmt = .sdh then (if p = 0 then s.ssmResult o i 1 18 else s.endOp n tag eBadRecord 4)
    else if fmt = 0x41 then
      (if p = 0 ∨ 4 ≤ p then s.ssmResult o i 2 (ssmItem (if p = 0 then 8 else p)) else s.endOp n tag eBadRecord 4)
    else if fmt = 0x49 ∨ fmt = 0x4D then (if p = 0 then s.ssmResult o i 3 18 else s.endOp n tag eBadRecord 4)
    else s.endOp n tag eUnsupported 3)

/-- LOOP_PROBE: a loop-down when PENDING, else the loop-up; nothing is sent on a slice that is not ACQUIRED (R307,
R326). -/
def execLoopProbe (n : Fin 16) (tag : Nat) (s : State) : Res :=
  .next (s.runOp n tag 0x12 (fun o => isCode 0x42 o && o.stage ≠ 1) fun o s =>
    let i := sndSlice o
    if s.rd LINE_STAT_LSTATE i ≠ 2 then s.soundEnd o sndNoSignal 0 0 s.tm.device []
    else if s.noHead i then s.soundEnd o sndNoHead 0 0 s.tm.device []
    else if !s.flag LINE_STAT_SIG i then s.soundEnd o sndNoSignal 0 0 s.tm.device []
    else
      let kind := o.par 2 % 16
      if !loopFits kind (s.fmt i) then s.endOp n tag eUnsupported 3
      else
        let s := ((s.disturb i n tag).pmIntrusive i).modOp n tag fun o => { o with stage := 1 }
        let s := s.setLine i { s.line i with probe := some (n, tag), probeDue := none, probeMs := none }
        let s := (s.wr OV_LPRBS_HELD 1 i).wr OV_LPRBS_SYNC 0 i
        if s.loopPending i && loopFits (s.rd LP_LOOP_KIND i) (s.fmt i) then s.loopSend i 1 (s.rd LP_LOOP_KIND i) (s.downMs i)
        else s.loopUp i kind)

/-- AUTONEG: the partner's base page of the most recent auto-negotiation (R325). -/
def execAutoneg (n : Fin 16) (tag : Nat) (s : State) : Res :=
  .next (s.runOp n tag 0x12 (isCode 0x43) fun o s => s.sndBegin o true fun i =>
    match (s.line (s.sndLead i)).autoneg with
    | some (page, t) => s.soundEnd o sndValid 1 0 t (leBytes 2 page ++ leBytes 2 0)
    | none => s.soundEnd o sndNoData 0 0 s.tm.device [])

end Sys2Proof.Machine
end

