-- ==== Sys2Proof/Machine/Admit.lean ====
section
/-! DEFINITION. Submission records (Table OPS-1) and the admission checks of Table OPS-7, in their order: a check answers
`none` when it passes, else the status and the cause of the refusal. -/

namespace Sys2Proof.Machine

open Reg

/-- A submission record as an operation not yet admitted (Table OPS-1). -/
def parseRec (n q : Nat) (b : List Byte) : Op :=
  { sess := n, tag := leAt b 2 2, opcode := leAt b 0 1 % 64, obj := leAt b 4 2, flags := leAt b 1 1, haddr := leAt b 8 8,
    p := (List.range 12).map fun i => leAt b (16 + 4 * i) 4, ring := q, st := .queued, prev := .queued, started := false,
    est := 0, slots := 1, refused := false, admitTime := 0, admitDev := 0, seq := 0, fin := none, data := [], want := 0, outp := [],
    dropped := 0, stage := 0, due := none, rem := 0, aux := [] }

/-- Reserved bits of bytes 0, 1, 6 and 7 (R141). -/
def recReserved (b : List Byte) : Bool := leAt b 0 1 / 64 ≠ 0 || leAt b 1 1 / 8 ≠ 0 || leAt b 6 2 ≠ 0


/-- The record carries a flag of byte 1. -/
def flagged (f : Nat) (o : Op) : Bool := Nat.land o.flags f != 0

/-- Parameter words of an opcode (Table OPS-4); `none` for a code the table does not list. -/
def opWords (opcode : Nat) : Option Nat :=
  match opcode with
  | 0x00 => some 0 | 0x01 => some 2 | 0x02 => some 1 | 0x03 => some 6 | 0x04 => some 1
  | 0x08 => some 1 | 0x09 => some 9 | 0x0A => some 0 | 0x0B => some 8
  | 0x10 => some 3 | 0x11 => some 0 | 0x12 => some 4 | 0x18 => some 3 | 0x19 => some 1 | 0x1C => some 1 | 0x1D => some 1
  | 0x20 => some 8 | 0x21 => some 7 | 0x22 => some 5 | 0x28 => some 2 | 0x29 => some 4
  | 0x30 => some 1 | 0x31 => some 1 | 0x32 => some 1 | 0x38 => some 1 | 0x39 => some 1
  | 0x3C => some 1 | 0x3D => some 1 | 0x3E => some 4 | 0x3F => some 3
  | _ => none

/-- Opcodes with data at HADDR. -/
def opHaddr (opcode : Nat) : Bool := [1, 3, 8, 0x12, 0x18, 0x1C, 0x20, 0x21, 0x28, 0x3F].contains opcode

/-- The object classes an opcode names; `none`: OBJ is 0; `some []`: any class. -/
def opClasses (o : Op) : Option (List Nat) :=
  match o.opcode with
  | 0x04 => some [0, 1] | 0x08 => some [2] | 0x09 => some [2] | 0x0A => some [2] | 0x0B => some [2]
  | 0x10 => some [0, 1] | 0x11 => some [0, 1] | 0x12 => some [] | 0x18 => some [3] | 0x19 => some [3]
  | 0x1C => some [9] | 0x1D => some [9] | 0x20 => some [0, 1] | 0x21 => some [4] | 0x22 => some [7]
  | 0x28 => some [8] | 0x29 => some [8] | 0x38 => some [] | 0x39 => some [0, 1] | 0x3C => some [5]
  | 0x3F => if o.par 0 = 3 then some [] else none
  | _ => none

/-- The object an operation names, for its order and its ownership. -/
def opObj? (o : Op) : Option Nat := if (opClasses o).isSome then some o.obj else none

/-- How many indices a class has (R19, R20). -/
def classSize (c : Nat) : Nat :=
  match c with
  | 0 => 8 | 1 => 16 | 2 => 32 | 3 => 256 | 4 => 64 | 5 => 4 | 6 => 16 | 7 => 64 | 8 => 2048 | 9 => 64
  | _ => 0

/-- A valid object ID (R20). -/
def objValid (o : Nat) : Bool := decide (o < 65536 ∧ objIndex o < classSize (objClass o))

def bad (cause : Nat) : Option (Nat × Nat) := some (eBadRecord, cause)
def unsup (cause : Nat) : Option (Nat × Nat) := some (eUnsupported, cause)

/-- Refused with `r` when `b`. -/
def refuse (b : Bool) (r next : Option (Nat × Nat)) : Option (Nat × Nat) := if b then r else next

/-! ### Check 2: parameters -/

/-- The slices an ACQUIRE takes. -/
def acqSlices (o : Op) : List Nat :=
  match objSlice? o.obj with
  | some i => groupOf i (o.par 0 % 256)
  | none => []

/-- ACQUIRE: R268, R276, R287, R291, R300, R303. -/
def acquireCheck (o : Op) : Option (Nat × Nat) :=
  let fmt := o.par 0
  let p2 := o.par 2
  let i := (objSlice? o.obj).getD 0
  let hs := optHs p2
  let kind := optKind p2
  refuse (decide (256 ≤ fmt) || !fmtListed fmt || decide (16 ≤ o.par 1)) (bad 4) <|
  refuse (p2.testBit 3 || p2.testBit 19 || decide (p2 / 2 ^ 22 ≠ 0) || optTx p2 = 3 || decide (4 ≤ bitsAt p2 12 4)) (bad 4) <|
  refuse (decide (i < 8) && decide (bitsAt p2 11 8 ≠ 0)) (bad 4) <|
  refuse ((hs = 1 && !decide (1 ≤ kind ∧ kind ≤ 4)) || (hs = 3 && decide (5 ≤ kind))) (bad 4) <|
  refuse (!sliceCarries i fmt) (unsup 3) <|
  refuse ((hs = 1 && !loopFits kind fmt) || (hs = 2 && fmt ≠ 0x20) || (hs = 3 && kind ≠ 0 && !loopFits kind fmt)) (unsup 3) none

/-- The object classes of a measurement code (Table SND-1); none for a code it does not list. -/
def soundClasses (code : Nat) : List Nat :=
  match code with
  | 0x01 => [5] | 0x02 => [5]
  | 0x10 => [1] | 0x11 => [1] | 0x42 => [1]
  | 0x20 => [0] | 0x21 => [0] | 0x43 => [0]
  | 0x30 => [0, 1] | 0x31 => [0, 1] | 0x40 => [0, 1] | 0x41 => [0, 1]
  | _ => []

/-- SOUND: R305, R310, and the words each code uses. -/
def soundCheck (o : Op) : Option (Nat × Nat) :=
  let code := o.par 0 % 256
  let p0 := o.par 0 / 256
  let p2 := o.par 2
  let p3 := o.par 3
  let words : Bool := match code with
    | 0x10 => p3 = 0 && decide (p2 < 1024) && (p2 = 0 || decide (400 ≤ p2 ∧ p2 ≤ 990))
    | 0x30 => p3 = 0 && decide (10 ≤ p2 ∧ p2 ≤ 10000)
    | 0x31 => decide (33 ≤ p2 ∧ p2 ≤ 1000 ∧ 1 ≤ p3 ∧ p3 ≤ 86400)
    | 0x40 => p3 = 0 && (p2 = 0 || (p2.testBit 31 && decide (bitsAt p2 13 18 = 0)))
    | 0x41 => p3 = 0 && decide (p2 < 8)
    | 0x42 => p3 = 0 && decide (1 ≤ p2 ∧ p2 ≤ 4)
    | _ => p2 = 0 && p3 = 0
  refuse (soundClasses code = []) (bad 4) <|
  refuse (if code = 0x30 then decide (3 ≤ p0) else p0 ≠ 0) (bad 4) <|
  refuse (decide (o.par 1 < 16) || !words) (bad 4) <|
  refuse (!(soundClasses code).contains (objClass o.obj)) (unsup 3) none

/-- Pool, STORE, host slots, flush period and HADDR of a CAPTURE or of a SOAK that stores (Table CHU-4, R496). -/
def State.storeOk (s : State) (o : Op) (pool st slots flush : Nat) : Bool :=
  objValid pool && objClass pool = 6 && decide (st < 2) && !(st = 1 && s.rd CU_CPOOL_SIZE = 0) &&
    decide (1 ≤ slots ∧ slots ≤ 4096) && decide (flush ≤ 86400) && o.haddr % (if st = 1 then 65536 else 4096) = 0

/-- The points a SOAK names. -/
def soakFirst (o : Op) : Nat := o.par 1 % 65536
def soakCount (o : Op) : Nat := o.par 1 / 65536

/-- SOAK: R471, R473. -/
def State.soakCheck (s : State) (o : Op) : Bool :=
  decide (soakCount o ≤ 256) && (soakCount o = 0 || decide (soakFirst o + soakCount o ≤ 2048)) &&
  (if o.par 2 = 0 then [3, 4, 5, 6, 7].all (fun i => o.par i = 0) && o.haddr = 0
   else objValid (o.par 2) && objClass (o.par 2) = 4 && decide (o.par 3 < 2) &&
     s.storeOk o (o.par 4) (o.par 5) (o.par 6) (o.par 7))

/-- CAPTURE: R496. -/
def State.captureCheck (s : State) (o : Op) : Bool :=
  let enc := o.par 0 % 4
  let qty := bitsAt (o.par 0) 4 2
  o.par 0 = enc + 16 * qty &&
  (if enc = 2 then decide (qty ≤ 1) && decide (1 ≤ o.par 1 ∧ o.par 1 ≤ (if qty = 0 then 256 else 100))
   else qty = 0 && o.par 1 = 0) &&
  s.storeOk o (o.par 2) (o.par 4) (o.par 5) (o.par 6)

/-- CALENDAR_ADD: R602, Table KPR-2. -/
def calendarOk (n : Nat) (o : Op) : Bool :=
  let act := o.par 2 % 8
  let k := bitsAt (o.par 2) 4 4
  decide (o.par 1 < 65536) && o.par 2 = act + 16 * k && decide (act ≤ 2) && decide (o.par 3 < 64) &&
  (if act = 0 then o.par 0 = 0 && o.par 1 = 0 && k = 0 else o.par 3 = 0 && !(n = 0 && k ≠ 0))

/-- The tests Table HLT-1 gives for an object. -/
def testsOf (obj : Nat) : Nat :=
  if obj = 0xFFFF then 0xF00
  else match objClass obj with
  | 0 => 0xC | 1 => 0xC | 2 => 3 | 3 => 0x40 | 4 => 0x10 | 7 => 0x20
  | _ => 0

/-- Parameters of each opcode (Table OPS-4 and the chapters it names). -/
def State.paramCheck (s : State) (n : Nat) (o : Op) : Option (Nat × Nat) :=
  let p := o.par
  let b4 := fun (ok : Bool) => if ok then none else bad 4
  match o.opcode with
  | 0x10 => acquireCheck o
  | 0x12 => soundCheck o
  | 0x19 => b4 (decide (p 0 ≤ 1))
  | 0x1C => b4 (p 0 = 0 || p 0 = 32)
  | 0x1D => b4 (decide (p 0 ≤ 7))
  | 0x20 => b4 (s.soakCheck o)
  | 0x21 => b4 (s.captureCheck o)
  | 0x22 => b4 (decide (p 0 ≤ 7) && decide (p 2 ≤ 2) && insertOk (p 4))
  | 0x28 => b4 (decide (p 0 ≤ 32) || p 0 = 64 || p 0 = 65 || p 0 = 0xFF)
  | 0x29 => b4 (if p 0 = 0x80 then decide (p 1 < 2 ^ 24) && decide (p 2 < 64) && decide (p 3 < 2 ^ 20)
                else (p 0 = 0 || p 0 = 64 || p 0 = 0xFF || p 0 = 0x81) && p 1 = 0 && p 2 = 0 && p 3 = 0)
  | 0x30 => b4 (decide (p 0 < 65536))
  | 0x31 => b4 (decide (p 0 < 65536))
  | 0x32 => b4 (decide (p 0 < 65536))
  | 0x38 => refuse (p 0 = 0 || decide (65536 ≤ p 0)) (bad 4) <| refuse (Nat.land (p 0) (testsOf o.obj) != p 0) (unsup 3) none
  | 0x39 => refuse (decide (2 < p 0)) (bad 4) <| refuse (p 0 = 2 && objClass o.obj = 0) (unsup 3) none
  | 0x3C => b4 (decide (p 0 ≤ 3))
  | 0x3D => refuse (decide (4 < p 0)) (bad 4) <| refuse (decide (3 ≤ p 0) && s.rd GL_MEM_CELLAR_GIB = 0) (unsup 3) none
  | 0x3E => refuse (!calendarOk n o) (bad 4) <|
      refuse (p 2 % 8 = 1 && n ≠ 0 && !s.flag KP_PWR_CTL_USER_WAKE) (unsup 3) none
  | 0x3F => b4 (decide (p 0 ≤ 5) && (if p 0 = 2 then decide (p 2 < 65536) else p 2 = 0))
  | _ => none

/-- OBJ: 0 where the opcode names none; else a valid ID (R20) of a class the opcode takes. -/
def objCheck (o : Op) : Option (Nat × Nat) :=
  if o.opcode = 0x3F ∧ 5 < o.par 0 then bad 4
  else match opClasses o with
  | none => if o.obj = 0 then none else bad 4
  | some cs =>
    if o.opcode = 0x38 ∧ o.obj = 0xFFFF then none
    else if !objValid o.obj then bad 2
    else if cs ≠ [] ∧ !cs.contains (objClass o.obj) then bad 2 else none

/-- Check 2 of Table OPS-7: the record is well formed, in the order the table lists its parts. -/
def State.formCheck (s : State) (n : Nat) (b : List Byte) (o : Op) : Option (Nat × Nat) :=
  match opWords o.opcode with
  | none => unsup 1
  | some k =>
    refuse (n != 0 && isManagement o.opcode) (unsup 2) <|
    refuse (recReserved b) (bad 1) <|
    refuse (Nat.land o.flags (flagsAllowed o.opcode) != o.flags) (bad 6) <|
    match objCheck o with
    | some r => some r
    | none =>
      refuse ((o.p.drop k).any (· ≠ 0) || (if opHaddr o.opcode then o.haddr % 8 ≠ 0 else o.haddr ≠ 0)) (bad 4) <|
      match s.paramCheck n o with
      | some r => some r
      | none => refuse (s.op? n o.tag).isSome (bad 3) none

/-! ### Checks 3 to 6 -/

/-- Check 3 (R150): quota, and the four control operations. -/
def State.quotaCheck (s : State) (n : Nat) (o : Op) : Option (Nat × Nat) :=
  if isControl o.opcode then
    (if 4 ≤ (s.ops.filter fun x => x.sess = n && !x.refused && isControl x.opcode).length then some (eBusy, 0) else none)
  else if s.rd SES_CTL_QUOTA n ≤ s.inFlight n then some (eQuota, 0) else none

/-- The session owns an object: a Chart range by its first block (R394), a configured group (R423). -/
def State.owns (s : State) (n o : Nat) : Bool :=
  if objClass o = 3 then (match s.rangeOf? o with | some r => r.sess = n | none => false)
  else if objClass o = 9 then s.ownerOf o = n && (s.grp (objIndex o)).cfg ≠ []
  else s.objOwner o = n

/-- What a watcher may do on a watched slice (R58, R306). -/
def watchMay (o : Op) : Bool :=
  (o.opcode = 0x3F) || o.opcode = 0x20 ||
    (o.opcode = 0x12 && o.par 0 % 256 ≠ 0x10 && o.par 0 % 256 ≠ 0x42 && !(o.par 0 % 256 = 0x40 && (o.par 2).testBit 31))

/-- Check 4: ownership. -/
def State.ownerOk (s : State) (n : Nat) (o : Op) : Bool :=
  let p := o.par
  match o.opcode with
  | 0x3E => p 2 % 8 ≠ 0 || p 3 / 4 = n
  | _ =>
    if o.opcode = 0x38 ∧ o.obj = 0xFFFF then n = 0
    else match opObj? o with
    | none => true
    | some x =>
      let own := s.owns n x || (o.opcode = 0x1C && (s.grp (objIndex x)).cfg = []) ||
        (match objSlice? x with | some i => s.watches n i && watchMay o | none => false)
      own && (match o.opcode with
        | 0x10 => (acqSlices o).all fun i => s.owns n (sliceObj i)
        | 0x12 => !(p 0 % 256 = 0x40 && (p 2).testBit 31) || s.entryOwner (bitsAt (p 2) 0 13) = n
        | 0x20 => (List.range (soakCount o)).all (fun j => s.owns n (0x8000 + soakFirst o + j)) &&
            (p 2 = 0 || (s.owns n (p 2) && s.owns n (p 4)))
        | 0x21 => s.owns n (p 2)
        | _ => true)

/-- The power estimate (R145, Table OPS-6), mW. -/
def estimate (o : Op) : Nat :=
  match o.opcode with
  | 0x10 => fmtEstimate (o.par 0)
  | 0x12 => if o.par 0 % 256 = 0x10 then 350 else 50
  | 0x20 => 180
  | 0x21 => if o.par 4 % 2 = 1 then 140 else 60
  | 0x38 => 150
  | 0x39 => 400
  | _ => 0

/-- Check 5: power (R149, R574). -/
def State.powerOk (s : State) (n : Nat) (o : Op) : Bool :=
  estimate o = 0 ||
  (!s.deficit &&
    (if n = 0 then decide (s.charged 0 + estimate o + s.reserves ≤ s.allowance)
     else decide (s.charged n + estimate o ≤ s.rd SES_POWER_RESERVE_MW n)))

/-- Operations of a session in flight. -/
def State.opsOf (s : State) (n : Nat) : List Op := s.ops.filter fun o => o.sess = n && !o.refused

/-- A SELFTEST's needs and consent (R648). -/
def State.testFree (s : State) (o : Op) : Bool :=
  let m := o.par 0
  let intr := flagged flagIntrusive o
  if o.obj = 0xFFFF then Nat.land m 0x300 = 0 || intr
  else
    let i := objIndex o.obj
    match objClass o.obj with
    | 2 => (s.helm i).ps = .empty || ((s.helm i).ps = .loaded && intr)
    | 4 => let c := s.chute i
           c.consumer = 0 && c.opened = [] && c.held = [] && c.hidden = []
    | 7 => !s.patGen i && !s.patChk i
    | 3 => true
    | _ =>
      let l := s.rd LINE_STAT_LSTATE ((objSlice? o.obj).getD 0)
      (!m.testBit 2 || l = 0 || (l = 2 && intr)) && (!m.testBit 3 || l = 0)

/-- Check 6: the object is free (R154), and the refusals that its state brings at admission. -/
def State.objectFree (s : State) (n : Nat) (o : Op) : Bool :=
  let mine := s.opsOf n
  let l := s.rd LINE_STAT_LSTATE ((objSlice? o.obj).getD 0)
  !(isLong o.opcode && mine.any fun x => x.opcode = o.opcode && x.obj = o.obj) &&
  (match o.opcode with
   | 0x18 => !(mine.any fun x => x.opcode = 0x19)
   | 0x19 => !(mine.any fun x => x.opcode = 0x19)
   | 0x10 => (acqSlices o).all (fun i => s.rd LINE_STAT_LSTATE i = 0) &&
       !(mine.any fun x => x.opcode = 0x10 && (acqSlices x).any (acqSlices o).contains)
   | 0x11 => l ≠ 3
   | 0x12 =>
     (match o.par 0 % 256 with
      | 0x10 => l ≠ 1 && (l = 0 || flagged flagIntrusive o)
      | 0x42 => flagged flagIntrusive o
      | _ => true)
   | 0x20 => !(mine.any fun x => x.opcode = 0x20 && decide (soakFirst x < soakFirst o + soakCount o ∧ soakFirst o < soakFirst x + soakCount x))
   | 0x38 => s.testFree o
   | 0x39 => l = 0 || (l = 2 && flagged flagIntrusive o)
   | _ => true)

/-- The checks 1 to 6 of Table OPS-7 on a record of Sn. -/
def State.admitCheck (s : State) (n : Nat) (b : List Byte) (o : Op) : Option (Nat × Nat) :=
  let st := s.sesState n
  refuse (!(st = 2 || (st = 1 && (o.opcode = 0 || o.opcode = 0x3F)))) (some (eBusy, 0)) <|
  match s.formCheck n b o with
  | some r => some r
  | none =>
    match s.quotaCheck n o with
    | some r => some r
    | none =>
      refuse (!s.ownerOk n o) (some (eNotOwner, 0)) <|
      refuse (!s.powerOk n o) (some (eAllowance, 0)) <|
      refuse (!s.objectFree n o) (some (eBusy, 0)) none

/-- Host bytes an operation reads before its work (R90, R205, R401, R424); an impossible count reads nothing. -/
def hostBytes (o : Op) : Nat :=
  match o.opcode with
  | 0x01 => 16 * o.par 1
  | 0x03 => 16 * o.par 5
  | 0x08 => if o.par 0 ≤ 24772 then o.par 0 else 0
  | 0x18 => if o.par 1 ≤ 256 then o.par 1 * (if (o.par 2).testBit 1 then 32 else 16) else 0
  | 0x1C => o.par 0
  | _ => 0

end Sys2Proof.Machine
end

