-- ==== Sys2Proof/Machine/Views.lean ====
section
/-! DEFINITION. Register words as a read shows them: the fields a block holds elsewhere than in `State.regs` (counts,
states, times and usage that other state determines) are put into the word. -/

namespace Sys2Proof.Machine

open Reg

/-- A word with one field set. -/
def Fld.put (f : Fld) (v w : Nat) : Nat := setBitsAt w f.lsb f.width v

/-! ### Global block -/

/-- The slice floor (R619). -/
def State.sliceFloor (s : State) : Nat :=
  let on := (List.range 8).filter fun i => [1, 2].contains (s.rd LINE_STAT_LSTATE i)
  if on.any fun i => fmtBonded (s.fmt i) then 2 else if on.any fun i => 1300 ≤ fmtEstimate (s.fmt i) then 1 else 0

/-- SES_SCRUB_STAT (Table SES-14): sessions with a release in scrub, and the engines at work. -/
def State.scrubPending (s : State) : Nat :=
  (List.range 16).foldl (fun v n => v + boolNat (s.own.scrubs.any fun r => r.sess = n) * 2 ^ n) 0

def State.scrubEngines (s : State) : Nat :=
  (List.range 5).foldl (fun v e => v + boolNat (s.own.scrubs.any fun r => decide (s.clock < r.ends.getD e 0)) * 2 ^ e) 0

/-- Global registers with their computed fields. -/
def State.globView (s : State) (o w : Nat) : Nat :=
  match o with
  | 0x10 => GL_LINK_STAT_PERST.put (boolNat s.host.perst) (GL_LINK_STAT_TAGS_BUSY.put s.host.reads.length w)
  | 0x3C => CP_STAT_SLICE_FLOOR.put s.sliceFloor w
  | 0x40 => s.tm.device
  | 0x1F00 => SES_MAPC_INV_BUSY.put (boolNat s.own.invPending) w
  | 0x1F04 => SES_SCRUB_STAT_ENGINES.put s.scrubEngines (SES_SCRUB_STAT_PENDING.put s.scrubPending w)
  | 0xA010 => MX_STAT_CRED_WAIT.put (boolNat (s.host.staging ≠ [])) (MX_STAT_STAGE_KIB.put ((s.stagingUsed + 1023) / 1024) w)
  | 0x490040 => s.chFc
  | 0x509008 => CU_FREE_CFREE.put (s.sharedFree 1) (CU_FREE_LFREE.put (s.sharedFree 0) w)
  | _ => w

/-! ### Sessions -/

/-- A session's quota usage and state in its own words. -/
def State.sesPfView (s : State) (n o w : Nat) : Nat :=
  match o with
  | 0x0 => SES_CTL_STATE.put (s.sesState n) w
  | 0x4 => SES_POWER_CHARGED_MW.put (s.charged n) w
  | 0x18 => w + 0x1FFF
  | _ => w

/-- The session control words of Sn; its state and quota stand first in word 0 as in SES_CTL (Table SES-15). -/
def State.sesView (s : State) (n o w : Nat) : Nat :=
  match o with
  | 0x0 => SES_WORD_IN_FLIGHT.put (s.inFlight n) (SES_CTL_QUOTA.put (s.rd SES_CTL_QUOTA n) (SES_CTL_STATE.put (s.sesState n) w))
  | 0x14C => CQ_STAT_RESERVED_SLOTS.put (s.slotsReserved n) w
  | _ => w

/-! ### Slices and Helms -/

/-- Word `k` of the defect registers of Table OVD-9. -/
def defectWord (v k : Nat) : Nat := bitsAt v (32 * k) 32

def State.sliceView (s : State) (i o w : Nat) : Nat :=
  if 0x200 ≤ o ∧ o < 0x220 then defectWord (s.ovh i).dcl ((o - 0x200) / 4)
  else if 0x220 ≤ o ∧ o < 0x240 then defectWord (s.ovh i).latch ((o - 0x220) / 4)
  else if 0x240 ≤ o ∧ o < 0x260 then defectWord (s.ovh i).prog ((o - 0x240) / 4)
  else w

def State.helmView (s : State) (h o w : Nat) : Nat :=
  let m := s.helm h
  match o with
  | 0x0 => HM_STAT_KIND.put (match m.run with | some r => r.kind | none => m.lastKind)
      (HM_STAT_PC.put m.pc (HM_STAT_PSTATE.put m.ps.code w))
  | 0x8 => HM_EVQ_DEPTH.put m.queue.length w
  | _ => w

/-! ### Chart, Chutes, pools, points, groups -/

def State.entryView (s : State) (e o w : Nat) : Nat :=
  if o < 0x10 then bitsAt (s.ent e).wa (8 * o) 32 else if o < 0x20 then bitsAt (s.ent e).wb (8 * (o - 0x10)) 32 else w

def State.chuteView (s : State) (c o w : Nat) : Nat :=
  match o with
  | 0x0 => s.cuStat c
  | 0xC => CU_CON_OWN.put (boolNat ((s.chute c).consumer = 3)) w
  | 0x10 => match (s.chute c).pop with | some e => e.data | none => 0
  | 0x18 => match (s.chute c).pop with
      | some e => CU_POP_GAP.put (boolNat e.gap) (CU_POP_EOP.put (boolNat e.eop) (CU_POP_SOP.put (boolNat e.sop) 1))
      | none => 0
  | _ => w

def State.poolView (s : State) (n o w : Nat) : Nat :=
  match o with
  | 0x0 => CU_POOL_L_USED.put (s.cratesHeld n 0) w
  | 0x4 => CU_POOL_C_USED.put (s.cratesHeld n 1) w
  | _ => w

def State.pointView (s : State) (p o w : Nat) : Nat :=
  if o = 0x8 then s.pmStat p
  else if 0x40 ≤ o ∧ o < 0x80 then leAt (binRecord (s.pt p) false (s.pt p).cur15) (o - 0x40) 4
  else w

/-- One entry of a group's log (R444). -/
def logBytes (e : Nat × Nat × Nat × Nat) : List Byte :=
  leBytes 6 e.1 ++ leBytes 1 e.2.1 ++ leBytes 1 0 ++ leBytes 4 e.2.2.1 ++ leBytes 4 e.2.2.2

/-- Slot `i` of a group's circular log; a slot never written reads 0. -/
def Group.slot (x : Group) (i : Nat) : List Byte :=
  let back := (x.logN + 31 - i) % 32
  match x.log[back]? with
  | some e => logBytes e
  | none => leBytes 16 0

def State.groupView (s : State) (g o w : Nat) : Nat :=
  let x := s.grp g
  if o = 0xC then (match x.wtr with | some t => (t - s.clock + 999999999) / 1000000000 | none => 0)
  else if 0x200 ≤ o ∧ o < 0x400 then leAt (x.slot ((o - 0x200) / 16)) (o % 16) 4
  else w

/-! ### K-die -/

/-- Quarter seconds left of a bay's RETRY wait. -/
def State.retryLeft (s : State) (b : Nat) : Nat :=
  match (s.bay b).retryAt with
  | some t => (t - s.clock + 249999999) / 250000000
  | none => 0

def State.kdieView (s : State) (o w : Nat) : Nat :=
  if o = 0x600 then s.tm.keeper
  else if 0x500 ≤ o ∧ o < 0x600 ∧ o % 0x40 = 0xC then BY_STAT_RETRY_LEFT.put (s.retryLeft ((o - 0x500) / 0x40)) w
  else w

/-- The register at offset `o` of instance `i` of a block, as a read shows it before any effect of the read. -/
def State.view (s : State) (r : Region) (i o : Nat) : Nat :=
  let w := s.word r i o
  match r with
  | .glob => s.globView o w
  | .sesPf => s.sesPfView i o w
  | .ses => s.sesView i o w
  | .slice => s.sliceView i o w
  | .sliceHS => s.sliceView i o w
  | .sliceLP => s.sliceView i o w
  | .helm => s.helmView i o w
  | .entry => s.entryView i o w
  | .chute => s.chuteView i o w
  | .pool => s.poolView i o w
  | .point => s.pointView i o w
  | .group => s.groupView i o w
  | .kdie => s.kdieView o w
  | .pu => w

/-- BC_SRC(k) (Tables BCN-8 and REG-4). -/
def State.bcSrc (s : State) (k : Nat) : Nat :=
  if srcReserved k then 0
  else
    let x := s.source k
    let r := s.routeOf k
    x.st + boolNat x.en * 4 + r.mode % 2 * 8 + r.target % 64 * 16 + r.mask % 16 * 1024 + x.prio % 4 * 2 ^ 14 +
      boolNat (srcFixed k) * 2 ^ 16

end Sys2Proof.Machine
end

