-- ==== Sys2Proof/Machine/LinkBase.lean ====
section
/-! DEFINITION. The PCIe endpoint's shared operations: reads of host memory and their tags (R102-R106), the fetch of
submission records (R132-R138), and completion records on their way to the host (R64, R101, R108, R139). -/

namespace Sys2Proof.Machine

open Reg

/-- No dump is written and FAULT_HOLD does not hold the device (chapter 22). -/
def State.working (s : State) : Bool := s.ready && s.health.dump.isNone && !s.flag LG_STAT_HOLD && s.boot.phase = 0

/-- The link carries requests: L0, or L1 that a request leaves (GL_LINK_STAT.LINK 1 and 2); L1.2 is left by CLKREQ_N
(R118). -/
def State.linkCarries (s : State) : Bool := s.ready && (s.rd GL_LINK_STAT_LINK = 1 || s.rd GL_LINK_STAT_LINK = 2)

/-- The function issues DMA and MSI-X: Bus Master Enable is 1 and no FLR of it is under way (R106, Table HST-5). -/
def State.funcCarries (s : State) (n : Nat) : Bool :=
  s.linkCarries && (s.fn n).bme && s.fnEnabled n && (s.fn n).flr.isNone && !(n = 0 && s.host.d3hot)

/-- The link carried something: its idle time starts over and it is in L0 (R116). -/
def State.linkUsed (s : State) : State :=
  let s := if s.rd GL_LINK_STAT_LINK = 2 || s.rd GL_LINK_STAT_LINK = 3 then s.wr GL_LINK_STAT_LINK 1 else s
  { s with host := { s.host with idleSince := s.clock, clkreqLow := true } }

/-- A TLP goes out, or comes in (counters 216 and 217); an inbound one brings CORE to Run (R610). -/
def State.tlpOut (s : State) : State := s.linkUsed.count 216
def State.tlpIn (s : State) : State := if s.rd GL_LINK_STAT_LINK = 0 then s else (s.linkUsed.domRun 0).count 217

/-! ### Reads of host memory -/

/-- The tag a read of function `n` takes: a reserved one first (R102). -/
def State.freeTag? (s : State) (n : Nat) : Option Nat :=
  ([2 * n, 2 * n + 1] ++ (List.range 32).map (· + 32)).find? fun t => !s.host.reads.any fun r => r.tag = t

/-- A read of host memory goes out; with no free tag it waits. -/
def State.issueRead (s : State) (n : Nat) (p : ReadFor) (addr len : Nat) : State :=
  match s.freeTag? n with
  | none => s
  | some t =>
    let r : HostRead := { tag := t, func := n, purpose := p, len := len, issued := s.clock, abandoned := false, discard := false }
    (({ s with host := { s.host with reads := s.host.reads ++ [r] } } : State).emit (.hostRead t n addr len)).tlpOut

/-- The Max Read Request Size in use (Table HST-1). -/
def mrrs : Nat := 512

/-- Entries of a submission ring. -/
def State.sqSize (s : State) (n q : Nat) : Nat := 2 ^ ringLog2 (s.rd SQ_CFG_LOG2_SIZE n q)

/-- A read for this purpose is under way. -/
def State.reading (s : State) (p : ReadFor) : Bool := s.host.reads.any fun r => r.purpose = p && !r.abandoned

/-- The session takes doorbells and has its records fetched: KEYLESS or OPEN (Table SES-1). -/
def State.sesTakes (s : State) (n : Nat) : Bool := s.sesState n = 1 || s.sesState n = 2

/-- Records of ring `q` that a fetch asks for: available, up to 8, and no wrap (R135). -/
def State.fetchCount (s : State) (n q : Nat) : Nat :=
  let h := s.rd SQ_STAT_HEAD n q
  let t := s.rd SQ_STAT_TAIL n q
  min 8 (if h ≤ t then t - h else s.sqSize n q - h)

/-- A fetch goes out for a ring that has records to fetch and none fetched (R135, R104, R148). -/
def State.fetchRing (s : State) (n q : Nat) : State :=
  if s.flag SQ_CFG_EN n q && (s.sess n).fetched.getD q [] = [] && !s.reading (.fetch n q) && !(s.sess n).fetchHold.testBit q &&
     !s.flag CQ_STAT_HELD n && s.fetchCount n q ≠ 0 then
    s.issueRead n (.fetch n q) (s.rd SQ_BASE_ADDR n q * 4096 + 64 * s.rd SQ_STAT_HEAD n q) (64 * s.fetchCount n q)
  else s

/-- A RUNNING operation reads its host data piece by piece. -/
def State.readOp (s : State) (o : Op) : State :=
  if o.live && o.active && o.started && o.want ≠ 0 && !s.reading (.data o.sess o.tag) then
    s.issueRead o.sess (.data o.sess o.tag) (o.haddr + o.data.length) (min mrrs o.want)
  else s

/-- The reads that Sn has a use for go out. -/
def State.pump (s : State) (n : Nat) : State :=
  if s.working && s.funcCarries n && s.sesTakes n then
    let s := [0, 1, 2, 3].foldl (fun s q => s.fetchRing n q) s
    (s.ops.filter fun o => o.sess = n).foldl (fun s o => s.readOp o) s
  else s

/-- A tag has come free: whoever waits for one reads. -/
def State.pumpAll (s : State) : State := (List.range 16).foldl (fun s n => s.pump n) s

/-- The read of a tag is over. -/
def State.dropRead (s : State) (t : Nat) : State :=
  { s with host := { s.host with reads := s.host.reads.filter fun r => r.tag ≠ t } }

/-- The read that a tag carries and that still waits for its completion. -/
def State.waiting? (s : State) (t : Nat) : Option HostRead := s.host.reads.find? fun r => r.tag = t && !r.abandoned

/-- A host error is counted and its source fires (Table HST-12, source 704). -/
def State.hostErr (s : State) (f : Fld) : State := (s.bump f).fireFree 704

/-- A read is abandoned: its tag stays quarantined (R105); the fetch waits for the next doorbell (R104), or the operation
completes E_TIMEOUT with the cause (R103), unless its data would be discarded and read again (R106, R110). -/
def State.abandon (s : State) (r : HostRead) (cause : Nat) : State :=
  let s := { s with host := { s.host with reads := s.host.reads.map fun x => if x.tag = r.tag then { x with abandoned := true } else x } }
  match r.purpose with
  | .fetch n q =>
    let x := s.sess n
    s.setSess n { x with fetchHold := setBitsAt x.fetchHold q 1 1 }
  | .data n t => if r.discard then s else s.endOp n t eTimeout cause

/-! ### Completion records -/

/-- The final state of a status (Table OPS-10, R158). -/
def statusState (st : Nat) : Nat := if st = doneOk ∨ st = donePartial then 4 else if st = doneCancelled then 5 else 6

/-- The completion record of an ended operation (Table OPS-2) with the ring's phase. -/
def complRecord (o : Op) (e : OpEnd) (phase : Nat) : List Byte :=
  leBytes 2 o.tag ++ leBytes 1 e.status ++ leBytes 1 (phase + o.ring % 4 * 2 + boolNat (e.status = eDeferred) * 8) ++
    leBytes 4 e.result ++ leBytes 6 e.time ++ leBytes 2 o.obj

/-- An ended operation whose record is not staged yet. -/
def Op.owesRecord (o : Op) : Bool := o.fin.isSome && o.slots ≠ 0

/-- The order of completion records: by device time, then by admission (R139). -/
def Op.before (a b : Op) : Bool :=
  match a.fin, b.fin with
  | some x, some y => decide (x.time < y.time ∨ (x.time = y.time ∧ a.seq < b.seq))
  | _, _ => false

/-- The operation whose record is written next in Sn's ring (R139). -/
def State.nextEnded? (s : State) (n : Nat) : Option Op :=
  (s.ops.filter fun o => o.sess = n && o.owesRecord).foldl (fun b o => match b with
    | none => some o
    | some x => if o.before x then some o else some x) none

/-- No rule states the RESULT of these ends: a refusal or failure whose status Table OPS-10 gives no result word. -/
def resultOpen (o : Op) (e : OpEnd) : Bool :=
  e.result = 0 && [eBusy, eNotOwner, eQuota, eNoCrate, eMapFault, eReset, eDeferred, eAllowance, eDeviceFault].contains e.status &&
    !([0x10, 0x18, 0x20, 0x21, 0x22].contains o.opcode)

/-- The end with its RESULT, a free value where no rule states it. -/
def State.stated (s : State) (o : Op) (e : OpEnd) : OpEnd × State :=
  if resultOpen o e then ({ e with result := s.drawn % 2 ^ 32 }, s.draw) else (e, s)

/-- The completion record goes into staging's reserve, the ring advances, and vector 1 follows it (R101, R137). A refused
record, and the interim one of a deferral, was never in flight. -/
def State.pushRecord (s : State) (o : Op) (e : OpEnd) : State :=
  let n := o.sess
  let tail := s.rd CQ_STAT_TAIL n
  let ph := s.rd CQ_STAT_PHASE n
  let wrap := tail + 1 = 2 ^ ringLog2 (s.rd CQ_CFG_LOG2_SIZE n)
  let (e, s) := s.stated o e
  let s := s.pushStage (.record n (s.rd CQ_BASE_ADDR n * 4096 + 16 * tail) (complRecord o e ph))
  let s := s.pushStage (.msix n 1)
  let s := (s.wr CQ_STAT_TAIL (if wrap then 0 else tail + 1) n).wr CQ_STAT_PHASE (if wrap then 1 - ph else ph) n
  let s := (s.setSess n { s.sess n with cqWritten := (s.sess n).cqWritten + 1 }).count 154
  { s with ops := if o.refused then s.ops.filter (fun x => !decide (x = o))
                  else s.ops.map fun x => if x = o then { x with slots := 0 } else x }

/-- What the next ended operation of Sn writes: its data for HADDR as staging has room (R101, R108, R526), then its
record. -/
def State.endNext (s : State) (n : Nat) : State :=
  match s.nextEnded? n with
  | none => s
  | some o =>
    match o.fin with
    | none => s
    | some e =>
      if o.outp = [] then s.pushRecord o e
      else
        let k := min o.outp.length (65536 - s.stagingUsed)
        if k = 0 then s
        else
          let s := s.pushStage (.data n o.haddr (o.outp.take k))
          let o' := { o with outp := o.outp.drop k, haddr := o.haddr + k }
          let s := { s with ops := s.ops.map fun x => if x = o then o' else x }
          if o'.outp = [] then s.pushRecord o' e else s

/-- Everything that Sn's ended operations can write now, in the order of their stamps (R110). -/
def State.endAll (s : State) (n : Nat) : State :=
  (s.ops.filter fun o => o.sess = n && o.owesRecord).foldl (fun s _ => s.endNext n) s

/-- A completion record has reached the host: its operation is no longer in flight (R140). -/
def State.recordWritten (s : State) (n : Nat) (b : List Byte) : State :=
  { s with ops := s.ops.filter fun o => !(o.sess = n && o.tag = leAt b 0 2 && !o.refused && o.fin.isSome && o.slots = 0 &&
      (match o.fin with | some e => e.status = leAt b 2 1 && e.time = leAt b 8 6 | none => false)) }

end Sys2Proof.Machine
end

