-- ==== Sys2Proof/Machine/Engine.lean ====
section
/-! DEFINITION. The operation engine: doorbells, the fetch of records, admission, start and end of operations, and the
host link's answers (chapters 03 and 04). -/

namespace Sys2Proof.Machine

open Reg

/-! ### Doorbells -/

/-- A doorbell or ring write that is ignored and counted (R133-R135). -/
def State.ringErr (s : State) (n q : Nat) : State := s.bump SQ_STAT_RING_ERR n q

/-- A doorbell of Sn reaches the device: its function is enabled and its session is KEYLESS or OPEN; else it is ignored
(Table HST-5, R628). -/
def State.bellOn (s : State) (n : Nat) : Bool := s.working && s.fnEnabled n && (s.fn n).flr.isNone && s.sesTakes n

/-- SQ doorbell (R135): a tail beyond the ring, or a disabled ring, is counted; it also ends the wait of a failed fetch
(R104). -/
def State.sqBell (s : State) (n q tail : Nat) : State :=
  if !s.bellOn n then s
  else if !s.flag SQ_CFG_EN n q || decide (s.sqSize n q ≤ tail) then s.ringErr n q
  else
    let s := s.setSess n { s.sess n with fetchHold := 0 }
    (s.wr SQ_STAT_TAIL tail n q).pump n

def execSqDoorbell (n : Fin 16) (q : Fin 4) (tail : Fin 4096) (s : State) : Res := .next (s.tlpIn.sqBell n q tail)

/-- How far a head doorbell moves a ring of `size` records of which `out` are out and `rd` were consumed before; `none`:
past the records written, or beyond the ring. -/
def headMove (size rd out head : Nat) : Option Nat :=
  if size ≤ head then none
  else
    let d := (head + size - rd % size) % size
    if out < d then none else some d

/-- CQ doorbell (R136): the slots up to the new head are free, and held fetching resumes (R148). -/
def State.cqBell (s : State) (n head : Nat) : State :=
  let x := s.sess n
  if !s.bellOn n then s
  else if !s.flag CQ_CFG_EN n then s.ringErr n 0
  else match headMove (2 ^ ringLog2 (s.rd CQ_CFG_LOG2_SIZE n)) x.cqRead (x.cqWritten - x.cqRead) head with
    | none => s.ringErr n 0
    | some d =>
      let s := s.setSess n { x with cqRead := x.cqRead + d }
      if d = 0 then s else (s.wr CQ_STAT_HELD 0 n).pump n

def execCqDoorbell (n : Fin 16) (head : Fin 4096) (s : State) : Res := .next (s.tlpIn.cqBell n head)

/-- A completion of a source from its event queue (R537): the record that carries it is consumed. -/
def State.eqComplete (s : State) (n upTo : Nat) : State :=
  { s with beacon := { s.beacon with sources := s.beacon.sources.foldl (fun m e =>
      if 2 ≤ e.2.st ∧ e.2.holder = n ∧ e.2.pos < upTo then smSet Source.init m e.1 e.2.complete else m) s.beacon.sources } }

/-- EQ_HEAD doorbell (R537, R547, R548): sources up to the new head complete, an overflow record due is written, ARM is
set, and vector 0 follows at once when records remain. -/
def State.eqBell (s : State) (n head : Nat) : State :=
  let x := s.sess n
  if !s.bellOn n then s
  else if !s.flag EQ_CFG_EN n then s.ringErr n 0
  else match headMove (s.eqSize n) x.eqRead x.eqUsed head with
    | none => s.ringErr n 0
    | some d =>
      let s := (s.setSess n { x with eqRead := x.eqRead + d }).eqComplete n (x.eqRead + d)
      let s := (s.setFlag EQ_STAT_ARM true n).eqOverflow n
      if s.flag EQ_STAT_ARM n && (s.sess n).eqUsed ≠ 0 && (s.fn n).bme then
        (s.pushStage (.msix n 0)).setFlag EQ_STAT_ARM false n else s

def execEqHeadDoorbell (n : Fin 16) (head : Fin 4096) (s : State) : Res := .next (s.tlpIn.eqBell n head)

/-! ### Fetch and host reads -/

/-- A list cut into pieces of 64 bytes. -/
def cut64 : Nat → List Byte → List (List Byte)
  | 0, _ => []
  | k + 1, l => sliceBytes l 0 64 :: cut64 k (l.drop 64)

/-- The data of a fetch arrives, or the fetch fails (`none`: R104): the records wait for admission and HEAD passes them.
Data of a function whose Bus Master Enable was cleared is discarded, and the fetch goes out again (R106). -/
def execSubmissionFetchDone (tag : Fin 64) (data : Option (List Byte)) (s : State) : Res :=
  match s.waiting? tag with
  | none => .next s
  | some r =>
    match r.purpose with
    | .data _ _ => .next s
    | .fetch n q =>
      let s := s.tlpIn
      match data with
      | none => .next (((s.abandon r 1).hostErr GL_HOST_ERR_BADCPL).pumpAll)
      | some d =>
        let s := s.dropRead tag
        if r.discard || !s.flag SQ_CFG_EN n q then .next s.pumpAll
        else
          let k := r.len / 64
          let x := s.sess n
          let s := s.setSess n { x with fetched := x.fetched.set q (x.fetched.getD q [] ++ cut64 k d) }
          .next ((s.wr SQ_STAT_HEAD ((s.rd SQ_STAT_HEAD n q + k) % s.sqSize n q) n q).pumpAll)

/-- Host data of an operation arrives; of a discarded read it is thrown away and read again (R106, R110). -/
def execHostReadCompletion (tag : Fin 64) (data : List Byte) (s : State) : Res :=
  match s.waiting? tag with
  | none => .next s
  | some r =>
    match r.purpose with
    | .fetch _ _ => .next s
    | .data n t =>
      let s := s.tlpIn.dropRead tag
      let s := if r.discard then s
        else s.modOp n t fun o => if o.live then { o with data := o.data ++ sliceBytes data 0 r.len, want := o.want - r.len } else o
      .next s.pumpAll

/-- A completion timeout expires (R103, R105), once the function's time has passed. -/
def execCompletionTimeout (tag : Fin 64) (s : State) : Res :=
  match s.waiting? tag with
  | none => .next s
  | some r =>
    if s.clock < r.issued + 1000000 * (s.fn r.func).ctoMs then .next s
    else .next ((((s.abandon r 0).hostErr GL_HOST_ERR_CTO).count 218).pumpAll)

/-- UR, CA or a poisoned completion (kind 0, 1, 2) ends a read (R103). -/
def execBadCompletion (tag : Fin 64) (kind : Fin 3) (s : State) : Res :=
  match s.waiting? tag with
  | none => .next s
  | some r => .next (((s.tlpIn.abandon r (kind.val + 1)).hostErr GL_HOST_ERR_BADCPL).pumpAll)

/-- A completion for an abandoned read is discarded and counted (R105). -/
def execUnexpectedCompletion (tag : Fin 64) (s : State) : Res :=
  if s.host.reads.any fun r => r.tag = tag.val && r.abandoned then .next (s.tlpIn.hostErr GL_HOST_ERR_UNEXP) else .next s

/-- The quarantine of a tag ends when the full timeout has passed since its read went out (R105). -/
def execTagQuarantineEnd (tag : Fin 64) (s : State) : Res :=
  match s.host.reads.find? fun r => r.tag = tag.val && r.abandoned with
  | none => .next s
  | some r => .next (if s.clock < r.issued + 1000000 * (s.fn r.func).ctoMs then s else (s.dropRead tag).pumpAll)

/-! ### Admission -/

/-- Rings of Sn in round-robin order, the next one first (R138). -/
def Sess.rings (x : Sess) : List Nat := (List.range 4).map fun k => (x.nextRing + k) % 4

/-- The ring whose record is admitted next. -/
def Sess.nextRec? (x : Sess) : Option (Nat × List Byte) :=
  (x.rings.find? fun q => x.fetched.getD q [] ≠ []).map fun q => (q, (x.fetched.getD q []).headD [])

/-- The session whose record is admitted next: device-wide round robin (R147). A function without Bus Master Enable, and
a session held for want of a slot, waits. -/
def State.nextSes? (s : State) : Option Nat :=
  ((List.range 16).map fun k => (s.host.nextSes + k) % 16).find? fun n =>
    s.sesTakes n && (s.fn n).bme && !s.flag CQ_STAT_HELD n && (s.sess n).nextRec?.isSome

/-- Admission runs while Unlon works and no Stow entry or E-die stop is under way (R615). -/
def State.admits (s : State) : Bool := s.working && s.rd KP_PWR_STAT_EDIE ≤ 2

def State.nextSeq (s : State) : Nat := s.ops.foldl (fun m o => max m (o.seq + 1)) 0

/-- A SELFTEST of the shared tests 8 or 9, which are deferred (R650). -/
def Op.deferred (o : Op) : Bool := o.opcode = 0x38 && o.obj = 0xFFFF && Nat.land (o.par 0) 0x300 ≠ 0

def State.deferMs (s : State) : Nat := 1000 * clamp 1 86400 (s.rd HL_CFG_DEFER_S)

/-- The record is consumed from its ring. -/
def State.consume (s : State) (n q : Nat) : State :=
  let x := s.sess n
  let s := s.setSess n { x with fetched := x.fetched.set q ((x.fetched.getD q []).drop 1), nextRing := (q + 1) % 4 }
  { s with host := { s.host with nextSes := (n + 1) % 16 } }

/-- The operation enters QUEUED and is charged (R151); a control operation starts at once; a deferred SELFTEST writes its
interim record (R650). -/
def State.admitRec (s : State) (o : Op) : State :=
  let n := o.sess
  let c := isControl o.opcode
  let o := { o with est := estimate o, slots := if o.opcode = 0x38 ∧ ¬ o.deferred then 2 else 1,
                    st := if c then .running else .queued, started := c,
                    stage := if o.deferred then 8 else 0, due := if o.deferred then some (s.inMs s.deferMs) else none }
  let interim := { o with refused := true, est := 0, stage := 0, due := none,
                          fin := some { status := eDeferred, result := 0, time := s.stamp } }
  let s := (s.count 152).count (160 + n)
  { s with ops := s.ops ++ (if o.deferred then [interim, { o with seq := o.seq + 1 }] else [o]) }

/-- One record of the next session is taken through the checks of Table OPS-7: held for want of a slot, refused with its
completion record, or admitted (R147-R151, R167). -/
def execAdmitRecord (s : State) : Res :=
  if !s.admits then .next s
  else match s.nextSes? with
    | none => .next s
    | some n =>
      match (s.sess n).nextRec? with
      | none => .next s
      | some (q, b) =>
        let o := { parseRec n q b with seq := s.nextSeq, admitTime := s.clock, admitDev := s.tm.device }
        if s.slotsFree n < (if o.opcode = 0x38 then 2 else 1) then .next (s.wr CQ_STAT_HELD 1 n)
        else
          let c := s.admitCheck n b o
          let s := s.consume n q
          match c with
          | some (status, cause) =>
            let o := { o with refused := true, fin := some { status := status, result := cause, time := s.stamp } }
            .next (({ s with ops := s.ops ++ [o] } : State).count 153 |>.pump n)
          | none => .next ((s.admitRec o).pump n)

/-! ### Start and end -/

/-- ACQUIRE, SOUND, SELFTEST and CALIBRATE, for which a SELFTEST or CALIBRATE on the same object waits (R649). -/
def intrudes (opcode : Nat) : Bool := [0x10, 0x12, 0x38, 0x39].contains opcode

/-- The operation has not started. -/
def Op.waits (o : Op) : Bool := o.live && !o.started && !isControl o.opcode

/-- Tests 8 and 9 run: nothing else starts (R650). -/
def State.quietTest (s : State) : Bool := s.ops.any fun o => o.deferred && o.live && o.active && o.started

/-- The object is free for it (R154, R649): no operation on it admitted before waits, and a SELFTEST or CALIBRATE waits
for those it must, as an intrusive SOUND and a CALIBRATE of the same slice wait for each other. -/
def State.mayStart (s : State) (o : Op) : Bool :=
  !s.quietTest &&
  (match opObj? o with
   | none => true
   | some x =>
     s.ops.all fun y =>
       !(y.live && y.sess = o.sess && y.seq < o.seq && opObj? y = some x) ||
       (!y.waits && !((o.opcode = 0x38 || o.opcode = 0x39) && intrudes y.opcode) &&
        !(o.opcode = 0x12 && flagged flagIntrusive o && (y.opcode = 0x38 || y.opcode = 0x39))))

/-- A QUEUED operation enters RUNNING and asks for its host data (R151, R154). -/
def execOperationStart (n : Fin 16) (tag : Nat) (s : State) : Res :=
  match s.op? n tag with
  | none => .next s
  | some o =>
    if o.st = .queued && o.waits && o.stage ≠ 8 && s.working && s.mayStart o then
      .next ((s.modOp n tag fun o => { o with st := .running, started := true, want := hostBytes o }).pump n)
    else .next s

/-- The ended operation of Sn whose stamp comes first writes its data, its record and its MSI-X (R101, R139), once Bus
Master Enable lets it (R108). -/
def execOperationEnd (n : Fin 16) (tag : Nat) (s : State) : Res :=
  match s.nextEnded? n with
  | none => .next s
  | some o => .next (if o.tag = tag ∧ (s.fn n).bme = true then s.endNext n else s)

/-! ### Bus Master Enable and credits -/

/-- Bus Master Enable is cleared (R106): operations move to HALTED, reads under way will be discarded. -/
def State.bmeClear (s : State) (n : Nat) : State :=
  let s := s.setFn n { s.fn n with bme := false }
  let s : State := { s with host := { s.host with reads := s.host.reads.map fun r => if r.func = n then { r with discard := true } else r } }
  { s with ops := s.ops.map fun o =>
      if o.sess = n ∧ o.live ∧ o.st ≠ .halted then { o with st := .halted, prev := o.st } else o }

/-- Bus Master Enable is set again (R110). -/
def State.bmeSet (s : State) (n : Nat) : State :=
  let s := s.setFn n { s.fn n with bme := true }
  let s : State := { s with ops := s.ops.map fun o =>
      if o.sess = n ∧ o.st = .halted then { o with st := o.prev, est := if o.fin.isSome then 0 else o.est } else o }
  (((s.endAll n).eqOverflow n).eqFlush n).pump n

def execBmeClear (n : Fin 16) (s : State) : Res := .next (if (s.fn n).bme then s.bmeClear n else s)

/-- BME_SET; with `cto`, the host has set the function's completion timeout to that many ms (Table HST-1). -/
def execBmeSet (n : Fin 16) (cto : Option Nat) (s : State) : Res :=
  if !s.ready || !s.fnEnabled n then .next s
  else
    let s := match cto with | some t => s.setFn n { s.fn n with ctoMs := t } | none => s
    .next (if (s.fn n).bme then s else s.bmeSet n)

/-- An item of staging is delivered to the host. -/
def State.deliver (s : State) (x : Stage) : State :=
  match x with
  | .data f a b => (s.emit (.hostWrite f a b)).tlpOut
  | .event f a b => (s.emit (.hostWrite f a b)).tlpOut
  | .record f a b => ((s.emit (.hostWrite f a b)).tlpOut).recordWritten f b
  | .msix f v => (s.emit (.msix f v)).tlpOut

/-- Up to `k` items leave staging in order; those of a function that may not send stay (R106). -/
def State.drain (s : State) : Nat → List Stage → List Stage → State
  | _, [], kept => { s with host := { s.host with staging := kept } }
  | 0, l, kept => { s with host := { s.host with staging := kept ++ l } }
  | k + 1, x :: l, kept => if s.funcCarries x.func then (s.deliver x).drain k l kept else s.drain (k + 1) l (kept ++ [x])

/-- Posted credits for `k` items come back and staging drains (R124, R526). -/
def execPcieCreditReturn (k : Nat) (s : State) : Res :=
  if !s.linkCarries then .next s
  else
    let s := { s with host := { s.host with creditAt := s.clock } }
    .next (s.drain k s.host.staging [])

end Sys2Proof.Machine
end

