-- ==== Sys2Proof/Machine/Query.lean ====
section
/-! DEFINITION. QUERY, by code (Table OPS-5), and NOP. The order of the fields inside codes 1, 2, 4 and of a slice's
registers is the model's (DESIGN CHOICE, log 58): the table lists what is returned and how many bytes. -/

namespace Sys2Proof.Machine

open Reg

/-- A NOP does nothing and completes DONE_OK (R44). -/
def execNop (n : Fin 16) (tag : Nat) (s : State) : Res :=
  .next (s.runOp n tag 0 (fun _ => true) fun o s => s.endOp o.sess o.tag doneOk 0)

/-- A QUERY of code `c` completes with `f`'s bytes (R143). -/
def State.query (s : State) (n tag c : Nat) (f : Op → State → List Byte × State) : State :=
  s.runOp n tag 0x3F (fun o => o.par 0 = c) fun o s => (f o s).2.endWithData o.sess o.tag (f o s).1 (o.par 1)

/-- Words of an instance of a block, 4 bytes each. -/
def State.words (s : State) (r : Region) (i : Nat) (offs : List Nat) : List Byte :=
  (offs.map fun o => leBytes 4 (s.view r i o)).flatten

/-- Code 0: GL_ID, GL_CAPS, GL_MEM. -/
def execQueryGlobal (n : Fin 16) (tag : Nat) (s : State) : Res :=
  .next (s.query n tag 0 fun _ s => (s.words .glob 0 [0, 4, 8], s))

/-- What code 1 returns, 24 bytes. -/
def State.querySession (s : State) (n : Nat) : List Byte :=
  leBytes 2 (s.sesState n) ++ leBytes 2 (s.rd SES_CTL_QUOTA n) ++ leBytes 2 (s.inFlight n) ++ leBytes 2 0 ++
  leBytes 4 (s.rd SES_POWER_RESERVE_MW n) ++ leBytes 4 (s.charged n) ++ leBytes 2 (s.rd SES_CTL_MAPC_SHARE n) ++
  leBytes 2 (s.rd CU_POOL_L_RES n) ++ leBytes 2 (s.rd CU_POOL_C_RES n) ++ leBytes 2 0

def execQuerySession (n : Fin 16) (tag : Nat) (s : State) : Res :=
  .next (s.query n tag 1 fun o s => (s.querySession o.sess, s))

/-- The state of an operation in the codes of R158. -/
def Op.code (o : Op) : Nat :=
  match o.st, o.fin with
  | .halted, _ => 3
  | _, some e => statusState e.status
  | .queued, _ => 0
  | .running, _ => 1
  | .suspended, _ => 2

/-- Code 2: state, estimate and device time of admission of the session's operation P2. What it returns for a TAG that is
not in flight no rule states: free. -/
def execQueryOperation (n : Fin 16) (tag : Nat) (s : State) : Res :=
  .next (s.query n tag 2 fun o s => match s.op? o.sess (o.par 2) with
    | some x => (leBytes 4 x.code ++ leBytes 4 x.est ++ leBytes 8 x.admitDev, s)
    | none => (leBytes 8 s.drawn ++ leBytes 8 s.draw.drawn, s.draw.draw))

/-- The status registers of a slice. -/
def State.querySlice (s : State) (i : Nat) : List Byte :=
  s.words .slice i ([0] ++ (if i < 8 then [0x10, 0x14] else [0x10, 0x20]) ++ [0x10C, 0x110] ++
    ((List.range 8).map fun k => 0x200 + 4 * k) ++ [0x30])

/-- A Helm (R209). -/
def State.queryHelm (s : State) (h : Nat) : List Byte :=
  let im := (s.helm h).image
  s.words .helm h [0, 4, 8, 0xC, 0x10] ++ leBytes 4 (match im with | some x => x.stock | none => 0) ++
    leBytes 2 (match im with | some x => x.codeWords | none => 0) ++ leBytes 1 (boolNat (s.maskBit HL_FAIL_HELM h)) ++ leBytes 5 0

/-- A Chart range (R421). -/
def State.queryRange (s : State) (r : ChartRange) : List Byte :=
  let hit := fun e => s.flag CH_STAT_MISFIT e || s.flag CH_STAT_ORPHAN e || s.flag CH_STAT_PERR e || s.flag CH_STAT_PERR_INACT e
  let map := (List.range (min 256 r.count)).foldl (fun v i => v + boolNat (hit (r.first + i)) * 2 ^ i) 0
  leBytes 4 r.first ++ leBytes 4 r.count ++ leBytes 4 (s.view .glob 0 (0x490000 + 4 * r.sess)) ++ leBytes 32 map

/-- A bay (R592). -/
def State.queryBay (s : State) (b : Nat) : List Byte :=
  leBytes 1 (s.bayState b) ++ leBytes 1 (s.rd BY_STAT_COUNT 0 b) ++ leBytes 1 (s.rd BY_HEAD_KIND 0 b) ++
    leBytes 1 (s.rd BY_HEAD_STATUS 0 b) ++ leBytes 4 (s.bayBudget b) ++ sliceBytes (s.bay b).mem 0 248

/-- A configured group (R446). -/
def State.queryGroup (s : State) (g : Nat) : List Byte :=
  sliceBytes (s.grp g).cfg 0 32 ++ s.words .group g [0, 4, 8, 0xC, 0x10, 0x14, 0x18, 0x1C] ++
    sliceBytes (((s.grp g).log.take 12).map logBytes).flatten 0 192

/-- What code 3 returns for an object. -/
def State.queryObject (s : State) (o : Nat) : List Byte :=
  let i := objIndex o
  match objClass o with
  | 0 => s.querySlice i
  | 1 => s.querySlice (8 + i)
  | 2 => s.queryHelm i
  | 3 => match s.rangeOf? o with | some r => s.queryRange r | none => []
  | 4 => s.words .chute i [0, 4, 8]
  | 5 => s.queryBay i
  | 6 => s.words .pool i [0, 4] ++ s.words .glob 0 [0x509008]
  | 7 => s.words .pu i [8] ++ leBytes 8 (s.view .pu i 0x10) ++ leBytes 8 (s.view .pu i 0x18)
  | 8 => s.pmHeader i
  | _ => s.queryGroup i

/-- Code 3: status of an owned or watched object (R144). -/
def execQueryObject (n : Fin 16) (tag : Nat) (s : State) : Res :=
  .next (s.query n tag 3 fun o s => (s.queryObject o.obj, s))

/-- Code 4: the link and the function's request limits. -/
def execQueryLink (n : Fin 16) (tag : Nat) (s : State) : Res :=
  .next (s.query n tag 4 fun o s =>
    (leBytes 2 (s.rd GL_LINK_STAT_SPEED) ++ leBytes 2 (s.rd GL_LINK_STAT_WIDTH) ++ leBytes 4 128 ++ leBytes 4 mrrs ++
      leBytes 4 (s.fn o.sess).ctoMs, s))

/-- Code 5: allowance, the session's reserve and its charge. -/
def execQueryPower (n : Fin 16) (tag : Nat) (s : State) : Res :=
  .next (s.query n tag 5 fun o s =>
    (leBytes 4 s.allowance ++ leBytes 4 (s.rd SES_POWER_RESERVE_MW o.sess) ++ leBytes 4 (s.charged o.sess), s))

end Sys2Proof.Machine
end

