-- ==== Sys2Proof/Machine/OpsEnd.lean ====
section
/-! DEFINITION. The control operations (R159-R166) and how an operation ends before its work is done. -/

namespace Sys2Proof.Machine

open Reg

/-- The slice whose ACQUIRE the operation is. -/
def State.acqSlice? (s : State) (o : Op) : Option Nat :=
  match objSlice? o.obj with
  | some i => (match (s.line i).acq with | some a => if a.sess = o.sess ∧ a.tag = o.tag then some i else none | none => none)
  | none => none

/-- A LOOP_PROBE of the operation is dropped from its slice. -/
def State.dropProbe (s : State) (o : Op) : State :=
  match objSlice? o.obj with
  | some i =>
    let x := s.line i
    if x.probe = some (o.sess, o.tag) then
      (s.setLine i { x with probe := none, probeDue := none, probeMs := none, loop := 0, loopDue := none, loopRem := none }).wr
        OV_LPRBS_HELD 0 i
    else s
  | none => s

/-- SUSPEND (9) or RESUME (10) arises on every port of its session's programs whose source object the operation names, as it
moves to SUSPENDED or leaves it (Table MSM-4). -/
def State.pauseEvent (s : State) (o : Op) (kind : Nat) : State :=
  match opObj? o with
  | none => s
  | some x => (s.portsWhere fun h q => s.helmOwner h = o.sess && q.src = x && !q.cut).foldl
      (fun s e => s.enqueue e.1 kind e.2.1 o.opcode false []) s

/-- An operation ends with `status` before its work is done, what it holds let go: DONE_CANCELLED (R164, R166, R499), or
E_RESET and E_DEVICE_FAULT at a reset or a fatal error. A CHART_SWAP whose flip is committed has ended DONE_OK (R165). -/
def State.abortOp (s : State) (o : Op) (status : Nat) : State :=
  let n := o.sess
  let t := o.tag
  let s := if o.eff = .suspended then s.pauseEvent o 10 else s
  match o.opcode with
  | 0x10 => (match s.acqSlice? o with
    | some i => s.acqEnd i status
    | none => s.endOp n t status 0xFFFF0000)
  | 0x12 => ((s.dropProbe o).modOp n t fun o => { o with data := [], outp := [] }).endOp n t status 0
  | 0x19 =>
    if o.stage = 1 then s.endOp n t doneOk (o.aux.getD 0 0)
    else (if o.started then s.wr CH_SEL_PENDING 0 0 n else s).endOp n t status 0
  | 0x20 =>
    let secs := s.soakSecs o
    let s := if o.started then s.soakEnd o (status = doneCancelled) else s
    (s.dropCap n t).endOp n t status secs
  | 0x21 =>
    let r := match s.cap? n t with | some k => k.delivered | none => 0
    (s.dropCap n t).endOp n t status r
  | 0x22 =>
    let r := (s.patResult o).2
    let s := if o.started ∧ o.stage = 1 then s.patRelease (objIndex o.obj) (patSides (o.par 2)) else s
    s.endOp n t status (if o.stage = 1 then r else 0)
  | _ => s.endOp n t status 0

/-- What is left of a deadline. -/
def State.left (s : State) (d : Option Nat) : Option Nat := d.map fun t => t - s.clock

/-- A long operation becomes SUSPENDED (Table OPS-9). `bits` and `errs` are what a PATTERN's checker compared since its
counts were last brought up to date. -/
def State.suspendOp (s : State) (o : Op) (bits errs : Nat) : State :=
  let n := o.sess
  let t := o.tag
  let set := fun (s : State) (f : Op → Op) => s.modOp n t fun o => (f o).setEff .suspended
  match o.opcode with
  | 0x10 => set (match s.acqSlice? o with
      | some i =>
        let x := s.line i
        s.setLine i { x with acq := x.acq.map fun a => { a with suspended := true, rem := s.left a.due, due := none },
                             loopRem := s.left x.loopDue, loopDue := none }
      | none => s) id
  | 0x12 => set (s.dropProbe o) fun o => { o with stage := 0, due := none, data := [], outp := [] }
  | 0x20 => (set (if o.started then s.pmScan else s) fun o =>
      { o with rem := o.due.elim 0 (· - s.clock), due := none, aux := [o.aux.getD 0 0 + (s.clock - o.aux.getD 1 s.clock), s.clock] }).pmScan
  | 0x22 =>
    let u := objIndex o.obj
    let s := if o.stage = 1 then s.patCount u bits errs else s
    set (if o.stage = 1 then s.setPat u { s.pat u with paused := true } else s) fun o =>
      { o with rem := o.due.elim 0 (· - s.clock), due := none }
  | _ => set s id

/-- A suspended operation goes back to RUNNING, or to QUEUED when it had not started (Table OPS-9). -/
def State.resumeOp (s : State) (o : Op) : State :=
  let n := o.sess
  let t := o.tag
  let set := fun (s : State) (f : Op → Op) => s.modOp n t fun o => (f o).setEff (if o.started then .running else .queued)
  let timed := fun (o : Op) => if o.rem = 0 then o else { o with due := some (s.clock + o.rem), rem := 0 }
  match o.opcode with
  | 0x10 => set (match s.acqSlice? o with
      | some i =>
        let x := s.line i
        s.setLine i { x with acq := x.acq.map fun a => { a with suspended := false, due := a.rem.map (s.clock + ·), rem := none },
                             loopDue := x.loopRem.map (s.clock + ·), loopRem := none }
      | none => s) id
  | 0x20 =>
    let s := match s.cap? n t with | some k => s.setCap { k with resumeGap := true } | none => s
    (set s fun o => { timed o with aux := [o.aux.getD 0 0, s.clock] }).pmScan
  | 0x21 => set (match s.cap? n t with | some k => s.setCap { k with resumeGap := true } | none => s) id
  | 0x22 =>
    let u := objIndex o.obj
    set (if o.stage = 1 then (s.setPat u { s.pat u with paused := false }).patSeed u else s) timed
  | _ => set s id

/-- A control operation takes effect when no earlier one of its session waits (R161); it reports its outcome in RESULT
(R159, R160). -/
def State.control (s : State) (n tag opcode : Nat) (f : Op → State → State × Nat) : State :=
  s.runOp n tag opcode (fun o => !s.ops.any fun y => y.sess = o.sess && y.live && isControl y.opcode && decide (y.seq < o.seq)) fun o s =>
    match s.op? o.sess (o.par 0) with
    | none => s.endOp o.sess o.tag doneOk 1
    | some x =>
      if !isLong x.opcode then s.endOp o.sess o.tag eUnsupported 4
      else if x.fin.isSome ∨ (x.opcode = 0x19 ∧ x.stage = 1) then s.endOp o.sess o.tag doneOk 3
      else (f x s).1.endOp o.sess o.tag doneOk (f x s).2

/-- SUSPEND (R162, Table OPS-9; Table MSM-4). -/
def execSuspend (n : Fin 16) (tag bits errs : Nat) (s : State) : Res :=
  .next (s.control n tag 0x30 fun x s => if x.eff = .suspended then (s, 2) else ((s.suspendOp x bits errs).pauseEvent x 9, 0))

/-- RESUME. -/
def execResume (n : Fin 16) (tag : Nat) (s : State) : Res :=
  .next (s.control n tag 0x31 fun x s => if x.eff = .suspended then ((s.resumeOp x).pauseEvent x 10, 0) else (s, 2))

/-- CANCEL (R162, R164): the target ends DONE_CANCELLED with what it has produced. -/
def execCancel (n : Fin 16) (tag bits errs : Nat) (s : State) : Res :=
  .next (s.control n tag 0x32 fun x s =>
    let s := if x.opcode = 0x22 ∧ x.stage = 1 then s.patCount (objIndex x.obj) bits errs else s
    (s.abortOp x doneCancelled, 0))

end Sys2Proof.Machine
end

