-- ==== Sys2Proof/Machine/Fatal.lean ====
section
/-! DEFINITION. Device-fatal errors, the Logbook and FAULT_HOLD (chapter 22). -/

namespace Sys2Proof.Machine

open Reg

/-! ### What a dump holds -/

/-- How a live operation ends at a fatal error: FAILED with E_DEVICE_FAULT and its RESULT as of detection (R672). -/
def State.faultEnd (s : State) (o : Op) : Op :=
  match (s.abortOp o eDeviceFault).op? o.sess o.tag with
  | some x => { o with fin := x.fin }
  | none => o

/-- Every live operation has ended, with a free RESULT where no rule states one. -/
def State.faultEnds (s : State) : State :=
  s.ops.foldl (fun (t : State) o =>
    let x := if o.live then s.faultEnd o else o
    match x.fin with
    | some e => let (e', t') := t.stated x e
                { t' with ops := t'.ops ++ [{ x with fin := some e', outp := [] }] }
    | none => { t with ops := t.ops ++ [x] }) { s with ops := [] }

/-- An operation placed by its stamp (R139). -/
def insertByStamp (o : Op) : List Op → List Op
  | [] => [o]
  | x :: l => if o.before x then o :: x :: l else x :: insertByStamp o l

/-- Completion records that would have gone to Sn's ring: those staged, those owed by operations that had ended, and one for
each operation the error ended (Table LOG-8). `was` are the operations as they stood before. -/
def State.faultRecords (s : State) (n : Nat) (live : Op → Bool) : List (List Byte) :=
  let staged := s.host.staging.filterMap fun x => match x with | .record f _ b => if f = n then some b else none | _ => none
  let mine := s.ops.filter fun o => o.sess = n && o.owesRecord
  let owed := (mine.filter fun o => !live o).foldl (fun l o => insertByStamp o l) [] ++ mine.filter live
  let size := 2 ^ ringLog2 (s.rd CQ_CFG_LOG2_SIZE n)
  let tail := s.rd CQ_STAT_TAIL n
  let ph := s.rd CQ_STAT_PHASE n
  staged ++ owed.zipIdx.filterMap fun e => e.1.fin.map fun x =>
    complRecord e.1 x (if tail + e.2 < size then ph else 1 - ph)

/-- Event and message records staged for Sn, in order. -/
def State.faultEvents (s : State) (n : Nat) : List (List Byte) :=
  (s.host.staging.filterMap fun x => match x with | .event f _ b => if f = n then some b else none | _ => none) ++
    (s.sess n).eqWait

/-- The entry of one operation (Table LOG-8). -/
def opEntry (o : Op) (result : Nat) : List Byte :=
  leBytes 2 o.tag ++ leBytes 1 o.opcode ++ leBytes 1 ({ o with fin := none } : Op).code ++ leBytes 2 o.obj ++
    leBytes 1 o.ring ++ leBytes 1 0 ++ leBytes 4 result ++ leBytes 6 o.admitDev ++ leBytes 14 0

/-- The entry of one Helm (Table LOG-8). -/
def State.helmEntry (s : State) (h : Nat) : List Byte :=
  leBytes 1 h ++ leBytes 1 (s.helm h).ps.code ++ leBytes 2 0 ++ s.words .helm h [0, 4, 8, 0x10] ++ leBytes 44 0 ++
    s.words .helm h ((List.range 16).map fun k => 0x40 + 4 * k)

/-- A session section before sealing (R679, Table LOG-8); `live` tells the operations that the error ended. -/
def State.sesSection (s : State) (n : Nat) (live : Op → Bool) : List Byte :=
  let ops := s.ops.filter fun o => o.sess = n && live o
  let cpl := s.faultRecords n live
  let evt := s.faultEvents n
  let helms := (List.range 32).filter fun h => s.ownerOf (0x2000 + h) = n
  leBytes 1 n ++ leBytes 1 (s.sesState n) ++ leBytes 2 (s.rd SES_CTL_QUOTA n) ++ leBytes 4 (s.rd SES_POWER_RESERVE_MW n) ++
    leBytes 4 (s.charged n) ++ leBytes 2 ops.length ++ leBytes 2 cpl.length ++ leBytes 2 evt.length ++
    leBytes 1 helms.length ++ leBytes 1 0 ++ s.words .ses n [0x44, 0x48, 0x4C] ++ leBytes 32 0 ++
    (ops.map fun o => opEntry o (match o.fin with | some e => e.result | none => 0)).flatten ++
    cpl.flatten ++ evt.flatten ++ (helms.map s.helmEntry).flatten

/-- DEVICE at offset 0 (Table LOG-7): 256 bytes. -/
def State.deviceRegs (s : State) : List Byte :=
  s.words .glob 0 [0, 4, 8, 0x10, 0x1C, 0x30, 0x3C, 0x24, 0x28, 0x2C, 0xA008, 0xA010, 0xA00C, 0x12010, 0x12018, 0x1F04] ++
    leBytes 8 (s.view .glob 0 0x12008) ++ leBytes 8 (s.view .glob 0 0x40) ++ leBytes 176 0

def State.deviceSources (s : State) : List Byte := ((List.range 1024).map fun k => leBytes 4 (s.bcSrc k)).flatten

/-- The registers of a Steward's primary core (Table LOG-7): pc, exception pc and flags, flags, g0-g31, last vector. No rule
says what Unlon's program leaves in the others: free, as are all of them before the first vector. -/
def State.stewardRegs (s : State) (d : Dump) (w : Nat) : List Byte × State :=
  let x := match s.beacon.vec.find? (·.1 = w) with
    | some (_, x) => x
    | none => (s.drawn / 2 ^ 1088, s.drawn / 2 ^ 1120, s.drawn / 2 ^ 1152)
  let lane := match d.lane with | some (v, l) => if v = w then l else 0xFFFFFFFF | none => 0xFFFFFFFF
  (leBytes 4 s.drawn ++ leBytes 4 x.2.1 ++ leBytes 4 x.2.2 ++ leBytes 132 (s.drawn / 2 ^ 32) ++ leBytes 4 x.1 ++ leBytes 4 lane ++
    leBytes 104 0, s.draw)

/-! ### Detection -/

/-- Domains as FAULT_HOLD and a dump hold them: CORE in Run, every other in Nap (R683). -/
def holdDomains : Nat := 0xAAA8

/-- The copies of the 256 counters and of device time (R665). -/
def State.counterSnap (s : State) : State :=
  (List.range 256).foldl (fun s i => s.wr HL_CNT_VALUE (smGet 0 s.cnt i) 0 i) (s.wr HL_SNAP_TIME s.tm.device)

/-- Step 2 of Table LOG-3: operations are over, the Helm clusters, the quads and the LIU stop with every transmit side off,
and nothing waits for the host. Chutes and crates stand as they are. -/
def State.stopWork (s : State) : State :=
  let s := (List.range 24).foldl (fun s i => (s.wr LINE_STAT_LSTATE 0 i).wr LINE_STAT_SIG 0 i) s
  { s with ops := [], helms := [], ovhs := [], pats := [], lines := [],
           host := { s.host with staging := [], reads := [] } }

/-- A device-fatal error is detected (Table LOG-3, steps 1 to 3): the count, the snapshot, what the sections will hold, and
work stops. During Stow entry it abandons the entry first (R674). During a dump it is the second error (R673); in
FAULT_HOLD, and before Unlon is ready, it writes no dump (R683). `lane`: the Steward and comparator lane of a mismatch. -/
def State.fatal (s : State) (cause data : Nat) (lane : Option (Nat × Nat) := none) : State :=
  let s := s.stowAbort
  match s.health.dump with
  | some d =>
    { s with health := { s.health with dump := some { d with second := match d.second with | some c => some c | none => some cause } } }
  | none =>
    if !s.working then s
    else
      let s := s.wr LG_COUNT (s.rd LG_COUNT + 1)
      let t := s.faultEnds
      let liveTag (o : Op) : Bool := s.ops.any fun x => x.live && x.sess = o.sess && x.seq = o.seq &&
        (match o.fin with | some e => e.status = eDeviceFault | none => false)
      let who := (List.range 16).filter fun n => n = 0 || s.sesState n = 2
      let d : Dump := { cause := cause, data := data % 2 ^ 32, dtime := s.tm.device, at_ := s.clock, count := s.rd LG_COUNT,
                        second := none, lane := lane, counters := s.cnt, device := s.deviceSources ++ s.deviceRegs,
                        sections := who.map fun n => (n, t.sesSection n liveTag) }
      let s := ({ s with freeCtr := t.freeCtr } : State).counterSnap.stopWork.wr KP_DOM holdDomains
      { s with health := { s.health with dump := some d } }

/-! ### Writing the dump -/

/-- Offset of session Sn's section (Table LOG-6). -/
def sesPlace (n : Nat) : Nat := 0x45000 + 0x38000 * n

/-- A section as it is written: ID, place, STATUS, bytes in the region and TAG. -/
structure Section where
  id : Nat
  place : Nat
  status : Nat
  bytes : List Byte
  tag : List Byte
  deriving DecidableEq, Repr

/-- Header bytes 0-31 (Table LOG-4). -/
def Dump.head (d : Dump) : List Byte :=
  [0x4C, 0x4F, 0x47, 0x42] ++ leBytes 2 1 ++ leBytes 1 d.cause ++ leBytes 1 0 ++ leBytes 8 d.dtime ++ leBytes 8 d.count ++
    leBytes 4 d.data ++ leBytes 4 0

/-- Sn's seal key, SES_KEY0 least significant (R680). -/
def State.sealKey (s : State) (n : Nat) : List Byte := ((List.range 8).map fun k => leBytes 4 (s.rd SES_KEY_KEY n k)).flatten

/-- A session's section, sealed under its key, S0's in clear without one (R679, R680). -/
def State.sesWritten (s : State) (d : Dump) (n : Nat) : Section :=
  match d.sections.find? (·.1 = n) with
  | none => { id := 0x10 + n, place := sesPlace n, status := 0, bytes := [], tag := [] }
  | some (_, b) =>
    if s.flag SES_KEYC_KEY_SET n then
      let r := gcmSeal (s.sealKey n) (leBytes 8 d.count ++ leBytes 1 n ++ leBytes 3 0) (d.head ++ leBytes 2 (0x10 + n)) b
      { id := 0x10 + n, place := sesPlace n, status := 2, bytes := r.1, tag := r.2 }
    else { id := 0x10 + n, place := sesPlace n, status := 1, bytes := b, tag := [] }

/-- The 18 sections in the order of the table, and the machine with its free values drawn. -/
def State.sections (s : State) (d : Dump) : List Section × State :=
  let (a, s) := s.stewardRegs d 0
  let (b, s) := s.stewardRegs d 1
  let snap := ((List.range 256).map fun i => leBytes 8 (smGet 0 d.counters i)).flatten
  let dev : Section := { id := 0, place := 0x1000, status := 1, tag := [],
                         bytes := d.device.drop 4096 ++ a ++ b ++ snap ++ d.device.take 4096 }
  let kp := if s.flag KP_TETHER_UP then s.words .kdie 0 ((List.range 1024).map (4 * ·)) else []
  let kee : Section := { id := 1, place := 0x41000, status := boolNat (kp ≠ []), bytes := kp, tag := [] }
  (dev :: kee :: (List.range 16).map (s.sesWritten d), s)

/-- The entry of a section (Table LOG-5). -/
def Section.entry (x : Section) : List Byte :=
  leBytes 2 x.id ++ leBytes 1 x.status ++ leBytes 1 0 ++ leBytes 4 x.place ++ leBytes 4 x.bytes.length ++ leBytes 4 0 ++
    sliceBytes x.tag 0 16

/-- The header and the section table (R675, R676), for the sections in the state they were left in. -/
def Dump.front (d : Dump) (l : List Section) (complete : Bool) : List Byte :=
  let total := l.foldl (fun m x => if x.status = 1 ∨ x.status = 2 then max m (x.place + x.bytes.length) else m) (64 + 32 * l.length)
  let h := d.head ++ leBytes 1 (boolNat complete + 2 * boolNat d.second.isSome) ++ leBytes 1 (d.second.getD 0) ++
    leBytes 2 l.length ++ leBytes 4 total ++ leBytes 20 0
  let t := (l.map (·.entry)).flatten
  h ++ leBytes 4 (crc32 (h ++ t)) ++ t

/-- Steps 3 to 6 of Table LOG-3: the first `k` sections are fully written; one that is not has STATUS 3, and the bytes at
its place stay as they were. The device enters FAULT_HOLD. -/
def State.dumpEnd (s : State) (d : Dump) (k : Nat) : State :=
  let (l, s) := s.sections d
  let l := l.zipIdx.map fun e => if k ≤ e.2 ∧ e.1.status ≠ 0 then { e.1 with status := 3, tag := [] } else e.1
  let base := s.rd LG_BASE_DPA
  let put := fun (s : State) (o : Nat) (b : List Byte) => (s.setBytes (base + o) b).coverWords (base + o) b.length
  let s := l.foldl (fun s x => if x.status = 1 ∨ x.status = 2 then put s x.place x.bytes else s) s
  let s := put s 0 (d.front l (decide (l.length ≤ k)))
  let s := if s.flag LG_STAT_VALID then s.wr LG_STAT_OVW_UNREAD 1 else s
  let s := (((s.wr LG_STAT_VALID 1).setFlag LG_STAT_COMPLETE (decide (l.length ≤ k))).wr LG_STAT_CAUSE d.cause).wr LG_STAT_HOLD 1
  { s with health := { s.health with dump := none, holdAt := s.clock } }

/-- LOGBOOK_DUMP: the dump under way is complete. With `own`, an error that has no row of its own is detected: an
uncorrectable error in a Steward's memory (`inl` its number), or a failed check of Unlon (`inr` its code). -/
def execLogbookDump (own : Option (Fin 2 ⊕ Word)) (s : State) : Res :=
  match own with
  | some (.inl w) => .next (if s.ready then (s.eccUncorr 6 w).fatal 6 w else s)
  | some (.inr c) => .next (s.fatal 7 c.toNat)
  | none => .next (match s.health.dump with | some d => s.dumpEnd d 18 | none => s)

/-- DUMP_TIMEOUT: 30 ms after detection with `k` of the 18 sections fully written (R673). -/
def execDumpTimeout (k : Fin 18) (s : State) : Res :=
  match s.health.dump with
  | some d => .next (if d.at_ + 30000000 ≤ s.clock then s.dumpEnd d k else s)
  | none => .next s

/-- FAULT_HOLD_AUTO_RESET (R684): above 3600 acts as 3600. -/
def execFaultHoldAutoReset (s : State) : Res :=
  let a := min 3600 (s.rd LG_CTL_AUTO_S)
  .next (if s.flag LG_STAT_HOLD && a ≠ 0 && decide (s.health.holdAt + 1000000000 * a ≤ s.clock) then s.warmReset 8 else s)

/-! ### Errors with rows of their own -/

/-- LOCKSTEP_MISMATCH on Steward `w` (R660, R661): `consec` in consecutive cycles, `lane` the first lane that differs. -/
def execLockstepMismatch (w : Fin 2) (consec : Bool) (lane : Word) (s : State) : Res :=
  if !s.ready then .next s
  else
    let s := (s.count 202).fire 32 (1 + 4 * boolNat consec) w
    let s := if consec then s.wr HL_LOCKSTEP_CONSEC 1 else s
    .next (s.fatal 4 (w + 256 * boolNat consec) (some (w, lane.toNat)))

/-- An injection into Steward `w`'s comparator (R662, R663): flagged or not, with or without a real mismatch in the cycle,
whose lane is then free. -/
def State.inject (s : State) (w : Nat) (flagged real : Bool) : State :=
  let s := s.count 200
  let s := if flagged then (s.count 201).wr HL_LOCKSTEP_INJ_OK (s.rd HL_LOCKSTEP_INJ_OK + 1) else s
  let s := if real then s.count 202 else s
  let lane := if real then some (w, s.drawn % 2 ^ 32) else none
  let s := if real then s.draw else s
  if flagged then (if real then (s.fire 32 1 w).fatal 4 w lane else s)
  else (s.fire 32 (2 + boolNat real) w).fatal 5 (w + 256 * boolNat real) lane

/-- COMPARATOR_INJECTION into one Steward's comparator, every 1 ms and after each return of CORE to Run (R662). -/
def execComparatorInjection (w : Fin 2) (flagged real : Bool) (s : State) : Res :=
  if !s.ready || s.rd KP_DOM % 4 ≠ 0 then .next s
  else .next (s.inject w flagged real)

/-- MATRIX_STALL: a request of master `m` has waited longer than MX_STALL (R528). -/
def execMatrixStall (m : Fin 16) (s : State) : Res := .next (s.fatal 2 m)

/-! ### Registers of the Logbook and the counters -/

/-- LOGBOOK_MARK_READ by PF0 (R670); FAULT_HOLD takes writes of LG_CTL (R683). -/
def State.logRead (s : State) : State := s.wr LG_STAT_VALID 0

def execLogbookMarkRead (s : State) : Res :=
  .next (if s.ready && s.health.dump.isNone then s.logRead else s)

/-- LOGBOOK_FORCE by PF0 with this KEY (R684). -/
def execLogbookForce (key : Byte) (s : State) : Res :=
  .next (if s.working && key = 0xA5 then s.fatal 8 0 else s)

/-- COUNTER_SNAP by PF0 (R665). -/
def execCounterSnap (s : State) : Res := .next (if s.working then s.counterSnap else s)

end Sys2Proof.Machine
end

