-- ==== Sys2Proof/Machine/Feeds.lean ====
section
/-! DEFINITION. The commands of feeds, bays and the Sounding ADC (chapters 9 and 18). What happens at a pin or a rail is
the environment's word: the command says that a voltage crossed its threshold for its time; the machine says what
follows. In Off nothing happens but a POR-K. -/

namespace Sys2Proof.Machine

open Reg

/-- The K-die is powered: not in Off (Table KPR-3). -/
def State.kDieOn (s : State) : Bool := s.rd KP_PWR_STAT_EDIE != 5

/-- PF0's accesses to K-die registers reach them: Unlon ready and the Tether up (R628, R641). -/
def State.mirrorOk (s : State) : Bool := s.ready && s.flag KP_TETHER_UP && !s.flag LG_STAT_HOLD

/-- An event of the K-die's world: it happens only while the K-die is powered. -/
def State.kEvent (s : State) (f : State → State) : Res := .next (if s.kDieOn then f s else s)

/-! ### Feeds -/

/-- Cutoff ends (R564): PACK is selectable again, and a device held in Moor starts as from Moor. -/
def State.cutoffEnd (s : State) (cause : Nat) : State :=
  let held := s.feed.moorHold
  let s := s.wr FD_STAT_CUTOFF 0
  let s := { s with feed := { s.feed with packOut := false, grace := none, moorHold := false } }
  let s := s.pathScan (Nat.lor cause 32)
  if held then s.startWake 0 else s

/-- FEED_VALID. -/
def execFeedValid (f : Fin 3) (s : State) : Res :=
  s.kEvent fun s =>
    if s.feedValid f then s
    else
      let s := s.setMaskBit FD_STAT_VALID f true
      if s.flag FD_STAT_CUTOFF ∧ f.val ≠ 2 then s.cutoffEnd (2 ^ f.val) else s.pathScan (2 ^ f.val)

/-- FEED_INVALID. -/
def execFeedInvalid (f : Fin 3) (s : State) : Res :=
  s.kEvent fun s => if s.feedValid f then (s.setMaskBit FD_STAT_VALID f false).pathScan (2 ^ f.val) else s

/-- DEAD_TIME_END: the new path's gate is driven (R559). -/
def execDeadTimeEnd (s : State) : Res :=
  s.kEvent fun s =>
    match s.feed.dead with
    | some (p, t) =>
      if t ≤ s.clock then ({ s with feed := { s.feed with path := p, dead := none } } : State).pathScan 0 else s
    | none => s

/-- POWER_FAILURE (R555). -/
def execPowerFailure (s : State) : Res :=
  s.kEvent fun s => if s.feed.path ≠ 0 ∨ s.feed.dead.isSome then s.goOff else s

/-- CUTOFF in mV: 5.60 V + 50 mV x value, 0-28 (Table FDB-9). -/
def State.cutoffMv (s : State) : Nat := 5600 + 50 * min 28 (s.rd FD_PACK_CUTOFF)

/-- PACK_LOW_CHANGE: PACK reads `mv` (R562). -/
def execPackLowChange (mv : Fin 65536) (s : State) : Res :=
  s.kEvent fun s =>
    let t := s.cutoffMv + 50 * min 20 (s.rd FD_PACK_WARN)
    if s.flag FD_STAT_PACK_LOW then
      if t + 100 < mv.val then (s.wr FD_STAT_PACK_LOW 0).kfire 2 2 mv else s
    else if mv.val ≤ t then (s.wr FD_STAT_PACK_LOW 1).kfire 2 1 mv else s

/-- CUTOFF_ENTRY (Table FDB-2). -/
def execCutoffEntry (s : State) : Res :=
  s.kEvent fun s =>
    if s.flag FD_STAT_CUTOFF then s
    else
      let s := s.wr FD_STAT_CUTOFF 1
      if !s.packAlone then ({ s with feed := { s.feed with packOut := true } } : State).pathScan 16
      else match s.rd KP_PWR_STAT_EDIE with
      | 3 =>
        let s := s.coreOff 4
        ({ s with feed := { s.feed with moorHold := true } } : State).feedFire 16
      | 4 => ({ s with feed := { s.feed with moorHold := true } } : State).feedFire 16
      | _ =>
        let s := (s.allowUpdate 0).feedFire 16
        { s with feed := { s.feed with grace := some (s.inMs (min 1000 (s.rd FD_PACK_GRACE))) } }

/-- PACK_GRACE_EXPIRY: bays, E-die and Cellar power go off, and the device is held in Moor, with no Logbook. -/
def execPackGraceExpiry (s : State) : Res :=
  s.kEvent fun s =>
    if s.isDue s.feed.grace then
      let s := [0, 1, 2, 3].foldl (fun s b => s.bayOffNow b) s
      let s := s.coreOff 4
      { s with feed := { s.feed with grace := none, moorHold := true }, boot := { s.boot with attic := 0, phase := 0 } }
    else s

/-- CUTOFF_EXIT: another feed is valid, or PACK has recovered (R564). -/
def execCutoffExit (s : State) : Res :=
  s.kEvent fun s => if s.flag FD_STAT_CUTOFF then s.cutoffEnd 0 else s

/-- PACK_DISCONNECT (R565). -/
def execPackDisconnect (s : State) : Res := s.kEvent fun s => if s.packAlone then s.goOff else s

/-! ### PoE -/

/-- POE fires with the granted power (Table FDB-8). -/
def State.poeFire (s : State) (cause : Nat) : State := s.kfire 3 cause (s.rd FD_POE_PD_MW)

/-- POE_DETECTION: the class of now is the one presented (R566). -/
def execPoeDetection (s : State) : Res :=
  s.kEvent fun s =>
    let c := s.rd FD_POE_CFG_CLASS
    let s := (s.wr FD_POE_STATE 0).wr FD_POE_EVENTS 0
    ({ s with feed := { s.feed with cls := if c = 0 ∨ c = 7 then 6 else c } } : State).poeFire 0

/-- POE_CLASSIFICATION: one class event. -/
def execPoeClassification (s : State) : Res :=
  s.kEvent fun s => ((s.wr FD_POE_EVENTS (min 5 (s.rd FD_POE_EVENTS + 1))).wr FD_POE_STATE 1).poeFire 1

/-- Power of a class, mW. -/
def poeClassMw (c : Nat) : Nat := [0, 3840, 6490, 13000, 25500, 40000, 51000].getD c 51000

/-- Table FDB-3. -/
def poeGrant (events c : Nat) : Nat :=
  if events ≤ 1 then (if c ≤ 3 then poeClassMw c else 13000)
  else if events ≤ 3 then (if c ≤ 4 then poeClassMw c else 25500)
  else poeClassMw c

/-- POE_POWER_APPLIED (R567). Table FDB-3 has no row for power applied without a class event: free. -/
def execPoePowerApplied (s : State) : Res :=
  s.kEvent fun s =>
    let e := s.rd FD_POE_EVENTS
    let s := if e = 0 then s.draw.wr FD_POE_PD_MW s.drawn else s.wr FD_POE_PD_MW (poeGrant e s.feed.cls)
    ((s.wr FD_POE_STATE 2).poeFire 2).shortScan

/-- POE_POWER_REMOVED (R570): the grant is cleared and LINE counts 0 mW at once. -/
def execPoePowerRemoved (s : State) : Res :=
  s.kEvent fun s =>
    (((s.wr FD_POE_STATE 0).wr FD_POE_EVENTS 0).wr FD_POE_PD_MW 0).poeFire 4 |>.shortScan

/-! ### The allowance -/

/-- ALLOWANCE_RECOMPUTE (R573); not while a changeover is in its dead time. -/
def execAllowanceRecompute (s : State) : Res :=
  s.kEvent fun s => if s.feed.dead.isSome then s else s.allowUpdate 0

/-- BAY_SHED (R575): 100 ms of shortage turn the highest SHED bay off; the next shed is 100 ms away. -/
def execBayShed (s : State) : Res :=
  s.kEvent fun s =>
    match s.feed.shortAt with
    | none => s
    | some t =>
      if s.clock < t + 100000000 ∨ s.rd FD_BASE_BASE_MW + s.bayBudgets ≤ s.availMw then s
      else match [3, 2, 1, 0].find? fun b => (s.bayState b = 4 || s.bayState b = 5) && s.flag BY_CFG_SHED 0 b with
      | none => s
      | some b =>
        let s := s.bayMove b 3 0
        let s := { s with feed := { s.feed with shortAt := s.feed.shortAt.map fun _ => s.clock } }
        s.kfire 1 32 (s.rd FD_ALLOW_MW)

/-- Input power measured on the feed that carries SYS, mW (R576, Table SND-4). -/
def State.inputMw (s : State) : Nat :=
  match s.sysPath with
  | 1 => s.rd KP_ADC_RAW 0 0 * 6 * (s.rd KP_ADC_RAW 0 1 * 2) / 1000
  | 2 => s.rd KP_ADC_RAW 0 2 * 6 * (s.rd KP_ADC_RAW 0 3 * 2) / 1000
  | 3 => if s.rd KP_ADC_RAW 0 5 < 2048 then s.rd KP_ADC_RAW 0 4 * 25 * (s.rd KP_ADC_RAW 0 5 * 4) / 10000 else 0
  | _ => 0

/-- OVERDRAW_CHECK (R576); OVERDRAW is cleared when a check finds no excess. -/
def execOverdrawCheck (s : State) : Res :=
  s.kEvent fun s =>
    if s.inputMw ≤ s.availMw then
      ({ s with feed := { s.feed with overAt := none } } : State).wr FD_STAT_OVERDRAW 0
    else match s.feed.overAt with
    | none => { s with feed := { s.feed with overAt := some s.clock } }
    | some t =>
      if t + 100000000 ≤ s.clock ∧ ¬s.flag FD_STAT_OVERDRAW then
        (s.wr FD_STAT_OVERDRAW 1).kfire 1 16 (s.rd FD_ALLOW_MW)
      else s

/-! ### Bay commands -/

/-- An action on a bay: of S0's BAY_CMD with this TAG, or (`none`) of a BY_CMD write by PF0. -/
def State.bayAct (s : State) (b : Nat) (tag : Option Nat) (action : Nat) : State :=
  match tag with
  | none => if s.mirrorOk then s.bayCmd b action else s
  | some t =>
    s.runOp 0 t 0x3C (fun o => o.par 0 % 256 = action && o.obj = 0x5000 + b) fun _ s =>
      if s.flag KP_TETHER_UP then
        let s := s.bayCmd b action
        s.endOp 0 t doneOk (s.bayState b)
      else s.endOp 0 t eDeviceFault 0

/-- BAY_ON. -/
def execBayOn (b : Fin 4) (tag : Option Nat) (s : State) : Res := .next (s.bayAct b tag 0)
/-- BAY_OFF. -/
def execBayOff (b : Fin 4) (tag : Option Nat) (s : State) : Res := .next (s.bayAct b tag 1)
/-- BAY_CLEAR. -/
def execBayClear (b : Fin 4) (tag : Option Nat) (s : State) : Res := .next (s.bayAct b tag 2)
/-- BAY_RESTART. -/
def execBayRestart (b : Fin 4) (tag : Option Nat) (s : State) : Res := .next (s.bayAct b tag 3)

/-! ### Bay events -/

/-- HEAD_SEATED: both pins are low. -/
def execHeadSeated (b : Fin 4) (s : State) : Res :=
  s.kEvent fun s =>
    if s.baySeated b then s
    else
      let s := (s.wr BY_STAT_SEAT_A 1 0 b).wr BY_STAT_SEAT_B 1 0 b
      if s.bayWindow b then s
      else match s.bayState b with
      | 1 => s.baySeating b
      | 7 => if (s.bay b).pulled then (s.setBay b { s.bay b with pulled := false }).bayFire b 8 else s
      | _ => s

/-- HEAD_UNSEATED: SEAT_B (else SEAT_A) is high. -/
def execHeadUnseated (b : Fin 4) (pinB : Bool) (s : State) : Res :=
  s.kEvent fun s =>
    let s := if pinB then s.wr BY_STAT_SEAT_B 0 0 b else s.wr BY_STAT_SEAT_A 0 0 b
    if s.bayWindow b then s
    else
      let st := s.bayState b
      if 2 ≤ st ∧ st ≤ 6 then (s.bayMove b 1 0).deniedScan
      else if st = 7 then s.setBay b { s.bay b with pulled := true }
      else s

/-- SEAT_DEBOUNCE_END: the head has been seated (SEATED mode) and BAY_VIN in its window without a break for the time. -/
def execSeatDebounceEnd (b : Fin 4) (s : State) : Res :=
  s.kEvent fun s =>
    if s.bayState b = 2 && s.isDue (s.bay b).seatAt && (s.bayWindow b || s.baySeated b) then (s.bayTry b).deniedScan else s

/-- BAY_OUT_OF_WINDOW: BAY_VIN, one supply for the four bays, leaves its window. -/
def execBayOutOfWindow (s : State) : Res :=
  s.kEvent fun s => [0, 1, 2, 3].foldl (fun s b => if 2 ≤ s.bayState b ∧ s.bayState b ≤ 5 then s.baySeating b else s) s

/-- POWER_GOOD: not before the end of the ramp. Unlon starts the identification of the head, once it is ready (R586,
R587). -/
def execPowerGood (b : Fin 4) (s : State) : Res :=
  s.kEvent fun s =>
    if s.bayState b = 4 ∧ (s.bay b).startAt + bayRampNs (s.bay b).slew ≤ s.clock then
      let s := (s.bayMove b 5 0).wr BY_STAT_PG 1 0 b
      let id := if s.ready then some s.clock else none
      (s.setBay b { s.bay b with onAt := some s.clock, idFrom := id, idNext := s.clock }).deniedScan
    else s

/-- SHORT_START. -/
def execShortStart (b : Fin 4) (s : State) : Res :=
  s.kEvent fun s =>
    if s.bayState b = 4 ∧ (s.bay b).startAt + 2 * bayRampNs (s.bay b).slew ≤ s.clock then s.bayFault b 1 else s

/-- FAST_TRIP; during STARTING it is recorded as SHORT_START (R580). -/
def execFastTrip (b : Fin 4) (s : State) : Res :=
  s.kEvent fun s =>
    if s.bayState b = 4 then s.bayFault b 1 else if s.bayState b = 5 then s.bayFault b 2 else s

/-- OVERCURRENT. -/
def execOvercurrent (b : Fin 4) (s : State) : Res :=
  s.kEvent fun s => if s.bayState b = 4 ∨ s.bayState b = 5 then s.bayFault b 3 else s

/-- PG_LOST. -/
def execPgLost (b : Fin 4) (s : State) : Res := s.kEvent fun s => if s.bayState b = 5 then s.bayFault b 4 else s

/-- RETRY_EXPIRY. -/
def execRetryExpiry (b : Fin 4) (s : State) : Res :=
  s.kEvent fun s => if s.bayState b = 6 && s.isDue (s.bay b).retryAt then (s.bayTry b).deniedScan else s

/-- FAULT_COUNT_RESET: ON for 10 s. -/
def execFaultCountReset (b : Fin 4) (s : State) : Res :=
  s.kEvent fun s =>
    match (s.bay b).onAt with
    | some t => if s.bayState b = 5 ∧ t + 9800000000 ≤ s.clock then s.wr BY_STAT_COUNT 0 0 b else s
    | none => s

/-! ### Heads -/

/-- A Head Card is valid (R588): the layout of Table FDB-7 and its CRC. -/
def headCardOk (l : List Byte) : Bool :=
  l.length = 256 && l.take 4 == [0x41, 0x48, 0x43, 0x31] && leAt l 4 1 = 1 && leAt l 252 4 = crc32 (l.take 252)

/-- The outcome of an identification is recorded in BY_HEAD, and BAY fires with IDENT (R586). -/
def State.bayIdentified (s : State) (b kind status decl : Nat) (mem : List Byte) : State :=
  let s := ((s.wr BY_HEAD_KIND kind 0 b).wr BY_HEAD_STATUS status 0 b).wr BY_HEAD_DECL_MW decl 0 b
  ((s.setBay b { s.bay b with mem := mem, idFrom := none }).bayFire b 32).shortScan

/-- One attempt: what address 0x50 answers (its 256 identity bytes), what 0x57 answers, and the maximum power an
SFF-8472 or CMIS module declares. -/
def State.bayIdent (s : State) (b : Nat) (m50 m57 : Option (List Byte)) (decl : Nat) : State :=
  match (s.bay b).idFrom with
  | none => s
  | some t =>
    if s.bayState b ≠ 5 ∨ !s.ready ∨ s.clock < (s.bay b).idNext then s
    else match m50, m57 with
    | some l, _ => s.bayIdentified b (if l.getD 0 0 = 3 then 1 else 2) 1 decl (l.take 256)
    | none, some c => if headCardOk c then s.bayIdentified b 3 1 (leAt c 8 2) c else s.bayIdentified b 3 3 0 (c.take 256)
    | none, none =>
      if t + 2000000000 ≤ s.clock then s.bayIdentified b 0 2 0 []
      else s.setBay b { s.bay b with idNext := s.inMs 100 }

/-- HEAD_IDENT: the first attempt. -/
def execHeadIdent (b : Fin 4) (m50 m57 : Option (List Byte)) (decl : Fin 65536) (s : State) : Res :=
  if (s.bay b).idFrom = some (s.bay b).idNext then .next (s.bayIdent b m50 m57 decl) else .next s

/-- HEAD_IDENT_RETRY: an attempt after a silent one. -/
def execHeadIdentRetry (b : Fin 4) (m50 m57 : Option (List Byte)) (decl : Fin 65536) (s : State) : Res :=
  if (s.bay b).idFrom = some (s.bay b).idNext then .next s else .next (s.bayIdent b m50 m57 decl)

/-- HEAD_INT_CHANGE: HEAD_INT_b asserted, or not. -/
def execHeadIntChange (b : Fin 4) (on : Bool) (s : State) : Res :=
  s.kEvent fun s =>
    if s.flag BY_STAT_INT 0 b = on then s
    else (s.setFlag BY_STAT_INT on 0 b).kfire (12 + b.val) (boolNat on) (s.rd BY_STAT_LOS 0 b)

/-- HEAD_LOS_CHANGE: the receive-loss indication of the bay's HS slices (R286, R589). -/
def execHeadLosChange (b : Fin 4) (on : Bool) (s : State) : Res :=
  s.kEvent fun s =>
    if s.flag BY_STAT_LOS 0 b = on then s
    else
      let s := (s.setFlag BY_STAT_LOS on 0 b).kfire (12 + b.val) 2 (boolNat on)
      if on then s.bayDark b else s

/-! ### The Sounding ADC -/

/-- The mean of the latest conversions, rounded down; channel 5 is a two's complement number (R312, R327). -/
def adcMean (c : Nat) (l : List Nat) : Nat :=
  if c = 5 then
    let sum := l.foldl (fun (k : Int) v => k + (if v < 2048 then (v : Int) else (v : Int) - 4096)) 0
    ((sum / (l.length : Int)) % 4096).toNat
  else l.foldl (· + ·) 0 / l.length

/-- One channel's limits (Table FDB-9): a crossing fires once and rearms inside the limits. -/
def State.adcLimit (s : State) (c : Nat) : State :=
  let v := s.rd KP_ADC_RAW 0 c
  let x := smGet 0 s.feed.crossed c
  let lo := decide (v < s.rd FD_ADC_LOW 0 c)
  let hi := decide (s.rd FD_ADC_HIGH 0 c < v)
  let fl := lo && s.flag FD_ADC_EN_LOW 0 c && !x.testBit 0
  let fh := hi && s.flag FD_ADC_EN_HIGH 0 c && !x.testBit 1
  let x' := boolNat (lo && (x.testBit 0 || fl)) + 2 * boolNat (hi && (x.testBit 1 || fh))
  let s := { s with feed := { s.feed with crossed := smSet 0 s.feed.crossed c x' } }
  if fl || fh then s.kfire 16 (boolNat fh + 2 * boolNat fl) c else s

/-- One conversion of channel `c`. Channels 12 and 14 have no source while the E-die is off (R313). -/
def State.adcConvert (s : State) (c v : Nat) : State :=
  if (c = 12 ∨ c = 14) ∧ !s.eDieOn then
    let s := { s with feed := { s.feed with hist := smDel s.feed.hist c } }
    (s.wr KP_ADC_RAW 0 0 c).wr KP_ADC_VALID 0 0 c
  else
    let h := (v :: smGet [] s.feed.hist c).take 64
    let s := { s with feed := { s.feed with hist := smSet [] s.feed.hist c h } }
    let s := (s.wr KP_ADC_RAW (adcMean c (h.take (4 ^ s.rd KP_ADC_CTL_AVG))) 0 c).wr KP_ADC_VALID 1 0 c
    let s := if 7 ≤ c ∧ c ≤ 10 then s.setBay (c - 7) { s.bay (c - 7) with peak := max (s.bay (c - 7)).peak v } else s
    s.adcLimit c

/-- The junction has been below 95 degC since then (R621): 2544 in steps of 0.0625 degC from -64 (Table SND-4). -/
def State.coolScan (s : State) : State :=
  let t := if s.rd KP_ADC_RAW 0 12 < 2544 then some (s.keep.coolSince.getD s.clock) else none
  { s with keep := { s.keep with coolSince := t } }

/-- ADC_SCAN: the 16 conversions of one scan. -/
def execAdcScan (raw : List (Fin 4096)) (s : State) : Res :=
  if raw.length ≠ 16 then .fault .illFormed
  else s.kEvent fun s =>
    if s.clock < s.feed.scanDue then s
    else
      let s := raw.zipIdx.foldl (fun (s : State) (e : Fin 4096 × Nat) => s.adcConvert e.2 e.1) s
      let s := { s with feed := { s.feed with scanAt := s.tm.device, scanDue := s.clock + 249000 } }
      (s.wr FD_STAT_SYS_PATH s.sysPath).shortScan.coolScan

/-! ### Register writes with effects of their own -/

/-- FD_PATH takes a word: two feeds in one priority position are refused whole (R556). -/
def State.fdPathWrite (s : State) (v : Nat) : State :=
  let a := bitsAt v 0 2
  let b := bitsAt v 2 2
  let c := bitsAt v 4 2
  if (a ≠ 0 ∧ (a = b ∨ a = c)) ∨ (b ≠ 0 ∧ b = c) then s
  else (((s.wr FD_PATH_LINE a).wr FD_PATH_DOCK b).wr FD_PATH_PACK c).pathScan 0 |>.shortScan

/-- BY_MAP(b) takes a word: a slice of another bay's map refuses it whole (R577). -/
def State.byMapWrite (s : State) (b v : Nat) : State :=
  let hs := bitsAt v 0 8
  let lp := bitsAt v 8 16
  let clash := [0, 1, 2, 3].any fun c => c != b && (Nat.land hs (s.rd BY_MAP_HS 0 c) != 0 || Nat.land lp (s.rd BY_MAP_LP 0 c) != 0)
  if clash then s.wr BY_STAT_MAP_REJ 1 0 b
  else
    let s := (s.wr BY_MAP_HS hs 0 b).wr BY_MAP_LP lp 0 b
    if s.bayState b = 5 then s else s.bayDark b

/-- FD_POE_CFG takes a word; a change of PD_LIMIT_MW fires POE (Table FDB-8). -/
def State.poeCfgWrite (s : State) (v : Nat) : State :=
  let old := s.rd FD_POE_CFG_PD_LIMIT_MW
  let s := ((s.wr FD_POE_CFG_CLASS (bitsAt v 0 3)).wr FD_POE_CFG_MPS_KEEP (bitsAt v 3 1)).wr FD_POE_CFG_PD_LIMIT_MW (bitsAt v 16 16)
  if old = bitsAt v 16 16 then s else (s.poeFire 8).shortScan

/-- FD_PATH_WRITE by PF0. -/
def execFdPathWrite (v : Word) (s : State) : Res := .next (if s.mirrorOk then s.fdPathWrite v.toNat else s)

/-- BY_MAP_WRITE by PF0. -/
def execByMapWrite (b : Fin 4) (v : Word) (s : State) : Res := .next (if s.mirrorOk then s.byMapWrite b v.toNat else s)

/-- PD_LIMIT_WRITE by PF0: the FD_POE_CFG word. -/
def execPdLimitWrite (v : Word) (s : State) : Res := .next (if s.mirrorOk then s.poeCfgWrite v.toNat else s)

end Sys2Proof.Machine
end

