-- ==== Sys2Proof/Machine/HostLink.lean ====
section
/-! DEFINITION. The PCIe link, its pins, the host's own resets, and writes through BAR2 (chapters 03 and 16). -/

namespace Sys2Proof.Machine

open Reg

/-! ### Pins (Tables ELC-2 and ELC-14) -/

/-- The power-up under way is at least `us` after its step 1 (Table ELC-14). -/
def State.railPast (s : State) (us : Nat) : Bool :=
  s.rd KP_PWR_STAT_EDIE == 7 && s.boot.railRetry.isNone && s.boot.phase != 4 && decide (s.boot.railAt + 1000 * us ≤ s.clock)

def State.enIo (s : State) : Bool := s.eDieOn || s.railPast 50
def State.enCore (s : State) : Bool := s.eDieOn || s.railPast 400
def State.enSer (s : State) : Bool := s.eDieOn || s.railPast 900

/-- EN_CEL is high but in Moor and Off (R716). -/
def State.enCel (s : State) : Bool := s.rd KP_PWR_STAT_EDIE != 4 && s.rd KP_PWR_STAT_EDIE != 5

/-- The CKE clamp (R716). -/
def State.ckeClamp (s : State) : Bool := s.enCel && !s.enCore

/-! ### The link -/

/-- LINK_UP: training completes at this generation and width; `aspm`: the host has enabled ASPM L1. Staged records may be
written and fetching goes on (R123). -/
def execLinkUp (speed : Fin 4) (x2 aspm : Bool) (s : State) : Res :=
  if !(s.eDieOn || s.rd KP_PWR_STAT_EDIE = 7) || s.host.perst || s.boot.phase = 3 then .next s
  else
    let s := ((s.wr GL_LINK_STAT_LINK 1).wr GL_LINK_STAT_SPEED speed).wr GL_LINK_STAT_WIDTH (if x2 then 2 else 1)
    let s := { s with host := { s.host with idleSince := s.clock, creditAt := s.clock, aspmL1 := aspm, clkreqLow := true } }
    .next s.pumpAll

/-- The link has no requests: down, or in L2/L3 Ready. -/
def State.linkOff (s : State) : Bool := s.rd GL_LINK_STAT_LINK = 0 || s.rd GL_LINK_STAT_LINK = 4

/-- LINK_DOWN (R124). -/
def execLinkDown (s : State) : Res :=
  if s.linkOff || !s.eDieOn then .next s else .next ((s.wr GL_LINK_STAT_LINK 0).fatal 1 0)

/-- PERST_ASSERT (R124). -/
def execPerstAssert (s : State) : Res :=
  if s.host.perst then .next s
  else
    let s := { s with host := { s.host with perst := true } }
    .next (if !s.eDieOn || s.rd GL_LINK_STAT_LINK = 4 then s else (s.wr GL_LINK_STAT_LINK 0).fatal 1 1)

/-- PERST_DEASSERT: source 5, a wake-capable event (R121), whose CAUSE and DATA no rule states; WAKE_N is let go (R120). -/
def execPerstDeassert (s : State) : Res :=
  s.kEvent fun s =>
    if !s.host.perst then s
    else
      let s := { s with host := { s.host with perst := false, wakeLow := false } }
      let s := s.draw.draw.kfire 5 (s.drawn % 256) s.draw.drawn
      { s with host := { s.host with wakeLow := false } }

/-- STAGING_STALL: STALL in 10 ms units, below 10 acts as 10 (R124, Table HST-11). -/
def execStagingStall (s : State) : Res :=
  .next (if s.host.staging ≠ [] ∧ s.host.creditAt + 10000000 * max 10 (s.rd GL_HOST_CTL_STALL) ≤ s.clock then s.fatal 1 2 else s)

/-- L2_L3_READY: PME_Turn_Off and PME_TO_Ack (R119). -/
def execL2L3Ready (s : State) : Res :=
  .next (if s.working && !s.linkOff then s.wr GL_LINK_STAT_LINK 4 else s)

/-- L1_ENTRY, or with `deep` on to L1.2, where CLKREQ_N is released (R116, R118). -/
def execL1Entry (deep : Bool) (s : State) : Res :=
  .next (if s.working && s.host.aspmL1 && s.rd GL_LINK_STAT_LINK = 1 &&
      decide (s.host.idleSince + 1000 * max 1 (s.rd GL_HOST_CTL_L1_IDLE) ≤ s.clock) then
    (if deep then ({ s with host := { s.host with clkreqLow := false } } : State).wr GL_LINK_STAT_LINK 3
     else s.wr GL_LINK_STAT_LINK 2)
  else s)

/-- L1_2_EXIT (R118). -/
def execL12Exit (s : State) : Res :=
  .next (if s.working && s.rd GL_LINK_STAT_LINK = 3 then s.linkUsed.pumpAll else s)

/-- CONFIG_RETRY (R122); in BOOT_FAIL the endpoint answers (R635). -/
def execConfigRetry (s : State) : Res :=
  .next (if !s.ready && s.boot.phase ≠ 3 && (s.eDieOn || s.rd KP_PWR_STAT_EDIE = 7) then s.emit (.pcie 1) else s)

/-- LTR_UPDATE: PF0 writes GL_HOST_CTL (R117). -/
def State.hostCtlWrite (s : State) (v : Nat) : State :=
  (((s.wr GL_HOST_CTL_STALL (bitsAt v 0 9)).wr GL_HOST_CTL_L1_IDLE (bitsAt v 9 10)).wr GL_HOST_CTL_LTR_US (bitsAt v 19 10)).emit
    (.ltr (bitsAt v 19 10))

def execLtrUpdate (v : Word) (s : State) : Res := .next (if s.working then s.tlpIn.hostCtlWrite v.toNat else s)

/-- D_STATE_WRITE: PowerState (D0 or D3hot) and PME_En of PF0 (R119, R120); No_Soft_Reset is 1 (Table HST-1). -/
def execDStateWrite (d3 pme : Bool) (s : State) : Res :=
  .next (if s.ready then
    ({ s with host := { s.host with d3hot := d3, pmeEn := pme } } : State).pump 0 else s)

/-! ### The host's resets -/

/-- A warm reset is possible: the E-die runs, and no wider reset is under way (R625). -/
def State.canReset (s : State) : Bool := s.eDieOn && (s.boot.phase = 0 || s.boot.phase = 2)

/-- PF0_FLR (R114). -/
def execPf0Flr (s : State) : Res := .next (if s.canReset then (s.warmReset 6).configReset else s)

/-- HOT_RESET: a Hot Reset or Link Disable (R115). -/
def execHotReset (s : State) : Res := .next (if s.canReset then (s.warmReset 7).configReset else s)

/-- GL_RESET with its KEY (Table RST-6): COLD wins when both are written. -/
def State.glReset (s : State) (v : Nat) : State :=
  if bitsAt v 8 8 ≠ 0x5A ∨ !s.canReset then s
  else if v.testBit 1 then s.coldReset 2
  else if v.testBit 0 then s.warmReset 5 else s

/-- WARM_RESET: PF0 writes GL_RESET.WARM with this KEY (R627). -/
def execWarmReset (key : Byte) (s : State) : Res := .next (s.glReset (1 + 256 * key.toNat))

/-- COLD_RESET: PF0 writes GL_RESET.COLD with this KEY (R629). -/
def execColdReset (key : Byte) (s : State) : Res := .next (s.glReset (2 + 256 * key.toNat))

/-! ### BAR2 (R97-R99) -/

/-- The DPA behind a BAR2 offset: the Larder, or the Cellar aperture. -/
def State.bar2Addr (s : State) (off : Nat) : Nat :=
  if off < 0x800000 then off else cellarBase + s.rd GL_BAR2_APERTURE_BASE * 0x800000 + (off - 0x800000)

/-- A BAR2 offset that memory answers: present, and its page not in a scrub. -/
def State.bar2Open (s : State) (off : Nat) : Bool :=
  s.inMemory (s.bar2Addr off) && !s.pageBusy (s.bar2Addr off / 4096)

/-- What a BAR2 read of one byte returns; FAULT_HOLD answers it too (R683). -/
def State.bar2Read (s : State) (off : Nat) : Byte :=
  if s.ready && s.bar2Open off then s.byteAt (s.bar2Addr off) else 0

/-- BAR2_WRITE: bytes at a BAR2 offset; a write of whole words clears their error marks (R520). -/
def execBar2Write (off : Fin 16777216) (data : List Byte) (s : State) : Res :=
  let s := s.tlpIn
  if !s.working then .next s
  else .next (data.zipIdx.foldl (fun (s : State) (e : Byte × Nat) =>
      let o := off.val + e.2
      if o < 0x1000000 ∧ s.bar2Open o = true then s.setByte (s.bar2Addr o) e.1 else s)
    (if s.bar2Open off && s.bar2Open (off + data.length - 1) then s.coverWords (s.bar2Addr off) data.length else s))

/-- BAR2_ATOMICOP is answered with Unsupported Request (R517). -/
def execBar2Atomicop (s : State) : Res := .next (if s.ready then s.tlpIn.emit (.pcie 0) else s)

end Sys2Proof.Machine
end

