-- ==== Sys2Proof/Machine/Keeper.lean ====
section
/-! DEFINITION. The Keeper: the Calendar, the choice of power states, Stow and Moor entry, and the time that a wake sets
(chapter 19). -/

namespace Sys2Proof.Machine

open Reg

/-! ### The Calendar -/

def State.calTime (s : State) (e : Nat) : Nat := s.rd KP_CAL_TIME_LO 0 e + s.rd KP_CAL_TIME_HI 0 e * 2 ^ 32

/-- Entry `e` is pending with this action: 1 WAKE, 2 RAISE. -/
def State.calIs (s : State) (e action : Nat) : Bool := s.flag KP_CAL_VALID 0 e && s.rd KP_CAL_ACTION 0 e = action

/-- Nanoseconds to the earliest WAKE entry. -/
def State.wakeIn (s : State) : Option Nat :=
  (List.range 64).foldl (fun b e =>
    if s.calIs e 1 then
      let d := (s.calTime e - s.tm.keeper) * 1953125 / 64
      some (match b with | some x => min x d | none => d)
    else b) none

/-- A CALENDAR_ADD of Sn of one action completes; E_DEVICE_FAULT while the Tether is lost (R641). -/
def State.calendar (s : State) (n tag action : Nat) (f : Op → State → State) : State :=
  s.runOp n tag 0x3E (fun o => o.par 2 % 8 = action) fun o s =>
    if s.flag KP_TETHER_UP then f o s else s.endOp n tag eDeviceFault 0

/-- ADD takes one of the session's free entries (R601, R602); which one no rule states: free. -/
def State.calendarAdd (s : State) (n tag action : Nat) : State :=
  s.calendar n tag action fun o s =>
    match (List.range 4).filter fun k => !s.flag KP_CAL_VALID 0 (4 * n + k) with
    | [] => s.endOp n tag eBusy 0
    | l =>
      let e := 4 * n + l.getD (s.drawn % l.length) 0
      let s := (((s.draw.wr KP_CAL_TIME_LO (o.par 0) 0 e).wr KP_CAL_TIME_HI (o.par 1) 0 e).wr KP_CAL_ACTION action 0 e).wr
        KP_CAL_K (bitsAt (o.par 2) 4 4) 0 e
      (s.wr KP_CAL_VALID 1 0 e).endOp n tag doneOk e

def execCalendarAddWake (n : Fin 16) (tag : Nat) (s : State) : Res := .next (s.calendarAdd n tag 1)

def execCalendarAddRaise (n : Fin 16) (tag : Nat) (s : State) : Res := .next (s.calendarAdd n tag 2)

/-- CANCEL frees the entry (Table KPR-2); one of another session was refused at admission. -/
def execCalendarCancel (n : Fin 16) (tag : Nat) (s : State) : Res :=
  .next (s.calendar n tag 0 fun o s =>
    let e := o.par 3
    if s.flag KP_CAL_VALID 0 e then (s.wr KP_CAL_VALID 0 0 e).endOp n tag doneOk 0 else s.endOp n tag doneOk 1)

/-- The entry fires now: its time has come, and no earlier one, nor one of the same time and lower index, is pending
(R603). -/
def State.calDue (s : State) (e : Nat) : Bool :=
  s.flag KP_CAL_VALID 0 e && decide (s.calTime e ≤ s.tm.keeper) &&
    (List.range 64).all fun x => !(s.flag KP_CAL_VALID 0 x &&
      decide (s.calTime x < s.calTime e ∨ (s.calTime x = s.calTime e ∧ x < e)))

/-- The source of a fired entry (R532, R604, R605): source 4 of S0, or the software source the entry names, held while the
Beacon is stopped (R552). The CAUSE no rule states: free. -/
def State.calRaise (s : State) (e : Nat) : State :=
  let n := e / 4
  if n = 0 then s.draw.kfire 4 (s.drawn % 256) e
  else if s.beaconUp then s.fireData (768 + 16 * n + s.rd KP_CAL_K 0 e) e
  else
    let w := !s.eDieOn && s.host.pmeEn
    { s with keep := { s.keep with held := s.keep.held ++ [(e, 768 + 16 * n + s.rd KP_CAL_K 0 e, s.calTime e)] },
             host := { s.host with wakeLow := s.host.wakeLow || w } }

/-- HOLD_MS, ms: 0 acts as 1, above 1000 as 1000. -/
def State.holdMs (s : State) : Nat := clamp 1 1000 (s.rd KP_PWR_CTL_HOLD_MS)

/-- CALENDAR_WAKE_FIRE (R604): CORE is in Run and held there; an E-die still asleep wakes. -/
def execCalendarWakeFire (e : Fin 64) (s : State) : Res :=
  s.kEvent fun s =>
    if s.calIs e 1 && s.calDue e then
      let s := (s.startWake 63).calRaise e
      let s := (if s.eDieOn then s.domRun 0 else s).wr KP_CAL_VALID 0 0 e
      { s with keep := { s.keep with holdUntil := some (s.inMs s.holdMs) } }
    else s

/-- CALENDAR_RAISE_FIRE (R605). -/
def execCalendarRaiseFire (e : Fin 64) (s : State) : Res :=
  s.kEvent fun s => if s.calIs e 2 && s.calDue e then (s.calRaise e).wr KP_CAL_VALID 0 0 e else s

/-- HOLD_MS_EXPIRY. -/
def execHoldMsExpiry (s : State) : Res :=
  s.kEvent fun s => if s.isDue s.keep.holdUntil then { s with keep := { s.keep with holdUntil := none } } else s

/-- POWER_FLOOR (R612). -/
def execPowerFloor (n : Fin 16) (tag : Nat) (s : State) : Res :=
  .next (s.runOp n tag 0x3D (fun _ => true) fun o s =>
    if s.flag KP_TETHER_UP then (s.wr KP_PWR_CTL_FLOOR (o.par 0)).endOp n tag doneOk 0 else s.endOp n tag eDeviceFault 0)

/-! ### Known events and conditions (Table KPR-4, R608) -/

/-- The smaller of two horizons; `none` is unbounded. -/
def minH (a b : Option Nat) : Option Nat :=
  match a, b with
  | some x, some y => some (min x y)
  | some x, none => some x
  | none, y => y

/-- A horizon of at least `n` ns. -/
def farOff (h : Option Nat) (n : Nat) : Bool := match h with | some x => decide (n ≤ x) | none => true

/-- The next known event of Helm `h`: its timers, and the next second for a SECOND handler. -/
def State.helmHorizon (s : State) (h : Nat) : Option Nat :=
  let m := s.helm h
  let t := m.timers.foldl (fun b e => match e.2 with
    | some x => minH b (some (1000 * x.due - s.tm.device))
    | none => b) none
  let sec := match m.image with
    | some im => m.ps.bound && im.handlers.any fun k => k.kind = 4
    | none => false
  if sec then minH t (some (1000000000 - s.tm.device % 1000000000)) else t

/-- The next known event of cluster `c`. -/
def State.clusterHorizon (s : State) (c : Nat) : Option Nat :=
  (List.range 8).foldl (fun b k => minH b (s.helmHorizon (8 * c + k))) none

/-- The next known event of a domain; the line domains have none. -/
def State.horizon (s : State) (d : Nat) : Option Nat :=
  if d = 0 then (List.range 4).foldl (fun b c => minH b (s.clusterHorizon c)) s.wakeIn
  else if d ≤ 4 then s.clusterHorizon (d - 1)
  else none

/-- A cluster works: a handler runs, an event is queued, or a program is STARTING or STOPPING. -/
def State.clusterBusy (s : State) (c : Nat) : Bool :=
  (List.range 8).any fun k =>
    let m := s.helm (8 * c + k)
    m.run.isSome || m.queue ≠ [] || m.ps = .starting || m.ps = .stopping

/-- A slice works: ACQUIRING, ACQUIRED, or sounded. -/
def State.sliceBusy (s : State) (i : Nat) : Bool :=
  let l := s.rd LINE_STAT_LSTATE i
  l = 1 || l = 2 || s.ops.any fun o => o.opcode = 0x12 && o.live && o.started && o.obj = sliceObj i

/-- Table KPR-4 holds the domain in Run. A deferred SELFTEST lets CORE nap (R650); so may an operation SUSPENDED. -/
def State.heldRun (s : State) (d : Nat) : Bool :=
  if d = 0 then
    (s.ops.any fun o => o.live && (o.eff = .queued || o.eff = .running) && !(o.deferred && !o.started)) ||
    s.own.scrubs ≠ [] || s.own.invPending || s.host.staging ≠ [] || s.keep.holdUntil.isSome ||
    (s.chutes.any fun e => e.2.held ≠ [] || e.2.hidden ≠ []) || (s.pm.any fun e => s.pmGate e.1) ||
    (List.range 24).any fun i => [1, 2].contains (s.rd LINE_STAT_LSTATE i)
  else if d ≤ 4 then s.clusterBusy (d - 1)
  else if d = 5 then (List.range 4).any s.sliceBusy
  else if d = 6 then (List.range 4).any fun k => s.sliceBusy (k + 4)
  else (List.range 16).any fun k => s.sliceBusy (k + 8)

/-- The smallest LAT_TOL among open sessions, ns (R611); `none`: no session sets a bound. -/
def State.latTol (s : State) : Option Nat :=
  (List.range 16).foldl (fun b n =>
    let t := s.rd LAT_TOL n
    if s.sesState n = 2 ∧ t ≠ 0xFFFFFF then minH b (some (1000 * t)) else b) none

/-- FLOOR: 5-7 act as 4 (Table KPR-11). -/
def State.floor (s : State) : Nat := min 4 (s.rd KP_PWR_CTL_FLOOR)

/-- The deepest of Run, Doze and Nap that R609 allows a domain. The line domains have no Doze, and the wake figure of Nap
does not apply to them (R608): only a LAT_TOL of 0 keeps them in Run. -/
def State.choice (s : State) (d : Nat) : Nat :=
  let h := s.horizon d
  if s.heldRun d then 0
  else if 5 ≤ d then (if 2 ≤ s.floor && farOff s.latTol 1 then 2 else 0)
  else if 2 ≤ s.floor && farOff h 230000 && farOff s.latTol 30000 then 2
  else if 1 ≤ s.floor && farOff h 200100 && farOff s.latTol 100 then 1
  else 0

/-- The Keeper chooses: Unlon works, the Tether is up (R641), and no Stow entry is under way. -/
def State.keeperWorks (s : State) : Bool := s.working && s.flag KP_TETHER_UP && s.rd KP_PWR_STAT_EDIE ≤ 2

/-- KEEPER_CHOICE (R609): every domain takes its state, CORE none deeper than a cluster's (R608). -/
def execKeeperChoice (s : State) : Res :=
  if !s.keeperWorks then .next s
  else
    let t := (List.range 7).foldl (fun s d => s.setDom (d + 1) (s.choice (d + 1))) s
    let core := [1, 2, 3, 4].foldl (fun m d => min m (t.dom d)) (s.choice 0)
    .next (t.setDom 0 core)

/-- Wake latency of a domain's state, ns (Table KPR-3). -/
def wakeNs (x : Nat) : Nat := if x = 1 then 100 else if x = 2 then 30000 else 0

/-- DOMAIN_WAKE_START (R610): the known event of a domain is its wake latency and 200 us away. Domain 8 is the E-die. -/
def execDomainWakeStart (d : Fin 9) (s : State) : Res :=
  s.kEvent fun s =>
    if d.val = 8 then
      let lead := (if s.rd KP_PWR_STAT_EDIE = 3 then 6000000 else 25000000) + 200000
      if s.eDieOn || farOff s.wakeIn (lead + 1) then s else s.startWake 63
    else if s.eDieOn && s.dom d ≠ 0 && !farOff (s.horizon d) (wakeNs (s.dom d) + 200001) then s.domRun d
    else s

/-- UNKNOWN_EVENT_WAKE (R610). -/
def execUnknownEventWake (d : Fin 8) (s : State) : Res := .next (if s.eDieOn then s.domRun d else s)

/-! ### Stow and Moor -/

/-- R613, but for the state of the E-die itself. -/
def State.stowOk (s : State) : Bool :=
  3 ≤ s.floor && s.host.d3hot && s.rd GL_LINK_STAT_LINK = 4 && !(s.helms.any fun e => e.2.ps.bound) && s.ops = [] &&
    !(s.pm.any fun e => s.pmGate e.1) && s.host.staging = [] && s.own.scrubs = [] && s.own.bgPages = [] && s.crateScrub = [] &&
    !s.own.invPending && s.rd KP_WLATCH_LATCH = 0 && farOff s.latTol 6000000 && farOff s.wakeIn 50000000 &&
    s.rd GL_MEM_CELLAR_GIB ≠ 0

/-- R614. -/
def State.moorOk (s : State) : Bool := s.stowOk && s.floor = 4 && farOff s.latTol 25000000 && farOff s.wakeIn 2000000000

/-- Entry begins (Table KPR-5, step 1). -/
def State.entryStart (s : State) (st : Nat) : State :=
  { s.wr KP_PWR_STAT_EDIE 6 with keep := { s.keep with entry := some (st, s.clock), abort := false } }

def execStowEntry (s : State) : Res :=
  .next (if s.keeperWorks && s.stowOk && !s.moorOk then s.entryStart 3 else s)

def execMoorEntry (s : State) : Res := .next (if s.keeperWorks && s.moorOk then s.entryStart 4 else s)

/-- A cause that abandons the entry has come (R615). -/
def State.entryBroken (s : State) : Bool := s.keep.abort || !farOff s.wakeIn 6200000 || !s.stowOk

def execStowAbort (s : State) : Res :=
  .next (if s.keep.entry.isSome && s.entryBroken && s.working then s.stowAbort else s)

/-- STOW_COMMIT (Table KPR-5, steps 2 to 5): the image is in the Attic, the times are recorded and the rails drop. `pps`: how
long ago, in ns of device time, the last 1PPS edge came, for E0 (R598). -/
def execStowCommit (pps : Nat) (s : State) : Res :=
  match s.keep.entry with
  | none => .next s
  | some (st, _) =>
    if !s.working || s.entryBroken then .next s
    else
      let e0 := if s.rd GL_REFIN_SEL = 5 ∧ s.flag GL_REFIN_VALID = true then some (s.tm.device - pps) else none
      let s := (s.count (231 + st)).coreOff st
      .next { s with keep := { s.keep with e0 := e0, abort := false, ppsUntil := none }, boot := { s.boot with attic := 1 } }

/-- PPS_REFINEMENT (R598, R599): the first 1PPS edge within 1.1 s of the wake; a correction backwards is absorbed. -/
def execPpsRefinement (s : State) : Res :=
  .next (match s.keep.e0, s.keep.ppsUntil with
  | some e0, some u =>
    let s : State := { s with keep := { s.keep with e0 := none, ppsUntil := none } }
    if !s.eDieOn || u < s.clock || s.rd GL_REFIN_SEL ≠ 5 || !s.flag GL_REFIN_VALID then s
    else
      let n := (s.tm.device - e0 + 500000000) / 1000000000
      let t := e0 + n * 1000000000
      if s.tm.device ≤ t then { s with tm := { s.tm with device := t } }
      else { s with tm := { s.tm with slewLeft := s.tm.device - t, slewAcc := 0 } }
  | _, _ => s)

/-- REBASE_SLEW_END: the correction is used up (R599). -/
def execRebaseSlewEnd (s : State) : Res :=
  .next (if s.tm.slewLeft = 0 then { s with tm := { s.tm with slewAcc := 0 } } else s)

end Sys2Proof.Machine
end

