-- ==== Sys2Proof/Machine/Compass.lean ====
section
/-! DEFINITION. Compass: the voltage of VDD_CORE, the SYSPLL level, AVSBus, throttling and thermal shutdown (R617-R623).
Voltages are steps of CP_STAT.VDD: 0.650 V + 5 mV x value. -/

namespace Sys2Proof.Machine

open Reg

/-- Start voltage and minimum of a level (Table KPR-7); the maximum, 0.900 V, is step 50. -/
def vddStart (level : Nat) : Nat := [6, 18, 30, 46].getD level 46
def vddMin (level : Nat) : Nat := [0, 8, 18, 30].getD level 30

def State.level (s : State) : Nat := s.rd GL_FLOOR_LEVEL

/-- mV of a step. -/
def vddMv (v : Nat) : Nat := 650 + 5 * v

/-- Compass works: the E-die runs with its Tether up (R641). -/
def State.compassOn (s : State) : Bool := s.ready && s.flag KP_TETHER_UP

/-- A write of VDD_CORE goes out on AVSBus, clamped to Table KPR-7; while AVSBus has failed only the retries go out. -/
def State.avsWrite (s : State) (v : Nat) : State :=
  let v := clamp (vddMin s.level) 50 v
  if s.flag CP_STAT_AVS_FAIL then s
  else
    let s := if s.rd CP_STAT_VDD < v then s.count 2 else if v < s.rd CP_STAT_VDD then s.count 3 else s
    let s := (s.wr CP_STAT_VDD v).emit (.avs v)
    { s with keep := { s.keep with avsAt := some s.clock, avsTries := 0 } }

/-- A write that was not reported as unacknowledged within 10 us has been acknowledged. -/
def State.avsSettle (s : State) : State :=
  match s.keep.avsAt with
  | some t => if t + 10000 < s.clock then { s with keep := { s.keep with avsAt := none, avsTries := 0, acked := s.rd CP_STAT_VDD } } else s
  | none => s

/-- GL_FLOOR.THROTTLE: throttling, AVSBus failed, or the Tether lost (R621, R622, R641). -/
def State.reThrottle (s : State) : State :=
  s.setFlag GL_FLOOR_THROTTLE (s.keep.throttling || s.flag CP_STAT_AVS_FAIL || !s.flag KP_TETHER_UP)

/-- The level of R619. -/
def State.wantLevel (s : State) : Nat := max (s.rd GL_FLOOR_REQUIRED) (max (s.rd CP_CTL_MIN_LEVEL) s.sliceFloor)

/-- The level that Compass may go to: of R619, below the cap of R622. -/
def State.aimLevel (s : State) : Nat := match s.keep.cap with | some c => min s.wantLevel (max c s.level) | none => s.wantLevel

/-- No handler runs (R260). -/
def State.helmsQuiet (s : State) : Bool := s.helms.all fun e => e.2.run.isNone

/-- The divider switches; COMPASS fires with the new level (Table KPR-8). -/
def State.setLevel (s : State) (l : Nat) : State :=
  if l = s.level then s
  else ((s.wr GL_FLOOR_LEVEL l).count 1).fire 36 (if s.level < l then 1 else 2) l

/-- Down: frequency first, then the voltage, to the level's start voltage (R620). -/
def State.lowerTo (s : State) (l : Nat) : State := (s.setLevel l).avsWrite (vddStart l)

/-- Up: the voltage first; the level follows 40 us after the acknowledgement (R620). -/
def State.raiseTo (s : State) (l : Nat) : State :=
  let s := s.avsWrite (max (vddStart l) (s.rd CP_STAT_VDD))
  { s with keep := { s.keep with raise := some (l, s.clock) } }

/-- COMPASS_LOOP (R618): the margins of the 24 monitors, every 95 us at the earliest. -/
def execCompassLoop (margins : List (Fin 16)) (s : State) : Res :=
  if margins.length ≠ 24 then .fault .illFormed
  else if !s.compassOn || s.clock < s.keep.loopDue then .next s
  else
    let s := s.avsSettle
    let m := margins.foldl (fun k x => min k x.val) 15
    let run := if s.rd CP_CTL_HI ≤ m then s.keep.hiRun + 1 else 0
    let s := { s.wr CP_STAT_MARGIN m with keep := { s.keep with loopDue := s.clock + 95000, hiRun := min 10 run } }
    .next (if m < s.rd CP_CTL_LO then s.avsWrite (s.rd CP_STAT_VDD + 2)
      else if 10 ≤ run then s.avsWrite (s.rd CP_STAT_VDD - 1) else s)

/-- MARGIN_ZERO (R618): 25 mV at once. -/
def execMarginZero (s : State) : Res :=
  .next (if s.compassOn then s.avsSettle.avsWrite (s.rd CP_STAT_VDD + 5) else s)

/-- SYSPLL_LEVEL_CHANGE (R619, R620): a raise is decided, or takes effect; or the level falls. While throttling, only a
raise that throttling itself has begun takes effect. -/
def execSyspllLevelChange (s : State) : Res :=
  if !s.compassOn then .next s
  else
    let s := s.avsSettle
    let aim := s.aimLevel
    match s.keep.raise with
    | some (l, t) =>
      if aim < l then .next { s with keep := { s.keep with raise := none } }
      else if t + 40000 ≤ s.clock ∧ s.keep.avsAt = none ∧ ¬s.flag CP_STAT_AVS_FAIL then
        let s := (s.setLevel l)
        .next { s with keep := { s.keep with raise := none } }
      else .next s
    | none =>
      if s.keep.throttling || s.flag CP_STAT_AVS_FAIL then .next s
      else if s.level < aim then .next (s.raiseTo aim)
      else if aim < s.level ∧ s.helmsQuiet = true then .next (s.lowerTo aim)
      else .next s

/-- A temperature of ADC channel 12 in 0.0625 degC, signed (Table SND-4). -/
def State.junction (s : State) : Nat := (s.rd KP_ADC_RAW 0 12 + 2 ^ 32 - 1024) % 2 ^ 32

/-- THROTTLE_STEP (R621): 100 degC is 2624 of channel 12. Down to REQUIRED while hot, up to the level of R619 after 10 ms
below 95 degC; one level every 1 ms. -/
def execThrottleStep (s : State) : Res :=
  if !s.compassOn || !s.flag KP_ADC_VALID 0 12 then .next s
  else
    let s := s.avsSettle
    if 2624 ≤ s.rd KP_ADC_RAW 0 12 then
      let s := if s.keep.throttling then s
        else
          let s := { s with keep := { s.keep with throttling := true, stepDue := s.clock, raise := none } }
          (s.reThrottle.count 4).fire 7 1 s.junction
      .next (if s.clock < s.keep.stepDue || s.level ≤ s.rd GL_FLOOR_REQUIRED || !s.helmsQuiet then s
        else
          let s := s.lowerTo (s.level - 1)
          { s with keep := { s.keep with stepDue := s.inMs 1 } })
    else match s.keep.throttling, s.keep.coolSince with
    | true, some t =>
      if s.clock < t + 10000000 then .next s
      else if s.aimLevel ≤ s.level then
        let s := { s with keep := { s.keep with throttling := false } }
        .next (s.reThrottle.fire 7 2 s.junction)
      else if s.clock < s.keep.stepDue || s.keep.raise.isSome || s.flag CP_STAT_AVS_FAIL then .next s
      else
        let s := s.raiseTo (s.level + 1)
        .next { s with keep := { s.keep with stepDue := s.inMs 1 } }
    | _, _ => .next s

/-- The highest level whose minimum is at or below a voltage (R622). -/
def capOf (v : Nat) : Nat := [1, 2, 3].foldl (fun m l => if vddMin l ≤ v then l else m) 0

/-- AVSBUS_TIMEOUT: 10 us without an acknowledgement; the third failure in a row is AVSBus's (R622). -/
def execAvsbusTimeout (s : State) : Res :=
  match s.keep.avsAt with
  | none => .next s
  | some t =>
    if !s.compassOn || s.clock < t + 10000 then .next s
    else if s.keep.avsTries < 2 then
      .next (({ s with keep := { s.keep with avsTries := s.keep.avsTries + 1, avsAt := some s.clock } } : State).emit (.avs (s.rd CP_STAT_VDD)))
    else
      let a := s.keep.acked
      let s := { s with keep := { s.keep with avsAt := none, avsTries := 0, raise := none, cap := some (capOf a),
                                              avsRetry := some (s.inMs 10) } }
      .next (((s.wr CP_STAT_AVS_FAIL 1).wr CP_STAT_VDD a).reThrottle.kfire 17 1 (vddMv a))

/-- AVSBUS_RETRY: the write of the last acknowledged voltage goes out again; `ack`: it is acknowledged (R622). -/
def execAvsbusRetry (ack : Bool) (s : State) : Res :=
  if !s.compassOn || !s.isDue s.keep.avsRetry then .next s
  else
    let s := s.emit (.avs (s.rd CP_STAT_VDD))
    if ack then
      let s := { s with keep := { s.keep with avsRetry := none, cap := none } }
      .next ((s.wr CP_STAT_AVS_FAIL 0).reThrottle.kfire 17 2 (vddMv s.keep.acked))
    else .next { s with keep := { s.keep with avsRetry := some (s.inMs 10) } }

/-- THERMAL_SHUTDOWN (R623): a die at temperature `t` (0.0625 degC, signed). Bays and E-die go off, with no Logbook; the
Cellar's supply stays (R716). -/
def execThermalShutdown (t : BitVec 16) (s : State) : Res :=
  s.kEvent fun s =>
    if s.keep.shutHold then s
    else
      let st := s.rd KP_PWR_STAT_EDIE
      let s := { s with keep := { s.keep with shutHold := true, coldNext := true, wake := none } }
      let s := [0, 1, 2, 3].foldl (fun s b => s.bayOffNow b) s
      let s := if st = 3 ∨ st = 4 then s else s.coreOff 3
      let s := { s with boot := { s.boot with phase := 0, attic := 0, railRetry := none } }
      (s.wr KP_PWR_STAT_THERM_SHUT 1).kfire 7 4 (t.signExtend 32).toNat

/-- THERMAL_RECOVERY: both dies have been below 95 degC for 1 s. -/
def execThermalRecovery (s : State) : Res :=
  s.kEvent fun s => { s with keep := { s.keep with shutHold := false } }

end Sys2Proof.Machine
end

