-- ==== Sys2Proof/Machine/SesBase.lean ====
section
/-! DEFINITION. What grants, revocations, session resets and closes share (chapter 02): the end of a watch (R60), a change of
owner (R408, R426, R450, R533, R624), the session map that Unlon builds (R74-R76), and the scrub of a release (R69-R72). -/

namespace Sys2Proof.Machine

open Reg

/-! ### Slice reset (R626) -/

/-- An operation works on a slice: its object, or the group an ACQUIRE takes. -/
def Op.onSlice (o : Op) (i : Nat) : Bool := opObj? o = some (sliceObj i) || (o.opcode = 0x10 && (acqSlices o).contains i)

/-- A slice reset of a slice, or of its whole group: ACQUIRE and SOUND in flight end DONE_CANCELLED, the front end is IDLE,
and the registers that do not list SL take their Reset values. -/
def State.sliceReset (s : State) (i : Nat) : State :=
  let lead := (s.groupLead? i).getD i
  let g := s.group lead
  let s := (s.ops.filter fun o => (o.opcode = 0x10 || o.opcode = 0x12) && o.live && g.any fun j => o.onSlice j).foldl
    (fun s o => s.abortOp o doneCancelled) s
  let s := if s.rd LINE_STAT_LSTATE lead = 0 then s else s.idleLine lead
  let s := s.resetRegs svSL fun r j => r = 3 && g.contains j
  g.foldl (fun s j => s.setOvh j { s.ovh j with latch := 0, insLeft := 0, insEvery := 0 }) s

/-! ### Watches -/

/-- A watch ends (R60): the watcher's ports on the slice receive WATCH_ENDED and no more, its points there are orphaned
(R450), and its RUNNING operations on the slice complete DONE_PARTIAL. -/
def State.watchEnd (s : State) (i w : Nat) : State :=
  let o := sliceObj i
  let s := { s with own := { s.own with watches := s.own.watches.filter fun x => !(x.1 = i && x.2 = w) } }
  let s := (s.portsWhere fun h q => s.helmOwner h = w && q.src = o && !q.cut).foldl (fun s e =>
    let s := s.enqueue e.1 5 e.2.1 0xFF true []
    s.setHelm e.1 ((s.helm e.1).setPort e.2.1 { e.2.2 with cut := true })) s
  let s := s.pmOrphanObj w o true
  (s.ops.filter fun x => x.sess = w && x.live && x.active && x.started && opObj? x = some o).foldl
    (fun s x => s.abortOp x donePartial) s

/-- Every watch that satisfies `p` ends. -/
def State.watchesEnd (s : State) (p : Nat × Nat → Bool) : State :=
  (s.own.watches.filter p).foldl (fun s x => s.watchEnd x.1 x.2) s

/-! ### A change of owner -/

/-- The sources owned through an object (Table BCN-2). -/
def objSources (o : Nat) : List Nat :=
  let i := objIndex o
  match objClass o with
  | 0 => (List.range 4).map fun k => 64 + 8 * i + k
  | 1 => (List.range 4).map fun k => 64 + 8 * (8 + i) + k
  | 2 => (List.range 8).map fun k => 256 + 8 * i + k
  | 4 => [512 + i]
  | 9 => [576 + i]
  | _ => []

/-- The block and instance of an object's registers, by `Region.code`. -/
def objRegs (o : Nat) : Nat × Nat :=
  let i := objIndex o
  match objClass o with
  | 0 => (3, i) | 1 => (3, 8 + i) | 2 => (4, i) | 4 => (7, i) | 7 => (6, i) | 8 => (9, i) | _ => (10, i)

/-- An object's own state is wiped as a session reset or a change of owner leaves it: Helms EMPTY with their memories zero,
Chutes empty, units idle, points detached, slices as after a slice reset. -/
def State.wipeObj (s : State) (o : Nat) : State :=
  let i := objIndex o
  match objClass o with
  | 2 => { s with helms := smDel s.helms i }.refloor
  | 4 => { s with chutes := smDel s.chutes i }
  | 7 => { s.patRelease i 3 with pats := smDel s.pats i }
  | 8 => s.pmReset i
  | 9 => s.deleteGroup i
  | _ => match objSlice? o with | some j => s.sliceReset j | none => s

/-- An object moves from Sn to Sm: what Sn built on it is undone (R408, R426, R450), its sources start over under the new
owner (R533), watches of a slice end and its charge with them, and it is wiped (R50, R624). -/
def State.moveObj (s : State) (o n m : Nat) : State :=
  let s := match objSlice? o with | some i => s.watchesEnd (fun w => w.1 = i) | none => s
  let s := if objClass o ≤ 1 ∨ objClass o = 4 ∨ objClass o = 7 then ((s.chartOrphan n o).protOrphan n o).pmOrphanObj n o false else s
  let s := s.wipeObj o
  let s := { s with own := { s.own with objs := smSet 0 s.own.objs o m } }
  (objSources o).foldl (fun s k => s.rerouteSource k) s

/-- The fields of an object that do not list SE take their Reset values (R45 step 4, R46 step 5). -/
def State.resetObjs (s : State) (l : List Nat) : State :=
  s.resetRegs svSE fun r i => l.any fun o => objRegs o = (r, i)

/-- A Chart range leaves or comes: its entries are scrubbed (R408). -/
def State.scrubRange (s : State) (first count : Nat) : State :=
  (List.range count).foldl (fun s k => s.scrubEntry (first + k)) s

/-! ### Session maps -/

/-- Pages of the Logbook region (R669). -/
def State.logPage (s : State) (p : Nat) : Bool :=
  let b := s.rd LG_BASE_DPA / 4096
  decide (b ≤ p ∧ p < b + 1024)

/-- Unlon's map tables, by page. -/
def State.tablePage (s : State) (p : Nat) : Bool := s.sessions.any fun e => e.2.tables.any fun t => p / 2 = t / 8192

/-- A page of a store that Unlon can give: nobody's window, in no scrub, no table, not the Logbook's. -/
def State.pageFree (s : State) (kind p : Nat) : Bool :=
  let a := p * 4096
  (if kind = 1 then inLarder a else s.inCellar a && s.inCellar (a + 4095)) && smGet 0 s.own.pages p = 0 &&
    !s.pageBusy p && !s.tablePage p && !s.logPage p

/-- Runs of contiguous physical pages of a window (R639). -/
def pageRuns : List Nat → Nat
  | [] => 0
  | [_] => 1
  | a :: b :: l => pageRuns (b :: l) + boolNat (b ≠ a + 1)

/-- The level-1 indices that windows use, ascending. -/
def l1Used (ws : List Window) : List Nat :=
  (((ws.map fun w => (List.range w.pages.length).map fun k => (w.swa / 4096 + k) / 1024).flatten).dedup).mergeSort (fun a b => decide (a ≤ b))

/-- Tables of a map: the level-1 table and one level-2 table for each level-1 index used. -/
def tableCount (ws : List Window) : Nat := 1 + (l1Used ws).length

/-- Unlon writes the map of Sn at `base`, the level-1 table first and the level-2 tables behind it, 4 KiB pages with W = 1,
and sets the walkable region to cover those tables only. -/
def State.buildMap (s : State) (n base : Nat) (ws : List Window) : State :=
  let ix := l1Used ws
  let tabs := (List.range (1 + ix.length)).map fun k => base + 8192 * k
  let s := (List.range (2 * (1 + ix.length))).foldl (fun s k => s.scrubPage (base / 4096 + k)) s
  let s := ix.zipIdx.foldl (fun s e => s.setNum (base + 8 * e.1) 8 (base + 8192 * (1 + e.2) + 1)) s
  let s := ws.foldl (fun s w => w.pages.zipIdx.foldl (fun s e =>
    let v := w.swa / 4096 + e.2
    s.setNum (base + 8192 * (1 + ix.idxOf (v / 1024)) + 8 * (v % 1024)) 8 (e.1 * 4096 + 3)) s) s
  let s := ((s.wr SES_MAP_BASE (base / 8192) n).wr SES_WALK_ADDR (base / 8192) n).wr SES_WALK_LIM_ADDR (base / 8192 + ix.length) n
  s.setSess n { s.sess n with windows := ws, tables := tabs }

/-- A window list without `count` pages from SWA `swa` of a store, and the pages taken out; `none` when they are not all in
its windows. -/
def cutWindows (ws : List Window) (kind swa count : Nat) : Option (List Window × List Nat) :=
  let a := swa / 4096
  let hit := fun (w : Window) => w.kind = kind && decide (w.swa / 4096 < a + count ∧ a < w.swa / 4096 + w.pages.length)
  let parts := fun (w : Window) =>
    if !hit w then [w]
    else
      let b := w.swa / 4096
      let l := w.pages.take (a - b)
      let r := w.pages.drop (a + count - b)
      [{ w with pages := l }, { swa := (a + count) * 4096, kind := kind, pages := if b + w.pages.length ≤ a + count then [] else r }].filter
        fun (x : Window) => x.pages ≠ []
  let out := (ws.filter hit).map fun w =>
    let b := w.swa / 4096
    (w.pages.take (a + count - b)).drop (a - b)
  if out.flatten.length = count then some ((ws.map parts).flatten, out.flatten) else none

/-! ### Scrub (R69-R72) -/

/-- Time an engine of Table SES-5 takes, ns rounded up: Larder page 1953.125, Cellar page 976.5625 x 4266 / r. -/
def larderNs (pages : Nat) : Nat := (pages * 1953125 + 999) / 1000

def cellarRate (code : Nat) : Nat := if code = 1 then 3200 else if code = 2 then 3733 else 4266

def State.cellarNs (s : State) (pages : Nat) : Nat :=
  let r := cellarRate (s.rd MX_CELLAR_RATE)
  (pages * 9765625 * 4266 + 10000 * r - 1) / (10000 * r)

/-- A release enters the scrub engines: each starts when it is done with the releases before (R70), and its pages read zero
from now on (R72). `work` is the time each engine needs. -/
def State.startScrub (s : State) (x : Scrub) (work : List Nat) : State :=
  let busy := fun e => s.own.scrubs.foldl (fun m r => max m (r.ends.getD e 0)) s.clock
  let ends := (List.range 5).map fun e => if work.getD e 0 = 0 then 0 else busy e + work.getD e 0
  let s := x.pages.foldl (fun s p => s.scrubPage p) s
  { s with own := { s.own with scrubs := s.own.scrubs ++ [{ x with ends := ends }] } }

/-- Larder and Cellar pages of a list. -/
def larderPages (l : List Nat) : Nat := (l.filter fun p => inLarder (p * 4096)).length

/-- Time for each engine of a release: pages and crates, Helms, Chutes, and the session's map cache. -/
def State.scrubWork (s : State) (pages : List Nat) (lCrates cCrates helms chutes : Nat) (cache : Bool) : List Nat :=
  let lp := larderPages pages
  [larderNs (lp + lCrates), s.cellarNs (pages.length - lp + 16 * cCrates), if helms = 0 then 0 else 12000,
   if chutes = 0 then 0 else 2000, if cache then 500 else 0]

/-! ### What belongs to a session -/

def State.objsOf (s : State) (n : Nat) : List Nat := (s.own.objs.filter fun e => e.2 = n).map (·.1)

def State.pagesOf (s : State) (n : Nat) : List Nat := (s.own.pages.filter fun e => e.2 = n).map (·.1)

def State.helmsOf (s : State) (n : Nat) : List Nat := ((s.objsOf n).filter fun o => objClass o = 2).map objIndex

/-- A program of the session is still bound. -/
def State.boundIn (s : State) (n : Nat) : Bool := (s.helmsOf n).any fun h => (s.helm h).ps.bound

end Sys2Proof.Machine
end

