-- ==== Sys2Proof/Machine/Boot.lean ====
section
/-! DEFINITION. Start-up, wakes, the replay of the wake latches, and the Tether (chapters 17, 19, 20 and 24). -/

namespace Sys2Proof.Machine

open Reg

/-! ### Replay of the wake latches (R551, R552) -/

/-- Device time of a keeper time in the past, as the rebase has it. -/
def State.toDevice (s : State) (k : Nat) : Nat :=
  (s.tm.device - (s.tm.keeper + 2 ^ 48 - k) % 2 ^ 48 * 1953125 / 64) % 2 ^ 48

/-- Each set latch fires once, in ascending order, with its count and the time of its first edge, and is cleared; then the
Calendar firings that were held, in the order of their times, with a CAUSE that no rule states. -/
def State.replay (s : State) : State :=
  let s := (List.range 32).foldl (fun (s : State) k =>
    if s.maskBit KP_WLATCH_LATCH k then
      let x := (s.source k).merge (smGet 0 s.beacon.latchCause k) (smGet 0 s.beacon.latchData k)
        (s.toDevice (s.rd KP_WTIME_KTIME 0 k)) (s.rd KP_WTIME_EDGES 0 k) true
      (s.setSource k x).setMaskBit KP_WLATCH_LATCH k false
    else s) s
  let s := { s with beacon := { s.beacon with latchData := [], latchCause := [] } }
  let s := s.keep.held.foldl (fun (s : State) h =>
    s.draw.setSource h.2.1 ((s.source h.2.1).merge (s.drawn % 256) h.1 (s.toDevice h.2.2) 1 true)) s
  { s with keep := { s.keep with held := [] } }

/-- LATCH_REPLAY: the Beacon is back in Run. -/
def execLatchReplay (s : State) : Res := .next (if s.beaconUp && s.rd KP_DOM % 4 = 0 then s.replay else s)

/-- WAKE_LATCH_SET: an edge of a K-die source while the Beacon is stopped. -/
def execWakeLatchSet (k : Fin 18) (cause : Byte) (data : Word) (s : State) : Res :=
  s.kEvent fun s => if s.beaconUp then s else s.latch k cause.toNat data.toNat

/-! ### Ready -/

/-- What Unlon found of the Cellar (R42, R522, R523), and what it sets with it: crate pools (R488), the Logbook region
(R669), and FLOOR where no Cellar is fitted (R636). -/
def State.memFit (s : State) : State :=
  let b := s.boot
  let gib := if b.rate = 0 then 0 else b.gib
  let mib := if b.ecc then gib * 896 else gib * 1024
  let s := ((s.wr GL_MEM_CELLAR_GIB gib).setFlag GL_MEM_CELLAR_ECC (b.ecc && gib ≠ 0)).wr MX_CELLAR_RATE (if gib = 0 then 0 else b.rate)
  let s := (s.setFlag MX_CELLAR_INLINE_ECC (b.ecc && gib ≠ 0)).wr MX_CELLAR_ADDR_MIB mib
  let s := (s.wr CU_LPOOL_SIZE 512).wr CU_CPOOL_SIZE (mib * 16 / 4)
  let s := s.wr LG_BASE_DPA (if gib = 0 then 0x400000 else cellarBase + mib * 0x100000 - 0x400000)
  if gib = 0 then s.wr KP_PWR_CTL_FLOOR 2 else s

/-- Unlon reports ready (R634, Table RST-7): the event that `cause` codes is complete, the Tether works and the K-die's
allowance is known, and the background checks and Compass start. The vector bases that Unlon sets are free. -/
def State.unlonReady (s : State) (cause : Nat) : State :=
  let s := ((((s.wr GL_BOOT_READY 1).wr GL_BOOT_SLOT s.boot.slot).wr GL_UNLON_VERSION s.boot.version).wr GL_RST_CAUSE cause).wr KP_RST_LAST cause
  let s := ((s.wr KP_RST_BOOT_FAIL 0).wr KP_PWR_STAT_EDIE 0).wr KP_TETHER_UP 1
  let v0 := s.drawn % 2 ^ 32
  let v1 := s.draw.drawn % 2 ^ 32
  let s := s.draw.draw
  let bays := [0, 1, 2, 3].foldl (fun m b =>
    if s.bayState b = 5 ∧ s.rd BY_HEAD_STATUS 0 b = 0 then
      smSet Bay.init m b { s.bay b with idFrom := some s.clock, idNext := s.clock } else m) s.bays
  let s : State := { s with
    beacon := { s.beacon with vbase := [v0, v1] }, power := { reported := s.rd FD_ALLOW_MW }, bays := bays,
    keep := { s.keep with loopDue := s.clock, wake := none },
    boot := { s.boot with phase := 0, lostAt := none },
    health := { s.health with larderDue := s.clock, cellarDue := s.clock, mbistDue := s.clock, chartDue := s.clock } }
  s.memFit.reThrottle

/-- UNLON_READY after a cold boot, with the Cellar it found, or after a warm reset, whose copy passes its check or turns the
reset into a cold one (R627). -/
def execUnlonReady (copyOk : Bool) (gib : Fin 5) (ecc : Bool) (rate : Fin 4) (s : State) : Res :=
  .next (match s.boot.phase with
  | 5 => ({ s with boot := { s.boot with gib := gib, ecc := ecc, rate := rate } } : State).unlonReady s.boot.cause
  | 2 => if copyOk then s.unlonReady s.boot.cause else s.coldReset 2
  | _ => s)

/-! ### Power-up and the boot ROM -/

/-- The E-die's reset is released (Table ELC-14, step 6). -/
def State.railsUp (s : State) : Bool := s.railPast 2000

/-- COLD_BOOT (R634, R635): what the ROM finds in each slot: `none` the slot passes, else its failure (1 magic or length, 2
digest, 3 signature, 4 no answer), and the VERSION of its header. Slot B is read when slot A fails. -/
def execColdBoot (a b : Option (Fin 4)) (verA verB : Word) (s : State) : Res :=
  if s.boot.phase ≠ 1 || !s.railsUp then .next s
  else
    let s := { s with mem := { s.mem with larder := [] } }
    .next (match a, b with
    | none, _ => { s with boot := { s.boot with phase := 5, slot := 0, version := verA.toNat } }
    | some x, none =>
      let s := (s.wr GL_BOOT_FAIL_A 1).wr GL_BOOT_FAIL_CAUSE (x + 1)
      { s with boot := { s.boot with phase := 5, slot := 1, version := verB.toNat } }
    | some _, some y =>
      let s := ((s.wr GL_BOOT_FAIL_A 1).wr GL_BOOT_FAIL_B 1).wr GL_BOOT_FAIL_CAUSE (y + 1)
      let s := (s.wr KP_RST_BOOT_FAIL 1).wr KP_RST_QSPI_REL 1
      { s with boot := { s.boot with phase := 3 } })

/-- RAIL_CHECK_FAIL: the check of step 5 fails; after the third failure the E-die is held off (R714). -/
def execRailCheckFail (s : State) : Res :=
  .next (if !s.railPast 1900 then s
    else
      let k := s.boot.railFails + 1
      if 3 ≤ k then { s with boot := { s.boot with railFails := k, phase := 4, railRetry := none } }
      else { s with boot := { s.boot with railFails := k, railRetry := some (s.inMs 100) } })

/-- The power-up starts from step 1. -/
def State.railsAgain (s : State) : State := { s with boot := { s.boot with railRetry := none, railAt := s.clock } }

/-- RAIL_RETRY. -/
def execRailRetry (s : State) : Res := .next (if s.isDue s.boot.railRetry then s.railsAgain else s)

/-- POR_K: the first valid feed after Off, or (`none`) KRST_N low for 10 us (R624). Pins, feeds and conversions are what they
are. -/
def execPorK (f : Option (Fin 3)) (s : State) : Res :=
  let off := s.rd KP_PWR_STAT_EDIE = 5
  if f.isSome ≠ off then .next s
  else
    let r := State.reset
    let r := { r with pending := s.pending, clock := s.clock, freeCtr := s.freeCtr, out := s.out,
                      host := { r.host with perst := s.host.perst }, boot := { r.boot with since := s.clock, railAt := s.clock } }
    let r := (r.keepFlds s [BY_STAT_SEAT_A, BY_STAT_SEAT_B, BY_STAT_LOS, BY_STAT_INT] 4).wr FD_STAT_VALID
      (match f with | some x => 2 ^ x.val | none => s.rd FD_STAT_VALID)
    .next (r.pathScan 0)

/-! ### Wakes (Table KPR-6, R616, R637, R638) -/

/-- The pages of sessions' Cellar windows hold free values after Moor (R633). -/
def State.moorWindows (s : State) : State :=
  let pages := s.sessions.flatMap fun e => e.2.windows.flatMap fun w => w.pages.filter (0x100000 ≤ ·)
  pages.foldl (fun (s : State) p =>
    { s with mem := { s.mem with undef := smSet (0, []) s.mem.undef p (s.freeCtr, []) }, freeCtr := s.freeCtr + 8192 }) s

/-- The session maps that Unlon built are rebuilt from the windows (R638). -/
def State.rebuildMaps (s : State) : State :=
  s.sessions.foldl (fun s e => match e.2.tables with | b :: _ => s.buildMap e.1 b e.2.windows | [] => s) s

/-- A wake from `st` ends: restored from the Attic when the image and Unlon's code pass their checks, else a cold boot; after
thermal shutdown a cold boot in any case (R623). -/
def State.wakeEnd (s : State) (st : Nat) (imageOk codeOk : Bool) : State :=
  match s.keep.wake with
  | some (x, _) =>
    if x ≠ st || !s.railsUp then s
    else if s.keep.coldNext then s.coldReset 4
    else if s.boot.attic ≠ 1 || !imageOk || !codeOk then s.coldReset 3
    else
      let s := s.rebase.compassStart
      let s := { s with boot := { s.boot with attic := 2 }, keep := { s.keep with ppsUntil := some (s.inMs 1100) } }
      if st = 4 then (s.unlonReady 10).rebuildMaps.moorWindows else (s.unlonReady 9).rebuildMaps
  | none => s

/-- WAKE_FROM_STOW: whether the image's CRC and the copy of Unlon in the Cellar pass. -/
def execWakeFromStow (imageOk codeOk : Bool) (s : State) : Res := .next (s.wakeEnd 3 imageOk codeOk)

/-- WAKE_FROM_MOOR: likewise, with the code of the flash slot, and the Cellar as it trains now. -/
def execWakeFromMoor (imageOk codeOk : Bool) (gib : Fin 5) (ecc : Bool) (rate : Fin 4) (s : State) : Res :=
  .next (({ s with boot := { s.boot with gib := gib, ecc := ecc, rate := rate } } : State).wakeEnd 4 imageOk codeOk)

/-! ### The Tether (R640-R643) -/

/-- The Tether is lost (R640, R641). The CAUSE bit of LOST and the DATA no rule states: free. -/
def State.tetherLost (s : State) : State :=
  if !s.flag KP_TETHER_UP then s
  else
    let s := ((s.wr KP_TETHER_UP 0).bump KP_RST_TETHER_LOST).stowAbort
    let s := (List.range 8).foldl (fun s d => if s.flag LG_STAT_HOLD then s else s.domRun d) s
    let s := { s with boot := { s.boot with lostAt := some s.clock, trainDue := s.inMs 1 } }
    s.reThrottle.fireFree 37

/-- TETHER_RESEND: the `k`-th failure of a transfer, counted from 0; the fourth loses the Tether. -/
def execTetherResend (k : Fin 4) (s : State) : Res :=
  .next (if !s.flag KP_TETHER_UP then s
    else if k.val = 3 then s.tetherLost else (s.bump KP_TETHER_RETRIES).count 225)

/-- TETHER_HEARTBEAT_MISS: 50 us without one. -/
def execTetherHeartbeatMiss (s : State) : Res := .next (if s.flag KP_TETHER_UP then (s.count 226).tetherLost else s)

/-- TETHER_RETRAIN: every 1 ms; when it succeeds the K-die's state and latches follow, then TETHER fires (R642). -/
def execTetherRetrain (ok : Bool) (s : State) : Res :=
  match s.boot.lostAt with
  | none => .next s
  | some _ =>
    if s.clock < s.boot.trainDue then .next s
    else if !ok then .next { s with boot := { s.boot with trainDue := s.inMs 1 } }
    else
      let s := { s with boot := { s.boot with lostAt := none } }
      let s := ((s.wr KP_TETHER_UP 1).allowUpdate 0).reThrottle
      .next (s.replay.fireFree 37)

/-- TETHER_FATAL (R642). -/
def execTetherFatal (s : State) : Res :=
  .next (match s.boot.lostAt with
  | some t => if t + 100000000 ≤ s.clock then s.fatal 3 0 else s
  | none => s)

/-- WARM_TETHER_TIMEOUT (R643): the Tether is not up 10 ms after a warm reset. Unlon runs, and writes the dump that R683
allows here. -/
def execWarmTetherTimeout (s : State) : Res :=
  .next (if s.boot.phase = 2 ∧ s.boot.since + 10000000 ≤ s.clock then
    let s : State := { s with boot := { s.boot with phase := 0, lostAt := some s.clock, trainDue := s.inMs 1 } }
    ((s.wr GL_BOOT_READY 1).bump KP_RST_TETHER_LOST).fatal 3 1
  else s)

end Sys2Proof.Machine
end

