-- ==== Sys2Proof/Machine/Beacon.lean ====
section
/-! DEFINITION. The commands of the Beacon (chapter 17). A source's holder is coded as its target: 0-15 the event queue of
Sn, 16 and 17 the Stewards, 35-63 a PF0 vector, and 64 + n the function of Sn as a claimant under a mask route. -/

namespace Sys2Proof.Machine

open Reg

/-- The Beacon presents and writes: its domain is in Run or Doze and Unlon works. -/
def State.beaconWorks (s : State) : Bool := s.working && s.rd KP_DOM % 4 ≤ 1

/-- The source is taken by `holder`, its record (if any) at `pos`; the LINE source of a watched slice leaves a copy to every
watcher (R536, R546). -/
def State.takeSource (s : State) (k holder pos : Nat) : State :=
  let x := s.source k
  let s := s.setSource k (x.take holder pos)
  if 64 ≤ k ∧ k < 256 ∧ k % 8 = 0 then
    let i := (k - 64) / 8
    let rec' := eventRecord k x.cause (16 + 4 * boolNat x.latched) x.data x.time x.count
    ((List.range 16).filter fun n => s.watches n i).foldl (fun s n => s.eqMessage n rec') s
  else s

/-- A record for source `k` is written to the queue of Sn when it can be: after an overflow record that is due (R548), with a
slot and staging free (R526, R549). The answer is the record's position. -/
def State.eqRecord (s : State) (n k flags : Nat) : Option (Nat × State) :=
  if !s.eqLive n || (s.sess n).phase ≠ 0 then none
  else
    let s := s.eqOverflow n
    if s.eqFree n && s.stagingRoom 16 then
      let x := s.source k
      some ((s.sess n).eqWritten, s.eqWrite n (eventRecord k x.cause (flags + 4 * boolNat x.latched) x.data x.time x.count))
    else none

/-- Host functions that a mask route names (R539). -/
def State.maskHosts (s : State) (k : Nat) (m : Nat) : List Nat :=
  (if m.testBit 2 then [0] else []) ++ (if m.testBit 3 && !(m.testBit 2 && s.srcOwner k = 0) then [s.srcOwner k] else [])

/-- SOURCE_FIRE: a doorbell word reaches the Beacon (R529, R534). -/
def execSourceFire (k : Fin 1024) (cause : Byte) (data : Word) (s : State) : Res :=
  .next (if s.working then s.fire k cause.toNat data.toNat else s)

/-- SOURCE_TAKE: the Beacon serves a pending source that is enabled. A static route to an event queue takes it with its
record; a PF0 vector is sent; under a mask route the host functions get their records to claim by (R536, R540). -/
def execSourceTake (k : Fin 1024) (s : State) : Res :=
  let x := s.source k
  let r := s.routeOf k
  if !s.beaconWorks || x.st ≠ 1 || !x.en then .next s
  else if r.mode = 0 then
    if r.target < 16 then
      match s.eqRecord r.target k 0 with
      | some (pos, s) => .next (s.takeSource k r.target pos)
      | none => .next s
    else if 35 ≤ r.target ∧ r.target < 64 ∧ x.presented = false then
      .next ((s.setSource k { x with presented := true }).pushStage (.msix 0 (r.target - 32)))
    else .next s
  else if x.presented then .next s
  else
    let s := (s.maskHosts k r.mask).foldl (fun s n => match s.eqRecord n k 1 with | some (_, t) => t | none => s) s
    .next (s.setSource k { s.source k with presented := true })

/-! ### Stewards -/

/-- The pending sources a Steward is presented with. -/
def State.presents (s : State) (w k : Nat) : Bool :=
  let x := s.source k
  let r := s.routeOf k
  x.st = 1 && x.en && (if r.mode = 0 then r.target = 16 + w else r.mask.testBit w)

/-- The source presented first: highest priority, then ascending numbers after the last one taken there (R542). -/
def State.nextFor (s : State) (w : Nat) : Option Nat :=
  (List.range 4).foldl (fun b p => match b with
    | some k => some k
    | none =>
      let from_ := s.beacon.last.getD (4 * w + p) 0
      ((List.range 1024).map fun i => (from_ + i) % 1024).find? fun k => (s.source k).prio = p && s.presents w k) none

/-- Steward `w` is vectored for source `k` (1024 the spurious one); the pc and the flags that its exception registers save
are those of Unlon's program (R207): free. -/
def State.vectorTo (s : State) (w k : Nat) : State :=
  let a := (s.beacon.vbase.getD w 0 + 32 * k) % 2 ^ 32
  let x := (a, s.drawn % 2 ^ 32, s.draw.drawn % 2 ^ 32)
  let s := s.draw.draw
  ({ s with beacon := { s.beacon with vec := smIns s.beacon.vec w x } } : State).emit (.vector w a)

/-- STEWARD_PRESENT: Steward `w` accepts its vector; with `lost`, a source under a mask route that it was presented with
has been claimed by another target, and it gets the spurious vector (R540). -/
def execStewardPresent (w : Fin 2) (lost : Bool) (s : State) : Res :=
  if !s.beaconWorks then .next s
  else if lost then
    .next (if s.beacon.sources.any fun e => let r := s.routeOf e.1; r.mode = 1 && r.mask.testBit w && decide (2 ≤ e.2.st) && e.2.holder ≠ 16 + w.val
      then s.vectorTo w 1024 else s)
  else match s.nextFor w with
    | none => .next s
    | some k =>
      let l := ((List.range 8).map fun j => s.beacon.last.getD j 0).set (4 * w.val + (s.source k).prio % 4) ((k + 1) % 1024)
      let s := (s.takeSource k (16 + w) 0).vectorTo w k
      .next { s with beacon := { s.beacon with last := l } }

/-- A completion of source `k` by the target that took it (R537). -/
def State.completeSource (s : State) (k : Nat) (p : Nat → Bool) : State :=
  let x := s.source k
  if 2 ≤ x.st ∧ p x.holder = true then s.setSource k x.complete else s

/-- STEWARD_EOI. -/
def execStewardEoi (w : Fin 2) (k : Fin 1024) (s : State) : Res :=
  .next (if s.working then s.completeSource k (· = 16 + w.val) else s)

/-! ### Host functions -/

/-- A register access of Sn's function is performed: Unlon works, the function is enabled, and its session is KEYLESS or
OPEN (Table HST-5, R628, R683). -/
def State.sesWrites (s : State) (n : Nat) : Bool := s.working && s.fnEnabled n && (s.fn n).flr.isNone && s.sesTakes n

/-- BC_SET by PF0: a doorbell word (Table BCN-1). -/
def State.bcSet (s : State) (v : Nat) : State := s.fire (bitsAt v 0 10) (bitsAt v 16 8) (bitsAt v 32 32)

def execBcSet (v : BitVec 64) (s : State) : Res := .next (if s.working then s.tlpIn.bcSet v.toNat else s)

/-- SW_RAISE: software source `k` of Sn fires with SW_DATA and CAUSE 0 (Table BCN-10). -/
def State.swRaise (s : State) (n k : Nat) : State := s.fire (768 + 16 * n + k) 0 (s.rd SW_DATA n)

def execSwRaise (n k : Fin 16) (s : State) : Res := .next (if s.sesWrites n then s.tlpIn.swRaise n k else s)

/-- CLAIM: Sn's function claims source `k`; the register then reads the source won, or 0xFFFF (R540). -/
def State.bcClaim (s : State) (n k : Nat) : State :=
  let x := s.source k
  let r := s.routeOf k
  if k < 1024 ∧ r.mode = 1 ∧ x.st = 1 ∧ x.en = true ∧ (s.maskHosts k r.mask).contains n then
    (s.takeSource k (64 + n) 0).wr BC_CLAIM k n
  else s.wr BC_CLAIM 0xFFFF n

def execClaim (n : Fin 16) (k : BitVec 16) (s : State) : Res :=
  .next (if s.sesWrites n then s.tlpIn.bcClaim n k.toNat else s)

/-- EOI: Sn's function completes a source that it took through a PF0 vector or a claim. -/
def State.bcEoi (s : State) (n k : Nat) : State :=
  s.completeSource k fun h => h = 64 + n || (n = 0 && decide (35 ≤ h ∧ h < 64))

def execEoi (n : Fin 16) (k : Fin 1024) (s : State) : Res := .next (if s.sesWrites n then s.tlpIn.bcEoi n k else s)

/-- A read of BC_VCLAIM(v): the lowest pending source routed to vector `v` is taken and answered, else 0xFFFF. -/
def State.vclaim (s : State) (v : Nat) : Nat × State :=
  match (List.range 1024).find? fun k =>
      let x := s.source k
      x.st = 1 && x.en && (s.routeOf k).mode = 0 && (s.routeOf k).target = 32 + v with
  | some k => (k, s.takeSource k (32 + v) 0)
  | none => (0xFFFF, s)

/-- BC_VCLAIM by PF0, vectors 3 to 31. -/
def execBcVclaim (v : Fin 32) (s : State) : Res :=
  if !s.working || v.val < 3 then .next s
  else
    let (k, s) := s.tlpIn.vclaim v
    .next (s.emit (.readData 0 k))

/-! ### BC_SRC writes (R541, R690) -/

/-- The targets Table BCN-6 allows a source. -/
def State.routeOk (s : State) (k : Nat) (r : Route) : Bool :=
  let n := s.srcOwner k
  if srcFixed k then r.mode = 0 && r.target = n
  else if r.mode = 1 then true
  else r.target = 0 || r.target = 16 || r.target = 17 || decide (35 ≤ r.target ∧ r.target < 64) || r.target = n

/-- PF0 writes BC_SRC(k): refused whole and counted when its route is not allowed. -/
def State.bcSrcWrite (s : State) (k v : Nat) : State :=
  if srcReserved k then s
  else
    let r : Route := { mode := bitsAt v 3 1, target := bitsAt v 4 6, mask := bitsAt v 10 4 }
    if s.routeOk k r then
      let x := s.source k
      let same := decide (s.routeOf k = r)
      s.setSource k { x with en := v.testBit 2, prio := bitsAt v 14 2, route := if same then x.route else some r,
                             presented := x.presented && same }
    else s.bump BC_ERR_ROUTE

/-- The owner of a source writes its EN. -/
def State.bcSrcEn (s : State) (k v : Nat) : State :=
  if srcReserved k then s else s.setSource k { s.source k with en := v.testBit 2 }

end Sys2Proof.Machine
end

