-- ==== Sys2Proof/Machine/Chart.lean ====
section
/-! DEFINITION. The Chart's commands (chapter 12): CHART_WRITE, CHART_SWAP, the 125 us Chart boundary with what it commits and
evaluates, and the frame starts at which an entry's sides change. -/

namespace Sys2Proof.Machine

open Reg

/-- CH_STAT.PERR and PERR_INACT follow the words' parity marks (R417, R418). -/
def State.showPerr (s : State) (e : Nat) : State :=
  let a := s.activeLetter e
  let x := s.ent e
  (s.setFlag CH_STAT_PERR (x.perr.testBit a) e).setFlag CH_STAT_PERR_INACT (x.perr.testBit (1 - a)) e

/-- One word written into a letter of an entry, and read back (R419): a word that fails goes to a spare, and with no
spare left it is cleared. The Bool says that it was lost. -/
def State.chartPut (s : State) (e letter w : Nat) (bad : Bool) : State × Bool :=
  if !bad then ((s.setEnt e ((((s.ent e).setWord letter w)).setPerr letter false)).showPerr e, false)
  else if s.rd CH_ERR_SPARES_USED < 64 then
    let s := (s.count 185).eccNote 5 e false
    let x := ((s.ent e).setWord letter w).setPerr letter false
    let s := s.setEnt e { x with spare := setBitsAt x.spare letter 1 1 }
    (((s.wr CH_ERR_SPARES_USED (s.rd CH_ERR_SPARES_USED + 1)).wr CH_STAT_SPARED 1 e).showPerr e, false)
  else ((((s.count 185).eccNote 5 e false).setEnt e ((((s.ent e).setWord letter 0)).setPerr letter true)).wr CH_STAT_PERR 1 e, true)

/-- Words written to consecutive entries; the first offset that was lost. -/
def State.chartPuts (s : State) (first ofs letter : Nat) (fail : List Nat) : List Nat → State × Option Nat
  | [] => (s, none)
  | w :: ws =>
    let (s, lost) := s.chartPut (first + ofs) letter w (fail.contains ofs)
    let (s, r) := s.chartPuts first (ofs + 1) letter fail ws
    (s, if lost then some ofs else r)

/-- The words of one letter of Sn as they would be after a write of `ws` at entry `at`. -/
def State.lettersAfter (s : State) (n letter at_ : Nat) (ws : List Nat) : List (Nat × Nat) :=
  (s.entriesOf n).map fun e => (e, if at_ ≤ e ∧ e < at_ + ws.length then ws.getD (e - at_) 0 else (s.ent e).word letter)

/-- Why a CHART_WRITE fails (R401 steps 2 to 4): the status and the offset within the range of the first entry that
fails. -/
def State.chartCheck (s : State) (n letter : Nat) (r : ChartRange) (p0 : Nat) (ws : List Nat) : Option (Nat × Nat) :=
  let owned := fun o => o = 0xFFFF || decide (s.objOwner o = n)
  let all := s.lettersAfter n letter (r.first + p0) ws
  match ws.findIdx? fun w => !wordOk w with
  | some i => some (eBadRecord, p0 + i)
  | none =>
    match ws.findIdx? fun w => wordMap w ≠ 0 && !(owned (wordSrc w) && owned (wordDst w)) with
    | some i => some (eNotOwner, p0 + i)
    | none =>
      match (ws.zipIdx.find? fun x => all.any fun y => y.1 ≠ r.first + p0 + x.2 && wordsClash x.1 y.2) with
      | some x => some (eBadRecord, p0 + x.2)
      | none => none

/-- CHART_WRITE of route words (R401); `fail` lists the offsets within the range whose read-back fails. A failing offset is
in RESULT[31:16], cause 4 with E_BAD_RECORD in RESULT[15:0]. -/
def execChartWrite (n : Fin 16) (tag : Nat) (fail : List Nat) (s : State) : Res :=
  .next (s.runOp n tag 0x18 (fun o => !(o.par 2).testBit 1) fun o s =>
    match s.rangeOf? o.obj with
    | none => s.endOp n tag eNotOwner 0
    | some r =>
      let p0 := o.par 0
      let p1 := o.par 1
      if p1 = 0 ∨ r.count < p0 + p1 ∨ 4 ≤ o.par 2 then s.endOp n tag eBadRecord (4 + p0 % 65536 * 65536)
      else
        let letter := o.par 2 % 2
        let ws := (List.range p1).map fun k => leAt o.data (16 * k) 16
        match s.chartCheck n letter r p0 ws with
        | some (st, i) => s.endOp n tag st ((if st = eBadRecord then 4 else 0) + i * 65536)
        | none =>
          match s.chartPuts r.first p0 letter fail ws with
          | (s, none) => s.endOp n tag doneOk p1
          | (s, some i) => s.endOp n tag eDeviceFault (i * 65536))

/-- CHART_WRITE of configuration blocks (R420): CH_CFG, 12 bytes of 0, CH_EXP_J2. -/
def execChartWriteCfg (n : Fin 16) (tag : Nat) (s : State) : Res :=
  .next (s.runOp n tag 0x18 (fun o => (o.par 2).testBit 1) fun o s =>
    match s.rangeOf? o.obj with
    | none => s.endOp n tag eNotOwner 0
    | some r =>
      let p0 := o.par 0
      let p1 := o.par 1
      if p1 = 0 ∨ r.count < p0 + p1 ∨ o.par 2 ≠ 2 then s.endOp n tag eBadRecord (4 + p0 % 65536 * 65536)
      else
        let s := (List.range p1).foldl (fun s k =>
          let e := r.first + p0 + k
          let v := leAt o.data (32 * k) 4
          let s := (((s.wr CH_CFG_TIM_EN (bitsAt v 0 1) e).wr CH_CFG_PLM_EN (bitsAt v 1 1) e).wr CH_CFG_DEG_EN (bitsAt v 2 1) e).wr
            CH_CFG_EXC_EN (bitsAt v 3 1) e
          let s := ((s.wr CH_CFG_DEGM (bitsAt v 4 4) e).wr CH_CFG_DEGTHR (bitsAt v 8 7) e).wr CH_CFG_EXC_X (bitsAt v 15 3) e
          (List.range 4).foldl (fun s j => s.wr CH_EXP_J2 (leAt o.data (32 * k + 16 + 4 * j) 4) e j) s) s
        s.endOp n tag doneOk p1)

/-- CHART_SWAP: the flip waits for a boundary of its kind (R410). -/
def execChartSwap (n : Fin 16) (tag : Nat) (s : State) : Res :=
  .next (s.runOp n tag 0x19 (fun o => o.stage = 0) fun o s =>
    if 1 < o.par 0 then s.endOp n tag eBadRecord 4
    else (s.wr CH_SEL_PENDING 1 0 n).wr CH_SEL_KIND (o.par 0) 0 n)

/-- The period of an entry for R412: the inverse of its FRAME rate, or with `mf` of its MFRAME rate where it has one; the
longer of its two words, in ns rounded up. -/
def State.entryPeriod (s : State) (e : Nat) (mf : Bool) : Nat :=
  let one := fun w =>
    if wordMap w = 0 then 0
    else
      let (f, m) := mapRates (wordMap w) (s.srcFormat w)
      let r := if mf ∧ m ≠ 0 then m else f
      (1000000000 + r - 1) / max 1 r
  max (one (s.ent e).wa) (one (s.ent e).wb)

/-- A swap commits: the selector flips, and every entry of the session applies its newly active word at its own starts, at
the latest one period later (R410, R412, R413). -/
def State.swapCommit (s : State) (n : Nat) : State :=
  let mf := s.flag CH_SEL_KIND 0 n
  let s := ((s.wr CH_SEL_ACTIVE (1 - s.rd CH_SEL_ACTIVE 0 n) 0 n).wr CH_SEL_PENDING 0 0 n)
  let es := s.entriesOf n
  let due := s.clock + es.foldl (fun k e => max k (s.entryPeriod e mf)) 0
  let fc := s.chFc
  let s := es.foldl (fun s e =>
    let x := s.ent e
    let w := x.word (s.activeLetter e)
    let s := s.setEnt e { x with tgt := w }
    if wordMap x.wa = 0 ∧ wordMap x.wb = 0 ∧ wordMap x.use0 = 0 ∧ wordMap x.use1 = 0 then s.wr CH_STAT_WORD (s.activeLetter e) e
    else s.setEnt e { s.ent e with pend0 := true, pend1 := true, mf := mf, due := some due }) s
  { s with ops := s.ops.map fun o => if o.sess = n ∧ o.opcode = 0x19 ∧ o.live ∧ o.stage = 0 then { o with stage := 1, aux := [fc] } else o }

/-- The swaps that commit at this boundary: running, at least 10 us after admission, of the boundary's kind. -/
def State.swapsDue (s : State) : List Nat :=
  (s.ops.filter fun o => o.opcode = 0x19 && o.live && o.active && o.stage = 0 && s.flag CH_SEL_PENDING 0 o.sess &&
    decide (o.admitTime + 10000 ≤ s.clock) && (o.par 0 = 0 || s.tm.device % 2000000 = 0)).map (·.sess)

/-- One entry at a Chart boundary: its configuration and active word take effect (R404, R420), the word's fit is judged (R407),
and its parity (R417; `bad` are the letters that fail). -/
def State.entryBoundary (s : State) (e : Nat) (bad : List (Fin 2)) : State :=
  let s := s.setEnt e { s.ent e with cfgUse := s.chCfg e, j2Use := if s.chJ2 e = List.replicate 16 0 then [] else s.chJ2 e }
  let x := s.ent e
  let a := s.activeLetter e
  let w := x.word a
  let s := if x.tgt = w then s else s.setEnt e { x with tgt := w, pend0 := true, pend1 := true, mf := false, due := none }
  let s := s.setFlag CH_STAT_MISFIT (!s.wordFits w) e
  let fails := bad.any fun l => l.val = a
  let was := s.flag CH_STAT_PERR e
  let s := if fails then s.setEnt e ((s.ent e).setPerr a true) else s
  let s := s.showPerr e
  if s.flag CH_STAT_PERR e && !was then ((s.bump CH_ERR_PERR_CNT).fireFree (640 + s.entryOwner e)).eccUncorr 5 e else s

/-- Commands and evaluation of the protection groups at a Chart boundary. -/
def State.psCommand (s : State) (o : Op) : State :=
  let g := objIndex o.obj
  let code := o.par 0
  let x := s.grp g
  if x.cfg = [] then s.endOp o.sess o.tag eNotOwner 0
  else
    let done := fun (s : State) r => (s.psLog g s.tm.device 4 code r).endOp o.sess o.tag doneOk r
    if code = 6 then done (if s.flag PS_STAT_ARMED g then s else (s.wr PS_STAT_ARMED 1 g).setGrp g { x with tick := s.tm.device / 1000 }) 0
    else if code = 7 then done (s.meterDisarm g) 0
    else if x.mode ≠ 0 ∨ x.type = 7 ∨ (code = 5 ∧ !x.bidir) then done s 2
    else if code = 0 then
      done ((s.setGrp g { x with cmd := 0, exUntil := none, wtr := none }).wr PS_STAT_WTR_RUN 0 g) 0
    else
      let top := max (x.localReq (s.psCrit g)) (s.farOf g (s.rd PS_STAT_SEL g)).1
      if cmdReq code < top then done s 1
      else done (s.setGrp g { x with cmd := code, exUntil := if code = 5 then some (s.clock + 10000000000) else none }) 0

/-- One group at a Chart boundary: a deleted one's selector returns to working, a program's follows USER0, an engine or an
observer evaluates. -/
def State.groupBoundary (s : State) (g : Nat) : State :=
  let x := s.grp g
  let s := if x.old = [] then s
    else ((s.wr PS_STAT_SEL 0 g).bump PS_SWITCHES g |>.setGrp g { x with old := [] }).switchConsumers { x with cfg := x.old }
  if x.cfg = [] ∨ x.type = 7 then s else if x.mode = 1 then s.evalProgram g else s.evalGroup g

/-- Commands that take effect now, in admission order (R445). -/
def State.psDue (s : State) : List Op :=
  (s.ops.filter fun o => o.opcode = 0x1D && o.live && o.active && o.stage = 1 && decide (o.admitTime + 10000 ≤ s.clock)).mergeSort
    (fun a b => decide (a.seq ≤ b.seq))

/-- CHART_FRAME_BOUNDARY: a whole multiple of 125 us of device time (R409). `upset` are the words whose parity fails at
it: entry and letter. -/
def execChartFrameBoundary (upset : List (Nat × Fin 2)) (s : State) : Res :=
  if s.tm.stopped ∨ s.tm.device % 125000 ≠ 0 then .next s
  else
    let s := s.swapsDue.foldl (fun s n => s.swapCommit n) s
    let s := (s.chart.map (·.1) ++ upset.map (·.1) ++ (s.own.ranges.map fun r => (List.range r.count).filterMap fun k =>
        if s.rd CH_CFG_TIM_EN (r.first + k) = 1 || s.chCfg (r.first + k) ≠ 0x19e7c || s.chJ2 (r.first + k) ≠ List.replicate 16 0
        then some (r.first + k) else none).flatten).dedup.foldl
      (fun s e => s.entryBoundary e ((upset.filter fun u => u.1 = e).map (·.2))) s
    let s := s.pmScan.protScan
    let s := s.groups.foldl (fun s e => if (s.grp e.1).evaluates then s.critStep e.1 else s) s
    let s := s.psDue.foldl (fun s o => s.psCommand o) s
    let s := s.groups.foldl (fun s e => s.groupBoundary e.1) s
    .next ((List.range 16).foldl (fun s n => s.swapCheck n) s)

/-- The entry's tributary makes multiframes. -/
def State.entryHasMf (s : State) (e : Nat) : Bool :=
  let w := (s.ent e).tgt
  wordMap w ≠ 0 && (mapRates (wordMap w) (s.srcFormat w)).2 ≠ 0

/-- TRIBUTARY_FRAME_START: a side of an entry that waits changes at its own frame start, or at its multiframe start after
a multiframe swap (R404, R412). -/
def execTributaryFrameStart (e : Fin 8192) (side : Fin 2) (mframe : Bool) (s : State) : Res :=
  let x := s.ent e
  let waits := if side.val = 0 then x.pend0 else x.pend1
  if waits && (!x.mf || mframe || !s.entryHasMf e) then .next ((s.applySide e side).swapCheck (s.entryOwner e)) else .next s

/-- SWAP_PERIOD_END: a side that made no frame start within the period applies its word at its end (R413). -/
def execSwapPeriodEnd (e : Fin 8192) (s : State) : Res :=
  if !s.isDue (s.ent e).due then .next s
  else
    let s := if (s.ent e).pend0 then s.applySide e 0 else s
    let s := if (s.ent e).pend1 then s.applySide e 1 else s
    .next (s.swapCheck (s.entryOwner e))

end Sys2Proof.Machine
end

