-- ==== Sys2Proof/Machine/Framing.lean ====
section
/-! DEFINITION. The framing commands (chapter 10): what a slice's framer, a group's lanes and a GFP delineator see. A
command about a framer that does not run, or is not in the state it needs, has not happened and changes nothing. -/

namespace Sys2Proof.Machine

open Reg

/-- The framer hunts by pattern now: a pattern format, and for a group only once aligned (R351). -/
def State.frHunts (s : State) (i : Nat) : Bool :=
  fmtPattern (s.fmt i) && s.frState i ≤ 2 && (!fmtBonded (s.fmt i) || s.flag FR_BOND_ALIGNED i)

/-- PATTERN_FOUND: the pattern at position `pos`; `aux` says whether the auxiliary checks pass, needed when N = 1. A
position held already, and a ninth candidate, are ignored (R333); in SYNC it has no effect (R334). -/
def execPatternFound (i : Fin 24) (pos : Nat) (aux : Bool) (s : State) : Res :=
  let f := s.framer i
  if s.frHunts i && s.frState i ≤ 1 && decide (f.cands.length < 8) && !(f.cands.any fun c => c.1 = pos) then
    if s.frN i = 1 ∧ !aux then .next (((s.setFramer i { f with cands := f.cands ++ [(pos, 1)] }).wr FR_STAT_STATE 1 i).frShow i)
    else .next (s.frCount i pos 1)
  else .next s

/-- CANDIDATE_CHECK: the candidate's pattern at its expected position and its auxiliary checks (R332, R338-R342). The
CRC-6 of ESF counts among them unless CRC6_OFF is 1 (R341). -/
def execCandidateCheck (i : Fin 24) (pos : Nat) (found aux crc6 : Bool) (s : State) : Res :=
  let f := s.framer i
  match f.cands.find? fun c => c.1 = pos with
  | none => .next s
  | some c =>
    if !(s.frHunts i && s.frState i = 1) then .next s
    else
      let esf := s.fmt i = 0x49 ∨ s.fmt i = 0x4D
      let last := s.frN i ≤ c.2 + 1
      let ok := found && aux && (!(esf ∧ last) || s.flag FR_CFG_CRC6_OFF i || crc6)
      if ok then .next (s.frCount i pos (c.2 + 1))
      else
        let cs := f.cands.filter fun c => c.1 ≠ pos
        let s := s.setFramer i { f with cands := cs }
        .next ((s.wr FR_STAT_STATE (if cs = [] then 0 else 1) i).frShow i)

/-- SYNC_CHECK_UNIT: a check unit at the expected position, correct or errored (R332, R335). -/
def execSyncCheckUnit (i : Fin 24) (errored : Bool) (s : State) : Res :=
  if s.frHunts i && s.frState i = 2 then .next (s.frUnit i errored) else .next s

/-- NFAS_LOSS: `n` NFAS frames in a row had bit 2 = 0 (R338). -/
def execNfasLoss (i : Fin 24) (n : Nat) (s : State) : Res :=
  if (s.fmt i = 0x40 || s.fmt i = 0x41) && s.frState i = 2 && s.flag FR_CFG_LOSS_NFAS i && decide (3 ≤ n) then
    let s := s.frOof i 1
    .next (if s.rd FR_STAT_MF_STATE i = 3 then s else s.frOom i)
  else .next s

/-- CRC4_MFAS_WORD: a complete multiframe alignment word ends in basic frame number `frame`, counted from in-frame; 2 ms
are 16 frames (R339). -/
def execCrc4MfasWord (i : Fin 24) (frame : Nat) (s : State) : Res :=
  let f := s.framer i
  if s.fmt i = 0x41 && s.frState i = 2 && s.rd FR_STAT_MF_STATE i ≤ 1 && decide (s.clock ≤ f.mfFrom + 8000000) then
    if f.mfWords.any fun w => decide (w < frame) && (frame - w) % 16 = 0 then .next (s.frMfSync i)
    else .next ((s.setFramer i { f with mfWords := f.mfWords ++ [frame] }).wr FR_STAT_MF_STATE 1 i)
  else .next s

/-- CRC4_MF_TIMEOUT: the 8 ms of R339 are over without a multiframe: the basic frame hunts with cause 5. -/
def execCrc4MfTimeout (i : Fin 24) (s : State) : Res :=
  if s.fmt i = 0x41 && s.frState i = 2 && s.rd FR_STAT_MF_STATE i ≤ 1 &&
     decide ((s.framer i).mfFrom + 8000000 ≤ s.clock) then
    .next ((s.frOof i 5).frOom i)
  else .next s

/-- CRC4_FAIL_THRESHOLD: `failed` of the last 1 000 sub-multiframe checks failed (R340). -/
def execCrc4FailThreshold (i : Fin 24) (failed : Nat) (s : State) : Res :=
  if s.fmt i = 0x41 && s.frState i = 2 && s.rd FR_STAT_MF_STATE i = 2 && decide (915 ≤ failed ∧ failed ≤ 1000) then
    .next ((s.frOof i 5).frOom i)
  else .next s

/-- MFAS_CHECK: the MFAS of an OTU frame (R343). -/
def execMfasCheck (i : Fin 24) (mfas : Fin 256) (s : State) : Res :=
  let f := s.framer i
  if familyOf (s.fmt i) = .otn ∧ s.frState i = 2 then
    let follows := match f.mfLast with | some l => decide ((l + 1) % 256 = mfas) | none => false
    if s.rd FR_STAT_MF_STATE i = 2 then
      let want := match f.mfLast with | some l => (l + 1) % 256 | none => mfas
      let run := if follows then 0 else f.mfRun + 1
      let s := s.setFramer i { f with mfLast := some want, mfRun := run }
      .next (if s.frMfM i ≤ run then s.frOom i else s)
    else
      let run := if follows then f.mfRun + 1 else 0
      let s := s.setFramer i { f with mfLast := some mfas, mfRun := run }
      if s.frMfN i ≤ run then .next ((s.setFramer i { s.framer i with mfRun := 0 }).frMfSync i)
      else .next (s.wr FR_STAT_MF_STATE (if run = 0 then 0 else 1) i)
  else .next s

/-- SYNC_HEADER: a 66-bit block's sync header, of the slice, or of lane place `k` of a 100GbE group (R346, R349). -/
def execSyncHeader (i : Fin 24) (k : Fin 20) (hdr : Fin 4) (s : State) : Res :=
  let f := s.framer i
  let v := headerValid hdr
  if s.frState i = 3 then .next s
  else if s.fmt i = 0x21 ∨ s.fmt i = 0x22 then
    let (b, ev) := f.blk.step (s.frN i) (s.frM i) (s.frW i) v
    let s := s.setFramer i { f with blk := b }
    match ev with
    | some true => .next (s.frIn i)
    | some false => .next (s.frOof i 1)
    | none => .next (if b.st = 2 then s.frShow i else (s.wr FR_STAT_STATE b.st i).frShow i)
  else if s.fmt i = 0x23 then
    let x := f.lane k
    let (b, ev) := x.blk.step (s.frN i) (s.frM i) (s.frW i) v
    let x := if ev = some false then { x with blk := b, locked := false, good := 0, errs := 0, num := none } else { x with blk := b }
    .next ((s.setFramer i (f.setLane k x)).bondShow i)
  else .next s

/-- GFP_CORE_HEADER: four scrambled octets, at a position tested in HUNT or where the next core header is expected
(R347). -/
def execGfpCoreHeader (e : Fin 8192) (octets : BitVec 32) (s : State) : Res :=
  let x := s.ent e
  let w := x.use0
  if tribOf (wordMap w) ≠ .gfp ∨ 2 < s.rd CH_STAT_GFP e then .next s
  else
    let good := fun (v : Nat) => decide (crcBytes 16 0x1021 0 [BitVec.ofNat 8 (v / 2 ^ 24), BitVec.ofNat 8 (v / 2 ^ 16)] = v % 2 ^ 16)
    let v := (octets ^^^ 0xB6AB31E0#32).toNat
    let fixable := w.testBit 118 && (List.range 32).any fun b => good (Nat.xor v (2 ^ b))
    let delta := if bitsAt w 112 3 = 0 then 1 else bitsAt w 112 3
    let loss := if bitsAt w 115 3 = 0 then 1 else bitsAt w 115 3
    let c := entryCarrier e
    match s.rd CH_STAT_GFP e with
    | 0 => if good v then .next ((s.setEnt e { x with gfpN := 0, gfpBad := 0 }).wr CH_STAT_GFP 1 e) else .next s
    | 1 =>
      if !good v then .next ((s.setEnt e { x with gfpN := 0 }).wr CH_STAT_GFP 0 e)
      else if delta ≤ x.gfpN + 1 then
        let s := (s.setEnt e { x with gfpN := 0, gfpBad := 0 }).wr CH_STAT_GFP 2 e
        let s := (s.hwDefect c 0x02 false).hwDefect c 0x70 false
        .next (s.portsReady fun q => s.portCarrier? q = some c && s.portInFrame q)
      else .next (s.setEnt e { x with gfpN := x.gfpN + 1 })
    | _ =>
      if good v || fixable then .next (s.setEnt e { x with gfpBad := 0 })
      else if loss ≤ x.gfpBad + 1 then
        let s := (s.setEnt e { x with gfpN := 0, gfpBad := 0 }).wr CH_STAT_GFP 0 e
        .next ((s.hwDefect c 0x02 true).hwDefect c 0x70 true)
      else .next (s.setEnt e { x with gfpBad := x.gfpBad + 1 })

/-- LANE_MARKER: a marker of the logical lane at place `k` (5 x physical lane + position) of the group led by slice `i`;
`num` is the lane number it carries, `none` an errored marker; `arrival` in 0.1 ns (R349-R352). -/
def execLaneMarker (i : Fin 24) (k : Fin 20) (num : Option (Fin 20)) (arrival : Nat) (s : State) : Res :=
  let f := s.framer i
  let x := f.lane k
  let fmt := s.fmt i
  if fmtBonded fmt && s.frState i ≤ 2 && laneReady fmt x then
    let y := x.marker fmt (s.flag FR_BOND_ALIGNED i) (num.map Fin.val) arrival
    let erred := x.locked && (y.errs ≠ 0 || !y.locked)
    let s := match x.num with
      | some l => if erred then s.bump FR_LANE_MK_ERR i l else s
      | none => s
    .next ((s.setFramer i (f.setLane k y)).bondShow i)
  else .next s

/-- GROUP_ALIGN: the group of slice `i` aligns (R351). 100GbE follows the aligned stream from here; OTU4 runs its FAS
framer. -/
def execGroupAlign (i : Fin 24) (s : State) : Res :=
  if fmtBonded (s.fmt i) && s.frState i ≤ 2 && !s.flag FR_BOND_ALIGNED i && (s.framer i).canAlign then
    let s := s.wr FR_BOND_ALIGNED 1 i
    .next (if s.fmt i = 0x23 then s.frIn i else s)
  else .next s

/-- GROUP_OOF: an aligned group has lost a lane's lock or block lock, cause 4, or a physical lane's signal, cause 2
(R353). -/
def execGroupOof (i : Fin 24) (s : State) : Res :=
  let f := s.framer i
  if fmtBonded (s.fmt i) && s.flag FR_BOND_ALIGNED i then
    if (groupOf i (s.fmt i)).any fun j => !s.flag LINE_STAT_SIG j then .next (s.groupOof i 2)
    else if f.lockedAt.length < 20 then .next (s.groupOof i 4)
    else .next s
  else .next s

/-- CODE_GROUP: a received 1000BASE-X code-group: 0 invalid, 1 data, 2 comma, 3 another valid one (R345). -/
def execCodeGroup (i : Fin 24) (cg : Fin 4) (s : State) : Res :=
  if s.fmt i = 0x20 && s.frState i ≤ 2 then
    let f := s.framer i
    let (st, even, good) := cgNext f.cg f.cgEven f.cgGood cg
    let s := s.setFramer i { f with cg := st, cgEven := even, cgGood := good }
    if 6 ≤ st then .next (if s.frState i = 2 then s else s.frIn i)
    else if s.frState i = 2 then .next (s.frOof i 1)
    else .next ((s.wr FR_STAT_STATE (if st = 0 then 0 else 1) i).frShow i)
  else .next s

end Sys2Proof.Machine
end

