-- ==== Sys2Proof/Machine/Health.lean ====
section
/-! DEFINITION. Self-test, calibration and the background checks (chapter 21). What a test finds is the silicon's word and
stands in the command. -/

namespace Sys2Proof.Machine

open Reg

/-! ### Patrol (R656) -/

/-- A finding of patrol in the Larder (0) or the Cellar (1): corrected, or an uncorrectable word that stays marked (R520). -/
def State.patrolFind (s : State) (k dpa : Nat) (uncorr : Bool) : State :=
  if uncorr then ((s.markBad dpa).eccLog k dpa true).fire 38 2 dpa
  else (s.count (eccCounters k).1).fire 38 1 dpa

/-- One pass over a memory: what it finds (DPA, uncorrectable), and the words already marked there. -/
def State.patrol (s : State) (k : Nat) (found : List (Nat × Bool)) : State :=
  let here := fun (a : Nat) => if k = 0 then inLarder a else s.inCellar a
  let marked := (s.mem.bad.filter fun w => here (8 * w) && !found.any fun f => f.1 / 8 = w).map fun w => (8 * w, true)
  ((found.filter fun f => here f.1) ++ marked).foldl (fun s f => s.patrolFind k f.1 f.2) s

/-- Background checks run only while CORE is in Run. -/
def State.checksRun (s : State) : Bool := s.working && s.rd KP_DOM % 4 = 0

/-- PATROL_PASS of the Larder, or of a Cellar with inline ECC, is complete; it waits for release scrubs. -/
def execPatrolPass (cellar : Bool) (found : List (Nat × Bool)) (s : State) : Res :=
  if !s.checksRun || !s.flag HL_CFG_PATROL_EN || s.own.scrubs ≠ [] then .next s
  else if cellar then
    if !s.flag MX_CELLAR_INLINE_ECC || s.clock < s.health.cellarDue then .next s
    else
      let s := s.patrol 1 found
      .next { s with health := { s.health with cellarDue := s.clock + 3600000000000 * clamp 1 168 (s.rd HL_BG_CFG_CELLAR_H) } }
  else if s.clock < s.health.larderDue then .next s
  else
    let s := s.patrol 0 found
    .next { s with health := { s.health with larderDue := s.clock + 1000000000 * clamp 10 3600 (s.rd HL_BG_CFG_LARDER_S) } }

/-- BACKGROUND_MBIST: the next EMPTY Helm, in ascending number, is tested (R657). -/
def execBackgroundMbist (failed : Bool) (s : State) : Res :=
  if !s.checksRun || !s.flag HL_CFG_MBIST_EN || s.clock < s.health.mbistDue then .next s
  else
    let s := { s with health := { s.health with mbistDue := s.clock + 1000000000 * clamp 1 1000 (s.rd HL_BG_CFG_MBIST_S) } }
    match ((List.range 32).map fun i => (s.health.mbistHelm + i) % 32).find? fun h => (s.helm h).ps = .empty with
    | none => .next s
    | some h =>
      let s := { s with health := { s.health with mbistHelm := (h + 1) % 32 } }
      .next (if failed then (s.setMaskBit HL_FAIL_HELM h true).fire 38 4 h else s)

/-- BACKGROUND_CHART_CHECK (R418, R658): inactive words and spare words whose parity fails (entry, letter); the inactive words
already marked fail again. -/
def execBackgroundChartCheck (words spares : List (Nat × Nat)) (s : State) : Res :=
  if !s.checksRun || !s.flag HL_CFG_CHART_EN || s.clock < s.health.chartDue then .next s
  else
    let s := { s with health := { s.health with chartDue := s.clock + 1000000000 } }
    let marked := s.chart.filterMap fun e =>
      let l := 1 - s.activeLetter e.1
      if e.2.perr.testBit l && !words.contains (e.1, l) then some (e.1, l) else none
    let s := (words ++ marked).foldl (fun s x =>
      if x.2 = s.activeLetter x.1 then s
      else
        let s := (s.setEnt x.1 ((s.ent x.1).setPerr x.2 true)).showPerr x.1
        ((s.count 184).eccNote 5 x.1 false).fire 38 8 x.1) s
    .next (spares.foldl (fun s x =>
      if (s.ent x.1).spare.testBit x.2 then ((s.count 184).eccNote 5 x.1 false).fire 38 16 x.1 else s) s)

/-! ### SELFTEST -/

/-- The receive side of a slice is taken for a moment and given back: the loss propagates, and the framer hunts (R28, R355). -/
def State.rxTaken (s : State) (i : Nat) : State :=
  if s.flag LINE_STAT_SIG i then ((s.pmIntrusive i).signalLost i).signalFound i else s.pmIntrusive i

/-- Tests 0 and 1 on a Helm: it is EMPTY and scrubbed, marked when one fails, and no longer marked when both pass (R652). -/
def State.testHelm (s : State) (h mask fail : Nat) : State :=
  let s := s.setPs h .empty
  let s := { s with helms := smDel s.helms h }
  let bad := Nat.land (Nat.land mask fail) 3
  if bad ≠ 0 then s.setMaskBit HL_FAIL_HELM h true
  else if Nat.land mask 3 = 3 then s.setMaskBit HL_FAIL_HELM h false else s

/-- The tests of `mask` run on an object in ascending order (Table HLT-1): `fail` marks those that fail, `dead` the Steward
whose comparator misses its injection, `found` what the Larder pass finds. -/
def State.runTests (s : State) (obj mask fail : Nat) (dead : Option (Fin 2)) (found : List (Nat × Bool)) : State :=
  let s := if objClass obj = 2 ∧ Nat.land mask 3 ≠ 0 ∧ obj ≠ 0xFFFF then s.testHelm (objIndex obj) mask fail else s
  let s := match objSlice? obj with
    | some i => if mask.testBit 2 && s.rd LINE_STAT_LSTATE i = 2 then s.rxTaken i else s
    | none => s
  let s := if mask.testBit 10 then (s.inject 0 (dead ≠ some 0) false).inject 1 (dead ≠ some 1) false else s
  if mask.testBit 11 then s.patrol 0 found else s

/-- The operation completes: RESULT[15:0] the tests that failed, RESULT[31:16] those that did not run (R651). A dead
comparator has ended it before. -/
def State.selfTest (s : State) (o : Op) (run skip fail : Nat) (dead : Option (Fin 2)) (found : List (Nat × Bool)) : State :=
  let s := s.runTests o.obj run fail dead found
  s.endOp o.sess o.tag (if skip = 0 then doneOk else donePartial) (Nat.land run fail + skip * 65536)

/-- SELFTEST: its tests have run. -/
def execSelftest (n : Fin 16) (tag : Nat) (fail : BitVec 16) (dead : Option (Fin 2)) (found : List (Nat × Bool)) (s : State) : Res :=
  .next (s.runOp n tag 0x38 (fun _ => true) fun o s => s.selfTest o (o.par 0) 0 fail.toNat dead found)

/-- The device is quiet but for the operation (R650). -/
def State.quiet (s : State) (o : Op) : Bool :=
  !(s.helms.any fun e => e.2.ps.bound) && !((List.range 24).any fun i => [1, 2].contains (s.rd LINE_STAT_LSTATE i)) &&
  !s.ops.any fun x => x.live && x.seq ≠ o.seq && ([0x20, 0x21, 0x22].contains x.opcode || (x.active && x.started))

/-- SELFTEST_QUIET_START. -/
def execSelftestQuietStart (n : Fin 16) (tag : Nat) (s : State) : Res :=
  .next (match s.op? n tag with
  | some o =>
    if o.deferred && o.stage = 8 && o.st = .queued && o.live && s.working && s.quiet o then
      s.modOp n tag fun o => { o with st := .running, started := true, stage := 9, due := none }
    else s
  | none => s)

/-- SELFTEST_DEFER_EXPIRY: every other test runs, and the operation completes without tests 8 and 9. -/
def execSelftestDeferExpiry (n : Fin 16) (tag : Nat) (fail : BitVec 16) (dead : Option (Fin 2)) (found : List (Nat × Bool))
    (s : State) : Res :=
  .next (match s.op? n tag with
  | some o =>
    if o.deferred && o.stage = 8 && o.live && s.isDue o.due then
      s.selfTest o (Nat.land (o.par 0) 0xFCFF) (Nat.land (o.par 0) 0x300) fail.toNat dead found
    else s
  | none => s)

/-- CALIBRATE (R654, R655): its one intrusive step on an ACQUIRED slice, on all lanes of a bonded group's lead; `failed` leaves
the previous trim; `live` are an HS slice's coefficients after foreground adaptation (kind 0), by lane. -/
def execCalibrate (n : Fin 16) (tag : Nat) (failed : Bool) (live : List (List Nat)) (s : State) : Res :=
  .next (s.runOp n tag 0x39 (fun _ => true) fun o s =>
    match objSlice? o.obj with
    | none => s.endOp n tag eBadRecord 2
    | some i =>
      let kind := o.par 0
      let lanes := if s.rd LINE_STAT_LSTATE i = 2 then groupOf i (s.fmt i) else [i]
      let s := lanes.zipIdx.foldl (fun s e =>
        let s := if s.rd LINE_STAT_LSTATE i ≠ 2 then s else if kind = 1 then s.pmIntrusive e.1 else s.rxTaken e.1
        let s := if kind = 0 ∧ e.1 < 8 ∧ !failed then
            (match live[e.2]? with | some l => s.setLine e.1 { s.line e.1 with live := l, adaptAt := s.tm.device } | none => s)
          else s
        (s.setMaskBit CAL_STAT_DONE kind true e.1).setMaskBit CAL_STAT_FAILED kind failed e.1) s
      s.endOp n tag doneOk (boolNat failed))

end Sys2Proof.Machine
end

