-- ==== Sys2Proof/Machine/HelmAlu.lean ====
section
/-! DEFINITION. The meanings of the Helm's ALU, compare and branch instructions (chapter 06, Tables MSI-2 to MSI-5). Each
command says that Helm `h` executes the word at its pc, when that word spells the instruction; `u` is the upset the
environment lays on it. -/

namespace Sys2Proof.Machine

/-- A register result with its flags: `val` computes the result, `fl` the flags from the helm before the instruction. -/
def State.aluStep (s : State) (h : Fin 32) (u : Upset) (op : HOp) (cost : Nat) (val : Helm → Word → Word)
    (fl : Helm → Word → Word → Helm) : State :=
  s.helmStep h u op (fun _ _ => cost) fun x s =>
    let m := s.helm h
    let r := val m x
    .ok ((s.setHelm h ((fl m x r).setReg (wD x) r)).helmNext h)

/-- Flags alone: no register is written (Table MSI-4). -/
def State.cmpStep (s : State) (h : Fin 32) (u : Upset) (op : HOp) (fl : Helm → Word → Helm) : State :=
  s.helmStep h u op (fun _ _ => 1) fun x s => .ok ((s.setHelm h (fl (s.helm h) x)).helmNext h)

/-- Operands of the three-register form. -/
def opA (m : Helm) (x : Word) : Word := m.reg (wA x)
def opB (m : Helm) (x : Word) : Word := m.reg (wB x)
/-- zext12 and zext16 of the immediate. -/
def zImm12 (x : Word) : Word := BitVec.ofNat 32 (wImm12 x)
def zImm16 (x : Word) : Word := BitVec.ofNat 32 (wImm16 x)
/-- Shift amounts: g[b][4:0] and IMM12[4:0]. -/
def amtB (m : Helm) (x : Word) : Nat := (opB m x).toNat % 32
def amtI (x : Word) : Nat := wImm12 x % 32

def noFlags (m : Helm) (_ _ : Word) : Helm := m
def znFlags (m : Helm) (_ r : Word) : Helm := m.setZN r

/-- Shift left, right, arithmetic right and rotate right, with the last bit shifted out (Table MSI-2). -/
def shlOut (v : Word) (k : Nat) : Bool := v.getLsbD (32 - k)
def shrOut (v : Word) (k : Nat) : Bool := v.getLsbD (k - 1)

/-- ADD (R216). -/
def execAdd (h : Fin 32) (u : Upset) (s : State) : Res :=
  .next (s.aluStep h u .add 1 (fun m x => opA m x + opB m x) (fun m x _ => m.flagsAdd (opA m x) (opB m x) false))

/-- ADC: with the incoming carry. -/
def execAdc (h : Fin 32) (u : Upset) (s : State) : Res :=
  .next (s.aluStep h u .adc 1 (fun m x => opA m x + opB m x + BitVec.ofNat 32 (boolNat m.c))
    (fun m x _ => m.flagsAdd (opA m x) (opB m x) m.c))

/-- SUB. -/
def execSub (h : Fin 32) (u : Upset) (s : State) : Res :=
  .next (s.aluStep h u .sub 1 (fun m x => opA m x - opB m x) (fun m x _ => m.flagsSub (opA m x) (opB m x) false))

/-- SBC: C is the incoming borrow. -/
def execSbc (h : Fin 32) (u : Upset) (s : State) : Res :=
  .next (s.aluStep h u .sbc 1 (fun m x => opA m x - opB m x - BitVec.ofNat 32 (boolNat m.c))
    (fun m x _ => m.flagsSub (opA m x) (opB m x) m.c))

/-- AND. -/
def execAnd (h : Fin 32) (u : Upset) (s : State) : Res :=
  .next (s.aluStep h u .and 1 (fun m x => opA m x &&& opB m x) znFlags)

/-- OR. -/
def execOr (h : Fin 32) (u : Upset) (s : State) : Res :=
  .next (s.aluStep h u .or 1 (fun m x => opA m x ||| opB m x) znFlags)

/-- XOR. -/
def execXor (h : Fin 32) (u : Upset) (s : State) : Res :=
  .next (s.aluStep h u .xor 1 (fun m x => opA m x ^^^ opB m x) znFlags)

/-- ANDN. -/
def execAndn (h : Fin 32) (u : Upset) (s : State) : Res :=
  .next (s.aluStep h u .andn 1 (fun m x => opA m x &&& ~~~(opB m x)) znFlags)

/-- SHL. -/
def execShl (h : Fin 32) (u : Upset) (s : State) : Res :=
  .next (s.aluStep h u .shl 1 (fun m x => opA m x <<< amtB m x)
    (fun m x r => m.flagsShift r (amtB m x) (shlOut (opA m x) (amtB m x))))

/-- SHR. -/
def execShr (h : Fin 32) (u : Upset) (s : State) : Res :=
  .next (s.aluStep h u .shr 1 (fun m x => opA m x >>> amtB m x)
    (fun m x r => m.flagsShift r (amtB m x) (shrOut (opA m x) (amtB m x))))

/-- SAR. -/
def execSar (h : Fin 32) (u : Upset) (s : State) : Res :=
  .next (s.aluStep h u .sar 1 (fun m x => (opA m x).sshiftRight (amtB m x))
    (fun m x r => m.flagsShift r (amtB m x) (shrOut (opA m x) (amtB m x))))

/-- ROR. -/
def execRor (h : Fin 32) (u : Upset) (s : State) : Res :=
  .next (s.aluStep h u .ror 1 (fun m x => (opA m x).rotateRight (amtB m x))
    (fun m x r => m.flagsShift r (amtB m x) (shrOut (opA m x) (amtB m x))))

/-- MUL: the low 32 bits of the product, 2 cycles. -/
def execMul (h : Fin 32) (u : Upset) (s : State) : Res :=
  .next (s.aluStep h u .mul 2 (fun m x => opA m x * opB m x) znFlags)

/-- MULHU: the high 32 bits of the unsigned product. -/
def execMulhu (h : Fin 32) (u : Upset) (s : State) : Res :=
  .next (s.aluStep h u .mulhu 2 (fun m x => BitVec.ofNat 32 ((opA m x).toNat * (opB m x).toNat / 2 ^ 32)) znFlags)

/-- The number of 1 bits of a word. -/
def popcount (v : Word) : Nat := (List.range 32).foldl (fun n i => n + boolNat (v.getLsbD i)) 0

/-- The leading zero bits of a word, 32 for 0. -/
def clzOf (v : Word) : Nat := if v = 0 then 32 else 31 - Nat.log2 v.toNat

/-- The bytes of a word in reverse order. -/
def bswapOf (v : Word) : Word :=
  (v.extractLsb' 0 8 ++ v.extractLsb' 8 8 ++ v.extractLsb' 16 8 ++ v.extractLsb' 24 8 : BitVec 32)

/-- POPC. -/
def execPopc (h : Fin 32) (u : Upset) (s : State) : Res :=
  .next (s.aluStep h u .popc 1 (fun m x => BitVec.ofNat 32 (popcount (opA m x))) znFlags)

/-- CLZ. -/
def execClz (h : Fin 32) (u : Upset) (s : State) : Res :=
  .next (s.aluStep h u .clz 1 (fun m x => BitVec.ofNat 32 (clzOf (opA m x))) znFlags)

/-- BSWAP. -/
def execBswap (h : Fin 32) (u : Upset) (s : State) : Res :=
  .next (s.aluStep h u .bswap 1 (fun m x => bswapOf (opA m x)) znFlags)

/-- CSEL; no flags. -/
def execCsel (h : Fin 32) (u : Upset) (s : State) : Res :=
  .next (s.aluStep h u .csel 1 (fun m x => if m.cond (wFld x 0 4) then opA m x else opB m x) noFlags)

/-- ADDS: unsigned saturating add; C marks saturation. -/
def execAdds (h : Fin 32) (u : Upset) (s : State) : Res :=
  .next (s.aluStep h u .adds 1 (fun m x => BitVec.ofNat 32 (min 0xFFFFFFFF ((opA m x).toNat + (opB m x).toNat)))
    (fun m x r => m.flagsSat r (decide (2 ^ 32 ≤ (opA m x).toNat + (opB m x).toNat))))

/-- SUBS: unsigned saturating subtract; C marks saturation. -/
def execSubs (h : Fin 32) (u : Upset) (s : State) : Res :=
  .next (s.aluStep h u .subs 1 (fun m x => BitVec.ofNat 32 ((opA m x).toNat - (opB m x).toNat))
    (fun m x r => m.flagsSat r (decide ((opA m x).toNat < (opB m x).toNat))))

/-- ADDI. -/
def execAddi (h : Fin 32) (u : Upset) (s : State) : Res :=
  .next (s.aluStep h u .addi 1 (fun m x => opA m x + wSimm12 x) (fun m x _ => m.flagsAdd (opA m x) (wSimm12 x) false))

/-- ANDI. -/
def execAndi (h : Fin 32) (u : Upset) (s : State) : Res :=
  .next (s.aluStep h u .andi 1 (fun m x => opA m x &&& zImm12 x) znFlags)

/-- ORI. -/
def execOri (h : Fin 32) (u : Upset) (s : State) : Res :=
  .next (s.aluStep h u .ori 1 (fun m x => opA m x ||| zImm12 x) znFlags)

/-- XORI. -/
def execXori (h : Fin 32) (u : Upset) (s : State) : Res :=
  .next (s.aluStep h u .xori 1 (fun m x => opA m x ^^^ zImm12 x) znFlags)

/-- SHLI. -/
def execShli (h : Fin 32) (u : Upset) (s : State) : Res :=
  .next (s.aluStep h u .shli 1 (fun m x => opA m x <<< amtI x)
    (fun m x r => m.flagsShift r (amtI x) (shlOut (opA m x) (amtI x))))

/-- SHRI. -/
def execShri (h : Fin 32) (u : Upset) (s : State) : Res :=
  .next (s.aluStep h u .shri 1 (fun m x => opA m x >>> amtI x)
    (fun m x r => m.flagsShift r (amtI x) (shrOut (opA m x) (amtI x))))

/-- SARI. -/
def execSari (h : Fin 32) (u : Upset) (s : State) : Res :=
  .next (s.aluStep h u .sari 1 (fun m x => (opA m x).sshiftRight (amtI x))
    (fun m x r => m.flagsShift r (amtI x) (shrOut (opA m x) (amtI x))))

/-- RORI. -/
def execRori (h : Fin 32) (u : Upset) (s : State) : Res :=
  .next (s.aluStep h u .rori 1 (fun m x => (opA m x).rotateRight (amtI x))
    (fun m x r => m.flagsShift r (amtI x) (shrOut (opA m x) (amtI x))))

/-- MOVL. -/
def execMovl (h : Fin 32) (u : Upset) (s : State) : Res :=
  .next (s.aluStep h u .movl 1 (fun _ x => zImm16 x) noFlags)

/-- MOVH: the upper half replaced, the lower half kept. -/
def execMovh (h : Fin 32) (u : Upset) (s : State) : Res :=
  .next (s.aluStep h u .movh 1 (fun m x => zImm16 x <<< 16 ||| (m.reg (wD x) &&& 0xFFFF)) noFlags)

/-- MOVS. -/
def execMovs (h : Fin 32) (u : Upset) (s : State) : Res :=
  .next (s.aluStep h u .movs 1 (fun _ x => BitVec.ofInt 32 (signExt 16 (wImm16 x))) noFlags)

/-- The special registers of Table MSM-2; tm is read in the instruction's own cycle, before that cycle is counted. -/
def Helm.special (m : Helm) (k : Nat) : Word :=
  match k with
  | 0 => BitVec.ofNat 32 m.pc
  | 1 => m.ev
  | 2 => m.fc
  | _ => m.tm - 1

/-- RDS (R173). -/
def execRds (h : Fin 32) (u : Upset) (s : State) : Res :=
  .next (s.aluStep h u .rds 1 (fun m x => m.special (wImm16 x)) noFlags)

/-- The field form of EXTU and INS: position IMM12[4:0], width IMM12[9:5] + 1. -/
def fieldPos (x : Word) : Nat := wImm12 x % 32
def fieldWidth (x : Word) : Nat := wFld x 5 5 + 1

/-- EXTU: bits above bit 31 read as 0. -/
def execExtu (h : Fin 32) (u : Upset) (s : State) : Res :=
  .next (s.aluStep h u .extu 1
    (fun m x => BitVec.ofNat 32 ((opA m x).toNat / 2 ^ fieldPos x % 2 ^ fieldWidth x)) znFlags)

/-- The mask of bits p to p + w - 1, cut at bit 31. -/
def fieldMask (x : Word) : Word := BitVec.ofNat 32 ((2 ^ fieldWidth x - 1) * 2 ^ fieldPos x)

/-- INS: bits that would lie above bit 31 are discarded; the rest of g[d] is kept. -/
def execIns (h : Fin 32) (u : Upset) (s : State) : Res :=
  .next (s.aluStep h u .ins 1
    (fun m x => (m.reg (wD x) &&& ~~~(fieldMask x)) ||| ((opA m x <<< fieldPos x) &&& fieldMask x)) znFlags)

/-- BIP8: g[d] xor the four bytes of g[a] (Table MSI-10). -/
def execBip8 (h : Fin 32) (u : Upset) (s : State) : Res :=
  .next (s.aluStep h u .bip8 1 (fun m x =>
    let v := opA m x
    m.reg (wD x) ^^^ ((v ^^^ (v >>> 8) ^^^ (v >>> 16) ^^^ (v >>> 24)) &&& 0xFF)) znFlags)

/-- The xor of the sixteen two-bit groups of a word. -/
def bip2Of (v : Word) : Word := (List.range 16).foldl (fun r k => r ^^^ ((v >>> (2 * k)) &&& 3)) 0

/-- BIP2. -/
def execBip2 (h : Fin 32) (u : Upset) (s : State) : Res :=
  .next (s.aluStep h u .bip2 1 (fun m x => m.reg (wD x) ^^^ bip2Of (opA m x)) znFlags)

/-- BERR: g[d] plus the popcount of g[a] xor g[b], saturating; C marks saturation. -/
def execBerr (h : Fin 32) (u : Upset) (s : State) : Res :=
  .next (s.aluStep h u .berr 1
    (fun m x => BitVec.ofNat 32 (min 0xFFFFFFFF ((m.reg (wD x)).toNat + popcount (opA m x ^^^ opB m x))))
    (fun m x r => m.flagsSat r (decide (2 ^ 32 ≤ (m.reg (wD x)).toNat + popcount (opA m x ^^^ opB m x)))))

/-- Width and generator of the CRC polynomials (Table MSI-11). -/
def crcPoly (p : Nat) : Nat × Nat :=
  match p with
  | 0 => (4, 0x3)
  | 1 => (6, 0x03)
  | 2 => (8, 0x07)
  | 3 => (16, 0x1021)
  | _ => (32, 0x04C11DB7)

/-- CRC stepped over a bit, a byte or four bytes of the data word (R230). -/
def crcStepOf (p st : Nat) (crc data : Word) : Word :=
  let (w, g) := crcPoly p
  let c := crc.toNat % 2 ^ w
  let bs := leBytes 4 data.toNat
  BitVec.ofNat 32 (match st with
    | 0 => crcBit w g c (data.getLsbD 0)
    | 1 => crcBytes w g c (bs.take 1)
    | _ => crcBytes w g c bs)

/-- CRC: 1 cycle for a bit or a byte, 2 for a word; Z alone. -/
def execCrc (h : Fin 32) (u : Upset) (s : State) : Res :=
  .next (s.helmStep h u .crc (fun x _ => if wFld x 4 2 = 2 then 2 else 1) fun x s =>
    let m := s.helm h
    let r := crcStepOf (wFld x 0 4) (wFld x 4 2) (m.reg (wD x)) (opA m x)
    .ok ((s.setHelm h ((m.flagsZ r).setReg (wD x) r)).helmNext h))

/-- CMP. -/
def execCmp (h : Fin 32) (u : Upset) (s : State) : Res :=
  .next (s.cmpStep h u .cmp fun m x => m.flagsSub (opA m x) (opB m x) false)

/-- TST. -/
def execTst (h : Fin 32) (u : Upset) (s : State) : Res :=
  .next (s.cmpStep h u .tst fun m x => m.setZN (opA m x &&& opB m x))

/-- CMPI. -/
def execCmpi (h : Fin 32) (u : Upset) (s : State) : Res :=
  .next (s.cmpStep h u .cmpi fun m x => m.flagsSub (opA m x) (wSimm12 x) false)

/-- TSTI. -/
def execTsti (h : Fin 32) (u : Upset) (s : State) : Res :=
  .next (s.cmpStep h u .tsti fun m x => m.setZN (opA m x &&& zImm12 x))

/-! ### Branches and loops -/

/-- A target inside the code (R218). -/
def Helm.inCode (m : Helm) (t : Int) : Bool := decide (0 ≤ t ∧ t < (m.codeWords : Int))

/-- The loops a taken branch leaves active: the outermost ones whose bodies hold the target (R222). -/
def loopsKept (t : Nat) (ls : List LoopSt) : List LoopSt :=
  (ls.reverse.takeWhile fun l => decide (l.first ≤ t ∧ t ≤ l.last)).reverse

/-- A conditional branch to `t`: PC_RANGE (6) only when taken; `ends` when it can leave loops (B, CBZ, CBNZ). -/
def State.branchStep (s : State) (h : Fin 32) (u : Upset) (op : HOp) (taken : Helm → Word → Bool)
    (target : Helm → Word → Int) (link ends : Bool) : State :=
  s.helmStep h u op (fun x m => if taken m x then 2 else 1) fun x s =>
    let m := s.helm h
    if taken m x then
      let t := target m x
      if !m.inCode t then .error (6, s)
      else
        let m := if link then m.setReg 15 (BitVec.ofNat 32 (m.pc + 1)) else m
        let m := if ends then { m with loops := loopsKept t.toNat m.loops } else m
        .ok (s.setHelm h { m with pc := t.toNat })
    else .ok (s.helmNext h)

/-- B. -/
def execB (h : Fin 32) (u : Upset) (s : State) : Res :=
  .next (s.branchStep h u .b (fun m x => m.cond (wD x)) (fun m x => wTarget x m.pc) false true)

/-- BL: g15 is written only when the branch is taken (R219). -/
def execBl (h : Fin 32) (u : Upset) (s : State) : Res :=
  .next (s.branchStep h u .bl (fun m x => m.cond (wD x)) (fun m x => wTarget x m.pc) true false)

/-- RET: to g15[11:0] (R218). -/
def execRet (h : Fin 32) (u : Upset) (s : State) : Res :=
  .next (s.branchStep h u .ret (fun m x => m.cond (wD x)) (fun m _ => (((m.reg 15).toNat % 4096 : Nat) : Int)) false false)

/-- CBZ. -/
def execCbz (h : Fin 32) (u : Upset) (s : State) : Res :=
  .next (s.branchStep h u .cbz (fun m x => m.reg (wD x) == 0) (fun m x => wTarget x m.pc) false true)

/-- CBNZ. -/
def execCbnz (h : Fin 32) (u : Upset) (s : State) : Res :=
  .next (s.branchStep h u .cbnz (fun m x => m.reg (wD x) != 0) (fun m x => wTarget x m.pc) false true)

/-- The cap of a LOOP's KIND (R220). -/
def loopCap (k : Nat) : Nat := if k = 0 then 16 else if k = 1 then 256 else 4096

/-- min(g[r], cap), read once. -/
def loopCount (m : Helm) (x : Word) : Nat := min (m.reg (wD x)).toNat (loopCap (wKind x))

/-- LOOP (R220, R221): a fifth loop is ILLEGAL, before its end is range-checked (R213). -/
def execLoop (h : Fin 32) (u : Upset) (s : State) : Res :=
  .next (s.helmStep h u .loop (fun x m => if loopCount m x = 0 then 2 else 1) fun x s =>
    let m := s.helm h
    let e := wTarget x m.pc
    let n := loopCount m x
    if 4 ≤ m.loops.length then .error (1, s)
    else if e ≤ (m.pc : Int) ∨ (m.codeWords : Int) ≤ e then .error (6, s)
    else if n = 0 then .ok (s.setHelm h { m with pc := (e.toNat + 1) % 4096 })
    else .ok (s.setHelm h { m with pc := (m.pc + 1) % 4096,
                                   loops := { first := m.pc + 1, last := e.toNat, left := n - 1 } :: m.loops }))

end Sys2Proof.Machine
end

