-- ==== Sys2Proof/Machine/HelmMem.lean ====
section
/-! DEFINITION. The Helm's local and far accesses, CRC, BIP and Tally helpers that read memory (chapter 05, Local and far
memory; Tables MSI-6, MSI-7, MSI-12). -/

namespace Sys2Proof.Machine

open Reg

/-! ### Local data -/

/-- Fault codes of Table MSM-6. -/
def faultIllegal : Nat := 1
def faultLocalEcc : Nat := 3
def faultLocalRange : Nat := 4
def faultAlign : Nat := 5
def faultUnbound : Nat := 7
def faultRo : Nat := 8
def faultFarMap : Nat := 9
def faultFarEcc : Nat := 10

/-- `n` bytes of local data at `a`, little-endian. -/
def Helm.local_ (m : Helm) (a n : Nat) : Nat := leNat ((List.range n).map fun i => smGet 0 m.ram (a + i))

def Helm.setLocal (m : Helm) (a : Nat) : List Byte → Helm
  | [] => m
  | b :: bs => { m with ram := smSet 0 m.ram a b }.setLocal (a + 1) bs

/-- A store: the word's code is recomputed, so it is good again (R223). -/
def Helm.storeLocal (m : Helm) (a n v : Nat) : Helm :=
  { m.setLocal a (leBytes n v) with badRam := m.badRam.filter (· ≠ a / 4) }

/-- Alignment, then range (R176, R213). -/
def localFault (a n : Nat) : Option Nat :=
  if a % n ≠ 0 then some faultAlign else if 0x2000 ≤ a then some faultLocalRange else none

/-- The upset of a local read: a single-bit error is corrected, written back and counted; a double-bit error, new or
standing, stays in the word and faults LOCAL_ECC (R177, R659). -/
def State.localRead (s : State) (h : Nat) (u : Upset) (a : Nat) : Except (Nat × State) State :=
  let m := s.helm h
  let bad := m.badRam.contains (a / 4)
  if u = .double ∨ bad then
    .error (faultLocalEcc, (s.setHelm h { m with badRam := if bad then m.badRam else a / 4 :: m.badRam }).eccUncorr 3 h)
  else if u = .single then .ok ((s.bump HM_ECC_CORR h).eccCorr 3 h)
  else .ok s

/-- A local load of `n` bytes, extended by `ext` (Table MSI-6). -/
def State.loadStep (s : State) (h : Fin 32) (u : Upset) (op : HOp) (n : Nat) (ext : Nat → Word) : State :=
  s.helmStep h u op (fun _ _ => 2) fun x s =>
    let m := s.helm h
    let a := (m.addr x).toNat
    match localFault a n with
    | some f => .error (f, s)
    | none => match s.localRead h u a with
      | .error f => .error f
      | .ok s => .ok ((s.setHelm h ((s.helm h).setReg (wD x) (ext (m.local_ a n)))).helmNext h)

/-- A local store of `n` bytes. -/
def State.storeStep (s : State) (h : Fin 32) (u : Upset) (op : HOp) (n : Nat) : State :=
  s.helmStep h u op (fun _ _ => 1) fun x s =>
    let m := s.helm h
    let a := (m.addr x).toNat
    match localFault a n with
    | some f => .error (f, s)
    | none => .ok ((s.setHelm h (m.storeLocal a n (m.reg (wD x)).toNat)).helmNext h)

def zext (v : Nat) : Word := BitVec.ofNat 32 v
def sext (w : Nat) (v : Nat) : Word := BitVec.ofInt 32 (signExt w v)

/-- LDW. -/
def execLdw (h : Fin 32) (u : Upset) (s : State) : Res := .next (s.loadStep h u .ldw 4 zext)
/-- LDH. -/
def execLdh (h : Fin 32) (u : Upset) (s : State) : Res := .next (s.loadStep h u .ldh 2 zext)
/-- LDHS. -/
def execLdhs (h : Fin 32) (u : Upset) (s : State) : Res := .next (s.loadStep h u .ldhs 2 (sext 16))
/-- LDB. -/
def execLdb (h : Fin 32) (u : Upset) (s : State) : Res := .next (s.loadStep h u .ldb 1 zext)
/-- LDBS. -/
def execLdbs (h : Fin 32) (u : Upset) (s : State) : Res := .next (s.loadStep h u .ldbs 1 (sext 8))
/-- STW. -/
def execStw (h : Fin 32) (u : Upset) (s : State) : Res := .next (s.storeStep h u .stw 4)
/-- STH. -/
def execSth (h : Fin 32) (u : Upset) (s : State) : Res := .next (s.storeStep h u .sth 2)
/-- STB. -/
def execStb (h : Fin 32) (u : Upset) (s : State) : Res := .next (s.storeStep h u .stb 1)

/-- TALLY: bin, then the counter of the bin, saturating (R232). -/
def execTally (h : Fin 32) (u : Upset) (s : State) : Res :=
  .next (s.helmStep h u .tally (fun _ _ => 3) fun x s =>
    let m := s.helm h
    let k := binOf (m.reg (wA x)).toNat
    let a := ((m.reg (wB x)).toNat + 4 * k) % 2 ^ 32
    match localFault a 4 with
    | some f => .error (f, s)
    | none => match s.localRead h u a with
      | .error f => .error f
      | .ok s =>
        let old := m.local_ a 4
        let m := ({ s.helm h with c := decide (0xFFFFFFFF ≤ old) }).storeLocal a 4 (min 0xFFFFFFFF (old + 1))
        .ok ((s.setHelm h (m.setReg (wD x) (BitVec.ofNat 32 k))).helmNext h))

/-- TBIN. -/
def execTbin (h : Fin 32) (u : Upset) (s : State) : Res :=
  .next (s.helmStep h u .tbin (fun _ _ => 1) fun x s =>
    let m := s.helm h
    .ok ((s.setHelm h (m.setReg (wD x) (BitVec.ofNat 32 (binOf (m.reg (wA x)).toNat)))).helmNext h))

/-! ### Far memory (R180-R183, R224, R225) -/

/-- The memory number of a DPA for Table HLT-3: 0 Larder, 1 Cellar. -/
def memOf (dpa : Nat) : Nat := if inLarder dpa then 0 else 1

/-- A 32-bit write through the matrix: half a 64-bit word, so a mark of uncorrectable stays (R520). -/
def State.farWrite (s : State) (dpa : Nat) (v : Word) : State := (s.setNum dpa 4 v.toNat).count (194 + memOf dpa)

/-- The oldest posted store is performed. -/
def State.farDrain (s : State) (h : Nat) : State :=
  let m := s.helm h
  match m.posted with
  | [] => s
  | f :: fs => (s.setHelm h { m with posted := fs }).farWrite f.dpa f.val

/-- Every posted store is performed, in order. -/
def State.farDrainAll (s : State) (h : Nat) : State := (s.helm h).posted.foldl (fun s _ => s.farDrain h) s

/-- The far address of an instruction translated for the Helm's owner; a fault is recorded under R78 with the Helm's
cluster as master. -/
def State.farTranslate (s : State) (h : Nat) (x : Word) (write : Bool) : Except Nat Nat × State :=
  let n := s.helmOwner h
  let swa := ((s.helm h).addr x).toNat
  match s.translate n swa write with
  | (.ok a, s) => (.ok a, s)
  | (.error c, s) => (.error faultFarMap, s.mapFault n (h / 8) c swa)

/-- The SWA lies in the image's declared far region. -/
def Helm.inFar (m : Helm) (swa : Nat) : Bool :=
  match m.image with | some i => decide (i.farBase ≤ swa ∧ swa < i.farBase + i.farLen) | none => false

/-- The most cycles a far access takes after its first: 64 in all, and outside the declared far region, when it misses
the map cache, the 1.2 us of R80 more (R181). -/
def State.farMost (s : State) (h swa : Nat) : Nat :=
  if (s.helm h).inFar swa || s.own.mapCache.any (MapEntry.hits (s.helmOwner h) swa) then 63
  else 63 + levelMhz (s.rd GL_FLOOR_LEVEL) * 12 / 10

/-- Issue of FLD or FADD: the Helm stalls until the data returns. FADD in the Cellar faults FAR_MAP and is counted in
MX_ERR (R224, R518). -/
def State.farIssue (s : State) (h : Fin 32) (u : Upset) (op : HOp) (kind : Nat) : State :=
  s.helmStep h u op (fun _ _ => 1) fun x s =>
    let m := s.helm h
    let n := s.farMost h (m.addr x).toNat
    if (m.addr x).toNat % 4 ≠ 0 then .error (faultAlign, s)
    else match s.farTranslate h x (kind = 1) with
      | (.error f, s) => .error (f, s)
      | (.ok a, s) =>
        if kind = 1 ∧ !inLarder a then .error (faultFarMap, s.matrixErr MX_ERR_ATOMIC (h / 8))
        else .ok (s.setHelm h { m with stall := some { kind := kind, dpa := a, d := wD x, val := m.reg (wD x), most := n } })

/-- FLD. -/
def execFld (h : Fin 32) (u : Upset) (s : State) : Res := .next (s.farIssue h u .fld 0)

/-- FADD. -/
def execFadd (h : Fin 32) (u : Upset) (s : State) : Res := .next (s.farIssue h u .fadd 1)

/-- FST: posted; behind four posted stores it first waits `w` cycles for the oldest. -/
def execFst (h : Fin 32) (u : Upset) (w : Fin 65) (s : State) : Res :=
  .next (s.helmStep h u .fst (fun _ m => if m.posted.length < 4 then 1 else 1 + w) fun x s =>
    if ((s.helm h).addr x).toNat % 4 ≠ 0 then .error (faultAlign, s)
    else match s.farTranslate h x true with
      | (.error f, s) => .error (f, s)
      | (.ok a, s) =>
        let s := if (s.helm h).posted.length < 4 then s else s.farDrain h
        let m := s.helm h
        .ok ((s.setHelm h { m with posted := m.posted ++ [{ kind := 2, dpa := a, d := 0, val := m.reg (wD x), most := 0 }] }).helmNext h))

/-- FSYNC: waits `w` cycles for the posted stores, if any. -/
def execFsync (h : Fin 32) (u : Upset) (w : Fin 65) (s : State) : Res :=
  .next (s.helmStep h u .fsync (fun _ m => if m.posted = [] then 1 else 1 + w) fun _ s => .ok ((s.farDrainAll h).helmNext h))

/-- FAR_LOAD_COMPLETE: the data of a far load or FADD returns after `k` more cycles and the stall ends; the posted
stores before it have been performed (R180). An uncorrectable word faults FAR_ECC (R182). -/
def execFarLoadComplete (h : Fin 32) (u : Upset) (k : Nat) (s : State) : Res :=
  let m := s.helm h
  match m.stall, m.run with
  | some f, some r =>
    let k := min k f.most
    if r.limit < r.cycles + k then .next ((s.helmCycles h (r.limit + 1 - r.cycles)).helmFault h faultBudget)
    else
      let s := (s.helmCycles h k).farDrainAll h
      let s := s.count (194 + memOf f.dpa)
      let ecc := inLarder f.dpa || s.flag MX_CELLAR_INLINE_ECC
      let s := if u = .double ∧ ecc then s.markBad f.dpa else s
      if s.badWord f.dpa && ecc then
        .next (((s.eccUncorr (memOf f.dpa) (f.dpa % 2 ^ 32)).matrixErr MX_ERR_UNCORR (h / 8)).helmFault h faultFarEcc)
      else
        let s := if u = .single ∧ ecc then s.eccCorr (memOf f.dpa) (f.dpa % 2 ^ 32) else s
        let old := BitVec.ofNat 32 (s.numAt f.dpa 4)
        let s := if f.kind = 1 then s.farWrite f.dpa (old + f.val) else s
        let m := s.helm h
        .next ((s.setHelm h ({ m with stall := none }.setReg f.d old)).helmNext h)
  | _, _ => .next s

/-- FAR_STORE_COMPLETE: the oldest posted store enters the write queue and is visible (R183). -/
def execFarStoreComplete (h : Fin 32) (s : State) : Res := .next (s.farDrain h)

/-- BUDGET_ABORT: the count of a stalled handler passes WCET + WCET / 8 (R255); the access is abandoned (R214). -/
def execBudgetAbort (h : Fin 32) (s : State) : Res :=
  let m := s.helm h
  match m.stall, m.run with
  | some _, some r => .next ((s.helmCycles h (r.limit + 1 - r.cycles)).helmFault h faultBudget)
  | _, _ => .next s

end Sys2Proof.Machine
end

