-- ==== Sys2Proof/Machine/HelmPort.lean ====
section
/-! DEFINITION. The Helm's port instructions (Tables MSI-8, MSI-10, MSI-13, MSI-14), its timers, POST, RAISE and END
(Tables MSI-15, MSI-16). -/

namespace Sys2Proof.Machine

open Reg

/-- What an instruction makes of its port: a fault code, or the port (R185). -/
def Helm.usePort (m : Helm) (x : Word) (kinds : List PortKind) : Except Nat Port :=
  match m.port? (wPt x) with
  | none => .error faultUnbound
  | some q => if kinds.contains q.kind then .ok q else .error faultUnbound

/-! ### Overhead -/

/-- The port shows its overhead: it has had PORT_READY, is in frame, and its watch has not ended (R186, R60). -/
def State.portShows (s : State) (q : Port) : Bool := q.ready && s.portInFrame q && !q.cut

/-- The committed transmit value of a byte of a port: the latest commit, else what was last sent. -/
def State.txCommitted (s : State) (q : Port) (o : Nat) : Byte :=
  match s.portCarrier? q with
  | none => 0
  | some c =>
    let l := portLayer c q
    let ov := s.ovh c
    let k := l * 256 + o
    match (ov.txPend.filter fun p => p.2.1 = k).getLast? with
    | some p => p.2.2.getD ((smGet [] ov.sent l).getD o 0)
    | none => (smGet none ov.tx k).getD ((smGet [] ov.sent l).getD o 0)

/-- A byte of a port's overhead image (Table MSI-9, R226): the receive read bank, or the committed transmit value. -/
def State.ohByte (s : State) (q : Port) (o : Nat) : Byte :=
  if !s.portShows q || decide (s.portImage q ≤ o) then 0
  else if q.kind = .sliceTx then s.txCommitted q o
  else q.bank.getD (24 + o) 0

/-- Bytes of an access form: 1, 2 or 4. -/
def ohLen (x : Word) : Nat := 2 ^ wFnE x

/-- OHRD. -/
def execOhrd (h : Fin 32) (u : Upset) (s : State) : Res :=
  .next (s.helmStep h u .ohrd (fun _ _ => 2) fun x s =>
    let m := s.helm h
    match m.usePort x [.sliceRx, .sliceTx, .chart] with
    | .error f => .error (f, s)
    | .ok q =>
      let o := ((m.reg (wA x)).toNat + wImm12 x) % 2 ^ 32
      let v := leNat ((List.range (ohLen x)).map fun i => s.ohByte q (o + i))
      .ok ((s.setHelm h (m.setReg (wD x) (BitVec.ofNat 32 v))).helmNext h))

/-- Bytes staged on a port at an offset (R188); those beyond the image are discarded (R226). -/
def State.stageOh (s : State) (h p : Nat) (q : Port) (o : Nat) (l : List Byte) : State :=
  let m := s.helm h
  let new := (l.mapIdx fun i b => (p, o + i, b)).filter fun e => e.2.1 < s.portImage q
  s.setHelm h { m with stagedOh := m.stagedOh ++ new }

/-- The port of an overhead write, or its fault: PORT_RO on a receive selector and on a receive-only port (R227). -/
def Helm.writePort (m : Helm) (x : Word) : Except Nat Port :=
  match m.usePort x [.sliceRx, .sliceTx, .chart] with
  | .error f => .error f
  | .ok q => if q.transmits then .ok q else .error faultRo

/-- OHWR. -/
def execOhwr (h : Fin 32) (u : Upset) (s : State) : Res :=
  .next (s.helmStep h u .ohwr (fun _ _ => 1) fun x s =>
    let m := s.helm h
    match m.writePort x with
    | .error f => .error (f, s)
    | .ok q =>
      let o := ((m.reg (wA x)).toNat + wImm12 x) % 2 ^ 32
      .ok ((s.stageOh h (wPt x) q o (leBytes (ohLen x) (m.reg (wD x)).toNat)).helmNext h))

/-- The base of OHWM (R228): the byte staged in this handler, else what the transmitter would send without any program
write; `own` are the bytes it computes or routes. -/
def State.ohBase (s : State) (h p : Nat) (q : Port) (own : List (Nat × Nat × Byte)) (o : Nat) : Byte :=
  match ((s.helm h).stagedOh.filter fun e => e.1 = p ∧ e.2.1 = o).getLast? with
  | some e => e.2.2
  | none => match s.portCarrier? q with
    | some c => (s.txImage c (portLayer c q) (s.ovh c).txN own true false).getD o 0
    | none => 0

/-- OHWM: (base and not g[a]) or (g[d] and g[a]). -/
def execOhwm (h : Fin 32) (u : Upset) (own : List (Nat × Nat × Byte)) (s : State) : Res :=
  .next (s.helmStep h u .ohwm (fun _ _ => 1) fun x s =>
    let m := s.helm h
    match m.writePort x with
    | .error f => .error (f, s)
    | .ok q =>
      let mask := leBytes (ohLen x) (m.reg (wA x)).toNat
      let val := leBytes (ohLen x) (m.reg (wD x)).toNat
      let o := wImm12 x
      let l := (List.range (ohLen x)).map fun i =>
        let k := mask.getD i 0
        (s.ohBase h (wPt x) q own (o + i) &&& ~~~k) ||| (val.getD i 0 &&& k)
      .ok ((s.stageOh h (wPt x) q o l).helmNext h))

/-! ### Chutes -/

/-- An instruction on a Chute port (R227). -/
def State.chuteStep (s : State) (h : Fin 32) (u : Upset) (op : HOp) (f : Word → Nat → Nat → State → State) : State :=
  s.helmStep h u op (fun _ _ => 1) fun x s =>
    match (s.helm h).usePort x [.chute] with
    | .error e => .error (e, s)
    | .ok q => if q.ro then .error (faultRo, s)
               else .ok ((f x (objIndex q.src) (prodHelm h (wPt x)) s).helmNext h)

/-- The 64-bit item g[a]:g[d]. -/
def Helm.item (m : Helm) (x : Word) : Nat := (m.reg (wA x)).toNat * 2 ^ 32 + (m.reg (wD x)).toNat

/-- PUSH. -/
def execPush (h : Fin 32) (u : Upset) (s : State) : Res :=
  .next (s.chuteStep h u .push fun x c p s => s.chutePush c p ((s.helm h).item x))

/-- PUSHC: PUSH, then commit. -/
def execPushc (h : Fin 32) (u : Upset) (s : State) : Res :=
  .next (s.chuteStep h u .pushc fun x c p s => (s.chutePush c p ((s.helm h).item x)).chuteCommit c p)

/-- RWD. -/
def execRwd (h : Fin 32) (u : Upset) (s : State) : Res :=
  .next (s.chuteStep h u .rwd fun _ c p s => s.chuteRewind c p)

/-! ### Parity and defects -/

/-- BIPX: computed parity xor received parity of the frame in the read bank (R231). -/
def execBipx (h : Fin 32) (u : Upset) (s : State) : Res :=
  .next (s.helmStep h u .bipx (fun _ _ => 2) fun x s =>
    let m := s.helm h
    match m.usePort x [.sliceRx, .chart] with
    | .error f => .error (f, s)
    | .ok q =>
      let k := wImm12 x
      if !(s.portItems q).contains k then .error (faultUnbound, s)
      else
        let r := BitVec.ofNat 32 (if s.portShows q then leAt q.bank (3 * k) 3 else 0)
        .ok ((s.setHelm h ((m.setZN r).setReg (wD x) r)).helmNext h))

/-- DSET and DCLR: staged until END; a code that is program-driven nowhere, or not program-driven on the port's layer is ILLEGAL (R233, R234). -/
def State.defStep (s : State) (h : Fin 32) (u : Upset) (op : HOp) (set : Bool) : State :=
  s.helmStep h u op (fun _ _ => 1) fun x s =>
    let m := s.helm h
    let code := wImm12 x % 256
    if !progCodes.contains code then .error (faultIllegal, s)
    else match m.usePort x [.sliceRx, .sliceTx, .chart] with
    | .error f => .error (f, s)
    | .ok q =>
      if !(s.portProgDefects q).contains code then .error (faultIllegal, s)
      else if q.ro then .error (faultRo, s)
      else .ok ((s.setHelm h { m with stagedDef := m.stagedDef ++ [(wPt x, code, set)] }).helmNext h)

/-- DSET. -/
def execDset (h : Fin 32) (u : Upset) (s : State) : Res := .next (s.defStep h u .dset true)

/-- DCLR. -/
def execDclr (h : Fin 32) (u : Upset) (s : State) : Res := .next (s.defStep h u .dclr false)

/-! ### Pattern control (R235, R236) -/

/-- A pattern instruction: `ctl` marks one that a receive-only port refuses. -/
def State.patStep (s : State) (h : Fin 32) (u : Upset) (op : HOp) (ctl : Bool) (bad : Word → Bool)
    (f : Word → Nat → Port → State → State) : State :=
  s.helmStep h u op (fun _ _ => 1) fun x s =>
    if bad x then .error (faultIllegal, s)
    else match (s.helm h).usePort x [.pattern] with
      | .error e => .error (e, s)
      | .ok q => if ctl ∧ q.ro then .error (faultRo, s) else .ok ((f x (objIndex q.src) q s).helmNext h)

/-- The side mask of a pattern port: generator or checker. -/
def Port.side (q : Port) : Nat := if q.sel = 0 then 1 else 2

/-- PSTART: codes 8-15 are ILLEGAL (R384). -/
def execPstart (h : Fin 32) (u : Upset) (s : State) : Res :=
  .next (s.patStep h u .pstart true (fun x => decide (8 ≤ wImm12 x % 16)) fun x v q s => s.patStart v q.side (wImm12 x % 16))

/-- PSTOP. -/
def execPstop (h : Fin 32) (u : Upset) (s : State) : Res :=
  .next (s.patStep h u .pstop true (fun _ => false) fun _ v q s => s.patStop v q.side)

/-- PERR: one inverted bit in each of the next n words of the generator; nothing on a checker. -/
def execPerr (h : Fin 32) (u : Upset) (s : State) : Res :=
  .next (s.patStep h u .perr true (fun _ => false) fun x v q s =>
    if q.sel = 0 then s.setPat v { s.pat v with perrLeft := max (s.pat v).perrLeft (wImm12 x) } else s)

/-- PRDC: the program error count, with what the checker compared since it was last counted; 0 on a generator. -/
def execPrdc (h : Fin 32) (u : Upset) (bits errs : Nat) (s : State) : Res :=
  .next (s.patStep h u .prdc false (fun _ => false) fun x v q s =>
    if q.sel = 0 then s.setHelm h ((s.helm h).setReg (wD x) 0)
    else
      let s := s.patCount v bits errs
      let n := (s.pat v).progErr
      (s.setPat v { s.pat v with progErr := 0 }).setHelm h ((s.helm h).setReg (wD x) (BitVec.ofNat 32 n)))

/-- PSTAT: in sync, and sync lost since the last PSTAT; 0 on a generator. -/
def execPstat (h : Fin 32) (u : Upset) (s : State) : Res :=
  .next (s.patStep h u .pstat false (fun _ => false) fun x v q s =>
    if q.sel = 0 then s.setHelm h ((s.helm h).setReg (wD x) 0)
    else
      let w := s.rd PU_STAT_SYNC v + 2 * boolNat (s.pat v).lostSince
      (s.setPat v { s.pat v with lostSince := false }).setHelm h ((s.helm h).setReg (wD x) (BitVec.ofNat 32 w)))

/-- PWORD. -/
def execPword (h : Fin 32) (u : Upset) (s : State) : Res :=
  .next (s.patStep h u .pword true (fun _ => false) fun x v _ s => s.wr PU_WORD_WORD ((s.helm h).reg (wD x)).toNat v)

/-! ### Timers (R237) -/

/-- Device time in whole microseconds, rounded up. -/
def State.usUp (s : State) : Nat := (s.tm.device + 999) / 1000

/-- The timer is cancelled, with any undispatched TIMER event of it. -/
def Helm.cancelTimer (m : Helm) (t : Nat) : Helm :=
  { m with timers := smSet none m.timers t none, queue := m.queue.filter fun e => !(e.kind = 6 && e.cause = t) }

/-- The timer is armed for `us` microseconds; 0 cancels it. -/
def Helm.armTimer (m : Helm) (t now us : Nat) (periodic : Bool) : Helm :=
  if us = 0 then m.cancelTimer t
  else { m with timers := smSet none m.timers t (some { periodic := periodic, due := now + us, period := us }) }

def State.timerStep (s : State) (h : Fin 32) (u : Upset) (op : HOp) (f : Helm → Word → Nat → Nat → Helm) : State :=
  s.helmStep h u op (fun _ _ => 1) fun x s =>
    .ok ((s.setHelm h (f (s.helm h) x (wFld x 16 2) s.usUp)).helmNext h)

/-- TARM. -/
def execTarm (h : Fin 32) (u : Upset) (s : State) : Res :=
  .next (s.timerStep h u .tarm fun m x t now => m.armTimer t now (wImm16 x) false)

/-- TARMR. -/
def execTarmr (h : Fin 32) (u : Upset) (s : State) : Res :=
  .next (s.timerStep h u .tarmr fun m x t now => m.armTimer t now ((m.reg (wD x)).toNat % 2 ^ 24) false)

/-- TPER. -/
def execTper (h : Fin 32) (u : Upset) (s : State) : Res :=
  .next (s.timerStep h u .tper fun m x t now => m.armTimer t now (wImm16 x) true)

/-- TCAN. -/
def execTcan (h : Fin 32) (u : Upset) (s : State) : Res :=
  .next (s.timerStep h u .tcan fun m _ t _ => m.cancelTimer t)

/-! ### POST, RAISE, END -/

/-- A STOP handler whose session resets or closes: its POST and RAISES are discarded (R245). -/
def State.muted (s : State) (h : Nat) : Bool :=
  (match (s.helm h).run with | some r => decide (r.kind = 1) | none => false) && decide (3 ≤ s.sesState (s.helmOwner h))

/-- POST: one message record to the owning session (R545). -/
def execPost (h : Fin 32) (u : Upset) (s : State) : Res :=
  .next (s.helmStep h u .post (fun _ _ => 1) fun x s =>
    let m := s.helm h
    let rec_ := leBytes 2 (helmSrc h + 1) ++ leBytes 1 0 ++ leBytes 1 8 ++ leBytes 4 (m.reg (wD x)).toNat ++
      leBytes 4 (m.reg (wA x)).toNat ++ leBytes 2 (wImm12 x) ++ leBytes 2 0
    let s := if s.muted h then s else s.eqMessage (s.helmOwner h) rec_
    .ok (s.helmNext h))

/-- RAISE: Helm source k. -/
def execRaise (h : Fin 32) (u : Upset) (s : State) : Res :=
  .next (s.helmStep h u .raise (fun _ _ => 1) fun x s => .ok ((s.fireFree (helmSrc h + wImm16 x)).helmNext h))

/-- RAISES: software source k of the owning session. -/
def execRaises (h : Fin 32) (u : Upset) (s : State) : Res :=
  .next (s.helmStep h u .raises (fun _ _ => 1) fun x s =>
    let s := if s.muted h then s else s.fireFree (768 + 16 * s.helmOwner h + wImm16 x)
    .ok (s.helmNext h))

/-- Staged transmit overhead is committed for the first transmit frame at least 2 us later (R188). -/
def State.commitOh (s : State) (h : Nat) : State :=
  let l := (s.helm h).stagedOh
  let s := s.setHelm h { s.helm h with stagedOh := [] }
  l.foldl (fun s e =>
    match (s.helm h).port? e.1 with
    | none => s
    | some q => match s.portCarrier? q with
      | none => s
      | some c =>
        let o := s.ovh c
        s.setOvh c { o with txPend := o.txPend ++ [(s.clock, portLayer c q * 256 + e.2.1, some e.2.2)] }) s

/-- Staged defect changes take effect: of several for one port and code the last (R233). -/
def State.commitDef (s : State) (h : Nat) : State :=
  let l := (s.helm h).stagedDef
  let s := s.setHelm h { s.helm h with stagedDef := [] }
  let keys := (l.map fun e => (e.1, e.2.1)).dedup
  keys.foldl (fun s k =>
    match (s.helm h).port? k.1, (l.filter fun e => (e.1, e.2.1) = k).getLast? with
    | some q, some e =>
      (match s.portCarrier? q with
       | none => s
       | some c =>
         let m := s.helm h
         let d := (q.src, q.sel, k.2)
         let ds := m.progDef.filter (· ≠ d)
         (s.setHelm h { m with progDef := if e.2.2 then ds ++ [d] else ds }).progDefect c k.2 (portLayer c q))
    | _, _ => s) s

/-- START has ended, or has no handler: RUNNING, and BIND completes with its load (R247); a stop that waited follows
(R249). -/
def State.startDone (s : State) (h : Nat) : State :=
  let m := s.helm h
  let s := (s.setHelm h { m with bindTag := none, stopWait := false }).setPs h .running
  let s := match m.bindTag with
    | some t => s.endOp (s.helmOwner h) t doneOk (s.rd HM_BUDGET_LOAD h)
    | none => s
  if m.stopWait then s.requestStop h else s

/-- END (R239): `w` cycles of wait for posted far stores, then the commits; the Helm returns to dispatch. -/
def execHelmEnd (h : Fin 32) (u : Upset) (w : Fin 65) (s : State) : Res :=
  .next (s.helmStep h u .fin (fun _ m => if m.posted = [] then 1 else 1 + w) fun _ s =>
    let s := ((s.farDrainAll h).commitOh h).commitDef h
    let m := s.helm h
    match m.run with
    | none => .ok s
    | some r =>
      let s := (s.notePeak h r).snapRegs h
      let s := s.setHelm h { s.helm h with loops := [], run := none, lastKind := r.kind }
      .ok (if r.kind = 0 then s.startDone h else if r.kind = 1 then s.helmLoaded h else s))

/-! ### Events of the Helm's own (R190-R195) -/

/-- EVENT_DISPATCH: Helm `h` takes the next event after `idle` cycles of waiting (R193, R194). START waits for its
floor (R247); START and STOP without a handler end at once (R190). -/
def execEventDispatch (h : Fin 32) (idle : Nat) (s : State) : Res :=
  let m := s.helm h
  match m.run, m.image, m.queue with
  | none, some im, e :: q =>
    if m.ps = .faulted ∨ (e.kind = 0 ∧ levelMhz (s.rd GL_FLOOR_LEVEL) < im.floor) then .next s
    else
      let m := { m with queue := q, tm := m.tm + BitVec.ofNat 32 idle }
      match im.handlerFor e.kind e.port with
      | none => let s := s.setHelm h m
                .next (if e.kind = 0 then s.startDone h else if e.kind = 1 then s.helmLoaded h else s)
      | some k =>
        let hd := im.handlers.getD k { kind := 0, mask := 0, entry := 0, wcet := 0 }
        let ev := e.kind + 16 * e.port + 128 * boolNat (e.ovf || m.ovf) + 256 * e.cause + 65536 * boolNat e.set +
          2 ^ 17 * e.stamp
        let m := { m with ev := BitVec.ofNat 32 ev, pc := hd.entry, ovf := false, lastKind := e.kind,
                          run := some { entry := k, kind := e.kind, port := e.port, cycles := 0, limit := hd.wcet + hd.wcet / 8 } }
        let m := if e.kind = 7 then
            { m.setLocal 0x1FE0 e.payload with badRam := m.badRam.filter fun w => !decide (0x7F8 ≤ w ∧ w ≤ 0x7FF) } else m
        let m := if e.kind = 2 ∨ e.kind = 3 then
            (match m.port? e.port with | some p => m.setPort e.port { p with bank := e.payload } | none => m) else m
        .next (((s.setHelm h m).helmCycles h 4).count (8 + h))
  | _, _, _ => .next s

/-- HELM_TIMER_EXPIRY: TIMER is enqueued with the timer's number; an undispatched one of the same timer counts once and
carries OVF (R195); a periodic timer runs on (R237). -/
def execHelmTimerExpiry (h : Fin 32) (t : Fin 4) (s : State) : Res :=
  let m := s.helm h
  match smGet none m.timers t with
  | none => .next s
  | some x =>
    if s.tm.device < 1000 * x.due then .next s
    else
      let nx := if x.periodic then some { x with due := x.due + x.period } else none
      let m := { m with timers := smSet none m.timers t nx }
      if m.queue.any fun e => e.kind = 6 && e.cause = t.val then
        .next (s.setHelm h { m with queue := m.queue.map fun e => if e.kind = 6 ∧ e.cause = t.val then { e with ovf := true } else e })
      else .next ((s.setHelm h m).enqueue h 6 0 t false [])

/-- RESERVED_ENCODING: a word that spells no Helm instruction faults ILLEGAL, after IMEM_PARITY (R198, R212, R213). -/
def execReservedEncoding (h : Fin 32) (u : Upset) (s : State) : Res :=
  let m := s.helm h
  match m.run with
  | none => .next s
  | some r =>
    if m.stall.isSome ∨ (helmOp m.fetch).isSome then .next s
    else if r.limit < r.cycles + 1 then .next ((s.helmCycles h (r.limit + 1 - r.cycles)).helmFault h faultBudget)
    else
      let s := s.helmCycles h 1
      .next (if u = .imemParity then (s.eccUncorr 4 h).helmFault h 2 else s.helmFault h faultIllegal)

end Sys2Proof.Machine
end

