-- ==== Sys2Proof/Machine/Sessions.lean ====
section
/-! DEFINITION. The session commands: SESSION_OPEN, GRANT, WATCH_GRANT, SESSION_CLOSE, session reset and VF FLR, the seal key,
map-cache invalidation and the scrubs' ends (chapters 02 and 03). -/

namespace Sys2Proof.Machine

open Reg

/-! ### A GRANT list (Table OPS-3) -/

/-- What a GRANT list asks for, as its entries are read in order: the first refusal, the ownership that the entries before
leave, the objects and ranges that move, what FORCE must end, windows, and the first type-3 entry. -/
structure Ev where
  err : Option (Nat × Nat)
  /-- Unlon's placement does not fit the list: the command has not happened. -/
  unfit : Bool
  objs : SMap Nat
  ranges : List ChartRange
  moves : List (Nat × Nat × Nat)
  outR : List ChartRange
  newR : List ChartRange
  forced : List (Nat × Nat)
  wins : List Window
  freed : List Nat
  touched : List (Nat × Nat)
  first3 : Option Nat
  place : List (List Nat)
  deriving DecidableEq, Repr

/-- Objects that GRANT moves one by one (Table SES-3). -/
def grantable (c : Nat) : Bool := [0, 1, 2, 4, 7, 8].contains c

/-- An operation uses an object: it is its object, one of its points, its Chute or its pool. -/
def Op.uses (o : Op) (x : Nat) : Bool :=
  opObj? o = some x || (o.opcode = 0x10 && (acqSlices o).any fun i => sliceObj i = x) ||
  (o.opcode = 0x20 && ((soakPoints o).any (fun p => pmObj p = x) || (o.par 2 ≠ 0 && o.par 2 = x)))

/-- A Helm whose program is bound and is, or has a port on, the object. -/
def State.helmsUsing (s : State) (n x : Nat) : List Nat :=
  ((s.helms.filter fun e => e.2.ps.bound && s.helmOwner e.1 = n &&
    (0x2000 + e.1 = x || e.2.portList.any fun q => q.2.src = x)).map (·.1))

/-- Sn uses an object: an operation of it in flight, or a program bound (R50). -/
def State.inUse (s : State) (n x : Nat) : Bool :=
  (s.opsOf n).any (fun o => o.live && o.uses x) || s.helmsUsing n x ≠ []

/-- A refusal ends the reading of the list. -/
def Ev.fail (v : Ev) (r : Option (Nat × Nat)) : Ev := if v.err.isSome then v else { v with err := r }

/-- The object may leave `n`: unused, or FORCE ends the uses (R50). -/
def Ev.leave (v : Ev) (s : State) (n x : Nat) (force : Bool) (f : Ev → Ev) : Ev :=
  if !s.inUse n x then f v else if force then f { v with forced := v.forced ++ [(n, x)] } else v.fail (some (eBusy, 0))

/-- One object of a type-0 entry (R49-R51). -/
def evObj (s : State) (t : Nat) (force rev : Bool) (v : Ev) (x : Nat) : Ev :=
  let o := smGet (s.ownerOf x) v.objs x
  if v.err.isSome then v
  else if rev then
    if o ≠ 0 ∧ o ≠ t then v.fail (some (eBusy, 0))
    else if o = 0 then v
    else v.leave s t x force fun v => { v with objs := smIns v.objs x 0, moves := v.moves ++ [(x, t, 0)] }
  else if o = t then v
  else if o ≠ 0 ∨ s.objBusy x then v.fail (some (eBusy, 0))
  else v.leave s 0 x force fun v => { v with objs := smIns v.objs x t, moves := v.moves ++ [(x, 0, t)] }

/-- A type-3 entry (R49-R51, R393). -/
def evRange (s : State) (t : Nat) (force rev : Bool) (v : Ev) (first count : Nat) : Ev :=
  let obj := 0x3000 + first / 32
  let v := { v with first3 := v.first3.or (some obj) }
  let hits := v.ranges.filter fun r => decide (r.first < first + count ∧ first < r.first + r.count)
  let same := hits.find? fun r => r.first = first && r.count = count
  if rev then
    match same with
    | none => v.fail (bad 4)
    | some r =>
      if r.sess ≠ 0 ∧ r.sess ≠ t then v.fail (some (eBusy, 0))
      else v.leave s r.sess obj force fun v => { v with ranges := v.ranges.erase r, outR := v.outR ++ [r] }
  else if hits.any fun r => r.sess ≠ 0 && r.sess ≠ t then v.fail (some (eBusy, 0))
  else if s.objBusy obj then v.fail (some (eBusy, 0))
  else match same with
    | some r => if r.sess = t then v
        else v.leave s 0 obj force fun v =>
          { v with ranges := v.ranges.erase r ++ [{ r with sess := t }], outR := v.outR ++ [r], newR := v.newR ++ [{ r with sess := t }] }
    | none =>
      if t ≠ 0 ∧ hits.any fun r => r.sess = t then v.fail (bad 4)
      else
        let n : ChartRange := { id := first / 32, first := first, count := count, sess := t }
        hits.foldl (fun v r => v.leave s 0 (0x3000 + r.id) force fun v => { v with ranges := v.ranges.erase r, outR := v.outR ++ [r] }) v |>
          fun v => if v.err.isSome then v else { v with ranges := v.ranges ++ [n], newR := v.newR ++ [n] }

/-- A window entry (types 1 and 2): pages come from Unlon's placement, in list order. -/
def evWindow (s : State) (kind : Nat) (rev : Bool) (v : Ev) (swa count : Nat) : Ev :=
  let a := swa / 4096
  if swa % 4096 ≠ 0 ∨ count = 0 ∨ 2 ^ 20 < a + count ∨ (kind = 2 ∧ s.cellarSize = 0) then v.fail (bad 4)
  else if rev then
    match cutWindows v.wins kind swa count with
    | none => v.fail (bad 4)
    | some (ws, ps) => { v with wins := ws, freed := v.freed ++ ps, touched := v.touched ++ [(a, count)] }
  else if v.wins.any fun w => decide (w.swa / 4096 < a + count ∧ a < w.swa / 4096 + w.pages.length) then v.fail (bad 4)
  else match v.place with
    | [] => v.fail (some (eBusy, 0))
    | ps :: l =>
      let taken := (v.wins.map (·.pages)).flatten
      let ok := decide (ps.length = count ∧ ps.Nodup) && ps.all fun p => s.pageFree kind p && !taken.contains p && !v.freed.contains p
      if !ok then { v with unfit := true }
      else { v with wins := v.wins ++ [{ swa := swa, kind := kind, pages := ps }], touched := v.touched ++ [(a, count)], place := l }

/-- One entry of a GRANT list for target `t`. -/
def evEntry (s : State) (t : Nat) (force : Bool) (v : Ev) (b : List Byte) : Ev :=
  let typ := leAt b 0 1
  let rv := leAt b 1 1
  let first := leAt b 2 2
  let count := leAt b 4 4
  let swa := leAt b 8 4
  let rev := rv = 1
  if v.err.isSome then v
  else if rv / 2 ≠ 0 ∨ leAt b 12 4 ≠ 0 ∨ ((typ = 0 ∨ typ = 3) ∧ swa ≠ 0) ∨ ((typ = 1 ∨ typ = 2) ∧ first ≠ 0) then v.fail (bad 1)
  else match typ with
    | 0 =>
      if count = 0 then v.fail (bad 4)
      else if !objValid first ∨ classSize (objClass first) < objIndex first + count then v.fail (bad 2)
      else if !grantable (objClass first) then v.fail (bad 4)
      else (List.range count).foldl (fun v k => evObj s t force rev v (first + k)) v
    | 3 =>
      if first % 32 ≠ 0 ∨ count % 32 ≠ 0 ∨ count < 32 ∨ 256 < count ∨ 8192 < first + count then v.fail (bad 4)
      else evRange s t force rev v first count
    | 1 => evWindow s 1 rev v swa count
    | 2 => evWindow s 2 rev v swa count
    | _ => v.fail (bad 4)

/-- The list of `k` entries read for target `t` with Unlon's placement of its windows. -/
def State.evList (s : State) (t : Nat) (force : Bool) (data : List Byte) (k : Nat) (place : List (List Nat)) : Ev :=
  let v : Ev := { err := none, unfit := false, objs := [], ranges := s.own.ranges, moves := [], outR := [], newR := [], forced := [],
                  wins := (s.sess t).windows, freed := [], touched := [], first3 := none, place := place }
  (List.range k).foldl (fun v i => evEntry s t force v (sliceBytes data (16 * i) 16)) v

/-- Runs of contiguous pages of every session, the target's windows as they would be (R639). -/
def State.allRuns (s : State) (t : Nat) (ws : List Window) : Nat :=
  ((List.range 16).map fun n => ((if n = t then ws else (s.sess n).windows).map fun w => pageRuns w.pages).foldl (· + ·) 0).foldl (· + ·) 0

/-- Unlon's place for the tables is good: aligned, in the Larder, in pages of its own or free. -/
def State.baseOk (s : State) (t base : Nat) (ws : List Window) : Bool :=
  base % 8192 = 0 && (List.range (2 * tableCount ws)).all fun k =>
    let p := base / 4096 + k
    inLarder (p * 4096) && !((ws.map (·.pages)).flatten.contains p) &&
      (s.pageFree 1 p || (s.sess t).tables.any fun x => p / 2 = x / 8192)

/-- Sums over the sessions, the target's own replaced; a closed session counts nothing (R52, R82). -/
def State.sumOver (s : State) (t v : Nat) (f : Fld) : Nat :=
  (List.range 16).foldl (fun k n => k + (if n = t then v else if s.sesState n = 0 then 0 else s.rd f n)) 0

/-- The numbers a GRANT sets: a bad parameter, or an over-commit (R49, R52, R54, R82, Table SES-3). -/
def State.limitCheck (s : State) (t : Nat) (o : Op) (opening : Bool) : Option (Nat × Nat) :=
  let p0 := o.par 0
  let b := fun i => !opening && p0.testBit i
  let quota := if b 4 then o.par 1 else if opening then 64 else s.rd SES_CTL_QUOTA t
  let share := if b 7 then o.par 4 else if opening then 4 else s.rd SES_CTL_MAPC_SHARE t
  let other := fun f => (List.range 16).foldl (fun k n => if n = t then k else k + s.rd f n) 0
  refuse (quota = 0 || decide (512 < quota) || share = 0 || decide (49 < share)) (bad 4) <|
  refuse (b 5 && (t = 0 || decide (65535 < o.par 2))) (bad 4) <|
  refuse (b 6 && decide (1024 < o.par 3 % 65536)) (bad 4) <|
  refuse (decide (1024 < s.sumOver t quota SES_CTL_QUOTA) || decide (64 < s.sumOver t share SES_CTL_MAPC_SHARE)) (some (eQuota, 0)) <|
  refuse (b 5 && decide (s.allowance < other SES_POWER_RESERVE_MW + o.par 2)) (some (eAllowance, 0)) <|
  refuse (b 6 && (decide (s.rd CU_LPOOL_SIZE < other CU_POOL_L_RES + o.par 3 % 65536) ||
    decide (s.rd CU_CPOOL_SIZE < other CU_POOL_C_RES + o.par 3 / 65536))) (some (eQuota, 0)) none

/-- The numbers set. -/
def State.setLimits (s : State) (t : Nat) (o : Op) : State :=
  let p0 := o.par 0
  let s := if p0.testBit 4 then s.wr SES_CTL_QUOTA (o.par 1) t else s
  let s := if p0.testBit 5 then s.wr SES_POWER_RESERVE_MW (o.par 2) t else s
  let s := if p0.testBit 6 then (s.wr CU_POOL_L_RES (o.par 3) t).wr CU_POOL_C_RES (o.par 3 / 65536) t else s
  let s := if p0.testBit 7 then s.wr SES_CTL_MAPC_SHARE (o.par 4) t else s
  s.allowUpdate 0

/-- The moves of a list that passed: objects, ranges, windows and map, and the scrub of what is revoked (R50, R51, R72, R85).
The operation completes at once when no engine has work. -/
def State.applyMoves (s : State) (t : Nat) (v : Ev) (base : Option Nat) (n tag result : Nat) : State :=
  let s := v.moves.foldl (fun s m => s.moveObj m.1 m.2.1 m.2.2) s
  let s := v.outR.foldl (fun s r => (s.scrubRange r.first r.count).pmOrphanObj r.sess (0x3000 + r.id) false) s
  let s := v.newR.foldl (fun s r => s.scrubRange r.first r.count) s
  let s := { s with own := { s.own with ranges := v.ranges } }
  let s := s.resetObjs (v.moves.map (·.1))
  let pages := v.freed.foldl (fun m p => smDel m p) s.own.pages
  let pages := ((v.wins.map (·.pages)).flatten).foldl (fun m p => smSet 0 m p t) pages
  let s := { s with own := { s.own with pages := pages } }
  let s := s.dropMaps fun e => e.sess = t && v.touched.any fun w =>
    decide (w.1 < e.page + (if e.blk then 1024 else 1) ∧ e.page < w.1 + w.2)
  let s := match base with | some b => s.buildMap t b v.wins | none => s
  let gone := v.moves.filter fun m => m.2.2 = 0
  let count := fun c => (gone.filter fun m => objClass m.1 = c).length
  let work := s.scrubWork v.freed 0 0 (count 2) (count 4) (v.freed ≠ [])
  if work.all (· = 0) then s.endOp n tag doneOk result
  else s.startScrub { sess := t, kind := 0, ends := [], objs := gone.map (·.1), pages := v.freed, tag := some tag, result := result } work

/-- FORCE ends the operations E_RESET and unbinds the programs that use what leaves (R50). -/
def State.forceOut (s : State) (l : List (Nat × Nat)) : State :=
  l.foldl (fun s e =>
    let s := ((s.opsOf e.1).filter fun o => o.live && o.uses e.2).foldl (fun s o => s.abortOp o eReset) s
    (s.helmsUsing e.1 e.2).foldl (fun s h => s.requestStop h) s) s

/-- GRANT or SESSION_OPEN on target `t` with its list: refused and nothing changed, waiting for forced programs to stop, or
applied. -/
def State.grantTo (s : State) (o : Op) (t k : Nat) (opening : Bool) (place : Option Placement) : State :=
  let force := flagged flagForce o
  let v := s.evList t force o.data k (match place with | some p => p.pages | none => [])
  let base := if v.touched = [] ∧ !opening then none else place.map (·.base)
  let unfit := v.unfit || (v.touched ≠ [] && place.isNone && v.err.isNone) || (match base with | some b => !s.baseOk t b v.wins | none => false)
  let refused := v.err.or ((s.limitCheck t o opening).or (if 2048 < s.allRuns t v.wins then some (eQuota, 0) else none))
  match refused with
  | some (st, c) => s.endOp o.sess o.tag st c
  | none =>
    if unfit then s
    else if v.forced.any fun e => s.helmsUsing e.1 e.2 ≠ [] then s.forceOut v.forced
    else
      let s := s.forceOut v.forced
      if opening then
        let s := (s.wr SES_CTL_STATE 1 t).setSess t { Sess.init with windows := (s.sess t).windows, tables := (s.sess t).tables }
        let s := ((s.wr SES_CTL_QUOTA 64 t).wr SES_CTL_MAPC_SHARE 4 t).wr SES_POWER_RESERVE_MW 0 t
        s.applyMoves t v base o.sess o.tag 0
      else
        (s.setLimits t o).applyMoves t v base o.sess o.tag ((v.first3.getD 0xFFFF) + (0x6000 + t) * 65536)

/-- SESSION_OPEN (Table SES-2, R90, R95). `place` is Unlon's choice of pages and tables. -/
def execSessionOpen (n : Fin 16) (tag : Nat) (place : Option Placement) (s : State) : Res :=
  .next (s.runOp n tag 1 (fun _ => true) fun o s =>
    let t := o.par 0
    if t = 0 ∨ 16 ≤ t then s.endOp o.sess o.tag eBadRecord 4
    else if !s.fnEnabled t then s.endOp o.sess o.tag eUnsupported 5
    else if s.sesState t ≠ 0 then s.endOp o.sess o.tag eBusy 0
    else s.grantTo o t (o.par 1) true place)

/-- GRANT (R48-R53, R90): repeated while programs that FORCE unbinds still stop. -/
def execGrant (n : Fin 16) (tag : Nat) (place : Option Placement) (s : State) : Res :=
  .next (s.runOp n tag 3 (fun o => !s.own.scrubs.any fun r => r.kind = 0 && r.tag = some o.tag) fun o s =>
    let t := o.par 0 % 16
    if 256 ≤ o.par 0 ∨ s.sesState t = 0 then s.endOp o.sess o.tag eBadRecord 4
    else if 3 ≤ s.sesState t then s.endOp o.sess o.tag eBusy 0
    else s.grantTo o t (o.par 5) false place)

/-- WATCH_GRANT (R57, R60). -/
def execWatchGrant (n : Fin 16) (tag : Nat) (s : State) : Res :=
  .next (s.runOp n tag 4 (fun _ => true) fun o s =>
    let w := o.par 0 % 16
    match objSlice? o.obj with
    | none => s.endOp o.sess o.tag eBadRecord 2
    | some i =>
      if 32 ≤ o.par 0 then s.endOp o.sess o.tag eBadRecord 4
      else if (o.par 0).testBit 4 then
        (if s.watches w i then s.watchEnd i w else s).endOp o.sess o.tag doneOk 0
      else if w = 0 ∨ w = n ∨ (s.sesState w ≠ 1 ∧ s.sesState w ≠ 2) then s.endOp o.sess o.tag eBadRecord 4
      else if s.watches w i then s.endOp o.sess o.tag doneOk 0
      else if 4 ≤ (s.own.watches.filter fun x => x.1 = i).length then s.endOp o.sess o.tag eBusy 0
      else ({ s with own := { s.own with watches := s.own.watches ++ [(i, w)] } } : State).endOp o.sess o.tag doneOk 0)

/-! ### Reset and close -/

/-- Sn's sources return to inactive: those of its objects, its Chart, PM, violation and software sources (R534). -/
def State.clearSources (s : State) (n : Nat) : State :=
  ((((s.objsOf n).map objSources).flatten ++ [640 + n, 656 + n, 736 + n] ++ (List.range 16).map fun k => 768 + 16 * n + k)).foldl
    (fun s k => s.clearSource k) s

/-- Step 2 of an FLR has ended (Table HST-5): outstanding reads of Sn are abandoned, its operations end E_RESET and are
discarded with everything staged for it, and its programs are told to stop. -/
def State.drainEnd (s : State) (n : Nat) : State :=
  let s := (s.host.reads.filter fun r => r.func = n && !r.abandoned).foldl (fun s r => s.abandon r 0) s
  let s := ((s.opsOf n).filter fun o => o.live).foldl (fun s o => s.abortOp o eReset) s
  let s := { s with ops := s.ops.filter fun o => o.sess ≠ n,
                    host := { s.host with staging := s.host.staging.filter fun x => x.func ≠ n } }
  let s := s.setSess n { s.sess n with phase := 2, fetched := [[], [], [], []], eqWait := [], eqDropped := 0 }
  (s.helmsOf n).foldl (fun s h => s.requestStop h) s

/-- Crates of Sn's reserves. -/
def State.lRes (s : State) (n : Nat) : Nat := s.rd CU_POOL_L_RES n
def State.cRes (s : State) (n : Nat) : Nat := s.rd CU_POOL_C_RES n

/-- A session reset enters its scrub: Helms and Chutes are wiped, windows read zero (R45, R72). -/
def State.startReset (s : State) (n : Nat) : State :=
  let objs := s.objsOf n
  let ch := objs.filter fun o => objClass o = 4
  let work := s.scrubWork (s.pagesOf n) (s.lRes n) (s.cRes n) (s.helmsOf n).length ch.length true
  let s := (objs.filter fun o => objClass o = 2 || objClass o = 4).foldl (fun s o => s.wipeObj o) s
  let s := (s.dropMaps fun e => e.sess = n).setSess n { s.sess n with phase := 3 }
  s.startScrub { sess := n, kind := 1, ends := [], objs := [], pages := s.pagesOf n, tag := none, result := 0 } work

/-- SESSION_CLOSE from step 3 on (R46): everything returns to S0, limits return to those of a closed session, Calendar entries
are erased, and the scrub starts, with no work after a reset's own (R47). -/
def State.startClose (s : State) (n : Nat) (afterReset : Bool) : State :=
  let objs := s.objsOf n
  let pages := s.pagesOf n
  let ranges := s.own.ranges.filter fun r => r.sess = n
  let count := fun c => (objs.filter fun o => objClass o = c).length
  let work := if afterReset then [0, 0, 0, 0, 0] else s.scrubWork pages (s.lRes n) (s.cRes n) (count 2) (count 4) true
  let tag := (s.sess n).closeTag
  let s := s.watchesEnd fun w => w.2 = n
  let s := s.clearSources n
  let s := objs.foldl (fun s o => if objClass o = 9 then s.wipeObj o else s.moveObj o n 0) s
  let s := ranges.foldl (fun s r => (s.scrubRange r.first r.count).pmOrphanObj n (0x3000 + r.id) false) s
  let s := { s with own := { s.own with ranges := s.own.ranges.filter (fun r => r.sess ≠ n),
                                        pages := s.own.pages.filter fun e => e.2 ≠ n } }
  let s := (s.dropMaps fun e => e.sess = n).eraseCalendar fun m => m = n
  let s := [SES_CTL_QUOTA, SES_CTL_MAPC_SHARE, SES_POWER_RESERVE_MW, CU_POOL_L_RES, CU_POOL_C_RES].foldl (fun s f => s.wr f f.reset n) s
  let s := (s.allowUpdate 0).setSess n { s.sess n with phase := 3, windows := [], tables := [] }
  s.startScrub { sess := n, kind := 2, ends := [], objs := objs, pages := pages, tag := tag, result := 0 } work

/-- The wait for Sn's outstanding reads is over: none is left, or 60 ms or a timeout have passed (Table HST-5). -/
def State.drained (s : State) (n : Nat) : Bool :=
  decide ((s.sess n).drain ≤ s.clock) ||
    (s.host.reads.filter fun r => r.func = n && !r.abandoned).all fun r => decide (r.issued + 1000000 * (s.fn n).ctoMs ≤ s.clock)

/-- A reset or close of Sn goes on as far as it can: past the wait for reads, and past the stop of its programs. -/
def State.sesAdvance (s : State) (n : Nat) : State :=
  let s := if (s.sess n).phase = 1 && s.drained n then s.drainEnd n else s
  if (s.sess n).phase = 2 && !s.boundIn n then
    let s := if (s.fn n).flr.isSome then s.setFn n Fn.init else s
    (if (s.sess n).closing then s.startClose n false else s.startReset n)
  else s

/-- A session reset of Sn begins (R45): STATE reads RESETTING. -/
def State.startSesReset (s : State) (n : Nat) : State :=
  let x := s.sess n
  (s.setSess n { x with prev := s.sesState n, phase := 1, drain := s.inMs 60 }).wr SES_CTL_STATE 3 n

/-- SES_CTL.SESSION_RESET written by PF0 (R45); ignored for S0, a closed session, and one already under reset or close
(R625). -/
def State.sesResetWrite (s : State) (n : Nat) : State :=
  if n = 0 || !s.sesTakes n then s else (s.startSesReset n).sesAdvance n

def execSessionReset (n : Fin 16) (s : State) : Res := .next (if s.working then s.tlpIn.sesResetWrite n else s)

/-- SESSION_CLOSE (R46, R47); repeated while the session's reads or programs end. -/
def execSessionClose (n : Fin 16) (tag : Nat) (s : State) : Res :=
  .next (s.runOp n tag 2 (fun _ => true) fun o s =>
    let t := o.par 0
    let st := s.sesState t
    if t = 0 ∨ 16 ≤ t ∨ st = 0 then s.endOp o.sess o.tag eBadRecord 4
    else if o.stage = 1 then s.sesAdvance t
    else if st = 4 then s.endOp o.sess o.tag eBusy 0
    else
      let s := s.modOp o.sess o.tag fun o => { o with stage := 1 }
      let s := if st = 3 then s else s.startSesReset t
      ((s.wr SES_CTL_STATE 4 t).setSess t { s.sess t with closing := true, closeTag := some o.tag }).sesAdvance t)

/-- A session reset's scrub has ended: the owned resources' state and the register fields that do not list SE are reset, and
the session goes on in its previous state (R45 step 4), or its waiting close goes on (R47). -/
def State.resetDone (s : State) (n : Nat) : State :=
  let objs := s.objsOf n
  let ranges := s.own.ranges.filter fun r => r.sess = n
  let s := s.clearSources n
  let s := objs.foldl (fun s o => if objClass o = 2 ∨ objClass o = 4 then s else s.wipeObj o) s
  let s := ranges.foldl (fun s r => s.scrubRange r.first r.count) s
  let s := (s.resetObjs objs).resetRegs svSE fun r i => (r = 2 || r = 1) && i = n
  let s := ((s.wr CH_SEL_ACTIVE 0 0 n).wr CH_SEL_PENDING 0 0 n).wr CH_SEL_KIND 0 0 n
  let x := s.sess n
  let s := s.setSess n { Sess.init with windows := x.windows, tables := x.tables, closing := x.closing, closeTag := x.closeTag, prev := x.prev }
  if x.closing then s.startClose n true else (s.wr SES_CTL_STATE x.prev n).allowUpdate 0

/-- A close's scrub has ended (R46 steps 5 to 7). -/
def State.closeDone (s : State) (n : Nat) (objs : List Nat) (tag : Option Nat) : State :=
  let s := (s.resetObjs objs).resetRegs 0 fun r i => (r = 1 || r = 2) && i = n
  let s := ((s.wr CH_SEL_ACTIVE 0 0 n).wr CH_SEL_PENDING 0 0 n).wr CH_SEL_KIND 0 0 n
  let s := { s with sessions := smDel s.sessions n }
  match tag with | some t => s.endOp 0 t doneOk 0 | none => s

/-- SCRUB_DONE: every engine is done with the release at this place of the queue, and it completes (R70). -/
def execScrubDone (k : Nat) (s : State) : Res :=
  match s.own.scrubs[k]? with
  | none => .next s
  | some r =>
    if r.ends.any fun e => decide (s.clock < e) then .next s
    else
      let s := { s with own := { s.own with scrubs := s.own.scrubs.eraseIdx k } }
      .next (match r.kind with
        | 0 => (match r.tag with | some t => s.endOp 0 t doneOk r.result | none => s)
        | 1 => s.resetDone r.sess
        | _ => s.closeDone r.sess r.objs r.tag)

/-! ### FLR and VF Enable -/

/-- A VF FLR of VFn begins (R112): its DMA and MSI-X stop, and the session reset of Sn starts, or the one under way goes
on (R625). -/
def State.vfFlr (s : State) (n : Nat) : State :=
  let s := s.setFn n { s.fn n with bme := false, flr := some s.clock }
  let s : State := { s with host := { s.host with reads := s.host.reads.map fun r => if r.func = n then { r with discard := true } else r } }
  let s := if s.sesTakes n then s.startSesReset n else s
  s.sesAdvance n

def execVfFlr (n : Fin 16) (s : State) : Res :=
  if n.val = 0 || !s.ready || !s.fnEnabled n || (s.fn n).flr.isSome then .next s else .next (s.vfFlr n)

/-- The FLR's wait ends (Table HST-5): what the reset of Sn waits for has come, or its time is up. A function whose session is
closed, or past its drain, has its configuration space back. -/
def execFlrDrainEnd (n : Fin 16) (s : State) : Res :=
  let s := s.sesAdvance n
  .next (if (s.fn n).flr.isSome ∧ (s.sess n).phase ≠ 1 ∧ (s.sess n).phase ≠ 2 then s.setFn n Fn.init else s)

/-- VF Enable is cleared: every enabled VF undergoes an FLR (R96). -/
def execVfEnableClear (s : State) : Res :=
  if !s.host.vfEnable || !s.ready then .next s
  else
    let s := (List.range s.host.numVFs).foldl (fun s k => if (s.fn (k + 1)).flr.isSome then s else s.vfFlr (k + 1)) s
    .next { s with host := { s.host with vfEnable := false } }

/-- The host sets VF Enable with NumVFs and ARI Capable Hierarchy as they stand (R93-R95). -/
def execVfEnableSet (numVFs : Fin 16) (ari : Bool) (s : State) : Res :=
  if s.host.vfEnable || !s.ready then .next s
  else .next { s with host := { s.host with vfEnable := true, numVFs := numVFs, ari := ari } }

/-! ### Key, map cache, background scrub, slice reset -/

/-- The eight key words of Sn. -/
def State.keyZero (s : State) (n : Nat) : Bool := (List.range 8).all fun j => s.rd SES_KEY_KEY n j = 0

/-- COMMIT = 1 (R86-R89): a key that stands is not changed, and the write is counted; a zero key is ignored. -/
def State.keyCommit (s : State) (n : Nat) : State :=
  if s.flag SES_KEYC_KEY_SET n then s.violation n 0x40
  else if s.keyZero n then s
  else if n = 0 then s.wr SES_KEYC_KEY_SET 1 0
  else if s.sesState n = 1 then (s.wr SES_KEYC_KEY_SET 1 n).wr SES_CTL_STATE 2 n
  else s

def execSesKeyCommit (n : Fin 16) (s : State) : Res :=
  .next (if s.working && s.fnEnabled n then s.tlpIn.keyCommit n else s)

/-- SES_MAPC_INV.BUSY = 1 (R84): the entries named by SESSION, ALL and PAGE leave the cache; BUSY reads 1 until no access that
used one is in flight. -/
def State.mapcInvalidate (s : State) : State :=
  let n := s.rd SES_MAPC_INV_SESSION
  let p := s.rd SES_MAPC_INV_PAGE
  let s := s.dropMaps fun e => e.sess = n && (s.flag SES_MAPC_INV_ALL ||
    (if e.blk then decide (p / 1024 = e.page / 1024) else decide (p = e.page)))
  { s with own := { s.own with invPending := true } }

def execMapcInvalidate (n : Fin 16) (all : Bool) (page : BitVec 20) (s : State) : Res :=
  if !s.working then .next s
  else
    let s := ((s.tlpIn.wr SES_MAPC_INV_SESSION n).setFlag SES_MAPC_INV_ALL all).wr SES_MAPC_INV_PAGE page.toNat
    .next (if s.own.invPending then s else s.mapcInvalidate)

/-- No access that used a removed entry is in flight (R84). -/
def execMapcInvDone (s : State) : Res := .next { s with own := { s.own with invPending := false } }

/-- A page held after a warm reset has been scrubbed and may be granted (R632); or the sweep of a Cellar that lost its
contents, which goes upwards, has passed the page (R633). -/
def execBackgroundPageScrub (page : BitVec 28) (s : State) : Res :=
  let p := page.toNat
  if !s.working then .next s
  else if s.own.bgPages.contains p then
    .next { s.scrubPage p with own := { s.own with bgPages := s.own.bgPages.filter (· ≠ p) } }
  else if s.unswept p then .next { s with own := { s.own with swept := p + 1 - 0x100000 } }
  else .next s

end Sys2Proof.Machine
end

