-- ==== Sys2Proof/Machine/Bus.lean ====
section
/-! DEFINITION. The register fabric: which register an address reaches (chapter 23), who may reach it, and what reading or
writing it does (R12-R16). -/

namespace Sys2Proof.Machine

open Reg

/-! ### Addresses -/

/-- What an address reaches: a register at an offset of a block, BC_SRC(k), BC_VCLAIM(v), a word of a Helm's local data
or instruction memory, the MSI-X structures, or nothing. -/
inductive Place where
  | reg (r : Region) (i o : Nat)
  | bcSrc (k : Nat)
  | vclaim (v : Nat)
  | ram (h a : Nat)
  | imem (h a : Nat)
  | msix
  | none
  deriving DecidableEq, Repr

/-- Helm `h`'s addresses. -/
def helmPlace (h o : Nat) : Place :=
  if 0x4000 ≤ o ∧ o < 0x6000 then .ram h (o - 0x4000)
  else if 0x8000 ≤ o ∧ o < 0xC000 then .imem h ((o - 0x8000) / 4) else .reg .helm h o

/-- PF0 BAR 0 below 0x0010_0000 (Table REG-3). -/
def lowPlace (a : Nat) : Place :=
  if 0x2000 ≤ a ∧ a < 0x3000 then
    (if a % 0x100 < 0x20 then .reg .sesPf ((a - 0x2000) / 0x100) (a % 0x100)
     else if a < 0x2050 then .reg .ses 0 (a - 0x2000) else .none)
  else if 0x3000 ≤ a ∧ a < 0x30C4 then .reg .ses 0 (a - 0x2F00)
  else if 0x4000 ≤ a ∧ a < 0xA000 then .reg .ses 0 (a + 0xC000)
  else if 0xC000 ≤ a ∧ a < 0xE000 then .msix
  else if 0x10000 ≤ a ∧ a < 0x11000 then .bcSrc ((a - 0x10000) / 4)
  else if 0x1110C ≤ a ∧ a < 0x11180 then .vclaim ((a - 0x11100) / 4)
  else .reg .glob 0 a

/-- PF0 BAR 0 (Tables REG-3, REG-5, REG-6 and REG-8). -/
def pf0Place (a : Nat) : Place :=
  if a < 0x100000 then lowPlace a
  else if a < 0x180000 then .reg .slice ((a - 0x100000) / 0x10000) (a % 0x10000)
  else if a < 0x1C0000 then .reg .slice (8 + (a - 0x180000) / 0x4000) (a % 0x4000)
  else if a < 0x200000 then .none
  else if a < 0x400000 then helmPlace ((a - 0x200000) / 0x10000) (a % 0x10000)
  else if a < 0x480000 then .reg .entry ((a - 0x400000) / 0x40) (a % 0x40)
  else if a < 0x484000 then .reg .pu ((a - 0x480000) / 0x100) (a % 0x100)
  else if a < 0x500000 then .reg .glob 0 a
  else if a < 0x504000 then .reg .chute ((a - 0x500000) / 0x100) (a % 0x100)
  else if 0x508000 ≤ a ∧ a < 0x508100 then .reg .pool ((a - 0x508000) / 0x10) (a % 0x10)
  else if a < 0x580000 then .reg .glob 0 a
  else if a < 0x5C0000 then .reg .point ((a - 0x580000) / 0x80) (a % 0x80)
  else if a < 0x5D0000 then .reg .group ((a - 0x5C0000) / 0x400) (a % 0x400)
  else if a < 0x600000 then .reg .glob 0 a
  else if a < 0x601000 then .reg .kdie 0 (a - 0x600000)
  else .none

/-- VF BAR 0 of VFn outside the owned-resource window (Table REG-7). -/
def vfPlace (n a : Nat) : Place :=
  if a < 0x1000 then .reg .ses n a
  else if 0x8000 ≤ a ∧ a < 0x9008 then .msix
  else if 0x10000 ≤ a ∧ a < 0x20000 then .reg .ses n a
  else .none

/-- The owned-resource window: page WIN_PAGE of PF0 BAR 0 (R686). -/
def State.winPlace (s : State) (n a : Nat) : Place :=
  if s.rd WIN_PAGE n < 6 then pf0Place (s.rd WIN_PAGE n * 0x100000 + (a - 0x100000)) else .none

def inWindow (a : Nat) : Bool := decide (0x100000 ≤ a ∧ a < 0x200000)

/-! ### Ownership in the window (R687, R688) -/

/-- The register is a resource of Sn. -/
def State.ownsPlace (s : State) (n : Nat) : Place → Bool
  | .bcSrc k => !srcReserved k && s.srcOwner k = n
  | .ram h _ => s.helmOwner h = n
  | .imem h _ => s.helmOwner h = n
  | .reg r i o =>
    match r with
    | .slice => s.ownerOf (sliceObj i) = n
    | .helm => s.helmOwner i = n
    | .entry => s.entryOwner i = n
    | .pu => s.ownerOf (patObj i) = n
    | .chute => s.ownerOf (0x4000 + i) = n
    | .pool => i = n
    | .point => s.ownerOf (pmObj i) = n
    | .group => s.ownerOf (groupObj i) = n
    | .glob => decide (o = 0x490000 + 4 * n)
    | _ => false
  | _ => false

/-- The register of a watched slice is one a watcher reads. -/
def State.watchesPlace (s : State) (n : Nat) : Place → Bool
  | .reg .slice i o =>
    s.watches n i && (o = 0 || o = 0x10 || o = 0x14 || o = 0x10C || o = 0x110 || o = 0x140 ||
      decide ((0x118 ≤ o ∧ o < 0x128) ∨ (0x180 ≤ o ∧ o < 0x1D0) ∨ (0x200 ≤ o ∧ o < 0x220)))
  | _ => false

/-- A 64-bit register stands at this offset (R13). -/
def wideAt (r : Region) (i o : Nat) : Bool := (fldsOf r i).any fun f => (f.at? o).isSome && decide (32 < f.lsb + f.width)

/-- There is a register there, so that a window write to it by a stranger is a violation; a reserved address outside every
block is none (R14). -/
def Place.isReg : Place → Bool
  | .none => false
  | .msix => true
  | .bcSrc k => !srcReserved k
  | .reg .glob _ o => ((fldsOf .glob 0).any fun f => (f.at? o).isSome) || (4 ≤ o && wideAt .glob 0 (o - 4))
  | _ => true

/-! ### Reads -/

/-- RC fields with a bit in [lo, hi) of a register clear (Table SCO-5). -/
def State.clearRc (s : State) (r : Region) (i o lo hi : Nat) : State :=
  (fldsOf r i).foldl (fun s f => match f.at? o with
    | some j => if f.acc = .rc ∧ f.lsb < hi ∧ lo < f.lsb + f.width then s.wr f 0 i j else s
    | none => s) s

def latchKey (n : Nat) (r : Region) (i o : Nat) : Nat := n * 2 ^ 40 + (r.code * 8192 + i) * 2 ^ 24 + o

/-- A read of a register by function `n`: the low word of a 64-bit one latches its high word, which the next read of +4 by
that function answers (R13); RC fields clear when `take`, those of a latched high word with it (R15). -/
def State.readReg (s : State) (n : Nat) (r : Region) (i o : Nat) (take : Bool) : Nat × State :=
  if wideAt r i o then
    let v := s.view r i o
    let s := if take then s.clearRc r i o 0 64 else s
    (v % 2 ^ 32, { s with hiLatch := smSet 0 s.hiLatch (latchKey n r i o) (v / 2 ^ 32 % 2 ^ 32 + 1) })
  else if 4 ≤ o ∧ wideAt r i (o - 4) = true then
    match smGet 0 s.hiLatch (latchKey n r i (o - 4)) with
    | 0 => (s.view r i (o - 4) / 2 ^ 32 % 2 ^ 32, if take then s.clearRc r i (o - 4) 32 64 else s)
    | h + 1 => (h, { s with hiLatch := smDel s.hiLatch (latchKey n r i (o - 4)) })
  else (s.view r i o % 2 ^ 32, if take then s.clearRc r i o 0 32 else s)

/-- The register consumer of Chute `c` is function `n`: the owning session's (R478, R505). -/
def State.holdsOwn (s : State) (n c : Nat) : Bool := (s.chute c).consumer = 3 && s.ownerOf (0x4000 + c) = n

/-- A read of CU_POP at +0 takes one visible entry and latches its high word and sideband (R505). -/
def State.popTake (s : State) (n c : Nat) : Nat × State :=
  if s.holdsOwn n c then
    let (e, s) := s.chuteTake c
    let s := s.setChute c { s.chute c with pop := e }
    ((match e with | some e => e.data % 2 ^ 32 | none => 0), s)
  else (0, s)

/-- A read by function `n` of what stands at a place. -/
def State.readPlace (s : State) (n : Nat) (p : Place) (take : Bool) : Nat × State :=
  match p with
  | .none => (0, s)
  | .msix => (s.drawn % 2 ^ 32, s.draw)
  | .bcSrc k => (s.bcSrc k, s)
  | .vclaim v => s.vclaim v
  | .ram h a => ((s.helm h).local_ (a / 4 * 4) 4, s)
  | .imem h a => ((smGet 0 (s.helm h).imem a).toNat, s)
  | .reg r i o =>
    if r = .chute ∧ o = 0x10 then s.popTake n i
    else if r = .chute ∧ (o = 0x14 ∨ o = 0x18) then
      (if s.holdsOwn n i then (if o = 0x14 then s.view .chute i 0x10 / 2 ^ 32 else s.view .chute i 0x18) else 0, s)
    else s.readReg n r i o take

/-- The registers PF0 reads now: few before Unlon is ready, in BOOT_FAIL, and in FAULT_HOLD or a dump (R628, R635, R683). -/
def State.pf0Reads (s : State) (a : Nat) : Bool :=
  if s.boot.phase = 3 then a = 0 || a = 0x28
  else if !s.ready then a = 0 || a = 0x20 || a = 0x24 || a = 0x28
  else if s.flag LG_STAT_HOLD || s.health.dump.isSome then
    a = 0 || a = 0x14 || a = 0x20 || a = 0x24 || a = 0x28 || decide (0xB000 ≤ a ∧ a < 0xB010)
  else decide (a < 0x600000) || s.flag KP_TETHER_UP

def State.pf0Writes (s : State) (a : Nat) : Bool :=
  if s.boot.phase = 3 then false
  else if !s.ready then a = 0x20
  else if s.flag LG_STAT_HOLD || s.health.dump.isSome then a = 0x14 || a = 0x20 || a = 0xB004
  else decide (a < 0x600000) || s.flag KP_TETHER_UP

/-- VFn's BAR answers. -/
def State.vfOpen (s : State) (n : Nat) : Bool := s.working && s.fnEnabled n && (s.fn n).flr.isNone

/-- A 32-bit read of BAR 0 by function `n` (0 is PF0). -/
def State.busRead (s : State) (n a : Nat) : Nat × State :=
  if n = 0 then (if s.pf0Reads a then s.readPlace 0 (pf0Place a) true else (0, s))
  else if !s.vfOpen n then (0, s)
  else if inWindow a then
    let p := s.winPlace n a
    if s.ownsPlace n p then s.readPlace n p true
    else if s.watchesPlace n p then s.readPlace n p false
    else (0, s)
  else s.readPlace n (vfPlace n a) true

/-! ### Plain writes -/

/-- The bits of a written word that fall on copy `j` of a field, whose register's low (`hi` false) or high word it is,
applied by the access code; RWL fields and trigger bits are left to their registers' own rules. -/
def State.pokeFld (s : State) (f : Fld) (i j v : Nat) (hi : Bool) : State :=
  let base := if hi then 32 else 0
  let lo := max f.lsb base
  let top := min (f.lsb + f.width) (base + 32)
  if top ≤ lo then s
  else
    let x := bitsAt v (lo - base) (top - lo)
    let old := s.rd f i j
    match f.acc with
    | .rw => s.wr f (setBitsAt old (lo - f.lsb) (top - lo) x) i j
    | .w1c => s.wr f (Nat.xor old (Nat.land old (x * 2 ^ (lo - f.lsb)))) i j
    | _ => s

/-- The word `v` written to the register word at `o`: every RW and W1C field there (Table SCO-5). -/
def State.poke (s : State) (r : Region) (i o v : Nat) : State :=
  (fldsOf r i).foldl (fun s f =>
    let s := match f.at? o with | some j => s.pokeFld f i j v false | none => s
    if o < 4 then s else match f.at? (o - 4) with | some j => s.pokeFld f i j v true | none => s) s

/-! ### Registers with rules of their own -/

/-- The lock of a crate pool's SIZE is open: no crate allocated and every reserve in that store 0 (R489). -/
def State.poolUnlocked (s : State) (store : Nat) : Bool :=
  (List.range 16).all (fun n => s.cratesHeld n store = 0 && s.crateReserve n store = 0) && s.sharedFree store = s.poolSize store

/-- PM_ALIGN has been written: every point's current intervals close SHORT at the next second boundary, and boundaries
count from the new alignment on (R464). -/
def State.realign (s : State) : State :=
  let mark := fun (x : PmPt) =>
    { x with short15 := if x.cur15.isSome then some s.sec else x.short15
             short24 := if x.cur24.isSome then some s.sec else x.short24 }
  let s := s.pm.foldl (fun s e => s.setPt e.1 (mark (s.pt e.1))) s
  { s with pmRolled := max s.pmRolled (pmBoundary (s.rd PM_ALIGN) s.tm.device) }

/-- Writes to global registers. -/
def State.globWrite (s : State) (o v : Nat) : State :=
  match o with
  | 0x18 => s.hostCtlWrite v
  | 0x20 => s.glReset v
  | 0x1F00 =>
    let s := s.poke .glob 0 o v
    if v.testBit 31 && !s.own.invPending then s.mapcInvalidate else s
  | 0xB004 =>
    let s := s.poke .glob 0 o v
    let s := if v.testBit 12 then s.logRead else s
    if v.testBit 13 && bitsAt v 16 8 = 0xA5 then s.fatal 8 0 else s
  | 0x11000 => s.bcSet (v + s.rd BC_SET_BC_SET)
  | 0x11004 => s.wr BC_SET_BC_SET (v * 2 ^ 32)
  | 0x12100 => if v.testBit 0 then s.counterSnap else s
  | 0x509000 => if s.poolUnlocked 0 then s.wr CU_LPOOL_SIZE (min 1024 (bitsAt v 0 11)) else s
  | 0x509004 => if s.poolUnlocked 1 then s.wr CU_CPOOL_SIZE (bitsAt v 0 16) else s
  | 0x5D0000 => (s.poke .glob 0 o v).realign
  | 0x5D0004 => (s.poke .glob 0 o v).realign
  | _ => s.poke .glob 0 o v

/-- Fetches of a ring that are out are to be discarded, and its records that wait for admission are gone. -/
def State.ringCleared (s : State) (n q : Nat) : State :=
  let x := s.sess n
  let s := s.setSess n { x with fetched := x.fetched.set q [], fetchHold := setBitsAt x.fetchHold q 1 0 }
  { s with host := { s.host with reads := s.host.reads.map fun r => if r.purpose = .fetch n q then { r with discard := true } else r } }

/-- SQ_CFG(q) (R132, R133). -/
def State.sqCfgWrite (s : State) (n q v : Nat) : State :=
  let en := s.flag SQ_CFG_EN n q
  if en && bitsAt v 0 4 ≠ s.rd SQ_CFG_LOG2_SIZE n q then s.ringErr n q
  else
    let s := (s.wr SQ_CFG_LOG2_SIZE (bitsAt v 0 4) n q).setFlag SQ_CFG_EN (v.testBit 4) n q
    if en = v.testBit 4 then s
    else if en then s.ringCleared n q
    else ((s.wr SQ_STAT_HEAD 0 n q).wr SQ_STAT_TAIL 0 n q).ringCleared n q

/-- CQ_CFG: ignored and counted while an operation of the session is in flight (R133, R134). -/
def State.cqCfgWrite (s : State) (n v : Nat) : State :=
  if s.ops.any fun o => o.sess = n && !o.refused then s.ringErr n 0
  else
    let en := s.flag CQ_CFG_EN n
    let s := (s.wr CQ_CFG_LOG2_SIZE (bitsAt v 0 4) n).setFlag CQ_CFG_EN (v.testBit 4) n
    if en || !v.testBit 4 then s
    else (((s.setSess n { s.sess n with cqWritten := 0, cqRead := 0 }).wr CQ_STAT_TAIL 0 n).wr CQ_STAT_PHASE 1 n).wr CQ_STAT_HELD 0 n

/-- EQ_CFG (R543, R547). -/
def State.eqCfgWrite (s : State) (n v : Nat) : State :=
  let en := s.flag EQ_CFG_EN n
  let s := (s.wr EQ_CFG_LOG2_SIZE (bitsAt v 0 4) n).setFlag EQ_CFG_EN (v.testBit 4) n
  if en || !v.testBit 4 then s
  else (((s.setSess n { s.sess n with eqWritten := 0, eqRead := 0 }).wr EQ_STAT_TAIL 0 n).wr EQ_STAT_PHASE 1 n).setFlag EQ_STAT_ARM true n

/-- Writes to Sn's session control, rings and doorbells. -/
def State.sesWrite (s : State) (n o v : Nat) : State :=
  if 0x20 ≤ o ∧ o < 0x40 then
    (if s.flag SES_KEYC_KEY_SET n then s.violation n o else s.wr SES_KEY_KEY v n ((o - 0x20) / 4))
  else if o = 0x40 then (if v.testBit 0 then s.keyCommit n else s)
  else if 0x108 ≤ o ∧ o < 0x140 ∧ o % 0x10 = 8 then s.sqCfgWrite n ((o - 0x108) / 0x10) v
  else if o = 0x148 then s.cqCfgWrite n v
  else if o = 0x188 then s.eqCfgWrite n v
  else if o = 0x194 then (if s.sesTakes n then s.swRaise n (v % 16) else s)
  else if o = 0x198 then (if s.sesTakes n then s.bcClaim n (v % 65536) else s)
  else if o = 0x19C then (if s.sesTakes n then s.bcEoi n (v % 1024) else s)
  else if 0x10000 ≤ o ∧ o < 0x14000 ∧ o % 0x1000 = 0 then s.sqBell n ((o - 0x10000) / 0x1000) (v % 4096)
  else if o = 0x14000 then s.cqBell n (v % 4096)
  else if o = 0x15000 then s.eqBell n (v % 4096)
  else s.poke .ses n o v

/-- Writes to a slice's registers. A new OV_INS write replaces an insertion in progress (R389). -/
def State.sliceWrite (s : State) (i o v : Nat) : State :=
  if o = 0xC then (let s := s.poke .slice i o v; if v.testBit 2 then s.report i else s)
  else if o = 0x1C then (if v.testBit 0 then s.sliceReset i else s)
  else if o = 0x20 then (if 8 ≤ i ∧ v.testBit 0 = true ∧ s.flag LP_LOOP_PENDING i = true then s.loopClear i else s)
  else if o = 0x108 then
    let s := if v.testBit 0 then s.reframe ((s.groupLead? i).getD i) else s
    if v.testBit 1 then s.mfReframe i else s
  else if 0x220 ≤ o ∧ o < 0x240 then
    let x := s.ovh i
    s.setOvh i { x with latch := Nat.xor x.latch (Nat.land x.latch (v * 2 ^ (8 * (o - 0x220)))) }
  else if o = 0x290 then
    let s := s.poke .slice i o v
    s.setOvh i { s.ovh i with insLeft := 0 }
  else if o = 0x29C then (let s := s.poke .slice i o v; s.wr OV_LPRBS_SYNC 0 i)
  else s.poke .slice i o v

/-- PU_CTL: the sides that RUN newly names start and those it no longer names stop (Table OVD-12). -/
def State.puWrite (s : State) (u o v : Nat) : State :=
  if o ≠ 0 then s.poke .pu u o v
  else
    let old := s.rd PU_CTL_RUN u
    let new := bitsAt v 4 2
    let code := s.rd PU_CTL_CODE u
    let s := (s.patStop u (Nat.land old (3 - new))).poke .pu u 0 (setBitsAt v 4 2 (Nat.land old new))
    let s := s.patStart u (Nat.land new (3 - old)) (bitsAt v 0 4)
    if code = bitsAt v 0 4 then s else s.patSeed u

/-- CU_CON.OWN (R478). -/
def State.cuOwn (s : State) (n c : Nat) (on : Bool) : State :=
  let x := s.chute c
  if on then
    (if x.consumer = 0 then s.setChute c { x with consumer := 3, conSess := n }
     else if x.consumer = 3 then s else s.violation n (0xC + 0x100 * c))
  else if x.consumer = 3 then s.setChute c { x with consumer := 0, conSess := 0 } else s

/-- The register consumer of a Chute acts (R485); without that role the write does nothing. -/
def State.cuAct (s : State) (c : Nat) (f : Chute → Chute) : State :=
  if (s.chute c).consumer = 3 then s.setChute c (f (s.chute c)) else s

/-- Writes to a Chute's registers by session `n`. -/
def State.chuteWrite (s : State) (n c o v : Nat) : State :=
  if o = 0xC then
    let s := s.wr CU_CON_AUTO (bitsAt v 4 1) c
    let s := s.cuOwn n c (v.testBit 0)
    let s := if v.testBit 1 then s.cuAct c Chute.mark else s
    let s := if v.testBit 2 then s.cuAct c Chute.rewind else s
    if v.testBit 3 then s.cuAct c Chute.release else s
  else s.poke .chute c o v

/-- PM_ATTACH with GO (R474); a refused attachment is counted as a violation. -/
def State.pmAttachWrite (s : State) (n p v : Nat) : State :=
  if !v.testBit 31 then s
  else if v.testBit 30 then
    (if s.ownerOf (pmObj p) = n then s.pmReset p else s.violation n (0xC + 0x80 * p))
  else if s.pmAttachCheck n p (bitsAt v 0 16) (bitsAt v 16 8) = doneOk then s.pmAttach p (bitsAt v 0 16) (bitsAt v 16 8)
  else s.violation n (0xC + 0x80 * p)

/-- Writes to a PM point's registers: a change of the gate is seen at once (R454). -/
def State.pointWrite (s : State) (n p o v : Nat) : State :=
  if o = 0xC then s.pmAttachWrite n p v else (s.poke .point p o v).pmScan

/-- Writes to K-die registers, through the mirror or the keeper port (R130). MODE of a bay's BY_CFG is locked unless the bay
is OFF (R585); limits, budgets and base power change what the feeds must carry (R575, R581). -/
def State.kdieWrite (s : State) (o v : Nat) : State :=
  let b := (o - 0x500) / 0x40
  if o = 0x404 then s.fdPathWrite v
  else if o = 0x414 then s.poeCfgWrite v
  else if o = 0x40C ∨ o = 0x410 then (s.poke .kdie 0 o v).shortScan
  else if 0x500 ≤ o ∧ o < 0x600 ∧ o % 0x40 = 0 then
    let s := if s.bayState b = 0 then s.wr BY_CFG_MODE (bitsAt v 0 1) 0 b else s
    (s.poke .kdie 0 o v).deniedScan.shortScan
  else if 0x500 ≤ o ∧ o < 0x600 ∧ o % 0x40 = 8 then s.byMapWrite b v
  else if 0x500 ≤ o ∧ o < 0x600 ∧ o % 0x40 = 0x10 then s.bayCmd b (v % 8)
  else s.poke .kdie 0 o v

/-- A write to instruction memory (R210). -/
def State.imemWrite (s : State) (h a v : Nat) : State :=
  let m := s.helm h
  if m.ps.bound then s.bump HM_STAT_WR_IGN h
  else s.setHelm h { m with imem := smSet 0 m.imem a (BitVec.ofNat 32 v) }

/-- A 32-bit write by function `n` to what stands at a place. -/
def State.writePlace (s : State) (n : Nat) (p : Place) (v : Nat) : State :=
  match p with
  | .none => s
  | .msix => s
  | .vclaim _ => s
  | .bcSrc k => if n = 0 then s.bcSrcWrite k v else s.bcSrcEn k v
  | .ram h a => s.setHelm h ((s.helm h).storeLocal (a / 4 * 4) 4 v)
  | .imem h a => s.imemWrite h a v
  | .reg r i o =>
    match r with
    | .glob => s.globWrite o v
    | .sesPf => if o = 0 then (if v.testBit 19 then s.sesResetWrite i else s) else s.poke .sesPf i o v
    | .ses => s.sesWrite i o v
    | .slice => s.sliceWrite i o v
    | .pu => s.puWrite i o v
    | .chute => s.chuteWrite n i o v
    | .point => s.pointWrite n i o v
    | .kdie => s.kdieWrite o v
    | _ => s.poke r i o v

/-- A 32-bit write to BAR 0 by function `n`; in the window one to a resource Sn does not own is counted as a violation
(R67, R687). -/
def State.busWrite (s : State) (n a v : Nat) : State :=
  if n = 0 then (if s.pf0Writes a then s.writePlace 0 (pf0Place a) v else s)
  else if !s.vfOpen n then s
  else if inWindow a then
    let p := s.winPlace n a
    if s.ownsPlace n p then s.writePlace n p v
    else if p.isReg then s.violation n (a % 0x100000) else s
  else s.writePlace n (vfPlace n a) v

end Sys2Proof.Machine
end

