-- ==== Sys2Proof/Machine/KeeperPort.lean ====
section
/-! DEFINITION. The keeper port: frames, their CRC and the STATUS byte (chapter 03, R126-R131). -/

namespace Sys2Proof.Machine

open Reg

/-- CRC-8 of a frame (R127). -/
def crc8 (l : List Byte) : Byte :=
  l.foldl (fun c b => (List.range 8).foldl (fun c _ => if c.msb then (c <<< 1) ^^^ 0x07 else c <<< 1) (c ^^^ b)) 0

/-- The port attends to a frame: the K-die runs, and 2 ms have passed since its start (R131, R710). -/
def State.kpAttends (s : State) : Bool :=
  s.kDieOn && !(s.boot.phase = 1 && s.boot.cause = 0 && decide (s.clock < s.boot.since + 2000000))

/-- STATUS[5:4] (Table HST-8); 3 also in BOOT_FAIL (R635), 0 after the third failed rail check (R714). -/
def State.kpEDie (s : State) : Nat :=
  if s.boot.phase = 3 then 3
  else if s.boot.phase = 4 then 0
  else if s.eDieOn then (if s.flag LG_STAT_HOLD then 3 else 2)
  else if s.rd KP_PWR_STAT_EDIE = 7 then 1 else 0

/-- The response from the marker on: STATUS with these low bits, DATA, CRC (R128). -/
def State.kpAnswer (s : State) (bits : Nat) (data : List Byte) : State :=
  let l := BitVec.ofNat 8 (bits + 16 * s.kpEDie) :: data
  s.emit (.keeper (0xA5 :: (l ++ [crc8 l])))

/-- A frame whose last byte `crc` has been received: with a right CRC the command acts, or (`none`) is BAD; with a wrong one
nothing is done (R127, R129). -/
def State.kpFrame (s : State) (req : List Byte) (crc : Byte) (act : State → Option (List Byte × State)) : Res :=
  .next (if !s.kpAttends then s
    else if crc8 req ≠ crc then (s.bump KP_PORT_STAT_CRC_ERR).kpAnswer 2 []
    else match act s with
      | none => s.kpAnswer 4 []
      | some (data, s) => s.kpAnswer 1 data)

/-- KP_NOP. -/
def execKpNop (crc : Byte) (s : State) : Res := s.kpFrame [0x00] crc fun s => some ([], s)

/-- KP_READ_ID. -/
def execKpReadId (crc : Byte) (s : State) : Res := s.kpFrame [0x10] crc fun s => some (leBytes 4 (s.view .kdie 0 0), s)

/-- KP_READ: a K-die register with S0's rights; reserved addresses read 0 (R126, R691). -/
def execKpRead (a : BitVec 16) (crc : Byte) (s : State) : Res :=
  s.kpFrame (0x11 :: leBytes 2 a.toNat) crc fun s =>
    if a.toNat % 4 ≠ 0 then none
    else if 0x1000 ≤ a.toNat then some (leBytes 4 0, s)
    else
      let (v, s) := s.readReg 16 .kdie 0 a.toNat true
      some (leBytes 4 v, s)

/-- KP_WRITE (R130). -/
def execKpWrite (a : BitVec 16) (v : Word) (crc : Byte) (s : State) : Res :=
  s.kpFrame (0x12 :: (leBytes 2 a.toNat ++ leBytes 4 v.toNat)) crc fun s =>
    if a.toNat % 4 ≠ 0 then none
    else some ([], if 0x1000 ≤ a.toNat then s else s.kdieWrite a.toNat v.toNat)

/-- After the third failed rail check a WAKE or COLD_RESET starts three new attempts (R714). -/
def State.newAttempts (s : State) : State :=
  ({ s with boot := { s.boot with railFails := 0, phase := if s.keep.wake.isSome then 0 else 1 } } : State).railsAgain

/-- KP_WAKE: source 6, a wake-capable event, whose CAUSE and DATA no rule states. -/
def execKpWake (crc : Byte) (s : State) : Res :=
  s.kpFrame [0x20] crc fun s =>
    let s := if s.boot.phase = 4 then s.newAttempts else s
    some ([], s.draw.draw.kfire 6 (s.drawn % 256) s.draw.drawn)

/-- KP_COLD_RESET with its CONFIRM byte (Table HST-6); while no wake is allowed the next start is a cold boot (R564, R623). -/
def execKpColdReset (confirm crc : Byte) (s : State) : Res :=
  s.kpFrame [0x30, confirm] crc fun s =>
    if confirm ≠ 0xC3 then none
    else if s.noWake then some ([], { s with keep := { s.keep with coldNext := true } })
    else some ([], s.coldReset 1)

/-- KP_FRAME_ABORT (R129). -/
def execKpFrameAbort (s : State) : Res := .next (if s.kpAttends then s.bump KP_PORT_STAT_ABORT else s)

/-- KP_UNKNOWN_COMMAND. -/
def execKpUnknownCommand (cmd crc : Byte) (s : State) : Res := s.kpFrame [cmd] crc fun _ => none

end Sys2Proof.Machine
end

