-- ==== Sys2Proof/Machine/LineCmds.lean ====
section
/-! DEFINITION. The commands of the line front ends (chapter 08): ACQUIRE and RELEASE_LINE, what the line shows, the
stages, the loop handshake, the reports and REFIN. -/

namespace Sys2Proof.Machine

open Reg

/-- ACQUIRE: the first attempt starts (R287); the front end is powered within 2 ms (Table FE-4). -/
def execAcquire (n : Fin 16) (tag : Nat) (s : State) : Res :=
  .next (s.runOp n tag 0x10 (fun o => o.stage = 0) fun o s =>
    match objSlice? o.obj with
    | none => s
    | some i =>
      let fmt := o.par 0 % 128
      let s := s.modOp n tag fun o => { o with stage := 1 }
      let s := (groupOf i fmt).foldl (fun s j =>
        ((s.wr LINE_STAT_FORMAT fmt j).wr LINE_STAT_LSTATE (if j = i then 1 else 3) j).setLine j
          { s.line j with opts := o.par 2, sigSince := none }) s
      let a : Acq := { sess := n, tag := tag, p1 := o.par 1, p2 := o.par 2, furthest := 0, due := none, rem := none,
                       power := s.inMs 2, suspended := false, loss := none }
      let s := s.setLine i { s.line i with acq := some a }
      ((s.wr LINE_STAT_RESTARTS 0 i).startAttempt i).pmScan)

/-- RELEASE_LINE: an ACQUIRE in flight ends DONE_CANCELLED, the front end powers down, no loop code is sent (R294); a
bonded member answers E_BUSY (R274). -/
def execReleaseLine (n : Fin 16) (tag : Nat) (s : State) : Res :=
  .next (s.runOp n tag 0x11 (fun _ => true) fun o s =>
    match objSlice? o.obj with
    | none => s
    | some i => if s.rd LINE_STAT_LSTATE i = 3 then s.endOp n tag eBusy 0
                else (s.releaseLine i doneCancelled).endOp n tag doneOk 0)

/-- SIGNAL_PRESENT: the criteria of Table FE-3 are met. A powered-down front end reports nothing. -/
def execSignalPresent (i : Fin 24) (s : State) : Res :=
  if s.rd LINE_STAT_LSTATE i = 0 then .next s else .next (s.signalFound i)

/-- SIGNAL_ABSENT: LOS and OOF, and the loss propagates (R28, R286). -/
def execSignalAbsent (i : Fin 24) (s : State) : Res :=
  if s.rd LINE_STAT_LSTATE i = 0 then .next s else .next (s.signalLost i)

/-- STAGE_COMPLETE: the present stage's condition is met on every lane (R275). The SIGNAL and FRAME conditions are the
machine's own; lock is the environment's word, and the settled coefficients of each lane are `coeffs` (LP: EQ_GAIN, then
PEAK). -/
def execStageComplete (i : Fin 24) (coeffs : List (List Nat)) (s : State) : Res :=
  match (s.line i).acq with
  | none => .next s
  | some a =>
    if a.suspended then .next s
    else match s.rd LINE_STAT_STAGE i with
    | 1 =>
      let up := (s.group i).all fun j => s.flag LINE_STAT_SIG j &&
        (match (s.line j).sigSince with | some t => decide (t + 1000000 ≤ s.clock) | none => false)
      if up && decide (a.power ≤ s.clock) then .next (s.enterStage i 2) else .next s
    | 2 => .next (((s.onGroup i fun j s => s.wr LINE_STAT_LOCK 1 j).txTiming i).enterStage i 3)
    | 3 =>
      let s := (s.group i).zipIdx.foldl (fun s e =>
        let c := coeffs.getD e.2 []
        let n := if e.1 < 8 then 6 else 2
        let s := s.setLine e.1 { s.line e.1 with live := (List.range n).map fun k => c.getD k 0, adaptAt := s.tm.device }
        let s := s.wr LINE_STAT_SETTLED 1 e.1
        if optHold a.p2 then s.wr ADAPT_CTL_FREEZE 1 e.1 else s) s
      if 8 ≤ i.val then
        let loss := (s.line i).live.headD 0 - (if optRxMode a.p2 = 2 then 200 else 0)
        let s := s.wr LP_RPT_LOSS_EST (min 0x3FE loss) i
        .next ((s.setLine i { s.line i with acq := some { a with loss := some (min 0xFFFE loss) } }).enterFrame i)
      else .next (s.enterFrame i)
    | 4 =>
      if s.frState i = 2 && (!fmtMultiframe (s.fmt i) || s.rd FR_STAT_MF_STATE i = 2) then .next (s.enterHandshake i)
      else .next s
    | _ => .next s

/-- STAGE_TIMER_EXPIRY: the attempt fails (R287); T_HANDSHAKE of a LOOP_PROBE leads to its last loop-down (R326). -/
def execStageTimerExpiry (i : Fin 24) (s : State) : Res :=
  let x := s.line i
  match x.acq with
  | some a => if s.isDue a.due then .next (s.failAttempt i) else .next s
  | none => if x.probe.isSome && s.isDue x.probeDue then .next (s.probeDown i) else .next s

/-- LOOP_UP_ACTIVATE_END: after UP_MS the line PRBS 2^11-1 is sent and checked (R297 step 3). -/
def execLoopUpActivateEnd (i : Fin 24) (s : State) : Res :=
  let x := s.line i
  if x.loop = 2 && s.isDue x.loopDue then
    .next ((s.setLine i { x with loop := 3, loopDue := none }).emit (.line i (48 + x.loopKind)))
  else .next s

/-- LOOP_CONFIRM: 256 consecutive bits match (R297 step 4); a LOOP_PROBE goes on to its last loop-down (R326). -/
def execLoopConfirm (i : Fin 24) (s : State) : Res :=
  let x := s.line i
  if x.loop = 3 then
    let s := (s.wr LP_LOOP_CONFIRMED 1 i).loopFire i
    match x.acq with
    | some a => if a.suspended then .next s else .next (s.acquired i)
    | none => .next ((s.setLine i { x with probeMs := some ((s.clock - x.loopFrom) / 1000000) }).probeDown i)
  else .next s

/-- LOOP_DOWN_END: DOWN_MS ends (R298, R300, R326). The loop-down of LOOP_KIND clears the flag only for the same kind. -/
def execLoopDownEnd (i : Fin 24) (s : State) : Res :=
  let x := s.line i
  if !s.isDue x.loopDue then .next s
  else match x.loop with
  | 1 =>
    let s := (s.loopClear i).setLine i { x with loop := 0, loopDue := none }
    match x.probe with
    | some (n, t) => .next (s.loopUp i (match s.op? n t with | some o => o.par 2 % 16 | none => 0))
    | none => .next (s.hsNext i (some x.loopKind))
  | 4 =>
    let s := if s.rd LP_LOOP_KIND i = x.loopKind then s.loopClear i else s
    .next (s.acquired i)
  | 6 => .next ((s.loopClear i).probeEnd i sndValid)
  | _ => .next s

/-- AUTONEG_COMPLETE: Clause 37 completes with the partner's base page, and the stage ends (R292, R325). -/
def execAutonegComplete (i : Fin 24) (page : BitVec 16) (s : State) : Res :=
  let x := s.line i
  match x.acq with
  | some a =>
    if x.loop = 5 && !a.suspended then
      .next (((s.setLine i { x with autoneg := some (page.toNat, s.tm.device), loop := 0 }).linkDown i).acquired i)
    else .next s
  | none => .next s

/-- REPORT_REFRESH: the report registers are refreshed as one consistent set (R282). -/
def execReportRefresh (i : Fin 24) (s : State) : Res :=
  if s.rd LINE_STAT_LSTATE i = 0 then .next s else .next (s.report i)

/-- A coefficient of `w` bits moved one step: 0 down, 1 stays, 2 up, within its range; `signed` for two's complement. -/
def coeffStep (w : Nat) (signed : Bool) (v : Nat) (d : Fin 3) : Nat :=
  let off := if signed then 2 ^ (w - 1) else 0
  let u := (v + off) % 2 ^ w
  let u := if d = 0 then u - 1 else if d = 2 then min (2 ^ w - 1) (u + 1) else u
  (u + off) % 2 ^ w

/-- BACKGROUND_ADAPT_STEP: at most one step of each coefficient (R279, R284), unless FREEZE or BG_OFF holds them (R280),
foreground adaptation has them, or a SUSPEND froze them (Table OPS-9); `meas` are the eye (or peak) as measured. -/
def execBackgroundAdaptStep (i : Fin 24) (d : List (Fin 3)) (meas : List Nat) (s : State) : Res :=
  let x := s.line i
  let lead := (s.groupLead? i).getD i
  let held := match (s.line lead).acq with | some a => a.suspended || s.rd LINE_STAT_STAGE lead ≤ 3 | none => false
  if s.rd LINE_STAT_LSTATE i = 0 || held || s.flag ADAPT_CTL_FREEZE i || s.flag ADAPT_CTL_BG_OFF i then .next s
  else
    let v := fun k => x.live.getD k 0
    let dd := fun k => d.getD k 1
    let live := if i.val < 8 then
        [coeffStep 4 false (v 0) (dd 0), coeffStep 6 true (v 1) (dd 1), coeffStep 6 true (v 2) (dd 2),
         coeffStep 5 false (v 3) (dd 3), meas.getD 0 (v 4), meas.getD 1 (v 5)]
      else [coeffStep 10 false (v 0) (dd 0), meas.getD 0 (v 1)]
    .next (s.setLine i { x with live := live })

/-- Slices that run from REFIN follow its validity (R277). -/
def State.refinChange (s : State) : State :=
  (List.range 24).foldl (fun s i => if s.rd LINE_STAT_LSTATE i = 1 ∨ s.rd LINE_STAT_LSTATE i = 2 then s.txTiming i else s) s

/-- REFIN_VALID: three good periods of the chosen frequency (R595). -/
def execRefinValid (s : State) : Res :=
  if s.rd GL_REFIN_SEL = 0 ∨ 5 < s.rd GL_REFIN_SEL then .next s else .next ((s.wr GL_REFIN_VALID 1).refinChange)

/-- REFIN_INVALID: missing or bad periods (R595); a WANDER ends NO_REF with its samples (R322). -/
def execRefinInvalid (s : State) : Res :=
  if !s.flag GL_REFIN_VALID then .next s
  else
    let s := (s.wr GL_REFIN_VALID 0).refinChange
    .next ((List.range 24).foldl (fun s i => s.soundsLost i sndNoRef true) s)

end Sys2Proof.Machine
end

