-- ==== Sys2Proof/Machine/Programs.lean ====
section
/-! DEFINITION. Images and programs: the MSL image and LOAD (Tables MSM-9 to MSM-11, R202-R204), the stock library (Table
PRG-7), the checks and effects of BIND (Tables PRG-3, PRG-4), UNBIND and SEND. -/

namespace Sys2Proof.Machine

open Reg

/-! ### MSL images -/

/-- Bytes of an image with so many code words and data bytes (R203). -/
def imageLength (code data : Nat) : Nat := 224 + 4 * code + (data + 3) / 4 * 4 + 4

def imageHandler (l : List Byte) (i : Nat) : Handler :=
  { kind := leAt l (64 + 8 * i) 1, mask := leAt l (65 + 8 * i) 1, entry := leAt l (66 + 8 * i) 2, wcet := leAt l (68 + 8 * i) 4 }

def imagePort (l : List Byte) (i : Nat) : PortReq :=
  { cls := leAt l (192 + 4 * i) 1, sel := leAt l (193 + 4 * i) 1, dir := leAt l (194 + 4 * i) 1 }

/-- The image that the bytes spell, with unused handler entries left out of no place. -/
def parseImage (l : List Byte) : Image :=
  let code := leAt l 10 2
  let data := leAt l 12 2
  { stock := 0xFFFFFFFF, codeWords := code, handlers := (List.range 16).map (imageHandler l),
    ports := (List.range 8).map (imagePort l), timing := leAt l 7 1, floor := leAt l 8 2, farBase := leAt l 16 4,
    farLen := leAt l 20 4, data := sliceBytes l (224 + 4 * code) data }

def imageCode (l : List Byte) (code : Nat) : List Word := (List.range code).map fun i => BitVec.ofNat 32 (leAt l (224 + 4 * i) 4)

/-- Two handlers match one pair of kind and port (R189). -/
def handlersClash (a b : Handler) : Bool :=
  a.kind ≠ 0xFF && a.kind = b.kind && (!kindCarriesPort a.kind || Nat.land a.mask b.mask ≠ 0)

/-- A handler entry in range (R256): kinds of Table MSM-4, ENTRY inside the code, WCET 4 to 80 000, or 0 unused. -/
def handlerOk (code : Nat) (x : Handler) : Bool :=
  if x.kind = 0xFF then x.wcet = 0 else decide (x.kind ≤ 10 ∧ x.entry < code ∧ 4 ≤ x.wcet ∧ x.wcet ≤ 80000)

def portReqOk (x : PortReq) : Bool := [0, 1, 3, 4, 7, 0xFF].contains x.cls && decide (x.dir ≤ 2)

/-- Bytes that are 0. -/
def zeroAt (l : List Byte) (o n : Nat) : Bool := (sliceBytes l o n).all (· == 0)

/-- The checks of R203 on an image of length `len`. -/
def imageOk (l : List Byte) (len : Nat) : Bool :=
  let im := parseImage l
  let data := leAt l 12 2
  let used := im.handlers.filter fun x => x.kind ≠ 0xFF
  leAt l 0 4 = 0x314C534D && leAt l 5 1 = 1 && decide (1 ≤ im.codeWords ∧ im.codeWords ≤ 4096) && decide (data ≤ 8160) &&
  len = imageLength im.codeWords data && leAt l (len - 4) 4 = crc32 (l.take (len - 4)) &&
  decide (1 ≤ leAt l 6 1 ∧ leAt l 6 1 ≤ 16) && (decide (im.timing ≤ 7) || im.timing = 0xFF) &&
  [200, 400, 600, 800].contains im.floor && im.farBase % 4096 = 0 && im.farLen % 4096 = 0 && zeroAt l 14 2 && zeroAt l 24 40 &&
  im.handlers.all (handlerOk im.codeWords) && used.length = leAt l 6 1 && im.ports.all portReqOk &&
  (List.range 8).all (fun i => zeroAt l (195 + 4 * i) 1) && zeroAt l (224 + 4 * im.codeWords + data) ((data + 3) / 4 * 4 - data) &&
  (List.range 16).all (fun i => (List.range i).all fun j => !handlersClash (im.handlers.getD i ⟨0xFF, 0, 0, 0⟩) (im.handlers.getD j ⟨0xFF, 0, 0, 0⟩))

/-- An image takes its place in a Helm that holds no bound program. -/
def State.installImage (s : State) (h : Nat) (im : Image) (code : List Word) : State :=
  let m := s.helm h
  let imem := (code.mapIdx fun i w => (i, w)).filter fun e => e.2 ≠ 0
  (s.setHelm h { m with image := some im, imem := imem }).wr HM_BUDGET_FLOOR (floorLevel im.floor) h

/-- LOAD (R202-R204, R652). -/
def execLoad (n : Fin 16) (tag : Nat) (s : State) : Res :=
  .next (s.runOp n tag 0x08 (fun _ => true) fun o s =>
    let h := objIndex o.obj
    if (s.helm h).ps.bound then s.endOp n tag eBusy 0
    else if s.maskBit HL_FAIL_HELM h then s.endOp n tag eDeviceFault 0
    else if !imageOk o.data (o.par 0) then s.endOp n tag eBadRecord 5
    else
      let im := parseImage o.data
      ((s.installImage h im (imageCode o.data im.codeWords)).setPs h .loaded).endOp n tag doneOk (leAt o.data (o.par 0 - 4) 4))

/-! ### The stock library (Table PRG-7) -/

/-- Class 0x80: a slice of either kind (the model's own mark for rows that name no kind). -/
def stockPorts (id : Nat) : List PortReq :=
  match id with
  | 1 => [⟨1, 7, 0⟩, ⟨7, 1, 0⟩]
  | 2 => [⟨1, 7, 0⟩]
  | 3 => [⟨0, 1, 0⟩, ⟨0, 2, 0⟩, ⟨0, 3, 0⟩]
  | 4 => List.replicate 8 ⟨3, 0xFF, 0⟩
  | 5 => [⟨0, 4, 0⟩]
  | 6 => [⟨0, 4, 0⟩]
  | 7 => [⟨0, 8, 0⟩]
  | 8 => [⟨0, 2, 0⟩, ⟨0, 130, 1⟩]
  | 9 => [⟨0x80, 3, 0⟩, ⟨0x80, 3, 0⟩]
  | _ => [⟨0x80, 0xFF, 0⟩, ⟨4, 0, 1⟩]

/-- Floor, FRAME, MFRAME and SECOND figures; 0: no such handler. -/
def stockFigures (id : Nat) : Nat × Nat × Nat × Nat :=
  match id with
  | 1 => (200, 1200, 3000, 20000)
  | 2 => (200, 900, 2500, 15000)
  | 3 => (400, 1500, 2000, 30000)
  | 4 => (400, 400, 1500, 30000)
  | 5 => (600, 1000, 4000, 40000)
  | 6 => (800, 560, 4000, 40000)
  | 7 => (200, 800, 0, 20000)
  | 8 => (400, 700, 0, 10000)
  | 9 => (400, 500, 0, 10000)
  | _ => (200, 300, 1200, 5000)

/-- The ports whose FRAME and MFRAME events the figures count: all receive ports of the row but pattern units and Chutes;
APS_END's transmit port takes none. -/
def stockMask (id : Nat) : Nat :=
  match id with
  | 3 => 7
  | 4 => 255
  | 9 => 3
  | _ => 1

def stockListed (id : Nat) : Bool := decide (1 ≤ id ∧ id ≤ 10)

/-- The stock image. Its code, entries, other handlers and timing port are Config's. -/
def stockImage (id : Nat) : Image :=
  let (fl, f, mf, sec) := stockFigures id
  let h := fun (kind mask wcet : Nat) => if wcet = 0 then [] else
    [{ kind := kind, mask := mask, entry := Config.stockEntry (16 * id + kind) % 4096, wcet := wcet : Handler }]
  let extra := (Config.stockExtra id).filterMap fun e =>
    if 2 ≤ e.1 ∧ e.1 ≤ 4 then none else some { kind := e.1, mask := e.2.1, entry := e.2.2.1 % 4096, wcet := e.2.2.2 : Handler }
  { stock := id, codeWords := min 4096 (Config.stockCode id).length,
    handlers := (h 2 (stockMask id) f ++ h 3 (stockMask id) mf ++ h 4 0 sec ++ extra).take 16,
    ports := stockPorts id ++ List.replicate (8 - (stockPorts id).length) ⟨0xFF, 0, 0⟩, timing := Config.stockTiming id, floor := fl,
    farBase := 0, farLen := 0, data := (Config.stockData id).take 8160 }

/-! ### BIND -/

/-- A port word of BIND: source, selector, used, receive-only. -/
def bindSrc (w : Nat) : Nat := w % 65536
def bindSel (w : Nat) : Nat := bitsAt w 16 8
def bindUsed (w : Nat) : Bool := w.testBit 24
def bindRo (w : Nat) : Bool := w.testBit 25

/-- The source is an object of a class of Table MSM-3, with a selector in its range (R184). -/
def State.portListed (s : State) (w : Nat) : Bool :=
  let src := bindSrc w
  let sel := bindSel w
  match objClass src with
  | 0 => decide (objIndex src < 8 ∧ sel % 128 ≤ 8)
  | 1 => decide (objIndex src < 16 ∧ sel % 128 ≤ 8)
  | 3 => (match s.rangeOf? src with | some r => decide (sel < r.count) | none => true)
  | 4 => decide (objIndex src < 64 ∧ sel = 0)
  | 7 => decide (objIndex src < 64 ∧ sel ≤ 1)
  | _ => false

/-- The word meets the image's requirement: class, selector and direction. A transmit or both-way port may not be
receive-only, and on a slice the selector's side is the direction. -/
def meetsReq (id : Nat) (q : PortReq) (w : Nat) : Bool :=
  let cls := objClass (bindSrc w)
  let sel := bindSel w
  q.cls = 0xFF ||
  ((q.cls = cls || (q.cls = 0x80 && decide (cls ≤ 1))) && (q.sel = 0xFF || q.sel = sel) &&
   (match q.dir with
    | 0 => decide (1 < cls) || decide (sel < 128)
    | 1 => !bindRo w && (decide (1 < cls) || decide (128 ≤ sel))
    | _ => !bindRo w) &&
   (id ≠ 6 || [0, 4].contains (bindSrc w)))

/-- The session owns the source, or watches it for the line receive stream, receive-only (R58, R184). -/
def State.bindMay (s : State) (n w : Nat) : Bool :=
  s.objOwner (bindSrc w) = n && (objClass (bindSrc w) ≠ 3 || (s.rangeOf? (bindSrc w)).isSome) ||
  (match objSlice? (bindSrc w) with
   | some i => s.watches n i && bindRo w && bindSel w = 0
   | none => false)

/-- Check 3 of Table PRG-3. -/
def State.bindPorts (s : State) (n : Nat) (im : Image) (words : List Nat) : Nat × Nat :=
  let bad := (List.range 8).any fun i =>
    let w := words.getD i 0
    let q := im.ports.getD i ⟨0xFF, 0, 0⟩
    if bindUsed w then !s.portListed w || !meetsReq im.stock q w else q.cls ≠ 0xFF
  if bad then (eBadRecord, 4)
  else if words.any fun w => bindUsed w && !s.bindMay n w then (eNotOwner, 0) else (doneOk, 0)

/-- Budget rates of a slice layer (Table PRG-4). -/
def sliceRates (layer fmt : Nat) : Nat × Nat :=
  let open_ := (Config.openRate (512 + 2 * layer), Config.openRate (513 + 2 * layer))
  if 1 ≤ layer ∧ layer ≤ 3 then (8000, 500)
  else if layer = 8 then (8000, 0)
  else if 4 ≤ layer ∧ layer ≤ 6 then (if familyOf fmt = .otn then fmtRates fmt else open_)
  else if layer = 7 then (if familyOf fmt = .pdh then fmtRates fmt else open_)
  else if familyOf fmt = .none ∨ familyOf fmt = .unframed then open_ else fmtRates fmt

/-- Rates of the stream a port is bound to; 0 for Chutes and pattern units (R254). -/
def State.portRates (s : State) (q : Port) : Nat × Nat :=
  match s.portCarrier? q with
  | none => (0, 0)
  | some c => if c < 24 then sliceRates q.layer (s.rd LINE_STAT_FORMAT c) else
      let (m, f) := s.tribAt c
      mapRates m f

/-- The load L (R251) of an image on its ports. -/
def loadOf (im : Image) (ports : List (Nat × Port)) : Nat :=
  (im.handlers.map fun x =>
    match x.kind with
    | 2 => x.wcet * ((ports.filter fun e => x.mask.testBit e.1).map fun e => e.2.rateF).sum
    | 3 => x.wcet * ((ports.filter fun e => x.mask.testBit e.1).map fun e => e.2.rateM).sum
    | 4 => x.wcet
    | _ => 0).sum

/-- The load in units of 0.01 % of capacity, rounded up (R252). -/
def loadUnits (l mhz : Nat) : Nat := (l + mhz * 100 - 1) / (mhz * 100)

/-- The entries that pin `k` pages from `page` for Sn (R83): those not covered yet, until `limit` is passed. -/
def State.pinWalk (s : State) (n limit : Nat) : Nat → Nat → List MapEntry → List MapEntry
  | 0, _, acc => acc
  | k + 1, page, acc =>
    if limit < acc.length then acc
    else if acc.any (MapEntry.hits n (page * 4096)) then s.pinWalk n limit k (page + 1) acc
    else match s.walk n (page * 4096) false with
      | .mapped p blk dpa w => s.pinWalk n limit k (page + 1) (acc ++ [{ sess := n, page := p, blk := blk, dpa := dpa, w := w, pinned := true }])
      | .fault _ _ => s.pinWalk n limit k (page + 1) acc

/-- Every pinned entry of Sn once the image is bound. -/
def State.pinsFor (s : State) (n : Nat) (im : Image) : List MapEntry :=
  let have_ := s.own.mapCache.filter fun e => e.sess = n && e.pinned
  s.pinWalk n (s.rd SES_CTL_MAPC_SHARE n) (im.farLen / 4096) (im.farBase / 4096) have_

/-- The pins take their place in the share: its least recently used unpinned entries make room (R81, R83). -/
def State.installPins (s : State) (n : Nat) (pins : List MapEntry) : State :=
  let share := s.rd SES_CTL_MAPC_SHARE n
  let mine := s.own.mapCache.filter fun e => e.sess = n && !e.pinned && !pins.any fun p => p.page = e.page && p.blk = e.blk
  let keep := mine.drop (mine.length - (share - pins.length))
  { s with own := { s.own with mapCache := (s.own.mapCache.filter fun e => e.sess ≠ n) ++ keep ++ pins } }

/-- The ports that BIND connects. -/
def State.mkPorts (s : State) (words : List Nat) : List (Nat × Port) :=
  (List.range 8).filterMap fun i =>
    let w := words.getD i 0
    if bindUsed w then
      let q : Port := { src := bindSrc w, sel := bindSel w, ro := bindRo w, ready := false, bank := [], rateF := 0, rateM := 0,
                        lastF := none, lastM := none, thin := false, cut := false }
      let (f, m) := s.portRates q
      some (i, { q with rateF := f, rateM := m })
    else none

/-- What BIND does once its checks pass (R172, R247): START is the first event in the queue, and PORT_READY follows at
once on a port in frame (R27). -/
def State.bindStart (s : State) (n h tag : Nat) (im : Image) (ports : List (Nat × Port)) (load : Nat) : State :=
  let m := s.helm h
  let ram := (im.data.mapIdx fun i b => (i, b)).filter fun e => e.2 ≠ 0
  let m := { m with ram := ram, badRam := [], g := [], z := false, n := false, c := false, v := false, ev := 0, fc := 0, tm := 0,
                    fcOn := false, queue := [], ovf := false, run := none, loops := [], timers := [], posted := [], stall := none,
                    stagedOh := [], stagedDef := [], progDef := [], stopReq := false, stopWait := false,
                    bindTag := some tag, unbindTags := [],
                    ports := ports.map fun (e : Nat × Port) => (e.1, some e.2) }
  let s := s.setHelm h { m with queue := [m.plainEvent 0] }
  let s := (List.range 16).foldl (fun s i => s.wr HM_PEAK_PEAK 0 h i) (s.wr HM_BUDGET_LOAD load h)
  let s := (((s.setPs h .starting).refloor).installPins n (s.pinsFor n im))
  s.portsReady fun q => s.portInFrame q

/-- BIND: the checks of Table PRG-3 in order (R246), R652 with the first. -/
def execBind (n : Fin 16) (tag : Nat) (s : State) : Res :=
  .next (s.runOp n tag 0x09 (fun _ => true) fun o s =>
    let h := objIndex o.obj
    let m := s.helm h
    let own := o.par 0 = 0xFFFFFFFF
    let words := (List.range 8).map fun i => o.par (i + 1)
    if m.bindTag = some tag ∧ m.ps.bound then s
    else if m.ps.bound then s.endOp n tag eBusy 0
    else if s.maskBit HL_FAIL_HELM h then s.endOp n tag eDeviceFault 0
    else if !(stockListed (o.par 0) || (own && m.ps = .loaded)) then s.endOp n tag eBadRecord 4
    else match (if own then m.image else some (stockImage (o.par 0))) with
      | none => s.endOp n tag eBadRecord 4
      | some im =>
        let ports := s.mkPorts words
        let l := loadOf im ports
        let (st, cause) := s.bindPorts n im words
        if st ≠ doneOk then s.endOp n tag st cause
        else if s.rd SES_CTL_MAPC_SHARE n < (s.pinsFor n im).length + 1 then s.endOp n tag eQuota 0
        else if 9 * im.floor * 1000000 < 10 * l then s.endOp n tag eBudget (loadUnits l im.floor)
        else if levelMhz (s.rd GL_FLOOR_LEVEL) < im.floor ∧ s.flag GL_FLOOR_THROTTLE then s.endOp n tag eBusy 0
        else
          let s := if own then s else s.installImage h im ((Config.stockCode (o.par 0)).take 4096)
          s.bindStart n h tag im ports (loadUnits l im.floor))

/-- UNBIND (R248, R249). -/
def execUnbind (n : Fin 16) (tag : Nat) (s : State) : Res :=
  .next (s.runOp n tag 0x0A (fun _ => true) fun o s =>
    let h := objIndex o.obj
    let m := s.helm h
    if m.unbindTags.contains tag then s
    else if !m.ps.bound then s.endOp n tag doneOk 0
    else (s.setHelm h { m with unbindTags := m.unbindTags ++ [tag] }).requestStop h)

/-- SEND (R192, R250): the 32-byte message as a MESSAGE event. -/
def execSend (n : Fin 16) (tag : Nat) (s : State) : Res :=
  .next (s.runOp n tag 0x0B (fun _ => true) fun o s =>
    let h := objIndex o.obj
    let m := s.helm h
    if m.ps ≠ .running ∨ 32 ≤ m.queue.length then s.endOp n tag eBusy 0
    else (s.enqueue h 7 0 0 false (((List.range 8).map fun i => leBytes 4 (o.par i)).flatten)).endOp n tag doneOk 0)

end Sys2Proof.Machine
end

