-- ==== Sys2Proof/Machine/Protect.lean ====
section
/-! DEFINITION. The commands of protection switching (chapter 13): PROTECT_CFG, PROTECT_CMD, the timers of a group, and
the disruption meter. -/

namespace Sys2Proof.Machine

open Reg

/-! ### PROTECT_CFG (R424-R426) -/

/-- Every field of the block lies in its range and the objects fit Table PSW-2 (R425 step 1). -/
def State.psBlockOk (s : State) (x : Group) : Bool :=
  let slice := fun o => decide (o < 8)
  let range := fun o ofs => objClass o = 3 && (match s.rangeOf? o with | some r => decide (ofs < r.count) | none => true)
  let member := fun o ofs => if x.linear then slice o && ofs = 0 else range o ofs
  decide (x.type ≤ 7 ∧ leAt x.cfg 2 1 < 4 ∧ leAt x.cfg 3 1 ≤ 100 ∧ 5 ≤ leAt x.cfg 4 1 ∧ leAt x.cfg 4 1 ≤ 12 ∧ x.meterSrc < 8 ∧
    1 ≤ x.guard ∧ x.guard ≤ 10000) &&
  (sliceBytes x.cfg 18 14).all (· == 0) &&
  (if x.type = 7 then x.mode = 0 else if x.linear then decide (x.mode ≤ 2) else x.mode = 0 || x.mode = 2) &&
  (x.pu = 0xFFFF || (objClass x.pu = 7 && decide (objIndex x.pu < 64))) &&
  (if x.type = 7 then
     x.prot = 0xFFFF && x.protOfs = 0 && (((objSlice? x.work).isSome && x.workOfs = 0) || range x.work x.workOfs)
   else member x.work x.workOfs && member x.prot x.protOfs && !(x.work = x.prot && x.workOfs = x.protOfs))

/-- WORK and PROT of a block, as objects with offsets. -/
def Group.members (x : Group) : List (Nat × Nat) :=
  (x.work, x.workOfs) :: (if x.type = 7 then [] else [(x.prot, x.protOfs)])

/-- A member is taken by another group, or its slice belongs to a bonded group (R425 step 3). -/
def State.psTaken (s : State) (g : Nat) (x : Group) : Bool :=
  x.members.any fun m =>
    (s.groups.any fun e => e.1 ≠ g && e.2.cfg ≠ [] && e.2.members.contains m) ||
    (match objSlice? m.1 with
     | some i => s.rd LINE_STAT_LSTATE i = 3 || fmtBonded (s.rd LINE_STAT_FORMAT i)
     | none => false)

/-- The members' formats, or mappings and destinations, fit the type (R425 step 4). -/
def State.psFits (s : State) (x : Group) : Bool :=
  if x.type = 7 then true
  else if x.linear then
    match objSlice? x.work, objSlice? x.prot with
    | some i, some j =>
      s.rd LINE_STAT_LSTATE i = 2 && s.rd LINE_STAT_LSTATE j = 2 && s.rd LINE_STAT_FORMAT i = s.rd LINE_STAT_FORMAT j &&
        s.family i = .sdh
    | _, _ => false
  else
    match s.memberCarrier? x.work x.workOfs, s.memberCarrier? x.prot x.protOfs with
    | some c, some d =>
      let w := (s.ent (c - 32)).word (s.activeLetter (c - 32))
      let p := (s.ent (d - 32)).word (s.activeLetter (d - 32))
      let m := wordMap w
      (if x.type ≤ 4 then decide (1 ≤ m ∧ m ≤ 0xF) else decide (0x18 ≤ m ∧ m ≤ 0x1C)) && wordMap p = m &&
        wordDst p = 0xFFFF && wordDst w ≠ 0xFFFF
    | _, _ => false

/-- PROTECT_CFG with P0 = 32: the checks of R425 in order; the submitting session becomes the owner (R423). A P0 that is
neither 32 nor 0 is a bad record (R424). -/
def execProtectCfg (n : Fin 16) (tag : Nat) (s : State) : Res :=
  .next (s.runOp n tag 0x1C (fun o => o.par 0 ≠ 0) fun o s =>
    let g := objIndex o.obj
    let x : Group := { Group.init with cfg := o.data.take 32, old := (s.grp g).old, tick := s.tm.device / 1000 }
    if o.par 0 ≠ 32 then s.endOp n tag eBadRecord 4
    else if (s.grp g).cfg ≠ [] then s.endOp n tag eBusy 0
    else if !s.psBlockOk x then s.endOp n tag eBadRecord 4
    else if !((x.members.map (·.1) ++ (if x.pu = 0xFFFF then [] else [x.pu])).all fun q => s.objOwner q = n) then
      s.endOp n tag eNotOwner 0
    else if s.psTaken g x then s.endOp n tag eBusy 0
    else if !s.psFits x then s.endOp n tag eBadRecord 4
    else
      let s := { s with own := { s.own with objs := smSet 0 s.own.objs (groupObj g) n } }
      let s := ((s.setGrp g x).wr PS_STAT_CONFIGURED 1 g).setFlag PS_STAT_ARMED ((leAt x.cfg 2 1).testBit 1) g
      s.protScan.endOp n tag doneOk 0)

/-- PROTECT_CFG with P0 = 0: the group is deleted (R426); an unconfigured one stays as it is (R424). -/
def execProtectCfgDelete (n : Fin 16) (tag : Nat) (s : State) : Res :=
  .next (s.runOp n tag 0x1C (fun o => o.par 0 = 0) fun o s => (s.deleteGroup (objIndex o.obj)).endOp n tag doneOk 0)

/-! ### PROTECT_CMD (R445): the command waits for its boundary -/

/-- A command of code `code` is taken; a code outside Table PSW-7 is a bad record. -/
def State.psTake (s : State) (n tag code : Nat) : State :=
  s.runOp n tag 0x1D (fun o => o.stage = 0 && (o.par 0 = code || decide (8 ≤ o.par 0))) fun o s =>
    if 8 ≤ o.par 0 then s.endOp n tag eBadRecord 4 else s.modOp n tag fun o => { o with stage := 1 }

/-- CLEAR. -/
def execProtectClear (n : Fin 16) (tag : Nat) (s : State) : Res := .next (s.psTake n tag 0)
/-- LOCKOUT. -/
def execLockout (n : Fin 16) (tag : Nat) (s : State) : Res := .next (s.psTake n tag 1)
/-- FORCE. -/
def execForce (n : Fin 16) (tag : Nat) (s : State) : Res := .next (s.psTake n tag 2)
/-- MANUAL_P. -/
def execManualP (n : Fin 16) (tag : Nat) (s : State) : Res := .next (s.psTake n tag 3)
/-- MANUAL_W. -/
def execManualW (n : Fin 16) (tag : Nat) (s : State) : Res := .next (s.psTake n tag 4)
/-- EXERCISE. -/
def execExercise (n : Fin 16) (tag : Nat) (s : State) : Res := .next (s.psTake n tag 5)
/-- METER_ARM. -/
def execMeterArm (n : Fin 16) (tag : Nat) (s : State) : Res := .next (s.psTake n tag 6)
/-- METER_DISARM. -/
def execMeterDisarm (n : Fin 16) (tag : Nat) (s : State) : Res := .next (s.psTake n tag 7)

/-! ### Timers -/

/-- HOLDOFF_EXPIRY: criterion `k` of SF_W, SD_W, SF_P, SD_P becomes a request (R429); a new one of the working side ends a
wait (R430). -/
def execHoldoffExpiry (g : Fin 64) (k : Fin 4) (s : State) : Res :=
  let x := s.grp g
  let up := match x.since.getD k none with | some t => decide (t + x.holdoff ≤ s.clock) | none => false
  if x.evaluates && up && !(s.psCrit g).testBit k then
    let f := [PS_STAT_SF_W, PS_STAT_SD_W, PS_STAT_SF_P, PS_STAT_SD_P].getD k PS_STAT_SF_W
    let s := s.wr f 1 g
    let s := if k.val < 2 then (s.setGrp g { x with wtr := none, dnr := false }).wr PS_STAT_WTR_RUN 0 g else s
    .next (s.psLog g s.tm.device 2 (s.psCrit g) 0)
  else .next s

/-- WTR_EXPIRY (R430). -/
def execWtrExpiry (g : Fin 64) (s : State) : Res :=
  if s.isDue (s.grp g).wtr then .next ((s.setGrp g { s.grp g with wtr := none }).wr PS_STAT_WTR_RUN 0 g) else .next s

/-- EXERCISE_END: its 10 s have passed (R445). -/
def execExerciseEnd (g : Fin 64) (s : State) : Res :=
  let x := s.grp g
  if s.isDue x.exUntil then .next (s.setGrp g { x with exUntil := none, cmd := if x.cmd = 5 then 0 else x.cmd }) else .next s

/-- PROTOCOL_FAILURE_CHANGE: failure `w` of Table PSW-5 is set once its condition has lasted (PSB_FAIL at once, the others
50 ms), and cleared once it has been absent for 50 ms (R436). -/
def execProtocolFailureChange (g : Fin 64) (w : Fin 4) (s : State) : Res :=
  let s := s.noteFails g
  let (cond, since) := (s.grp g).fails.getD w (false, 0)
  let ripe := (w.val = 0 && cond) || decide (since + 50000000 ≤ s.clock)
  if cond != (s.psFails g).testBit w && ripe then
    let f := [PS_STAT_PSB_FAIL, PS_STAT_CH_MM, PS_STAT_ARCH_MM, PS_STAT_MODE_MM].getD w PS_STAT_PSB_FAIL
    let s := s.setFlag f cond g
    .next (s.psLog g s.tm.device 7 (s.psFails g) 0)
  else .next s

/-! ### The meter (R441-R443) -/

/-- METER_TICK: the 1 us tick that ends now is judged. `past` are the sources that were disturbed at an earlier instant of
it, an errored bit at the checker of source 0 among them. -/
def execMeterTick (g : Fin 64) (past : Fin 8) (s : State) : Res :=
  let x := s.grp g
  let t := s.tm.device / 1000
  if s.tm.stopped ∨ !s.flag PS_STAT_ARMED g ∨ s.tm.device % 1000 ≠ 0 ∨ t ≤ x.tick then .next s
  else
    let x := { x with tick := t }
    if Nat.land (Nat.lor (s.meterNow g) past) x.meterSrc = 0 then .next (s.setGrp g x)
    else match x.ev with
      | none => .next ((s.setGrp g { x with ev := some (t - 1, t - 1, 1) }).wr PS_STAT_OPEN 1 g)
      | some (a, _, n) => .next (s.setGrp g { x with ev := some (a, t - 1, min 0xFFFFFFFF (n + 1)) })

/-- METER_GUARD_EXPIRY: GUARD ms of undisturbed ticks end the event (R442). -/
def execMeterGuardExpiry (g : Fin 64) (s : State) : Res :=
  let x := s.grp g
  match x.ev with
  | some (_, z, _) => if z + 1 + 1000 * x.guard ≤ s.tm.device / 1000 then .next (s.meterEnd g 5) else .next s
  | none => .next s

end Sys2Proof.Machine
end

