-- ==== Sys2Proof/Machine/RegCmds.lean ====
section
/-! DEFINITION. The commands that are single register accesses. The rows that name a register's action are a write that has
arrived at the right register from one who may make it; RC_READ, WIDE_READ_LOW and REGISTER_WRITE carry a function (0 is
PF0) and an address of its BAR 0. -/

namespace Sys2Proof.Machine

open Reg

/-- A register access from the host arrives: it is performed while Unlon works (R628, R683). -/
def State.access (s : State) (f : State → State) : Res := .next (if s.working then f s.tlpIn else s)

/-! ### Slices -/

/-- ADAPT_SNAP (R282). -/
def execAdaptSnap (i : Fin 24) (s : State) : Res := s.access fun s => s.report i

/-- ADAPT_FREEZE: FREEZE holds background adaptation, which runs after the adaptation stage only (R280). -/
def execAdaptFreeze (i : Fin 24) (on : Bool) (s : State) : Res := s.access fun s => s.setFlag ADAPT_CTL_FREEZE on i

/-- REFRAME: on a bonded group, of the group (R361). -/
def execReframe (i : Fin 24) (s : State) : Res := s.access fun s => s.sliceWrite i 0x108 1

/-- MF_REFRAME (R361). -/
def execMfReframe (i : Fin 24) (s : State) : Res := s.access fun s => s.sliceWrite i 0x108 2

/-- SLICE_RESET (R626). -/
def execSliceReset (i : Fin 24) (s : State) : Res := s.access fun s => s.sliceReset i

/-- LOOP_PENDING_CLEAR on LP slice `i` (R301). -/
def execLoopPendingClear (i : Fin 16) (s : State) : Res := s.access fun s => s.sliceWrite (8 + i) 0x20 1

/-! ### Insertion and forcing (R389, R390) -/

/-- OV_INS takes a word of these fields. -/
def State.ovIns (s : State) (i layer item mode man exp count : Nat) : State :=
  s.sliceWrite i 0x290 (layer + item * 2 ^ 4 + mode * 2 ^ 12 + man * 2 ^ 14 + exp * 2 ^ 18 + count * 2 ^ 22)

/-- OV_INS_SINGLE. -/
def execOvInsSingle (i : Fin 24) (layer : Fin 16) (item : Byte) (s : State) : Res :=
  s.access fun s => s.ovIns i layer item.toNat 1 0 0 0

/-- OV_INS_RATE. -/
def execOvInsRate (i : Fin 24) (layer : Fin 16) (item : Byte) (man exp : Fin 16) (s : State) : Res :=
  s.access fun s => s.ovIns i layer item.toNat 2 man exp 0

/-- OV_INS_BURST. -/
def execOvInsBurst (i : Fin 24) (layer : Fin 16) (item : Byte) (count : Fin 1024) (s : State) : Res :=
  s.access fun s => s.ovIns i layer item.toNat 3 0 0 count

/-- OV_FORCE with LAYER and one of its bits written, the other bits as they stand. -/
def State.force (s : State) (i : Nat) (f : Fld) (layer : Nat) (on : Bool) : State :=
  (s.wr OV_FORCE_LAYER layer i).setFlag f on i

/-- FORCE_AIS. -/
def execForceAis (i : Fin 24) (layer : Fin 16) (on : Bool) (s : State) : Res :=
  s.access fun s => s.force i OV_FORCE_AIS layer on
/-- FORCE_RDI. -/
def execForceRdi (i : Fin 24) (layer : Fin 16) (on : Bool) (s : State) : Res :=
  s.access fun s => s.force i OV_FORCE_RDI layer on
/-- FORCE_UNEQ. -/
def execForceUneq (i : Fin 24) (layer : Fin 16) (on : Bool) (s : State) : Res :=
  s.access fun s => s.force i OV_FORCE_UNEQ layer on
/-- FORCE_LOF. -/
def execForceLof (i : Fin 24) (layer : Fin 16) (on : Bool) (s : State) : Res :=
  s.access fun s => s.force i OV_FORCE_LOF layer on
/-- FORCE_LOS. -/
def execForceLos (i : Fin 24) (layer : Fin 16) (on : Bool) (s : State) : Res :=
  s.access fun s => s.force i OV_FORCE_LOS layer on
/-- FORCE_LCK. -/
def execForceLck (i : Fin 24) (layer : Fin 16) (on : Bool) (s : State) : Res :=
  s.access fun s => s.force i OV_FORCE_LCK layer on
/-- FORCE_LF. -/
def execForceLf (i : Fin 24) (layer : Fin 16) (on : Bool) (s : State) : Res :=
  s.access fun s => s.force i OV_FORCE_LF layer on
/-- FORCE_RF. -/
def execForceRf (i : Fin 24) (layer : Fin 16) (on : Bool) (s : State) : Res :=
  s.access fun s => s.force i OV_FORCE_RF layer on

/-! ### Helms, Chutes, PM points -/

/-- IMEM_WRITE of word `a` of Helm `h` (R210). -/
def execImemWrite (h : Fin 32) (a : Fin 4096) (v : Word) (s : State) : Res := s.access fun s => s.imemWrite h a v.toNat

/-- CU_MARK (R485). -/
def execCuMark (c : Fin 64) (s : State) : Res := s.access fun s => s.cuAct c Chute.mark

/-- CU_REWIND (R485). -/
def execCuRewind (c : Fin 64) (s : State) : Res := s.access fun s => s.cuAct c Chute.rewind

/-- CU_RELEASE (R485). -/
def execCuRelease (c : Fin 64) (s : State) : Res := s.access fun s => s.cuAct c Chute.release

/-- CU_OWN written by session `n` (R478). -/
def execCuOwn (n : Fin 16) (c : Fin 64) (on : Bool) (s : State) : Res := s.access fun s => s.cuOwn n c on

/-- CU_POP_TAKE: function `n` reads CU_POP at +0 (R505). -/
def execCuPopTake (n : Fin 16) (c : Fin 64) (s : State) : Res :=
  s.access fun s => let (v, s) := s.popTake n c; s.emit (.readData n v)

/-- CU_HACK_WRITE (R498). -/
def execCuHackWrite (c : Fin 64) (v : Word) (s : State) : Res := s.access fun s => s.wr CU_HACK v.toNat c

/-- PM_ATTACH written by session `n` (R474). -/
def execPmAttach (n : Fin 16) (p : Fin 2048) (v : Word) (s : State) : Res := s.access fun s => s.pmAttachWrite n p v.toNat

/-- PM_ALIGN_WRITE by PF0 (R464). -/
def execPmAlignWrite (v : BitVec 64) (s : State) : Res := s.access fun s => (s.wr PM_ALIGN v.toNat).realign

/-! ### Any register -/

/-- A read by function `n` of the word that holds address `a`; a narrower read returns its bytes of that word (R12). -/
def State.readCmd (s : State) (n a : Nat) : State :=
  let s := s.tlpIn
  let (v, s) := s.busRead n (a / 4 * 4)
  s.emit (.readData n v)

/-- RC_READ (R16). -/
def execRcRead (n : Fin 16) (a : BitVec 26) (s : State) : Res := .next (s.readCmd n a.toNat)

/-- WIDE_READ_LOW: the low word of a 64-bit register is read, which latches its high word (R13). -/
def execWideReadLow (n : Fin 16) (a : BitVec 26) (s : State) : Res := .next (s.readCmd n (a.toNat / 8 * 8))

/-- REGISTER_WRITE; one narrower than 32 bits is ignored (R12). -/
def execRegisterWrite (n : Fin 16) (a : BitVec 26) (v : Word) (narrow : Bool) (s : State) : Res :=
  .next (if narrow then s.tlpIn else s.tlpIn.busWrite n (a.toNat / 4 * 4) v.toNat)

end Sys2Proof.Machine
end

