-- ==== Sys2Proof/Machine/Dispatch.lean ====
section
/-! DEFINITION. One arm per command of the table. -/

namespace Sys2Proof.Machine

/-- The effect of a command on everything but the queue. -/
def exec (i : Instr) (s : State) : Host.Outcome State Fault Refusal :=
  match i with
  | .nop n tag => Sys2Proof.Machine.execNop n tag s
  | .sessionOpen n tag place => Sys2Proof.Machine.execSessionOpen n tag place s
  | .sessionClose n tag => Sys2Proof.Machine.execSessionClose n tag s
  | .grant n tag place => Sys2Proof.Machine.execGrant n tag place s
  | .watchGrant n tag => Sys2Proof.Machine.execWatchGrant n tag s
  | .load n tag => Sys2Proof.Machine.execLoad n tag s
  | .bind n tag => Sys2Proof.Machine.execBind n tag s
  | .unbind n tag => Sys2Proof.Machine.execUnbind n tag s
  | .send n tag => Sys2Proof.Machine.execSend n tag s
  | .acquire n tag => Sys2Proof.Machine.execAcquire n tag s
  | .releaseLine n tag => Sys2Proof.Machine.execReleaseLine n tag s
  | .supply n tag => Sys2Proof.Machine.execSupply n tag s
  | .soundBay n tag => Sys2Proof.Machine.execSoundBay n tag s
  | .tdr n tag refl => Sys2Proof.Machine.execTdr n tag refl s
  | .cableLoss n tag => Sys2Proof.Machine.execCableLoss n tag s
  | .optics n tag diag => Sys2Proof.Machine.execOptics n tag diag s
  | .eye n tag => Sys2Proof.Machine.execEye n tag s
  | .jitter n tag => Sys2Proof.Machine.execJitter n tag s
  | .jitterWindowEnd n tag pp rms => Sys2Proof.Machine.execJitterWindowEnd n tag pp rms s
  | .wander n tag => Sys2Proof.Machine.execWander n tag s
  | .wanderSample n tag tie => Sys2Proof.Machine.execWanderSample n tag tie s
  | .traces n tag => Sys2Proof.Machine.execTraces n tag s
  | .ssm n tag => Sys2Proof.Machine.execSsm n tag s
  | .loopProbe n tag => Sys2Proof.Machine.execLoopProbe n tag s
  | .autoneg n tag => Sys2Proof.Machine.execAutoneg n tag s
  | .chartWrite n tag fail => Sys2Proof.Machine.execChartWrite n tag fail s
  | .chartWriteCfg n tag => Sys2Proof.Machine.execChartWriteCfg n tag s
  | .chartSwap n tag => Sys2Proof.Machine.execChartSwap n tag s
  | .protectCfg n tag => Sys2Proof.Machine.execProtectCfg n tag s
  | .protectCfgDelete n tag => Sys2Proof.Machine.execProtectCfgDelete n tag s
  | .protectClear n tag => Sys2Proof.Machine.execProtectClear n tag s
  | .lockout n tag => Sys2Proof.Machine.execLockout n tag s
  | .force n tag => Sys2Proof.Machine.execForce n tag s
  | .manualP n tag => Sys2Proof.Machine.execManualP n tag s
  | .manualW n tag => Sys2Proof.Machine.execManualW n tag s
  | .exercise n tag => Sys2Proof.Machine.execExercise n tag s
  | .meterArm n tag => Sys2Proof.Machine.execMeterArm n tag s
  | .meterDisarm n tag => Sys2Proof.Machine.execMeterDisarm n tag s
  | .soak n tag => Sys2Proof.Machine.execSoak n tag s
  | .capture n tag => Sys2Proof.Machine.execCapture n tag s
  | .pattern n tag => Sys2Proof.Machine.execPattern n tag s
  | .pmRead n tag => Sys2Proof.Machine.execPmRead n tag s
  | .pmReset n tag => Sys2Proof.Machine.execPmReset n tag s
  | .attach n tag => Sys2Proof.Machine.execAttach n tag s
  | .detach n tag => Sys2Proof.Machine.execDetach n tag s
  | .suspend n tag bits errs => Sys2Proof.Machine.execSuspend n tag bits errs s
  | .resume n tag => Sys2Proof.Machine.execResume n tag s
  | .cancel n tag bits errs => Sys2Proof.Machine.execCancel n tag bits errs s
  | .selftest n tag fail dead found => Sys2Proof.Machine.execSelftest n tag fail dead found s
  | .selftestQuietStart n tag => Sys2Proof.Machine.execSelftestQuietStart n tag s
  | .selftestDeferExpiry n tag fail dead found => Sys2Proof.Machine.execSelftestDeferExpiry n tag fail dead found s
  | .calibrate n tag failed live => Sys2Proof.Machine.execCalibrate n tag failed live s
  | .bayOn b tag => Sys2Proof.Machine.execBayOn b tag s
  | .bayOff b tag => Sys2Proof.Machine.execBayOff b tag s
  | .bayClear b tag => Sys2Proof.Machine.execBayClear b tag s
  | .bayRestart b tag => Sys2Proof.Machine.execBayRestart b tag s
  | .powerFloor n tag => Sys2Proof.Machine.execPowerFloor n tag s
  | .calendarAddWake n tag => Sys2Proof.Machine.execCalendarAddWake n tag s
  | .calendarAddRaise n tag => Sys2Proof.Machine.execCalendarAddRaise n tag s
  | .calendarCancel n tag => Sys2Proof.Machine.execCalendarCancel n tag s
  | .calendarWakeFire e => Sys2Proof.Machine.execCalendarWakeFire e s
  | .calendarRaiseFire e => Sys2Proof.Machine.execCalendarRaiseFire e s
  | .holdMsExpiry => Sys2Proof.Machine.execHoldMsExpiry s
  | .queryGlobal n tag => Sys2Proof.Machine.execQueryGlobal n tag s
  | .querySession n tag => Sys2Proof.Machine.execQuerySession n tag s
  | .queryOperation n tag => Sys2Proof.Machine.execQueryOperation n tag s
  | .queryObject n tag => Sys2Proof.Machine.execQueryObject n tag s
  | .queryLink n tag => Sys2Proof.Machine.execQueryLink n tag s
  | .queryPower n tag => Sys2Proof.Machine.execQueryPower n tag s
  | .submissionFetchDone tag data => Sys2Proof.Machine.execSubmissionFetchDone tag data s
  | .admitRecord => Sys2Proof.Machine.execAdmitRecord s
  | .operationStart n tag => Sys2Proof.Machine.execOperationStart n tag s
  | .operationEnd n tag => Sys2Proof.Machine.execOperationEnd n tag s
  | .durationExpiry n tag bits errs => Sys2Proof.Machine.execDurationExpiry n tag bits errs s
  | .sqDoorbell n q tail => Sys2Proof.Machine.execSqDoorbell n q tail s
  | .cqDoorbell n head => Sys2Proof.Machine.execCqDoorbell n head s
  | .eqHeadDoorbell n head => Sys2Proof.Machine.execEqHeadDoorbell n head s
  | .sesKeyCommit n => Sys2Proof.Machine.execSesKeyCommit n s
  | .sessionReset n => Sys2Proof.Machine.execSessionReset n s
  | .scrubDone k => Sys2Proof.Machine.execScrubDone k s
  | .mapcInvalidate n all page => Sys2Proof.Machine.execMapcInvalidate n all page s
  | .mapcInvDone => Sys2Proof.Machine.execMapcInvDone s
  | .adaptSnap sl => Sys2Proof.Machine.execAdaptSnap sl s
  | .adaptFreeze sl on => Sys2Proof.Machine.execAdaptFreeze sl on s
  | .reportRefresh sl => Sys2Proof.Machine.execReportRefresh sl s
  | .backgroundAdaptStep sl d meas => Sys2Proof.Machine.execBackgroundAdaptStep sl d meas s
  | .reframe sl => Sys2Proof.Machine.execReframe sl s
  | .mfReframe sl => Sys2Proof.Machine.execMfReframe sl s
  | .sliceReset sl => Sys2Proof.Machine.execSliceReset sl s
  | .warmReset key => Sys2Proof.Machine.execWarmReset key s
  | .coldReset key => Sys2Proof.Machine.execColdReset key s
  | .logbookMarkRead => Sys2Proof.Machine.execLogbookMarkRead s
  | .logbookForce key => Sys2Proof.Machine.execLogbookForce key s
  | .counterSnap => Sys2Proof.Machine.execCounterSnap s
  | .cuMark c => Sys2Proof.Machine.execCuMark c s
  | .cuRewind c => Sys2Proof.Machine.execCuRewind c s
  | .cuRelease c => Sys2Proof.Machine.execCuRelease c s
  | .cuOwn n c on => Sys2Proof.Machine.execCuOwn n c on s
  | .cuPopTake n c => Sys2Proof.Machine.execCuPopTake n c s
  | .cuHackWrite c v => Sys2Proof.Machine.execCuHackWrite c v s
  | .bcSet v => Sys2Proof.Machine.execBcSet v s
  | .swRaise n k => Sys2Proof.Machine.execSwRaise n k s
  | .claim n k => Sys2Proof.Machine.execClaim n k s
  | .eoi n k => Sys2Proof.Machine.execEoi n k s
  | .bcVclaim v => Sys2Proof.Machine.execBcVclaim v s
  | .pmAttach n p v => Sys2Proof.Machine.execPmAttach n p v s
  | .pmAlignWrite v => Sys2Proof.Machine.execPmAlignWrite v s
  | .loopPendingClear sl => Sys2Proof.Machine.execLoopPendingClear sl s
  | .fdPathWrite v => Sys2Proof.Machine.execFdPathWrite v s
  | .byMapWrite b v => Sys2Proof.Machine.execByMapWrite b v s
  | .pdLimitWrite v => Sys2Proof.Machine.execPdLimitWrite v s
  | .ltrUpdate v => Sys2Proof.Machine.execLtrUpdate v s
  | .imemWrite h a v => Sys2Proof.Machine.execImemWrite h a v s
  | .ovInsSingle sl layer item => Sys2Proof.Machine.execOvInsSingle sl layer item s
  | .ovInsRate sl layer item man exp => Sys2Proof.Machine.execOvInsRate sl layer item man exp s
  | .ovInsBurst sl layer item count => Sys2Proof.Machine.execOvInsBurst sl layer item count s
  | .forceAis sl layer on => Sys2Proof.Machine.execForceAis sl layer on s
  | .forceRdi sl layer on => Sys2Proof.Machine.execForceRdi sl layer on s
  | .forceUneq sl layer on => Sys2Proof.Machine.execForceUneq sl layer on s
  | .forceLof sl layer on => Sys2Proof.Machine.execForceLof sl layer on s
  | .forceLos sl layer on => Sys2Proof.Machine.execForceLos sl layer on s
  | .forceLck sl layer on => Sys2Proof.Machine.execForceLck sl layer on s
  | .forceLf sl layer on => Sys2Proof.Machine.execForceLf sl layer on s
  | .forceRf sl layer on => Sys2Proof.Machine.execForceRf sl layer on s
  | .rcRead n a => Sys2Proof.Machine.execRcRead n a s
  | .wideReadLow n a => Sys2Proof.Machine.execWideReadLow n a s
  | .registerWrite n a v narrow => Sys2Proof.Machine.execRegisterWrite n a v narrow s
  | .kpNop crc => Sys2Proof.Machine.execKpNop crc s
  | .kpReadId crc => Sys2Proof.Machine.execKpReadId crc s
  | .kpRead a crc => Sys2Proof.Machine.execKpRead a crc s
  | .kpWrite a v crc => Sys2Proof.Machine.execKpWrite a v crc s
  | .kpWake crc => Sys2Proof.Machine.execKpWake crc s
  | .kpColdReset confirm crc => Sys2Proof.Machine.execKpColdReset confirm crc s
  | .kpFrameAbort => Sys2Proof.Machine.execKpFrameAbort s
  | .bmeClear n => Sys2Proof.Machine.execBmeClear n s
  | .bmeSet n cto => Sys2Proof.Machine.execBmeSet n cto s
  | .vfFlr n => Sys2Proof.Machine.execVfFlr n s
  | .flrDrainEnd n => Sys2Proof.Machine.execFlrDrainEnd n s
  | .pf0Flr => Sys2Proof.Machine.execPf0Flr s
  | .hotReset => Sys2Proof.Machine.execHotReset s
  | .vfEnableClear => Sys2Proof.Machine.execVfEnableClear s
  | .perstDeassert => Sys2Proof.Machine.execPerstDeassert s
  | .perstAssert => Sys2Proof.Machine.execPerstAssert s
  | .linkDown => Sys2Proof.Machine.execLinkDown s
  | .l2L3Ready => Sys2Proof.Machine.execL2L3Ready s
  | .l1Entry deep => Sys2Proof.Machine.execL1Entry deep s
  | .l12Exit => Sys2Proof.Machine.execL12Exit s
  | .completionTimeout tag => Sys2Proof.Machine.execCompletionTimeout tag s
  | .badCompletion tag kind => Sys2Proof.Machine.execBadCompletion tag kind s
  | .unexpectedCompletion tag => Sys2Proof.Machine.execUnexpectedCompletion tag s
  | .tagQuarantineEnd tag => Sys2Proof.Machine.execTagQuarantineEnd tag s
  | .configRetry => Sys2Proof.Machine.execConfigRetry s
  | .bar2Atomicop => Sys2Proof.Machine.execBar2Atomicop s
  | .stagingStall => Sys2Proof.Machine.execStagingStall s
  | .pcieCreditReturn k => Sys2Proof.Machine.execPcieCreditReturn k s
  | .eventDispatch h idle => Sys2Proof.Machine.execEventDispatch h idle s
  | .helmTimerExpiry h t => Sys2Proof.Machine.execHelmTimerExpiry h t s
  | .budgetAbort h => Sys2Proof.Machine.execBudgetAbort h s
  | .farLoadComplete h u k => Sys2Proof.Machine.execFarLoadComplete h u k s
  | .farStoreComplete h => Sys2Proof.Machine.execFarStoreComplete h s
  | .add h u => Sys2Proof.Machine.execAdd h u s
  | .adc h u => Sys2Proof.Machine.execAdc h u s
  | .sub h u => Sys2Proof.Machine.execSub h u s
  | .sbc h u => Sys2Proof.Machine.execSbc h u s
  | .and h u => Sys2Proof.Machine.execAnd h u s
  | .or h u => Sys2Proof.Machine.execOr h u s
  | .xor h u => Sys2Proof.Machine.execXor h u s
  | .andn h u => Sys2Proof.Machine.execAndn h u s
  | .shl h u => Sys2Proof.Machine.execShl h u s
  | .shr h u => Sys2Proof.Machine.execShr h u s
  | .sar h u => Sys2Proof.Machine.execSar h u s
  | .ror h u => Sys2Proof.Machine.execRor h u s
  | .mul h u => Sys2Proof.Machine.execMul h u s
  | .mulhu h u => Sys2Proof.Machine.execMulhu h u s
  | .popc h u => Sys2Proof.Machine.execPopc h u s
  | .clz h u => Sys2Proof.Machine.execClz h u s
  | .bswap h u => Sys2Proof.Machine.execBswap h u s
  | .csel h u => Sys2Proof.Machine.execCsel h u s
  | .adds h u => Sys2Proof.Machine.execAdds h u s
  | .subs h u => Sys2Proof.Machine.execSubs h u s
  | .addi h u => Sys2Proof.Machine.execAddi h u s
  | .andi h u => Sys2Proof.Machine.execAndi h u s
  | .ori h u => Sys2Proof.Machine.execOri h u s
  | .xori h u => Sys2Proof.Machine.execXori h u s
  | .shli h u => Sys2Proof.Machine.execShli h u s
  | .shri h u => Sys2Proof.Machine.execShri h u s
  | .sari h u => Sys2Proof.Machine.execSari h u s
  | .rori h u => Sys2Proof.Machine.execRori h u s
  | .movl h u => Sys2Proof.Machine.execMovl h u s
  | .movh h u => Sys2Proof.Machine.execMovh h u s
  | .movs h u => Sys2Proof.Machine.execMovs h u s
  | .rds h u => Sys2Proof.Machine.execRds h u s
  | .extu h u => Sys2Proof.Machine.execExtu h u s
  | .ins h u => Sys2Proof.Machine.execIns h u s
  | .cmp h u => Sys2Proof.Machine.execCmp h u s
  | .tst h u => Sys2Proof.Machine.execTst h u s
  | .cmpi h u => Sys2Proof.Machine.execCmpi h u s
  | .tsti h u => Sys2Proof.Machine.execTsti h u s
  | .b h u => Sys2Proof.Machine.execB h u s
  | .bl h u => Sys2Proof.Machine.execBl h u s
  | .ret h u => Sys2Proof.Machine.execRet h u s
  | .loop h u => Sys2Proof.Machine.execLoop h u s
  | .cbz h u => Sys2Proof.Machine.execCbz h u s
  | .cbnz h u => Sys2Proof.Machine.execCbnz h u s
  | .ldw h u => Sys2Proof.Machine.execLdw h u s
  | .ldh h u => Sys2Proof.Machine.execLdh h u s
  | .ldhs h u => Sys2Proof.Machine.execLdhs h u s
  | .ldb h u => Sys2Proof.Machine.execLdb h u s
  | .ldbs h u => Sys2Proof.Machine.execLdbs h u s
  | .stw h u => Sys2Proof.Machine.execStw h u s
  | .sth h u => Sys2Proof.Machine.execSth h u s
  | .stb h u => Sys2Proof.Machine.execStb h u s
  | .fld h u => Sys2Proof.Machine.execFld h u s
  | .fst h u w => Sys2Proof.Machine.execFst h u w s
  | .fadd h u => Sys2Proof.Machine.execFadd h u s
  | .fsync h u w => Sys2Proof.Machine.execFsync h u w s
  | .ohrd h u => Sys2Proof.Machine.execOhrd h u s
  | .ohwr h u => Sys2Proof.Machine.execOhwr h u s
  | .ohwm h u own => Sys2Proof.Machine.execOhwm h u own s
  | .push h u => Sys2Proof.Machine.execPush h u s
  | .pushc h u => Sys2Proof.Machine.execPushc h u s
  | .rwd h u => Sys2Proof.Machine.execRwd h u s
  | .crc h u => Sys2Proof.Machine.execCrc h u s
  | .bip8 h u => Sys2Proof.Machine.execBip8 h u s
  | .bip2 h u => Sys2Proof.Machine.execBip2 h u s
  | .berr h u => Sys2Proof.Machine.execBerr h u s
  | .bipx h u => Sys2Proof.Machine.execBipx h u s
  | .tally h u => Sys2Proof.Machine.execTally h u s
  | .tbin h u => Sys2Proof.Machine.execTbin h u s
  | .dset h u => Sys2Proof.Machine.execDset h u s
  | .dclr h u => Sys2Proof.Machine.execDclr h u s
  | .pstart h u => Sys2Proof.Machine.execPstart h u s
  | .pstop h u => Sys2Proof.Machine.execPstop h u s
  | .perr h u => Sys2Proof.Machine.execPerr h u s
  | .prdc h u bits errs => Sys2Proof.Machine.execPrdc h u bits errs s
  | .pstat h u => Sys2Proof.Machine.execPstat h u s
  | .pword h u => Sys2Proof.Machine.execPword h u s
  | .tarm h u => Sys2Proof.Machine.execTarm h u s
  | .tarmr h u => Sys2Proof.Machine.execTarmr h u s
  | .tper h u => Sys2Proof.Machine.execTper h u s
  | .tcan h u => Sys2Proof.Machine.execTcan h u s
  | .post h u => Sys2Proof.Machine.execPost h u s
  | .raise h u => Sys2Proof.Machine.execRaise h u s
  | .raises h u => Sys2Proof.Machine.execRaises h u s
  | .helmEnd h u w => Sys2Proof.Machine.execHelmEnd h u w s
  | .signalPresent sl => Sys2Proof.Machine.execSignalPresent sl s
  | .signalAbsent sl => Sys2Proof.Machine.execSignalAbsent sl s
  | .stageComplete sl coeffs => Sys2Proof.Machine.execStageComplete sl coeffs s
  | .stageTimerExpiry sl => Sys2Proof.Machine.execStageTimerExpiry sl s
  | .loopUpActivateEnd sl => Sys2Proof.Machine.execLoopUpActivateEnd sl s
  | .loopConfirm sl => Sys2Proof.Machine.execLoopConfirm sl s
  | .loopDownEnd sl => Sys2Proof.Machine.execLoopDownEnd sl s
  | .autonegComplete sl page => Sys2Proof.Machine.execAutonegComplete sl page s
  | .refinValid => Sys2Proof.Machine.execRefinValid s
  | .refinInvalid => Sys2Proof.Machine.execRefinInvalid s
  | .patternFound sl pos aux => Sys2Proof.Machine.execPatternFound sl pos aux s
  | .candidateCheck sl pos found aux crc6 => Sys2Proof.Machine.execCandidateCheck sl pos found aux crc6 s
  | .syncCheckUnit sl errored => Sys2Proof.Machine.execSyncCheckUnit sl errored s
  | .nfasLoss sl n => Sys2Proof.Machine.execNfasLoss sl n s
  | .crc4MfasWord sl frame => Sys2Proof.Machine.execCrc4MfasWord sl frame s
  | .crc4MfTimeout sl => Sys2Proof.Machine.execCrc4MfTimeout sl s
  | .crc4FailThreshold sl failed => Sys2Proof.Machine.execCrc4FailThreshold sl failed s
  | .mfasCheck sl mfas => Sys2Proof.Machine.execMfasCheck sl mfas s
  | .syncHeader sl k hdr => Sys2Proof.Machine.execSyncHeader sl k hdr s
  | .gfpCoreHeader e octets => Sys2Proof.Machine.execGfpCoreHeader e octets s
  | .laneMarker sl k num arrival => Sys2Proof.Machine.execLaneMarker sl k num arrival s
  | .groupAlign sl => Sys2Proof.Machine.execGroupAlign sl s
  | .groupOof sl => Sys2Proof.Machine.execGroupOof sl s
  | .frameBoundary c f => Sys2Proof.Machine.execFrameBoundary c f s
  | .monitoringTick sl f => Sys2Proof.Machine.execMonitoringTick sl f s
  | .lofTimer sl => Sys2Proof.Machine.execLofTimer sl s
  | .secondBoundary deg => Sys2Proof.Machine.execSecondBoundary deg s
  | .excWindow c layer viol => Sys2Proof.Machine.execExcWindow c layer viol s
  | .transmitFrame c own => Sys2Proof.Machine.execTransmitFrame c own s
  | .checkerSync u => Sys2Proof.Machine.execCheckerSync u s
  | .checkerSyncLoss u bits errs => Sys2Proof.Machine.execCheckerSyncLoss u bits errs s
  | .generatorInsert u words => Sys2Proof.Machine.execGeneratorInsert u words s
  | .chartFrameBoundary upset => Sys2Proof.Machine.execChartFrameBoundary upset s
  | .tributaryFrameStart e side mframe => Sys2Proof.Machine.execTributaryFrameStart e side mframe s
  | .swapPeriodEnd e => Sys2Proof.Machine.execSwapPeriodEnd e s
  | .holdoffExpiry g k => Sys2Proof.Machine.execHoldoffExpiry g k s
  | .wtrExpiry g => Sys2Proof.Machine.execWtrExpiry g s
  | .exerciseEnd g => Sys2Proof.Machine.execExerciseEnd g s
  | .protocolFailureChange g w => Sys2Proof.Machine.execProtocolFailureChange g w s
  | .meterTick g past => Sys2Proof.Machine.execMeterTick g past s
  | .meterGuardExpiry g => Sys2Proof.Machine.execMeterGuardExpiry g s
  | .pmSecondJudgement p eb feb => Sys2Proof.Machine.execPmSecondJudgement p eb feb s
  | .intervalBoundary => Sys2Proof.Machine.execIntervalBoundary s
  | .binFinal p => Sys2Proof.Machine.execBinFinal p s
  | .intervalShortClose p => Sys2Proof.Machine.execIntervalShortClose p s
  | .clientFramePush e words fcsOk => Sys2Proof.Machine.execClientFramePush e words fcsOk s
  | .gapWrite c => Sys2Proof.Machine.execGapWrite c s
  | .packetVisible c => Sys2Proof.Machine.execPacketVisible c s
  | .spaceVisible c => Sys2Proof.Machine.execSpaceVisible c s
  | .ptrMismatchReset c => Sys2Proof.Machine.execPtrMismatchReset c s
  | .captureTake n tag bad => Sys2Proof.Machine.execCaptureTake n tag bad s
  | .crateRequest store => Sys2Proof.Machine.execCrateRequest store s
  | .crateWaitGrant store => Sys2Proof.Machine.execCrateWaitGrant store s
  | .crateFlushTimer n tag => Sys2Proof.Machine.execCrateFlushTimer n tag s
  | .crateWrite n tag bad => Sys2Proof.Machine.execCrateWrite n tag bad s
  | .crateScrubDone store => Sys2Proof.Machine.execCrateScrubDone store s
  | .matrixStall m => Sys2Proof.Machine.execMatrixStall m s
  | .sourceFire k cause data => Sys2Proof.Machine.execSourceFire k cause data s
  | .sourceTake k => Sys2Proof.Machine.execSourceTake k s
  | .stewardPresent w lost => Sys2Proof.Machine.execStewardPresent w lost s
  | .wakeLatchSet k cause data => Sys2Proof.Machine.execWakeLatchSet k cause data s
  | .latchReplay => Sys2Proof.Machine.execLatchReplay s
  | .feedValid f => Sys2Proof.Machine.execFeedValid f s
  | .feedInvalid f => Sys2Proof.Machine.execFeedInvalid f s
  | .deadTimeEnd => Sys2Proof.Machine.execDeadTimeEnd s
  | .powerFailure => Sys2Proof.Machine.execPowerFailure s
  | .packLowChange mv => Sys2Proof.Machine.execPackLowChange mv s
  | .cutoffEntry => Sys2Proof.Machine.execCutoffEntry s
  | .packGraceExpiry => Sys2Proof.Machine.execPackGraceExpiry s
  | .cutoffExit => Sys2Proof.Machine.execCutoffExit s
  | .packDisconnect => Sys2Proof.Machine.execPackDisconnect s
  | .poeDetection => Sys2Proof.Machine.execPoeDetection s
  | .poeClassification => Sys2Proof.Machine.execPoeClassification s
  | .poePowerApplied => Sys2Proof.Machine.execPoePowerApplied s
  | .poePowerRemoved => Sys2Proof.Machine.execPoePowerRemoved s
  | .allowanceRecompute => Sys2Proof.Machine.execAllowanceRecompute s
  | .bayShed => Sys2Proof.Machine.execBayShed s
  | .overdrawCheck => Sys2Proof.Machine.execOverdrawCheck s
  | .headSeated b => Sys2Proof.Machine.execHeadSeated b s
  | .headUnseated b pinB => Sys2Proof.Machine.execHeadUnseated b pinB s
  | .seatDebounceEnd b => Sys2Proof.Machine.execSeatDebounceEnd b s
  | .bayOutOfWindow => Sys2Proof.Machine.execBayOutOfWindow s
  | .powerGood b => Sys2Proof.Machine.execPowerGood b s
  | .shortStart b => Sys2Proof.Machine.execShortStart b s
  | .fastTrip b => Sys2Proof.Machine.execFastTrip b s
  | .overcurrent b => Sys2Proof.Machine.execOvercurrent b s
  | .pgLost b => Sys2Proof.Machine.execPgLost b s
  | .retryExpiry b => Sys2Proof.Machine.execRetryExpiry b s
  | .faultCountReset b => Sys2Proof.Machine.execFaultCountReset b s
  | .headIdent b m50 m57 decl => Sys2Proof.Machine.execHeadIdent b m50 m57 decl s
  | .headIdentRetry b m50 m57 decl => Sys2Proof.Machine.execHeadIdentRetry b m50 m57 decl s
  | .headIntChange b on => Sys2Proof.Machine.execHeadIntChange b on s
  | .headLosChange b on => Sys2Proof.Machine.execHeadLosChange b on s
  | .adcScan raw => Sys2Proof.Machine.execAdcScan raw s
  | .keeperChoice => Sys2Proof.Machine.execKeeperChoice s
  | .domainWakeStart d => Sys2Proof.Machine.execDomainWakeStart d s
  | .unknownEventWake d => Sys2Proof.Machine.execUnknownEventWake d s
  | .stowEntry => Sys2Proof.Machine.execStowEntry s
  | .stowCommit pps => Sys2Proof.Machine.execStowCommit pps s
  | .stowAbort => Sys2Proof.Machine.execStowAbort s
  | .moorEntry => Sys2Proof.Machine.execMoorEntry s
  | .wakeFromStow imageOk codeOk => Sys2Proof.Machine.execWakeFromStow imageOk codeOk s
  | .wakeFromMoor imageOk codeOk gib ecc rate => Sys2Proof.Machine.execWakeFromMoor imageOk codeOk gib ecc rate s
  | .ppsRefinement => Sys2Proof.Machine.execPpsRefinement s
  | .rebaseSlewEnd => Sys2Proof.Machine.execRebaseSlewEnd s
  | .compassLoop margins => Sys2Proof.Machine.execCompassLoop margins s
  | .marginZero => Sys2Proof.Machine.execMarginZero s
  | .syspllLevelChange => Sys2Proof.Machine.execSyspllLevelChange s
  | .throttleStep => Sys2Proof.Machine.execThrottleStep s
  | .avsbusTimeout => Sys2Proof.Machine.execAvsbusTimeout s
  | .avsbusRetry ack => Sys2Proof.Machine.execAvsbusRetry ack s
  | .thermalShutdown t => Sys2Proof.Machine.execThermalShutdown t s
  | .thermalRecovery => Sys2Proof.Machine.execThermalRecovery s
  | .porK f => Sys2Proof.Machine.execPorK f s
  | .coldBoot a b verA verB => Sys2Proof.Machine.execColdBoot a b verA verB s
  | .unlonReady copyOk gib ecc rate => Sys2Proof.Machine.execUnlonReady copyOk gib ecc rate s
  | .railCheckFail => Sys2Proof.Machine.execRailCheckFail s
  | .railRetry => Sys2Proof.Machine.execRailRetry s
  | .backgroundPageScrub page => Sys2Proof.Machine.execBackgroundPageScrub page s
  | .tetherResend k => Sys2Proof.Machine.execTetherResend k s
  | .tetherHeartbeatMiss => Sys2Proof.Machine.execTetherHeartbeatMiss s
  | .tetherRetrain ok => Sys2Proof.Machine.execTetherRetrain ok s
  | .tetherFatal => Sys2Proof.Machine.execTetherFatal s
  | .warmTetherTimeout => Sys2Proof.Machine.execWarmTetherTimeout s
  | .logbookDump own => Sys2Proof.Machine.execLogbookDump own s
  | .dumpTimeout k => Sys2Proof.Machine.execDumpTimeout k s
  | .faultHoldAutoReset => Sys2Proof.Machine.execFaultHoldAutoReset s
  | .lockstepMismatch w consec lane => Sys2Proof.Machine.execLockstepMismatch w consec lane s
  | .comparatorInjection w flagged real => Sys2Proof.Machine.execComparatorInjection w flagged real s
  | .patrolPass cellar found => Sys2Proof.Machine.execPatrolPass cellar found s
  | .backgroundMbist failed => Sys2Proof.Machine.execBackgroundMbist failed s
  | .backgroundChartCheck words spares => Sys2Proof.Machine.execBackgroundChartCheck words spares s
  | .stewardEoi w k => Sys2Proof.Machine.execStewardEoi w k s
  | .hostReadCompletion tag data => Sys2Proof.Machine.execHostReadCompletion tag data s
  | .bar2Write off data => Sys2Proof.Machine.execBar2Write off data s
  | .linkUp speed x2 aspm => Sys2Proof.Machine.execLinkUp speed x2 aspm s
  | .dStateWrite d3 pme => Sys2Proof.Machine.execDStateWrite d3 pme s
  | .vfEnableSet numVFs ari => Sys2Proof.Machine.execVfEnableSet numVFs ari s
  | .codeGroup sl cg => Sys2Proof.Machine.execCodeGroup sl cg s
  | .csfGfpTimeout e => Sys2Proof.Machine.execCsfGfpTimeout e s
  | .reservedEncoding h u => Sys2Proof.Machine.execReservedEncoding h u s
  | .kpUnknownCommand cmd crc => Sys2Proof.Machine.execKpUnknownCommand cmd crc s

end Sys2Proof.Machine
end

