-- ==== Sys2Proof/WellFormed.lean ====
section
/-! DEFINITION. What a command must carry to be one that the block's edge can bring: counts of a list, an index or a code that
its type does not bound. -/

namespace Sys2Proof

/-- The TAG an operation's command names. -/
def Instr.opTag : Instr → Option Nat
  | .nop _ tag => some tag
  | .sessionOpen _ tag _ => some tag
  | .sessionClose _ tag => some tag
  | .grant _ tag _ => some tag
  | .watchGrant _ tag => some tag
  | .load _ tag => some tag
  | .bind _ tag => some tag
  | .unbind _ tag => some tag
  | .send _ tag => some tag
  | .acquire _ tag => some tag
  | .releaseLine _ tag => some tag
  | .supply _ tag => some tag
  | .soundBay _ tag => some tag
  | .tdr _ tag _ => some tag
  | .cableLoss _ tag => some tag
  | .optics _ tag _ => some tag
  | .eye _ tag => some tag
  | .jitter _ tag => some tag
  | .jitterWindowEnd _ tag _ _ => some tag
  | .wander _ tag => some tag
  | .wanderSample _ tag _ => some tag
  | .traces _ tag => some tag
  | .ssm _ tag => some tag
  | .loopProbe _ tag => some tag
  | .autoneg _ tag => some tag
  | .chartWrite _ tag _ => some tag
  | .chartWriteCfg _ tag => some tag
  | .chartSwap _ tag => some tag
  | .protectCfg _ tag => some tag
  | .protectCfgDelete _ tag => some tag
  | .protectClear _ tag => some tag
  | .lockout _ tag => some tag
  | .force _ tag => some tag
  | .manualP _ tag => some tag
  | .manualW _ tag => some tag
  | .exercise _ tag => some tag
  | .meterArm _ tag => some tag
  | .meterDisarm _ tag => some tag
  | .soak _ tag => some tag
  | .capture _ tag => some tag
  | .pattern _ tag => some tag
  | .pmRead _ tag => some tag
  | .pmReset _ tag => some tag
  | .attach _ tag => some tag
  | .detach _ tag => some tag
  | .suspend _ tag _ _ => some tag
  | .resume _ tag => some tag
  | .cancel _ tag _ _ => some tag
  | .selftest _ tag _ _ _ => some tag
  | .selftestQuietStart _ tag => some tag
  | .selftestDeferExpiry _ tag _ _ _ => some tag
  | .calibrate _ tag _ _ => some tag
  | .powerFloor _ tag => some tag
  | .calendarAddWake _ tag => some tag
  | .calendarAddRaise _ tag => some tag
  | .calendarCancel _ tag => some tag
  | .queryGlobal _ tag => some tag
  | .querySession _ tag => some tag
  | .queryOperation _ tag => some tag
  | .queryObject _ tag => some tag
  | .queryLink _ tag => some tag
  | .queryPower _ tag => some tag
  | .operationStart _ tag => some tag
  | .operationEnd _ tag => some tag
  | .durationExpiry _ tag _ _ => some tag
  | .captureTake _ tag _ => some tag
  | .crateFlushTimer _ tag => some tag
  | .crateWrite _ tag _ => some tag
  | _ => none

/-- The keeper-port command codes of Table HST-7. -/
def keeperCodes : List Byte := [0x00, 0x10, 0x11, 0x12, 0x20, 0x30]

/-- Carriers of overhead: slices 0-23, and Chart entries from 32 on. -/
def isCarrier (c : Nat) : Bool := decide (c < 24 ∨ (32 ≤ c ∧ c < 32 + 8192))

/-- Operands beyond their types' bounds: 24 margins (R618), 16 conversions (R312), 64-byte records (R104), a link generation
of 1 to 3, an address inside the function's BAR 0 (Table HST-2), a vector from 3 on, a CMD that is in no table row. -/
def Instr.operandsOk : Instr → Bool
  | .compassLoop margins => margins.length == 24
  | .adcScan raw => raw.length == 16
  | .submissionFetchDone _ (some data) => data.length % 64 == 0 && data.length != 0
  | .linkUp speed _ _ => speed.val != 0
  | .bcVclaim v => decide (3 ≤ v.val)
  | .kpUnknownCommand cmd _ => !keeperCodes.contains cmd
  | .rcRead n a => n.val == 0 || decide (a.toNat < 0x200000)
  | .wideReadLow n a => n.val == 0 || decide (a.toNat < 0x200000)
  | .registerWrite n a _ _ => n.val == 0 || decide (a.toNat < 0x200000)
  | .frameBoundary c _ => isCarrier c
  | .transmitFrame c _ => isCarrier c
  | .bar2Write off data => decide (off.val + data.length ≤ 0x1000000)
  | _ => true

/-- A well-formed command; a TAG has 16 bits. -/
def Instr.wf (i : Instr) : Bool :=
  i.operandsOk && (match i.opTag with | some t => decide (t < 65536) | none => true)

/-- Well-formedness as a proposition. -/
abbrev WellFormed (i : Instr) : Prop := i.wf = true

end Sys2Proof
end

