-- ==== Sys2Proof/Safety.lean ====
section
/-! DEFINITION. What the claims mean: a state in good form, what a command leaves alone, and when a Helm's instruction or
an operation's work runs. -/

namespace Sys2Proof.Machine

open Reg

/-! ### Good form -/

/-- Memory is in its canonical form (Larder and Cellar): addresses strictly rising, no zero byte listed, since an unlisted
byte reads 0. -/
def MemSt.wf (m : MemSt) : Bool := smWf 0 m.larder && smWf 0 m.cellar && smSorted m.undef

/-- A Helm's tables have strictly rising keys; its local data is canonical. -/
def Helm.wf (m : Helm) : Bool := smSorted m.g && smWf 0 m.ram && smSorted m.imem && smSorted m.timers && smSorted m.ports

/-- An overhead processor's tables have strictly rising keys. -/
def Ovh.wf (o : Ovh) : Bool :=
  smSorted o.rx && smSorted o.tx && smSorted o.sent && smSorted o.parity && smSorted o.viol && smSorted o.runs &&
    smSorted o.acc && smSorted o.latest && smSorted o.cand && smSorted o.bad && smSorted o.good &&
    smSorted o.excBad && smSorted o.excGood && smSorted o.ssfSec

/-- A dump's tables have strictly rising keys. -/
def Dump.wf (d : Dump) : Bool := smSorted d.counters && smSorted d.sections

/-- Good form of the machine: every sparse table's keys rise strictly, so that each key has one value, and memory is
canonical. -/
def State.wf (s : State) : Bool :=
  smSorted s.regs && s.mem.wf && smSorted s.cnt && smSorted s.sessions && smSorted s.hiLatch &&
    (smSorted s.helms && s.helms.all (fun e => e.2.wf)) &&
    (smSorted s.ovhs && s.ovhs.all (fun e => e.2.wf)) &&
    (smSorted s.lines && s.lines.all (fun e => smSorted e.2.fr.lanes)) &&
    (smSorted s.chart && smSorted s.groups && smSorted s.chutes && s.caps.all (fun c => smSorted c.bins)) &&
    (smSorted s.pm && smSorted s.pats && smSorted s.bays && smSorted s.feed.hist && smSorted s.feed.crossed) &&
    (smSorted s.host.fns && smSorted s.own.objs && smSorted s.own.pages) &&
    (smSorted s.beacon.sources && smSorted s.beacon.vec && smSorted s.beacon.latchData && smSorted s.beacon.latchCause) &&
    (s.health.dump.map Dump.wf).getD true

/-- An outcome goes on: it is a next state. -/
def Goes (r : Host.Outcome State Fault Refusal) : Prop := ∃ t, r = .next t

/-! ### Frames -/

/-- Every byte of the Larder and the Cellar reads as before. -/
def SameMem (s t : State) : Prop := ∀ a, t.byteAt a = s.byteAt a

/-- Every register field reads as before, but for those whose keys are listed. -/
def SameRegs (keys : List Nat) (s t : State) : Prop :=
  ∀ f i j, f.key i j ∉ keys → t.rd f i j = s.rd f i j

/-- The command answers a next state in which `P` holds; every register field but the listed ones, and every byte of
memory, reads as before. -/
def Does (i : Instr) (s : State) (keys : List Nat) (P : State → Prop) : Prop :=
  ∃ t, exec i s = .next t ∧ P t ∧ SameRegs keys s t ∧ SameMem s t

/-- The command answers a next state in which `P` holds, and memory holds what it held. -/
def DoesWide (i : Instr) (s : State) (P : State → Prop) : Prop := ∃ t, exec i s = .next t ∧ P t ∧ t.mem = s.mem

/-- The command changes nothing: its occasion has not come. -/
def Idle (i : Instr) (s : State) : Prop := exec i s = .next s

/-- Nothing but Helm `h` and the event counters has changed. -/
def OnlyHelm (h : Nat) (s t : State) : Prop :=
  t = { s with helms := t.helms, cnt := t.cnt } ∧ ∀ k, k ≠ h → t.helm k = s.helm k

/-- Nothing but the operation store has changed, and in it only the operation of Sn with this TAG. -/
def OnlyOp (n tag : Nat) (s t : State) : Prop :=
  t = { s with ops := t.ops } ∧ ∀ m k, ¬ (m = n ∧ k = tag) → t.op? m k = s.op? m k

/-! ### Operations -/

/-- The operation `o` of Sn with this TAG and opcode is RUNNING, has begun and has its host data: its work is to do. -/
def State.opRuns (s : State) (n tag opcode : Nat) (o : Op) : Prop :=
  s.op? n tag = some o ∧ o.opcode = opcode ∧ o.fin = none ∧ o.st = .running ∧ o.started = true ∧ o.want = 0

/-- The operation of Sn with this TAG has ended in `t`, with the status, RESULT and device time of `s`. -/
def Ends (s t : State) (n tag status result : Nat) : Prop :=
  ∃ x, t.op? n tag = some x ∧ x.fin = some { status := status, result := result, time := s.stamp }

/-- The operation has ended with this status; of its RESULT nothing is said. -/
def EndsAs (t : State) (n tag status : Nat) : Prop := ∃ x e, t.op? n tag = some x ∧ x.fin = some e ∧ e.status = status

/-- As `Ends`, with these bytes on their way to HADDR. -/
def EndsWith (s t : State) (n tag status result : Nat) (data : List Byte) : Prop :=
  ∃ x, t.op? n tag = some x ∧ x.fin = some { status := status, result := result, time := s.stamp } ∧ x.outp = data

/-- The operation `o` of Sn with this TAG ends with this status and RESULT, and `P` holds of the state it leaves. -/
def OpDoes (i : Instr) (s : State) (n tag status result : Nat) (keys : List Nat) (P : State → Prop) : Prop :=
  Does i s keys fun t => Ends s t n tag status result ∧ P t

/-! ### Events -/

/-- Source `k` has fired in `t` with this CAUSE and DATA (Table BCN-4). -/
def Fired (s t : State) (k cause data : Nat) : Prop := t.source k = (s.source k).merge cause data s.stamp 1 false

/-- A device-fatal error with this cause and CAUSE_DATA has been detected (Table LOG-3, steps 1 and 2): its dump is under
way, LG_COUNT has counted it, no operation and no program goes on, nothing waits for the host. -/
def FatalIn (s t : State) (cause data : Nat) : Prop :=
  (∃ d, t.health.dump = some d ∧ d.cause = cause ∧ d.data = data % 2 ^ 32 ∧ d.dtime = s.tm.device ∧ d.at_ = s.clock ∧
    d.count = t.rd Reg.LG_COUNT ∧ d.second = none) ∧
  t.rd Reg.LG_COUNT = (s.rd Reg.LG_COUNT + 1) % 2 ^ 64 ∧ t.ops = [] ∧ t.helms = [] ∧ t.host.staging = [] ∧
  t.host.reads = [] ∧ t.mem = s.mem

/-! ### Helm instructions -/

/-- Helm `h` runs a handler, unstalled, the word at its pc spells `op`, and `k` more cycles stay within the limit of the
budget watchdog: the instruction executes (R213, R214). -/
def State.helmRuns (s : State) (h : Nat) (op : HOp) (k : Nat) : Bool :=
  (match (s.helm h).run with | some r => decide (r.cycles + k ≤ r.limit) | none => false) &&
    (s.helm h).stall.isNone && helmOp (s.helm h).fetch == some op

/-- The word at the pc of Helm `h`. -/
def State.word_ (s : State) (h : Nat) : Word := (s.helm h).fetch

/-- `k` cycles have passed in a running handler, and nothing else. -/
def Helm.spent (m : Helm) (k : Nat) : Helm :=
  { m with run := m.run.map fun r => { r with cycles := r.cycles + k }, tm := m.tm + BitVec.ofNat 32 k }

/-- Execution has fallen through to the next instruction after `k` cycles, or, at the end of a loop's body, to where the
loop sends it; of the Helm nothing has changed but its general registers and flags. -/
def HelmAdvanced (m m' : Helm) (k : Nat) : Prop :=
  m' = { (m.spent k).fallThrough with g := m'.g, z := m'.z, n := m'.n, c := m'.c, v := m'.v }

/-- The flags of a Helm. -/
def Helm.flags (m : Helm) : Bool × Bool × Bool × Bool := (m.z, m.n, m.c, m.v)

/-- A register result of an instruction of `k` cycles: `v` in g[d] (discarded for g0, R171), the flags Z N C V as given,
every other register, memory and the rest of the machine as before. -/
def AluDone (s : State) (h k : Nat) (v : Word) (fl : Bool × Bool × Bool × Bool) (t : State) : Prop :=
  (t.helm h).reg (wD (s.word_ h)) = (if wD (s.word_ h) = 0 then 0 else v) ∧
  (∀ r, r ≠ wD (s.word_ h) → (t.helm h).reg r = (s.helm h).reg r) ∧
  (t.helm h).flags = fl ∧ HelmAdvanced (s.helm h) (t.helm h) k ∧ OnlyHelm h s t ∧ SameMem s t

/-- A compare: the flags as given and no register written. -/
def CmpDone (s : State) (h : Nat) (fl : Bool × Bool × Bool × Bool) (t : State) : Prop :=
  (∀ r, (t.helm h).reg r = (s.helm h).reg r) ∧ (t.helm h).flags = fl ∧
  HelmAdvanced (s.helm h) (t.helm h) 1 ∧ OnlyHelm h s t ∧ SameMem s t

/-- The values of g[a] and g[b] of the word at the pc of Helm `h`. -/
def State.srcA (s : State) (h : Nat) : Word := (s.helm h).reg (wA (s.word_ h))
def State.srcB (s : State) (h : Nat) : Word := (s.helm h).reg (wB (s.word_ h))
/-- The value of g[d], which some instructions read. -/
def State.srcD (s : State) (h : Nat) : Word := (s.helm h).reg (wD (s.word_ h))

/-- Z and N of a result, with C and V kept (R216). -/
def State.znOf (s : State) (h : Nat) (r : Word) : Bool × Bool × Bool × Bool :=
  (r == 0, r.msb, (s.helm h).c, (s.helm h).v)

/-- Signed overflow of an exact integer result (R216). -/
def overflows (x : Int) : Bool := decide (x < -2 ^ 31 ∨ 2 ^ 31 ≤ x)

end Sys2Proof.Machine
end

