-- ==== Sys2Proof/Certificates/Slice0/Obligations.lean ====
section
/-! DEFINITION. The statements for the provers. Each says what a family of commands does, as the numbered rules of the spec
have it: its result, its flags, what it leaves alone, and where it completes. -/

open Sys2Proof Sys2Proof.Machine Sys2Proof.Machine.Reg

/-- The queue is first in, first out; the tick on an empty queue is the model's choice (log 3). -/
def Obligations.AStepTakesTheCommandAtTheFront : Prop :=
  (∀ (c : Instr) (s : State) (rest : List Instr), step { s with pending := c :: rest } = exec c { s with pending := rest }) ∧
  (∀ s : State, s.pending = [] → ∃ t, step s = .next t ∧ SameRegs [] s t ∧ SameMem s t ∧ t.clock = s.clock + 1 ∧
    t.pending = [] ∧ t.ops = s.ops ∧ t.sessions = s.sessions ∧ t.helms = s.helms)

/-- R17, R631 and Tables REG-3 to REG-8 at the machine's start. -/
def Obligations.TheMachineAtReset : Prop :=
  State.reset.wf = true ∧ State.reset.pending = [] ∧ State.reset.ops = [] ∧ State.reset.helms = [] ∧
  State.reset.sessions = [] ∧ State.reset.tm.device = 0 ∧ State.reset.tm.keeper = 0 ∧
  (∀ a, State.reset.byteAt a = 0) ∧
  (∀ f i j, f.key i j ≠ KP_PWR_STAT_EDIE.key 0 0 → f.key i j ≠ CP_STAT_VDD.key 0 0 → State.reset.rd f i j = f.reset) ∧
  (∀ e ∈ [(0, 0x72600B00), (4, 0x14108), (8, 8), (0x18, 0x03202832), (0x24, 0), (0x38, 0x480), (0xA000, 0x214464),
      (0xA004, 0xA), (0x12000, 0xE0258), (0x12004, 0xA1803C)], State.reset.view .glob 0 e.1 = e.2) ∧
  (∀ n : Fin 16, n ≠ 0 → State.reset.view .sesPf n 0 = 0x8200 ∧ State.reset.view .ses n 0 = 0x200) ∧
  (∀ n : Fin 16, ∀ e ∈ [(0x108, 4), (0x148, 4), (0x14C, 0x1000), (0x188, 4), (0x18C, 0x3000), (0x198, 0xFFFF),
      (0x1C0, 0xFFFFFF), (0x1D0, 0)], State.reset.view .ses n e.1 = e.2) ∧
  (∀ i : Fin 24, ∀ e ∈ [(0, 0), (4, 0x322864), (8, 0xC80FA), (0xC, if i.val < 8 then 0x190 else 0), (0x10C, 0xF),
      (0x264, 0x2D9E7C3), (0x284, 0x2002), (0x288, 1), (0x28C, 3)], State.reset.view .slice i e.1 = e.2) ∧
  State.reset.view .entry 0 0x20 = 0x19E7C ∧ State.reset.view .entry 0 0x24 = 6 ∧
  State.reset.view .chute 0 0 = 0x8000 ∧ State.reset.view .chute 0 0xC = 0x10 ∧
  (∀ e ∈ [(0, 0x72600B00), (0x80, 2), (0x200, 0xF7B), (0x404, 0x10), (0x408, 0x19088), (0x40C, 0x23282710),
      (0x410, 0x580BB8), (0x414, 0xFFFF000E), (0x420, 0x1770), (0x440, 0xFFF0000), (0x500, 0x5DC45BC), (0x504, 0x540414),
      (0x608, 0x2053)], State.reset.view .kdie 0 e.1 = e.2)

/-- Table SES-6, R632, R633: the address space stays one byte per address through every command. -/
def Obligations.EveryStepKeepsMemoryCanonical : Prop :=
  ∀ s t : State, s.mem.wf = true → step s = .next t → t.mem.wf = true

/-- R685: no two registers share an address. The good form that every statement about a state assumes is kept by every
step. -/
def Obligations.EveryStepKeepsGoodForm : Prop :=
  ∀ s t : State, s.wf = true → step s = .next t → t.wf = true

/-- R216 with Tables MSI-2 to MSI-4: the arithmetic instructions, with g0 of R171. -/
def Obligations.HelmAddsAndSubtracts : Prop :=
  ∀ (s : State) (h : Fin 32) (u : Upset), s.wf = true → u ≠ .imemParity →
    let a := s.srcA h
    let b := s.srcB h
    let i := (BitVec.ofNat 12 (wImm12 (s.word_ h))).signExtend 32
    let c := (s.helm h).c.toNat
    let v := (s.helm h).v
    (s.helmRuns h .add 1 = true → ∃ t, exec (.add h u) s = .next t ∧
      AluDone s h 1 (a + b)
        (a + b == 0, (a + b).msb, decide (2 ^ 32 ≤ a.toNat + b.toNat), overflows (a.toInt + b.toInt)) t) ∧
    (s.helmRuns h .adc 1 = true → ∃ t, exec (.adc h u) s = .next t ∧
      AluDone s h 1 (BitVec.ofNat 32 (a.toNat + b.toNat + c))
        (BitVec.ofNat 32 (a.toNat + b.toNat + c) == 0, (BitVec.ofNat 32 (a.toNat + b.toNat + c)).msb,
          decide (2 ^ 32 ≤ a.toNat + b.toNat + c), overflows (a.toInt + b.toInt + c)) t) ∧
    (s.helmRuns h .sub 1 = true → ∃ t, exec (.sub h u) s = .next t ∧
      AluDone s h 1 (a - b)
        (a == b, (a - b).msb, decide (a.toNat < b.toNat), overflows (a.toInt - b.toInt)) t) ∧
    (s.helmRuns h .sbc 1 = true → ∃ t, exec (.sbc h u) s = .next t ∧
      AluDone s h 1 (BitVec.ofInt 32 (a.toInt - b.toInt - c))
        (BitVec.ofInt 32 (a.toInt - b.toInt - c) == 0, (BitVec.ofInt 32 (a.toInt - b.toInt - c)).msb,
          decide (a.toNat < b.toNat + c), overflows (a.toInt - b.toInt - c)) t) ∧
    (s.helmRuns h .addi 1 = true → ∃ t, exec (.addi h u) s = .next t ∧
      AluDone s h 1 (a + i)
        (a + i == 0, (a + i).msb, decide (2 ^ 32 ≤ a.toNat + i.toNat), overflows (a.toInt + i.toInt)) t) ∧
    (s.helmRuns h .adds 1 = true → ∃ t, exec (.adds h u) s = .next t ∧
      let r : Word := if 2 ^ 32 ≤ a.toNat + b.toNat then 0xFFFFFFFF else a + b
      AluDone s h 1 r (r == 0, r.msb, decide (2 ^ 32 ≤ a.toNat + b.toNat), v) t) ∧
    (s.helmRuns h .subs 1 = true → ∃ t, exec (.subs h u) s = .next t ∧
      let r : Word := if a.toNat < b.toNat then 0 else a - b
      AluDone s h 1 r (r == 0, r.msb, decide (a.toNat < b.toNat), v) t) ∧
    (s.helmRuns h .cmp 1 = true → ∃ t, exec (.cmp h u) s = .next t ∧
      CmpDone s h (a == b, (a - b).msb, decide (a.toNat < b.toNat), overflows (a.toInt - b.toInt)) t) ∧
    (s.helmRuns h .cmpi 1 = true → ∃ t, exec (.cmpi h u) s = .next t ∧
      CmpDone s h (a == i, (a - i).msb, decide (a.toNat < i.toNat), overflows (a.toInt - i.toInt)) t)

/-- Tables MSI-2 to MSI-4 with R216: instructions that set Z and N alone. Tables MSI-2 and MSI-3 and the sentence under Table MSI-2: shifts and rotates, bit by bit. -/
def Obligations.HelmLogicMultipliesShiftsAndRotates : Prop :=
  (∀ (s : State) (h : Fin 32) (u : Upset), s.wf = true → u ≠ .imemParity →
    let a := s.srcA h
    let b := s.srcB h
    let i := (BitVec.ofNat 12 (wImm12 (s.word_ h))).zeroExtend 32
    (s.helmRuns h .and 1 = true → ∃ t, exec (.and h u) s = .next t ∧ AluDone s h 1 (a &&& b) (s.znOf h (a &&& b)) t) ∧
    (s.helmRuns h .or 1 = true → ∃ t, exec (.or h u) s = .next t ∧ AluDone s h 1 (a ||| b) (s.znOf h (a ||| b)) t) ∧
    (s.helmRuns h .xor 1 = true → ∃ t, exec (.xor h u) s = .next t ∧ AluDone s h 1 (a ^^^ b) (s.znOf h (a ^^^ b)) t) ∧
    (s.helmRuns h .andn 1 = true → ∃ t, exec (.andn h u) s = .next t ∧
      AluDone s h 1 (a &&& ~~~b) (s.znOf h (a &&& ~~~b)) t) ∧
    (s.helmRuns h .andi 1 = true → ∃ t, exec (.andi h u) s = .next t ∧ AluDone s h 1 (a &&& i) (s.znOf h (a &&& i)) t) ∧
    (s.helmRuns h .ori 1 = true → ∃ t, exec (.ori h u) s = .next t ∧ AluDone s h 1 (a ||| i) (s.znOf h (a ||| i)) t) ∧
    (s.helmRuns h .xori 1 = true → ∃ t, exec (.xori h u) s = .next t ∧ AluDone s h 1 (a ^^^ i) (s.znOf h (a ^^^ i)) t) ∧
    (s.helmRuns h .tst 1 = true → ∃ t, exec (.tst h u) s = .next t ∧ CmpDone s h (s.znOf h (a &&& b)) t) ∧
    (s.helmRuns h .tsti 1 = true → ∃ t, exec (.tsti h u) s = .next t ∧ CmpDone s h (s.znOf h (a &&& i)) t) ∧
    (s.helmRuns h .mul 2 = true → ∃ t, exec (.mul h u) s = .next t ∧
      let r : Word := BitVec.ofNat 32 (a.toNat * b.toNat)
      AluDone s h 2 r (s.znOf h r) t) ∧
    (s.helmRuns h .mulhu 2 = true → ∃ t, exec (.mulhu h u) s = .next t ∧
      let r : Word := (a.zeroExtend 64 * b.zeroExtend 64).extractLsb' 32 32
      AluDone s h 2 r (s.znOf h r) t) ∧
    (s.helmRuns h .popc 1 = true → ∃ t, exec (.popc h u) s = .next t ∧
      let r : Word := BitVec.ofNat 32 ((List.range 32).countP fun k => a.getLsbD k)
      AluDone s h 1 r (s.znOf h r) t) ∧
    (s.helmRuns h .clz 1 = true → ∃ t n, exec (.clz h u) s = .next t ∧
      AluDone s h 1 (BitVec.ofNat 32 n) (s.znOf h (BitVec.ofNat 32 n)) t ∧
      ((a = 0 ∧ n = 32) ∨ (n < 32 ∧ 2 ^ (31 - n) ≤ a.toNat ∧ a.toNat < 2 ^ (32 - n)))) ∧
    (s.helmRuns h .bswap 1 = true → ∃ t r, exec (.bswap h u) s = .next t ∧ AluDone s h 1 r (s.znOf h r) t ∧
      ∀ k, k < 4 → r.extractLsb' (8 * k) 8 = a.extractLsb' (8 * (3 - k)) 8)) ∧
  (∀ (s : State) (h : Fin 32) (u : Upset), s.wf = true → u ≠ .imemParity →
    let a := s.srcA h
    let m := s.helm h
    let left := fun (k : Nat) (t : State) => ∃ r : Word,
      (∀ j, j < 32 → r.getLsbD j = (decide (k ≤ j) && a.getLsbD (j - k))) ∧
      AluDone s h 1 r (r == 0, r.msb, if k = 0 then m.c else a.getLsbD (32 - k), m.v) t
    let right := fun (k : Nat) (fill : Bool) (t : State) => ∃ r : Word,
      (∀ j, j < 32 → r.getLsbD j = if j + k < 32 then a.getLsbD (j + k) else fill) ∧
      AluDone s h 1 r (r == 0, r.msb, if k = 0 then m.c else a.getLsbD (k - 1), m.v) t
    let rot := fun (k : Nat) (t : State) => ∃ r : Word,
      (∀ j, j < 32 → r.getLsbD j = a.getLsbD ((j + k) % 32)) ∧
      AluDone s h 1 r (r == 0, r.msb, if k = 0 then m.c else a.getLsbD (k - 1), m.v) t
    let kb := (s.srcB h).toNat % 32
    let ki := wImm12 (s.word_ h) % 32
    (s.helmRuns h .shl 1 = true → ∃ t, exec (.shl h u) s = .next t ∧ left kb t) ∧
    (s.helmRuns h .shr 1 = true → ∃ t, exec (.shr h u) s = .next t ∧ right kb false t) ∧
    (s.helmRuns h .sar 1 = true → ∃ t, exec (.sar h u) s = .next t ∧ right kb a.msb t) ∧
    (s.helmRuns h .ror 1 = true → ∃ t, exec (.ror h u) s = .next t ∧ rot kb t) ∧
    (s.helmRuns h .shli 1 = true → ∃ t, exec (.shli h u) s = .next t ∧ left ki t) ∧
    (s.helmRuns h .shri 1 = true → ∃ t, exec (.shri h u) s = .next t ∧ right ki false t) ∧
    (s.helmRuns h .sari 1 = true → ∃ t, exec (.sari h u) s = .next t ∧ right ki a.msb t) ∧
    (s.helmRuns h .rori 1 = true → ∃ t, exec (.rori h u) s = .next t ∧ rot ki t))

/-- Tables MSI-1 to MSI-3, MSM-2 and R232: register results that keep C and V. R230, Tables MSI-10 and MSI-11: the step helpers. -/
def Obligations.HelmMovesFieldsAndStepHelpers : Prop :=
  (∀ (s : State) (h : Fin 32) (u : Upset), s.wf = true → u ≠ .imemParity →
    let a := s.srcA h
    let m := s.helm h
    let x := s.word_ h
    let i := BitVec.ofNat 16 (wImm16 x)
    let p := wImm12 x % 32
    let w := wImm12 x / 32 % 32 + 1
    let tests : List Bool := [true, m.z, m.n, m.c, m.v, m.c || m.z, m.n != m.v, m.z || (m.n != m.v)]
    (s.helmRuns h .csel 1 = true → ∃ t, exec (.csel h u) s = .next t ∧
      let c := wFnA x
      let holds := if c < 8 then tests.getD c false else !(tests.getD (c - 8) false)
      AluDone s h 1 (if holds then a else s.srcB h) m.flags t) ∧
    (s.helmRuns h .movl 1 = true → ∃ t, exec (.movl h u) s = .next t ∧ AluDone s h 1 (i.zeroExtend 32) m.flags t) ∧
    (s.helmRuns h .movs 1 = true → ∃ t, exec (.movs h u) s = .next t ∧ AluDone s h 1 (i.signExtend 32) m.flags t) ∧
    (s.helmRuns h .movh 1 = true → ∃ t, exec (.movh h u) s = .next t ∧
      AluDone s h 1 (i ++ (s.srcD h).extractLsb' 0 16 : BitVec 32) m.flags t) ∧
    (s.helmRuns h .rds 1 = true → ∃ t, exec (.rds h u) s = .next t ∧
      AluDone s h 1 (([BitVec.ofNat 32 m.pc, m.ev, m.fc, m.tm] : List Word).getD (wImm16 x) 0) m.flags t) ∧
    (s.helmRuns h .extu 1 = true → ∃ t r, exec (.extu h u) s = .next t ∧ AluDone s h 1 r (s.znOf h r) t ∧
      ∀ j, j < 32 → r.getLsbD j = (decide (j < w) && a.getLsbD (j + p))) ∧
    (s.helmRuns h .ins 1 = true → ∃ t r, exec (.ins h u) s = .next t ∧ AluDone s h 1 r (s.znOf h r) t ∧
      ∀ j, j < 32 → r.getLsbD j = if p ≤ j ∧ j < p + w then a.getLsbD (j - p) else (s.srcD h).getLsbD j) ∧
    (s.helmRuns h .tbin 1 = true → ∃ t k, exec (.tbin h u) s = .next t ∧ AluDone s h 1 (BitVec.ofNat 32 k) m.flags t ∧
      ((a = 0 ∧ k = 0) ∨ (k ≠ 0 ∧ 2 ^ (k - 1) ≤ a.toNat ^ 8 ∧ a.toNat ^ 8 < 2 ^ k)))) ∧
  (∀ (s : State) (h : Fin 32) (u : Upset), s.wf = true → u ≠ .imemParity →
    let a := s.srcA h
    let d := s.srcD h
    let m := s.helm h
    let x := s.word_ h
    let p := wImm12 x % 16
    let st := wImm12 x / 16 % 4
    let width := [4, 6, 8, 16, 32].getD p 0
    let poly := [0x3, 0x03, 0x07, 0x1021, 0x04C11DB7].getD p 0
    let bitStep := fun (crc : Nat) (b : Bool) =>
      if xor (crc.testBit (width - 1)) b then (crc * 2 % 2 ^ width) ^^^ poly else crc * 2 % 2 ^ width
    let bits := if st = 0 then [a.getLsbD 0]
      else ((if st = 1 then [0] else [0, 1, 2, 3]).flatMap fun k => [7, 6, 5, 4, 3, 2, 1, 0].map fun j => a.getLsbD (8 * k + j))
    (s.helmRuns h .crc (if st = 2 then 2 else 1) = true → ∃ t, exec (.crc h u) s = .next t ∧
      let r : Word := BitVec.ofNat 32 (bits.foldl bitStep (d.toNat % 2 ^ width))
      AluDone s h (if st = 2 then 2 else 1) r (r == 0, m.n, m.c, m.v) t) ∧
    (s.helmRuns h .bip8 1 = true → ∃ t r, exec (.bip8 h u) s = .next t ∧ AluDone s h 1 r (s.znOf h r) t ∧
      ∀ j, j < 32 → r.getLsbD j = xor (d.getLsbD j) (decide (j < 8) && xor (xor (a.getLsbD j) (a.getLsbD (j + 8)))
        (xor (a.getLsbD (j + 16)) (a.getLsbD (j + 24))))) ∧
    (s.helmRuns h .bip2 1 = true → ∃ t r, exec (.bip2 h u) s = .next t ∧ AluDone s h 1 r (s.znOf h r) t ∧
      ∀ j, j < 32 → r.getLsbD j = xor (d.getLsbD j)
        (decide (j < 2) && (List.range 16).foldl (fun q k => xor q (a.getLsbD (2 * k + j))) false)) ∧
    (s.helmRuns h .berr 1 = true → ∃ t, exec (.berr h u) s = .next t ∧
      let n := d.toNat + (List.range 32).countP fun k => a.getLsbD k != (s.srcB h).getLsbD k
      let r : Word := BitVec.ofNat 32 (min n 0xFFFFFFFF)
      AluDone s h 1 r (r == 0, r.msb, decide (2 ^ 32 ≤ n), m.v) t))

/-- R200, R218, R219: every branch form, with R222's effect on loops. -/
def Obligations.HelmBranchesAndTheirRange : Prop :=
  ∀ (s : State) (h : Fin 32) (u : Upset), s.wf = true → u ≠ .imemParity →
    let m := s.helm h
    let x := s.word_ h
    let far := (m.pc : Int) + ((BitVec.ofNat 20 (wOff20 x)).toInt)
    let back : Int := ((m.reg 15).extractLsb' 0 12).toNat
    let passes := fun (r : Res) => ∃ t, r = .next t ∧ t.helm h = (m.spent 1).fallThrough ∧ OnlyHelm h s t ∧ SameMem s t
    let goesTo := fun (r : Res) (target : Int) (ends link : Bool) =>
      if 0 ≤ target ∧ target < (m.codeWords : Int) then
        ∃ t, r = .next t ∧ OnlyHelm h s t ∧ SameMem s t ∧ ((t.helm h).pc : Int) = target ∧
          (t.helm h).loops = (if ends then loopsKept target.toNat m.loops else m.loops) ∧
          (∀ k, (t.helm h).reg k = if link ∧ k = 15 then BitVec.ofNat 32 (m.pc + 1) else m.reg k) ∧
          t.helm h = { m.spent 2 with pc := (t.helm h).pc, loops := (t.helm h).loops, g := (t.helm h).g }
      else r = .next ((s.helmCycles h 2).helmFault h 6)
    let branch := fun (op : HOp) (i : Instr) (taken : Bool) (target : Int) (ends link : Bool) =>
      s.helmRuns h op (if taken then 2 else 1) = true →
        if taken then goesTo (exec i s) target ends link else passes (exec i s)
    branch .b (.b h u) (m.cond (wD x)) far true false ∧
    branch .bl (.bl h u) (m.cond (wD x)) far false true ∧
    branch .ret (.ret h u) (m.cond (wD x)) back false false ∧
    branch .cbz (.cbz h u) (m.reg (wD x) == 0) far true false ∧
    branch .cbnz (.cbnz h u) (m.reg (wD x) != 0) far true false

/-- R220, with R221's limit of four loops and R222's check at the end of a body. -/
def Obligations.HelmLoopRunsItsBodyBounded : Prop :=
  (∀ (s : State) (h : Fin 32) (u : Upset), s.wf = true → u ≠ .imemParity →
    let m := s.helm h
    let x := s.word_ h
    let e := (m.pc : Int) + ((BitVec.ofNat 20 (wOff20 x)).toInt)
    let n := min (m.reg (wD x)).toNat ([16, 256, 4096].getD (wKind x) 0)
    let k := if n = 0 then 2 else 1
    s.helmRuns h .loop k = true →
      wKind x < 3 ∧
      (if 4 ≤ m.loops.length then exec (.loop h u) s = .next ((s.helmCycles h k).helmFault h 1)
       else if e ≤ m.pc ∨ (m.codeWords : Int) ≤ e then exec (.loop h u) s = .next ((s.helmCycles h k).helmFault h 6)
       else ∃ t, exec (.loop h u) s = .next t ∧ OnlyHelm h s t ∧ SameMem s t ∧
        if n = 0 then t.helm h = { m.spent 2 with pc := (e.toNat + 1) % 4096 }
        else t.helm h = { m.spent 1 with
                            pc := (m.pc + 1) % 4096
                            loops := { first := m.pc + 1, last := e.toNat, left := n - 1 } :: m.loops })) ∧
  (∀ (m : Helm) (l : LoopSt) (ls : List LoopSt), m.loops = l :: ls → l.last = m.pc → l.left ≠ 0 →
    m.fallThrough = { m with pc := l.first, loops := { l with left := l.left - 1 } :: ls }) ∧
  (∀ (m : Helm) (l : LoopSt), m.loops = [l] → l.last = m.pc → l.left = 0 →
    m.fallThrough = { m with pc := (m.pc + 1) % 4096, loops := [] }) ∧
  (∀ (m : Helm), (∀ l ∈ m.loops, l.last ≠ m.pc) → m.fallThrough = { m with pc := (m.pc + 1) % 4096 })

/-- R176, R223 and Table MSI-6. R232 with Table MSI-12. -/
def Obligations.HelmLocalLoadsStoresAndTally : Prop :=
  (∀ (s : State) (h : Fin 32) (u : Upset), s.wf = true → u ≠ .imemParity →
    let m := s.helm h
    let x := s.word_ h
    let a := (m.reg (wA x) + (BitVec.ofNat 12 (wImm12 x)).signExtend 32).toNat
    let bad := u = .double ∨ m.badRam.contains (a / 4) = true
    let load := fun (op : HOp) (i : Instr) (n : Nat) (ext : Nat → Word) =>
      s.helmRuns h op 2 = true →
        (a % n ≠ 0 → exec i s = .next ((s.helmCycles h 2).helmFault h 5)) ∧
        (a % n = 0 → 0x1FFF < a + n - 1 → exec i s = .next ((s.helmCycles h 2).helmFault h 4)) ∧
        (a % n = 0 → a + n ≤ 0x2000 → bad → ∃ s' : State, exec i s = .next (s'.helmFault h 3)) ∧
        (a % n = 0 → a + n ≤ 0x2000 → ¬bad → u ≠ .single → ∃ t, exec i s = .next t ∧
          AluDone s h 2 (ext (leNat ((List.range n).map fun k => smGet 0 m.ram (a + k)))) m.flags t) ∧
        (a % n = 0 → a + n ≤ 0x2000 → ¬bad → u = .single → ∃ t, exec i s = .next t ∧
          (t.helm h).reg (wD x) = (if wD x = 0 then 0
            else ext (leNat ((List.range n).map fun k => smGet 0 m.ram (a + k)))))
    let store := fun (op : HOp) (i : Instr) (n : Nat) =>
      s.helmRuns h op 1 = true →
        (a % n ≠ 0 → exec i s = .next ((s.helmCycles h 1).helmFault h 5)) ∧
        (a % n = 0 → 0x1FFF < a + n - 1 → exec i s = .next ((s.helmCycles h 1).helmFault h 4)) ∧
        (a % n = 0 → a + n ≤ 0x2000 → ∃ t, exec i s = .next t ∧ OnlyHelm h s t ∧ SameMem s t ∧
          (∀ k, k < n → smGet 0 (t.helm h).ram (a + k) = (m.reg (wD x)).extractLsb' (8 * k) 8) ∧
          (∀ b, b < a ∨ a + n ≤ b → smGet 0 (t.helm h).ram b = smGet 0 m.ram b) ∧
          ¬ (t.helm h).badRam.contains (a / 4) = true ∧
          t.helm h = { (m.spent 1).fallThrough with ram := (t.helm h).ram, badRam := (t.helm h).badRam })
    load .ldw (.ldw h u) 4 (fun v => BitVec.ofNat 32 v) ∧
    load .ldh (.ldh h u) 2 (fun v => (BitVec.ofNat 16 v).zeroExtend 32) ∧
    load .ldhs (.ldhs h u) 2 (fun v => (BitVec.ofNat 16 v).signExtend 32) ∧
    load .ldb (.ldb h u) 1 (fun v => (BitVec.ofNat 8 v).zeroExtend 32) ∧
    load .ldbs (.ldbs h u) 1 (fun v => (BitVec.ofNat 8 v).signExtend 32) ∧
    store .stw (.stw h u) 4 ∧ store .sth (.sth h u) 2 ∧ store .stb (.stb h u) 1) ∧
  ((binOf 0 = 0 ∧ (∀ x, 0 < x → binOf x ≠ 0 ∧ 2 ^ (binOf x - 1) ≤ x ^ 8 ∧ x ^ 8 < 2 ^ binOf x) ∧
    ∀ x : Word, binOf x.toNat ≤ 256) ∧
  ∀ (s : State) (h : Fin 32) (u : Upset), s.wf = true → u = .none → s.helmRuns h .tally 3 = true →
    let m := s.helm h
    let x := s.word_ h
    let k := binOf (s.srcA h).toNat
    let a := ((s.srcB h).toNat + 4 * k) % 2 ^ 32
    let old := leNat ((List.range 4).map fun j => smGet 0 m.ram (a + j))
    (a % 4 ≠ 0 → exec (.tally h u) s = .next ((s.helmCycles h 3).helmFault h 5)) ∧
    (a % 4 = 0 → 0x1FFF < a + 3 → exec (.tally h u) s = .next ((s.helmCycles h 3).helmFault h 4)) ∧
    (a % 4 = 0 → a + 4 ≤ 0x2000 → m.badRam.contains (a / 4) = false → ∃ t, exec (.tally h u) s = .next t ∧
      OnlyHelm h s t ∧ SameMem s t ∧
      leNat ((List.range 4).map fun j => smGet 0 (t.helm h).ram (a + j)) = min (old + 1) 0xFFFFFFFF ∧
      (∀ b, b < a ∨ a + 4 ≤ b → smGet 0 (t.helm h).ram b = smGet 0 m.ram b) ∧
      (t.helm h).flags = (m.z, m.n, decide (old = 0xFFFFFFFF), m.v) ∧
      (∀ r, (t.helm h).reg r = if r = wD x ∧ r ≠ 0 then BitVec.ofNat 32 k else m.reg r)))

/-- R180 to R183, R224 and Table MSI-7. -/
def Obligations.FarAccessesStallPostAndDrain : Prop :=
  ∀ (s : State) (h : Fin 32) (u : Upset), s.wf = true → u ≠ .imemParity →
    let m := s.helm h
    let x := s.word_ h
    let swa := (m.reg (wA x) + (BitVec.ofNat 12 (wImm12 x)).signExtend 32).toNat
    let tr := fun (write : Bool) => (s.helmCycles h 1).translate (s.helmOwner h) swa write
    let issue := fun (op : HOp) (i : Instr) (kind : Nat) (write : Bool) =>
      s.helmRuns h op 1 = true →
        (swa % 4 ≠ 0 → exec i s = .next ((s.helmCycles h 1).helmFault h 5)) ∧
        (∀ a s', swa % 4 = 0 → tr write = (.ok a, s') → (kind = 1 → a < 0x800000) → ∃ t, exec i s = .next t ∧
          (∃ most, (t.helm h).stall = some { kind := kind, dpa := a, d := wD x, val := m.reg (wD x), most := most }) ∧
          (t.helm h).pc = m.pc ∧ (∀ r, (t.helm h).reg r = m.reg r) ∧ SameMem s t)
    issue .fld (.fld h u) 0 false ∧ issue .fadd (.fadd h u) 1 true ∧
    (s.helmRuns h .fadd 1 = true → ∀ a s', swa % 4 = 0 → tr true = (.ok a, s') → 0x800000 ≤ a →
      ∃ s'' : State, exec (.fadd h u) s = .next (s''.helmFault h 9)) ∧
    (∀ w, s.helmRuns h .fst 1 = true → m.posted.length < 4 →
      (swa % 4 ≠ 0 → exec (.fst h u w) s = .next ((s.helmCycles h 1).helmFault h 5)) ∧
      (∀ a s', swa % 4 = 0 → tr true = (.ok a, s') → ∃ t, exec (.fst h u w) s = .next t ∧
        (∃ f, (t.helm h).posted = m.posted ++ [f] ∧ f.dpa = a ∧ f.val = m.reg (wD x)) ∧
        (∀ r, (t.helm h).reg r = m.reg r) ∧ (t.helm h).flags = m.flags ∧ SameMem s t)) ∧
    (∀ w, s.helmRuns h .fsync 1 = true → m.posted = [] → ∃ t, exec (.fsync h u w) s = .next t ∧
      t.helm h = (m.spent 1).fallThrough ∧ OnlyHelm h s t ∧ SameMem s t) ∧
    (∀ f fs, m.posted = f :: fs → ∃ t, exec (.farStoreComplete h) s = .next t ∧
      (t.helm h) = { m with posted := fs } ∧
      (f.dpa % 4 = 0 → (∀ k, k < 4 → inLarder (f.dpa + k) = true ∨ s.inCellar (f.dpa + k) = true) →
        ∀ k, k < 4 → t.byteAt (f.dpa + k) = f.val.extractLsb' (8 * k) 8) ∧
      (∀ b, b < f.dpa ∨ f.dpa + 4 ≤ b → t.byteAt b = s.byteAt b) ∧ SameRegs [] s t) ∧
    (∀ f r k, m.stall = some f → m.run = some r → m.posted = [] → u = .none → k ≤ f.most → r.cycles + k ≤ r.limit →
      s.badWord f.dpa = false → inLarder f.dpa = true → inLarder (f.dpa + 3) = true → f.kind < 2 →
      ∃ t, exec (.farLoadComplete h u k) s = .next t ∧ (t.helm h).stall = none ∧
        (∀ d, (t.helm h).reg d = if d = f.d ∧ d ≠ 0 then BitVec.ofNat 32 (s.numAt f.dpa 4) else m.reg d) ∧
        (t.numAt f.dpa 4 = if f.kind = 1 then (s.numAt f.dpa 4 + f.val.toNat) % 2 ^ 32 else s.numAt f.dpa 4) ∧
        (∀ b, b < f.dpa ∨ f.dpa + 4 ≤ b → t.byteAt b = s.byteAt b) ∧ SameRegs [] s t)

/-- R185, R188, R226 to R228 and R231. R227, R229 with R481 and R484. -/
def Obligations.HelmOverheadAndChutePorts : Prop :=
  (∀ (s : State) (h : Fin 32) (u : Upset), s.wf = true → u ≠ .imemParity →
    let m := s.helm h
    let x := s.word_ h
    let n := [1, 2, 4].getD (wFnE x) 0
    let off := (s.srcA h + BitVec.ofNat 32 (wImm12 x)).toNat
    let kinds : List PortKind := [.sliceRx, .sliceTx, .chart]
    let unused := fun (r : Res) (k : Nat) (ok : List PortKind) =>
      (∀ q, m.port? (wPt x) = some q → q.kind ∉ ok) → r = .next ((s.helmCycles h k).helmFault h 7)
    let staged := fun (r : Res) (q : Port) (o : Nat) (b : Nat → Byte) =>
      ∃ t, r = .next t ∧ OnlyHelm h s t ∧ SameMem s t ∧
        t.helm h = { (m.spent 1).fallThrough with
          stagedOh := m.stagedOh ++ (((List.range n).filter fun i => o + i < s.portImage q).map fun i => (wPt x, o + i, b i)) }
    (s.helmRuns h .ohrd 2 = true →
      unused (exec (.ohrd h u) s) 2 kinds ∧
      ∀ q, m.port? (wPt x) = some q → q.kind ∈ kinds → ∃ t, exec (.ohrd h u) s = .next t ∧
        AluDone s h 2 (BitVec.ofNat 32 (leNat ((List.range n).map fun i => s.ohByte q (off + i)))) m.flags t) ∧
    (∀ q o, s.portImage q ≤ o → s.ohByte q o = 0) ∧
    (s.helmRuns h .ohwr 1 = true →
      unused (exec (.ohwr h u) s) 1 kinds ∧
      ∀ q, m.port? (wPt x) = some q → q.kind ∈ kinds →
        ((q.ro = true ∨ q.kind = .sliceRx) → exec (.ohwr h u) s = .next ((s.helmCycles h 1).helmFault h 8)) ∧
        (q.ro = false → q.kind ≠ .sliceRx →
          staged (exec (.ohwr h u) s) q off (fun i => (s.srcD h).extractLsb' (8 * i) 8))) ∧
    (∀ own, s.helmRuns h .ohwm 1 = true →
      unused (exec (.ohwm h u own) s) 1 kinds ∧
      ∀ q, m.port? (wPt x) = some q → q.kind ∈ kinds →
        ((q.ro = true ∨ q.kind = .sliceRx) → exec (.ohwm h u own) s = .next ((s.helmCycles h 1).helmFault h 8)) ∧
        (q.ro = false → q.kind ≠ .sliceRx →
          staged (exec (.ohwm h u own) s) q (wImm12 x) (fun i =>
            (s.ohBase h (wPt x) q own (wImm12 x + i) &&& ~~~((s.srcA h).extractLsb' (8 * i) 8)) |||
              ((s.srcD h).extractLsb' (8 * i) 8 &&& (s.srcA h).extractLsb' (8 * i) 8)))) ∧
    (s.helmRuns h .bipx 2 = true →
      unused (exec (.bipx h u) s) 2 [.sliceRx, .chart] ∧
      ∀ q, m.port? (wPt x) = some q → q.kind ∈ [PortKind.sliceRx, .chart] →
        (wImm12 x ∉ s.portItems q → exec (.bipx h u) s = .next ((s.helmCycles h 2).helmFault h 7)) ∧
        (wImm12 x ∈ s.portItems q → ∃ t r, exec (.bipx h u) s = .next t ∧ AluDone s h 2 r (s.znOf h r) t ∧
          (s.portShows q = false → r = 0) ∧
          (s.portShows q = true → r = BitVec.ofNat 32 (leAt q.bank (3 * wImm12 x) 3))))) ∧
  (∀ (s : State) (h : Fin 32) (u : Upset), s.wf = true → u ≠ .imemParity →
    let m := s.helm h
    let x := s.word_ h
    let p := prodHelm h (wPt x)
    let item := (s.srcA h).toNat * 2 ^ 32 + (s.srcD h).toNat
    let row := fun (op : HOp) (i : Instr) (after : Chute → Chute → Prop) => s.helmRuns h op 1 = true →
      ((∀ q, m.port? (wPt x) = some q → q.kind ≠ .chute) → exec i s = .next ((s.helmCycles h 1).helmFault h 7)) ∧
      ∀ q, m.port? (wPt x) = some q → q.kind = .chute →
        (q.ro = true → exec i s = .next ((s.helmCycles h 1).helmFault h 8)) ∧
        (q.ro = false → ∃ t, exec i s = .next t ∧ t.helm h = (m.spent 1).fallThrough ∧
          (∀ k, k ≠ h → t.helm k = s.helm k) ∧ SameMem s t ∧
          (∀ c, c ≠ objIndex q.src → t.chute c = s.chute c) ∧
          after (s.chute (objIndex q.src)) (t.chute (objIndex q.src)))
    let fresh := fun (c : Chute) => c.opened = [] ∧ c.gapDue = false ∧ 12 < c.room
    row .push (.push h u) (fun c c' => fresh c →
      c' = { c with opened := [{ producer := p, entries := [item], count := 1, cause := 0 }] }) ∧
    row .pushc (.pushc h u) (fun c c' => fresh c →
      c' = { c with hidden := c.hidden ++ [[{ data := item, sop := true, eop := true, gap := false }]] }) ∧
    row .rwd (.rwd h u) (fun c c' => c' = { c with opened := c.opened.filter fun o => o.producer ≠ p }))

/-- R234, with R233's staging. R235 and R236. -/
def Obligations.HelmDefectsAndPatternControl : Prop :=
  (∀ (s : State) (h : Fin 32) (u : Upset), s.wf = true → u ≠ .imemParity →
    let m := s.helm h
    let x := s.word_ h
    let code := wImm12 x % 256
    let kinds : List PortKind := [.sliceRx, .sliceTx, .chart]
    let faults := fun (r : Res) (c : Nat) => r = .next ((s.helmCycles h 1).helmFault h c)
    let row := fun (op : HOp) (i : Instr) (set : Bool) => s.helmRuns h op 1 = true →
      (code ∉ progCodes → faults (exec i s) 1) ∧
      (code ∈ progCodes → (∀ q, m.port? (wPt x) = some q → q.kind ∉ kinds) → faults (exec i s) 7) ∧
      ∀ q, m.port? (wPt x) = some q → q.kind ∈ kinds → code ∈ progCodes →
        (code ∉ s.portProgDefects q → faults (exec i s) 1) ∧
        (code ∈ s.portProgDefects q → q.ro = true → faults (exec i s) 8) ∧
        (code ∈ s.portProgDefects q → q.ro = false → ∃ t, exec i s = .next t ∧ OnlyHelm h s t ∧ SameMem s t ∧
          t.helm h = { (m.spent 1).fallThrough with stagedDef := m.stagedDef ++ [(wPt x, code, set)] })
    row .dset (.dset h u) true ∧ row .dclr (.dclr h u) false) ∧
  (∀ (s : State) (h : Fin 32) (u : Upset), s.wf = true → u ≠ .imemParity →
    let m := s.helm h
    let x := s.word_ h
    let row := fun (op : HOp) (i : Instr) (ctl : Bool) (ok : Bool) (after : Nat → Port → State → Prop) =>
      s.helmRuns h op 1 = true → ok = true →
      ((∀ q, m.port? (wPt x) = some q → q.kind ≠ .pattern) → exec i s = .next ((s.helmCycles h 1).helmFault h 7)) ∧
      ∀ q, m.port? (wPt x) = some q → q.kind = .pattern →
        (ctl = true → q.ro = true → exec i s = .next ((s.helmCycles h 1).helmFault h 8)) ∧
        ((ctl = true → q.ro = false) → ∃ t, exec i s = .next t ∧ (t.helm h).flags = m.flags ∧ SameMem s t ∧
          (t.helm h).pc = (m.spent 1).fallThrough.pc ∧ after (objIndex q.src) q t)
    let kept := fun (t : State) => ∀ r, (t.helm h).reg r = m.reg r
    let gets := fun (t : State) (v : Nat) => ∀ r, (t.helm h).reg r = if r = wD x ∧ r ≠ 0 then BitVec.ofNat 32 v else m.reg r
    let bit := fun (q : Port) => if q.sel = 0 then 0 else 1
    row .pstart (.pstart h u) true (decide (wImm12 x % 16 < 8)) (fun v q t =>
      kept t ∧ t.rd PU_CTL_CODE v = wImm12 x % 16 ∧ t.maskBit PU_CTL_RUN (bit q) v = true) ∧
    row .pstop (.pstop h u) true true (fun v q t => kept t ∧ t.maskBit PU_CTL_RUN (bit q) v = false ∧
      t.rd PU_CTL_CODE v = s.rd PU_CTL_CODE v) ∧
    row .perr (.perr h u) true true (fun v q t => kept t ∧ SameRegs [] s t ∧
      if q.sel = 0 then wImm12 x ≤ (t.pat v).perrLeft ∧ (s.pat v).perrLeft ≤ (t.pat v).perrLeft else t.pat v = s.pat v) ∧
    (∀ bits errs, row .prdc (.prdc h u bits errs) false true (fun v q t =>
      if q.sel = 0 then gets t 0 ∧ t.pat v = s.pat v
      else s.flag PU_STAT_SYNC v = false → gets t (s.pat v).progErr ∧ (t.pat v).progErr = 0 ∧ t.rd PU_ERR v = s.rd PU_ERR v)) ∧
    row .pstat (.pstat h u) false true (fun v q t =>
      if q.sel = 0 then gets t 0 ∧ t.pat v = s.pat v
      else gets t (s.rd PU_STAT_SYNC v + if (s.pat v).lostSince then 2 else 0) ∧ (t.pat v).lostSince = false) ∧
    row .pword (.pword h u) true true (fun v _ t => kept t ∧ t.rd PU_WORD_WORD v = (s.srcD h).toNat))

/-- R195 and R237. -/
def Obligations.HelmTimersArmReplaceAndCancel : Prop :=
  (∀ (s : State) (h : Fin 32) (u : Upset), s.wf = true → u ≠ .imemParity →
    let m := s.helm h
    let x := s.word_ h
    let n := wImm16 x
    let r := (s.srcD h).toNat % 16777216
    let tno := wFld x 16 2
    let us := (s.tm.device + 999) / 1000
    let armed := fun (i : Instr) (d : Nat) (per : Bool) => ∃ t, exec i s = .next t ∧ OnlyHelm h s t ∧ SameMem s t ∧
      (∀ k, smGet none (t.helm h).timers k =
        if k = tno then (if d = 0 then none else some { periodic := per, due := us + d, period := d })
        else smGet none m.timers k) ∧
      (t.helm h).queue = (if d = 0 then m.queue.filter (fun e => !(decide (e.kind = 6) && decide (e.cause = tno))) else m.queue) ∧
      t.helm h = { (m.spent 1).fallThrough with timers := (t.helm h).timers, queue := (t.helm h).queue }
    (s.helmRuns h .tarm 1 = true → armed (.tarm h u) n false) ∧
    (s.helmRuns h .tarmr 1 = true → armed (.tarmr h u) r false) ∧
    (s.helmRuns h .tper 1 = true → armed (.tper h u) n true) ∧
    (s.helmRuns h .tcan 1 = true → armed (.tcan h u) 0 false)) ∧
  (∀ (s : State) (h : Fin 32) (k : Fin 4) (x : Timer), s.wf = true → smGet none (s.helm h).timers k = some x →
    (s.tm.device < 1000 * x.due → exec (.helmTimerExpiry h k) s = .next s) ∧
    (1000 * x.due ≤ s.tm.device → (s.helm h).queue.any (fun e => decide (e.kind = 6) && decide (e.cause = k.val)) = true →
      ∃ t, exec (.helmTimerExpiry h k) s = .next t ∧ SameMem s t ∧ SameRegs [] s t ∧
        (t.helm h).queue.length = (s.helm h).queue.length ∧
        (∀ e ∈ (t.helm h).queue, e.kind = 6 → e.cause = k.val → e.ovf = true) ∧
        smGet none (t.helm h).timers k = if x.periodic then some { x with due := x.due + x.period } else none) ∧
    (1000 * x.due ≤ s.tm.device → (s.helm h).queue.any (fun e => decide (e.kind = 6) && decide (e.cause = k.val)) = false →
      (s.helm h).takesEvents = true → ((s.helm h).handlerFor 6 0).isSome = true → (s.helm h).queue.length < 32 →
      ∃ t, exec (.helmTimerExpiry h k) s = .next t ∧ SameMem s t ∧ SameRegs [] s t ∧
        (t.helm h).queue = (s.helm h).queue ++ [Event.mk 6 0 k false false ((s.helm h).fc.toNat % 32768) []]))

/-- R190, R193, R238, R239 and R545. -/
def Obligations.PostRaiseAndEndOfAHandler : Prop :=
  (∀ (s : State) (h : Fin 32) (u : Upset), s.wf = true → u ≠ .imemParity →
    let m := s.helm h
    let x := s.word_ h
    let n := s.helmOwner h
    let fired := fun (t : State) (k : Nat) => srcReserved k = false →
      (t.source k).st = (if (s.source k).st = 0 ∨ (s.source k).st = 2 then (s.source k).st + 1 else (s.source k).st) ∧
      (∀ j, j ≠ k → t.source j = s.source j) ∧ SameRegs [] s t
    (s.helmRuns h .post 1 = true → s.muted h = false → (s.sess n).phase = 0 → ∃ t s', exec (.post h u) s = .next t ∧
      s' = (s.helmCycles h 1).eqMessage n (leBytes 2 (256 + 8 * h + 1) ++ [0, 8] ++ leBytes 4 (s.srcD h).toNat ++
        leBytes 4 (s.srcA h).toNat ++ leBytes 2 (wImm12 x) ++ [0, 0]) ∧
      t = s'.helmNext h ∧ SameMem s t ∧ ∀ r, (t.helm h).reg r = m.reg r) ∧
    (s.helmRuns h .raise 1 = true → ∃ t, exec (.raise h u) s = .next t ∧ t.helm h = (m.spent 1).fallThrough ∧
      SameMem s t ∧ fired t (256 + 8 * h + wImm16 x) ∧ 2 ≤ wImm16 x ∧ wImm16 x ≤ 7) ∧
    (s.helmRuns h .raises 1 = true → s.muted h = false → ∃ t, exec (.raises h u) s = .next t ∧
      t.helm h = (m.spent 1).fallThrough ∧ SameMem s t ∧ fired t (768 + 16 * n + wImm16 x) ∧ wImm16 x ≤ 15) ∧
    (∀ w r, s.helmRuns h .fin 1 = true → m.posted = [] → m.stagedOh = [] → m.stagedDef = [] → m.run = some r →
      r.kind ≠ 0 → r.kind ≠ 1 → ∃ t, exec (.helmEnd h u w) s = .next t ∧ SameMem s t ∧
        t.helm h = { m.spent 1 with loops := [], run := none, lastKind := r.kind } ∧
        (∀ k, k < 16 → t.rd HM_REGS_G h k = (m.reg k).toNat))) ∧
  (∀ (s : State) (h : Fin 32) (idle : Nat) (im : Image) (e : Event) (q : List Event) (k : Nat), s.wf = true →
    let m := s.helm h
    m.run = none → m.image = some im → m.queue = e :: q → m.ps ≠ .faulted → e.kind ≠ 0 →
    im.handlerFor e.kind e.port = some k → k < im.handlers.length →
    ∃ t hd, exec (.eventDispatch h idle) s = .next t ∧ im.handlers[k]? = some hd ∧
      (t.helm h).queue = q ∧ (t.helm h).pc = hd.entry ∧
      (t.helm h).run = some { entry := k, kind := e.kind, port := e.port, cycles := 4, limit := hd.wcet + hd.wcet / 8 } ∧
      (t.helm h).flags = m.flags ∧ (∀ r, (t.helm h).reg r = m.reg r) ∧
      (e.kind < 16 → e.port < 8 → e.cause < 256 → e.stamp < 32768 →
        (t.helm h).ev = BitVec.ofNat 15 e.stamp ++ BitVec.ofBool e.set ++ BitVec.ofNat 8 e.cause ++
          BitVec.ofBool (e.ovf || m.ovf) ++ BitVec.ofNat 3 e.port ++ BitVec.ofNat 4 e.kind) ∧
      (e.kind = 7 → e.payload.length = 32 → ∀ j, j < 32 → smGet 0 (t.helm h).ram (0x1FE0 + j) = e.payload.getD j 0) ∧
      (e.kind ≠ 7 → (t.helm h).ram = m.ram) ∧ SameMem s t ∧ SameRegs [] s t)

/-- R198, R212 to R214 and R197's record of a fault. -/
def Obligations.ReservedWordsAndTheWatchdogFault : Prop :=
  helmOp 0 = none ∧
  (∀ (s : State) (h : Fin 32) (u : Upset) (r : Run), s.wf = true → (s.helm h).run = some r → (s.helm h).stall = none →
    helmOp (s.word_ h) = none →
    (r.limit < r.cycles + 1 → ∃ k, exec (.reservedEncoding h u) s = .next ((s.helmCycles h k).helmFault h 11)) ∧
    (r.cycles + 1 ≤ r.limit → u ≠ .imemParity →
      exec (.reservedEncoding h u) s = .next ((s.helmCycles h 1).helmFault h 1)) ∧
    (r.cycles + 1 ≤ r.limit → u = .imemParity →
      ∃ s' : State, exec (.reservedEncoding h u) s = .next (s'.helmFault h 2) ∧ s'.helm h = (s.helm h).spent 1)) ∧
  (∀ (s : State) (h : Fin 32) (f : FarOp) (r : Run), s.wf = true → (s.helm h).stall = some f → (s.helm h).run = some r →
    exec (.budgetAbort h) s = .next ((s.helmCycles h (r.limit + 1 - r.cycles)).helmFault h 11)) ∧
  (∀ (s : State) (h : Fin 32) (cause : Nat) (r : Run), s.wf = true → (s.helm h).run = some r → cause < 16 →
    (s.helm h).pc < 4096 → r.kind < 16 → (s.helm h).ps = .running → (s.helm h).ports = [] → (s.helm h).progDef = [] →
    (s.helm h).stopWait = false → r.kind ≠ 0 →
    let t := s.helmFault h cause
    t.rd HM_FAULT_CAUSE h = cause ∧ t.rd HM_FAULT_PC h = (s.helm h).pc ∧ t.rd HM_FAULT_KIND h = r.kind ∧
      (t.helm h).ps = .faulted ∧ (t.helm h).run = none ∧ (t.helm h).stagedOh = [] ∧ (t.helm h).stagedDef = [] ∧
      (t.helm h).queue = [] ∧ (t.helm h).loops = [] ∧ SameMem s t)

/-- R143 and Table OPS-5. The order of fields inside codes 1, 2 and 4 is the model's (log 58): only sizes are stated there. -/
def Obligations.NopAndQueriesAnswerTheirBytes : Prop :=
  ∀ (s : State) (n : Fin 16) (tag : Nat) (o : Op),
    (s.opRuns n tag 0 o → ∃ t, exec (.nop n tag) s = .next t ∧ Ends s t n tag 0 0 ∧ OnlyOp n tag s t ∧ SameMem s t) ∧
    (s.opRuns n tag 0x3F o →
      let row := fun (code : Nat) (i : Instr) (size : Nat) (content : List Byte → Prop) => o.par 0 = code →
        ∃ t data, exec i s = .next t ∧ data.length = size ∧ content data ∧
          EndsWith s t n tag (if size ≤ o.par 1 then 0 else 2) (size % 2 ^ 32) (data.take (o.par 1)) ∧
          OnlyOp n tag s t ∧ SameMem s t
      row 0 (.queryGlobal n tag) 12 (fun _ => True) ∧
      row 1 (.querySession n tag) 24 (fun _ => True) ∧
      ((s.op? n (o.par 2)).isSome = true → row 2 (.queryOperation n tag) 16 (fun _ => True)) ∧
      row 3 (.queryObject n tag) (s.queryObject o.obj).length (fun d => d = s.queryObject o.obj) ∧
      row 4 (.queryLink n tag) 16 (fun _ => True) ∧
      row 5 (.queryPower n tag) 12 (fun d => d = leBytes 4 s.allowance ++ leBytes 4 (s.rd SES_POWER_RESERVE_MW n) ++
        leBytes 4 (s.charged n)))

/-- R133, R135, R136 and R537. -/
def Obligations.DoorbellsMoveTheRingsOrAreCounted : Prop :=
  ∀ (s : State) (n : Fin 16), s.wf = true →
    let u := s.tlpIn
    let x := u.sess n
    let counts := fun (r : Res) (q : Nat) => ∃ t, r = .next t ∧
      t = u.wr SQ_STAT_RING_ERR (min (2 ^ SQ_STAT_RING_ERR.width - 1) (u.rd SQ_STAT_RING_ERR n q + 1)) n q ∧ SameMem s t
    (∀ q tail, u.bellOn n = false → exec (.sqDoorbell n q tail) s = .next u) ∧
    (∀ head, u.bellOn n = false → exec (.cqDoorbell n head) s = .next u ∧ exec (.eqHeadDoorbell n head) s = .next u) ∧
    (u.bellOn n = true →
      (∀ (q : Fin 4) (tail : Fin 4096),
        (u.flag SQ_CFG_EN n q = false ∨ u.sqSize n q ≤ tail → counts (exec (.sqDoorbell n q tail) s) q) ∧
        (u.flag SQ_CFG_EN n q = true → tail.val < u.sqSize n q → ∃ t, exec (.sqDoorbell n q tail) s = .next t ∧
          t.rd SQ_STAT_TAIL n q = tail ∧ SameMem s t)) ∧
      (∀ (head : Fin 4096),
        let size := 2 ^ ringLog2 (u.rd CQ_CFG_LOG2_SIZE n)
        (u.flag CQ_CFG_EN n = false ∨ size ≤ head.val → counts (exec (.cqDoorbell n head) s) 0) ∧
        (∀ d, u.flag CQ_CFG_EN n = true → x.cqRead ≤ x.cqWritten → x.cqRead + d ≤ x.cqWritten → d < size →
          head.val = (x.cqRead + d) % size → ∃ t, exec (.cqDoorbell n head) s = .next t ∧
            (t.sess n).cqRead = x.cqRead + d ∧ (t.sess n).cqWritten = x.cqWritten ∧ SameMem s t)) ∧
      (∀ (head : Fin 4096),
        let size := u.eqSize n
        (u.flag EQ_CFG_EN n = false ∨ size ≤ head.val → counts (exec (.eqHeadDoorbell n head) s) 0) ∧
        (∀ d, u.flag EQ_CFG_EN n = true → x.eqRead + d ≤ x.eqWritten → d < size →
          head.val = (x.eqRead + d) % size → ∃ t, exec (.eqHeadDoorbell n head) s = .next t ∧
            (t.sess n).eqRead = x.eqRead + d ∧ SameMem s t ∧
            (∀ k, (u.source k).st = 2 → (u.source k).holder = n.val → (u.source k).pos < x.eqRead + d →
              (t.source k).st = 0) ∧
            (∀ k, (u.source k).st = 3 → (u.source k).holder = n.val → (u.source k).pos < x.eqRead + d →
              (t.source k).st = 1) ∧
            (∀ k, (u.source k).holder ≠ n.val → t.source k = u.source k))))

/-- R103 to R106. -/
def Obligations.HostReadsCompleteFailAndQuarantineTheirTags : Prop :=
  ∀ (s : State) (tag : Fin 64), s.wf = true →
    (s.waiting? tag = none → ∀ d l k, exec (.submissionFetchDone tag d) s = .next s ∧
      exec (.hostReadCompletion tag l) s = .next s ∧ exec (.completionTimeout tag) s = .next s ∧
      exec (.badCompletion tag k) s = .next s) ∧
    (∀ r n t, s.waiting? tag = some r → r.purpose = .data n t → ∀ o, s.op? n t = some o → o.live = true →
      (∀ data, r.discard = false → ∃ t', exec (.hostReadCompletion tag data) s = .next t' ∧
        (∃ o', t'.op? n t = some o' ∧ o'.data = o.data ++ sliceBytes data 0 r.len ∧ o'.want = o.want - r.len ∧ o'.fin = none) ∧
        SameMem s t') ∧
      (∀ data, r.discard = true → ∃ t', exec (.hostReadCompletion tag data) s = .next t' ∧ SameMem s t' ∧
        t'.op? n t = some o) ∧
      (s.clock < r.issued + 1000000 * (s.fn r.func).ctoMs → exec (.completionTimeout tag) s = .next s) ∧
      (r.issued + 1000000 * (s.fn r.func).ctoMs ≤ s.clock → r.discard = false → o.st ≠ .halted →
        ∃ t', exec (.completionTimeout tag) s = .next t' ∧ Ends s t' n t 0x17 0 ∧ SameMem s t' ∧
          t'.rd GL_HOST_ERR_CTO = min (2 ^ GL_HOST_ERR_CTO.width - 1) (s.rd GL_HOST_ERR_CTO + 1)) ∧
      (∀ kind : Fin 3, r.discard = false → o.st ≠ .halted →
        ∃ t', exec (.badCompletion tag kind) s = .next t' ∧ Ends s t' n t 0x17 (kind.val + 1) ∧ SameMem s t' ∧
          t'.rd GL_HOST_ERR_BADCPL = min (2 ^ GL_HOST_ERR_BADCPL.width - 1) (s.rd GL_HOST_ERR_BADCPL + 1))) ∧
    (∀ r (n q : Nat), s.waiting? tag = some r → r.purpose = .fetch n q → q < 4 → (s.sess n).fetched.length = 4 →
      (∀ data, r.discard = false → s.tlpIn.flag SQ_CFG_EN n q = true → data.length = r.len → r.len % 64 = 0 →
        ∃ t, exec (.submissionFetchDone tag (some data)) s = .next t ∧ SameMem s t ∧
          ((t.sess n).fetched.getD q []).flatten = ((s.sess n).fetched.getD q []).flatten ++ data ∧
          t.rd SQ_STAT_HEAD n q = (s.tlpIn.rd SQ_STAT_HEAD n q + r.len / 64) % s.tlpIn.sqSize n q) ∧
      (∃ t, exec (.submissionFetchDone tag none) s = .next t ∧ SameMem s t ∧ (t.sess n).fetchHold.testBit q = true ∧
        t.rd GL_HOST_ERR_BADCPL = min (2 ^ GL_HOST_ERR_BADCPL.width - 1) (s.rd GL_HOST_ERR_BADCPL + 1))) ∧
    (s.host.reads.any (fun r => decide (r.tag = tag.val) && r.abandoned) = true →
      ∃ t, exec (.unexpectedCompletion tag) s = .next t ∧ SameMem s t ∧
        t.rd GL_HOST_ERR_UNEXP = min (2 ^ GL_HOST_ERR_UNEXP.width - 1) (s.rd GL_HOST_ERR_UNEXP + 1)) ∧
    (s.host.reads.any (fun r => decide (r.tag = tag.val) && r.abandoned) = false →
      exec (.unexpectedCompletion tag) s = .next s) ∧
    (∀ r, s.host.reads.find? (fun r => decide (r.tag = tag.val) && r.abandoned) = some r →
      (s.clock < r.issued + 1000000 * (s.fn r.func).ctoMs → exec (.tagQuarantineEnd tag) s = .next s) ∧
      (r.issued + 1000000 * (s.fn r.func).ctoMs ≤ s.clock → ∃ t, exec (.tagQuarantineEnd tag) s = .next t ∧
        (∀ x ∈ t.host.reads, x.abandoned = true → x.tag ≠ tag.val) ∧ SameMem s t))

/-- R101, R147, R148, R151, R154 and R167. -/
def Obligations.RecordsAreAdmittedStartedAndCompleted : Prop :=
  (∀ (s : State) (n q : Nat) (b : List Byte), s.wf = true → s.admits = true → s.nextSes? = some n →
    (s.sess n).nextRec? = some (q, b) →
    let o := { parseRec n q b with seq := s.nextSeq, admitTime := s.clock, admitDev := s.tm.device }
    let need := if o.opcode = 0x38 then 2 else 1
    (s.slotsFree n < need → ∃ t, exec .admitRecord s = .next t ∧ t = s.wr CQ_STAT_HELD 1 n) ∧
    (∀ st cause, need ≤ s.slotsFree n → s.admitCheck n b o = some (st, cause) → ∃ t, exec .admitRecord s = .next t ∧
      SameMem s t ∧ (∃ x ∈ t.ops, x.refused = true ∧ x.sess = n ∧ x.tag = o.tag ∧
        x.fin = some { status := st, result := cause, time := s.stamp })) ∧
    (need ≤ s.slotsFree n → s.admitCheck n b o = none → o.deferred = false → ∃ t, exec .admitRecord s = .next t ∧
      SameMem s t ∧ (∃ x ∈ t.ops, x.refused = false ∧ x.sess = n ∧ x.tag = o.tag ∧ x.opcode = o.opcode ∧ x.fin = none ∧
        x.p = o.p ∧ x.haddr = o.haddr ∧ x.est = estimate o ∧ x.slots = need ∧
        x.st = (if isControl o.opcode then .running else .queued) ∧ x.started = isControl o.opcode))) ∧
  (∀ (s : State), s.admits = false → exec .admitRecord s = .next s) ∧
  (∀ (s : State) (n : Fin 16) (tag : Nat) (o : Op), s.wf = true → s.op? n tag = some o → o.st = .queued → o.waits = true →
    o.stage ≠ 8 → s.working = true → s.mayStart o = true →
    ∃ t, exec (.operationStart n tag) s = .next t ∧ SameMem s t ∧
      t.op? n tag = some { o with st := .running, started := true, want := hostBytes o }) ∧
  (∀ (s : State) (n : Fin 16) (o : Op) (e : OpEnd), s.wf = true → s.nextEnded? n = some o → o.fin = some e → o.outp = [] →
    o.sess = n → (s.fn n).bme = true → resultOpen o e = false →
    ∃ t, exec (.operationEnd n o.tag) s = .next t ∧ SameMem s t ∧
      t.host.staging = s.host.staging ++
        [.record n (s.rd CQ_BASE_ADDR n * 4096 + 16 * s.rd CQ_STAT_TAIL n)
          (leBytes 2 o.tag ++ leBytes 1 e.status ++
            leBytes 1 (s.rd CQ_STAT_PHASE n + o.ring % 4 * 2 + (if e.status = 0x1B then 8 else 0)) ++
            leBytes 4 e.result ++ leBytes 6 e.time ++ leBytes 2 o.obj), .msix n 1] ∧
      (s.rd CQ_STAT_TAIL n < 2 ^ ringLog2 (s.rd CQ_CFG_LOG2_SIZE n) →
        t.rd CQ_STAT_TAIL n = (s.rd CQ_STAT_TAIL n + 1) % 2 ^ ringLog2 (s.rd CQ_CFG_LOG2_SIZE n)))

/-- R159 to R164. -/
def Obligations.SuspendResumeAndCancelReportTheirOutcome : Prop :=
  ∀ (s : State) (n : Fin 16) (tag bits errs : Nat) (o : Op), s.wf = true →
    s.ops.any (fun y => decide (y.sess = n.val) && y.live && isControl y.opcode && decide (y.seq < o.seq)) = false →
    let target := s.op? n (o.par 0)
    let drops := (List.range 32).map fun h => HM_EVQ_DROP.key h 0
    let row := fun (opcode : Nat) (i : Instr) => s.opRuns n tag opcode o → o.par 0 ≠ tag →
      (target = none → ∃ t, exec i s = .next t ∧ Ends s t n tag 0 1 ∧ OnlyOp n tag s t) ∧
      (∀ x, target = some x → isLong x.opcode = false → ∃ t, exec i s = .next t ∧ Ends s t n tag 0x1D 4 ∧ OnlyOp n tag s t) ∧
      (∀ x, target = some x → isLong x.opcode = true → x.fin ≠ none → ∃ t, exec i s = .next t ∧ Ends s t n tag 0 3 ∧
        OnlyOp n tag s t)
    row 0x30 (.suspend n tag bits errs) ∧ row 0x31 (.resume n tag) ∧ row 0x32 (.cancel n tag bits errs) ∧
    (∀ x, target = some x → isLong x.opcode = true → x.fin = none → ¬ (x.opcode = 0x19 ∧ x.stage = 1) → o.par 0 ≠ tag →
      (x.st = .suspended → s.opRuns n tag 0x30 o → ∃ t, exec (.suspend n tag bits errs) s = .next t ∧ Ends s t n tag 0 2 ∧
        OnlyOp n tag s t) ∧
      (x.st = .running → s.opRuns n tag 0x31 o → ∃ t, exec (.resume n tag) s = .next t ∧ Ends s t n tag 0 2 ∧ OnlyOp n tag s t) ∧
      (x.opcode = 0x21 → x.st = .running → s.opRuns n tag 0x30 o →
        ∃ t, exec (.suspend n tag bits errs) s = .next t ∧ Ends s t n tag 0 0 ∧
          t.op? n (o.par 0) = some { x with st := .suspended } ∧ SameRegs drops s t ∧ SameMem s t) ∧
      (x.opcode = 0x21 → x.st = .suspended → x.started = true → s.opRuns n tag 0x31 o →
        ∃ t, exec (.resume n tag) s = .next t ∧ Ends s t n tag 0 0 ∧
          t.op? n (o.par 0) = some { x with st := .running } ∧ SameRegs drops s t ∧ SameMem s t) ∧
      (x.opcode = 0x21 → x.st = .running → s.opRuns n tag 0x32 o →
        ∃ t, exec (.cancel n tag bits errs) s = .next t ∧ Ends s t n tag 0 0 ∧ SameMem s t ∧
          Ends s t n (o.par 0) 1 ((match s.cap? n (o.par 0) with | some k => k.delivered | none => 0) % 2 ^ 32)))

/-- R116 to R119, R122, R123. That L1.2 is left for L0, and what LINK_UP and D_STATE_WRITE carry, is the model's (log 43). -/
def Obligations.TheLinkTrainsSleepsAndWakes : Prop :=
  ∀ (s : State), s.wf = true →
    (∀ (sp : Fin 4) (x2 aspm : Bool),
      (s.eDieOn = true → s.host.perst = false → s.boot.phase ≠ 3 →
        Does (.linkUp sp x2 aspm) s [GL_LINK_STAT_LINK.key 0 0, GL_LINK_STAT_SPEED.key 0 0, GL_LINK_STAT_WIDTH.key 0 0]
          (fun t => t.rd GL_LINK_STAT_LINK = 1 ∧ t.rd GL_LINK_STAT_SPEED = sp ∧
            t.rd GL_LINK_STAT_WIDTH = (if x2 then 2 else 1) ∧ t.host.aspmL1 = aspm)) ∧
      (s.host.perst = true → Idle (.linkUp sp x2 aspm) s)) ∧
    (s.working = true →
      (s.host.aspmL1 = true → s.rd GL_LINK_STAT_LINK = 1 →
        s.host.idleSince + 1000 * max 1 (s.rd GL_HOST_CTL_L1_IDLE) ≤ s.clock →
        Does (.l1Entry false) s [GL_LINK_STAT_LINK.key 0 0] (fun t => t.rd GL_LINK_STAT_LINK = 2 ∧ t.host = s.host) ∧
        Does (.l1Entry true) s [GL_LINK_STAT_LINK.key 0 0]
          (fun t => t.rd GL_LINK_STAT_LINK = 3 ∧ t.host = { s.host with clkreqLow := false })) ∧
      (s.rd GL_LINK_STAT_LINK = 3 →
        Does .l12Exit s [GL_LINK_STAT_LINK.key 0 0] (fun t => t.rd GL_LINK_STAT_LINK = 1 ∧ t.host.clkreqLow = true)) ∧
      (1 ≤ s.rd GL_LINK_STAT_LINK → s.rd GL_LINK_STAT_LINK ≤ 3 →
        Does .l2L3Ready s [GL_LINK_STAT_LINK.key 0 0] (fun t => t.rd GL_LINK_STAT_LINK = 4)) ∧
      (∀ v : Word, Does (.ltrUpdate v) s [GL_HOST_CTL_STALL.key 0 0, GL_HOST_CTL_L1_IDLE.key 0 0, GL_HOST_CTL_LTR_US.key 0 0,
          GL_LINK_STAT_LINK.key 0 0, KP_DOM.key 0 0, KP_PWR_STAT_EDIE.key 0 0]
        (fun t => t.rd GL_HOST_CTL_STALL = v.toNat % 512 ∧ t.rd GL_HOST_CTL_L1_IDLE = v.toNat / 512 % 1024 ∧
          t.rd GL_HOST_CTL_LTR_US = v.toNat / 2 ^ 19 % 1024 ∧ t.out = s.out ++ [.ltr (v.toNat / 2 ^ 19 % 1024)]))) ∧
    (∀ deep, s.host.aspmL1 = false ∨ s.rd GL_LINK_STAT_LINK ≠ 1 → Idle (.l1Entry deep) s) ∧
    (s.rd GL_LINK_STAT_LINK ≠ 3 → Idle .l12Exit s) ∧
    (s.ready = false → s.eDieOn = true → s.boot.phase ≠ 3 → Does .configRetry s [] (fun t => t = { s with out := s.out ++ [.pcie 1] })) ∧
    (s.ready = true → Idle .configRetry s ∧ Does .bar2Atomicop s [GL_LINK_STAT_LINK.key 0 0, KP_DOM.key 0 0, KP_PWR_STAT_EDIE.key 0 0]
        (fun t => t.out = s.out ++ [.pcie 0]) ∧
      ∀ d3 pme, Does (.dStateWrite d3 pme) s [GL_LINK_STAT_LINK.key 0 0]
        (fun t => t.host.d3hot = d3 ∧ t.host.pmeEn = pme))

/-- R120, R121, R124, R528. -/
def Obligations.LossOfTheLinkAndStalledStagingAreFatal : Prop :=
  ∀ (s : State), s.wf = true →
    (s.working = true → s.rd KP_PWR_STAT_EDIE ≤ 2 →
      (1 ≤ s.rd GL_LINK_STAT_LINK → s.rd GL_LINK_STAT_LINK ≤ 3 →
        (∃ t, exec .linkDown s = .next t ∧ FatalIn s t 1 0 ∧ t.rd GL_LINK_STAT_LINK = 0) ∧
        (s.host.perst = false → ∃ t, exec .perstAssert s = .next t ∧ FatalIn s t 1 1 ∧ t.rd GL_LINK_STAT_LINK = 0 ∧
          t.host.perst = true)) ∧
      (s.host.staging ≠ [] → s.host.creditAt + 10000000 * max 10 (s.rd GL_HOST_CTL_STALL) ≤ s.clock →
        ∃ t, exec .stagingStall s = .next t ∧ FatalIn s t 1 2) ∧
      (∀ m : Fin 16, ∃ t, exec (.matrixStall m) s = .next t ∧ FatalIn s t 2 m)) ∧
    (s.host.staging = [] ∨ s.clock < s.host.creditAt + 10000000 * max 10 (s.rd GL_HOST_CTL_STALL) → Idle .stagingStall s) ∧
    (s.rd GL_LINK_STAT_LINK = 0 ∨ s.rd GL_LINK_STAT_LINK = 4 → Idle .linkDown s) ∧
    (s.host.perst = true → Idle .perstAssert s) ∧
    (s.host.perst = false → s.kDieOn = true → Idle .perstDeassert s) ∧
    (s.host.perst = true → s.beaconUp = true → s.keep.entry = none → s.kDieOn = true →
      Does .perstDeassert s [] (fun t => t.host.perst = false ∧ t.host.wakeLow = false ∧
        ∃ cause data, Fired s t 5 cause data))

/-- R106 to R108, R110 and R526. -/
def Obligations.BusMasterEnableHaltsAndCreditsDrain : Prop :=
  ∀ (s : State) (n : Fin 16), s.wf = true →
    ((s.fn n).bme = false → Idle (.bmeClear n) s) ∧
    ((s.fn n).bme = true → Does (.bmeClear n) s [] fun t =>
      (t.fn n).bme = false ∧ (∀ r ∈ t.host.reads, r.func = n → r.discard = true) ∧
      (∀ o ∈ t.ops, o.sess = n → o.live = true → o.st = .halted) ∧
      (∀ o ∈ s.ops, o.sess = n → o.live = true → o.st ≠ .halted → { o with st := .halted, prev := o.st } ∈ t.ops) ∧
      (∀ m : Fin 16, m ≠ n → t.fn m = s.fn m)) ∧
    (s.ready = true → s.fnEnabled n = true → (∀ o ∈ s.ops, o.prev ≠ .halted) → ∀ cto : Option Nat,
      ((s.fn n).bme = true → Does (.bmeSet n cto) s [] fun t =>
        t.fn n = (match cto with | some k => { s.fn n with ctoMs := k } | none => s.fn n) ∧ t.ops = s.ops) ∧
      ((s.fn n).bme = false → DoesWide (.bmeSet n cto) s fun t =>
        (t.fn n).bme = true ∧ (∀ k, cto = some k → (t.fn n).ctoMs = k) ∧ ∀ o ∈ t.ops, o.sess = n → o.st ≠ .halted)) ∧
    (s.linkCarries = true →
      (∀ x l, s.host.staging = x :: l → s.funcCarries x.func = true →
        Does (.pcieCreditReturn 1) s [GL_LINK_STAT_LINK.key 0 0] fun t => t.host.staging = l ∧ t.host.creditAt = s.clock ∧
          t.out = s.out ++ [match x with
            | .data f a b => .hostWrite f a b
            | .event f a b => .hostWrite f a b
            | .record f a b => .hostWrite f a b
            | .msix f v => .msix f v]) ∧
      ((∀ x ∈ s.host.staging, s.funcCarries x.func = false) → ∀ k,
        Does (.pcieCreditReturn k) s [] fun t => t.out = s.out ∧ t.host.staging = s.host.staging)) ∧
    (s.linkCarries = false → ∀ k, Idle (.pcieCreditReturn k) s)

/-- R43, R48, R49, R52, R57, R60 and R90. -/
def Obligations.SessionsAreOpenedGrantedAndWatched : Prop :=
  ∀ (s : State) (n : Fin 16) (tag : Nat) (o : Op), s.wf = true →
    (s.opRuns n tag 1 o → ∀ place,
      (o.par 0 = 0 ∨ 16 ≤ o.par 0 → OpDoes (.sessionOpen n tag place) s n tag 0x14 4 [] (fun t => OnlyOp n tag s t)) ∧
      (1 ≤ o.par 0 → o.par 0 < 16 →
        (s.fnEnabled (o.par 0) = false → OpDoes (.sessionOpen n tag place) s n tag 0x1D 5 [] (fun t => OnlyOp n tag s t)) ∧
        (s.fnEnabled (o.par 0) = true → s.sesState (o.par 0) ≠ 0 →
          Does (.sessionOpen n tag place) s [] (fun t => EndsAs t n tag 0x10 ∧ OnlyOp n tag s t)) ∧
        (s.fnEnabled (o.par 0) = true → s.sesState (o.par 0) = 0 → o.par 1 = 0 → ∀ base,
          (s.sess (o.par 0)).windows = [] → s.limitCheck (o.par 0) o true = none → s.allRuns (o.par 0) [] ≤ 2048 →
          s.baseOk (o.par 0) base [] = true →
          ∃ t, exec (.sessionOpen n tag (some { base := base, pages := [] })) s = .next t ∧ Ends s t n tag 0 0 ∧
            t.rd SES_CTL_STATE (o.par 0) = 1 ∧ t.rd SES_CTL_QUOTA (o.par 0) = 64 ∧ t.rd SES_CTL_MAPC_SHARE (o.par 0) = 4 ∧
            t.rd SES_POWER_RESERVE_MW (o.par 0) = 0 ∧ (t.sess (o.par 0)).tables = [base] ∧
            (∀ i, i < 8192 → t.byteAt (base + i) = 0) ∧
            (∀ a, a < base ∨ base + 8192 ≤ a → t.byteAt a = s.byteAt a)))) ∧
    (s.opRuns n tag 3 o → o.par 0 < 256 → (s.own.scrubs.any fun r => r.kind = 0 && r.tag = some o.tag) = false → ∀ place,
      let m := o.par 0 % 16
      (s.sesState m = 0 → OpDoes (.grant n tag place) s n tag 0x14 4 [] (fun t => OnlyOp n tag s t)) ∧
      (3 ≤ s.sesState m → Does (.grant n tag place) s [] (fun t => EndsAs t n tag 0x10 ∧ OnlyOp n tag s t)) ∧
      (s.sesState m = 1 ∨ s.sesState m = 2 → s.limitCheck m o false = none →
        (s.sess m).windows = [] → s.allRuns m [] ≤ 2048 →
        (o.par 5 = 0 → DoesWide (.grant n tag none) s fun t => Ends s t n tag 0 (0xFFFF + (0x6000 + m) * 65536) ∧
          t.rd SES_CTL_QUOTA m = (if (o.par 0).testBit 4 then o.par 1 else s.rd SES_CTL_QUOTA m) ∧ t.own = s.own) ∧
        (∀ p : Fin 2048, o.par 5 = 1 → 1 ≤ m → s.ownerOf (0x8000 + p) = 0 → s.objBusy (0x8000 + p) = false →
          s.inUse 0 (0x8000 + p) = false →
          o.data = leBytes 2 0 ++ leBytes 2 (0x8000 + p) ++ leBytes 4 1 ++ leBytes 8 0 →
          DoesWide (.grant n tag none) s fun t => Ends s t n tag 0 (0xFFFF + (0x6000 + m) * 65536) ∧
            t.ownerOf (0x8000 + p) = m ∧ ∀ x, x ≠ 0x8000 + p.val → t.ownerOf x = s.ownerOf x))) ∧
    (s.opRuns n tag 4 o → ∀ i : Fin 24, o.obj = sliceObj i →
      let w := o.par 0 % 16
      (32 ≤ o.par 0 → OpDoes (.watchGrant n tag) s n tag 0x14 4 [] (fun t => OnlyOp n tag s t)) ∧
      (o.par 0 < 16 →
        (w = 0 ∨ w = n ∨ s.sesState w = 0 ∨ 3 ≤ s.sesState w →
          OpDoes (.watchGrant n tag) s n tag 0x14 4 [] (fun t => OnlyOp n tag s t)) ∧
        (w ≠ 0 → w ≠ n → s.sesState w = 1 ∨ s.sesState w = 2 →
          (s.watches w i = true → OpDoes (.watchGrant n tag) s n tag 0 0 [] (fun t => OnlyOp n tag s t)) ∧
          (s.watches w i = false → 4 ≤ (s.own.watches.filter fun x => x.1 = i.val).length →
            Does (.watchGrant n tag) s [] (fun t => EndsAs t n tag 0x10 ∧ OnlyOp n tag s t)) ∧
          (s.watches w i = false → (s.own.watches.filter fun x => x.1 = i.val).length < 4 →
            OpDoes (.watchGrant n tag) s n tag 0 0 [] (fun t => t.watches w i = true ∧
              ∀ v k, (v, k) ≠ (w, i.val) → t.watches v k = s.watches v k)))) ∧
      (16 ≤ o.par 0 → o.par 0 < 32 → s.watches w i = false → OpDoes (.watchGrant n tag) s n tag 0 0 [] (fun t => OnlyOp n tag s t)) ∧
      (16 ≤ o.par 0 → o.par 0 < 32 → s.watches w i = true → n.val ≠ w → (∀ y ∈ s.ops, y.sess ≠ w) →
        (s.portsWhere fun h q => s.helmOwner h = w && q.src = sliceObj i && !q.cut) = [] →
        DoesWide (.watchGrant n tag) s (fun t => Ends s t n tag 0 0 ∧ t.watches w i = false)))

/-- R45, R46, R70, R72, R93, R96 and R112. -/
def Obligations.SessionResetCloseAndFlrWaitAndScrub : Prop :=
  ∀ (s : State) (n : Fin 16), s.wf = true →
    let held := ∃ r ∈ s.host.reads, r.func = n.val ∧ r.abandoned = false ∧ s.clock < r.issued + 1000000 * (s.fn n).ctoMs
    let quiet := (∀ o ∈ s.ops, o.sess ≠ n) ∧ (∀ r ∈ s.host.reads, r.func ≠ n) ∧ s.helmsOf n = []
    (s.working = true → n.val ≠ 0 → s.sesTakes n = true → (s.sess n).closing = false →
      (held → Does (.sessionReset n) s [SES_CTL_STATE.key n 0, GL_LINK_STAT_LINK.key 0 0, KP_DOM.key 0 0, KP_PWR_STAT_EDIE.key 0 0]
        (fun t => t.rd SES_CTL_STATE n = 3 ∧ (t.sess n).prev = s.sesState n ∧ t.ops = s.ops)) ∧
      (quiet → ∃ t, exec (.sessionReset n) s = .next t ∧ t.rd SES_CTL_STATE n = 3 ∧ (t.sess n).prev = s.sesState n ∧
        (∀ p ∈ s.pagesOf n, ∀ i, i < 4096 → t.byteAt (p * 4096 + i) = 0) ∧ ∃ r ∈ t.own.scrubs, r.sess = n ∧ r.kind = 1) ∧
      (s.fnEnabled n = true → (s.fn n).flr = none →
        (held → Does (.vfFlr n) s [SES_CTL_STATE.key n 0] (fun t => t.rd SES_CTL_STATE n = 3 ∧ (t.fn n).bme = false ∧
          (t.fn n).flr = some s.clock ∧ ∀ r ∈ t.host.reads, r.func = n → r.discard = true)) ∧
        (quiet → ∃ t, exec (.vfFlr n) s = .next t ∧ t.rd SES_CTL_STATE n = 3 ∧ t.fn n = Fn.init)) ∧
      (∀ (m : Fin 16) tag o, s.opRuns m tag 2 o → o.stage = 0 → o.par 0 = n → held →
        Does (.sessionClose m tag) s [SES_CTL_STATE.key n 0] (fun t => t.rd SES_CTL_STATE n = 4 ∧ (t.sess n).closing = true ∧
          t.op? m tag = some { o with stage := 1 }))) ∧
    (∀ (m : Fin 16) tag o, s.opRuns m tag 2 o → o.par 0 = 0 ∨ 16 ≤ o.par 0 ∨ s.sesState (o.par 0) = 0 →
      OpDoes (.sessionClose m tag) s m tag 0x14 4 [] (fun t => OnlyOp m tag s t)) ∧
    (s.working = true → Does (.sessionReset 0) s [GL_LINK_STAT_LINK.key 0 0, KP_DOM.key 0 0, KP_PWR_STAT_EDIE.key 0 0]
      (fun t => t.sessions = s.sessions ∧ t.ops = s.ops ∧ t.own = s.own)) ∧
    (∀ (k : Nat) (r : Scrub), s.own.scrubs[k]? = some r →
      ((∃ e ∈ r.ends, s.clock < e) → Idle (.scrubDone k) s) ∧
      ((∀ e ∈ r.ends, e ≤ s.clock) →
        (∀ tag o, r.kind = 0 → r.tag = some tag → s.op? 0 tag = some o → o.fin = none → o.st ≠ .halted →
          OpDoes (.scrubDone k) s 0 tag 0 (r.result % 2 ^ 32) [] (fun t => t.own.scrubs = s.own.scrubs.eraseIdx k)) ∧
        (r.kind = 1 → r.sess = n → n.val ≠ 0 → (s.sess n).closing = false → s.objsOf n = [] → (∀ x ∈ s.own.ranges, x.sess ≠ n) →
          DoesWide (.scrubDone k) s (fun t => t.sesState n = (s.sess n).prev % 8 ∧ (t.sess n).phase = 0 ∧
            ∀ q : Fin 4, t.flag SQ_CFG_EN n q = false)) ∧
        (r.kind = 2 → r.sess = n → n.val ≠ 0 → r.objs = [] →
          DoesWide (.scrubDone k) s (fun t => t.sesState n = 0 ∧ t.sess n = Sess.init ∧
            ∀ tag o, r.tag = some tag → s.op? 0 tag = some o → o.fin = none → o.st ≠ .halted → Ends s t 0 tag 0 0)))) ∧
    ((s.fn n).flr.isSome = true → (s.sess n).phase ≠ 1 → (s.sess n).phase ≠ 2 →
      Does (.flrDrainEnd n) s [] (fun t => t.fn n = Fn.init ∧ t.ops = s.ops)) ∧
    (s.ready = true →
      (∀ k ari, s.host.vfEnable = false → Does (.vfEnableSet k ari) s []
        (fun t => t.host = { s.host with vfEnable := true, numVFs := k, ari := ari })) ∧
      (s.host.vfEnable = true →
        (∃ t, exec .vfEnableClear s = .next t ∧ t.host.vfEnable = false) ∧
        ((∀ k, 1 ≤ k → k ≤ s.host.numVFs → s.sesState k = 0 ∧ (s.sess k).phase = 0 ∧ (s.fn k).flr = none) →
          Does .vfEnableClear s [] (fun t => t.host.vfEnable = false ∧
            ∀ k, 1 ≤ k → k ≤ s.host.numVFs → (t.fn k).bme = false))))

/-- R84, R86, R88, R89 and R632. That a COMMIT on a key that stands counts as a violation is the model's reading (log 55). -/
def Obligations.KeysMapCacheAndBackgroundScrubs : Prop :=
  ∀ (s : State) (n : Fin 16), s.wf = true → s.working = true →
    let tlp := [GL_LINK_STAT_LINK.key 0 0, KP_DOM.key 0 0, KP_PWR_STAT_EDIE.key 0 0]
    (s.fnEnabled n = false → Idle (.sesKeyCommit n) s) ∧
    (s.fnEnabled n = true →
      (s.flag SES_KEYC_KEY_SET n = true → Does (.sesKeyCommit n) s (tlp ++ [SES_VIOL_VIOL_COUNT.key n 0, SES_VIOL_VIOL_OFFSET.key n 0])
        (fun t => t.flag SES_KEYC_KEY_SET n = true)) ∧
      (s.flag SES_KEYC_KEY_SET n = false →
        (s.keyZero n = true → Does (.sesKeyCommit n) s tlp (fun _ => True)) ∧
        (s.keyZero n = false → n.val = 0 → Does (.sesKeyCommit n) s (tlp ++ [SES_KEYC_KEY_SET.key 0 0])
          (fun t => t.rd SES_KEYC_KEY_SET 0 = 1)) ∧
        (s.keyZero n = false → n.val ≠ 0 → s.sesState n = 1 →
          Does (.sesKeyCommit n) s (tlp ++ [SES_KEYC_KEY_SET.key n 0, SES_CTL_STATE.key n 0])
            (fun t => t.rd SES_KEYC_KEY_SET n = 1 ∧ t.sesState n = 2)) ∧
        (s.keyZero n = false → n.val ≠ 0 → s.sesState n ≠ 1 → Does (.sesKeyCommit n) s tlp (fun _ => True)))) ∧
    (∀ (all : Bool) (page : BitVec 20), s.own.invPending = false →
      Does (.mapcInvalidate n all page) s (tlp ++ [SES_MAPC_INV_SESSION.key 0 0, SES_MAPC_INV_ALL.key 0 0, SES_MAPC_INV_PAGE.key 0 0])
        (fun t => t.own.invPending = true ∧
          ∀ e, e ∈ t.own.mapCache ↔ e ∈ s.own.mapCache ∧
            ¬ (e.sess = n ∧ (all = true ∨ (if e.blk then page.toNat / 1024 = e.page / 1024 else page.toNat = e.page))))) ∧
    Does .mapcInvDone s [] (fun t => t = { s with own := { s.own with invPending := false } }) ∧
    (∀ p : BitVec 28,
      (s.own.bgPages.contains p.toNat = false → s.unswept p.toNat = false → Idle (.backgroundPageScrub p) s) ∧
      (s.own.bgPages.contains p.toNat = true → ∃ t, exec (.backgroundPageScrub p) s = .next t ∧
        (∀ i, i < 4096 → t.byteAt (p.toNat * 4096 + i) = 0) ∧ t.own.bgPages.contains p.toNat = false ∧
        (∀ a, a / 4096 ≠ p.toNat → t.byteAt a = s.byteAt a) ∧ SameRegs [] s t))

/-- R114, R115, R627, R630 and R684. -/
def Obligations.WarmResetsKeepMemoryAndLoseTheRest : Prop :=
  ∀ (s : State), s.wf = true →
    let warm := fun (t : State) (cause : Nat) =>
      t.mem = s.mem ∧ t.boot.phase = 2 ∧ t.boot.cause = cause ∧ t.boot.since = s.clock ∧ t.ops = [] ∧ t.helms = [] ∧
      t.sessions = [] ∧ t.own.objs = [] ∧ t.own.pages = [] ∧ t.host.staging = [] ∧ t.rd GL_BOOT_READY = 0 ∧
      t.rd GL_LINK_STAT_LINK = s.rd GL_LINK_STAT_LINK ∧
      (∀ n : Fin 16, t.rd SES_CTL_STATE n = 0 ∧ t.flag SES_KEYC_KEY_SET n = false ∧ t.flag CQ_CFG_EN n = false) ∧
      (∀ e : Fin 64, t.flag KP_CAL_VALID 0 e = (if e.val < 4 then s.flag KP_CAL_VALID 0 e else false)) ∧
      t.rd LG_STAT_VALID = s.rd LG_STAT_VALID
    (s.eDieOn = true → s.boot.phase = 0 ∨ s.boot.phase = 2 →
      (∃ t, exec .pf0Flr s = .next t ∧ warm t 6 ∧ t.host.vfEnable = false ∧ t.host.d3hot = false ∧ t.host.fns = []) ∧
      (∃ t, exec .hotReset s = .next t ∧ warm t 7 ∧ t.host.vfEnable = false ∧ t.host.d3hot = false ∧ t.host.fns = []) ∧
      (∃ t, exec (.warmReset 0x5A) s = .next t ∧ warm t 5)) ∧
    (∀ key : Byte, key ≠ 0x5A → Idle (.warmReset key) s ∧ Idle (.coldReset key) s) ∧
    (s.eDieOn = false → Idle .pf0Flr s ∧ Idle .hotReset s ∧ Idle (.warmReset 0x5A) s ∧ Idle (.coldReset 0x5A) s) ∧
    (let a := min 3600 (s.rd LG_CTL_AUTO_S)
     (s.flag LG_STAT_HOLD = false ∨ a = 0 ∨ s.clock < s.health.holdAt + 1000000000 * a → Idle .faultHoldAutoReset s) ∧
     (s.flag LG_STAT_HOLD = true → a ≠ 0 → s.health.holdAt + 1000000000 * a ≤ s.clock →
       ∃ t, exec .faultHoldAutoReset s = .next t ∧ warm t 8)) ∧
    (∀ gib ecc rate, s.boot.phase = 2 → DoesWide (.unlonReady true gib ecc rate) s fun t =>
      t.rd GL_BOOT_READY = 1 ∧ t.rd GL_RST_CAUSE = s.boot.cause % 16 ∧ t.boot.phase = 0 ∧ t.rd KP_TETHER_UP = 1 ∧
      t.rd KP_PWR_STAT_EDIE = 0)

/-- R42, R624, R629, R634, R635, R713 and R714. -/
def Obligations.ColdBootRailsAndPorK : Prop :=
  ∀ (s : State), s.wf = true →
    (s.eDieOn = true → s.boot.phase = 0 ∨ s.boot.phase = 2 → ∃ t, exec (.coldReset 0x5A) s = .next t ∧
      t.boot.phase = 1 ∧ t.boot.cause = 2 ∧ t.rd KP_PWR_STAT_EDIE = 7 ∧ t.rd GL_BOOT_READY = 0 ∧ t.sessions = [] ∧ t.ops = [] ∧
      (∀ a, t.byteAt a = 0) ∧ (∀ e : Fin 64, t.flag KP_CAL_VALID 0 e = (if e.val < 4 then s.flag KP_CAL_VALID 0 e else false))) ∧
    (∀ a b va vb, s.boot.phase ≠ 1 ∨ s.railsUp = false → Idle (.coldBoot a b va vb) s) ∧
    (s.boot.phase = 1 → s.railsUp = true → ∀ (va vb : Word),
      (∀ b, ∃ t, exec (.coldBoot none b va vb) s = .next t ∧ t.boot.phase = 5 ∧ t.boot.slot = 0 ∧ t.boot.version = va.toNat ∧
        SameRegs [] s t) ∧
      (∀ x : Fin 4, ∃ t, exec (.coldBoot (some x) none va vb) s = .next t ∧ t.boot.phase = 5 ∧ t.boot.slot = 1 ∧
        t.boot.version = vb.toNat ∧ t.rd GL_BOOT_FAIL_A = 1 ∧ t.rd GL_BOOT_FAIL_CAUSE = x.val + 1 ∧
        SameRegs [GL_BOOT_FAIL_A.key 0 0, GL_BOOT_FAIL_CAUSE.key 0 0] s t) ∧
      (∀ x y : Fin 4, ∃ t, exec (.coldBoot (some x) (some y) va vb) s = .next t ∧ t.boot.phase = 3 ∧ t.rd GL_BOOT_FAIL_A = 1 ∧
        t.rd GL_BOOT_FAIL_B = 1 ∧ t.rd GL_BOOT_FAIL_CAUSE = y.val + 1 ∧ t.rd KP_RST_BOOT_FAIL = 1 ∧ t.rd KP_RST_QSPI_REL = 1)) ∧
    (s.railPast 1900 = false → Idle .railCheckFail s) ∧
    (s.railPast 1900 = true →
      (s.boot.railFails < 2 → Does .railCheckFail s [] fun t =>
        t.boot = { s.boot with railFails := s.boot.railFails + 1, railRetry := some (s.clock + 100000000) }) ∧
      (2 ≤ s.boot.railFails → Does .railCheckFail s [] fun t => t.boot.phase = 4 ∧ t.railsUp = false)) ∧
    (s.boot.railRetry = none → Idle .railRetry s) ∧
    (∀ u, s.boot.railRetry = some u →
      (s.clock < u → Idle .railRetry s) ∧
      (u ≤ s.clock → Does .railRetry s [] fun t => t.boot = { s.boot with railRetry := none, railAt := s.clock })) ∧
    (s.boot.phase = 5 → ∀ (gib : Fin 5) ecc (rate : Fin 4), DoesWide (.unlonReady true gib ecc rate) s fun t =>
      t.rd GL_BOOT_READY = 1 ∧ t.rd GL_BOOT_SLOT = s.boot.slot % 2 ∧ t.rd GL_RST_CAUSE = s.boot.cause % 16 ∧ t.boot.phase = 0 ∧
      t.rd GL_MEM_CELLAR_GIB = (if rate.val = 0 then 0 else gib.val) ∧
      t.rd MX_CELLAR_ADDR_MIB = (if rate.val = 0 then 0 else gib.val) * (if ecc then 896 else 1024)) ∧
    (∀ f : Option (Fin 3), (f.isSome = true ∧ s.rd KP_PWR_STAT_EDIE ≠ 5) ∨ (f.isSome = false ∧ s.rd KP_PWR_STAT_EDIE = 5) →
      Idle (.porK f) s) ∧
    (s.rd KP_PWR_STAT_EDIE = 5 → ∀ f : Fin 3, ∃ t, exec (.porK (some f)) s = .next t ∧ t.rd KP_PWR_STAT_EDIE = 7 ∧
      t.rd FD_STAT_VALID = 2 ^ f.val ∧ t.sessions = [] ∧ t.helms = [] ∧ t.mem = State.reset.mem ∧ t.boot.phase = 1 ∧
      t.pending = s.pending ∧ t.tm = State.reset.tm)

/-- R609, R610, R612 to R616, R637 and R638. -/
def Obligations.PowerStatesStowMoorAndWakes : Prop :=
  ∀ (s : State), s.wf = true →
    (s.keeperWorks = false → Idle .keeperChoice s) ∧
    (s.keeperWorks = true → Does .keeperChoice s [KP_DOM.key 0 0, KP_PWR_STAT_EDIE.key 0 0] fun t =>
      (∀ d : Fin 8, d.val ≠ 0 → t.dom d = s.choice d) ∧ (∀ d : Fin 8, s.heldRun d = true → t.dom d = 0) ∧
      (s.rd KP_PWR_STAT_EDIE = s.dom 0 → t.rd KP_PWR_STAT_EDIE = t.dom 0) ∧ (s.floor = 0 → ∀ d : Fin 8, t.dom d = 0)) ∧
    (∀ d : Fin 8, (s.eDieOn = false → Idle (.unknownEventWake d) s) ∧
      (s.eDieOn = true → Does (.unknownEventWake d) s [KP_DOM.key 0 0, KP_PWR_STAT_EDIE.key 0 0] fun t =>
        t.dom d = 0 ∧ (1 ≤ d.val → d.val ≤ 4 → t.dom 0 = 0) ∧ ∀ c : Fin 8, c ≠ d → c.val ≠ 0 → t.dom c = s.dom c)) ∧
    (∀ d : Fin 8, s.eDieOn = true → s.kDieOn = true → s.dom d ≠ 0 → farOff (s.horizon d) (wakeNs (s.dom d) + 200001) = false →
      Does (.domainWakeStart d.castSucc) s [KP_DOM.key 0 0, KP_PWR_STAT_EDIE.key 0 0] fun t => t.dom d = 0) ∧
    (s.rd KP_PWR_STAT_EDIE = 3 → s.noWake = false → farOff s.wakeIn 6200001 = false →
      Does (.domainWakeStart 8) s [KP_PWR_STAT_EDIE.key 0 0, KP_PWR_STAT_WAKE_SRC.key 0 0] fun t =>
        t.rd KP_PWR_STAT_EDIE = 7 ∧ t.rd KP_PWR_STAT_WAKE_SRC = 63) ∧
    (s.keeperWorks = true →
      (s.stowOk = false → Idle .stowEntry s ∧ Idle .moorEntry s) ∧
      (s.stowOk = true → s.moorOk = false → Idle .moorEntry s ∧ Does .stowEntry s [KP_PWR_STAT_EDIE.key 0 0] fun t =>
        t.rd KP_PWR_STAT_EDIE = 6 ∧ t.keep.entry = some (3, s.clock)) ∧
      (s.moorOk = true → Idle .stowEntry s ∧ Does .moorEntry s [KP_PWR_STAT_EDIE.key 0 0] fun t =>
        t.rd KP_PWR_STAT_EDIE = 6 ∧ t.keep.entry = some (4, s.clock))) ∧
    (s.keep.entry.isSome = true → s.working = true → s.rd KP_PWR_STAT_EDIE = 6 →
      (s.entryBroken = false → Idle .stowAbort s) ∧
      (s.entryBroken = true → Idle (.stowCommit 0) s ∧
        Does .stowAbort s [KP_PWR_STAT_EDIE.key 0 0, KP_PWR_STAT_ABORTS.key 0 0] fun t => t.rd KP_PWR_STAT_EDIE = 0 ∧
          t.keep.entry = none ∧ t.boot.attic = 0) ∧
      (∀ at_ pps, s.entryBroken = false → (s.keep.entry = some (3, at_) →
          ∃ t, exec (.stowCommit pps) s = .next t ∧ t.rd KP_PWR_STAT_EDIE = 3 ∧ t.boot.attic = 1 ∧ t.tm.stopped = true ∧
            t.mem.cellar = s.mem.cellar ∧ t.mem.larder = [] ∧ t.eDieOn = false) ∧
        (s.keep.entry = some (4, at_) → ∃ t, exec (.stowCommit pps) s = .next t ∧ t.rd KP_PWR_STAT_EDIE = 4 ∧
          t.boot.attic = 1 ∧ t.tm.stopped = true ∧ t.mem.cellar = [] ∧ t.mem.larder = []))) ∧
    (∀ st at_ ok, s.keep.wake = some (st, at_) → s.railsUp = true →
      (s.keep.coldNext = false → s.boot.attic = 1 →
        (st = 3 → ∃ t, exec (.wakeFromStow true true) s = .next t ∧ t.rd GL_BOOT_READY = 1 ∧ t.rd GL_RST_CAUSE = 9 ∧
          t.boot.attic = 2 ∧ t.rd KP_PWR_STAT_EDIE = 0 ∧ t.tm.stopped = false) ∧
        (st = 4 → ∀ gib ecc rate, ∃ t, exec (.wakeFromMoor true true gib ecc rate) s = .next t ∧ t.rd GL_BOOT_READY = 1 ∧
          t.rd GL_RST_CAUSE = 10 ∧ t.boot.attic = 2 ∧ t.rd KP_PWR_STAT_EDIE = 0)) ∧
      (s.keep.coldNext = false → st = 3 → ∃ t, exec (.wakeFromStow false ok) s = .next t ∧ t.boot.phase = 1 ∧ t.boot.cause = 3 ∧
        t.rd GL_BOOT_READY = 0)) ∧
    (∀ (n : Fin 16) tag o, s.opRuns n tag 0x3D o →
      (s.flag KP_TETHER_UP = true → OpDoes (.powerFloor n tag) s n tag 0 0 [KP_PWR_CTL_FLOOR.key 0 0] fun t =>
        t.rd KP_PWR_CTL_FLOOR = o.par 0 % 8) ∧
      (s.flag KP_TETHER_UP = false → Does (.powerFloor n tag) s [] fun t => EndsAs t n tag 0x1E ∧ OnlyOp n tag s t))

/-- R660 to R663, R665, R670 to R673, R675 and R684. -/
def Obligations.FatalErrorsDumpsAndTheLogbook : Prop :=
  ∀ (s : State), s.wf = true →
    (s.working = true → s.rd KP_PWR_STAT_EDIE ≤ 2 →
      (∀ (w : Fin 2) consec lane, ∃ t, exec (.lockstepMismatch w consec lane) s = .next t ∧
        FatalIn s t 4 (w + 256 * boolNat consec) ∧ Fired s t 32 (1 + 4 * boolNat consec) w ∧
        (consec = true → t.rd HL_LOCKSTEP_CONSEC = 1)) ∧
      (s.rd KP_DOM % 4 = 0 → ∀ w : Fin 2,
        (Does (.comparatorInjection w true false) s [HL_LOCKSTEP_INJ_OK.key 0 0] fun t =>
          t.rd HL_LOCKSTEP_INJ_OK = (s.rd HL_LOCKSTEP_INJ_OK + 1) % 2 ^ 24 ∧ t.health = s.health) ∧
        (∃ t, exec (.comparatorInjection w true true) s = .next t ∧ FatalIn s t 4 w ∧ Fired s t 32 1 w) ∧
        (∀ real, ∃ t, exec (.comparatorInjection w false real) s = .next t ∧ FatalIn s t 5 (w + 256 * boolNat real) ∧
          Fired s t 32 (2 + boolNat real) w)) ∧
      (∀ w : Fin 2, ∃ t, exec (.logbookDump (some (.inl w))) s = .next t ∧ FatalIn s t 6 w) ∧
      (∀ c : Word, ∃ t, exec (.logbookDump (some (.inr c))) s = .next t ∧ FatalIn s t 7 c.toNat) ∧
      (∃ t, exec (.logbookForce 0xA5) s = .next t ∧ FatalIn s t 8 0) ∧
      (∀ key : Byte, key ≠ 0xA5 → Idle (.logbookForce key) s) ∧
      (Does .counterSnap s (HL_SNAP_TIME.key 0 0 :: (List.range 256).map fun i => HL_CNT_VALUE.key 0 i) fun t =>
        t.rd HL_SNAP_TIME = s.tm.device % 2 ^ 64 ∧ ∀ i : Fin 256, t.rd HL_CNT_VALUE 0 i = smGet 0 s.cnt i % 2 ^ 48)) ∧
    (s.rd KP_PWR_STAT_EDIE ≠ 6 → ∀ d, s.health.dump = some d →
      (∀ m : Fin 16, Does (.matrixStall m) s [] fun t => ∃ c, t.health.dump = some { d with second := some c } ∧
        (d.second = none → c = 2) ∧ ∀ b, d.second = some b → c = b) ∧
      (let ended := fun (t : State) (complete : Nat) =>
        t.health.dump = none ∧ t.health.holdAt = s.clock ∧ t.rd LG_STAT_VALID = 1 ∧ t.rd LG_STAT_COMPLETE = complete ∧
        t.rd LG_STAT_CAUSE = d.cause % 16 ∧ t.rd LG_STAT_HOLD = 1 ∧
        t.rd LG_STAT_OVW_UNREAD = (if s.flag LG_STAT_VALID then 1 else s.rd LG_STAT_OVW_UNREAD) ∧
        ((∀ i, i < 0x400000 → s.inMemory (s.rd LG_BASE_DPA + i) = true) → t.bytesAt (s.rd LG_BASE_DPA) 32 = d.head) ∧
        (∀ a, a < s.rd LG_BASE_DPA → t.byteAt a = s.byteAt a)
       (∃ t, exec (.logbookDump none) s = .next t ∧ ended t 1) ∧
       (∀ k : Fin 18, (s.clock < d.at_ + 30000000 → Idle (.dumpTimeout k) s) ∧
         (d.at_ + 30000000 ≤ s.clock → ∃ t, exec (.dumpTimeout k) s = .next t ∧ ended t 0)))) ∧
    (s.health.dump = none → Idle (.logbookDump none) s ∧ (∀ k : Fin 18, Idle (.dumpTimeout k) s) ∧
      (s.ready = true → Does .logbookMarkRead s [LG_STAT_VALID.key 0 0] fun t => t.rd LG_STAT_VALID = 0) ∧
      (s.working = false → s.rd KP_PWR_STAT_EDIE ≠ 6 → ∀ m : Fin 16, Idle (.matrixStall m) s))

/-- R650 to R652, R654, R656 to R658. -/
def Obligations.SelfTestsCalibrationAndBackgroundChecks : Prop :=
  ∀ (s : State), s.wf = true →
    (∀ (n : Fin 16) tag o (h : Fin 32) (fail : BitVec 16) dead found, s.opRuns n tag 0x38 o → o.obj = 0x2000 + h.val →
      1 ≤ o.par 0 → o.par 0 ≤ 3 →
      OpDoes (.selftest n tag fail dead found) s n tag 0 (Nat.land (o.par 0) fail.toNat) [HL_FAIL_HELM.key 0 0] fun t =>
        t.helm h = Helm.init ∧ (∀ k : Fin 32, k ≠ h → t.helm k = s.helm k) ∧
        t.maskBit HL_FAIL_HELM h = (if Nat.land (o.par 0) fail.toNat ≠ 0 then true
          else if o.par 0 = 3 then false else s.maskBit HL_FAIL_HELM h) ∧
        ∀ k : Fin 32, k ≠ h → t.maskBit HL_FAIL_HELM k = s.maskBit HL_FAIL_HELM k) ∧
    (∀ (n : Fin 16) tag o, s.op? n tag = some o → o.deferred = true → o.stage = 8 → o.live = true → o.st = .queued →
      (s.quiet o = false → Idle (.selftestQuietStart n tag) s) ∧
      (s.quiet o = true → s.working = true → Does (.selftestQuietStart n tag) s [] fun t =>
        t.op? n tag = some { o with st := .running, started := true, stage := 9, due := none }) ∧
      (∀ (fail : BitVec 16) dead found, s.isDue o.due = false → Idle (.selftestDeferExpiry n tag fail dead found) s) ∧
      (∀ (fail : BitVec 16) dead found, s.isDue o.due = true → o.par 0 < 1024 →
        OpDoes (.selftestDeferExpiry n tag fail dead found) s n tag 2
          (Nat.land (Nat.land (o.par 0) 0xFCFF) fail.toNat + Nat.land (o.par 0) 0x300 * 65536) [] fun t => OnlyOp n tag s t)) ∧
    (∀ (n : Fin 16) tag o (i : Fin 24) failed live, s.opRuns n tag 0x39 o → o.obj = sliceObj i → o.par 0 < 3 →
      s.rd LINE_STAT_LSTATE i ≠ 2 →
      OpDoes (.calibrate n tag failed live) s n tag 0 (boolNat failed) [CAL_STAT_DONE.key i 0, CAL_STAT_FAILED.key i 0] fun t =>
        t.maskBit CAL_STAT_DONE (o.par 0) i = true ∧ t.maskBit CAL_STAT_FAILED (o.par 0) i = failed) ∧
    (s.checksRun = false → (∀ c f, Idle (.patrolPass c f) s) ∧ (∀ f, Idle (.backgroundMbist f) s) ∧
      ∀ w x, Idle (.backgroundChartCheck w x) s) ∧
    (s.checksRun = true → s.flag HL_CFG_PATROL_EN = true → s.own.scrubs = [] →
      (s.clock < s.health.larderDue → ∀ f, Idle (.patrolPass false f) s) ∧
      (s.health.larderDue ≤ s.clock → s.mem.bad = [] → ∀ a, inLarder a = true →
        ∃ t, exec (.patrolPass false [(a, true)]) s = .next t ∧ t.badWord a = true ∧ Fired s t 38 2 a ∧ SameMem s t ∧
          t.rd HL_ECC_LOG_ADDR = a ∧
          t.health.larderDue = s.clock + 1000000000 * clamp 10 3600 (s.rd HL_BG_CFG_LARDER_S))) ∧
    (s.checksRun = true → s.flag HL_CFG_MBIST_EN = true → s.health.mbistDue ≤ s.clock → s.health.mbistHelm < 32 →
      (s.helm s.health.mbistHelm).ps = .empty →
      (Does (.backgroundMbist false) s [] fun t => t.health.mbistHelm = (s.health.mbistHelm + 1) % 32 ∧
        t.health.mbistDue = s.clock + 1000000000 * clamp 1 1000 (s.rd HL_BG_CFG_MBIST_S)) ∧
      (Does (.backgroundMbist true) s [HL_FAIL_HELM.key 0 0] fun t =>
        t.maskBit HL_FAIL_HELM s.health.mbistHelm = true ∧ Fired s t 38 4 s.health.mbistHelm)) ∧
    (s.checksRun = true → s.flag HL_CFG_CHART_EN = true → s.health.chartDue ≤ s.clock → (∀ e ∈ s.chart, e.2.perr = 0) →
      Does (.backgroundChartCheck [] []) s [] fun t => t = { s with health := { s.health with chartDue := s.clock + 1000000000 } })

/-- R529, R534, R536, R537, R540, R542, R543 and R547. -/
def Obligations.TheBeaconsSourcesAreFiredTakenAndCompleted : Prop :=
  ∀ (s : State), s.wf = true → s.working = true →
    let tlp := [GL_LINK_STAT_LINK.key 0 0, KP_DOM.key 0 0, KP_PWR_STAT_EDIE.key 0 0]
    (∀ (k : Fin 1024) (cause : Byte) (data : Word),
      (srcReserved k = true → Does (.sourceFire k cause data) s [BC_ERR_RSV_SRC.key 0 0] fun t => t.beacon = s.beacon) ∧
      (srcReserved k = false → Does (.sourceFire k cause data) s [] fun t => Fired s t k cause.toNat data.toNat ∧
        (∀ j, j ≠ k.val → t.source j = s.source j) ∧
        ((s.source k).st = 0 → (t.source k).st = 1 ∧ (t.source k).count = 1 ∧ (t.source k).cause = cause.toNat ∧
          (t.source k).data = data.toNat) ∧
        ((s.source k).st = 1 → (t.source k).st = 1 ∧ (t.source k).count = min 0xFFFF ((s.source k).count + 1) ∧
          (t.source k).cause = Nat.lor (s.source k).cause cause.toNat ∧ (t.source k).data = data.toNat) ∧
        ((s.source k).st = 2 → (t.source k).st = 3 ∧ (t.source k).count = 1))) ∧
    (∀ v : BitVec 64, srcReserved (v.toNat % 1024) = false → Does (.bcSet v) s tlp fun t =>
      Fired s t (v.toNat % 1024) (v.toNat / 2 ^ 16 % 256) (v.toNat / 2 ^ 32)) ∧
    (∀ n k : Fin 16, (s.sesWrites n = false → Idle (.swRaise n k) s) ∧
      (s.sesWrites n = true → Does (.swRaise n k) s tlp fun t => Fired s t (768 + 16 * n + k) 0 (s.rd SW_DATA n))) ∧
    (∀ k : Fin 1024, (s.source k).st ≠ 1 ∨ (s.source k).en = false → Idle (.sourceTake k) s) ∧
    (∀ (k : Fin 1024) (n : Fin 16), s.beaconWorks = true → (s.source k).st = 1 → (s.source k).en = true →
      (s.routeOf k).mode = 0 → (s.routeOf k).target = n.val → (k.val < 64 ∨ 256 ≤ k.val) → s.eqLive n = true →
      (s.sess n).phase = 0 → (s.sess n).eqDropped = 0 →
      ((s.eqFree n = false ∨ s.stagingRoom 16 = false → Idle (.sourceTake k) s) ∧
       (s.eqFree n = true → s.stagingRoom 16 = true →
        Does (.sourceTake k) s [EQ_STAT_TAIL.key n 0, EQ_STAT_PHASE.key n 0, EQ_STAT_ARM.key n 0] fun t =>
          t.source k = (s.source k).take n (s.sess n).eqWritten ∧ (t.source k).st = 2 ∧
          (t.sess n).eqWritten = (s.sess n).eqWritten + 1 ∧
          (∃ rec tail, t.host.staging = s.host.staging ++
            .event n (s.rd EQ_BASE_ADDR n * 4096 + 16 * s.rd EQ_STAT_TAIL n) rec :: tail ∧ rec.take 1 = leBytes 1 k.val ∧
            tail = (if s.flag EQ_STAT_ARM n then [.msix n.val 0] else []))))) ∧
    (∀ (w : Fin 2) (k : Nat), s.beaconWorks = true →
      (s.nextFor w = none → Idle (.stewardPresent w false) s) ∧
      (s.nextFor w = some k → (k < 64 ∨ 256 ≤ k) → Does (.stewardPresent w false) s [] fun t =>
        t.source k = (s.source k).take (16 + w) 0 ∧
        t.out = s.out ++ [.vector w ((s.beacon.vbase.getD w 0 + 32 * k) % 2 ^ 32)])) ∧
    (∀ (w : Fin 2) (k : Fin 1024),
      ((s.source k).holder ≠ 16 + w.val ∨ (s.source k).st < 2 → Idle (.stewardEoi w k) s) ∧
      ((s.source k).holder = 16 + w.val → (s.source k).st = 2 ∨ (s.source k).st = 3 → Does (.stewardEoi w k) s [] fun t =>
        (t.source k).st = (s.source k).st - 2 ∧ ∀ j, j ≠ k.val → t.source j = s.source j)) ∧
    (∀ (n : Fin 16) (k : Fin 1024), s.sesWrites n = true → (s.source k).holder = 64 + n.val →
      (s.source k).st = 2 ∨ (s.source k).st = 3 → Does (.eoi n k) s tlp fun t => (t.source k).st = (s.source k).st - 2) ∧
    (∀ (n : Fin 16) (k : BitVec 16), s.sesWrites n = true →
      let wins := decide (k.toNat < 1024) && decide ((s.routeOf k.toNat).mode = 1) && decide ((s.source k.toNat).st = 1) &&
        (s.source k.toNat).en && (s.maskHosts k.toNat (s.routeOf k.toNat).mask).contains n.val
      (wins = false → Does (.claim n k) s (tlp ++ [BC_CLAIM.key n 0]) fun t => t.rd BC_CLAIM n = 0xFFFF ∧ t.beacon = s.beacon) ∧
      (wins = true → (k.toNat < 64 ∨ 256 ≤ k.toNat) → Does (.claim n k) s (tlp ++ [BC_CLAIM.key n 0]) fun t =>
        t.rd BC_CLAIM n = k.toNat ∧ (t.source k.toNat).st = 2 ∧ (t.source k.toNat).holder = 64 + n.val)) ∧
    (∀ v : Fin 32, (v.val < 3 → Idle (.bcVclaim v) s) ∧
      (3 ≤ v.val → (∀ k, k < 1024 → ¬ ((s.source k).st = 1 ∧ (s.source k).en = true ∧ (s.routeOf k).mode = 0 ∧
          (s.routeOf k).target = 32 + v.val)) → Does (.bcVclaim v) s tlp fun t => t.out = s.out ++ [.readData 0 0xFFFF]) ∧
      (3 ≤ v.val → ∀ k, (k < 64 ∨ (256 ≤ k ∧ k < 1024)) → (s.source k).st = 1 → (s.source k).en = true → (s.routeOf k).mode = 0 →
        (s.routeOf k).target = 32 + v.val →
        (∀ j, j < k → ¬ ((s.source j).st = 1 ∧ (s.source j).en = true ∧ (s.routeOf j).mode = 0 ∧
          (s.routeOf j).target = 32 + v.val)) →
        Does (.bcVclaim v) s tlp fun t => t.out = s.out ++ [.readData 0 k] ∧ (t.source k).st = 2 ∧
          (t.source k).holder = 32 + v.val))

/-- R618 to R623. -/
def Obligations.CompassFollowsMarginsAndLevels : Prop :=
  ∀ (s : State), s.wf = true →
    let vdd := s.rd CP_STAT_VDD
    let lim := fun (v : Nat) => clamp (vddMin s.level) 50 v
    let sup := s.flag CP_STAT_AVS_FAIL = false ∧ s.keep.avsAt = none
    (∀ l : List (Fin 16), l.length ≠ 24 → exec (.compassLoop l) s = .fault .illFormed) ∧
    (s.compassOn = false → (∀ l : List (Fin 16), l.length = 24 → Idle (.compassLoop l) s) ∧ Idle .marginZero s ∧
      Idle .syspllLevelChange s ∧ Idle .throttleStep s ∧ Idle .avsbusTimeout s ∧ ∀ a, Idle (.avsbusRetry a) s) ∧
    (s.compassOn = true →
      (∀ l : List (Fin 16), l.length = 24 → let m := l.foldl (fun k x => min k x.val) 15
        (s.clock < s.keep.loopDue → Idle (.compassLoop l) s) ∧
        (s.keep.loopDue ≤ s.clock → sup →
          Does (.compassLoop l) s [CP_STAT_MARGIN.key 0 0, CP_STAT_VDD.key 0 0] fun t =>
            t.rd CP_STAT_MARGIN = m ∧ t.keep.loopDue = s.clock + 95000 ∧
            t.rd CP_STAT_VDD = (if m < s.rd CP_CTL_LO then lim (vdd + 2)
              else if s.rd CP_CTL_HI ≤ m ∧ 9 ≤ s.keep.hiRun then lim (vdd - 1) else vdd))) ∧
      (sup → Does .marginZero s [CP_STAT_VDD.key 0 0] fun t => t.rd CP_STAT_VDD = lim (vdd + 5)) ∧
      (s.flag CP_STAT_AVS_FAIL = true → s.keep.avsAt = none → Idle .marginZero s) ∧
      (sup → s.keep.raise = none → s.keep.throttling = false → s.aimLevel < 4 →
        (s.level < s.aimLevel → Does .syspllLevelChange s [CP_STAT_VDD.key 0 0] fun t =>
          t.keep.raise = some (s.aimLevel, s.clock) ∧ t.rd CP_STAT_VDD = lim (max (vddStart s.aimLevel) vdd)) ∧
        (s.aimLevel < s.level → s.helmsQuiet = true →
          Does .syspllLevelChange s [CP_STAT_VDD.key 0 0, GL_FLOOR_LEVEL.key 0 0] fun t => t.level = s.aimLevel ∧
            t.rd CP_STAT_VDD = vddStart s.aimLevel ∧ Fired s t 36 2 s.aimLevel) ∧
        (s.aimLevel < s.level → s.helmsQuiet = false → Idle .syspllLevelChange s) ∧
        (s.aimLevel = s.level → Idle .syspllLevelChange s)) ∧
      (∀ l u, sup → s.keep.raise = some (l, u) → s.level < l → l < 4 → l ≤ s.aimLevel →
        (s.clock < u + 40000 → Idle .syspllLevelChange s) ∧
        (u + 40000 ≤ s.clock → Does .syspllLevelChange s [GL_FLOOR_LEVEL.key 0 0] fun t => t.level = l ∧ t.keep.raise = none ∧
          Fired s t 36 1 l)) ∧
      (sup → s.flag KP_ADC_VALID 0 12 = true → 2624 ≤ s.rd KP_ADC_RAW 0 12 → s.keep.throttling = false → s.level < 4 →
        (s.level ≤ s.rd GL_FLOOR_REQUIRED → Does .throttleStep s [GL_FLOOR_THROTTLE.key 0 0] fun t =>
          t.rd GL_FLOOR_THROTTLE = 1 ∧ t.keep.throttling = true ∧ Fired s t 7 1 s.junction) ∧
        (s.rd GL_FLOOR_REQUIRED < s.level → s.helmsQuiet = true →
          Does .throttleStep s [GL_FLOOR_THROTTLE.key 0 0, GL_FLOOR_LEVEL.key 0 0, CP_STAT_VDD.key 0 0] fun t =>
            t.level = s.level - 1 ∧ t.rd GL_FLOOR_THROTTLE = 1 ∧ t.keep.stepDue = s.clock + 1000000)) ∧
      (∀ u, s.keep.avsAt = some u →
        (s.clock < u + 10000 → Idle .avsbusTimeout s) ∧
        (u + 10000 ≤ s.clock → s.keep.avsTries < 2 → Does .avsbusTimeout s [] fun t => t.out = s.out ++ [.avs vdd] ∧
          t.keep.avsTries = s.keep.avsTries + 1 ∧ t.keep.avsAt = some s.clock) ∧
        (u + 10000 ≤ s.clock → 2 ≤ s.keep.avsTries → s.keep.acked < 64 → s.beaconUp = true → s.keep.entry = none →
          Does .avsbusTimeout s [CP_STAT_AVS_FAIL.key 0 0, CP_STAT_VDD.key 0 0, GL_FLOOR_THROTTLE.key 0 0] fun t =>
            t.rd CP_STAT_AVS_FAIL = 1 ∧ t.rd CP_STAT_VDD = s.keep.acked ∧ t.rd GL_FLOOR_THROTTLE = 1 ∧
            t.keep.avsRetry = some (s.clock + 10000000) ∧ Fired s t 17 1 (vddMv s.keep.acked))) ∧
      (∀ u, s.keep.avsRetry = some u → (s.clock < u → ∀ a, Idle (.avsbusRetry a) s) ∧
        (u ≤ s.clock → Does (.avsbusRetry false) s [] fun t => t.keep.avsRetry = some (s.clock + 10000000)) ∧
        (u ≤ s.clock → s.beaconUp = true → s.keep.entry = none →
          Does (.avsbusRetry true) s [CP_STAT_AVS_FAIL.key 0 0, GL_FLOOR_THROTTLE.key 0 0] fun t =>
            t.rd CP_STAT_AVS_FAIL = 0 ∧ t.keep.avsRetry = none ∧ Fired s t 17 2 (vddMv s.keep.acked)))) ∧
    (∀ x, s.keep.shutHold = true → Idle (.thermalShutdown x) s) ∧
    (∀ x, s.keep.shutHold = false → s.kDieOn = true → ∃ t, exec (.thermalShutdown x) s = .next t ∧ t.eDieOn = false ∧
      t.keep.shutHold = true ∧ t.keep.coldNext = true ∧ t.rd KP_PWR_STAT_THERM_SHUT = 1 ∧
      (s.rd KP_PWR_STAT_EDIE ≤ 2 → t.rd KP_PWR_STAT_EDIE = 3 ∧ t.mem.cellar = s.mem.cellar ∧ t.ops = [] ∧
        ∀ b : Fin 4, t.bayState b = 0)) ∧
    Does .thermalRecovery s [] (fun t => s.kDieOn = true → t = { s with keep := { s.keep with shutHold := false } })

/-- R640 to R643. -/
def Obligations.TheTetherResendsIsLostAndRetrains : Prop :=
  ∀ (s : State), s.wf = true →
    (s.flag KP_TETHER_UP = false → (∀ k, Idle (.tetherResend k) s) ∧ Idle .tetherHeartbeatMiss s) ∧
    (s.flag KP_TETHER_UP = true →
      (∀ k : Fin 4, k.val < 3 → Does (.tetherResend k) s [KP_TETHER_RETRIES.key 0 0] fun t =>
        t.rd KP_TETHER_RETRIES = min 255 (s.rd KP_TETHER_RETRIES + 1)) ∧
      (s.rd KP_PWR_STAT_EDIE ≤ 2 → s.flag LG_STAT_HOLD = false →
        let lost := fun (t : State) => t.rd KP_TETHER_UP = 0 ∧
          t.rd KP_RST_TETHER_LOST = min 255 (s.rd KP_RST_TETHER_LOST + 1) ∧ t.boot.lostAt = some s.clock ∧
          t.rd GL_FLOOR_THROTTLE = 1 ∧ (∀ d : Fin 8, t.dom d = 0) ∧ ∃ cause data, Fired s t 37 cause data
        let keys := [KP_TETHER_UP.key 0 0, KP_RST_TETHER_LOST.key 0 0, KP_DOM.key 0 0, KP_PWR_STAT_EDIE.key 0 0,
          GL_FLOOR_THROTTLE.key 0 0]
        Does (.tetherResend 3) s keys lost ∧ Does .tetherHeartbeatMiss s keys lost)) ∧
    (s.boot.lostAt = none → (∀ ok, Idle (.tetherRetrain ok) s) ∧ Idle .tetherFatal s) ∧
    (∀ u, s.boot.lostAt = some u →
      (s.clock < s.boot.trainDue → ∀ ok, Idle (.tetherRetrain ok) s) ∧
      (s.boot.trainDue ≤ s.clock →
        (Does (.tetherRetrain false) s [] fun t => t.boot = { s.boot with trainDue := s.clock + 1000000 }) ∧
        (DoesWide (.tetherRetrain true) s fun t => t.rd KP_TETHER_UP = 1 ∧ t.boot.lostAt = none ∧
          ∀ k, k < 32 → t.maskBit KP_WLATCH_LATCH k = false)) ∧
      (s.clock < u + 100000000 → Idle .tetherFatal s) ∧
      (u + 100000000 ≤ s.clock → s.working = true → s.rd KP_PWR_STAT_EDIE ≤ 2 →
        ∃ t, exec .tetherFatal s = .next t ∧ FatalIn s t 3 0)) ∧
    (s.boot.phase ≠ 2 ∨ s.clock < s.boot.since + 10000000 → Idle .warmTetherTimeout s) ∧
    (s.boot.phase = 2 → s.boot.since + 10000000 ≤ s.clock → s.rd KP_PWR_STAT_EDIE ≤ 2 → s.health.dump = none →
      s.flag LG_STAT_HOLD = false → ∃ t, exec .warmTetherTimeout s = .next t ∧ FatalIn s t 3 1 ∧ t.rd GL_BOOT_READY = 1 ∧
        t.rd KP_RST_TETHER_LOST = min 255 (s.rd KP_RST_TETHER_LOST + 1))

/-- R550, R551, R598, R599 and R601 to R605. -/
def Obligations.TheCalendarAndTheWakeLatches : Prop :=
  ∀ (s : State), s.wf = true →
    (∀ (n : Fin 16) tag o,
      let add := fun (action : Nat) (i : Instr) => s.opRuns n tag 0x3E o → o.par 2 % 8 = action →
        (s.flag KP_TETHER_UP = false → Does i s [] fun t => EndsAs t n tag 0x1E ∧ OnlyOp n tag s t) ∧
        (s.flag KP_TETHER_UP = true → (∀ k : Fin 4, s.flag KP_CAL_VALID 0 (4 * n + k) = true) →
          Does i s [] fun t => EndsAs t n tag 0x10 ∧ OnlyOp n tag s t) ∧
        (s.flag KP_TETHER_UP = true → (∃ k : Fin 4, s.flag KP_CAL_VALID 0 (4 * n + k) = false) →
          ∃ e, s.flag KP_CAL_VALID 0 e = false ∧ e / 4 = n.val ∧ OpDoes i s n tag 0 e
            [KP_CAL_TIME_LO.key 0 e, KP_CAL_TIME_HI.key 0 e, KP_CAL_VALID.key 0 e, KP_CAL_ACTION.key 0 e, KP_CAL_K.key 0 e] fun t =>
              t.calIs e action = true ∧ t.calTime e = o.par 0 % 2 ^ 32 + o.par 1 % 2 ^ 16 * 2 ^ 32 ∧
              t.rd KP_CAL_K 0 e = o.par 2 / 16 % 16)
      add 1 (.calendarAddWake n tag) ∧ add 2 (.calendarAddRaise n tag) ∧
      (s.opRuns n tag 0x3E o → o.par 2 % 8 = 0 →
        (s.flag KP_TETHER_UP = false → Does (.calendarCancel n tag) s [] fun t => EndsAs t n tag 0x1E ∧ OnlyOp n tag s t) ∧
        (s.flag KP_TETHER_UP = true → s.flag KP_CAL_VALID 0 (o.par 3) = true →
          OpDoes (.calendarCancel n tag) s n tag 0 0 [KP_CAL_VALID.key 0 (o.par 3)] fun t => t.flag KP_CAL_VALID 0 (o.par 3) = false) ∧
        (s.flag KP_TETHER_UP = true → s.flag KP_CAL_VALID 0 (o.par 3) = false →
          OpDoes (.calendarCancel n tag) s n tag 0 1 [] fun t => OnlyOp n tag s t))) ∧
    (∀ e : Fin 64,
      (s.calDue e = false ∨ s.calIs e 1 = false → Idle (.calendarWakeFire e) s) ∧
      (s.calDue e = false ∨ s.calIs e 2 = false → Idle (.calendarRaiseFire e) s) ∧
      (s.beaconUp = true → s.rd KP_PWR_STAT_EDIE ≤ 2 → s.keep.entry = none → s.calDue e = true →
        let src := if e.val < 4 then 4 else 768 + 16 * (e.val / 4) + s.rd KP_CAL_K 0 e % 16
        (s.calIs e 1 = true → s.rd KP_CAL_K 0 e < 16 →
          Does (.calendarWakeFire e) s [KP_CAL_VALID.key 0 e, KP_DOM.key 0 0, KP_PWR_STAT_EDIE.key 0 0] fun t =>
            t.flag KP_CAL_VALID 0 e = false ∧ t.dom 0 = 0 ∧ t.keep.holdUntil = some (s.clock + 1000000 * s.holdMs) ∧
            ∃ cause, Fired s t src cause e) ∧
        (s.calIs e 2 = true → s.rd KP_CAL_K 0 e < 16 → Does (.calendarRaiseFire e) s [KP_CAL_VALID.key 0 e] fun t =>
            t.flag KP_CAL_VALID 0 e = false ∧ ∃ cause, Fired s t src cause e))) ∧
    (s.isDue s.keep.holdUntil = false → Idle .holdMsExpiry s) ∧
    (s.isDue s.keep.holdUntil = true → s.kDieOn = true → Does .holdMsExpiry s [] fun t => t.keep.holdUntil = none) ∧
    (∀ (k : Fin 18) (cause : Byte) (data : Word), s.kDieOn = true →
      (s.beaconUp = true → Idle (.wakeLatchSet k cause data) s) ∧
      (s.beaconUp = false → s.maskBit KP_WAKE_EN k = false →
        Does (.wakeLatchSet k cause data) s [KP_WLATCH_LATCH.key 0 0, KP_WTIME_KTIME.key 0 k, KP_WTIME_EDGES.key 0 k] fun t =>
          t.maskBit KP_WLATCH_LATCH k = true ∧
          t.rd KP_WTIME_EDGES 0 k = (if s.maskBit KP_WLATCH_LATCH k then min 15 (s.rd KP_WTIME_EDGES 0 k + 1) else 1) ∧
          t.rd KP_WTIME_KTIME 0 k = (if s.maskBit KP_WLATCH_LATCH k then s.rd KP_WTIME_KTIME 0 k else s.tm.keeper % 2 ^ 48) ∧
          t.beacon.sources = s.beacon.sources)) ∧
    (s.beaconUp = false → Idle .latchReplay s) ∧
    (s.beaconUp = true → s.rd KP_DOM % 4 = 0 → Does .latchReplay s [KP_WLATCH_LATCH.key 0 0] fun t =>
      (∀ k : Fin 32, t.maskBit KP_WLATCH_LATCH k = false) ∧ t.keep.held = [] ∧
      (∀ k : Fin 32, s.maskBit KP_WLATCH_LATCH k = true → (s.source k).st = 0 → (∀ h ∈ s.keep.held, h.2.1 ≠ k.val) →
        (t.source k).st = 1 ∧ (t.source k).count = min 0xFFFF (s.rd KP_WTIME_EDGES 0 k) ∧ (t.source k).latched = true)) ∧
    (s.keep.e0 = none → Idle .ppsRefinement s) ∧
    (∀ e0 u, s.keep.e0 = some e0 → s.keep.ppsUntil = some u → s.eDieOn = true → s.clock ≤ u → s.rd GL_REFIN_SEL = 5 →
      s.flag GL_REFIN_VALID = true → let x := e0 + (s.tm.device - e0 + 500000000) / 1000000000 * 1000000000
      Does .ppsRefinement s [] fun t => t.keep.e0 = none ∧ t.keep.ppsUntil = none ∧
        (s.tm.device ≤ x → t.tm.device = x) ∧
        (x < s.tm.device → t.tm.device = s.tm.device ∧ t.tm.slewLeft = s.tm.device - x)) ∧
    (s.tm.slewLeft = 0 → Does .rebaseSlewEnd s [] fun t => t = { s with tm := { s.tm with slewAcc := 0 } }) ∧
    (s.tm.slewLeft ≠ 0 → Idle .rebaseSlewEnd s)

/-- R555 to R557, R559 and R562 to R565. -/
def Obligations.FeedsSwitchBreakBeforeMakeAndCutOff : Prop :=
  ∀ (s : State), s.wf = true → s.kDieOn = true →
    let fires := s.beaconUp = true ∧ s.keep.entry = none
    let moved := fun (t : State) => t.wantedPath ≠ 0 → t.wantedPath ≠ s.feed.path →
      t.feed.path = 0 ∧ t.feed.dead = some (t.wantedPath, s.clock + 18000)
    (∀ f : Fin 3,
      (s.feedValid f = true → Idle (.feedValid f) s) ∧ (s.feedValid f = false → Idle (.feedInvalid f) s) ∧
      (fires → s.feed.dead = none → s.feed.path ≠ 0 →
        (s.feedValid f = false → s.flag FD_STAT_CUTOFF = false →
          Does (.feedValid f) s [FD_STAT_VALID.key 0 0, FD_STAT_SYS_PATH.key 0 0] fun t =>
            t.feedValid f = true ∧ (∀ g : Fin 3, g ≠ f → t.feedValid g = s.feedValid g) ∧ moved t ∧
            ∃ cause data, Fired s t 0 cause data ∧ cause.testBit f = true) ∧
        (s.feedValid f = true → Does (.feedInvalid f) s [FD_STAT_VALID.key 0 0, FD_STAT_SYS_PATH.key 0 0] fun t =>
            t.feedValid f = false ∧ (∀ g : Fin 3, g ≠ f → t.feedValid g = s.feedValid g) ∧ moved t ∧
            ∃ cause data, Fired s t 0 cause data ∧ cause.testBit f = true))) ∧
    (s.feed.dead = none → Idle .deadTimeEnd s) ∧
    (∀ p u, s.feed.dead = some (p, u) → (s.clock < u → Idle .deadTimeEnd s) ∧
      (u ≤ s.clock → s.wantedPath = p → Does .deadTimeEnd s [FD_STAT_SYS_PATH.key 0 0] fun t =>
        t.feed.path = p ∧ t.feed.dead = none)) ∧
    (let off := fun (i : Instr) => ∃ t, exec i s = .next t ∧ t.rd KP_PWR_STAT_EDIE = 5 ∧ t.rd FD_STAT_VALID = 0 ∧ t.feed.path = 0 ∧
        t.ops = [] ∧ t.mem.larder = [] ∧ t.mem.cellar = []
     (s.feed.path = 0 → s.feed.dead = none → Idle .powerFailure s) ∧ (s.feed.path ≠ 0 → off .powerFailure) ∧
     (s.packAlone = false → Idle .packDisconnect s) ∧ (s.packAlone = true → off .packDisconnect)) ∧
    (∀ mv : Fin 65536, let low := 5600 + 50 * min 28 (s.rd FD_PACK_CUTOFF) + 50 * min 20 (s.rd FD_PACK_WARN)
      (s.flag FD_STAT_PACK_LOW = false → low < mv.val → Idle (.packLowChange mv) s) ∧
      (s.flag FD_STAT_PACK_LOW = true → mv.val ≤ low + 100 → Idle (.packLowChange mv) s) ∧
      (fires → s.flag FD_STAT_PACK_LOW = false → mv.val ≤ low → Does (.packLowChange mv) s [FD_STAT_PACK_LOW.key 0 0] fun t =>
        t.rd FD_STAT_PACK_LOW = 1 ∧ Fired s t 2 1 mv) ∧
      (fires → s.flag FD_STAT_PACK_LOW = true → low + 100 < mv.val → Does (.packLowChange mv) s [FD_STAT_PACK_LOW.key 0 0] fun t =>
        t.rd FD_STAT_PACK_LOW = 0 ∧ Fired s t 2 2 mv)) ∧
    (s.flag FD_STAT_CUTOFF = true → Idle .cutoffEntry s) ∧ (s.flag FD_STAT_CUTOFF = false → Idle .cutoffExit s) ∧
    (s.flag FD_STAT_CUTOFF = false → fires →
      (s.packAlone = false → Does .cutoffEntry s [FD_STAT_CUTOFF.key 0 0, FD_STAT_SYS_PATH.key 0 0] fun t =>
        t.rd FD_STAT_CUTOFF = 1 ∧ t.feed.packOut = true ∧ t.feedUsable 2 = false ∧
        ∃ cause data, Fired s t 0 cause data ∧ cause.testBit 4 = true) ∧
      (s.packAlone = true → DoesWide .cutoffEntry s fun t => t.rd FD_STAT_CUTOFF = 1 ∧ t.rd FD_AVAIL_MW = 0 ∧
        t.feed.grace = some (s.clock + 1000000 * min 1000 (s.rd FD_PACK_GRACE)))) ∧
    (s.isDue s.feed.grace = false → Idle .packGraceExpiry s) ∧
    (s.isDue s.feed.grace = true → ∃ t, exec .packGraceExpiry s = .next t ∧ t.rd KP_PWR_STAT_EDIE = 4 ∧ t.feed.moorHold = true ∧
      t.mem.cellar = [] ∧ t.mem.larder = [] ∧ t.boot.attic = 0 ∧ ∀ b : Fin 4, t.bayState b = 0) ∧
    (s.flag FD_STAT_CUTOFF = true → DoesWide .cutoffExit s fun t => t.rd FD_STAT_CUTOFF = 0 ∧ t.feed.packOut = false ∧
      t.feed.grace = none ∧ t.feed.moorHold = false ∧
      (s.feed.moorHold = true → s.rd KP_PWR_STAT_EDIE = 4 → s.keep.shutHold = false →
        t.rd KP_PWR_STAT_EDIE = 7 ∧ t.rd KP_PWR_STAT_WAKE_SRC = 0)) ∧
    (∀ v : Word, let a := v.toNat % 4; let b := v.toNat / 4 % 4; let c := v.toNat / 16 % 4
      ((a ≠ 0 ∧ (a = b ∨ a = c)) ∨ (b ≠ 0 ∧ b = c) ∨ s.mirrorOk = false → Idle (.fdPathWrite v) s) ∧
      (s.mirrorOk = true → fires → ¬ (a ≠ 0 ∧ (a = b ∨ a = c)) → ¬ (b ≠ 0 ∧ b = c) →
        Does (.fdPathWrite v) s [FD_PATH_LINE.key 0 0, FD_PATH_DOCK.key 0 0, FD_PATH_PACK.key 0 0, FD_STAT_SYS_PATH.key 0 0] fun t =>
          t.rd FD_PATH_LINE = a ∧ t.rd FD_PATH_DOCK = b ∧ t.rd FD_PATH_PACK = c))

/-- R566 to R568, R570 to R573, R575 and R576. -/
def Obligations.PoeGrantsAllowanceShedAndOverdraw : Prop :=
  ∀ (s : State), s.wf = true → s.kDieOn = true → s.beaconUp = true → s.keep.entry = none →
    (Does .poeDetection s [FD_POE_STATE.key 0 0, FD_POE_EVENTS.key 0 0] fun t => t.rd FD_POE_STATE = 0 ∧ t.rd FD_POE_EVENTS = 0 ∧
      t.feed.cls = (if s.rd FD_POE_CFG_CLASS = 0 ∨ s.rd FD_POE_CFG_CLASS = 7 then 6 else s.rd FD_POE_CFG_CLASS) ∧
      Fired s t 3 0 (s.rd FD_POE_PD_MW)) ∧
    (Does .poeClassification s [FD_POE_STATE.key 0 0, FD_POE_EVENTS.key 0 0] fun t => t.rd FD_POE_STATE = 1 ∧
      t.rd FD_POE_EVENTS = min 5 (s.rd FD_POE_EVENTS + 1) ∧ Fired s t 3 1 (s.rd FD_POE_PD_MW)) ∧
    (1 ≤ s.rd FD_POE_EVENTS → Does .poePowerApplied s [FD_POE_STATE.key 0 0, FD_POE_PD_MW.key 0 0] fun t =>
      t.rd FD_POE_STATE = 2 ∧ t.rd FD_POE_PD_MW = poeGrant (s.rd FD_POE_EVENTS) s.feed.cls ∧
      (s.rd FD_POE_EVENTS = 1 → 4 ≤ s.feed.cls → t.rd FD_POE_PD_MW = 13000) ∧
      Fired s t 3 2 (poeGrant (s.rd FD_POE_EVENTS) s.feed.cls)) ∧
    (Does .poePowerRemoved s [FD_POE_STATE.key 0 0, FD_POE_EVENTS.key 0 0, FD_POE_PD_MW.key 0 0] fun t =>
      t.rd FD_POE_STATE = 0 ∧ t.rd FD_POE_PD_MW = 0 ∧ t.figure 0 = 0 ∧ Fired s t 3 4 0) ∧
    (s.feed.dead.isSome = true → Idle .allowanceRecompute s) ∧
    (s.feed.dead = none → (∀ b : Fin 4, s.bayState b ≠ 3) →
      Does .allowanceRecompute s [FD_AVAIL_MW.key 0 0, FD_ALLOW_MW.key 0 0, FD_ADMIT_COMMITTED_MW.key 0 0,
          FD_ADMIT_DEFICIT.key 0 0] fun t =>
        t.rd FD_AVAIL_MW = s.availMw % 65536 ∧ t.rd FD_ALLOW_MW = (s.availMw - s.rd FD_BASE_BASE_MW - s.bayBudgets) % 65536 ∧
        t.power.reported = s.allowNow ∧
        (s.rd FD_ALLOW_MW < s.allowNow → ∃ cause, cause.testBit 0 = true ∧ Fired s t 1 cause s.allowNow) ∧
        (s.allowNow < s.rd FD_ALLOW_MW → ∃ cause, cause.testBit 1 = true ∧ Fired s t 1 cause s.allowNow)) ∧
    (s.feed.shortAt = none → Idle .bayShed s) ∧
    (∀ u, s.feed.shortAt = some u →
      (s.clock < u + 100000000 ∨ s.rd FD_BASE_BASE_MW + s.bayBudgets ≤ s.availMw → Idle .bayShed s) ∧
      (u + 100000000 ≤ s.clock → s.availMw < s.rd FD_BASE_BASE_MW + s.bayBudgets → ∀ b : Fin 4,
        (s.bayState b = 4 ∨ s.bayState b = 5) → s.flag BY_CFG_SHED 0 b = true →
        (∀ c : Fin 4, b < c → ¬ ((s.bayState c = 4 ∨ s.bayState c = 5) ∧ s.flag BY_CFG_SHED 0 c = true)) →
        DoesWide .bayShed s fun t => t.bayState b = 3 ∧ (∀ c : Fin 4, c ≠ b → t.bayState c = s.bayState c) ∧
          ∀ v, t.feed.shortAt = some v → v = s.clock)) ∧
    (s.inputMw ≤ s.availMw → Does .overdrawCheck s [FD_STAT_OVERDRAW.key 0 0] fun t => t.rd FD_STAT_OVERDRAW = 0 ∧
      t.feed.overAt = none) ∧
    (s.availMw < s.inputMw →
      (s.feed.overAt = none → Does .overdrawCheck s [] fun t => t.feed.overAt = some s.clock) ∧
      (∀ u, s.feed.overAt = some u → (s.clock < u + 100000000 → Idle .overdrawCheck s) ∧
        (u + 100000000 ≤ s.clock → s.flag FD_STAT_OVERDRAW = false →
          Does .overdrawCheck s [FD_STAT_OVERDRAW.key 0 0] fun t => t.rd FD_STAT_OVERDRAW = 1 ∧
            Fired s t 1 16 (s.rd FD_ALLOW_MW))))

/-- R577 to R582 and R585 and the bay table. -/
def Obligations.BaysSeatStartFaultAndRetry : Prop :=
  ∀ (s : State) (b : Fin 4), s.wf = true → s.kDieOn = true →
    let st := s.bayState b
    let enabled := if s.bayWindow b || s.baySeated b then 2 else 1
    let goes := fun (i : Instr) (x : Nat) => ∃ t, exec i s = .next t ∧ t.bayState b = x ∧ t.mem.larder = s.mem.larder
    (s.mirrorOk = false → Idle (.bayOn b none) s ∧ Idle (.bayOff b none) s ∧ Idle (.bayClear b none) s ∧ Idle (.bayRestart b none) s) ∧
    (s.mirrorOk = true →
      (st = 0 → goes (.bayOn b none) enabled ∧ Idle (.bayRestart b none) s) ∧ (st ≠ 0 → Idle (.bayOn b none) s) ∧
      goes (.bayOff b none) 0 ∧
      (∃ t, exec (.bayClear b none) s = .next t ∧ t.rd BY_STAT_COUNT 0 b = 0 ∧
        t.bayState b = (if st = 6 ∨ st = 7 then enabled else st)) ∧
      (st ≠ 0 → goes (.bayRestart b none) enabled)) ∧
    (∀ tag o action (i : Instr), (action, i) ∈ [(0, Instr.bayOn b (some tag)), (1, .bayOff b (some tag)), (2, .bayClear b (some tag)),
        (3, .bayRestart b (some tag))] → s.opRuns 0 tag 0x3C o → o.par 0 % 256 = action → o.obj = 0x5000 + b.val →
      (s.flag KP_TETHER_UP = false → Does i s [] fun t => EndsAs t 0 tag 0x1E ∧ OnlyOp 0 tag s t) ∧
      (s.flag KP_TETHER_UP = true → st = 0 → action = 3 → OpDoes i s 0 tag 0 0 [] fun t => OnlyOp 0 tag s t)) ∧
    (s.baySeated b = true → Idle (.headSeated b) s) ∧
    (s.baySeated b = false → (∃ t, exec (.headSeated b) s = .next t ∧ t.baySeated b = true ∧
        t.bayState b = (if s.bayWindow b = false ∧ st = 1 then 2 else st) ∧
        (s.bayWindow b = false → st = 1 → (t.bay b).seatAt = some (s.clock + 4900000)))) ∧
    (∀ p, (∃ t, exec (.headUnseated b p) s = .next t ∧ t.baySeated b = false ∧
        t.bayState b = (if s.bayWindow b = false ∧ 2 ≤ st ∧ st ≤ 6 then 1 else st))) ∧
    (st ≠ 2 ∨ s.isDue (s.bay b).seatAt = false → Idle (.seatDebounceEnd b) s) ∧
    (st = 2 → s.isDue (s.bay b).seatAt = true → (s.bayWindow b = true ∨ s.baySeated b = true) →
      goes (.seatDebounceEnd b) (if s.bayMayStart b then 4 else 3)) ∧
    (∃ t, exec .bayOutOfWindow s = .next t ∧ ∀ c : Fin 4,
      t.bayState c = (if 2 ≤ s.bayState c ∧ s.bayState c ≤ 5 then 2 else s.bayState c)) ∧
    (st ≠ 4 → Idle (.powerGood b) s ∧ Idle (.shortStart b) s) ∧
    (st = 4 → (s.bay b).startAt + bayRampNs (s.bay b).slew ≤ s.clock → ∃ t, exec (.powerGood b) s = .next t ∧ t.bayState b = 5 ∧
      t.rd BY_STAT_PG 0 b = 1 ∧ (t.bay b).onAt = some s.clock) ∧
    (let faults := fun (i : Instr) (code : Nat) => ∃ t, exec i s = .next t ∧
        t.rd BY_STAT_COUNT 0 b = min 15 (s.rd BY_STAT_COUNT 0 b + 1) ∧ t.rd BY_STAT_LAST_FAULT 0 b = code ∧
        t.bayState b = (if s.bayLimit b ≤ min 15 (s.rd BY_STAT_COUNT 0 b + 1) then 7 else 6)
     (st = 4 → (s.bay b).startAt + 2 * bayRampNs (s.bay b).slew ≤ s.clock → faults (.shortStart b) 1) ∧
     (st = 4 → faults (.fastTrip b) 1 ∧ faults (.overcurrent b) 3 ∧ Idle (.pgLost b) s) ∧
     (st = 5 → faults (.fastTrip b) 2 ∧ faults (.overcurrent b) 3 ∧ faults (.pgLost b) 4) ∧
     (st ≠ 4 → st ≠ 5 → Idle (.fastTrip b) s ∧ Idle (.overcurrent b) s ∧ Idle (.pgLost b) s)) ∧
    (st ≠ 6 ∨ s.isDue (s.bay b).retryAt = false → Idle (.retryExpiry b) s) ∧
    (st = 6 → s.isDue (s.bay b).retryAt = true → goes (.retryExpiry b) (if s.bayMayStart b then 4 else 3)) ∧
    (st = 5 → ∀ u, (s.bay b).onAt = some u → u + 10000000000 ≤ s.clock →
      Does (.faultCountReset b) s [BY_STAT_COUNT.key 0 b] fun t => t.rd BY_STAT_COUNT 0 b = 0) ∧
    ((s.bay b).onAt = none → Idle (.faultCountReset b) s) ∧
    (∀ v : Word, s.mirrorOk = true → let hs := v.toNat % 256; let lp := v.toNat / 256 % 65536
      let clash := ∃ c : Fin 4, c ≠ b ∧ (Nat.land hs (s.rd BY_MAP_HS 0 c) ≠ 0 ∨ Nat.land lp (s.rd BY_MAP_LP 0 c) ≠ 0)
      (clash → Does (.byMapWrite b v) s [BY_STAT_MAP_REJ.key 0 b] fun t => t.rd BY_STAT_MAP_REJ 0 b = 1) ∧
      (¬ clash → st = 5 → Does (.byMapWrite b v) s [BY_MAP_HS.key 0 b, BY_MAP_LP.key 0 b] fun t =>
        t.rd BY_MAP_HS 0 b = hs ∧ t.rd BY_MAP_LP 0 b = lp))

/-- R312, R327, R568, R586, R588, R589 and R592. -/
def Obligations.HeadsAreIdentifiedAndTheAdcScans : Prop :=
  ∀ (s : State) (b : Fin 4), s.wf = true → s.kDieOn = true → s.beaconUp = true → s.keep.entry = none →
    let keys := [BY_HEAD_KIND.key 0 b, BY_HEAD_STATUS.key 0 b, BY_HEAD_DECL_MW.key 0 b]
    (∀ u, (s.bay b).idFrom = some u → s.bayState b = 5 → (s.bay b).idNext ≤ s.clock → ∀ (decl : Fin 65536),
      let shows := fun (m50 m57 : Option (List Byte)) (kind status power : Nat) =>
        let P := fun (t : State) => t.rd BY_HEAD_KIND 0 b = kind ∧ t.rd BY_HEAD_STATUS 0 b = status ∧
          t.rd BY_HEAD_DECL_MW 0 b = power ∧ (t.bay b).idFrom = none ∧ ∃ data, Fired s t (8 + b) 32 data
        (u = (s.bay b).idNext → Does (.headIdent b m50 m57 decl) s keys P) ∧
        (u ≠ (s.bay b).idNext → Does (.headIdentRetry b m50 m57 decl) s keys P ∧ Idle (.headIdent b m50 m57 decl) s)
      (∀ l m57, shows (some l) m57 (if l.getD 0 0 = 3 then 1 else 2) 1 decl) ∧
      (∀ c, headCardOk c = true → shows none (some c) 3 1 (leAt c 8 2)) ∧
      (∀ c, headCardOk c = false → shows none (some c) 3 3 0) ∧
      (u + 2000000000 ≤ s.clock → shows none none 0 2 0) ∧
      (s.clock < u + 2000000000 → u = (s.bay b).idNext → Does (.headIdent b none none decl) s [] fun t =>
        (t.bay b).idNext = s.clock + 100000000 ∧ (t.bay b).idFrom = some u) ∧
      (s.clock < u + 2000000000 → u ≠ (s.bay b).idNext → Does (.headIdentRetry b none none decl) s [] fun t =>
        (t.bay b).idNext = s.clock + 100000000)) ∧
    (∀ on,
      (s.flag BY_STAT_INT 0 b = on → Idle (.headIntChange b on) s) ∧
      (s.flag BY_STAT_INT 0 b ≠ on → Does (.headIntChange b on) s [BY_STAT_INT.key 0 b] fun t =>
        t.flag BY_STAT_INT 0 b = on ∧ Fired s t (12 + b) (boolNat on) (s.rd BY_STAT_LOS 0 b)) ∧
      (s.flag BY_STAT_LOS 0 b = on → Idle (.headLosChange b on) s) ∧
      (s.flag BY_STAT_LOS 0 b ≠ on → (on = false ∨ s.baySlices b = []) → Does (.headLosChange b on) s [BY_STAT_LOS.key 0 b] fun t =>
        t.flag BY_STAT_LOS 0 b = on ∧ Fired s t (12 + b) 2 (boolNat on))) ∧
    (∀ l : List (Fin 4096), l.length ≠ 16 → exec (.adcScan l) s = .fault .illFormed) ∧
    (∀ l : List (Fin 4096), l.length = 16 →
      (s.clock < s.feed.scanDue → Idle (.adcScan l) s) ∧
      (s.feed.scanDue ≤ s.clock → s.rd KP_ADC_CTL_AVG = 0 → DoesWide (.adcScan l) s fun t =>
        ∀ c : Fin 16, t.rd KP_ADC_RAW 0 c = (l.getD c 0).val ∧ t.rd KP_ADC_VALID 0 c = 1)) ∧
    (∀ v : Word, (s.mirrorOk = false → Idle (.pdLimitWrite v) s) ∧
      (s.mirrorOk = true → Does (.pdLimitWrite v) s [FD_POE_CFG_CLASS.key 0 0, FD_POE_CFG_MPS_KEEP.key 0 0,
          FD_POE_CFG_PD_LIMIT_MW.key 0 0] fun t =>
        t.rd FD_POE_CFG_CLASS = v.toNat % 8 ∧ t.rd FD_POE_CFG_MPS_KEEP = v.toNat / 8 % 2 ∧
        t.rd FD_POE_CFG_PD_LIMIT_MW = v.toNat / 65536 ∧
        (s.rd FD_POE_CFG_PD_LIMIT_MW ≠ v.toNat / 65536 → Fired s t 3 8 (s.rd FD_POE_PD_MW))))

/-- R210, R280, R282, R301, R389, R390, R474, R478, R485, R498 and R505. That the write has arrived from one who may make it is the
model's reading of these rows (log 54). -/
def Obligations.RegisterRowsWriteTheirFields : Prop :=
  ∀ (s : State), s.wf = true →
    let tlp := [GL_LINK_STAT_LINK.key 0 0, KP_DOM.key 0 0, KP_PWR_STAT_EDIE.key 0 0]
    (s.working = false → (∀ h a v, Idle (.imemWrite h a v) s) ∧ (∀ i, Idle (.adaptSnap i) s ∧ Idle (.sliceReset i) s) ∧
      (∀ c v, Idle (.cuHackWrite c v) s) ∧ ∀ v, Idle (.pmAlignWrite v) s) ∧
    (s.working = true →
      (∀ (h : Fin 32) (a : Fin 4096) (v : Word),
        ((s.helm h).ps.bound = true → Does (.imemWrite h a v) s (HM_STAT_WR_IGN.key h 0 :: tlp) fun t => t.helms = s.helms ∧
          t.rd HM_STAT_WR_IGN h = min 255 (s.rd HM_STAT_WR_IGN h + 1)) ∧
        ((s.helm h).ps.bound = false → Does (.imemWrite h a v) s tlp fun t =>
          smGet 0 (t.helm h).imem a = v ∧ (∀ b : Fin 4096, b ≠ a → smGet 0 (t.helm h).imem b = smGet 0 (s.helm h).imem b) ∧
          ∀ k : Fin 32, k ≠ h → t.helm k = s.helm k)) ∧
      (∀ i : Fin 24,
        (let ins := fun (c : Instr) (layer item mode man exp count : Nat) =>
          Does c s (tlp ++ [OV_INS_LAYER.key i 0, OV_INS_ITEM.key i 0, OV_INS_MODE.key i 0, OV_INS_MAN.key i 0, OV_INS_EXP.key i 0,
              OV_INS_COUNT.key i 0]) fun t =>
            t.rd OV_INS_LAYER i = layer ∧ t.rd OV_INS_ITEM i = item ∧ t.rd OV_INS_MODE i = mode ∧ t.rd OV_INS_MAN i = man ∧
            t.rd OV_INS_EXP i = exp ∧ t.rd OV_INS_COUNT i = count ∧ (t.ovh i).insLeft = 0
         ∀ (layer : Fin 16) (item : Byte),
          ins (.ovInsSingle i layer item) layer item.toNat 1 0 0 0 ∧
          (∀ man exp : Fin 16, ins (.ovInsRate i layer item man exp) layer item.toNat 2 man exp 0) ∧
          (∀ count : Fin 1024, ins (.ovInsBurst i layer item count) layer item.toNat 3 0 0 count)) ∧
        (let force := fun (c : Instr) (f : Fld) (layer : Fin 16) (on : Bool) => Does c s (tlp ++ [OV_FORCE_LAYER.key i 0, f.key i 0])
            fun t => t.rd OV_FORCE_LAYER i = layer ∧ t.flag f i = on
         ∀ layer on, force (.forceAis i layer on) OV_FORCE_AIS layer on ∧ force (.forceRdi i layer on) OV_FORCE_RDI layer on ∧
          force (.forceUneq i layer on) OV_FORCE_UNEQ layer on ∧ force (.forceLof i layer on) OV_FORCE_LOF layer on ∧
          force (.forceLos i layer on) OV_FORCE_LOS layer on ∧ force (.forceLck i layer on) OV_FORCE_LCK layer on ∧
          force (.forceLf i layer on) OV_FORCE_LF layer on ∧ force (.forceRf i layer on) OV_FORCE_RF layer on) ∧
        (∀ on, Does (.adaptFreeze i on) s (tlp ++ [ADAPT_CTL_FREEZE.key i 0]) fun t => t.flag ADAPT_CTL_FREEZE i = on) ∧
        (8 ≤ i.val → Does (.adaptSnap i) s (tlp ++ [LP_RPT_EQ_GAIN.key i 0, LP_RPT_PEAK.key i 0]) fun t =>
          t.rd LP_RPT_EQ_GAIN i = (s.line i).live.getD 0 0 % 1024 ∧ t.rd LP_RPT_PEAK i = (s.line i).live.getD 1 0 % 1024) ∧
        (i.val < 8 → DoesWide (.adaptSnap i) s fun t => t.rd HS_RPT0_CTLE i = (s.line i).live.getD 0 0 % 16 ∧
          t.rd HS_RPT0_DFE1 i = (s.line i).live.getD 1 0 % 64 ∧ t.rd HS_RPT1_EYE_H i = (s.line i).live.getD 4 0 % 4096) ∧
        (s.rd LINE_STAT_LSTATE i = 0 → s.groupLead? i = none → fmtBonded (s.fmt i) = false →
          (∀ o ∈ s.ops, o.opcode ≠ 0x10 ∧ o.opcode ≠ 0x12) →
          DoesWide (.sliceReset i) s fun t => t.rd LINE_STAT_LSTATE i = 0 ∧ t.rd FR_STAT_STATE i = FR_STAT_STATE.reset ∧
            (t.ovh i).latch = 0)) ∧
      (∀ i : Fin 16,
        (s.flag LP_LOOP_PENDING (8 + i) = false → Does (.loopPendingClear i) s tlp fun t => t.lines = s.lines) ∧
        (s.flag LP_LOOP_PENDING (8 + i) = true →
          Does (.loopPendingClear i) s (tlp ++ [LP_LOOP_PENDING.key (8 + i) 0, LP_LOOP_CONFIRMED.key (8 + i) 0]) fun t =>
            t.rd LP_LOOP_PENDING (8 + i) = 0 ∧ t.rd LP_LOOP_CONFIRMED (8 + i) = 0)) ∧
      (∀ (n : Fin 16) (c : Fin 64), let x := s.chute c
        (x.consumer ≠ 3 → Does (.cuMark c) s tlp (fun t => t.chutes = s.chutes) ∧ Does (.cuRewind c) s tlp (fun t => t.chutes = s.chutes) ∧
          Does (.cuRelease c) s tlp (fun t => t.chutes = s.chutes)) ∧
        (x.consumer = 3 → Does (.cuMark c) s tlp (fun t => t.chute c = { x with waypt := some x.read }) ∧
          Does (.cuRewind c) s tlp (fun t => t.chute c = { x with read := x.waypt.getD 0 }) ∧
          Does (.cuRelease c) s tlp (fun t => (t.chute c).held = x.held.drop x.read ∧ (t.chute c).read = 0 ∧
            (t.chute c).waypt = none)) ∧
        (x.consumer = 0 → Does (.cuOwn n c true) s tlp fun t => (t.chute c).consumer = 3 ∧ (t.chute c).conSess = n) ∧
        (x.consumer = 3 → Does (.cuOwn n c false) s tlp fun t => (t.chute c).consumer = 0) ∧
        (x.consumer = 1 ∨ x.consumer = 2 → Does (.cuOwn n c true) s (tlp ++ [SES_VIOL_VIOL_COUNT.key n 0, SES_VIOL_VIOL_OFFSET.key n 0])
          fun t => t.chutes = s.chutes) ∧
        (s.holdsOwn n c = false → Does (.cuPopTake n c) s tlp fun t => t.out = s.out ++ [.readData n 0] ∧ t.chutes = s.chutes) ∧
        (∀ e, s.holdsOwn n c = true → x.held[x.read]? = some e → Does (.cuPopTake n c) s tlp fun t =>
          t.out = s.out ++ [.readData n (e.data % 2 ^ 32)] ∧ (t.chute c).pop = some e) ∧
        (∀ v : Word, Does (.cuHackWrite c v) s (tlp ++ [CU_HACK.key c 0]) fun t => t.rd CU_HACK c = v.toNat)) ∧
      (∀ (n : Fin 16) (p : Fin 2048) (v : Word),
        (v.toNat < 2 ^ 31 → Does (.pmAttach n p v) s tlp fun t => t.pm = s.pm) ∧
        (2 ^ 31 ≤ v.toNat → v.toNat.testBit 30 = false → s.pmAttachCheck n p (v.toNat % 65536) (v.toNat / 65536 % 256) = 0 →
          Does (.pmAttach n p v) s (tlp ++ [PM_CFG_SRC.key p 0, PM_CFG_SEL.key p 0, PM_CFG_ATTACHED.key p 0, PM_CFG_ORPHANED.key p 0]) fun t =>
            t.flag PM_CFG_ATTACHED p = true ∧ t.rd PM_CFG_SRC p = v.toNat % 65536) ∧
        (2 ^ 31 ≤ v.toNat → v.toNat.testBit 30 = false → s.pmAttachCheck n p (v.toNat % 65536) (v.toNat / 65536 % 256) ≠ 0 →
          Does (.pmAttach n p v) s (tlp ++ [SES_VIOL_VIOL_COUNT.key n 0, SES_VIOL_VIOL_OFFSET.key n 0]) fun t => t.pm = s.pm)) ∧
      (∀ v : BitVec 64, Does (.pmAlignWrite v) s (tlp ++ [PM_ALIGN.key 0 0]) fun t => t.rd PM_ALIGN = v.toNat))

/-- R12 to R16, R67, R97, R517, R687 and R691. -/
def Obligations.ReadsAndWritesOfTheRegisterFabric : Prop :=
  ∀ (s : State), s.wf = true → s.working = true →
    let tlp := [GL_LINK_STAT_LINK.key 0 0, KP_DOM.key 0 0, KP_PWR_STAT_EDIE.key 0 0]
    (s.rd GL_HOST_ERR_CTO < 256 → s.rd GL_HOST_ERR_BADCPL < 256 → s.rd GL_HOST_ERR_UNEXP < 256 →
      Does (.rcRead 0 0x1C) s (tlp ++ [GL_HOST_ERR_CTO.key 0 0, GL_HOST_ERR_BADCPL.key 0 0, GL_HOST_ERR_UNEXP.key 0 0]) fun t =>
        t.out = s.out ++ [.readData 0 (s.rd GL_HOST_ERR_CTO + s.rd GL_HOST_ERR_BADCPL * 256 + s.rd GL_HOST_ERR_UNEXP * 65536)] ∧
        t.rd GL_HOST_ERR_CTO = 0 ∧ t.rd GL_HOST_ERR_BADCPL = 0 ∧ t.rd GL_HOST_ERR_UNEXP = 0) ∧
    (s.rd HL_SNAP_TIME < 2 ^ 64 → Does (.wideReadLow 0 0x12108) s tlp fun t =>
      t.out = s.out ++ [.readData 0 (s.rd HL_SNAP_TIME % 2 ^ 32)] ∧ t.working = true ∧
      ∀ u : State, u.wf = true → u.working = true → u.hiLatch = t.hiLatch →
        Does (.rcRead 0 0x1210C) u tlp fun w => w.out = u.out ++ [.readData 0 (s.rd HL_SNAP_TIME / 2 ^ 32)]) ∧
    (Does (.rcRead 0 0x601000) s tlp fun t => t.out = s.out ++ [.readData 0 0]) ∧
    (∀ v : Word, Does (.registerWrite 0 0x601000 v false) s tlp fun t => t.out = s.out) ∧
    (∀ n a v, Does (.registerWrite n a v true) s tlp fun t => t.out = s.out ∧ t.helms = s.helms ∧ t.sessions = s.sessions) ∧
    (∀ (n : Fin 16) (v : Word), 1 ≤ n.val → s.vfOpen n = true →
      (Does (.registerWrite n 0x1C0 v false) s (tlp ++ [LAT_TOL.key n 0]) fun t => t.rd LAT_TOL n = v.toNat % 2 ^ 24) ∧
      (s.rd WIN_PAGE n = 2 → s.helmOwner 0 ≠ n.val →
        (Does (.registerWrite n 0x108000 v false) s (tlp ++ [SES_VIOL_VIOL_COUNT.key n 0, SES_VIOL_VIOL_OFFSET.key n 0]) fun t =>
          t.helms = s.helms ∧ t.rd SES_VIOL_VIOL_OFFSET n = 0x8000 / 16) ∧
        (Does (.rcRead n 0x108000) s tlp fun t => t.out = s.out ++ [.readData n 0])) ∧
      (s.rd WIN_PAGE n = 2 → s.helmOwner 0 = n.val → (s.helm 0).ps.bound = false → smSorted (s.helm 0).imem = true →
        Does (.registerWrite n 0x108000 v false) s tlp fun t => smGet 0 (t.helm 0).imem 0 = v)) ∧
    (∀ (off : Fin 16777216) (data : List Byte), off.val + data.length ≤ 0x800000 →
      (∀ k, k < data.length → s.pageBusy ((off.val + k) / 4096) = false) →
      ∃ t, exec (.bar2Write off data) s = .next t ∧ SameRegs tlp s t ∧
        (∀ k, k < data.length → t.byteAt (off.val + k) = data.getD k 0) ∧
        (∀ a, a < off.val ∨ off.val + data.length ≤ a → t.byteAt a = s.byteAt a))

/-- R126 to R131. -/
def Obligations.TheKeeperPortAnswersItsFrames : Prop :=
  ∀ (s : State), s.wf = true →
    let answer := fun (t : State) (bits : Nat) (data : List Byte) =>
      .keeper (0xA5 :: ((BitVec.ofNat 8 (bits + 16 * t.kpEDie) :: data) ++ [crc8 (BitVec.ofNat 8 (bits + 16 * t.kpEDie) :: data)]))
    (s.kpAttends = false → (∀ crc, Idle (.kpNop crc) s ∧ Idle (.kpReadId crc) s ∧ Idle (.kpWake crc) s) ∧ Idle .kpFrameAbort s ∧
      (∀ a crc, Idle (.kpRead a crc) s) ∧ (∀ a v crc, Idle (.kpWrite a v crc) s) ∧ (∀ c crc, Idle (.kpColdReset c crc) s) ∧
      ∀ c crc, Idle (.kpUnknownCommand c crc) s) ∧
    (s.kpAttends = true →
      (Does .kpFrameAbort s [KP_PORT_STAT_ABORT.key 0 0] fun t => t.rd KP_PORT_STAT_ABORT = min 255 (s.rd KP_PORT_STAT_ABORT + 1)) ∧
      (let wrong := fun (i : Instr) => Does i s [KP_PORT_STAT_CRC_ERR.key 0 0] fun t => t.out = s.out ++ [answer s 2 []] ∧
          t.rd KP_PORT_STAT_CRC_ERR = min 255 (s.rd KP_PORT_STAT_CRC_ERR + 1)
       (∀ crc, crc ≠ crc8 [0x00] → wrong (.kpNop crc)) ∧ (∀ crc, crc ≠ crc8 [0x10] → wrong (.kpReadId crc)) ∧
       (∀ crc, crc ≠ crc8 [0x20] → wrong (.kpWake crc)) ∧
       (∀ (a : BitVec 16) crc, crc ≠ crc8 (0x11 :: leBytes 2 a.toNat) → wrong (.kpRead a crc)) ∧
       (∀ (a : BitVec 16) (v : Word) crc, crc ≠ crc8 (0x12 :: (leBytes 2 a.toNat ++ leBytes 4 v.toNat)) → wrong (.kpWrite a v crc)) ∧
       (∀ c crc, crc ≠ crc8 [0x30, c] → wrong (.kpColdReset c crc)) ∧ (∀ c crc, crc ≠ crc8 [c] → wrong (.kpUnknownCommand c crc))) ∧
      (Does (.kpNop (crc8 [0x00])) s [] fun t => t.out = s.out ++ [answer s 1 []]) ∧
      (Does (.kpReadId (crc8 [0x10])) s [] fun t => t.out = s.out ++ [answer s 1 (leBytes 4 (s.view .kdie 0 0))]) ∧
      (∀ c, Does (.kpUnknownCommand c (crc8 [c])) s [] fun t => t.out = s.out ++ [answer s 4 []]) ∧
      (∀ a : BitVec 16, let ok := crc8 (0x11 :: leBytes 2 a.toNat)
        (a.toNat % 4 ≠ 0 → Does (.kpRead a ok) s [] fun t => t.out = s.out ++ [answer s 4 []]) ∧
        (a.toNat % 4 = 0 → 0x1000 ≤ a.toNat → Does (.kpRead a ok) s [] fun t => t.out = s.out ++ [answer s 1 (leBytes 4 0)])) ∧
      (∀ v : Word, Does (.kpWrite 0x420 v (crc8 (0x12 :: (leBytes 2 0x420 ++ leBytes 4 v.toNat)))) s [FD_PACK_LOW_MW.key 0 0] fun t =>
        t.rd FD_PACK_LOW_MW = v.toNat % 65536 ∧ t.out = s.out ++ [answer s 1 []]) ∧
      (s.beaconUp = true → s.keep.entry = none → s.boot.phase ≠ 4 → Does (.kpWake (crc8 [0x20])) s [] fun t =>
        t.out = s.out ++ [answer s 1 []] ∧ ∃ cause data, Fired s t 6 cause data) ∧
      (∀ c, c ≠ 0xC3 → Does (.kpColdReset c (crc8 [0x30, c])) s [] fun t => t.out = s.out ++ [answer s 4 []]) ∧
      (s.noWake = false → ∃ t, exec (.kpColdReset 0xC3 (crc8 [0x30, 0xC3])) s = .next t ∧ t.boot.phase = 1 ∧ t.boot.cause = 1 ∧
        t.rd KP_PWR_STAT_EDIE = 7 ∧ t.out = s.out ++ [answer t 1 []]))

/-- R27, R274, R286 to R289, R291, R294 and R355. That a bonded member counts as ACQUIRED by another is the model's reading (log 34). -/
def Obligations.AnAttemptGoesThroughItsStages : Prop :=
  ∀ (s : State), s.wf = true → ∀ (i : Fin 24),
    (∀ (n : Fin 16) (tag : Nat) (o : Op), s.opRuns n tag 0x10 o → o.stage = 0 → objSlice? o.obj = some i.val →
      fmtBonded (o.par 0 % 128) = false → DoesWide (.acquire n tag) s fun t =>
        t.rd LINE_STAT_LSTATE i = 1 ∧ t.rd LINE_STAT_FORMAT i = o.par 0 % 128 ∧ t.rd LINE_STAT_STAGE i = 1 ∧
        t.rd LINE_STAT_RESTARTS i = 0 ∧ t.rd LINE_STAT_LOCK i = 0 ∧ t.rd LINE_STAT_SETTLED i = 0 ∧
        t.op? n tag = some { o with stage := 1 } ∧
        (let a : Acq := { sess := n, tag := tag, p1 := o.par 1, p2 := o.par 2, furthest := 1, due := some (s.clock + 1000000 * s.stageMs i 1),
                          rem := none, power := s.inMs 2, suspended := false, loss := none }
         (t.line i).acq = some a)) ∧
    (∀ (n : Fin 16) (tag : Nat) (o : Op), s.opRuns n tag 0x11 o → objSlice? o.obj = some i.val →
      (s.rd LINE_STAT_LSTATE i = 3 → OpDoes (.releaseLine n tag) s n tag 0x10 0 [] fun t => t.lines = s.lines) ∧
      (s.rd LINE_STAT_LSTATE i = 2 → (s.line i).acq = none → DoesWide (.releaseLine n tag) s fun t =>
        Ends s t n tag 0 0 ∧ t.rd LINE_STAT_LSTATE i = 0 ∧ t.rd LINE_STAT_TX_ON i = 0) ∧
      (∀ a x, s.rd LINE_STAT_LSTATE i = 1 → (s.line i).acq = some a → s.op? a.sess a.tag = some x → x.fin = none →
        ¬ (a.sess = n.val ∧ a.tag = tag) → DoesWide (.releaseLine n tag) s fun t =>
          Ends s t n tag 0 0 ∧ EndsAs t a.sess a.tag 1 ∧ t.rd LINE_STAT_LSTATE i = 0)) ∧
    (∀ a, (s.line i).acq = some a → a.suspended = false → ∀ cs,
      (s.rd LINE_STAT_STAGE i = 1 →
        ((∀ j ∈ s.group i, s.flag LINE_STAT_SIG j = true ∧ ∃ t0, (s.line j).sigSince = some t0 ∧ t0 + 1000000 ≤ s.clock) →
          a.power ≤ s.clock → Does (.stageComplete i cs) s [LINE_STAT_STAGE.key i 0] fun t => t.rd LINE_STAT_STAGE i = 2 ∧
            (t.line i).acq = some { a with furthest := max a.furthest 2, due := some (s.clock + 1000000 * s.stageMs i 2), rem := none }) ∧
        ((∃ j ∈ s.group i, s.flag LINE_STAT_SIG j = false) ∨ s.clock < a.power → Idle (.stageComplete i cs) s)) ∧
      (s.rd LINE_STAT_STAGE i = 2 → Does (.stageComplete i cs) s (LINE_STAT_STAGE.key i 0 ::
          (s.group i).flatMap fun j => [LINE_STAT_LOCK.key j 0, LINE_STAT_TXTIME.key j 0, LINE_STAT_TX_HOLDOVER.key j 0])
        fun t => t.rd LINE_STAT_STAGE i = 3 ∧ ∀ j ∈ s.group i, t.rd LINE_STAT_LOCK j = 1) ∧
      (s.rd LINE_STAT_STAGE i = 3 → fmtBonded (s.fmt i) = false → familyOf (s.fmt i) ≠ .unframed → familyOf (s.fmt i) ≠ .none →
        DoesWide (.stageComplete i cs) s fun t => t.rd LINE_STAT_STAGE i = 4 ∧ t.rd LINE_STAT_SETTLED i = 1 ∧ t.frState i = 0 ∧
          (optHold a.p2 = true → t.rd ADAPT_CTL_FREEZE i = 1) ∧
          (t.line i).live = ((List.range (if i.val < 8 then 6 else 2)).map fun k => (cs.getD 0 []).getD k 0) ∧
          (8 ≤ i.val → t.rd LP_RPT_LOSS_EST i =
            min 0x3FE ((cs.getD 0 []).getD 0 0 - (if optRxMode a.p2 = 2 then 200 else 0)))) ∧
      (s.rd LINE_STAT_STAGE i = 4 → s.frState i = 2 → (fmtMultiframe (s.fmt i) = true → s.rd FR_STAT_MF_STATE i = 2) →
        (optHs a.p2 = 0 → s.loopPending i = false → ∀ x, s.op? a.sess a.tag = some x → x.fin = none → x.st = .running →
          DoesWide (.stageComplete i cs) s fun t => t.rd LINE_STAT_STAGE i = 6 ∧ t.rd LINE_STAT_LSTATE i = 2 ∧
            EndsAs t a.sess a.tag 0 ∧ (t.line i).acq = none ∧ (t.line i).chargeTo = a.sess ∧ (t.line i).charge = x.est) ∧
        (optHs a.p2 = 1 → s.loopPending i = false → DoesWide (.stageComplete i cs) s fun t => t.rd LINE_STAT_STAGE i = 5 ∧
          t.rd LP_LOOP_PENDING i = 1 ∧ t.rd LP_LOOP_CONFIRMED i = 0 ∧ (t.line i).loop = 2 ∧
          t.out = s.out ++ [.line i (32 + optKind a.p2)])) ∧
      (s.rd LINE_STAT_STAGE i = 4 → s.frState i ≠ 2 → Idle (.stageComplete i cs) s)) ∧
    (∀ a, (s.line i).acq = some a →
      (s.isDue a.due = false → Idle (.stageTimerExpiry i) s) ∧
      (s.isDue a.due = true → s.rd LINE_STAT_RESTARTS i < a.p1 % 16 → DoesWide (.stageTimerExpiry i) s fun t =>
        t.rd LINE_STAT_RESTARTS i = s.rd LINE_STAT_RESTARTS i + 1 ∧ t.rd LINE_STAT_STAGE i = 1 ∧ t.rd LINE_STAT_LOCK i = 0 ∧
        t.frState i = 3) ∧
      (s.isDue a.due = true → a.p1 % 16 ≤ s.rd LINE_STAT_RESTARTS i → ∀ x, s.op? a.sess a.tag = some x → x.fin = none →
        DoesWide (.stageTimerExpiry i) s fun t => EndsAs t a.sess a.tag 0x18 ∧ t.rd LINE_STAT_LSTATE i = 0 ∧
          t.rd LINE_STAT_TX_ON i = 0 ∧ t.frState i = 3)) ∧
    (s.rd LINE_STAT_LSTATE i = 0 → Idle (.signalPresent i) s ∧ Idle (.signalAbsent i) s) ∧
    (s.rd LINE_STAT_LSTATE i ≠ 0 → s.flag LINE_STAT_SIG i = false →
      (DoesWide (.signalPresent i) s fun t => t.rd LINE_STAT_SIG i = 1 ∧ (t.line i).sigSince = some s.clock ∧
        (t.ovh i).hw.testBit 1 = false) ∧ Idle (.signalAbsent i) s) ∧
    (s.rd LINE_STAT_LSTATE i ≠ 0 → s.flag LINE_STAT_SIG i = true → Idle (.signalPresent i) s ∧
      (DoesWide (.signalAbsent i) s fun t => t.rd LINE_STAT_SIG i = 0 ∧
        (s.groupLead? i = none → fmtBonded (s.fmt i) = false → (s.line i).acq = none → (t.ovh i).hw.testBit 1 = true ∧
          (s.frState i = 2 → t.frState i = 0 ∧ t.rd FR_STAT_CAUSE i = 2))))

/-- R277, R279, R280, R282, R292, R297, R298, R300, R326 and R595. -/
def Obligations.LoopCodesReportsAndTransmitTiming : Prop :=
  ∀ (s : State), s.wf = true →
    (∀ (i : Fin 24), let x := s.line i
      (s.isDue x.loopDue = false → Idle (.loopUpActivateEnd i) s ∧ Idle (.loopDownEnd i) s) ∧
      (x.loop = 2 → s.isDue x.loopDue = true → Does (.loopUpActivateEnd i) s [] fun t =>
        t.line i = { x with loop := 3, loopDue := none } ∧ t.out = s.out ++ [.line i (48 + x.loopKind)]) ∧
      (x.loop = 3 →
        (∀ a, x.acq = some a → a.suspended = false → DoesWide (.loopConfirm i) s fun t => t.rd LP_LOOP_CONFIRMED i = 1 ∧
          t.rd LINE_STAT_LSTATE i = 2 ∧ t.rd LINE_STAT_STAGE i = 6) ∧
        (x.acq = none → DoesWide (.loopConfirm i) s fun t => t.rd LP_LOOP_CONFIRMED i = 1 ∧ (t.line i).loop = 6 ∧
          (t.line i).probeMs = some ((s.clock - x.loopFrom) / 1000000))) ∧
      (x.loop ≠ 3 → Idle (.loopConfirm i) s) ∧
      (s.isDue x.loopDue = true →
        (∀ a, x.loop = 1 → x.probe = none → x.acq = some a → optHs a.p2 = 0 → DoesWide (.loopDownEnd i) s fun t =>
          t.rd LP_LOOP_PENDING i = 0 ∧ t.rd LP_LOOP_CONFIRMED i = 0 ∧ t.rd LINE_STAT_LSTATE i = 2) ∧
        (∀ a, x.loop = 4 → x.acq = some a → DoesWide (.loopDownEnd i) s fun t => t.rd LINE_STAT_LSTATE i = 2 ∧
          t.rd LP_LOOP_PENDING i = (if s.rd LP_LOOP_KIND i = x.loopKind then 0 else s.rd LP_LOOP_PENDING i)) ∧
        (x.loop = 6 → x.probe.isSome = true → DoesWide (.loopDownEnd i) s fun t => t.rd LP_LOOP_PENDING i = 0 ∧
          (t.line i).probe = none ∧ (t.line i).loop = 0)) ∧
      (∀ a page, x.acq = some a → a.suspended = false → x.loop = 5 → DoesWide (.autonegComplete i page) s fun t =>
        (t.line i).autoneg = some (page.toNat, s.tm.device) ∧ t.rd LINE_STAT_LSTATE i = 2 ∧ (t.line i).acq = none) ∧
      (s.rd LINE_STAT_LSTATE i = 0 → Idle (.reportRefresh i) s ∧ ∀ d m, Idle (.backgroundAdaptStep i d m) s) ∧
      (s.rd LINE_STAT_LSTATE i ≠ 0 →
        (i.val < 8 → Does (.reportRefresh i) s [HS_RPT0_CTLE.key i 0, HS_RPT0_DFE1.key i 0, HS_RPT0_DFE2.key i 0, HS_RPT0_VGA.key i 0,
            HS_RPT1_EYE_H.key i 0, HS_RPT1_EYE_W.key i 0] fun t => t.rd HS_RPT0_CTLE i = x.live.getD 0 0 % 16 ∧
          t.rd HS_RPT0_DFE1 i = x.live.getD 1 0 % 64 ∧ t.rd HS_RPT0_DFE2 i = x.live.getD 2 0 % 64 ∧
          t.rd HS_RPT0_VGA i = x.live.getD 3 0 % 32) ∧
        (8 ≤ i.val → Does (.reportRefresh i) s [LP_RPT_EQ_GAIN.key i 0, LP_RPT_PEAK.key i 0] fun t =>
          t.rd LP_RPT_EQ_GAIN i = x.live.getD 0 0 % 1024 ∧ t.rd LP_RPT_PEAK i = x.live.getD 1 0 % 1024) ∧
        (∀ d m, s.flag ADAPT_CTL_FREEZE i = true ∨ s.flag ADAPT_CTL_BG_OFF i = true → Idle (.backgroundAdaptStep i d m) s) ∧
        (∀ (d : List (Fin 3)) m, 8 ≤ i.val → s.flag ADAPT_CTL_FREEZE i = false → s.flag ADAPT_CTL_BG_OFF i = false → x.acq = none →
          Does (.backgroundAdaptStep i d m) s [] fun t =>
            t.line i = { x with live := [coeffStep 10 false (x.live.getD 0 0) (d.getD 0 1), m.getD 0 (x.live.getD 1 0)] } ∧
            (x.live.getD 0 0 < 1024 → (t.line i).live.getD 0 0 ≤ x.live.getD 0 0 + 1 ∧
              x.live.getD 0 0 ≤ (t.line i).live.getD 0 0 + 1)))) ∧
    ((∀ j, fmtBonded (s.fmt j) = false) → 1 ≤ s.rd GL_REFIN_SEL → s.rd GL_REFIN_SEL ≤ 5 →
      (DoesWide .refinValid s fun t => t.rd GL_REFIN_VALID = 1 ∧ ∀ i : Fin 24, s.rd LINE_STAT_LSTATE i = 2 →
        optTx (s.line i).opts = 2 → t.rd LINE_STAT_TXTIME i = 2 ∧ t.rd LINE_STAT_TX_HOLDOVER i = 0) ∧
      (s.flag GL_REFIN_VALID = true → DoesWide .refinInvalid s fun t => t.rd GL_REFIN_VALID = 0 ∧ ∀ i : Fin 24,
        s.rd LINE_STAT_LSTATE i = 2 → optTx (s.line i).opts = 2 → t.rd LINE_STAT_TXTIME i = 0 ∧
        t.rd LINE_STAT_TX_HOLDOVER i = 1)) ∧
    (s.rd GL_REFIN_SEL = 0 → Idle .refinValid s) ∧ (s.flag GL_REFIN_VALID = false → Idle .refinInvalid s)

/-- R332 to R335, R338 to R340, R343, R345, R346, R356 and R361. -/
def Obligations.TheFramerFindsAndLosesItsPattern : Prop :=
  ∀ (s : State), s.wf = true → ∀ (i : Fin 24), let f := s.framer i
    let shown := [FR_STAT_STATE.key i 0, FR_STAT_CAND.key i 0, FR_STAT_ERR_WIN.key i 0]
    let inFrame := fun (c : Instr) => DoesWide c s fun t => t.frState i = 2 ∧ t.rd FR_STAT_OOF i = 0 ∧
      t.rd FR_IF_TIME i = s.tm.device % 2 ^ 64 ∧ (t.framer i).cands = [] ∧ (t.framer i).win = []
    let lost := fun (c : Instr) (cause : Nat) => DoesWide c s fun t => t.frState i = 0 ∧ t.rd FR_STAT_OOF i = 1 ∧
      t.rd FR_STAT_CAUSE i = cause ∧ t.rd FR_OOF_TIME i = s.tm.device % 2 ^ 64 ∧
      t.rd FR_CNT_OOF_CNT i = min 65535 (s.rd FR_CNT_OOF_CNT i + 1)
    (∀ pos aux, (s.frState i = 2 ∨ 8 ≤ f.cands.length ∨ (∃ n, (pos, n) ∈ f.cands) → Idle (.patternFound i pos aux) s) ∧
      (s.frHunts i = true → s.frState i ≤ 1 → f.cands.length < 8 → (∀ n, (pos, n) ∉ f.cands) →
        (s.frN i = 1 → aux = true → inFrame (.patternFound i pos aux)) ∧
        (1 < s.frN i ∨ (s.frN i = 1 ∧ aux = false) → Does (.patternFound i pos aux) s shown fun t => t.frState i = 1 ∧
          (t.framer i).cands = f.cands ++ [(pos, 1)]))) ∧
    (∀ pos n aux crc6, s.frHunts i = true → s.frState i = 1 → (f.cands.find? fun c => c.1 = pos) = some (pos, n) →
      (s.frN i ≤ n + 1 → inFrame (.candidateCheck i pos true true true)) ∧
      (n + 1 < s.frN i → Does (.candidateCheck i pos true true crc6) s shown fun t => t.frState i = 1 ∧
        (t.framer i).cands = f.cands.map fun c => if c.1 = pos then (pos, n + 1) else c) ∧
      (Does (.candidateCheck i pos false aux crc6) s shown fun t =>
        (t.framer i).cands = (f.cands.filter fun c => c.1 ≠ pos) ∧ (t.frState i = if (t.framer i).cands = [] then 0 else 1)) ∧
      (s.fmt i = 0x49 → s.frN i ≤ n + 1 → s.flag FR_CFG_CRC6_OFF i = false →
        Does (.candidateCheck i pos true true false) s shown fun t =>
          (t.framer i).cands = (f.cands.filter fun c => c.1 ≠ pos))) ∧
    (∀ e : Bool, s.frHunts i = true → s.frState i = 2 → let win := (e :: f.win).take (s.frW i)
      (s.frM i ≤ (win.filter id).length → lost (.syncCheckUnit i e) 1) ∧
      ((win.filter id).length < s.frM i → Does (.syncCheckUnit i e) s shown fun t => t.frState i = 2 ∧ (t.framer i).win = win)) ∧
    (∀ n, (n < 3 → Idle (.nfasLoss i n) s) ∧
      (s.fmt i = 0x40 ∨ s.fmt i = 0x41 → s.frState i = 2 → s.flag FR_CFG_LOSS_NFAS i = true → 3 ≤ n → lost (.nfasLoss i n) 1)) ∧
    (s.fmt i = 0x41 → s.frState i = 2 →
      (s.rd FR_STAT_MF_STATE i ≤ 1 →
        (∀ k, s.clock ≤ f.mfFrom + 8000000 →
          ((∃ w ∈ f.mfWords, w < k ∧ (k - w) % 16 = 0) → DoesWide (.crc4MfasWord i k) s fun t =>
            t.rd FR_STAT_MF_STATE i = 2 ∧ t.rd FR_STAT_OOM i = 0 ∧ t.frState i = 2) ∧
          ((∀ w ∈ f.mfWords, ¬ (w < k ∧ (k - w) % 16 = 0)) → Does (.crc4MfasWord i k) s [FR_STAT_MF_STATE.key i 0] fun t =>
            t.rd FR_STAT_MF_STATE i = 1 ∧ (t.framer i).mfWords = f.mfWords ++ [k])) ∧
        (s.clock < f.mfFrom + 8000000 → Idle (.crc4MfTimeout i) s) ∧
        (f.mfFrom + 8000000 ≤ s.clock → lost (.crc4MfTimeout i) 5)) ∧
      (∀ k, (k < 915 → Idle (.crc4FailThreshold i k) s) ∧
        (s.rd FR_STAT_MF_STATE i = 2 → 915 ≤ k → k ≤ 1000 → lost (.crc4FailThreshold i k) 5))) ∧
    (familyOf (s.fmt i) = .otn → s.frState i = 2 → ∀ (m : Fin 256) (l : Nat), f.mfLast = some l →
      (s.rd FR_STAT_MF_STATE i ≠ 2 → (l + 1) % 256 = m → s.frMfN i ≤ f.mfRun + 1 → DoesWide (.mfasCheck i m) s fun t =>
        t.rd FR_STAT_MF_STATE i = 2 ∧ t.rd FR_STAT_OOM i = 0) ∧
      (s.rd FR_STAT_MF_STATE i ≠ 2 → (l + 1) % 256 ≠ m → Does (.mfasCheck i m) s [FR_STAT_MF_STATE.key i 0] fun t =>
        t.rd FR_STAT_MF_STATE i = 0 ∧ (t.framer i).mfRun = 0 ∧ (t.framer i).mfLast = some m.val) ∧
      (s.rd FR_STAT_MF_STATE i = 2 → (l + 1) % 256 = m → 1 ≤ s.frMfM i → Does (.mfasCheck i m) s [] fun t =>
        (t.framer i).mfRun = 0 ∧ (t.framer i).mfLast = some m.val) ∧
      (s.rd FR_STAT_MF_STATE i = 2 → (l + 1) % 256 ≠ m → s.frMfM i ≤ f.mfRun + 1 → DoesWide (.mfasCheck i m) s fun t =>
        t.rd FR_STAT_MF_STATE i = 0 ∧ t.rd FR_STAT_OOM i = 1)) ∧
    (s.fmt i = 0x21 ∨ s.fmt i = 0x22 → ∀ (k : Fin 20) (h : Fin 4),
      (f.blk.st ≠ 2 → s.frState i ≠ 3 → (h = 1 ∨ h = 2) → s.frN i ≤ f.blk.n + 1 → inFrame (.syncHeader i k h)) ∧
      (f.blk.st ≠ 2 → s.frState i ≠ 3 → (h = 0 ∨ h = 3) → Does (.syncHeader i k h) s shown fun t => t.frState i = 0 ∧
        (t.framer i).blk = BlockLock.init) ∧
      (f.blk.st = 2 → s.frState i = 2 → (h = 0 ∨ h = 3) → s.frM i ≤ f.blk.bad + 1 → lost (.syncHeader i k h) 1)) ∧
    (s.fmt i = 0x20 →
      (f.cg = 5 → s.frState i ≤ 1 → inFrame (.codeGroup i 1)) ∧
      (f.cg = 9 → s.frState i = 2 → lost (.codeGroup i 0) 1) ∧
      (f.cg = 0 → s.frState i ≤ 1 → Does (.codeGroup i 2) s shown fun t => (t.framer i).cg = 1 ∧ t.frState i = 1)) ∧
    (s.working = true → s.groupLead? i = none → fmtBonded (s.fmt i) = false →
      let tlp := [GL_LINK_STAT_LINK.key 0 0, KP_DOM.key 0 0, KP_PWR_STAT_EDIE.key 0 0]
      (s.frState i = 3 → (Does (.reframe i) s tlp fun t => t.lines = s.lines) ∧ Does (.mfReframe i) s tlp fun t => t.lines = s.lines) ∧
      (s.frState i = 2 → lost (.reframe i) 3) ∧
      (s.frState i ≠ 3 → s.rd FR_STAT_MF_STATE i = 2 → DoesWide (.mfReframe i) s fun t => t.rd FR_STAT_MF_STATE i = 0 ∧
        t.rd FR_STAT_OOM i = 1 ∧ t.frState i = s.frState i))

/-- R347 to R353; CSF is Table OVD-4's. -/
def Obligations.LanesGroupsAndGfpDelineation : Prop :=
  ∀ (s : State), s.wf = true →
    (∀ (i : Fin 24), let f := s.framer i
      fmtBonded (s.fmt i) = true → s.frState i ≤ 2 →
      (∀ (k : Fin 20) (l : Fin 20) (arr : Nat), laneReady (s.fmt i) (f.lane k) = true →
        ((f.lane k).locked = false → (f.lane k).num = some l.val → 1 ≤ (f.lane k).good →
          DoesWide (.laneMarker i k (some l) arr) s fun t => ((t.framer i).lane k).locked = true ∧
            ((t.framer i).lane k).num = some l.val ∧ ((t.framer i).lane k).arrival = arr) ∧
        ((f.lane k).locked = false → DoesWide (.laneMarker i k none arr) s fun t => ((t.framer i).lane k).locked = false ∧
          ((t.framer i).lane k).num = none ∧ ∀ j : Fin 20, j ≠ k → (t.framer i).lane j = f.lane j) ∧
        ((f.lane k).locked = true → (f.lane k).num = some l.val → (f.lane k).errs + 1 < (if s.fmt i = 0x13 then 5 else 4) →
          DoesWide (.laneMarker i k none arr) s fun t => (t.framer i).lane k = { f.lane k with errs := (f.lane k).errs + 1 } ∧
            t.rd FR_LANE_MK_ERR i l = min 255 (s.rd FR_LANE_MK_ERR i l + 1)) ∧
        ((f.lane k).locked = true → (f.lane k).num = some l.val → (if s.fmt i = 0x13 then 5 else 4) ≤ (f.lane k).errs + 1 →
          DoesWide (.laneMarker i k none arr) s fun t => ((t.framer i).lane k).locked = false ∧
            t.rd FR_LANE_MK_ERR i l = min 255 (s.rd FR_LANE_MK_ERR i l + 1))) ∧
      (s.flag FR_BOND_ALIGNED i = false →
        (f.lockedAt.length = 20 → f.numbers.Nodup → f.numbers.length = 20 → f.skew ≤ 1800 →
          (s.fmt i = 0x13 → Does (.groupAlign i) s [FR_BOND_ALIGNED.key i 0] fun t => t.rd FR_BOND_ALIGNED i = 1) ∧
          (s.fmt i = 0x23 → DoesWide (.groupAlign i) s fun t => t.rd FR_BOND_ALIGNED i = 1 ∧ t.frState i = 2)) ∧
        (f.lockedAt.length ≠ 20 ∨ ¬ f.numbers.Nodup ∨ 1800 < f.skew → Idle (.groupAlign i) s)) ∧
      (s.flag FR_BOND_ALIGNED i = true → s.frState i = 2 →
        ((∀ j ∈ s.group i, s.flag LINE_STAT_SIG j = true) → f.lockedAt.length < 20 → DoesWide (.groupOof i) s fun t =>
          t.rd FR_BOND_ALIGNED i = 0 ∧ t.frState i = 0 ∧ t.rd FR_STAT_CAUSE i = 4 ∧ (t.framer i).lanes = f.lanes) ∧
        ((∃ j ∈ s.group i, s.flag LINE_STAT_SIG j = false) → DoesWide (.groupOof i) s fun t =>
          t.rd FR_BOND_ALIGNED i = 0 ∧ t.frState i = 0 ∧ t.rd FR_STAT_CAUSE i = 2) ∧
        ((∀ j ∈ s.group i, s.flag LINE_STAT_SIG j = true) → f.lockedAt.length = 20 → Idle (.groupOof i) s))) ∧
    (∀ (e : Fin 8192) (octets : BitVec 32), let x := s.ent e
      let v := (octets ^^^ 0xB6AB31E0#32).toNat
      let good := fun (v : Nat) => crcBytes 16 0x1021 0 [BitVec.ofNat 8 (v / 2 ^ 24), BitVec.ofNat 8 (v / 2 ^ 16)] = v % 2 ^ 16
      let delta := if bitsAt x.use0 112 3 = 0 then 1 else bitsAt x.use0 112 3
      let loss := if bitsAt x.use0 115 3 = 0 then 1 else bitsAt x.use0 115 3
      (tribOf (wordMap x.use0) ≠ .gfp → Idle (.gfpCoreHeader e octets) s) ∧
      (tribOf (wordMap x.use0) = .gfp →
        (s.rd CH_STAT_GFP e = 0 → good v → Does (.gfpCoreHeader e octets) s [CH_STAT_GFP.key e 0] fun t => t.rd CH_STAT_GFP e = 1) ∧
        (s.rd CH_STAT_GFP e = 0 → ¬ good v → Idle (.gfpCoreHeader e octets) s) ∧
        (s.rd CH_STAT_GFP e = 1 → ¬ good v → Does (.gfpCoreHeader e octets) s [CH_STAT_GFP.key e 0] fun t =>
          t.rd CH_STAT_GFP e = 0) ∧
        (s.rd CH_STAT_GFP e = 1 → good v → x.gfpN + 1 < delta → Does (.gfpCoreHeader e octets) s [] fun t =>
          t.ent e = { x with gfpN := x.gfpN + 1 }) ∧
        (s.rd CH_STAT_GFP e = 1 → good v → delta ≤ x.gfpN + 1 → DoesWide (.gfpCoreHeader e octets) s fun t =>
          t.rd CH_STAT_GFP e = 2 ∧ (t.ovh (entryCarrier e)).hw.testBit 0x70 = false) ∧
        (s.rd CH_STAT_GFP e = 2 → good v → Does (.gfpCoreHeader e octets) s [] fun t => t.ent e = { x with gfpBad := 0 }) ∧
        (s.rd CH_STAT_GFP e = 2 → ¬ good v → bitsAt x.use0 118 1 = 0 → loss ≤ x.gfpBad + 1 →
          DoesWide (.gfpCoreHeader e octets) s fun t => t.rd CH_STAT_GFP e = 0 ∧ (t.ent e).gfpN = 0) ∧
        (s.rd CH_STAT_GFP e = 2 → ¬ good v → bitsAt x.use0 118 1 = 0 → x.gfpBad + 1 < loss →
          Does (.gfpCoreHeader e octets) s [] fun t => t.ent e = { x with gfpBad := x.gfpBad + 1 })) ∧
      (let c := entryCarrier e
       ((s.ovh c).csfAt = none → Idle (.csfGfpTimeout e) s) ∧
       (∀ u, (s.ovh c).csfAt = some u → (s.clock < u + 300000000 → Idle (.csfGfpTimeout e) s) ∧
         (u + 300000000 ≤ s.clock → DoesWide (.csfGfpTimeout e) s fun t => (t.ovh c).csfAt = none ∧
           (t.ovh c).hw.testBit 0x71 = false))))

/-- R191, R358 to R360, R371, R372, R374 to R376 and R453. -/
def Obligations.OverheadIsReceivedAcceptedAndJudged : Prop :=
  ∀ (s : State), s.wf = true →
    (∀ (c : Fin 24) (f : RxFrame), let x := s.ovh c
      (s.rd LINE_STAT_LSTATE c = 0 ∨ s.flag LINE_STAT_SIG c = false → Idle (.frameBoundary c f) s) ∧
      (s.rd LINE_STAT_LSTATE c ≠ 0 → s.flag LINE_STAT_SIG c = true → s.frState c = 2 → s.family c = .sdh →
        ((s.framer c).fresh = true → Does (.frameBoundary c f) s [] fun t => t.framer c = { s.framer c with fresh := false } ∧
          t.ovhs = s.ovhs) ∧
        ((s.framer c).fresh = false →
          DoesWide (.frameBoundary c f) s (fun t => (t.framer c).frames = ((s.framer c).frames + 1) % 16 ∧
            ∀ l img, f.images = [(l, img)] → img ≠ [] → smGet [] (t.ovh c).rx l = img) ∧
          (∀ m, rxByte f 2 6 % 8 ≠ 7 → f.ptr = 0 → x.hw = 0 →
            smGet ([], 0) x.cand 16 = ([BitVec.ofNat 8 (rxByte f 3 2)], m) → 4 ≤ m →
            DoesWide (.frameBoundary c f) s fun t => smGet [] (t.ovh c).acc 16 = [BitVec.ofNat 8 (rxByte f 3 2)]) ∧
          (rxByte f 2 6 % 8 = 6 → f.ptr = 0 → x.hw = 0 → x.prog = 0 → x.dcl = 0 →
            4 ≤ smGet 0 x.runs (2 * 0x23) → DoesWide (.frameBoundary c f) s fun t => (t.ovh c).hw.testBit 0x23 = true)))) ∧
    (∀ (e : Fin 8192) f, wordMap (s.ent e).use0 = 0 → Idle (.frameBoundary (32 + e) f) s) ∧
    (∀ (i : Fin 24) (f : RxFrame), let fr := s.framer i
      (s.isDue fr.tickDue = false → Idle (.monitoringTick i f) s) ∧
      (∀ u img, familyOf (s.fmt i) = .pcs → s.frState i = 2 → fr.tickDue = some u → u ≤ s.clock → f.images = [(8, img)] → img ≠ [] →
        DoesWide (.monitoringTick i f) s fun t => (t.framer i).tickDue = some (u + 125000) ∧ smGet [] (t.ovh i).rx 8 = img)) ∧
    (∀ (i : Fin 24), let x := s.ovh i
      (∀ u, x.oofSince = some u → u + 1000000 * s.lofMs i ≤ s.clock → DoesWide (.lofTimer i) s fun t =>
        (t.ovh i).hw.testBit 3 = true) ∧
      (∀ u, x.oofSince = none → x.ifSince = some u → u + 1000000 * s.lofMs i ≤ s.clock → DoesWide (.lofTimer i) s fun t =>
        (t.ovh i).hw.testBit 3 = false) ∧
      (x.oofSince = none → x.ifSince = none → x.oomSince = none → x.mfSince = none → Idle (.lofTimer i) s)) ∧
    (let sec := s.tm.device / 1000000000
     (sec ≤ s.sec → ∀ deg, Idle (.secondBoundary deg) s) ∧
     (s.sec < sec →
       (DoesWide (.secondBoundary []) s fun t => t.sec = sec ∧
         (∀ c, (t.ovh c).lastDcl = (s.ovh c).secDcl ∧ (t.ovh c).secDcl = (s.ovh c).dcl) ∧
         ∀ h : Fin 32, (s.helm h).takesEvents = true → ((s.helm h).handlerFor 4 0).isSome = true → (s.helm h).queue.length < 32 →
           (t.helm h).queue = (s.helm h).queue ++ [(s.helm h).plainEvent 4]) ∧
       (∀ (c : Fin 24) (blocks bad : Nat), let x := s.ovh c
         let thr := clamp 1 100 (s.rd OV_CFG_DEGTHR c 2)
         s.flag OV_CFG_DEG_EN c 2 = true → x.dcl = 0 → x.secDcl = 0 →
         (blocks * thr ≤ 100 * bad → clamp 2 10 (s.rd OV_CFG_DEGM c 2) ≤ smGet 0 x.bad 2 + 1 →
           DoesWide (.secondBoundary [(c, 2, blocks, bad)]) s fun t => (t.ovh c).hw.testBit 0x21 = true) ∧
         (100 * bad < blocks * thr → clamp 2 10 (s.rd OV_CFG_DEGM c 2) ≤ smGet 0 x.good 2 + 1 →
           DoesWide (.secondBoundary [(c, 2, blocks, bad)]) s fun t => (t.ovh c).hw.testBit 0x21 = false)))) ∧
    (∀ (c : Fin 24) (v : Nat), let x := s.ovh c
      Idle (.excWindow c 4 v) s ∧
      (s.flag OV_CFG_EXC_EN c 2 = false → DoesWide (.excWindow c 2 v) s fun t => (t.ovh c).hw.testBit 0x22 = false) ∧
      (s.flag OV_CFG_EXC_EN c 2 = true → x.dcl = 0 →
        (10 ≤ v → 2 ≤ smGet 0 x.excBad 2 → DoesWide (.excWindow c 2 v) s fun t => (t.ovh c).hw.testBit 0x22 = true) ∧
        (v = 0 → 2 ≤ smGet 0 x.excGood 2 → DoesWide (.excWindow c 2 v) s fun t => (t.ovh c).hw.testBit 0x22 = false) ∧
        (1 ≤ v → v < 10 → Does (.excWindow c 2 v) s [] fun t => smGet 0 (t.ovh c).excBad 2 = 0 ∧ smGet 0 (t.ovh c).excGood 2 = 0 ∧
          (t.ovh c).hw = x.hw)))

/-- R188, R368, R386, R389 and R390. -/
def Obligations.TransmittedFramesAreBuiltInOrder : Prop :=
  ∀ (s : State), s.wf = true →
    (∀ c own, 8224 ≤ c ∨ (24 ≤ c ∧ c < 32) → Idle (.transmitFrame c own) s) ∧
    (∀ (c : Fin 24) own, s.flag LINE_STAT_TX_ON c = false → Does (.transmitFrame c own) s [] fun t => (t.ovh c).sent = []) ∧
    (∀ (e : Fin 8192) own, wordMap (s.ent e).use0 = 0 → Does (.transmitFrame (32 + e) own) s [] fun t =>
      (t.ovh (32 + e)).sent = []) ∧
    (∀ (c : Fin 24), s.flag LINE_STAT_TX_ON c = true → s.family c = .sdh → s.rd OV_FORCE_LAYER c ≠ 0 → let x := s.ovh c
      (∀ own, (s.line c).loop = 0 → s.rd OV_INS_MODE c = 1 → Does (.transmitFrame c own) s [OV_INS_MODE.key c 0] fun t =>
        t.rd OV_INS_MODE c = 0 ∧ (t.ovh c).txN = (x.txN + 1) % 65536) ∧
      (∀ own k, (s.line c).loop = 0 → s.rd OV_INS_MODE c = 3 → s.rd OV_INS_COUNT c = k → s.rd OV_INS_ITEM c ≠ 0 → 1 ≤ k →
        (x.insLeft + 1 < k → Does (.transmitFrame c own) s [] fun t => t.rd OV_INS_MODE c = 3 ∧ (t.ovh c).insLeft = x.insLeft + 1) ∧
        (k ≤ x.insLeft + 1 → Does (.transmitFrame c own) s [OV_INS_MODE.key c 0] fun t => t.rd OV_INS_MODE c = 0)) ∧
      (∀ own, (s.line c).loop ≠ 0 → Does (.transmitFrame c own) s [] fun t => (t.ovh c).txN = (x.txN + 1) % 65536) ∧
      (∀ own, s.rd OV_FORCE_LAYER c = 2 → s.flag OV_FORCE_AIS c = true → Does (.transmitFrame c own) s [OV_INS_MODE.key c 0] fun t =>
        ((smGet [] (t.ovh c).sent 2).getD 6 0).toNat % 8 = 7) ∧
      (∀ (u : Nat) (v : Byte), (s.line c).loop = 0 → s.rd OV_INS_MODE c = 0 → s.rd OV_FORCE_LAYER c ≠ 2 →
        s.flag OV_CONSEQ_BACK_EN c = false → x.txPend = [(u, 2 * 256 + 8, some v)] → u + 2000 ≤ s.clock →
        Does (.transmitFrame c []) s [] fun t => (smGet [] (t.ovh c).sent 2).getD 8 0 = v ∧ (t.ovh c).txPend = []))

/-- R307 to R310, R313 to R318, R320 and R325. -/
def Obligations.SoundingsReturnTheirResults : Prop :=
  ∀ (s : State), s.wf = true → ∀ (n : Fin 16) (tag : Nat) (o : Op), s.opRuns n tag 0x12 o → o.par 1 < 2 ^ 32 →
    let i := sndSlice o
    let res := fun (c : Instr) (keys : List Nat) (code st count aux time : Nat) (body : List Byte) =>
      (soundBytes code st count aux time body).length ≤ o.par 1 → Does c s keys fun t =>
        EndsWith s t n tag 0 (soundBytes code st count aux time body).length (soundBytes code st count aux time body)
    let clear := s.noHead i = false ∧ s.disturbed i o = false
    (∀ x ∈ [((.cableLoss n tag : Instr), 0x11), (.optics n tag none, 0x20), (.eye n tag, 0x21), (.traces n tag, 0x40), (.ssm n tag, 0x41),
        (.autoneg n tag, 0x43), (.tdr n tag [], 0x10), (.jitter n tag, 0x30), (.wander n tag, 0x31)],
      o.par 0 % 256 = x.2 → o.stage ≠ 1 → s.noHead i = true → res x.1 [] x.2 2 0 0 s.tm.device []) ∧
    (∀ x ∈ [((.eye n tag : Instr), 0x21), (.jitter n tag, 0x30), (.wander n tag, 0x31), (.traces n tag, 0x40), (.ssm n tag, 0x41),
        (.autoneg n tag, 0x43)],
      o.par 0 % 256 = x.2 → o.stage ≠ 1 → clear → s.sndLive i = false → res x.1 [] x.2 1 0 0 s.tm.device []) ∧
    (o.par 0 % 256 = 0x01 → res (.supply n tag) [] 0x01 0 16 0 s.feed.scanAt
      ((List.range 16).map fun c => leBytes 4 (s.rd KP_ADC_RAW 0 c + s.rd KP_ADC_VALID 0 c * 4096)).flatten) ∧
    (o.par 0 % 256 = 0x02 → let b := objIndex o.obj
      let body := leBytes 1 (s.bayState b) ++ leBytes 1 (s.rd BY_STAT_COUNT 0 b) ++ leBytes 2 (s.rd KP_ADC_RAW 0 (7 + b)) ++
        leBytes 2 (s.bay b).peak ++ leBytes 2 (s.rd KP_ADC_RAW 0 11)
      let d := soundBytes 0x02 (if s.bayState b = 1 then 2 else 0) 1 0 s.tm.device body
      d.length ≤ o.par 1 → Does (.soundBay n tag) s [] fun t => EndsWith s t n tag 0 d.length d ∧ (t.bay b).peak = 0) ∧
    (o.par 0 % 256 = 0x10 → s.noHead i = false → ∀ refl,
      (s.rd LINE_STAT_LSTATE i = 1 → OpDoes (.tdr n tag refl) s n tag 0x10 0 [] fun _ => True) ∧
      (s.rd LINE_STAT_LSTATE i = 0 → let vf := if bitsAt (o.par 2) 0 10 = 0 then 660 else bitsAt (o.par 2) 0 10
        res (.tdr n tag refl) [] 0x10 0 (tdrEntries vf refl).length vf s.tm.device (tdrEntries vf refl).flatten) ∧
      (s.rd LINE_STAT_LSTATE i = 2 → (s.line ((s.groupLead? i).getD i)).acq = none → (s.line i).probe = none →
        DoesWide (.tdr n tag refl) s fun t => t.rd LINE_STAT_SIG i = 0 ∧ ∃ st, EndsAs t n tag st ∧ (st = 0 ∨ st = 2))) ∧
    (o.par 0 % 256 = 0x11 → clear →
      ((s.line i).adaptAt = 0 → res (.cableLoss n tag) [] 0x11 7 0 0 s.tm.device []) ∧
      ((s.line i).adaptAt ≠ 0 → res (.cableLoss n tag) [] 0x11 0 1 0 (s.line i).adaptAt (leBytes 4 (s.rd LP_RPT_LOSS_EST i)))) ∧
    (o.par 0 % 256 = 0x20 →
      (s.bayOf? i = none → ∀ d, res (.optics n tag d) [] 0x20 2 0 0 s.tm.device []) ∧
      ((s.bayOf? i).isSome = true → clear → res (.optics n tag none) [] 0x20 3 0 0 s.tm.device [] ∧
        ∀ (d : OpticsDiag) tx b, d.lanes.getD 0 (0, 0, 0) = (10000, tx, b) → fmtBonded (s.fmt i) = false → 24 ≤ o.par 1 →
          Does (.optics n tag (some d)) s [] fun t => ∃ body, body.length = 8 ∧ body.take 2 = [0, 0] ∧
            EndsWith s t n tag 0 24 (soundBytes 0x20 0 1 (d.temp.toNat + d.supply.toNat * 65536) s.tm.device body))) ∧
    (o.par 0 % 256 = 0x21 → clear → s.sndLive i = true → 24 ≤ o.par 1 → DoesWide (.eye n tag) s fun t =>
      EndsWith s t n tag 0 24 (soundBytes 0x21 0 1 0 s.tm.device (leBytes 4 (t.word .slice i 0x10) ++ leBytes 4 (t.word .slice i 0x14))) ∧
      (i < 8 → t.rd HS_RPT0_CTLE i = (s.line i).live.getD 0 0 % 16)) ∧
    (o.par 0 % 256 = 0x43 → clear → s.sndLive i = true →
      ((s.line (s.sndLead i)).autoneg = none → res (.autoneg n tag) [] 0x43 5 0 0 s.tm.device []) ∧
      (∀ page u, (s.line (s.sndLead i)).autoneg = some (page, u) →
        res (.autoneg n tag) [] 0x43 0 1 0 u (leBytes 2 page ++ leBytes 2 0)))

/-- R309, R311, R321 to R324 and R326. -/
def Obligations.TimedSoundingsTracesAndProbes : Prop :=
  ∀ (s : State), s.wf = true → ∀ (n : Fin 16) (tag : Nat) (o : Op), s.opRuns n tag 0x12 o → o.par 1 < 2 ^ 32 →
    let i := sndSlice o
    let res := fun (c : Instr) (code st count aux time : Nat) (body : List Byte) =>
      (soundBytes code st count aux time body).length ≤ o.par 1 → Does c s [] fun t =>
        EndsWith s t n tag 0 (soundBytes code st count aux time body).length (soundBytes code st count aux time body)
    let live := s.noHead i = false ∧ s.disturbed i o = false ∧ s.sndLive i = true
    (o.par 0 % 256 = 0x30 →
      (o.stage ≠ 1 → live → jitterFilter (bitsAt (o.par 0) 8 2) (s.fmt (s.sndLead i)) = true → Does (.jitter n tag) s [] fun t =>
        t.op? n tag = some { o with stage := 1, due := some (s.clock + 1000000 * o.par 2) }) ∧
      (o.stage ≠ 1 → live → bitsAt (o.par 0) 8 2 = 1 → familyOf (s.fmt (s.sndLead i)) = .pcs →
        OpDoes (.jitter n tag) s n tag 0x1D 3 [] fun _ => True) ∧
      (∀ pp rms, o.stage = 1 → (s.isDue o.due = true → res (.jitterWindowEnd n tag pp rms) 0x30 0 1 0 s.tm.device (leBytes 4 pp ++ leBytes 4 rms)) ∧
        (s.isDue o.due = false → Idle (.jitterWindowEnd n tag pp rms) s))) ∧
    (o.par 0 % 256 = 0x31 →
      (o.stage ≠ 1 → live → s.flag GL_REFIN_VALID = false → res (.wander n tag) 0x31 4 0 0 s.tm.device []) ∧
      (o.stage ≠ 1 → live → s.flag GL_REFIN_VALID = true → Does (.wander n tag) s [] fun t =>
        t.op? n tag = some { o with stage := 1, due := some (s.clock + 1000000 * o.par 2), data := leBytes 4 0,
                                    outp := leBytes 8 s.tm.device }) ∧
      (∀ (tie : Word) u, o.stage = 1 → o.due = some u →
        let d := o.data ++ leBytes 4 (BitVec.ofInt 32 (tie.toInt * 125)).toNat
        (s.clock < u → Idle (.wanderSample n tag tie) s) ∧
        (u ≤ s.clock → d.length / 4 < 1000 * o.par 3 / o.par 2 + 1 → Does (.wanderSample n tag tie) s [] fun t =>
          t.op? n tag = some { o with data := d, due := some (u + 1000000 * o.par 2) }) ∧
        (u ≤ s.clock → 1000 * o.par 3 / o.par 2 + 1 ≤ d.length / 4 →
          res (.wanderSample n tag tie) 0x31 0 (d.length / 4) 0 (leNat o.outp) d))) ∧
    (o.par 0 % 256 = 0x40 → live → let x := s.ovh i
      ((o.par 2).testBit 31 = true → s.entryOwner (bitsAt (o.par 2) 0 13) ≠ n.val → OpDoes (.traces n tag) s n tag 0x11 0 [] fun _ => True) ∧
      ((o.par 2).testBit 31 = false → familyOf (s.fmt i) = .sdh →
        (smGet [] x.latest 1 = [] → smGet [] x.latest 2 = [] → res (.traces n tag) 0x40 5 0 0 s.tm.device []) ∧
        (smGet [] x.latest 1 ≠ [] → res (.traces n tag) 0x40 0 2
          ((if smGet [] x.acc 1 ≠ smGet [] x.latest 1 then 1 else 0) + (if smGet [] x.acc 2 ≠ smGet [] x.latest 2 then 2 else 0)) x.trcAt
          (traceEntry 1 (smGet [] x.acc 1) (smGet [] x.latest 1) ++ traceEntry 2 (smGet [] x.acc 2) (smGet [] x.latest 2))))) ∧
    (o.par 0 % 256 = 0x41 → live → let x := s.ovh i
      (familyOf (s.fmt i) = .sdh → o.par 2 = 0 →
        (smGet [] x.latest 18 = [] → res (.ssm n tag) 0x41 5 0 0 s.tm.device []) ∧
        (∀ l r, smGet [] x.latest 18 = l :: r → res (.ssm n tag) 0x41 0 1 0 s.tm.device [1, (smGet [] x.acc 18).headD 0, l, 0])) ∧
      (s.fmt i = 0x42 → OpDoes (.ssm n tag) s n tag 0x1D 3 [] fun _ => True)) ∧
    (o.par 0 % 256 = 0x42 → o.stage ≠ 1 →
      (s.rd LINE_STAT_LSTATE i ≠ 2 → res (.loopProbe n tag) 0x42 1 0 0 s.tm.device []) ∧
      (s.rd LINE_STAT_LSTATE i = 2 → s.noHead i = false → s.flag LINE_STAT_SIG i = true →
        (loopFits (o.par 2 % 16) (s.fmt i) = false → OpDoes (.loopProbe n tag) s n tag 0x1D 3 [] fun _ => True) ∧
        (loopFits (o.par 2 % 16) (s.fmt i) = true →
          (s.loopPending i = false → DoesWide (.loopProbe n tag) s fun t => (t.line i).probe = some (n.val, tag) ∧
            (t.line i).loop = 2 ∧ t.rd LP_LOOP_PENDING i = 1 ∧ t.out = s.out ++ [.line i (32 + o.par 2 % 16)]) ∧
          (s.loopPending i = true → loopFits (s.rd LP_LOOP_KIND i) (s.fmt i) = true → DoesWide (.loopProbe n tag) s fun t =>
            (t.line i).probe = some (n.val, tag) ∧ (t.line i).loop = 1 ∧ t.out = s.out ++ [.line i (16 + s.rd LP_LOOP_KIND i)]))))

/-- R83, R192, R202 to R204, R243, R246, R247 and R249 to R252. -/
def Obligations.ProgramsAreLoadedBoundAndMessaged : Prop :=
  ∀ (s : State), s.wf = true → ∀ (n : Fin 16) (tag : Nat) (o : Op), let h := objIndex o.obj
    let m := s.helm h
    (s.opRuns n tag 0x08 o → let c := (.load n tag : Instr)
      (m.ps.bound = true → OpDoes c s n tag 0x10 0 [] fun t => t.helms = s.helms) ∧
      (m.ps.bound = false → s.maskBit HL_FAIL_HELM h = true → OpDoes c s n tag 0x1E 0 [] fun t => t.helms = s.helms) ∧
      (m.ps.bound = false → s.maskBit HL_FAIL_HELM h = false → imageOk o.data (o.par 0) = false →
        OpDoes c s n tag 0x14 5 [] fun t => t.helms = s.helms) ∧
      (m.ps.bound = false → s.maskBit HL_FAIL_HELM h = false → imageOk o.data (o.par 0) = true →
        OpDoes c s n tag 0 (leAt o.data (o.par 0 - 4) 4) [HM_BUDGET_FLOOR.key h 0] fun t => (t.helm h).ps = .loaded ∧
          (t.helm h).image = some (parseImage o.data) ∧
          ∀ a, a < leAt o.data 10 2 → smGet 0 (t.helm h).imem a = BitVec.ofNat 32 (leAt o.data (224 + 4 * a) 4))) ∧
    (s.opRuns n tag 0x09 o → let c := (.bind n tag : Instr)
      let words := (List.range 8).map fun k => o.par (k + 1)
      (m.ps.bound = true → m.bindTag ≠ some tag → OpDoes c s n tag 0x10 0 [] fun t => t.helms = s.helms) ∧
      (m.ps.bound = false → s.maskBit HL_FAIL_HELM h = false → stockListed (o.par 0) = false →
        (o.par 0 ≠ 0xFFFFFFFF ∨ m.ps ≠ .loaded) → OpDoes c s n tag 0x14 4 [] fun t => t.helms = s.helms) ∧
      (∀ im, m.ps = .loaded → s.maskBit HL_FAIL_HELM h = false → o.par 0 = 0xFFFFFFFF → m.image = some im →
        let l := loadOf im (s.mkPorts words)
        ((s.bindPorts n im words).1 ≠ 0 → OpDoes c s n tag (s.bindPorts n im words).1 ((s.bindPorts n im words).2 % 2 ^ 32) [] fun t =>
          t.helms = s.helms) ∧
        ((s.bindPorts n im words).1 = 0 →
          (s.rd SES_CTL_MAPC_SHARE n < (s.pinsFor n im).length + 1 → OpDoes c s n tag 0x12 0 [] fun t => t.helms = s.helms) ∧
          ((s.pinsFor n im).length + 1 ≤ s.rd SES_CTL_MAPC_SHARE n →
            (9 * im.floor * 1000000 < 10 * l → OpDoes c s n tag 0x16 (loadUnits l im.floor % 2 ^ 32) [] fun t => t.helms = s.helms) ∧
            (10 * l ≤ 9 * im.floor * 1000000 → s.flag GL_FLOOR_THROTTLE = false → DoesWide c s fun t =>
              (t.helm h).ps = .starting ∧ (t.helm h).bindTag = some tag ∧ t.op? n tag = some o ∧ (∀ r, (t.helm h).reg r = 0) ∧
              ∃ q, (t.helm h).queue = { kind := 0, port := 0, cause := 0, set := false, ovf := false, stamp := 0, payload := [] } :: q))))) ∧
    (s.opRuns n tag 0x0A o → let c := (.unbind n tag : Instr)
      m.unbindTags.contains tag = false →
        (m.ps.bound = false → OpDoes c s n tag 0 0 [] fun t => t.helms = s.helms) ∧
        (m.ps = .running → Does c s [] fun t => (t.helm h).ps = .stopping ∧ (t.helm h).queue = [m.plainEvent 1] ∧
          (t.helm h).stopReq = true ∧ tag ∈ (t.helm h).unbindTags ∧ t.op? n tag = some o) ∧
        (m.ps = .starting → Does c s [] fun t => (t.helm h).ps = .starting ∧ (t.helm h).stopWait = true ∧ t.op? n tag = some o)) ∧
    (s.opRuns n tag 0x0B o → let c := (.send n tag : Instr)
      (m.ps ≠ .running ∨ 32 ≤ m.queue.length → OpDoes c s n tag 0x10 0 [] fun t => t.helms = s.helms) ∧
      (m.ps = .running → m.queue.length < 32 → m.stopReq = false → (m.handlerFor 7 0).isSome = true →
        OpDoes c s n tag 0 0 [] fun t => (t.helm h).queue =
          m.queue ++ [{ m.plainEvent 7 with payload := ((List.range 8).map fun k => leBytes 4 (o.par k)).flatten }]) ∧
      (m.ps = .running → m.queue.length < 32 → (m.handlerFor 7 0) = none → OpDoes c s n tag 0 0 [] fun t => (t.helm h).queue = m.queue))

/-- R401, R404, R405, R407, R409, R410, R412, R413, R419 and R420. -/
def Obligations.TheChartIsWrittenSwappedAndApplied : Prop :=
  ∀ (s : State), s.wf = true →
    (∀ (n : Fin 16) (tag : Nat) (o : Op) (r : ChartRange), s.opRuns n tag 0x18 o → s.rangeOf? o.obj = some r → o.par 0 < 8192 →
      let e := r.first + o.par 0
      let letter := o.par 2
      let w := leAt o.data 0 16
      (letter < 2 → ∀ fail,
        (r.count < o.par 0 + 1 → o.par 1 = 1 → OpDoes (.chartWrite n tag fail) s n tag 0x14 (4 + o.par 0 * 65536) [] fun t =>
          t.chart = s.chart) ∧
        (o.par 0 + 1 ≤ r.count → o.par 1 = 1 →
          (wordOk w = false → OpDoes (.chartWrite n tag fail) s n tag 0x14 (4 + o.par 0 * 65536) [] fun t => t.chart = s.chart) ∧
          (wordOk w = true → wordMap w ≠ 0 → wordSrc w ≠ 0xFFFF → s.objOwner (wordSrc w) ≠ n.val →
            OpDoes (.chartWrite n tag fail) s n tag 0x11 (o.par 0 * 65536) [] fun t => t.chart = s.chart) ∧
          (s.chartCheck n letter r (o.par 0) [w] = none →
            (OpDoes (.chartWrite n tag []) s n tag 0 1 [CH_STAT_PERR.key e 0, CH_STAT_PERR_INACT.key e 0] fun t =>
              (t.ent e).word letter = w ∧ (t.ent e).word (1 - letter) = (s.ent e).word (1 - letter) ∧
              ∀ k, k ≠ e → t.ent k = s.ent k) ∧
            (s.rd CH_ERR_SPARES_USED < 64 → DoesWide (.chartWrite n tag [o.par 0]) s fun t => Ends s t n tag 0 1 ∧
              (t.ent e).word letter = w ∧ t.rd CH_STAT_SPARED e = 1 ∧
              t.rd CH_ERR_SPARES_USED = s.rd CH_ERR_SPARES_USED + 1) ∧
            (64 ≤ s.rd CH_ERR_SPARES_USED → DoesWide (.chartWrite n tag [o.par 0]) s fun t => Ends s t n tag 0x1E (o.par 0 * 65536) ∧
              (t.ent e).word letter = 0 ∧ t.rd CH_STAT_PERR e = 1)))) ∧
      (letter = 3 → OpDoes (.chartWriteCfg n tag) s n tag 0x14 (4 + o.par 0 * 65536) [] fun t => t.chart = s.chart) ∧
      (letter = 2 → o.par 1 = 1 → o.par 0 + 1 ≤ r.count → let v := leAt o.data 0 4
        OpDoes (.chartWriteCfg n tag) s n tag 0 1 ([CH_CFG_TIM_EN.key e 0, CH_CFG_PLM_EN.key e 0, CH_CFG_DEG_EN.key e 0, CH_CFG_EXC_EN.key e 0,
            CH_CFG_DEGM.key e 0, CH_CFG_DEGTHR.key e 0, CH_CFG_EXC_X.key e 0] ++ (List.range 4).map fun k => CH_EXP_J2.key e k) fun t =>
          t.rd CH_CFG_TIM_EN e = bitsAt v 0 1 ∧ t.rd CH_CFG_PLM_EN e = bitsAt v 1 1 ∧ t.rd CH_CFG_DEG_EN e = bitsAt v 2 1 ∧
          t.rd CH_CFG_EXC_EN e = bitsAt v 3 1 ∧ t.rd CH_CFG_DEGM e = bitsAt v 4 4 ∧ t.rd CH_CFG_DEGTHR e = bitsAt v 8 7 ∧
          t.rd CH_CFG_EXC_X e = bitsAt v 15 3 ∧ ∀ k : Fin 4, t.rd CH_EXP_J2 e k = leAt o.data (16 + 4 * k) 4)) ∧
    (∀ (n : Fin 16) (tag : Nat) (o : Op), s.opRuns n tag 0x19 o → o.stage = 0 →
      (1 < o.par 0 → OpDoes (.chartSwap n tag) s n tag 0x14 4 [] fun _ => True) ∧
      (o.par 0 ≤ 1 → Does (.chartSwap n tag) s [CH_SEL_PENDING.key 0 n, CH_SEL_KIND.key 0 n] fun t =>
        t.rd CH_SEL_PENDING 0 n = 1 ∧ t.rd CH_SEL_KIND 0 n = o.par 0 ∧ t.op? n tag = some o)) ∧
    (∀ upset, (s.tm.stopped = true ∨ s.tm.device % 125000 ≠ 0 → Idle (.chartFrameBoundary upset) s)) ∧
    (∀ (n : Fin 16), s.tm.stopped = false → s.tm.device % 125000 = 0 → s.swapsDue = [n.val] → DoesWide (.chartFrameBoundary []) s fun t =>
      t.rd CH_SEL_ACTIVE 0 n = (1 - s.rd CH_SEL_ACTIVE 0 n) % 2 ∧ t.rd CH_SEL_PENDING 0 n = 0) ∧
    (∀ (e : Fin 8192) (mf : Bool), let x := s.ent e
      (x.pend0 = false → Idle (.tributaryFrameStart e 0 mf) s) ∧ (x.pend1 = false → Idle (.tributaryFrameStart e 1 mf) s) ∧
      (x.mf = true → mf = false → s.entryHasMf e = true → Idle (.tributaryFrameStart e 0 mf) s ∧ Idle (.tributaryFrameStart e 1 mf) s) ∧
      (x.mf = false ∨ mf = true →
        (x.pend0 = true → DoesWide (.tributaryFrameStart e 0 mf) s fun t => (t.ent e).use0 = x.tgt ∧ (t.ent e).pend0 = false ∧
          (t.ent e).use1 = x.use1) ∧
        (x.pend1 = true → DoesWide (.tributaryFrameStart e 1 mf) s fun t => (t.ent e).use1 = x.tgt ∧ (t.ent e).pend1 = false ∧
          (t.ent e).use0 = x.use0)) ∧
      (s.isDue x.due = false → Idle (.swapPeriodEnd e) s) ∧
      (s.isDue x.due = true → DoesWide (.swapPeriodEnd e) s fun t => (t.ent e).pend0 = false ∧ (t.ent e).pend1 = false ∧
        (t.ent e).use0 = (if x.pend0 then x.tgt else x.use0) ∧ (t.ent e).use1 = (if x.pend1 then x.tgt else x.use1)))

/-- R423 to R426, R428 to R430, R436 and R445. -/
def Obligations.GroupsAreConfiguredCommandedAndDeleted : Prop :=
  ∀ (s : State), s.wf = true →
    (∀ (n : Fin 16) (tag : Nat) (o : Op), s.opRuns n tag 0x1C o → let g := objIndex o.obj
      let x : Group := { Group.init with cfg := o.data.take 32, old := (s.grp g).old, tick := s.tm.device / 1000 }
      (o.par 0 ≠ 0 → o.par 0 ≠ 32 → OpDoes (.protectCfg n tag) s n tag 0x14 4 [] fun t => t.groups = s.groups) ∧
      (o.par 0 = 32 →
        ((s.grp g).cfg ≠ [] → OpDoes (.protectCfg n tag) s n tag 0x10 0 [] fun t => t.groups = s.groups) ∧
        ((s.grp g).cfg = [] → s.psBlockOk x = false → OpDoes (.protectCfg n tag) s n tag 0x14 4 [] fun t => t.groups = s.groups) ∧
        ((s.grp g).cfg = [] → s.psBlockOk x = true → (∀ m ∈ x.members, s.objOwner m.1 = n.val) → x.pu = 0xFFFF → s.psTaken g x = false →
          s.psFits x = true → OpDoes (.protectCfg n tag) s n tag 0 0 [PS_STAT_CONFIGURED.key g 0, PS_STAT_ARMED.key g 0] fun t =>
            (t.grp g).cfg = o.data.take 32 ∧ (t.grp g).cmd = 0 ∧ t.rd PS_STAT_CONFIGURED g = 1 ∧ t.ownerOf (groupObj g) = n.val)) ∧
      (o.par 0 = 0 →
        ((s.grp g).cfg = [] → OpDoes (.protectCfgDelete n tag) s n tag 0 0 [] fun t => t.groups = s.groups) ∧
        ((s.grp g).cfg ≠ [] → DoesWide (.protectCfgDelete n tag) s fun t => Ends s t n tag 0 0 ∧ (t.grp g).cfg = [] ∧
          t.rd PS_STAT_CONFIGURED g = 0 ∧ t.rd PS_K_K1_TX g = 0 ∧ t.ownerOf (groupObj g) = 0 ∧
          (t.grp g).old = (if s.flag PS_STAT_SEL g then (s.grp g).cfg else [])))) ∧
    (∀ (n : Fin 16) (tag : Nat) (o : Op), s.opRuns n tag 0x1D o → o.stage = 0 →
      ∀ c ∈ [((.protectClear n tag : Instr), 0), (.lockout n tag, 1), (.force n tag, 2), (.manualP n tag, 3), (.manualW n tag, 4),
        (.exercise n tag, 5), (.meterArm n tag, 6), (.meterDisarm n tag, 7)],
      (o.par 0 = c.2 → Does c.1 s [] fun t => t.op? n tag = some { o with stage := 1 } ∧ t.groups = s.groups) ∧
      (8 ≤ o.par 0 → OpDoes c.1 s n tag 0x14 4 [] fun t => t.groups = s.groups) ∧
      (o.par 0 < 8 → o.par 0 ≠ c.2 → Idle c.1 s)) ∧
    (∀ (o : Op), let g := objIndex o.obj
      s.tm.stopped = false → s.tm.device % 125000 = 0 → s.chart = [] → s.own.ranges = [] → s.swapsDue = [] → s.psDue = [o] →
      s.op? o.sess o.tag = some o → o.st = .running → o.par 0 = 1 → (s.grp g).cfg ≠ [] → (s.grp g).mode = 0 → (s.grp g).type ≠ 7 →
      DoesWide (.chartFrameBoundary []) s fun t => Ends s t o.sess o.tag 0 0 ∧ (t.grp g).cmd = 1 ∧ t.rd PS_STAT_SEL g = 0 ∧
        t.rd PS_STAT_REQ g = 11) ∧
    (∀ (g : Fin 64), let x := s.grp g
      (∀ (k : Fin 4), let f := [PS_STAT_SF_W, PS_STAT_SD_W, PS_STAT_SF_P, PS_STAT_SD_P].getD k PS_STAT_SF_W
        (x.since.getD k none = none → Idle (.holdoffExpiry g k) s) ∧
        (∀ u, x.since.getD k none = some u → (s.clock < u + x.holdoff → Idle (.holdoffExpiry g k) s) ∧
          (u + x.holdoff ≤ s.clock → x.evaluates = true → (s.psCrit g).testBit k = false →
            DoesWide (.holdoffExpiry g k) s fun t => t.rd f g = 1 ∧
              (k.val < 2 → (t.grp g).wtr = none ∧ (t.grp g).dnr = false ∧ t.rd PS_STAT_WTR_RUN g = 0) ∧
              ∃ e r, (t.grp g).log = e :: r ∧ e.2.1 = 2))) ∧
      (s.isDue x.wtr = false → Idle (.wtrExpiry g) s) ∧
      (s.isDue x.wtr = true → Does (.wtrExpiry g) s [PS_STAT_WTR_RUN.key g 0] fun t => t.grp g = { x with wtr := none } ∧
        t.rd PS_STAT_WTR_RUN g = 0) ∧
      (s.isDue x.exUntil = false → Idle (.exerciseEnd g) s) ∧
      (s.isDue x.exUntil = true → Does (.exerciseEnd g) s [] fun t => (t.grp g).exUntil = none ∧
        (t.grp g).cmd = (if x.cmd = 5 then 0 else x.cmd)) ∧
      (∀ (w : Fin 4) (u : Nat), let f := [PS_STAT_PSB_FAIL, PS_STAT_CH_MM, PS_STAT_ARCH_MM, PS_STAT_MODE_MM].getD w PS_STAT_PSB_FAIL
        (((s.noteFails g).grp g).fails.getD w (false, 0) = (true, u) → (s.psFails g).testBit w = false →
          (w = 0 ∨ u + 50000000 ≤ s.clock → DoesWide (.protocolFailureChange g w) s fun t => t.rd f g = 1) ∧
          (w ≠ 0 → s.clock < u + 50000000 → Does (.protocolFailureChange g w) s [] fun t => t.rd f g = s.rd f g)) ∧
        (((s.noteFails g).grp g).fails.getD w (false, 0) = (false, u) → (s.psFails g).testBit w = true → u + 50000000 ≤ s.clock →
          DoesWide (.protocolFailureChange g w) s fun t => t.rd f g = 0)))

/-- R441 to R444. -/
def Obligations.TheDisruptionMeterMeasuresGaps : Prop :=
  ∀ (s : State), s.wf = true → ∀ (g : Fin 64), let x := s.grp g
    (∀ past, (s.tm.stopped = true ∨ s.flag PS_STAT_ARMED g = false ∨ s.tm.device % 1000 ≠ 0 ∨ s.tm.device / 1000 ≤ x.tick →
        Idle (.meterTick g past) s) ∧
      (s.tm.stopped = false → s.flag PS_STAT_ARMED g = true → s.tm.device % 1000 = 0 → x.tick < s.tm.device / 1000 →
        let d := Nat.land (Nat.lor (s.meterNow g) past) x.meterSrc
        (d = 0 → Does (.meterTick g past) s [] fun t => t.grp g = { x with tick := s.tm.device / 1000 }) ∧
        (d ≠ 0 → x.ev = none → Does (.meterTick g past) s [PS_STAT_OPEN.key g 0] fun t => t.rd PS_STAT_OPEN g = 1 ∧
          (t.grp g).ev = some (s.tm.device / 1000 - 1, s.tm.device / 1000 - 1, 1)) ∧
        (∀ a z k, d ≠ 0 → x.ev = some (a, z, k) → Does (.meterTick g past) s [] fun t =>
          (t.grp g).ev = some (a, s.tm.device / 1000 - 1, min 0xFFFFFFFF (k + 1))))) ∧
    (x.ev = none → Idle (.meterGuardExpiry g) s) ∧
    (∀ a z k, x.ev = some (a, z, k) → (s.tm.device / 1000 < z + 1 + 1000 * x.guard → Idle (.meterGuardExpiry g) s) ∧
      (z + 1 + 1000 * x.guard ≤ s.tm.device / 1000 → Does (.meterGuardExpiry g) s
          [PS_STAT_OPEN.key g 0, PS_MTR_LAST.key g 0, PS_MTR_MAX.key g 0, PS_MTR_EVENTS.key g 0, PS_LOG_OVW.key g 0] fun t =>
        (t.grp g).ev = none ∧ t.rd PS_STAT_OPEN g = 0 ∧ t.rd PS_MTR_LAST g = min 0xFFFFFFFF (z - a + 1) ∧
        t.rd PS_MTR_EVENTS g = min 65535 (s.rd PS_MTR_EVENTS g + 1) ∧
        ∃ r, (t.grp g).log = (1000 * a % 2 ^ 48, 5, min 0xFFFFFFFF (z - a + 1), min 0xFFFFFFFF k) :: r))

/-- R449, R450, R463, R467 to R469 and R471 to R473. -/
def Obligations.PointsAreAttachedReadAndReset : Prop :=
  ∀ (s : State), s.wf = true → ∀ (n : Fin 16) (tag : Nat) (o : Op),
    (s.opRuns n tag 0x29 o → let p := objIndex o.obj
      let cfg := [PM_CFG_SRC.key p 0, PM_CFG_SEL.key p 0, PM_CFG_ITEM.key p 0, PM_CFG_PROFILE.key p 0, PM_CFG_FREE.key p 0,
        PM_CFG_ATTACHED.key p 0, PM_CFG_ORPHANED.key p 0, PM_THR_SES_THR.key p 0]
      (o.par 0 = 0x80 → let src := o.par 1 % 65536
        let sel := bitsAt (o.par 1) 16 8
        (2 ^ 24 ≤ o.par 1 → OpDoes (.attach n tag) s n tag 0x14 4 [] fun t => t.pm = s.pm) ∧
        (o.par 1 < 2 ^ 24 → o.par 2 < 64 → o.par 3 < 2 ^ 20 →
          (s.pmAttachCheck n p src sel = 0x11 → OpDoes (.attach n tag) s n tag 0x11 0 [] fun t => t.pm = s.pm) ∧
          (s.pmAttachCheck n p src sel = 0 → OpDoes (.attach n tag) s n tag 0 0 cfg fun t =>
            t.rd PM_CFG_ATTACHED p = 1 ∧ t.rd PM_CFG_ORPHANED p = 0 ∧ t.rd PM_CFG_SRC p = src ∧ t.rd PM_CFG_SEL p = sel ∧
            t.rd PM_THR_SES_THR p = o.par 3 ∧ t.rd PM_CFG_ITEM p = o.par 2 % 16 ∧ (t.pt p).recent = [] ∧ (t.pt p).ne.unav = false ∧
            ∃ b, (t.pt p).cur15 = some b ∧ b.start = s.tm.device ∧ b.flags = flagReset ∧ b.near = .zero ∧ b.far = .zero))) ∧
      (o.par 0 = 0x81 → OpDoes (.detach n tag) s n tag 0 0 cfg fun t => t.rd PM_CFG_ATTACHED p = 0 ∧ t.rd PM_CFG_SRC p = 0 ∧
        t.rd PM_CFG_FREE p = 0 ∧ (t.pt p).cur15 = none ∧ (t.pt p).cur24 = none ∧ (t.pt p).recent = []) ∧
      (o.par 0 = 0 → OpDoes (.pmReset n tag) s n tag 0 0 [] fun t => (t.pt p).cur15 = (s.pt p).cur15.map Bin.clear ∧
        (t.pt p).recent = (s.pt p).recent ∧ (t.pt p).cur24 = (s.pt p).cur24) ∧
      (o.par 0 = 0xFF → OpDoes (.pmReset n tag) s n tag 0 0 [] fun t => (t.pt p).cur15 = (s.pt p).cur15.map Bin.clear ∧
        (t.pt p).cur24 = (s.pt p).cur24.map Bin.clear ∧ (t.pt p).recent = [] ∧ (t.pt p).prev24 = none) ∧
      (o.par 0 = 65 → OpDoes (.pmReset n tag) s n tag 0x14 4 [] fun t => t.pm = s.pm)) ∧
    (s.opRuns n tag 0x28 o → let p := objIndex o.obj
      (33 ≤ o.par 0 → o.par 0 < 64 → OpDoes (.pmRead n tag) s n tag 0x14 4 [] fun t => t.pm = s.pm) ∧
      (o.par 0 = 0 → 80 ≤ o.par 1 → Does (.pmRead n tag) s [] fun t => t.pm = s.pm ∧
        EndsWith s t n tag 0 80 (s.pmHeader p ++ binRecord (s.pt p) false (s.pt p).cur15)) ∧
      (o.par 0 = 1 → 80 ≤ o.par 1 → Does (.pmRead n tag) s [] fun t =>
        EndsWith s t n tag 0 80 (s.pmHeader p ++ binRecord (s.pt p) true (s.pt p).recent[0]?))) ∧
    (s.opRuns n tag 0x20 o → o.stage = 0 → ∀ p, soakPoints o = [p] →
      let sel := (match objSlice? o.obj with | some i => soakLayer (s.rd LINE_STAT_FORMAT i) | none => 0)
      (s.flag PM_CFG_ATTACHED p = false → s.pmAttachCheck n p o.obj sel = 0x11 → OpDoes (.soak n tag) s n tag 0x11 0 [] fun t =>
        t.pm = s.pm) ∧
      (s.flag PM_CFG_ATTACHED p = true → o.par 2 ≠ 0 → (s.chute (objIndex (o.par 2))).consumer ≠ 0 →
        OpDoes (.soak n tag) s n tag 0x10 0 [] fun t => t.pm = s.pm) ∧
      (s.flag PM_CFG_ATTACHED p = true → o.par 2 = 0 → Does (.soak n tag) s [] fun t => (t.pt p).soak = some (n.val, tag) ∧
        t.op? n tag = some { o with stage := 1, aux := [0, s.clock],
                                    due := if o.par 0 = 0 then none else some (s.clock + o.par 0 * 1000000000) })) ∧
    (s.opRuns n tag 0x20 o → s.cap? n tag = none → ∀ b e,
      (s.isDue o.due = false → Idle (.durationExpiry n tag b e) s) ∧
      (s.isDue o.due = true → DoesWide (.durationExpiry n tag b e) s fun t => Ends s t n tag 0 (s.soakSecs o % 2 ^ 32) ∧
        ∀ p ∈ soakPoints o, (t.pt p).soak ≠ some (n.val, tag))) ∧
    (s.opRuns n tag 0x22 o → o.par 2 = 0 → s.isDue o.due = true → let u := objIndex o.obj
      DoesWide (.durationExpiry n tag 0 0) s fun t => Ends s t n tag 0 0 ∧ t.maskBit PU_CTL_RUN 0 u = false ∧ (t.pat u).opTag = none)

/-- R453 to R455, R457 and R459 to R464. -/
def Obligations.SecondsAreJudgedAndIntervalsRoll : Prop :=
  ∀ (s : State), s.wf = true →
    (∀ (p : Fin 2048) (eb feb : Nat), let x := s.pt p
      let ser := x.serialsAt ((s.sec - 1) * 1000000000)
      (x.ready = false → Idle (.pmSecondJudgement p eb feb) s) ∧
      (x.ready = true → x.closedLast = true → Does (.pmSecondJudgement p eb feb) s [] fun t =>
        t.pt p = { x with ready := false }.noteSecond ser flagSuspended) ∧
      (x.ready = true → x.closedLast = false → x.absentLast = true → Does (.pmSecondJudgement p eb feb) s [] fun t =>
        t.pt p = { x with ready := false }.noteSecond ser flagMissing) ∧
      (∀ thr, x.ready = true → x.closedLast = false → x.absentLast = false → s.pmThr p = some thr → (s.pmFar p).1 = 0 →
        x.ne.unav = false → x.ne.pend.length ≤ 9 →
        (s.pmNearDef p = true ∨ thr ≤ eb →
          (x.ne.pend.length < 9 → Does (.pmSecondJudgement p eb feb) s [] fun t => (t.pt p).ne.unav = false ∧
            ∃ q, (t.pt p).ne.pend = x.ne.pend ++ [q] ∧ q.ses = true ∧ q.es = true ∧ q.eb = eb) ∧
          (x.ne.pend.length = 9 → Does (.pmSecondJudgement p eb feb) s [] fun t => (t.pt p).ne = { unav := true, pend := [] } ∧
            (t.pt p).ready = false)) ∧
        (s.pmNearDef p = false → eb < thr → Does (.pmSecondJudgement p eb feb) s [] fun t =>
          (t.pt p).ne = { unav := false, pend := [] } ∧
          ∀ b, x.ne.pend = [] → x.cur15 = some b → b.serial = ser.1 → b.near.eb + eb < 2 ^ 32 → b.near.es < 2 ^ 32 - 1 →
            ∃ b', (t.pt p).cur15 = some b' ∧ b'.near.eb = b.near.eb + eb ∧ b'.near.bbe = sat32 b.near.bbe eb ∧
              b'.near.es = b.near.es + (if 1 ≤ eb then 1 else 0) ∧ b'.near.ses = min 0xFFFFFFFF b.near.ses ∧ b'.secs = sat32 b.secs 1))) ∧
    (let b := pmBoundary (s.rd PM_ALIGN) s.tm.device
     (b ≤ s.pmRolled → Idle .intervalBoundary s) ∧
     (s.pmRolled < b → Does .intervalBoundary s [] fun t => t.pmRolled = b ∧ ∀ (p : Fin 2048) c, (s.pt p).cur15 = some c → c.start < b →
       (∃ c', (t.pt p).cur15 = some c' ∧ c'.start = b ∧ c'.near = .zero ∧ c'.flags = 0) ∧
       (t.pt p).recent = ((if b - c.start < 900000000000 then c.mark flagShort else c) :: (s.pt p).recent).take 32)) ∧
    (∀ (p : Fin 2048), let x := s.pt p
      (x.finals = [] → Idle (.binFinal p) s) ∧
      (∀ u k bd r, x.finals = (u, k, bd) :: r → (s.clock < u → Idle (.binFinal p) s) ∧
        (u ≤ s.clock → x.soak = none → s.ownerOf (pmObj p) < 16 → Does (.binFinal p) s [] fun t => (t.pt p).finals = r ∧
          (bd = true → ∃ cause data, Fired s t (656 + s.ownerOf (pmObj p)) cause data) ∧
          (bd = false → t.beacon = s.beacon))) ∧
      (∀ k c, x.short15 = some k → k < s.sec → x.short24 = none → x.cur15 = some c → Does (.intervalShortClose p) s [] fun t =>
        (t.pt p).short15 = none ∧ (∃ c', (t.pt p).cur15 = some c' ∧ c'.start = (k + 1) * 1000000000) ∧
        ∃ r, (t.pt p).recent = (if (k + 1) * 1000000000 - c.start < 900000000000 then c.mark flagShort else c) :: r))

/-- R235, R236 and R384 to R387. -/
def Obligations.PatternUnitsGenerateAndCheck : Prop :=
  ∀ (s : State), s.wf = true →
    (∀ (n : Fin 16) (tag : Nat) (o : Op), s.opRuns n tag 0x22 o → o.stage = 0 → let u := objIndex o.obj
      (8 ≤ o.par 0 ∨ 3 ≤ o.par 2 ∨ 256 ≤ o.par 4 → OpDoes (.pattern n tag) s n tag 0x14 4 [] fun t => t.pats = s.pats) ∧
      (o.par 0 < 8 → insertOk (o.par 4) = true → ∀ sides, (o.par 2 = 0 ∧ sides = 1) ∨ (o.par 2 = 1 ∧ sides = 2) ∨ (o.par 2 = 2 ∧ sides = 3) →
        Does (.pattern n tag) s [PU_WORD_WORD.key u 0, PU_CTL_MAN.key u 0, PU_CTL_EXP.key u 0, PU_CTL_CODE.key u 0, PU_CTL_RUN.key u 0,
            PU_ERR.key u 0, PU_BITS.key u 0, PU_STAT_SYNC.key u 0] fun t =>
          t.rd PU_CTL_CODE u = o.par 0 ∧ t.rd PU_WORD_WORD u = o.par 1 % 2 ^ 32 ∧
          (sides ≠ 2 → t.maskBit PU_CTL_RUN 0 u = true ∧ t.rd PU_CTL_MAN u = o.par 4 % 16 ∧ t.rd PU_CTL_EXP u = o.par 4 / 16) ∧
          (sides ≠ 1 → t.maskBit PU_CTL_RUN 1 u = true ∧ t.rd PU_ERR u = 0 ∧ t.rd PU_BITS u = 0 ∧ t.rd PU_STAT_SYNC u = 0) ∧
          (t.pat u).opTag = some tag ∧ (t.pat u).opSess = n ∧ t.op? n tag = some
            { o with stage := 1, due := if o.par 3 = 0 then none else some (s.clock + o.par 3 * 1000000000) })) ∧
    (∀ (u : Fin 64), let x := s.pat u
      (s.patChk u = false → Idle (.checkerSync u) s ∧ ∀ b e, Idle (.checkerSyncLoss u b e) s) ∧
      (s.patGen u = false → ∀ k, Idle (.generatorInsert u k) s) ∧
      (s.patChk u = true → s.flag PU_STAT_SYNC u = false → (∀ b e, Idle (.checkerSyncLoss u b e) s) ∧
        (s.unitAis u = true → Idle (.checkerSync u) s) ∧
        (s.unitAis u = false → Does (.checkerSync u) s [PU_STAT_SYNC.key u 0] fun t => t.rd PU_STAT_SYNC u = 1 ∧
          t.pat u = { x with everSync := true })) ∧
      (s.patChk u = true → s.flag PU_STAT_SYNC u = true → Idle (.checkerSync u) s ∧
        ∀ b e, Does (.checkerSyncLoss u b e) s [PU_STAT_SYNC.key u 0, PU_STAT_LOSS.key u 0, PU_ERR.key u 0, PU_BITS.key u 0] fun t =>
          t.rd PU_STAT_SYNC u = 0 ∧ t.rd PU_STAT_LOSS u = min 65535 (s.rd PU_STAT_LOSS u + 1) ∧
          t.rd PU_ERR u = min (2 ^ 64 - 1) (s.rd PU_ERR u + e) ∧ t.rd PU_BITS u = min (2 ^ 64 - 1) (s.rd PU_BITS u + b) ∧
          (t.pat u).lostSince = true ∧ (t.pat u).progErr = min 0xFFFFFFFF (x.progErr + e)) ∧
      (s.patGen u = true → ∀ k, s.rd PU_CTL_MAN u = 0 → Does (.generatorInsert u k) s [] fun t =>
        t.pat u = { x with perrLeft := x.perrLeft - min x.perrLeft k, inverted := x.inverted + min x.perrLeft k }) ∧
      (s.patGen u = true → ∀ k, s.rd PU_CTL_MAN u = 1 → s.rd PU_CTL_EXP u = 1 → Does (.generatorInsert u k) s [] fun t =>
        (t.pat u).inverted = x.inverted + min x.perrLeft k + 1))

/-- R477, R479, R481 to R486. -/
def Obligations.ChutesCarryWholePackets : Prop :=
  ∀ (s : State), s.wf = true →
    (∀ (e : Fin 8192) (words : List Nat) (ok : Bool), let w := (s.ent e).use1
      let c := objIndex (wordDst w)
      let x := s.chute c
      (s.rd CH_STAT_GFP e ≠ 2 ∨ wordMap w = 0 → Idle (.clientFramePush e words ok) s) ∧
      (0x20 ≤ wordMap w → wordMap w ≤ 0x26 → objClass (wordDst w) = 4 → s.flag CH_STAT_MISFIT e = false → s.flag CH_STAT_PERR e = false →
        s.rd CH_STAT_GFP e = 2 → words ≠ [] → (∀ q ∈ x.opened, q.producer ≠ e.val) →
        (words.length ≤ 256 → x.openCount < 8 → x.gapDue = false → 12 + words.length ≤ x.room →
          (Does (.clientFramePush e words true) s [] fun t =>
            t.chute c = { x with hidden := x.hidden ++ [packetOf (words.map (· % 2 ^ 64))] }) ∧
          Does (.clientFramePush e words false) s [] fun t => t.chute c = x) ∧
        (8 ≤ x.openCount → Does (.clientFramePush e words true) s [CU_DROP.key c 0] fun t => (t.chute c).hidden = x.hidden ∧
          (t.chute c).opened = x.opened ∧ t.rd CU_DROP c = min (2 ^ 32 - 1) (s.rd CU_DROP c + words.length) ∧
          (t.chute c).gapItems = min 0xFFFFFFFF (x.gapItems + words.length) ∧
          (t.chute c).gapPackets = min 0xFFFF (x.gapPackets + 1)))) ∧
    (∀ (c : Fin 64), let x := s.chute c
      (x.gapDue = false ∨ x.room < 2 → Idle (.gapWrite c) s) ∧
      (x.gapDue = true → 2 ≤ x.room → Does (.gapWrite c) s [CU_ERR_GAPS.key c 0] fun t =>
        t.chute c = { x with hidden := x.hidden ++ [[gapEntry (gapData x.gapItems x.gapPackets x.gapCause)]],
                             gapItems := 0, gapPackets := 0, gapCause := 0 } ∧
        t.rd CU_ERR_GAPS c = min 65535 (s.rd CU_ERR_GAPS c + 1)) ∧
      (x.hidden = [] → Idle (.packetVisible c) s) ∧
      (∀ p r, x.hidden = p :: r → Does (.packetVisible c) s [] fun t => t.chute c = { x with held := x.held ++ p, hidden := r }) ∧
      (Does (.spaceVisible c) s [] fun t => t.chute c = { x with freed := 0 }) ∧
      (Does (.ptrMismatchReset c) s [CU_ERR_PTR_MISMATCH.key c 0, CU_ERR_GAPS.key c 0] fun t => (t.chute c).held = [] ∧
        (t.chute c).read = 0 ∧ (t.chute c).waypt = none ∧ (∃ g, (t.chute c).hidden = [[g]] ∧ g.gap = true) ∧
        (∀ q ∈ (t.chute c).opened, q.entries = []) ∧ t.rd CU_ERR_PTR_MISMATCH c = min 255 (s.rd CU_ERR_PTR_MISMATCH c + 1) ∧
        ∃ cause data, Fired s t (512 + c) cause data))

/-- R478, R491 to R494 and R497 to R501. -/
def Obligations.CapturesFillCratesForTheHost : Prop :=
  ∀ (s : State), s.wf = true →
    (∀ (n : Fin 16) (tag : Nat) (o : Op), s.opRuns n tag 0x21 o → o.stage = 0 → let c := objIndex o.obj
      ((s.chute c).consumer ≠ 0 → OpDoes (.capture n tag) s n tag 0x10 0 [] fun t => t.caps = s.caps) ∧
      ((s.chute c).consumer = 0 → s.cap? n tag = none → o.sess = n → o.tag = tag →
        Does (.capture n tag) s [CU_HELD.key c 0, CU_DELIV.key c 0] fun t => (t.chute c).consumer = 1 ∧ (t.chute c).conSess = n ∧
          (t.chute c).conTag = tag ∧ t.op? n tag = some { o with stage := 1 } ∧
          ∃ k, t.cap? n tag = some k ∧ k.req = 1 ∧ k.crate = none ∧ k.chute = c ∧ k.enc = o.par 0 % 4 ∧ k.store = o.par 4)) ∧
    (∀ (store : Fin 2),
      (s.capFirst store (fun k => k.req = 1) = none → Idle (.crateRequest store) s) ∧
      (∀ k, s.capFirst store (fun k => k.req = 1) = some k → k.queue = [] → k.fin = none →
        let keys := [CU_HELD.key k.chute 0, CU_DELIV.key k.chute 0]
        (s.cratesHeld k.sess k.store < s.crateReserve k.sess k.store → Does (.crateRequest store) s keys fun t =>
          t.cap? k.sess k.tag = some { k with crate := some { shared := false, recs := [], tOpen := none, gapItems := 0 }, req := 0 }) ∧
        (s.crateReserve k.sess k.store ≤ s.cratesHeld k.sess k.store → 0 < s.sharedFree k.store →
          Does (.crateRequest store) s (CU_ARB_PTR.key 0 0 :: keys) fun t => t.rd CU_ARB_PTR = (k.sess + 1) % 16 ∧
          t.cap? k.sess k.tag = some { k with crate := some { shared := true, recs := [], tOpen := none, gapItems := 0 }, req := 0 }) ∧
        (s.crateReserve k.sess k.store ≤ s.cratesHeld k.sess k.store → s.sharedFree k.store = 0 → ∀ o, s.op? k.sess k.tag = some o →
          (o.flags.testBit 0 = true → Does (.crateRequest store) s [] fun t => t.cap? k.sess k.tag = some { k with req := 2 }) ∧
          (o.flags.testBit 0 = false → o.opcode = 0x21 → o.fin = none → s.cap? k.sess k.tag = some k → k.crate = none → k.heldCrates = [] →
            DoesWide (.crateRequest store) s fun t => EndsAs t k.sess k.tag 0x13 ∧ t.cap? k.sess k.tag = none ∧
              (t.chute k.chute).consumer = 0))) ∧
      (let waits := fun (k : Cap) => k.req = 2 && (decide (s.cratesHeld k.sess k.store < s.crateReserve k.sess k.store) ||
          decide (0 < s.sharedFree k.store))
       (s.capFirst store waits = none → Idle (.crateWaitGrant store) s) ∧
       (∀ k, s.capFirst store waits = some k → k.queue = [] → k.fin = none → s.cratesHeld k.sess k.store < s.crateReserve k.sess k.store →
         Does (.crateWaitGrant store) s [CU_HELD.key k.chute 0, CU_DELIV.key k.chute 0] fun t =>
           t.cap? k.sess k.tag = some { k with crate := some { shared := false, recs := [], tOpen := none, gapItems := 0 }, req := 0 })) ∧
      ((∀ x ∈ s.crateScrub, x.1 = store.val → s.clock < x.2) → Idle (.crateScrubDone store) s) ∧
      (∀ x, (s.crateScrub.find? fun e => e.1 = store.val && decide (e.2 ≤ s.clock)) = some x → Does (.crateScrubDone store) s [] fun t =>
        t.crateScrub = s.crateScrub.erase x)) ∧
    (∀ (n : Fin 16) (tag : Nat),
      (s.cap? n tag = none → (∀ b, Idle (.captureTake n tag b) s ∧ Idle (.crateWrite n tag b) s) ∧ Idle (.crateFlushTimer n tag) s) ∧
      (∀ k, s.cap? n tag = some k → let c := k.chute
        let keys := [CU_HELD.key c 0, CU_DELIV.key c 0]
        (k.crate = none → (∀ b, Idle (.captureTake n tag b) s) ∧ Idle (.crateFlushTimer n tag) s) ∧
        (∀ r e rest, k.crate = some r → k.queue = [] → k.fin = none → k.part = [] → k.enc = 0 → k.resumeGap = false → s.capRuns n tag = true →
          (s.chute c).held = e :: rest → (s.chute c).read = 0 → e.gap = false → e.eop = true → 16 ≤ k.left r →
          Does (.captureTake n tag false) s keys fun t => (t.chute c).held = rest ∧ (t.chute c).read = 0 ∧
            ∃ k' r', t.cap? n tag = some k' ∧ k'.crate = some r' ∧ r'.recs = r.recs ++ recordOf 1 1 [e.data] ∧ k'.part = [] ∧
              r'.tOpen.isSome = true) ∧
        (∀ r u, k.crate = some r → r.tOpen = some u →
          (k.flush = 0 ∨ s.tm.device < u + k.flush * 1000000000 → Idle (.crateFlushTimer n tag) s) ∧
          (k.flush ≠ 0 → u + k.flush * 1000000000 ≤ s.tm.device → k.fin = none → k.run = [] → k.total = 0 → k.limit = 0 →
            Does (.crateFlushTimer n tag) s keys fun t => ∃ k', t.cap? n tag = some k' ∧ k'.crate = none ∧ k'.req = 1 ∧
              k'.seq = k.seq + 1 ∧ k'.heldCrates.length = k.heldCrates.length + 1)) ∧
        (∀ o h rest, s.op? n tag = some o → k.heldCrates = h :: rest → let size := if k.store = 0 then 0x1000 else 0x10000
          (o.st = .halted ∨ s.rd CU_HACK c + k.slots ≤ h.seq → ∀ b, Idle (.crateWrite n tag b) s) ∧
          (o.st ≠ .halted → h.seq < s.rd CU_HACK c + k.slots → s.stagingRoom size = true → k.fin = none →
            Does (.crateWrite n tag false) s keys fun t =>
              t.host.staging = s.host.staging ++
                [.data n (k.base + h.seq % k.slots * size) ((h.img ++ List.replicate (size - h.img.length) 0).take size)] ∧
              t.cap? n tag = some { k with heldCrates := rest, delivered := k.delivered + 1 } ∧
              (c < 64 → ∃ cause, Fired s t (512 + c) cause h.seq)))))
end

