-- ==== Sys2Proof/Laws/Tables.lean ====
section
/-! SUPPORT. The laws of the sparse tables: what a read gives after a write, and that every operation keeps the keys
strictly rising and the canonical form. -/

namespace Sys2Proof.Machine

variable {α : Type}

/-- The keys rise strictly exactly when they do pairwise. -/
theorem smSorted_iff (m : SMap α) : smSorted m = true ↔ m.Pairwise (fun a b => a.1 < b.1) := by
  induction m with
  | nil => simp [smSorted]
  | cons e m ih =>
    cases m with
    | nil => simp [smSorted]
    | cons e' m =>
      rw [List.pairwise_cons, ← ih]
      simp only [smSorted, Bool.and_eq_true, decide_eq_true_eq, List.mem_cons, forall_eq_or_imp]
      constructor
      · rintro ⟨h, hs⟩
        refine ⟨⟨h, fun a ha => ?_⟩, hs⟩
        have := (List.pairwise_cons.mp (ih.mp hs)).1 a ha
        omega
      · rintro ⟨⟨h, -⟩, hs⟩
        exact ⟨h, hs⟩

theorem smSorted_tail {e : Nat × α} {m : SMap α} (h : smSorted (e :: m) = true) : smSorted m = true :=
  (smSorted_iff m).mpr (List.pairwise_cons.mp ((smSorted_iff _).mp h)).2

theorem smSorted_head {e : Nat × α} {m : SMap α} (h : smSorted (e :: m) = true) : ∀ a ∈ m, e.1 < a.1 :=
  (List.pairwise_cons.mp ((smSorted_iff _).mp h)).1

theorem smSorted_filter {m : SMap α} (h : smSorted m = true) (p : Nat × α → Bool) : smSorted (m.filter p) = true :=
  (smSorted_iff _).mpr (((smSorted_iff _).mp h).filter p)

/-- A change of values that keeps every key keeps the order. -/
theorem smSorted_map {m : SMap α} (h : smSorted m = true) (f : Nat × α → Nat × α) (hf : ∀ e, (f e).1 = e.1) :
    smSorted (m.map f) = true := by
  rw [smSorted_iff, List.pairwise_map]
  exact ((smSorted_iff _).mp h).imp (by intro a b hab; rwa [hf, hf])

/-- Nothing is read below the first key. -/
theorem smGet_below (d : α) {m : SMap α} {x : Nat} (h : ∀ a ∈ m, x < a.1) : smGet d m x = d := by
  cases m with
  | nil => rfl
  | cons e m =>
    have := h e (List.mem_cons_self ..)
    simp [smGet, this, Nat.ne_of_lt this]

/-! ### Insertion -/

@[simp] theorem smGet_smIns_same (d : α) (m : SMap α) (x : Nat) (v : α) : smGet d (smIns m x v) x = v := by
  induction m with
  | nil => simp [smIns, smGet]
  | cons e m ih =>
    obtain ⟨k, w⟩ := e
    by_cases h : x = k
    · simp [smIns, smGet, h]
    · by_cases h' : x < k
      · simp [smIns, smGet, h, h']
      · simp [smIns, smGet, h, h', ih]

theorem smGet_smIns_other (d : α) (m : SMap α) {x y : Nat} (v : α) (hy : y ≠ x) :
    smGet d (smIns m x v) y = smGet d m y := by
  induction m with
  | nil => simp [smIns, smGet, hy]
  | cons e m ih =>
    obtain ⟨k, w⟩ := e
    by_cases h : x = k
    · subst h; simp [smIns, smGet, hy]
    · by_cases h' : x < k
      · simp only [smIns, h, h', if_false, if_true, smGet, hy]
        by_cases h'' : y < x
        · have : y < k := by omega
          simp [h'', this, Nat.ne_of_lt this]
        · simp [h'']
      · simp [smIns, smGet, h, h', ih]

theorem mem_smIns {m : SMap α} {x : Nat} {v : α} {a : Nat × α} (h : a ∈ smIns m x v) : a = (x, v) ∨ a ∈ m := by
  induction m with
  | nil => simpa [smIns] using h
  | cons e m ih =>
    obtain ⟨k, w⟩ := e
    simp only [smIns] at h
    split at h
    · rename_i hk
      subst hk
      rcases List.mem_cons.mp h with h | h
      · exact .inl h
      · exact .inr (List.mem_cons_of_mem _ h)
    · split at h
      · rcases List.mem_cons.mp h with h | h
        · exact .inl h
        · exact .inr h
      · rcases List.mem_cons.mp h with h | h
        · exact .inr (h ▸ List.mem_cons_self ..)
        · exact (ih h).imp id (List.mem_cons_of_mem _)

theorem smSorted_smIns {m : SMap α} (h : smSorted m = true) (x : Nat) (v : α) : smSorted (smIns m x v) = true := by
  induction m with
  | nil => rfl
  | cons e m ih =>
    obtain ⟨k, w⟩ := e
    have hh := smSorted_head h
    have ht := smSorted_tail h
    simp only [smIns]
    rw [smSorted_iff]
    split
    · rename_i hk
      subst hk
      exact List.pairwise_cons.mpr ⟨hh, (smSorted_iff _).mp ht⟩
    · split
      · rename_i _ hlt
        refine List.pairwise_cons.mpr ⟨fun a ha => ?_, (smSorted_iff _).mp h⟩
        rcases List.mem_cons.mp ha with rfl | ha
        · exact hlt
        · exact Nat.lt_trans hlt (hh a ha)
      · refine List.pairwise_cons.mpr ⟨fun a ha => ?_, (smSorted_iff _).mp (ih ht)⟩
        rcases mem_smIns ha with rfl | ha
        · show k < x; omega
        · exact hh a ha

/-! ### Deletion -/

theorem mem_smDel {m : SMap α} {x : Nat} {a : Nat × α} (h : a ∈ smDel m x) : a ∈ m := by
  induction m with
  | nil => exact h
  | cons e m ih =>
    obtain ⟨k, w⟩ := e
    simp only [smDel] at h
    split at h
    · exact List.mem_cons_of_mem _ h
    · split at h
      · exact h
      · rcases List.mem_cons.mp h with h | h
        · exact h ▸ List.mem_cons_self ..
        · exact List.mem_cons_of_mem _ (ih h)

theorem smSorted_smDel {m : SMap α} (h : smSorted m = true) (x : Nat) : smSorted (smDel m x) = true := by
  induction m with
  | nil => rfl
  | cons e m ih =>
    obtain ⟨k, w⟩ := e
    simp only [smDel]
    split
    · exact smSorted_tail h
    · split
      · exact h
      · exact (smSorted_iff _).mpr (List.pairwise_cons.mpr
          ⟨fun a ha => smSorted_head h a (mem_smDel ha), (smSorted_iff _).mp (ih (smSorted_tail h))⟩)

theorem smGet_smDel_same (d : α) {m : SMap α} (h : smSorted m = true) (x : Nat) : smGet d (smDel m x) x = d := by
  induction m with
  | nil => rfl
  | cons e m ih =>
    obtain ⟨k, w⟩ := e
    by_cases hk : x = k
    · subst hk
      simpa [smDel] using smGet_below d (smSorted_head h)
    · by_cases hlt : x < k
      · simp [smDel, smGet, hk, hlt]
      · simp [smDel, smGet, hk, hlt, ih (smSorted_tail h)]

theorem smGet_smDel_other (d : α) {m : SMap α} (h : smSorted m = true) {x y : Nat} (hy : y ≠ x) :
    smGet d (smDel m x) y = smGet d m y := by
  induction m with
  | nil => rfl
  | cons e m ih =>
    obtain ⟨k, w⟩ := e
    by_cases hk : x = k
    · subst hk
      by_cases hlt : y < x
      · have : smGet d m y = d := smGet_below d fun a ha => Nat.lt_trans hlt (smSorted_head h a ha)
        simp [smDel, smGet, hy, hlt, this]
      · simp [smDel, smGet, hy, hlt]
    · by_cases hlt : x < k
      · simp [smDel, hk, hlt]
      · simp [smDel, smGet, hk, hlt, ih (smSorted_tail h)]

/-! ### Writes -/

theorem smSorted_smSet [DecidableEq α] (d : α) {m : SMap α} (h : smSorted m = true) (x : Nat) (v : α) :
    smSorted (smSet d m x v) = true := by
  unfold smSet
  split
  · exact smSorted_smDel h x
  · exact smSorted_smIns h x v

/-- A read after a write to the same key gives the value written. -/
theorem smGet_smSet_same [DecidableEq α] (d : α) {m : SMap α} (h : smSorted m = true) (x : Nat) (v : α) :
    smGet d (smSet d m x v) x = v := by
  unfold smSet
  split
  · rename_i hv
    rw [smGet_smDel_same d h, hv]
  · exact smGet_smIns_same d m x v

/-- A write leaves every other key alone, whatever default either is read or written with. -/
theorem smGet_smSet_other [DecidableEq α] (d : α) {d' : α} {m : SMap α} (h : smSorted m = true) {x y : Nat} (v : α) (hy : y ≠ x) :
    smGet d (smSet d' m x v) y = smGet d m y := by
  unfold smSet
  split
  · exact smGet_smDel_other d h hy
  · exact smGet_smIns_other d m v hy

theorem mem_smSet [DecidableEq α] {d : α} {m : SMap α} {x : Nat} {v : α} {a : Nat × α} (h : a ∈ smSet d m x v) :
    a = (x, v) ∨ a ∈ m := by
  unfold smSet at h
  split at h
  · exact .inr (mem_smDel h)
  · exact mem_smIns h

/-- What holds of every entry holds of every entry after a write of a value it holds of. -/
theorem all_smSet [DecidableEq α] {d : α} {m : SMap α} {p : Nat × α → Bool} (h : m.all p = true) {x : Nat} {v : α}
    (hv : p (x, v) = true) : (smSet d m x v).all p = true := by
  rw [List.all_eq_true] at h ⊢
  intro a ha
  rcases mem_smSet ha with rfl | ha
  · exact hv
  · exact h a ha

theorem smWf_iff [DecidableEq α] (d : α) (m : SMap α) :
    smWf d m = true ↔ smSorted m = true ∧ ∀ e ∈ m, e.2 ≠ d := by
  simp [smWf, List.all_eq_true]

/-- A write keeps the canonical form. -/
theorem smWf_smSet [DecidableEq α] {d : α} {m : SMap α} (h : smWf d m = true) (x : Nat) (v : α) :
    smWf d (smSet d m x v) = true := by
  rw [smWf_iff] at h ⊢
  refine ⟨smSorted_smSet d h.1 x v, fun e he => ?_⟩
  unfold smSet at he
  split at he
  · exact h.2 e (mem_smDel he)
  · rename_i hv
    rcases mem_smIns he with rfl | he
    · exact hv
    · exact h.2 e he

theorem smWf_filter [DecidableEq α] {d : α} {m : SMap α} (h : smWf d m = true) (p : Nat × α → Bool) :
    smWf d (m.filter p) = true := by
  rw [smWf_iff] at h ⊢
  exact ⟨smSorted_filter h.1 p, fun e he => h.2 e (List.mem_of_mem_filter he)⟩

end Sys2Proof.Machine
end

