-- ==== Sys2Proof/Laws/Memory.lean ====
section
/-! SUPPORT. The laws of memory (R73): a read after a write, and that every operation on memory keeps its canonical
form. -/

namespace Sys2Proof.Machine

theorem MemSt.wf_iff (m : MemSt) : m.wf = true ↔ smWf 0 m.larder = true ∧ smWf 0 m.cellar = true ∧ smSorted m.undef = true := by
  simp [MemSt.wf, Bool.and_eq_true, and_assoc]

theorem reset_mem_wf : State.reset.mem.wf = true := rfl

/-! ### The canonical form is kept -/

theorem define_wf {s : State} (h : s.mem.wf = true) (a : Nat) : (s.define a).mem.wf = true := by
  unfold State.define
  split
  · rw [MemSt.wf_iff] at h ⊢
    exact ⟨h.1, h.2.1, smSorted_map h.2.2 _ (by intro e; split <;> rfl)⟩
  · exact h

theorem setByte_wf {s : State} (h : s.mem.wf = true) (a : Nat) (b : Byte) : (s.setByte a b).mem.wf = true := by
  unfold State.setByte
  split
  · rw [MemSt.wf_iff] at h ⊢
    exact ⟨smWf_smSet h.1 a b, h.2⟩
  · split
    · have h' := define_wf h a
      rw [MemSt.wf_iff] at h' ⊢
      exact ⟨h'.1, smWf_smSet h'.2.1 _ b, h'.2.2⟩
    · exact h

theorem setBytes_wf (bs : List Byte) {s : State} (h : s.mem.wf = true) (a : Nat) : (s.setBytes a bs).mem.wf = true := by
  induction bs generalizing s a with
  | nil => exact h
  | cons b bs ih => exact ih (setByte_wf h a b) (a + 1)

theorem setNum_wf {s : State} (h : s.mem.wf = true) (a n v : Nat) : (s.setNum a n v).mem.wf = true :=
  setBytes_wf _ h a

theorem markBad_wf {s : State} (h : s.mem.wf = true) (a : Nat) : (s.markBad a).mem.wf = true := by
  unfold State.markBad
  split <;> exact h

theorem coverWords_wf {s : State} (h : s.mem.wf = true) (a n : Nat) : (s.coverWords a n).mem.wf = true := h

theorem scrubPage_wf {s : State} (h : s.mem.wf = true) (p : Nat) : (s.scrubPage p).mem.wf = true := by
  rw [MemSt.wf_iff] at h ⊢
  exact ⟨smWf_filter h.1 _, smWf_filter h.2.1 _, smSorted_smDel h.2.2 p⟩

/-! ### Reads after writes -/

@[simp] theorem define_larder (s : State) (a : Nat) : (s.define a).mem.larder = s.mem.larder := by
  unfold State.define; split <;> rfl

@[simp] theorem define_cellar (s : State) (a : Nat) : (s.define a).mem.cellar = s.mem.cellar := by
  unfold State.define; split <;> rfl

@[simp] theorem define_inCellar (s : State) (a b : Nat) : (s.define a).inCellar b = s.inCellar b := by
  unfold State.define; split <;> rfl

/-- The first page entry under its key, after a change that keeps the keys. -/
theorem find?_page {β : Type} (l : List (Nat × β)) (f : Nat × β → Nat × β) (hf : ∀ e, (f e).1 = e.1) (p : Nat) :
    (l.map f).find? (fun e => e.1 = p) = (l.find? (fun e => e.1 = p)).map f := by
  induction l with
  | nil => rfl
  | cons e l ih =>
    by_cases h : e.1 = p
    · simp [h, hf]
    · simpa [h, hf, List.find?_cons] using ih

/-- A byte that has been written is defined. -/
theorem undefAt_define_same (s : State) (a : Nat) : (s.define a).undefAt a = none := by
  unfold State.define
  split
  · unfold State.undefAt
    rw [find?_page _ _ (by intro e; split <;> rfl)]
    cases hc : s.mem.undef.find? (fun e => e.1 = a / 4096) with
    | none => rfl
    | some e =>
      have := List.find?_some hc
      simp only [decide_eq_true_eq] at this
      simp [this]
  · rename_i h
    simp at h
    exact h

/-- No other byte becomes defined. -/
theorem undefAt_define_other (s : State) {a b : Nat} (h : b ≠ a) : (s.define a).undefAt b = s.undefAt b := by
  unfold State.define
  split
  · unfold State.undefAt
    rw [find?_page _ _ (by intro e; split <;> rfl)]
    cases hc : s.mem.undef.find? (fun e => e.1 = b / 4096) with
    | none => rfl
    | some e =>
      obtain ⟨k, x, w⟩ := e
      have hk := List.find?_some hc
      simp only [decide_eq_true_eq] at hk
      by_cases hp : k = a / 4096
      · have : ¬ b % 4096 = a % 4096 := by omega
        simp [hp, this]
      · simp [hp]
  · rfl

theorem inCellar_setByte (s : State) (a c : Nat) (b : Byte) : (s.setByte a b).inCellar c = s.inCellar c := by
  unfold State.setByte
  split
  · rfl
  · split
    · exact define_inCellar s a c
    · rfl

theorem setByte_larder {s : State} {a : Nat} (h : inLarder a = true) (b : Byte) :
    (s.setByte a b).mem = { s.mem with larder := smSet 0 s.mem.larder a b } := by
  simp [State.setByte, h]

theorem setByte_cellar {s : State} {a : Nat} (h : ¬ inLarder a = true) (hc : s.inCellar a = true) (b : Byte) :
    (s.setByte a b).mem = { (s.define a).mem with cellar := smSet 0 s.mem.cellar (a - cellarBase) b } := by
  simp [State.setByte, h, hc]

theorem setByte_cellar_undefAt {s : State} {a : Nat} (h : ¬ inLarder a = true) (hc : s.inCellar a = true) (b : Byte)
    (c : Nat) : (s.setByte a b).undefAt c = (s.define a).undefAt c := by
  unfold State.undefAt
  rw [setByte_cellar h hc]

/-- A read after a write to a byte of memory gives the byte written. -/
theorem byteAt_setByte_same {s : State} (h : s.mem.wf = true) {a : Nat} (ha : s.inMemory a = true) (b : Byte) :
    (s.setByte a b).byteAt a = b := by
  rw [MemSt.wf_iff] at h
  unfold State.byteAt
  by_cases hl : inLarder a = true
  · rw [if_pos hl, setByte_larder hl]
    exact smGet_smSet_same 0 ((smWf_iff 0 _).mp h.1).1 a b
  · have hc : s.inCellar a = true := by simpa [State.inMemory, hl] using ha
    rw [if_neg hl, inCellar_setByte, if_pos hc, setByte_cellar_undefAt hl hc, undefAt_define_same, setByte_cellar hl hc]
    exact smGet_smSet_same 0 ((smWf_iff 0 _).mp h.2.1).1 _ b

/-- A write leaves every other byte alone. -/
theorem byteAt_setByte_other {s : State} (h : s.mem.wf = true) {a c : Nat} (hne : c ≠ a) (b : Byte) :
    (s.setByte a b).byteAt c = s.byteAt c := by
  rw [MemSt.wf_iff] at h
  by_cases hl : inLarder a = true
  · have hu : (s.setByte a b).undefAt c = s.undefAt c := by
      unfold State.undefAt; rw [setByte_larder hl]
    unfold State.byteAt
    rw [hu, inCellar_setByte, setByte_larder hl, smGet_smSet_other 0 ((smWf_iff 0 _).mp h.1).1 b hne]
  · by_cases hc : s.inCellar a = true
    · unfold State.byteAt
      rw [inCellar_setByte, setByte_cellar_undefAt hl hc, undefAt_define_other s hne, setByte_cellar hl hc, define_larder]
      by_cases hcc : s.inCellar c = true
      · have hk : c - cellarBase ≠ a - cellarBase := by
          simp only [State.inCellar, decide_eq_true_eq] at hc hcc
          omega
        rw [smGet_smSet_other 0 ((smWf_iff 0 _).mp h.2.1).1 b hk]
      · rw [if_neg hcc, if_neg hcc]
    · simp [State.setByte, hl, hc]

/-- A write of bytes leaves every byte outside them alone. -/
theorem byteAt_setBytes_outside (bs : List Byte) {s : State} (h : s.mem.wf = true) {a c : Nat}
    (hc : c < a ∨ a + bs.length ≤ c) : (s.setBytes a bs).byteAt c = s.byteAt c := by
  induction bs generalizing s a with
  | nil => rfl
  | cons b bs ih =>
    simp only [List.length_cons] at hc
    exact (ih (setByte_wf h a b) (by omega)).trans (byteAt_setByte_other h (by omega) b)

end Sys2Proof.Machine
end

