-- ==== Sys2Proof/Laws/Operations.lean ====
section
/-! SUPPORT. The laws of the operation store: what an operation is after a change of it, and all that the work of a row
can do. -/

namespace Sys2Proof.Machine

/-- A change that keeps an operation's session, tag and place in the store. -/
def KeepsKey (f : Op → Op) : Prop := ∀ o, (f o).sess = o.sess ∧ (f o).tag = o.tag ∧ (f o).refused = o.refused

theorem Op.finish_keepsKey (t status result : Nat) : KeepsKey (Op.finish t status result) := by
  intro o
  unfold Op.finish
  split <;> exact ⟨rfl, rfl, rfl⟩

theorem Op.setEff_keepsKey (x : OpState) : KeepsKey (Op.setEff x) := by
  intro o
  unfold Op.setEff
  split <;> exact ⟨rfl, rfl, rfl⟩

/-- An operation found is the one asked for. -/
theorem op?_key {s : State} {n tag : Nat} {o : Op} (h : s.op? n tag = some o) :
    o.sess = n ∧ o.tag = tag ∧ o.refused = false := by
  have := List.find?_some h
  simpa [and_assoc] using this

/-- The operation of Sn with this TAG is changed by `f`. -/
theorem op?_modOp_same (s : State) (n tag : Nat) {f : Op → Op} (hf : KeepsKey f) :
    (s.modOp n tag f).op? n tag = (s.op? n tag).map f := by
  unfold State.modOp State.op?
  dsimp only
  induction s.ops with
  | nil => rfl
  | cons o l ih =>
    obtain ⟨h1, h2, h3⟩ := hf o
    by_cases h : o.sess = n ∧ o.tag = tag ∧ o.refused = false
    · simp [h, h1, h2, h3]
    · have hp : (o.sess = n && o.tag = tag && !o.refused) = false := by
        simpa [and_assoc] using h
      rw [List.map_cons, if_neg h, List.find?_cons, List.find?_cons, hp]
      exact ih

/-- Every other operation is as before. -/
theorem op?_modOp_other (s : State) {n tag m k : Nat} {f : Op → Op} (hf : KeepsKey f) (h : ¬ (m = n ∧ k = tag)) :
    (s.modOp n tag f).op? m k = s.op? m k := by
  unfold State.modOp State.op?
  dsimp only
  induction s.ops with
  | nil => rfl
  | cons o l ih =>
    obtain ⟨h1, h2, h3⟩ := hf o
    by_cases ho : o.sess = n ∧ o.tag = tag ∧ o.refused = false
    · have hq : (o.sess = m && o.tag = k && !o.refused) = false := by
        have : ¬ (o.sess = m ∧ o.tag = k) := fun e => h ⟨e.1 ▸ ho.1, e.2 ▸ ho.2.1⟩
        simp only [not_and] at this
        by_cases hm : o.sess = m
        · simp [hm, this hm]
        · simp [hm]
      rw [List.map_cons, if_pos ho, List.find?_cons, List.find?_cons, h1, h2, h3, hq]
      exact ih
    · rw [List.map_cons, if_neg ho, List.find?_cons, List.find?_cons, ih]

/-- A live operation that ends carries the status, RESULT and device time given, unless it was HALTED and lost data
(R157). -/
theorem finish_fin {o : Op} (h : o.fin = none) (hs : o.st ≠ .halted) (t status result : Nat) :
    (o.finish t status result).fin = some { status := status, result := result % 2 ^ 32, time := t } := by
  simp [Op.finish, h, hs]

/-- A second ending changes nothing (R155). -/
theorem finish_finished {o : Op} (h : o.fin.isSome = true) (t status result : Nat) : o.finish t status result = o := by
  simp [Op.finish, h]

/-- All that the work of a row can do: nothing, or its effect on a RUNNING operation of its opcode that has begun, has its
host data and has not ended. -/
theorem runOp_cases (s : State) (n tag opcode : Nat) (form : Op → Bool) (f : Op → State → State) :
    s.runOp n tag opcode form f = s ∨
      ∃ o, s.op? n tag = some o ∧ o.opcode = opcode ∧ o.live = true ∧ o.active = true ∧ o.started = true ∧ o.want = 0 ∧
        form o = true ∧ s.runOp n tag opcode form f = f o s := by
  unfold State.runOp
  split
  · rename_i o ho
    split
    · rename_i h
      simp only [Bool.and_eq_true, decide_eq_true_eq] at h
      obtain ⟨⟨⟨⟨⟨h1, h2⟩, h3⟩, h4⟩, h5⟩, h6⟩ := h
      exact .inr ⟨o, ho, h1, h2, h3, h4, h5, h6, rfl⟩
    · exact .inl rfl
  · exact .inl rfl

/-- The work runs when the operation is there and ready. -/
theorem runOp_runs {s : State} {n tag opcode : Nat} {form : Op → Bool} {o : Op} (f : Op → State → State)
    (ho : s.op? n tag = some o) (h1 : o.opcode = opcode) (h2 : o.live = true) (h3 : o.active = true)
    (h4 : o.started = true) (h5 : o.want = 0) (h6 : form o = true) : s.runOp n tag opcode form f = f o s := by
  simp [State.runOp, ho, h1, h2, h3, h4, h5, h6]

end Sys2Proof.Machine
end

