-- ==== Sys2Proof/Laws/State.lean ====
section
/-! SUPPORT. What the named updates of the state leave alone, one lemma per field per update, and what a read gives after
the write of its own table. -/

namespace Sys2Proof.Machine

/-! ### `State.wr` -/

@[simp] theorem State.wr_pending (s : State) (f : Fld) (v i j : Nat) : (s.wr f v i j).pending = s.pending := rfl
@[simp] theorem State.wr_clock (s : State) (f : Fld) (v i j : Nat) : (s.wr f v i j).clock = s.clock := rfl
@[simp] theorem State.wr_freeCtr (s : State) (f : Fld) (v i j : Nat) : (s.wr f v i j).freeCtr = s.freeCtr := rfl
@[simp] theorem State.wr_out (s : State) (f : Fld) (v i j : Nat) : (s.wr f v i j).out = s.out := rfl
@[simp] theorem State.wr_tm (s : State) (f : Fld) (v i j : Nat) : (s.wr f v i j).tm = s.tm := rfl
@[simp] theorem State.wr_cnt (s : State) (f : Fld) (v i j : Nat) : (s.wr f v i j).cnt = s.cnt := rfl
@[simp] theorem State.wr_coreAcc (s : State) (f : Fld) (v i j : Nat) : (s.wr f v i j).coreAcc = s.coreAcc := rfl
@[simp] theorem State.wr_host (s : State) (f : Fld) (v i j : Nat) : (s.wr f v i j).host = s.host := rfl
@[simp] theorem State.wr_sessions (s : State) (f : Fld) (v i j : Nat) : (s.wr f v i j).sessions = s.sessions := rfl
@[simp] theorem State.wr_ops (s : State) (f : Fld) (v i j : Nat) : (s.wr f v i j).ops = s.ops := rfl
@[simp] theorem State.wr_own (s : State) (f : Fld) (v i j : Nat) : (s.wr f v i j).own = s.own := rfl
@[simp] theorem State.wr_mem (s : State) (f : Fld) (v i j : Nat) : (s.wr f v i j).mem = s.mem := rfl
@[simp] theorem State.wr_beacon (s : State) (f : Fld) (v i j : Nat) : (s.wr f v i j).beacon = s.beacon := rfl
@[simp] theorem State.wr_helms (s : State) (f : Fld) (v i j : Nat) : (s.wr f v i j).helms = s.helms := rfl
@[simp] theorem State.wr_ovhs (s : State) (f : Fld) (v i j : Nat) : (s.wr f v i j).ovhs = s.ovhs := rfl
@[simp] theorem State.wr_chart (s : State) (f : Fld) (v i j : Nat) : (s.wr f v i j).chart = s.chart := rfl
@[simp] theorem State.wr_groups (s : State) (f : Fld) (v i j : Nat) : (s.wr f v i j).groups = s.groups := rfl
@[simp] theorem State.wr_chutes (s : State) (f : Fld) (v i j : Nat) : (s.wr f v i j).chutes = s.chutes := rfl
@[simp] theorem State.wr_caps (s : State) (f : Fld) (v i j : Nat) : (s.wr f v i j).caps = s.caps := rfl
@[simp] theorem State.wr_crateScrub (s : State) (f : Fld) (v i j : Nat) : (s.wr f v i j).crateScrub = s.crateScrub := rfl
@[simp] theorem State.wr_pm (s : State) (f : Fld) (v i j : Nat) : (s.wr f v i j).pm = s.pm := rfl
@[simp] theorem State.wr_sec (s : State) (f : Fld) (v i j : Nat) : (s.wr f v i j).sec = s.sec := rfl
@[simp] theorem State.wr_pmRolled (s : State) (f : Fld) (v i j : Nat) : (s.wr f v i j).pmRolled = s.pmRolled := rfl
@[simp] theorem State.wr_pats (s : State) (f : Fld) (v i j : Nat) : (s.wr f v i j).pats = s.pats := rfl
@[simp] theorem State.wr_lines (s : State) (f : Fld) (v i j : Nat) : (s.wr f v i j).lines = s.lines := rfl
@[simp] theorem State.wr_power (s : State) (f : Fld) (v i j : Nat) : (s.wr f v i j).power = s.power := rfl
@[simp] theorem State.wr_bays (s : State) (f : Fld) (v i j : Nat) : (s.wr f v i j).bays = s.bays := rfl
@[simp] theorem State.wr_feed (s : State) (f : Fld) (v i j : Nat) : (s.wr f v i j).feed = s.feed := rfl
@[simp] theorem State.wr_keep (s : State) (f : Fld) (v i j : Nat) : (s.wr f v i j).keep = s.keep := rfl
@[simp] theorem State.wr_boot (s : State) (f : Fld) (v i j : Nat) : (s.wr f v i j).boot = s.boot := rfl
@[simp] theorem State.wr_health (s : State) (f : Fld) (v i j : Nat) : (s.wr f v i j).health = s.health := rfl
@[simp] theorem State.wr_hiLatch (s : State) (f : Fld) (v i j : Nat) : (s.wr f v i j).hiLatch = s.hiLatch := rfl

/-! ### `State.setFlag` -/

@[simp] theorem State.setFlag_pending (s : State) (f : Fld) (b : Bool) (i j : Nat) : (s.setFlag f b i j).pending = s.pending := rfl
@[simp] theorem State.setFlag_clock (s : State) (f : Fld) (b : Bool) (i j : Nat) : (s.setFlag f b i j).clock = s.clock := rfl
@[simp] theorem State.setFlag_freeCtr (s : State) (f : Fld) (b : Bool) (i j : Nat) : (s.setFlag f b i j).freeCtr = s.freeCtr := rfl
@[simp] theorem State.setFlag_out (s : State) (f : Fld) (b : Bool) (i j : Nat) : (s.setFlag f b i j).out = s.out := rfl
@[simp] theorem State.setFlag_tm (s : State) (f : Fld) (b : Bool) (i j : Nat) : (s.setFlag f b i j).tm = s.tm := rfl
@[simp] theorem State.setFlag_cnt (s : State) (f : Fld) (b : Bool) (i j : Nat) : (s.setFlag f b i j).cnt = s.cnt := rfl
@[simp] theorem State.setFlag_coreAcc (s : State) (f : Fld) (b : Bool) (i j : Nat) : (s.setFlag f b i j).coreAcc = s.coreAcc := rfl
@[simp] theorem State.setFlag_host (s : State) (f : Fld) (b : Bool) (i j : Nat) : (s.setFlag f b i j).host = s.host := rfl
@[simp] theorem State.setFlag_sessions (s : State) (f : Fld) (b : Bool) (i j : Nat) : (s.setFlag f b i j).sessions = s.sessions := rfl
@[simp] theorem State.setFlag_ops (s : State) (f : Fld) (b : Bool) (i j : Nat) : (s.setFlag f b i j).ops = s.ops := rfl
@[simp] theorem State.setFlag_own (s : State) (f : Fld) (b : Bool) (i j : Nat) : (s.setFlag f b i j).own = s.own := rfl
@[simp] theorem State.setFlag_mem (s : State) (f : Fld) (b : Bool) (i j : Nat) : (s.setFlag f b i j).mem = s.mem := rfl
@[simp] theorem State.setFlag_beacon (s : State) (f : Fld) (b : Bool) (i j : Nat) : (s.setFlag f b i j).beacon = s.beacon := rfl
@[simp] theorem State.setFlag_helms (s : State) (f : Fld) (b : Bool) (i j : Nat) : (s.setFlag f b i j).helms = s.helms := rfl
@[simp] theorem State.setFlag_ovhs (s : State) (f : Fld) (b : Bool) (i j : Nat) : (s.setFlag f b i j).ovhs = s.ovhs := rfl
@[simp] theorem State.setFlag_chart (s : State) (f : Fld) (b : Bool) (i j : Nat) : (s.setFlag f b i j).chart = s.chart := rfl
@[simp] theorem State.setFlag_groups (s : State) (f : Fld) (b : Bool) (i j : Nat) : (s.setFlag f b i j).groups = s.groups := rfl
@[simp] theorem State.setFlag_chutes (s : State) (f : Fld) (b : Bool) (i j : Nat) : (s.setFlag f b i j).chutes = s.chutes := rfl
@[simp] theorem State.setFlag_caps (s : State) (f : Fld) (b : Bool) (i j : Nat) : (s.setFlag f b i j).caps = s.caps := rfl
@[simp] theorem State.setFlag_crateScrub (s : State) (f : Fld) (b : Bool) (i j : Nat) : (s.setFlag f b i j).crateScrub = s.crateScrub := rfl
@[simp] theorem State.setFlag_pm (s : State) (f : Fld) (b : Bool) (i j : Nat) : (s.setFlag f b i j).pm = s.pm := rfl
@[simp] theorem State.setFlag_sec (s : State) (f : Fld) (b : Bool) (i j : Nat) : (s.setFlag f b i j).sec = s.sec := rfl
@[simp] theorem State.setFlag_pmRolled (s : State) (f : Fld) (b : Bool) (i j : Nat) : (s.setFlag f b i j).pmRolled = s.pmRolled := rfl
@[simp] theorem State.setFlag_pats (s : State) (f : Fld) (b : Bool) (i j : Nat) : (s.setFlag f b i j).pats = s.pats := rfl
@[simp] theorem State.setFlag_lines (s : State) (f : Fld) (b : Bool) (i j : Nat) : (s.setFlag f b i j).lines = s.lines := rfl
@[simp] theorem State.setFlag_power (s : State) (f : Fld) (b : Bool) (i j : Nat) : (s.setFlag f b i j).power = s.power := rfl
@[simp] theorem State.setFlag_bays (s : State) (f : Fld) (b : Bool) (i j : Nat) : (s.setFlag f b i j).bays = s.bays := rfl
@[simp] theorem State.setFlag_feed (s : State) (f : Fld) (b : Bool) (i j : Nat) : (s.setFlag f b i j).feed = s.feed := rfl
@[simp] theorem State.setFlag_keep (s : State) (f : Fld) (b : Bool) (i j : Nat) : (s.setFlag f b i j).keep = s.keep := rfl
@[simp] theorem State.setFlag_boot (s : State) (f : Fld) (b : Bool) (i j : Nat) : (s.setFlag f b i j).boot = s.boot := rfl
@[simp] theorem State.setFlag_health (s : State) (f : Fld) (b : Bool) (i j : Nat) : (s.setFlag f b i j).health = s.health := rfl
@[simp] theorem State.setFlag_hiLatch (s : State) (f : Fld) (b : Bool) (i j : Nat) : (s.setFlag f b i j).hiLatch = s.hiLatch := rfl

/-! ### `State.bump` -/

@[simp] theorem State.bump_pending (s : State) (f : Fld) (i j n : Nat) : (s.bump f i j n).pending = s.pending := rfl
@[simp] theorem State.bump_clock (s : State) (f : Fld) (i j n : Nat) : (s.bump f i j n).clock = s.clock := rfl
@[simp] theorem State.bump_freeCtr (s : State) (f : Fld) (i j n : Nat) : (s.bump f i j n).freeCtr = s.freeCtr := rfl
@[simp] theorem State.bump_out (s : State) (f : Fld) (i j n : Nat) : (s.bump f i j n).out = s.out := rfl
@[simp] theorem State.bump_tm (s : State) (f : Fld) (i j n : Nat) : (s.bump f i j n).tm = s.tm := rfl
@[simp] theorem State.bump_cnt (s : State) (f : Fld) (i j n : Nat) : (s.bump f i j n).cnt = s.cnt := rfl
@[simp] theorem State.bump_coreAcc (s : State) (f : Fld) (i j n : Nat) : (s.bump f i j n).coreAcc = s.coreAcc := rfl
@[simp] theorem State.bump_host (s : State) (f : Fld) (i j n : Nat) : (s.bump f i j n).host = s.host := rfl
@[simp] theorem State.bump_sessions (s : State) (f : Fld) (i j n : Nat) : (s.bump f i j n).sessions = s.sessions := rfl
@[simp] theorem State.bump_ops (s : State) (f : Fld) (i j n : Nat) : (s.bump f i j n).ops = s.ops := rfl
@[simp] theorem State.bump_own (s : State) (f : Fld) (i j n : Nat) : (s.bump f i j n).own = s.own := rfl
@[simp] theorem State.bump_mem (s : State) (f : Fld) (i j n : Nat) : (s.bump f i j n).mem = s.mem := rfl
@[simp] theorem State.bump_beacon (s : State) (f : Fld) (i j n : Nat) : (s.bump f i j n).beacon = s.beacon := rfl
@[simp] theorem State.bump_helms (s : State) (f : Fld) (i j n : Nat) : (s.bump f i j n).helms = s.helms := rfl
@[simp] theorem State.bump_ovhs (s : State) (f : Fld) (i j n : Nat) : (s.bump f i j n).ovhs = s.ovhs := rfl
@[simp] theorem State.bump_chart (s : State) (f : Fld) (i j n : Nat) : (s.bump f i j n).chart = s.chart := rfl
@[simp] theorem State.bump_groups (s : State) (f : Fld) (i j n : Nat) : (s.bump f i j n).groups = s.groups := rfl
@[simp] theorem State.bump_chutes (s : State) (f : Fld) (i j n : Nat) : (s.bump f i j n).chutes = s.chutes := rfl
@[simp] theorem State.bump_caps (s : State) (f : Fld) (i j n : Nat) : (s.bump f i j n).caps = s.caps := rfl
@[simp] theorem State.bump_crateScrub (s : State) (f : Fld) (i j n : Nat) : (s.bump f i j n).crateScrub = s.crateScrub := rfl
@[simp] theorem State.bump_pm (s : State) (f : Fld) (i j n : Nat) : (s.bump f i j n).pm = s.pm := rfl
@[simp] theorem State.bump_sec (s : State) (f : Fld) (i j n : Nat) : (s.bump f i j n).sec = s.sec := rfl
@[simp] theorem State.bump_pmRolled (s : State) (f : Fld) (i j n : Nat) : (s.bump f i j n).pmRolled = s.pmRolled := rfl
@[simp] theorem State.bump_pats (s : State) (f : Fld) (i j n : Nat) : (s.bump f i j n).pats = s.pats := rfl
@[simp] theorem State.bump_lines (s : State) (f : Fld) (i j n : Nat) : (s.bump f i j n).lines = s.lines := rfl
@[simp] theorem State.bump_power (s : State) (f : Fld) (i j n : Nat) : (s.bump f i j n).power = s.power := rfl
@[simp] theorem State.bump_bays (s : State) (f : Fld) (i j n : Nat) : (s.bump f i j n).bays = s.bays := rfl
@[simp] theorem State.bump_feed (s : State) (f : Fld) (i j n : Nat) : (s.bump f i j n).feed = s.feed := rfl
@[simp] theorem State.bump_keep (s : State) (f : Fld) (i j n : Nat) : (s.bump f i j n).keep = s.keep := rfl
@[simp] theorem State.bump_boot (s : State) (f : Fld) (i j n : Nat) : (s.bump f i j n).boot = s.boot := rfl
@[simp] theorem State.bump_health (s : State) (f : Fld) (i j n : Nat) : (s.bump f i j n).health = s.health := rfl
@[simp] theorem State.bump_hiLatch (s : State) (f : Fld) (i j n : Nat) : (s.bump f i j n).hiLatch = s.hiLatch := rfl

/-! ### `State.setMaskBit` -/

@[simp] theorem State.setMaskBit_pending (s : State) (f : Fld) (b : Nat) (on : Bool) (i j : Nat) : (s.setMaskBit f b on i j).pending = s.pending := rfl
@[simp] theorem State.setMaskBit_clock (s : State) (f : Fld) (b : Nat) (on : Bool) (i j : Nat) : (s.setMaskBit f b on i j).clock = s.clock := rfl
@[simp] theorem State.setMaskBit_freeCtr (s : State) (f : Fld) (b : Nat) (on : Bool) (i j : Nat) : (s.setMaskBit f b on i j).freeCtr = s.freeCtr := rfl
@[simp] theorem State.setMaskBit_out (s : State) (f : Fld) (b : Nat) (on : Bool) (i j : Nat) : (s.setMaskBit f b on i j).out = s.out := rfl
@[simp] theorem State.setMaskBit_tm (s : State) (f : Fld) (b : Nat) (on : Bool) (i j : Nat) : (s.setMaskBit f b on i j).tm = s.tm := rfl
@[simp] theorem State.setMaskBit_cnt (s : State) (f : Fld) (b : Nat) (on : Bool) (i j : Nat) : (s.setMaskBit f b on i j).cnt = s.cnt := rfl
@[simp] theorem State.setMaskBit_coreAcc (s : State) (f : Fld) (b : Nat) (on : Bool) (i j : Nat) : (s.setMaskBit f b on i j).coreAcc = s.coreAcc := rfl
@[simp] theorem State.setMaskBit_host (s : State) (f : Fld) (b : Nat) (on : Bool) (i j : Nat) : (s.setMaskBit f b on i j).host = s.host := rfl
@[simp] theorem State.setMaskBit_sessions (s : State) (f : Fld) (b : Nat) (on : Bool) (i j : Nat) : (s.setMaskBit f b on i j).sessions = s.sessions := rfl
@[simp] theorem State.setMaskBit_ops (s : State) (f : Fld) (b : Nat) (on : Bool) (i j : Nat) : (s.setMaskBit f b on i j).ops = s.ops := rfl
@[simp] theorem State.setMaskBit_own (s : State) (f : Fld) (b : Nat) (on : Bool) (i j : Nat) : (s.setMaskBit f b on i j).own = s.own := rfl
@[simp] theorem State.setMaskBit_mem (s : State) (f : Fld) (b : Nat) (on : Bool) (i j : Nat) : (s.setMaskBit f b on i j).mem = s.mem := rfl
@[simp] theorem State.setMaskBit_beacon (s : State) (f : Fld) (b : Nat) (on : Bool) (i j : Nat) : (s.setMaskBit f b on i j).beacon = s.beacon := rfl
@[simp] theorem State.setMaskBit_helms (s : State) (f : Fld) (b : Nat) (on : Bool) (i j : Nat) : (s.setMaskBit f b on i j).helms = s.helms := rfl
@[simp] theorem State.setMaskBit_ovhs (s : State) (f : Fld) (b : Nat) (on : Bool) (i j : Nat) : (s.setMaskBit f b on i j).ovhs = s.ovhs := rfl
@[simp] theorem State.setMaskBit_chart (s : State) (f : Fld) (b : Nat) (on : Bool) (i j : Nat) : (s.setMaskBit f b on i j).chart = s.chart := rfl
@[simp] theorem State.setMaskBit_groups (s : State) (f : Fld) (b : Nat) (on : Bool) (i j : Nat) : (s.setMaskBit f b on i j).groups = s.groups := rfl
@[simp] theorem State.setMaskBit_chutes (s : State) (f : Fld) (b : Nat) (on : Bool) (i j : Nat) : (s.setMaskBit f b on i j).chutes = s.chutes := rfl
@[simp] theorem State.setMaskBit_caps (s : State) (f : Fld) (b : Nat) (on : Bool) (i j : Nat) : (s.setMaskBit f b on i j).caps = s.caps := rfl
@[simp] theorem State.setMaskBit_crateScrub (s : State) (f : Fld) (b : Nat) (on : Bool) (i j : Nat) : (s.setMaskBit f b on i j).crateScrub = s.crateScrub := rfl
@[simp] theorem State.setMaskBit_pm (s : State) (f : Fld) (b : Nat) (on : Bool) (i j : Nat) : (s.setMaskBit f b on i j).pm = s.pm := rfl
@[simp] theorem State.setMaskBit_sec (s : State) (f : Fld) (b : Nat) (on : Bool) (i j : Nat) : (s.setMaskBit f b on i j).sec = s.sec := rfl
@[simp] theorem State.setMaskBit_pmRolled (s : State) (f : Fld) (b : Nat) (on : Bool) (i j : Nat) : (s.setMaskBit f b on i j).pmRolled = s.pmRolled := rfl
@[simp] theorem State.setMaskBit_pats (s : State) (f : Fld) (b : Nat) (on : Bool) (i j : Nat) : (s.setMaskBit f b on i j).pats = s.pats := rfl
@[simp] theorem State.setMaskBit_lines (s : State) (f : Fld) (b : Nat) (on : Bool) (i j : Nat) : (s.setMaskBit f b on i j).lines = s.lines := rfl
@[simp] theorem State.setMaskBit_power (s : State) (f : Fld) (b : Nat) (on : Bool) (i j : Nat) : (s.setMaskBit f b on i j).power = s.power := rfl
@[simp] theorem State.setMaskBit_bays (s : State) (f : Fld) (b : Nat) (on : Bool) (i j : Nat) : (s.setMaskBit f b on i j).bays = s.bays := rfl
@[simp] theorem State.setMaskBit_feed (s : State) (f : Fld) (b : Nat) (on : Bool) (i j : Nat) : (s.setMaskBit f b on i j).feed = s.feed := rfl
@[simp] theorem State.setMaskBit_keep (s : State) (f : Fld) (b : Nat) (on : Bool) (i j : Nat) : (s.setMaskBit f b on i j).keep = s.keep := rfl
@[simp] theorem State.setMaskBit_boot (s : State) (f : Fld) (b : Nat) (on : Bool) (i j : Nat) : (s.setMaskBit f b on i j).boot = s.boot := rfl
@[simp] theorem State.setMaskBit_health (s : State) (f : Fld) (b : Nat) (on : Bool) (i j : Nat) : (s.setMaskBit f b on i j).health = s.health := rfl
@[simp] theorem State.setMaskBit_hiLatch (s : State) (f : Fld) (b : Nat) (on : Bool) (i j : Nat) : (s.setMaskBit f b on i j).hiLatch = s.hiLatch := rfl

/-! ### `State.draw` -/

@[simp] theorem State.draw_pending (s : State) : s.draw.pending = s.pending := rfl
@[simp] theorem State.draw_regs (s : State) : s.draw.regs = s.regs := rfl
@[simp] theorem State.draw_clock (s : State) : s.draw.clock = s.clock := rfl
@[simp] theorem State.draw_out (s : State) : s.draw.out = s.out := rfl
@[simp] theorem State.draw_tm (s : State) : s.draw.tm = s.tm := rfl
@[simp] theorem State.draw_cnt (s : State) : s.draw.cnt = s.cnt := rfl
@[simp] theorem State.draw_coreAcc (s : State) : s.draw.coreAcc = s.coreAcc := rfl
@[simp] theorem State.draw_host (s : State) : s.draw.host = s.host := rfl
@[simp] theorem State.draw_sessions (s : State) : s.draw.sessions = s.sessions := rfl
@[simp] theorem State.draw_ops (s : State) : s.draw.ops = s.ops := rfl
@[simp] theorem State.draw_own (s : State) : s.draw.own = s.own := rfl
@[simp] theorem State.draw_mem (s : State) : s.draw.mem = s.mem := rfl
@[simp] theorem State.draw_beacon (s : State) : s.draw.beacon = s.beacon := rfl
@[simp] theorem State.draw_helms (s : State) : s.draw.helms = s.helms := rfl
@[simp] theorem State.draw_ovhs (s : State) : s.draw.ovhs = s.ovhs := rfl
@[simp] theorem State.draw_chart (s : State) : s.draw.chart = s.chart := rfl
@[simp] theorem State.draw_groups (s : State) : s.draw.groups = s.groups := rfl
@[simp] theorem State.draw_chutes (s : State) : s.draw.chutes = s.chutes := rfl
@[simp] theorem State.draw_caps (s : State) : s.draw.caps = s.caps := rfl
@[simp] theorem State.draw_crateScrub (s : State) : s.draw.crateScrub = s.crateScrub := rfl
@[simp] theorem State.draw_pm (s : State) : s.draw.pm = s.pm := rfl
@[simp] theorem State.draw_sec (s : State) : s.draw.sec = s.sec := rfl
@[simp] theorem State.draw_pmRolled (s : State) : s.draw.pmRolled = s.pmRolled := rfl
@[simp] theorem State.draw_pats (s : State) : s.draw.pats = s.pats := rfl
@[simp] theorem State.draw_lines (s : State) : s.draw.lines = s.lines := rfl
@[simp] theorem State.draw_power (s : State) : s.draw.power = s.power := rfl
@[simp] theorem State.draw_bays (s : State) : s.draw.bays = s.bays := rfl
@[simp] theorem State.draw_feed (s : State) : s.draw.feed = s.feed := rfl
@[simp] theorem State.draw_keep (s : State) : s.draw.keep = s.keep := rfl
@[simp] theorem State.draw_boot (s : State) : s.draw.boot = s.boot := rfl
@[simp] theorem State.draw_health (s : State) : s.draw.health = s.health := rfl
@[simp] theorem State.draw_hiLatch (s : State) : s.draw.hiLatch = s.hiLatch := rfl

/-! ### `State.emit` -/

@[simp] theorem State.emit_pending (s : State) (o : Out) : (s.emit o).pending = s.pending := rfl
@[simp] theorem State.emit_regs (s : State) (o : Out) : (s.emit o).regs = s.regs := rfl
@[simp] theorem State.emit_clock (s : State) (o : Out) : (s.emit o).clock = s.clock := rfl
@[simp] theorem State.emit_freeCtr (s : State) (o : Out) : (s.emit o).freeCtr = s.freeCtr := rfl
@[simp] theorem State.emit_tm (s : State) (o : Out) : (s.emit o).tm = s.tm := rfl
@[simp] theorem State.emit_cnt (s : State) (o : Out) : (s.emit o).cnt = s.cnt := rfl
@[simp] theorem State.emit_coreAcc (s : State) (o : Out) : (s.emit o).coreAcc = s.coreAcc := rfl
@[simp] theorem State.emit_host (s : State) (o : Out) : (s.emit o).host = s.host := rfl
@[simp] theorem State.emit_sessions (s : State) (o : Out) : (s.emit o).sessions = s.sessions := rfl
@[simp] theorem State.emit_ops (s : State) (o : Out) : (s.emit o).ops = s.ops := rfl
@[simp] theorem State.emit_own (s : State) (o : Out) : (s.emit o).own = s.own := rfl
@[simp] theorem State.emit_mem (s : State) (o : Out) : (s.emit o).mem = s.mem := rfl
@[simp] theorem State.emit_beacon (s : State) (o : Out) : (s.emit o).beacon = s.beacon := rfl
@[simp] theorem State.emit_helms (s : State) (o : Out) : (s.emit o).helms = s.helms := rfl
@[simp] theorem State.emit_ovhs (s : State) (o : Out) : (s.emit o).ovhs = s.ovhs := rfl
@[simp] theorem State.emit_chart (s : State) (o : Out) : (s.emit o).chart = s.chart := rfl
@[simp] theorem State.emit_groups (s : State) (o : Out) : (s.emit o).groups = s.groups := rfl
@[simp] theorem State.emit_chutes (s : State) (o : Out) : (s.emit o).chutes = s.chutes := rfl
@[simp] theorem State.emit_caps (s : State) (o : Out) : (s.emit o).caps = s.caps := rfl
@[simp] theorem State.emit_crateScrub (s : State) (o : Out) : (s.emit o).crateScrub = s.crateScrub := rfl
@[simp] theorem State.emit_pm (s : State) (o : Out) : (s.emit o).pm = s.pm := rfl
@[simp] theorem State.emit_sec (s : State) (o : Out) : (s.emit o).sec = s.sec := rfl
@[simp] theorem State.emit_pmRolled (s : State) (o : Out) : (s.emit o).pmRolled = s.pmRolled := rfl
@[simp] theorem State.emit_pats (s : State) (o : Out) : (s.emit o).pats = s.pats := rfl
@[simp] theorem State.emit_lines (s : State) (o : Out) : (s.emit o).lines = s.lines := rfl
@[simp] theorem State.emit_power (s : State) (o : Out) : (s.emit o).power = s.power := rfl
@[simp] theorem State.emit_bays (s : State) (o : Out) : (s.emit o).bays = s.bays := rfl
@[simp] theorem State.emit_feed (s : State) (o : Out) : (s.emit o).feed = s.feed := rfl
@[simp] theorem State.emit_keep (s : State) (o : Out) : (s.emit o).keep = s.keep := rfl
@[simp] theorem State.emit_boot (s : State) (o : Out) : (s.emit o).boot = s.boot := rfl
@[simp] theorem State.emit_health (s : State) (o : Out) : (s.emit o).health = s.health := rfl
@[simp] theorem State.emit_hiLatch (s : State) (o : Out) : (s.emit o).hiLatch = s.hiLatch := rfl

/-! ### `State.count` -/

@[simp] theorem State.count_pending (s : State) (i n : Nat) : (s.count i n).pending = s.pending := rfl
@[simp] theorem State.count_regs (s : State) (i n : Nat) : (s.count i n).regs = s.regs := rfl
@[simp] theorem State.count_clock (s : State) (i n : Nat) : (s.count i n).clock = s.clock := rfl
@[simp] theorem State.count_freeCtr (s : State) (i n : Nat) : (s.count i n).freeCtr = s.freeCtr := rfl
@[simp] theorem State.count_out (s : State) (i n : Nat) : (s.count i n).out = s.out := rfl
@[simp] theorem State.count_tm (s : State) (i n : Nat) : (s.count i n).tm = s.tm := rfl
@[simp] theorem State.count_coreAcc (s : State) (i n : Nat) : (s.count i n).coreAcc = s.coreAcc := rfl
@[simp] theorem State.count_host (s : State) (i n : Nat) : (s.count i n).host = s.host := rfl
@[simp] theorem State.count_sessions (s : State) (i n : Nat) : (s.count i n).sessions = s.sessions := rfl
@[simp] theorem State.count_ops (s : State) (i n : Nat) : (s.count i n).ops = s.ops := rfl
@[simp] theorem State.count_own (s : State) (i n : Nat) : (s.count i n).own = s.own := rfl
@[simp] theorem State.count_mem (s : State) (i n : Nat) : (s.count i n).mem = s.mem := rfl
@[simp] theorem State.count_beacon (s : State) (i n : Nat) : (s.count i n).beacon = s.beacon := rfl
@[simp] theorem State.count_helms (s : State) (i n : Nat) : (s.count i n).helms = s.helms := rfl
@[simp] theorem State.count_ovhs (s : State) (i n : Nat) : (s.count i n).ovhs = s.ovhs := rfl
@[simp] theorem State.count_chart (s : State) (i n : Nat) : (s.count i n).chart = s.chart := rfl
@[simp] theorem State.count_groups (s : State) (i n : Nat) : (s.count i n).groups = s.groups := rfl
@[simp] theorem State.count_chutes (s : State) (i n : Nat) : (s.count i n).chutes = s.chutes := rfl
@[simp] theorem State.count_caps (s : State) (i n : Nat) : (s.count i n).caps = s.caps := rfl
@[simp] theorem State.count_crateScrub (s : State) (i n : Nat) : (s.count i n).crateScrub = s.crateScrub := rfl
@[simp] theorem State.count_pm (s : State) (i n : Nat) : (s.count i n).pm = s.pm := rfl
@[simp] theorem State.count_sec (s : State) (i n : Nat) : (s.count i n).sec = s.sec := rfl
@[simp] theorem State.count_pmRolled (s : State) (i n : Nat) : (s.count i n).pmRolled = s.pmRolled := rfl
@[simp] theorem State.count_pats (s : State) (i n : Nat) : (s.count i n).pats = s.pats := rfl
@[simp] theorem State.count_lines (s : State) (i n : Nat) : (s.count i n).lines = s.lines := rfl
@[simp] theorem State.count_power (s : State) (i n : Nat) : (s.count i n).power = s.power := rfl
@[simp] theorem State.count_bays (s : State) (i n : Nat) : (s.count i n).bays = s.bays := rfl
@[simp] theorem State.count_feed (s : State) (i n : Nat) : (s.count i n).feed = s.feed := rfl
@[simp] theorem State.count_keep (s : State) (i n : Nat) : (s.count i n).keep = s.keep := rfl
@[simp] theorem State.count_boot (s : State) (i n : Nat) : (s.count i n).boot = s.boot := rfl
@[simp] theorem State.count_health (s : State) (i n : Nat) : (s.count i n).health = s.health := rfl
@[simp] theorem State.count_hiLatch (s : State) (i n : Nat) : (s.count i n).hiLatch = s.hiLatch := rfl

/-! ### `State.setSess` -/

@[simp] theorem State.setSess_pending (s : State) (n : Nat) (x : Sess) : (s.setSess n x).pending = s.pending := rfl
@[simp] theorem State.setSess_regs (s : State) (n : Nat) (x : Sess) : (s.setSess n x).regs = s.regs := rfl
@[simp] theorem State.setSess_clock (s : State) (n : Nat) (x : Sess) : (s.setSess n x).clock = s.clock := rfl
@[simp] theorem State.setSess_freeCtr (s : State) (n : Nat) (x : Sess) : (s.setSess n x).freeCtr = s.freeCtr := rfl
@[simp] theorem State.setSess_out (s : State) (n : Nat) (x : Sess) : (s.setSess n x).out = s.out := rfl
@[simp] theorem State.setSess_tm (s : State) (n : Nat) (x : Sess) : (s.setSess n x).tm = s.tm := rfl
@[simp] theorem State.setSess_cnt (s : State) (n : Nat) (x : Sess) : (s.setSess n x).cnt = s.cnt := rfl
@[simp] theorem State.setSess_coreAcc (s : State) (n : Nat) (x : Sess) : (s.setSess n x).coreAcc = s.coreAcc := rfl
@[simp] theorem State.setSess_host (s : State) (n : Nat) (x : Sess) : (s.setSess n x).host = s.host := rfl
@[simp] theorem State.setSess_ops (s : State) (n : Nat) (x : Sess) : (s.setSess n x).ops = s.ops := rfl
@[simp] theorem State.setSess_own (s : State) (n : Nat) (x : Sess) : (s.setSess n x).own = s.own := rfl
@[simp] theorem State.setSess_mem (s : State) (n : Nat) (x : Sess) : (s.setSess n x).mem = s.mem := rfl
@[simp] theorem State.setSess_beacon (s : State) (n : Nat) (x : Sess) : (s.setSess n x).beacon = s.beacon := rfl
@[simp] theorem State.setSess_helms (s : State) (n : Nat) (x : Sess) : (s.setSess n x).helms = s.helms := rfl
@[simp] theorem State.setSess_ovhs (s : State) (n : Nat) (x : Sess) : (s.setSess n x).ovhs = s.ovhs := rfl
@[simp] theorem State.setSess_chart (s : State) (n : Nat) (x : Sess) : (s.setSess n x).chart = s.chart := rfl
@[simp] theorem State.setSess_groups (s : State) (n : Nat) (x : Sess) : (s.setSess n x).groups = s.groups := rfl
@[simp] theorem State.setSess_chutes (s : State) (n : Nat) (x : Sess) : (s.setSess n x).chutes = s.chutes := rfl
@[simp] theorem State.setSess_caps (s : State) (n : Nat) (x : Sess) : (s.setSess n x).caps = s.caps := rfl
@[simp] theorem State.setSess_crateScrub (s : State) (n : Nat) (x : Sess) : (s.setSess n x).crateScrub = s.crateScrub := rfl
@[simp] theorem State.setSess_pm (s : State) (n : Nat) (x : Sess) : (s.setSess n x).pm = s.pm := rfl
@[simp] theorem State.setSess_sec (s : State) (n : Nat) (x : Sess) : (s.setSess n x).sec = s.sec := rfl
@[simp] theorem State.setSess_pmRolled (s : State) (n : Nat) (x : Sess) : (s.setSess n x).pmRolled = s.pmRolled := rfl
@[simp] theorem State.setSess_pats (s : State) (n : Nat) (x : Sess) : (s.setSess n x).pats = s.pats := rfl
@[simp] theorem State.setSess_lines (s : State) (n : Nat) (x : Sess) : (s.setSess n x).lines = s.lines := rfl
@[simp] theorem State.setSess_power (s : State) (n : Nat) (x : Sess) : (s.setSess n x).power = s.power := rfl
@[simp] theorem State.setSess_bays (s : State) (n : Nat) (x : Sess) : (s.setSess n x).bays = s.bays := rfl
@[simp] theorem State.setSess_feed (s : State) (n : Nat) (x : Sess) : (s.setSess n x).feed = s.feed := rfl
@[simp] theorem State.setSess_keep (s : State) (n : Nat) (x : Sess) : (s.setSess n x).keep = s.keep := rfl
@[simp] theorem State.setSess_boot (s : State) (n : Nat) (x : Sess) : (s.setSess n x).boot = s.boot := rfl
@[simp] theorem State.setSess_health (s : State) (n : Nat) (x : Sess) : (s.setSess n x).health = s.health := rfl
@[simp] theorem State.setSess_hiLatch (s : State) (n : Nat) (x : Sess) : (s.setSess n x).hiLatch = s.hiLatch := rfl

/-! ### `State.setFn` -/

@[simp] theorem State.setFn_pending (s : State) (n : Nat) (x : Fn) : (s.setFn n x).pending = s.pending := rfl
@[simp] theorem State.setFn_regs (s : State) (n : Nat) (x : Fn) : (s.setFn n x).regs = s.regs := rfl
@[simp] theorem State.setFn_clock (s : State) (n : Nat) (x : Fn) : (s.setFn n x).clock = s.clock := rfl
@[simp] theorem State.setFn_freeCtr (s : State) (n : Nat) (x : Fn) : (s.setFn n x).freeCtr = s.freeCtr := rfl
@[simp] theorem State.setFn_out (s : State) (n : Nat) (x : Fn) : (s.setFn n x).out = s.out := rfl
@[simp] theorem State.setFn_tm (s : State) (n : Nat) (x : Fn) : (s.setFn n x).tm = s.tm := rfl
@[simp] theorem State.setFn_cnt (s : State) (n : Nat) (x : Fn) : (s.setFn n x).cnt = s.cnt := rfl
@[simp] theorem State.setFn_coreAcc (s : State) (n : Nat) (x : Fn) : (s.setFn n x).coreAcc = s.coreAcc := rfl
@[simp] theorem State.setFn_sessions (s : State) (n : Nat) (x : Fn) : (s.setFn n x).sessions = s.sessions := rfl
@[simp] theorem State.setFn_ops (s : State) (n : Nat) (x : Fn) : (s.setFn n x).ops = s.ops := rfl
@[simp] theorem State.setFn_own (s : State) (n : Nat) (x : Fn) : (s.setFn n x).own = s.own := rfl
@[simp] theorem State.setFn_mem (s : State) (n : Nat) (x : Fn) : (s.setFn n x).mem = s.mem := rfl
@[simp] theorem State.setFn_beacon (s : State) (n : Nat) (x : Fn) : (s.setFn n x).beacon = s.beacon := rfl
@[simp] theorem State.setFn_helms (s : State) (n : Nat) (x : Fn) : (s.setFn n x).helms = s.helms := rfl
@[simp] theorem State.setFn_ovhs (s : State) (n : Nat) (x : Fn) : (s.setFn n x).ovhs = s.ovhs := rfl
@[simp] theorem State.setFn_chart (s : State) (n : Nat) (x : Fn) : (s.setFn n x).chart = s.chart := rfl
@[simp] theorem State.setFn_groups (s : State) (n : Nat) (x : Fn) : (s.setFn n x).groups = s.groups := rfl
@[simp] theorem State.setFn_chutes (s : State) (n : Nat) (x : Fn) : (s.setFn n x).chutes = s.chutes := rfl
@[simp] theorem State.setFn_caps (s : State) (n : Nat) (x : Fn) : (s.setFn n x).caps = s.caps := rfl
@[simp] theorem State.setFn_crateScrub (s : State) (n : Nat) (x : Fn) : (s.setFn n x).crateScrub = s.crateScrub := rfl
@[simp] theorem State.setFn_pm (s : State) (n : Nat) (x : Fn) : (s.setFn n x).pm = s.pm := rfl
@[simp] theorem State.setFn_sec (s : State) (n : Nat) (x : Fn) : (s.setFn n x).sec = s.sec := rfl
@[simp] theorem State.setFn_pmRolled (s : State) (n : Nat) (x : Fn) : (s.setFn n x).pmRolled = s.pmRolled := rfl
@[simp] theorem State.setFn_pats (s : State) (n : Nat) (x : Fn) : (s.setFn n x).pats = s.pats := rfl
@[simp] theorem State.setFn_lines (s : State) (n : Nat) (x : Fn) : (s.setFn n x).lines = s.lines := rfl
@[simp] theorem State.setFn_power (s : State) (n : Nat) (x : Fn) : (s.setFn n x).power = s.power := rfl
@[simp] theorem State.setFn_bays (s : State) (n : Nat) (x : Fn) : (s.setFn n x).bays = s.bays := rfl
@[simp] theorem State.setFn_feed (s : State) (n : Nat) (x : Fn) : (s.setFn n x).feed = s.feed := rfl
@[simp] theorem State.setFn_keep (s : State) (n : Nat) (x : Fn) : (s.setFn n x).keep = s.keep := rfl
@[simp] theorem State.setFn_boot (s : State) (n : Nat) (x : Fn) : (s.setFn n x).boot = s.boot := rfl
@[simp] theorem State.setFn_health (s : State) (n : Nat) (x : Fn) : (s.setFn n x).health = s.health := rfl
@[simp] theorem State.setFn_hiLatch (s : State) (n : Nat) (x : Fn) : (s.setFn n x).hiLatch = s.hiLatch := rfl

/-! ### `State.pushStage` -/

@[simp] theorem State.pushStage_pending (s : State) (x : Stage) : (s.pushStage x).pending = s.pending := rfl
@[simp] theorem State.pushStage_regs (s : State) (x : Stage) : (s.pushStage x).regs = s.regs := rfl
@[simp] theorem State.pushStage_clock (s : State) (x : Stage) : (s.pushStage x).clock = s.clock := rfl
@[simp] theorem State.pushStage_freeCtr (s : State) (x : Stage) : (s.pushStage x).freeCtr = s.freeCtr := rfl
@[simp] theorem State.pushStage_out (s : State) (x : Stage) : (s.pushStage x).out = s.out := rfl
@[simp] theorem State.pushStage_tm (s : State) (x : Stage) : (s.pushStage x).tm = s.tm := rfl
@[simp] theorem State.pushStage_cnt (s : State) (x : Stage) : (s.pushStage x).cnt = s.cnt := rfl
@[simp] theorem State.pushStage_coreAcc (s : State) (x : Stage) : (s.pushStage x).coreAcc = s.coreAcc := rfl
@[simp] theorem State.pushStage_sessions (s : State) (x : Stage) : (s.pushStage x).sessions = s.sessions := rfl
@[simp] theorem State.pushStage_ops (s : State) (x : Stage) : (s.pushStage x).ops = s.ops := rfl
@[simp] theorem State.pushStage_own (s : State) (x : Stage) : (s.pushStage x).own = s.own := rfl
@[simp] theorem State.pushStage_mem (s : State) (x : Stage) : (s.pushStage x).mem = s.mem := rfl
@[simp] theorem State.pushStage_beacon (s : State) (x : Stage) : (s.pushStage x).beacon = s.beacon := rfl
@[simp] theorem State.pushStage_helms (s : State) (x : Stage) : (s.pushStage x).helms = s.helms := rfl
@[simp] theorem State.pushStage_ovhs (s : State) (x : Stage) : (s.pushStage x).ovhs = s.ovhs := rfl
@[simp] theorem State.pushStage_chart (s : State) (x : Stage) : (s.pushStage x).chart = s.chart := rfl
@[simp] theorem State.pushStage_groups (s : State) (x : Stage) : (s.pushStage x).groups = s.groups := rfl
@[simp] theorem State.pushStage_chutes (s : State) (x : Stage) : (s.pushStage x).chutes = s.chutes := rfl
@[simp] theorem State.pushStage_caps (s : State) (x : Stage) : (s.pushStage x).caps = s.caps := rfl
@[simp] theorem State.pushStage_crateScrub (s : State) (x : Stage) : (s.pushStage x).crateScrub = s.crateScrub := rfl
@[simp] theorem State.pushStage_pm (s : State) (x : Stage) : (s.pushStage x).pm = s.pm := rfl
@[simp] theorem State.pushStage_sec (s : State) (x : Stage) : (s.pushStage x).sec = s.sec := rfl
@[simp] theorem State.pushStage_pmRolled (s : State) (x : Stage) : (s.pushStage x).pmRolled = s.pmRolled := rfl
@[simp] theorem State.pushStage_pats (s : State) (x : Stage) : (s.pushStage x).pats = s.pats := rfl
@[simp] theorem State.pushStage_lines (s : State) (x : Stage) : (s.pushStage x).lines = s.lines := rfl
@[simp] theorem State.pushStage_power (s : State) (x : Stage) : (s.pushStage x).power = s.power := rfl
@[simp] theorem State.pushStage_bays (s : State) (x : Stage) : (s.pushStage x).bays = s.bays := rfl
@[simp] theorem State.pushStage_feed (s : State) (x : Stage) : (s.pushStage x).feed = s.feed := rfl
@[simp] theorem State.pushStage_keep (s : State) (x : Stage) : (s.pushStage x).keep = s.keep := rfl
@[simp] theorem State.pushStage_boot (s : State) (x : Stage) : (s.pushStage x).boot = s.boot := rfl
@[simp] theorem State.pushStage_health (s : State) (x : Stage) : (s.pushStage x).health = s.health := rfl
@[simp] theorem State.pushStage_hiLatch (s : State) (x : Stage) : (s.pushStage x).hiLatch = s.hiLatch := rfl

/-! ### `State.setHelm` -/

@[simp] theorem State.setHelm_pending (s : State) (h : Nat) (x : Helm) : (s.setHelm h x).pending = s.pending := rfl
@[simp] theorem State.setHelm_regs (s : State) (h : Nat) (x : Helm) : (s.setHelm h x).regs = s.regs := rfl
@[simp] theorem State.setHelm_clock (s : State) (h : Nat) (x : Helm) : (s.setHelm h x).clock = s.clock := rfl
@[simp] theorem State.setHelm_freeCtr (s : State) (h : Nat) (x : Helm) : (s.setHelm h x).freeCtr = s.freeCtr := rfl
@[simp] theorem State.setHelm_out (s : State) (h : Nat) (x : Helm) : (s.setHelm h x).out = s.out := rfl
@[simp] theorem State.setHelm_tm (s : State) (h : Nat) (x : Helm) : (s.setHelm h x).tm = s.tm := rfl
@[simp] theorem State.setHelm_cnt (s : State) (h : Nat) (x : Helm) : (s.setHelm h x).cnt = s.cnt := rfl
@[simp] theorem State.setHelm_coreAcc (s : State) (h : Nat) (x : Helm) : (s.setHelm h x).coreAcc = s.coreAcc := rfl
@[simp] theorem State.setHelm_host (s : State) (h : Nat) (x : Helm) : (s.setHelm h x).host = s.host := rfl
@[simp] theorem State.setHelm_sessions (s : State) (h : Nat) (x : Helm) : (s.setHelm h x).sessions = s.sessions := rfl
@[simp] theorem State.setHelm_ops (s : State) (h : Nat) (x : Helm) : (s.setHelm h x).ops = s.ops := rfl
@[simp] theorem State.setHelm_own (s : State) (h : Nat) (x : Helm) : (s.setHelm h x).own = s.own := rfl
@[simp] theorem State.setHelm_mem (s : State) (h : Nat) (x : Helm) : (s.setHelm h x).mem = s.mem := rfl
@[simp] theorem State.setHelm_beacon (s : State) (h : Nat) (x : Helm) : (s.setHelm h x).beacon = s.beacon := rfl
@[simp] theorem State.setHelm_ovhs (s : State) (h : Nat) (x : Helm) : (s.setHelm h x).ovhs = s.ovhs := rfl
@[simp] theorem State.setHelm_chart (s : State) (h : Nat) (x : Helm) : (s.setHelm h x).chart = s.chart := rfl
@[simp] theorem State.setHelm_groups (s : State) (h : Nat) (x : Helm) : (s.setHelm h x).groups = s.groups := rfl
@[simp] theorem State.setHelm_chutes (s : State) (h : Nat) (x : Helm) : (s.setHelm h x).chutes = s.chutes := rfl
@[simp] theorem State.setHelm_caps (s : State) (h : Nat) (x : Helm) : (s.setHelm h x).caps = s.caps := rfl
@[simp] theorem State.setHelm_crateScrub (s : State) (h : Nat) (x : Helm) : (s.setHelm h x).crateScrub = s.crateScrub := rfl
@[simp] theorem State.setHelm_pm (s : State) (h : Nat) (x : Helm) : (s.setHelm h x).pm = s.pm := rfl
@[simp] theorem State.setHelm_sec (s : State) (h : Nat) (x : Helm) : (s.setHelm h x).sec = s.sec := rfl
@[simp] theorem State.setHelm_pmRolled (s : State) (h : Nat) (x : Helm) : (s.setHelm h x).pmRolled = s.pmRolled := rfl
@[simp] theorem State.setHelm_pats (s : State) (h : Nat) (x : Helm) : (s.setHelm h x).pats = s.pats := rfl
@[simp] theorem State.setHelm_lines (s : State) (h : Nat) (x : Helm) : (s.setHelm h x).lines = s.lines := rfl
@[simp] theorem State.setHelm_power (s : State) (h : Nat) (x : Helm) : (s.setHelm h x).power = s.power := rfl
@[simp] theorem State.setHelm_bays (s : State) (h : Nat) (x : Helm) : (s.setHelm h x).bays = s.bays := rfl
@[simp] theorem State.setHelm_feed (s : State) (h : Nat) (x : Helm) : (s.setHelm h x).feed = s.feed := rfl
@[simp] theorem State.setHelm_keep (s : State) (h : Nat) (x : Helm) : (s.setHelm h x).keep = s.keep := rfl
@[simp] theorem State.setHelm_boot (s : State) (h : Nat) (x : Helm) : (s.setHelm h x).boot = s.boot := rfl
@[simp] theorem State.setHelm_health (s : State) (h : Nat) (x : Helm) : (s.setHelm h x).health = s.health := rfl
@[simp] theorem State.setHelm_hiLatch (s : State) (h : Nat) (x : Helm) : (s.setHelm h x).hiLatch = s.hiLatch := rfl

/-! ### `State.setSource` -/

@[simp] theorem State.setSource_pending (s : State) (k : Nat) (x : Source) : (s.setSource k x).pending = s.pending := rfl
@[simp] theorem State.setSource_regs (s : State) (k : Nat) (x : Source) : (s.setSource k x).regs = s.regs := rfl
@[simp] theorem State.setSource_clock (s : State) (k : Nat) (x : Source) : (s.setSource k x).clock = s.clock := rfl
@[simp] theorem State.setSource_freeCtr (s : State) (k : Nat) (x : Source) : (s.setSource k x).freeCtr = s.freeCtr := rfl
@[simp] theorem State.setSource_out (s : State) (k : Nat) (x : Source) : (s.setSource k x).out = s.out := rfl
@[simp] theorem State.setSource_tm (s : State) (k : Nat) (x : Source) : (s.setSource k x).tm = s.tm := rfl
@[simp] theorem State.setSource_cnt (s : State) (k : Nat) (x : Source) : (s.setSource k x).cnt = s.cnt := rfl
@[simp] theorem State.setSource_coreAcc (s : State) (k : Nat) (x : Source) : (s.setSource k x).coreAcc = s.coreAcc := rfl
@[simp] theorem State.setSource_host (s : State) (k : Nat) (x : Source) : (s.setSource k x).host = s.host := rfl
@[simp] theorem State.setSource_sessions (s : State) (k : Nat) (x : Source) : (s.setSource k x).sessions = s.sessions := rfl
@[simp] theorem State.setSource_ops (s : State) (k : Nat) (x : Source) : (s.setSource k x).ops = s.ops := rfl
@[simp] theorem State.setSource_own (s : State) (k : Nat) (x : Source) : (s.setSource k x).own = s.own := rfl
@[simp] theorem State.setSource_mem (s : State) (k : Nat) (x : Source) : (s.setSource k x).mem = s.mem := rfl
@[simp] theorem State.setSource_helms (s : State) (k : Nat) (x : Source) : (s.setSource k x).helms = s.helms := rfl
@[simp] theorem State.setSource_ovhs (s : State) (k : Nat) (x : Source) : (s.setSource k x).ovhs = s.ovhs := rfl
@[simp] theorem State.setSource_chart (s : State) (k : Nat) (x : Source) : (s.setSource k x).chart = s.chart := rfl
@[simp] theorem State.setSource_groups (s : State) (k : Nat) (x : Source) : (s.setSource k x).groups = s.groups := rfl
@[simp] theorem State.setSource_chutes (s : State) (k : Nat) (x : Source) : (s.setSource k x).chutes = s.chutes := rfl
@[simp] theorem State.setSource_caps (s : State) (k : Nat) (x : Source) : (s.setSource k x).caps = s.caps := rfl
@[simp] theorem State.setSource_crateScrub (s : State) (k : Nat) (x : Source) : (s.setSource k x).crateScrub = s.crateScrub := rfl
@[simp] theorem State.setSource_pm (s : State) (k : Nat) (x : Source) : (s.setSource k x).pm = s.pm := rfl
@[simp] theorem State.setSource_sec (s : State) (k : Nat) (x : Source) : (s.setSource k x).sec = s.sec := rfl
@[simp] theorem State.setSource_pmRolled (s : State) (k : Nat) (x : Source) : (s.setSource k x).pmRolled = s.pmRolled := rfl
@[simp] theorem State.setSource_pats (s : State) (k : Nat) (x : Source) : (s.setSource k x).pats = s.pats := rfl
@[simp] theorem State.setSource_lines (s : State) (k : Nat) (x : Source) : (s.setSource k x).lines = s.lines := rfl
@[simp] theorem State.setSource_power (s : State) (k : Nat) (x : Source) : (s.setSource k x).power = s.power := rfl
@[simp] theorem State.setSource_bays (s : State) (k : Nat) (x : Source) : (s.setSource k x).bays = s.bays := rfl
@[simp] theorem State.setSource_feed (s : State) (k : Nat) (x : Source) : (s.setSource k x).feed = s.feed := rfl
@[simp] theorem State.setSource_keep (s : State) (k : Nat) (x : Source) : (s.setSource k x).keep = s.keep := rfl
@[simp] theorem State.setSource_boot (s : State) (k : Nat) (x : Source) : (s.setSource k x).boot = s.boot := rfl
@[simp] theorem State.setSource_health (s : State) (k : Nat) (x : Source) : (s.setSource k x).health = s.health := rfl
@[simp] theorem State.setSource_hiLatch (s : State) (k : Nat) (x : Source) : (s.setSource k x).hiLatch = s.hiLatch := rfl

/-! ### `State.modOp` -/

@[simp] theorem State.modOp_pending (s : State) (n tag : Nat) (f : Op → Op) : (s.modOp n tag f).pending = s.pending := rfl
@[simp] theorem State.modOp_regs (s : State) (n tag : Nat) (f : Op → Op) : (s.modOp n tag f).regs = s.regs := rfl
@[simp] theorem State.modOp_clock (s : State) (n tag : Nat) (f : Op → Op) : (s.modOp n tag f).clock = s.clock := rfl
@[simp] theorem State.modOp_freeCtr (s : State) (n tag : Nat) (f : Op → Op) : (s.modOp n tag f).freeCtr = s.freeCtr := rfl
@[simp] theorem State.modOp_out (s : State) (n tag : Nat) (f : Op → Op) : (s.modOp n tag f).out = s.out := rfl
@[simp] theorem State.modOp_tm (s : State) (n tag : Nat) (f : Op → Op) : (s.modOp n tag f).tm = s.tm := rfl
@[simp] theorem State.modOp_cnt (s : State) (n tag : Nat) (f : Op → Op) : (s.modOp n tag f).cnt = s.cnt := rfl
@[simp] theorem State.modOp_coreAcc (s : State) (n tag : Nat) (f : Op → Op) : (s.modOp n tag f).coreAcc = s.coreAcc := rfl
@[simp] theorem State.modOp_host (s : State) (n tag : Nat) (f : Op → Op) : (s.modOp n tag f).host = s.host := rfl
@[simp] theorem State.modOp_sessions (s : State) (n tag : Nat) (f : Op → Op) : (s.modOp n tag f).sessions = s.sessions := rfl
@[simp] theorem State.modOp_own (s : State) (n tag : Nat) (f : Op → Op) : (s.modOp n tag f).own = s.own := rfl
@[simp] theorem State.modOp_mem (s : State) (n tag : Nat) (f : Op → Op) : (s.modOp n tag f).mem = s.mem := rfl
@[simp] theorem State.modOp_beacon (s : State) (n tag : Nat) (f : Op → Op) : (s.modOp n tag f).beacon = s.beacon := rfl
@[simp] theorem State.modOp_helms (s : State) (n tag : Nat) (f : Op → Op) : (s.modOp n tag f).helms = s.helms := rfl
@[simp] theorem State.modOp_ovhs (s : State) (n tag : Nat) (f : Op → Op) : (s.modOp n tag f).ovhs = s.ovhs := rfl
@[simp] theorem State.modOp_chart (s : State) (n tag : Nat) (f : Op → Op) : (s.modOp n tag f).chart = s.chart := rfl
@[simp] theorem State.modOp_groups (s : State) (n tag : Nat) (f : Op → Op) : (s.modOp n tag f).groups = s.groups := rfl
@[simp] theorem State.modOp_chutes (s : State) (n tag : Nat) (f : Op → Op) : (s.modOp n tag f).chutes = s.chutes := rfl
@[simp] theorem State.modOp_caps (s : State) (n tag : Nat) (f : Op → Op) : (s.modOp n tag f).caps = s.caps := rfl
@[simp] theorem State.modOp_crateScrub (s : State) (n tag : Nat) (f : Op → Op) : (s.modOp n tag f).crateScrub = s.crateScrub := rfl
@[simp] theorem State.modOp_pm (s : State) (n tag : Nat) (f : Op → Op) : (s.modOp n tag f).pm = s.pm := rfl
@[simp] theorem State.modOp_sec (s : State) (n tag : Nat) (f : Op → Op) : (s.modOp n tag f).sec = s.sec := rfl
@[simp] theorem State.modOp_pmRolled (s : State) (n tag : Nat) (f : Op → Op) : (s.modOp n tag f).pmRolled = s.pmRolled := rfl
@[simp] theorem State.modOp_pats (s : State) (n tag : Nat) (f : Op → Op) : (s.modOp n tag f).pats = s.pats := rfl
@[simp] theorem State.modOp_lines (s : State) (n tag : Nat) (f : Op → Op) : (s.modOp n tag f).lines = s.lines := rfl
@[simp] theorem State.modOp_power (s : State) (n tag : Nat) (f : Op → Op) : (s.modOp n tag f).power = s.power := rfl
@[simp] theorem State.modOp_bays (s : State) (n tag : Nat) (f : Op → Op) : (s.modOp n tag f).bays = s.bays := rfl
@[simp] theorem State.modOp_feed (s : State) (n tag : Nat) (f : Op → Op) : (s.modOp n tag f).feed = s.feed := rfl
@[simp] theorem State.modOp_keep (s : State) (n tag : Nat) (f : Op → Op) : (s.modOp n tag f).keep = s.keep := rfl
@[simp] theorem State.modOp_boot (s : State) (n tag : Nat) (f : Op → Op) : (s.modOp n tag f).boot = s.boot := rfl
@[simp] theorem State.modOp_health (s : State) (n tag : Nat) (f : Op → Op) : (s.modOp n tag f).health = s.health := rfl
@[simp] theorem State.modOp_hiLatch (s : State) (n tag : Nat) (f : Op → Op) : (s.modOp n tag f).hiLatch = s.hiLatch := rfl

/-! ### `State.endOp` -/

@[simp] theorem State.endOp_pending (s : State) (n tag status result : Nat) : (s.endOp n tag status result).pending = s.pending := rfl
@[simp] theorem State.endOp_regs (s : State) (n tag status result : Nat) : (s.endOp n tag status result).regs = s.regs := rfl
@[simp] theorem State.endOp_clock (s : State) (n tag status result : Nat) : (s.endOp n tag status result).clock = s.clock := rfl
@[simp] theorem State.endOp_freeCtr (s : State) (n tag status result : Nat) : (s.endOp n tag status result).freeCtr = s.freeCtr := rfl
@[simp] theorem State.endOp_out (s : State) (n tag status result : Nat) : (s.endOp n tag status result).out = s.out := rfl
@[simp] theorem State.endOp_tm (s : State) (n tag status result : Nat) : (s.endOp n tag status result).tm = s.tm := rfl
@[simp] theorem State.endOp_cnt (s : State) (n tag status result : Nat) : (s.endOp n tag status result).cnt = s.cnt := rfl
@[simp] theorem State.endOp_coreAcc (s : State) (n tag status result : Nat) : (s.endOp n tag status result).coreAcc = s.coreAcc := rfl
@[simp] theorem State.endOp_host (s : State) (n tag status result : Nat) : (s.endOp n tag status result).host = s.host := rfl
@[simp] theorem State.endOp_sessions (s : State) (n tag status result : Nat) : (s.endOp n tag status result).sessions = s.sessions := rfl
@[simp] theorem State.endOp_own (s : State) (n tag status result : Nat) : (s.endOp n tag status result).own = s.own := rfl
@[simp] theorem State.endOp_mem (s : State) (n tag status result : Nat) : (s.endOp n tag status result).mem = s.mem := rfl
@[simp] theorem State.endOp_beacon (s : State) (n tag status result : Nat) : (s.endOp n tag status result).beacon = s.beacon := rfl
@[simp] theorem State.endOp_helms (s : State) (n tag status result : Nat) : (s.endOp n tag status result).helms = s.helms := rfl
@[simp] theorem State.endOp_ovhs (s : State) (n tag status result : Nat) : (s.endOp n tag status result).ovhs = s.ovhs := rfl
@[simp] theorem State.endOp_chart (s : State) (n tag status result : Nat) : (s.endOp n tag status result).chart = s.chart := rfl
@[simp] theorem State.endOp_groups (s : State) (n tag status result : Nat) : (s.endOp n tag status result).groups = s.groups := rfl
@[simp] theorem State.endOp_chutes (s : State) (n tag status result : Nat) : (s.endOp n tag status result).chutes = s.chutes := rfl
@[simp] theorem State.endOp_caps (s : State) (n tag status result : Nat) : (s.endOp n tag status result).caps = s.caps := rfl
@[simp] theorem State.endOp_crateScrub (s : State) (n tag status result : Nat) : (s.endOp n tag status result).crateScrub = s.crateScrub := rfl
@[simp] theorem State.endOp_pm (s : State) (n tag status result : Nat) : (s.endOp n tag status result).pm = s.pm := rfl
@[simp] theorem State.endOp_sec (s : State) (n tag status result : Nat) : (s.endOp n tag status result).sec = s.sec := rfl
@[simp] theorem State.endOp_pmRolled (s : State) (n tag status result : Nat) : (s.endOp n tag status result).pmRolled = s.pmRolled := rfl
@[simp] theorem State.endOp_pats (s : State) (n tag status result : Nat) : (s.endOp n tag status result).pats = s.pats := rfl
@[simp] theorem State.endOp_lines (s : State) (n tag status result : Nat) : (s.endOp n tag status result).lines = s.lines := rfl
@[simp] theorem State.endOp_power (s : State) (n tag status result : Nat) : (s.endOp n tag status result).power = s.power := rfl
@[simp] theorem State.endOp_bays (s : State) (n tag status result : Nat) : (s.endOp n tag status result).bays = s.bays := rfl
@[simp] theorem State.endOp_feed (s : State) (n tag status result : Nat) : (s.endOp n tag status result).feed = s.feed := rfl
@[simp] theorem State.endOp_keep (s : State) (n tag status result : Nat) : (s.endOp n tag status result).keep = s.keep := rfl
@[simp] theorem State.endOp_boot (s : State) (n tag status result : Nat) : (s.endOp n tag status result).boot = s.boot := rfl
@[simp] theorem State.endOp_health (s : State) (n tag status result : Nat) : (s.endOp n tag status result).health = s.health := rfl
@[simp] theorem State.endOp_hiLatch (s : State) (n tag status result : Nat) : (s.endOp n tag status result).hiLatch = s.hiLatch := rfl

/-! ### `State.setLine` -/

@[simp] theorem State.setLine_pending (s : State) (i : Nat) (x : Line) : (s.setLine i x).pending = s.pending := rfl
@[simp] theorem State.setLine_regs (s : State) (i : Nat) (x : Line) : (s.setLine i x).regs = s.regs := rfl
@[simp] theorem State.setLine_clock (s : State) (i : Nat) (x : Line) : (s.setLine i x).clock = s.clock := rfl
@[simp] theorem State.setLine_freeCtr (s : State) (i : Nat) (x : Line) : (s.setLine i x).freeCtr = s.freeCtr := rfl
@[simp] theorem State.setLine_out (s : State) (i : Nat) (x : Line) : (s.setLine i x).out = s.out := rfl
@[simp] theorem State.setLine_tm (s : State) (i : Nat) (x : Line) : (s.setLine i x).tm = s.tm := rfl
@[simp] theorem State.setLine_cnt (s : State) (i : Nat) (x : Line) : (s.setLine i x).cnt = s.cnt := rfl
@[simp] theorem State.setLine_coreAcc (s : State) (i : Nat) (x : Line) : (s.setLine i x).coreAcc = s.coreAcc := rfl
@[simp] theorem State.setLine_host (s : State) (i : Nat) (x : Line) : (s.setLine i x).host = s.host := rfl
@[simp] theorem State.setLine_sessions (s : State) (i : Nat) (x : Line) : (s.setLine i x).sessions = s.sessions := rfl
@[simp] theorem State.setLine_ops (s : State) (i : Nat) (x : Line) : (s.setLine i x).ops = s.ops := rfl
@[simp] theorem State.setLine_own (s : State) (i : Nat) (x : Line) : (s.setLine i x).own = s.own := rfl
@[simp] theorem State.setLine_mem (s : State) (i : Nat) (x : Line) : (s.setLine i x).mem = s.mem := rfl
@[simp] theorem State.setLine_beacon (s : State) (i : Nat) (x : Line) : (s.setLine i x).beacon = s.beacon := rfl
@[simp] theorem State.setLine_helms (s : State) (i : Nat) (x : Line) : (s.setLine i x).helms = s.helms := rfl
@[simp] theorem State.setLine_ovhs (s : State) (i : Nat) (x : Line) : (s.setLine i x).ovhs = s.ovhs := rfl
@[simp] theorem State.setLine_chart (s : State) (i : Nat) (x : Line) : (s.setLine i x).chart = s.chart := rfl
@[simp] theorem State.setLine_groups (s : State) (i : Nat) (x : Line) : (s.setLine i x).groups = s.groups := rfl
@[simp] theorem State.setLine_chutes (s : State) (i : Nat) (x : Line) : (s.setLine i x).chutes = s.chutes := rfl
@[simp] theorem State.setLine_caps (s : State) (i : Nat) (x : Line) : (s.setLine i x).caps = s.caps := rfl
@[simp] theorem State.setLine_crateScrub (s : State) (i : Nat) (x : Line) : (s.setLine i x).crateScrub = s.crateScrub := rfl
@[simp] theorem State.setLine_pm (s : State) (i : Nat) (x : Line) : (s.setLine i x).pm = s.pm := rfl
@[simp] theorem State.setLine_sec (s : State) (i : Nat) (x : Line) : (s.setLine i x).sec = s.sec := rfl
@[simp] theorem State.setLine_pmRolled (s : State) (i : Nat) (x : Line) : (s.setLine i x).pmRolled = s.pmRolled := rfl
@[simp] theorem State.setLine_pats (s : State) (i : Nat) (x : Line) : (s.setLine i x).pats = s.pats := rfl
@[simp] theorem State.setLine_power (s : State) (i : Nat) (x : Line) : (s.setLine i x).power = s.power := rfl
@[simp] theorem State.setLine_bays (s : State) (i : Nat) (x : Line) : (s.setLine i x).bays = s.bays := rfl
@[simp] theorem State.setLine_feed (s : State) (i : Nat) (x : Line) : (s.setLine i x).feed = s.feed := rfl
@[simp] theorem State.setLine_keep (s : State) (i : Nat) (x : Line) : (s.setLine i x).keep = s.keep := rfl
@[simp] theorem State.setLine_boot (s : State) (i : Nat) (x : Line) : (s.setLine i x).boot = s.boot := rfl
@[simp] theorem State.setLine_health (s : State) (i : Nat) (x : Line) : (s.setLine i x).health = s.health := rfl
@[simp] theorem State.setLine_hiLatch (s : State) (i : Nat) (x : Line) : (s.setLine i x).hiLatch = s.hiLatch := rfl

/-! ### `State.setOvh` -/

@[simp] theorem State.setOvh_pending (s : State) (c : Nat) (x : Ovh) : (s.setOvh c x).pending = s.pending := rfl
@[simp] theorem State.setOvh_regs (s : State) (c : Nat) (x : Ovh) : (s.setOvh c x).regs = s.regs := rfl
@[simp] theorem State.setOvh_clock (s : State) (c : Nat) (x : Ovh) : (s.setOvh c x).clock = s.clock := rfl
@[simp] theorem State.setOvh_freeCtr (s : State) (c : Nat) (x : Ovh) : (s.setOvh c x).freeCtr = s.freeCtr := rfl
@[simp] theorem State.setOvh_out (s : State) (c : Nat) (x : Ovh) : (s.setOvh c x).out = s.out := rfl
@[simp] theorem State.setOvh_tm (s : State) (c : Nat) (x : Ovh) : (s.setOvh c x).tm = s.tm := rfl
@[simp] theorem State.setOvh_cnt (s : State) (c : Nat) (x : Ovh) : (s.setOvh c x).cnt = s.cnt := rfl
@[simp] theorem State.setOvh_coreAcc (s : State) (c : Nat) (x : Ovh) : (s.setOvh c x).coreAcc = s.coreAcc := rfl
@[simp] theorem State.setOvh_host (s : State) (c : Nat) (x : Ovh) : (s.setOvh c x).host = s.host := rfl
@[simp] theorem State.setOvh_sessions (s : State) (c : Nat) (x : Ovh) : (s.setOvh c x).sessions = s.sessions := rfl
@[simp] theorem State.setOvh_ops (s : State) (c : Nat) (x : Ovh) : (s.setOvh c x).ops = s.ops := rfl
@[simp] theorem State.setOvh_own (s : State) (c : Nat) (x : Ovh) : (s.setOvh c x).own = s.own := rfl
@[simp] theorem State.setOvh_mem (s : State) (c : Nat) (x : Ovh) : (s.setOvh c x).mem = s.mem := rfl
@[simp] theorem State.setOvh_beacon (s : State) (c : Nat) (x : Ovh) : (s.setOvh c x).beacon = s.beacon := rfl
@[simp] theorem State.setOvh_helms (s : State) (c : Nat) (x : Ovh) : (s.setOvh c x).helms = s.helms := rfl
@[simp] theorem State.setOvh_chart (s : State) (c : Nat) (x : Ovh) : (s.setOvh c x).chart = s.chart := rfl
@[simp] theorem State.setOvh_groups (s : State) (c : Nat) (x : Ovh) : (s.setOvh c x).groups = s.groups := rfl
@[simp] theorem State.setOvh_chutes (s : State) (c : Nat) (x : Ovh) : (s.setOvh c x).chutes = s.chutes := rfl
@[simp] theorem State.setOvh_caps (s : State) (c : Nat) (x : Ovh) : (s.setOvh c x).caps = s.caps := rfl
@[simp] theorem State.setOvh_crateScrub (s : State) (c : Nat) (x : Ovh) : (s.setOvh c x).crateScrub = s.crateScrub := rfl
@[simp] theorem State.setOvh_pm (s : State) (c : Nat) (x : Ovh) : (s.setOvh c x).pm = s.pm := rfl
@[simp] theorem State.setOvh_sec (s : State) (c : Nat) (x : Ovh) : (s.setOvh c x).sec = s.sec := rfl
@[simp] theorem State.setOvh_pmRolled (s : State) (c : Nat) (x : Ovh) : (s.setOvh c x).pmRolled = s.pmRolled := rfl
@[simp] theorem State.setOvh_pats (s : State) (c : Nat) (x : Ovh) : (s.setOvh c x).pats = s.pats := rfl
@[simp] theorem State.setOvh_lines (s : State) (c : Nat) (x : Ovh) : (s.setOvh c x).lines = s.lines := rfl
@[simp] theorem State.setOvh_power (s : State) (c : Nat) (x : Ovh) : (s.setOvh c x).power = s.power := rfl
@[simp] theorem State.setOvh_bays (s : State) (c : Nat) (x : Ovh) : (s.setOvh c x).bays = s.bays := rfl
@[simp] theorem State.setOvh_feed (s : State) (c : Nat) (x : Ovh) : (s.setOvh c x).feed = s.feed := rfl
@[simp] theorem State.setOvh_keep (s : State) (c : Nat) (x : Ovh) : (s.setOvh c x).keep = s.keep := rfl
@[simp] theorem State.setOvh_boot (s : State) (c : Nat) (x : Ovh) : (s.setOvh c x).boot = s.boot := rfl
@[simp] theorem State.setOvh_health (s : State) (c : Nat) (x : Ovh) : (s.setOvh c x).health = s.health := rfl
@[simp] theorem State.setOvh_hiLatch (s : State) (c : Nat) (x : Ovh) : (s.setOvh c x).hiLatch = s.hiLatch := rfl

/-! ### `State.setEnt` -/

@[simp] theorem State.setEnt_pending (s : State) (e : Nat) (x : ChartEnt) : (s.setEnt e x).pending = s.pending := rfl
@[simp] theorem State.setEnt_regs (s : State) (e : Nat) (x : ChartEnt) : (s.setEnt e x).regs = s.regs := rfl
@[simp] theorem State.setEnt_clock (s : State) (e : Nat) (x : ChartEnt) : (s.setEnt e x).clock = s.clock := rfl
@[simp] theorem State.setEnt_freeCtr (s : State) (e : Nat) (x : ChartEnt) : (s.setEnt e x).freeCtr = s.freeCtr := rfl
@[simp] theorem State.setEnt_out (s : State) (e : Nat) (x : ChartEnt) : (s.setEnt e x).out = s.out := rfl
@[simp] theorem State.setEnt_tm (s : State) (e : Nat) (x : ChartEnt) : (s.setEnt e x).tm = s.tm := rfl
@[simp] theorem State.setEnt_cnt (s : State) (e : Nat) (x : ChartEnt) : (s.setEnt e x).cnt = s.cnt := rfl
@[simp] theorem State.setEnt_coreAcc (s : State) (e : Nat) (x : ChartEnt) : (s.setEnt e x).coreAcc = s.coreAcc := rfl
@[simp] theorem State.setEnt_host (s : State) (e : Nat) (x : ChartEnt) : (s.setEnt e x).host = s.host := rfl
@[simp] theorem State.setEnt_sessions (s : State) (e : Nat) (x : ChartEnt) : (s.setEnt e x).sessions = s.sessions := rfl
@[simp] theorem State.setEnt_ops (s : State) (e : Nat) (x : ChartEnt) : (s.setEnt e x).ops = s.ops := rfl
@[simp] theorem State.setEnt_own (s : State) (e : Nat) (x : ChartEnt) : (s.setEnt e x).own = s.own := rfl
@[simp] theorem State.setEnt_mem (s : State) (e : Nat) (x : ChartEnt) : (s.setEnt e x).mem = s.mem := rfl
@[simp] theorem State.setEnt_beacon (s : State) (e : Nat) (x : ChartEnt) : (s.setEnt e x).beacon = s.beacon := rfl
@[simp] theorem State.setEnt_helms (s : State) (e : Nat) (x : ChartEnt) : (s.setEnt e x).helms = s.helms := rfl
@[simp] theorem State.setEnt_ovhs (s : State) (e : Nat) (x : ChartEnt) : (s.setEnt e x).ovhs = s.ovhs := rfl
@[simp] theorem State.setEnt_groups (s : State) (e : Nat) (x : ChartEnt) : (s.setEnt e x).groups = s.groups := rfl
@[simp] theorem State.setEnt_chutes (s : State) (e : Nat) (x : ChartEnt) : (s.setEnt e x).chutes = s.chutes := rfl
@[simp] theorem State.setEnt_caps (s : State) (e : Nat) (x : ChartEnt) : (s.setEnt e x).caps = s.caps := rfl
@[simp] theorem State.setEnt_crateScrub (s : State) (e : Nat) (x : ChartEnt) : (s.setEnt e x).crateScrub = s.crateScrub := rfl
@[simp] theorem State.setEnt_pm (s : State) (e : Nat) (x : ChartEnt) : (s.setEnt e x).pm = s.pm := rfl
@[simp] theorem State.setEnt_sec (s : State) (e : Nat) (x : ChartEnt) : (s.setEnt e x).sec = s.sec := rfl
@[simp] theorem State.setEnt_pmRolled (s : State) (e : Nat) (x : ChartEnt) : (s.setEnt e x).pmRolled = s.pmRolled := rfl
@[simp] theorem State.setEnt_pats (s : State) (e : Nat) (x : ChartEnt) : (s.setEnt e x).pats = s.pats := rfl
@[simp] theorem State.setEnt_lines (s : State) (e : Nat) (x : ChartEnt) : (s.setEnt e x).lines = s.lines := rfl
@[simp] theorem State.setEnt_power (s : State) (e : Nat) (x : ChartEnt) : (s.setEnt e x).power = s.power := rfl
@[simp] theorem State.setEnt_bays (s : State) (e : Nat) (x : ChartEnt) : (s.setEnt e x).bays = s.bays := rfl
@[simp] theorem State.setEnt_feed (s : State) (e : Nat) (x : ChartEnt) : (s.setEnt e x).feed = s.feed := rfl
@[simp] theorem State.setEnt_keep (s : State) (e : Nat) (x : ChartEnt) : (s.setEnt e x).keep = s.keep := rfl
@[simp] theorem State.setEnt_boot (s : State) (e : Nat) (x : ChartEnt) : (s.setEnt e x).boot = s.boot := rfl
@[simp] theorem State.setEnt_health (s : State) (e : Nat) (x : ChartEnt) : (s.setEnt e x).health = s.health := rfl
@[simp] theorem State.setEnt_hiLatch (s : State) (e : Nat) (x : ChartEnt) : (s.setEnt e x).hiLatch = s.hiLatch := rfl

/-! ### `State.setGrp` -/

@[simp] theorem State.setGrp_pending (s : State) (g : Nat) (x : Group) : (s.setGrp g x).pending = s.pending := rfl
@[simp] theorem State.setGrp_regs (s : State) (g : Nat) (x : Group) : (s.setGrp g x).regs = s.regs := rfl
@[simp] theorem State.setGrp_clock (s : State) (g : Nat) (x : Group) : (s.setGrp g x).clock = s.clock := rfl
@[simp] theorem State.setGrp_freeCtr (s : State) (g : Nat) (x : Group) : (s.setGrp g x).freeCtr = s.freeCtr := rfl
@[simp] theorem State.setGrp_out (s : State) (g : Nat) (x : Group) : (s.setGrp g x).out = s.out := rfl
@[simp] theorem State.setGrp_tm (s : State) (g : Nat) (x : Group) : (s.setGrp g x).tm = s.tm := rfl
@[simp] theorem State.setGrp_cnt (s : State) (g : Nat) (x : Group) : (s.setGrp g x).cnt = s.cnt := rfl
@[simp] theorem State.setGrp_coreAcc (s : State) (g : Nat) (x : Group) : (s.setGrp g x).coreAcc = s.coreAcc := rfl
@[simp] theorem State.setGrp_host (s : State) (g : Nat) (x : Group) : (s.setGrp g x).host = s.host := rfl
@[simp] theorem State.setGrp_sessions (s : State) (g : Nat) (x : Group) : (s.setGrp g x).sessions = s.sessions := rfl
@[simp] theorem State.setGrp_ops (s : State) (g : Nat) (x : Group) : (s.setGrp g x).ops = s.ops := rfl
@[simp] theorem State.setGrp_own (s : State) (g : Nat) (x : Group) : (s.setGrp g x).own = s.own := rfl
@[simp] theorem State.setGrp_mem (s : State) (g : Nat) (x : Group) : (s.setGrp g x).mem = s.mem := rfl
@[simp] theorem State.setGrp_beacon (s : State) (g : Nat) (x : Group) : (s.setGrp g x).beacon = s.beacon := rfl
@[simp] theorem State.setGrp_helms (s : State) (g : Nat) (x : Group) : (s.setGrp g x).helms = s.helms := rfl
@[simp] theorem State.setGrp_ovhs (s : State) (g : Nat) (x : Group) : (s.setGrp g x).ovhs = s.ovhs := rfl
@[simp] theorem State.setGrp_chart (s : State) (g : Nat) (x : Group) : (s.setGrp g x).chart = s.chart := rfl
@[simp] theorem State.setGrp_chutes (s : State) (g : Nat) (x : Group) : (s.setGrp g x).chutes = s.chutes := rfl
@[simp] theorem State.setGrp_caps (s : State) (g : Nat) (x : Group) : (s.setGrp g x).caps = s.caps := rfl
@[simp] theorem State.setGrp_crateScrub (s : State) (g : Nat) (x : Group) : (s.setGrp g x).crateScrub = s.crateScrub := rfl
@[simp] theorem State.setGrp_pm (s : State) (g : Nat) (x : Group) : (s.setGrp g x).pm = s.pm := rfl
@[simp] theorem State.setGrp_sec (s : State) (g : Nat) (x : Group) : (s.setGrp g x).sec = s.sec := rfl
@[simp] theorem State.setGrp_pmRolled (s : State) (g : Nat) (x : Group) : (s.setGrp g x).pmRolled = s.pmRolled := rfl
@[simp] theorem State.setGrp_pats (s : State) (g : Nat) (x : Group) : (s.setGrp g x).pats = s.pats := rfl
@[simp] theorem State.setGrp_lines (s : State) (g : Nat) (x : Group) : (s.setGrp g x).lines = s.lines := rfl
@[simp] theorem State.setGrp_power (s : State) (g : Nat) (x : Group) : (s.setGrp g x).power = s.power := rfl
@[simp] theorem State.setGrp_bays (s : State) (g : Nat) (x : Group) : (s.setGrp g x).bays = s.bays := rfl
@[simp] theorem State.setGrp_feed (s : State) (g : Nat) (x : Group) : (s.setGrp g x).feed = s.feed := rfl
@[simp] theorem State.setGrp_keep (s : State) (g : Nat) (x : Group) : (s.setGrp g x).keep = s.keep := rfl
@[simp] theorem State.setGrp_boot (s : State) (g : Nat) (x : Group) : (s.setGrp g x).boot = s.boot := rfl
@[simp] theorem State.setGrp_health (s : State) (g : Nat) (x : Group) : (s.setGrp g x).health = s.health := rfl
@[simp] theorem State.setGrp_hiLatch (s : State) (g : Nat) (x : Group) : (s.setGrp g x).hiLatch = s.hiLatch := rfl

/-! ### `State.setChute` -/

@[simp] theorem State.setChute_pending (s : State) (c : Nat) (x : Chute) : (s.setChute c x).pending = s.pending := rfl
@[simp] theorem State.setChute_regs (s : State) (c : Nat) (x : Chute) : (s.setChute c x).regs = s.regs := rfl
@[simp] theorem State.setChute_clock (s : State) (c : Nat) (x : Chute) : (s.setChute c x).clock = s.clock := rfl
@[simp] theorem State.setChute_freeCtr (s : State) (c : Nat) (x : Chute) : (s.setChute c x).freeCtr = s.freeCtr := rfl
@[simp] theorem State.setChute_out (s : State) (c : Nat) (x : Chute) : (s.setChute c x).out = s.out := rfl
@[simp] theorem State.setChute_tm (s : State) (c : Nat) (x : Chute) : (s.setChute c x).tm = s.tm := rfl
@[simp] theorem State.setChute_cnt (s : State) (c : Nat) (x : Chute) : (s.setChute c x).cnt = s.cnt := rfl
@[simp] theorem State.setChute_coreAcc (s : State) (c : Nat) (x : Chute) : (s.setChute c x).coreAcc = s.coreAcc := rfl
@[simp] theorem State.setChute_host (s : State) (c : Nat) (x : Chute) : (s.setChute c x).host = s.host := rfl
@[simp] theorem State.setChute_sessions (s : State) (c : Nat) (x : Chute) : (s.setChute c x).sessions = s.sessions := rfl
@[simp] theorem State.setChute_ops (s : State) (c : Nat) (x : Chute) : (s.setChute c x).ops = s.ops := rfl
@[simp] theorem State.setChute_own (s : State) (c : Nat) (x : Chute) : (s.setChute c x).own = s.own := rfl
@[simp] theorem State.setChute_mem (s : State) (c : Nat) (x : Chute) : (s.setChute c x).mem = s.mem := rfl
@[simp] theorem State.setChute_beacon (s : State) (c : Nat) (x : Chute) : (s.setChute c x).beacon = s.beacon := rfl
@[simp] theorem State.setChute_helms (s : State) (c : Nat) (x : Chute) : (s.setChute c x).helms = s.helms := rfl
@[simp] theorem State.setChute_ovhs (s : State) (c : Nat) (x : Chute) : (s.setChute c x).ovhs = s.ovhs := rfl
@[simp] theorem State.setChute_chart (s : State) (c : Nat) (x : Chute) : (s.setChute c x).chart = s.chart := rfl
@[simp] theorem State.setChute_groups (s : State) (c : Nat) (x : Chute) : (s.setChute c x).groups = s.groups := rfl
@[simp] theorem State.setChute_caps (s : State) (c : Nat) (x : Chute) : (s.setChute c x).caps = s.caps := rfl
@[simp] theorem State.setChute_crateScrub (s : State) (c : Nat) (x : Chute) : (s.setChute c x).crateScrub = s.crateScrub := rfl
@[simp] theorem State.setChute_pm (s : State) (c : Nat) (x : Chute) : (s.setChute c x).pm = s.pm := rfl
@[simp] theorem State.setChute_sec (s : State) (c : Nat) (x : Chute) : (s.setChute c x).sec = s.sec := rfl
@[simp] theorem State.setChute_pmRolled (s : State) (c : Nat) (x : Chute) : (s.setChute c x).pmRolled = s.pmRolled := rfl
@[simp] theorem State.setChute_pats (s : State) (c : Nat) (x : Chute) : (s.setChute c x).pats = s.pats := rfl
@[simp] theorem State.setChute_lines (s : State) (c : Nat) (x : Chute) : (s.setChute c x).lines = s.lines := rfl
@[simp] theorem State.setChute_power (s : State) (c : Nat) (x : Chute) : (s.setChute c x).power = s.power := rfl
@[simp] theorem State.setChute_bays (s : State) (c : Nat) (x : Chute) : (s.setChute c x).bays = s.bays := rfl
@[simp] theorem State.setChute_feed (s : State) (c : Nat) (x : Chute) : (s.setChute c x).feed = s.feed := rfl
@[simp] theorem State.setChute_keep (s : State) (c : Nat) (x : Chute) : (s.setChute c x).keep = s.keep := rfl
@[simp] theorem State.setChute_boot (s : State) (c : Nat) (x : Chute) : (s.setChute c x).boot = s.boot := rfl
@[simp] theorem State.setChute_health (s : State) (c : Nat) (x : Chute) : (s.setChute c x).health = s.health := rfl
@[simp] theorem State.setChute_hiLatch (s : State) (c : Nat) (x : Chute) : (s.setChute c x).hiLatch = s.hiLatch := rfl

/-! ### `State.setBay` -/

@[simp] theorem State.setBay_pending (s : State) (b : Nat) (x : Bay) : (s.setBay b x).pending = s.pending := rfl
@[simp] theorem State.setBay_regs (s : State) (b : Nat) (x : Bay) : (s.setBay b x).regs = s.regs := rfl
@[simp] theorem State.setBay_clock (s : State) (b : Nat) (x : Bay) : (s.setBay b x).clock = s.clock := rfl
@[simp] theorem State.setBay_freeCtr (s : State) (b : Nat) (x : Bay) : (s.setBay b x).freeCtr = s.freeCtr := rfl
@[simp] theorem State.setBay_out (s : State) (b : Nat) (x : Bay) : (s.setBay b x).out = s.out := rfl
@[simp] theorem State.setBay_tm (s : State) (b : Nat) (x : Bay) : (s.setBay b x).tm = s.tm := rfl
@[simp] theorem State.setBay_cnt (s : State) (b : Nat) (x : Bay) : (s.setBay b x).cnt = s.cnt := rfl
@[simp] theorem State.setBay_coreAcc (s : State) (b : Nat) (x : Bay) : (s.setBay b x).coreAcc = s.coreAcc := rfl
@[simp] theorem State.setBay_host (s : State) (b : Nat) (x : Bay) : (s.setBay b x).host = s.host := rfl
@[simp] theorem State.setBay_sessions (s : State) (b : Nat) (x : Bay) : (s.setBay b x).sessions = s.sessions := rfl
@[simp] theorem State.setBay_ops (s : State) (b : Nat) (x : Bay) : (s.setBay b x).ops = s.ops := rfl
@[simp] theorem State.setBay_own (s : State) (b : Nat) (x : Bay) : (s.setBay b x).own = s.own := rfl
@[simp] theorem State.setBay_mem (s : State) (b : Nat) (x : Bay) : (s.setBay b x).mem = s.mem := rfl
@[simp] theorem State.setBay_beacon (s : State) (b : Nat) (x : Bay) : (s.setBay b x).beacon = s.beacon := rfl
@[simp] theorem State.setBay_helms (s : State) (b : Nat) (x : Bay) : (s.setBay b x).helms = s.helms := rfl
@[simp] theorem State.setBay_ovhs (s : State) (b : Nat) (x : Bay) : (s.setBay b x).ovhs = s.ovhs := rfl
@[simp] theorem State.setBay_chart (s : State) (b : Nat) (x : Bay) : (s.setBay b x).chart = s.chart := rfl
@[simp] theorem State.setBay_groups (s : State) (b : Nat) (x : Bay) : (s.setBay b x).groups = s.groups := rfl
@[simp] theorem State.setBay_chutes (s : State) (b : Nat) (x : Bay) : (s.setBay b x).chutes = s.chutes := rfl
@[simp] theorem State.setBay_caps (s : State) (b : Nat) (x : Bay) : (s.setBay b x).caps = s.caps := rfl
@[simp] theorem State.setBay_crateScrub (s : State) (b : Nat) (x : Bay) : (s.setBay b x).crateScrub = s.crateScrub := rfl
@[simp] theorem State.setBay_pm (s : State) (b : Nat) (x : Bay) : (s.setBay b x).pm = s.pm := rfl
@[simp] theorem State.setBay_sec (s : State) (b : Nat) (x : Bay) : (s.setBay b x).sec = s.sec := rfl
@[simp] theorem State.setBay_pmRolled (s : State) (b : Nat) (x : Bay) : (s.setBay b x).pmRolled = s.pmRolled := rfl
@[simp] theorem State.setBay_pats (s : State) (b : Nat) (x : Bay) : (s.setBay b x).pats = s.pats := rfl
@[simp] theorem State.setBay_lines (s : State) (b : Nat) (x : Bay) : (s.setBay b x).lines = s.lines := rfl
@[simp] theorem State.setBay_power (s : State) (b : Nat) (x : Bay) : (s.setBay b x).power = s.power := rfl
@[simp] theorem State.setBay_feed (s : State) (b : Nat) (x : Bay) : (s.setBay b x).feed = s.feed := rfl
@[simp] theorem State.setBay_keep (s : State) (b : Nat) (x : Bay) : (s.setBay b x).keep = s.keep := rfl
@[simp] theorem State.setBay_boot (s : State) (b : Nat) (x : Bay) : (s.setBay b x).boot = s.boot := rfl
@[simp] theorem State.setBay_health (s : State) (b : Nat) (x : Bay) : (s.setBay b x).health = s.health := rfl
@[simp] theorem State.setBay_hiLatch (s : State) (b : Nat) (x : Bay) : (s.setBay b x).hiLatch = s.hiLatch := rfl

/-! ### `State.setPat` -/

@[simp] theorem State.setPat_pending (s : State) (u : Nat) (x : PatUnit) : (s.setPat u x).pending = s.pending := rfl
@[simp] theorem State.setPat_regs (s : State) (u : Nat) (x : PatUnit) : (s.setPat u x).regs = s.regs := rfl
@[simp] theorem State.setPat_clock (s : State) (u : Nat) (x : PatUnit) : (s.setPat u x).clock = s.clock := rfl
@[simp] theorem State.setPat_freeCtr (s : State) (u : Nat) (x : PatUnit) : (s.setPat u x).freeCtr = s.freeCtr := rfl
@[simp] theorem State.setPat_out (s : State) (u : Nat) (x : PatUnit) : (s.setPat u x).out = s.out := rfl
@[simp] theorem State.setPat_tm (s : State) (u : Nat) (x : PatUnit) : (s.setPat u x).tm = s.tm := rfl
@[simp] theorem State.setPat_cnt (s : State) (u : Nat) (x : PatUnit) : (s.setPat u x).cnt = s.cnt := rfl
@[simp] theorem State.setPat_coreAcc (s : State) (u : Nat) (x : PatUnit) : (s.setPat u x).coreAcc = s.coreAcc := rfl
@[simp] theorem State.setPat_host (s : State) (u : Nat) (x : PatUnit) : (s.setPat u x).host = s.host := rfl
@[simp] theorem State.setPat_sessions (s : State) (u : Nat) (x : PatUnit) : (s.setPat u x).sessions = s.sessions := rfl
@[simp] theorem State.setPat_ops (s : State) (u : Nat) (x : PatUnit) : (s.setPat u x).ops = s.ops := rfl
@[simp] theorem State.setPat_own (s : State) (u : Nat) (x : PatUnit) : (s.setPat u x).own = s.own := rfl
@[simp] theorem State.setPat_mem (s : State) (u : Nat) (x : PatUnit) : (s.setPat u x).mem = s.mem := rfl
@[simp] theorem State.setPat_beacon (s : State) (u : Nat) (x : PatUnit) : (s.setPat u x).beacon = s.beacon := rfl
@[simp] theorem State.setPat_helms (s : State) (u : Nat) (x : PatUnit) : (s.setPat u x).helms = s.helms := rfl
@[simp] theorem State.setPat_ovhs (s : State) (u : Nat) (x : PatUnit) : (s.setPat u x).ovhs = s.ovhs := rfl
@[simp] theorem State.setPat_chart (s : State) (u : Nat) (x : PatUnit) : (s.setPat u x).chart = s.chart := rfl
@[simp] theorem State.setPat_groups (s : State) (u : Nat) (x : PatUnit) : (s.setPat u x).groups = s.groups := rfl
@[simp] theorem State.setPat_chutes (s : State) (u : Nat) (x : PatUnit) : (s.setPat u x).chutes = s.chutes := rfl
@[simp] theorem State.setPat_caps (s : State) (u : Nat) (x : PatUnit) : (s.setPat u x).caps = s.caps := rfl
@[simp] theorem State.setPat_crateScrub (s : State) (u : Nat) (x : PatUnit) : (s.setPat u x).crateScrub = s.crateScrub := rfl
@[simp] theorem State.setPat_pm (s : State) (u : Nat) (x : PatUnit) : (s.setPat u x).pm = s.pm := rfl
@[simp] theorem State.setPat_sec (s : State) (u : Nat) (x : PatUnit) : (s.setPat u x).sec = s.sec := rfl
@[simp] theorem State.setPat_pmRolled (s : State) (u : Nat) (x : PatUnit) : (s.setPat u x).pmRolled = s.pmRolled := rfl
@[simp] theorem State.setPat_lines (s : State) (u : Nat) (x : PatUnit) : (s.setPat u x).lines = s.lines := rfl
@[simp] theorem State.setPat_power (s : State) (u : Nat) (x : PatUnit) : (s.setPat u x).power = s.power := rfl
@[simp] theorem State.setPat_bays (s : State) (u : Nat) (x : PatUnit) : (s.setPat u x).bays = s.bays := rfl
@[simp] theorem State.setPat_feed (s : State) (u : Nat) (x : PatUnit) : (s.setPat u x).feed = s.feed := rfl
@[simp] theorem State.setPat_keep (s : State) (u : Nat) (x : PatUnit) : (s.setPat u x).keep = s.keep := rfl
@[simp] theorem State.setPat_boot (s : State) (u : Nat) (x : PatUnit) : (s.setPat u x).boot = s.boot := rfl
@[simp] theorem State.setPat_health (s : State) (u : Nat) (x : PatUnit) : (s.setPat u x).health = s.health := rfl
@[simp] theorem State.setPat_hiLatch (s : State) (u : Nat) (x : PatUnit) : (s.setPat u x).hiLatch = s.hiLatch := rfl

/-! ### `State.setPt` -/

@[simp] theorem State.setPt_pending (s : State) (p : Nat) (x : PmPt) : (s.setPt p x).pending = s.pending := rfl
@[simp] theorem State.setPt_regs (s : State) (p : Nat) (x : PmPt) : (s.setPt p x).regs = s.regs := rfl
@[simp] theorem State.setPt_clock (s : State) (p : Nat) (x : PmPt) : (s.setPt p x).clock = s.clock := rfl
@[simp] theorem State.setPt_freeCtr (s : State) (p : Nat) (x : PmPt) : (s.setPt p x).freeCtr = s.freeCtr := rfl
@[simp] theorem State.setPt_out (s : State) (p : Nat) (x : PmPt) : (s.setPt p x).out = s.out := rfl
@[simp] theorem State.setPt_tm (s : State) (p : Nat) (x : PmPt) : (s.setPt p x).tm = s.tm := rfl
@[simp] theorem State.setPt_cnt (s : State) (p : Nat) (x : PmPt) : (s.setPt p x).cnt = s.cnt := rfl
@[simp] theorem State.setPt_coreAcc (s : State) (p : Nat) (x : PmPt) : (s.setPt p x).coreAcc = s.coreAcc := rfl
@[simp] theorem State.setPt_host (s : State) (p : Nat) (x : PmPt) : (s.setPt p x).host = s.host := rfl
@[simp] theorem State.setPt_sessions (s : State) (p : Nat) (x : PmPt) : (s.setPt p x).sessions = s.sessions := rfl
@[simp] theorem State.setPt_ops (s : State) (p : Nat) (x : PmPt) : (s.setPt p x).ops = s.ops := rfl
@[simp] theorem State.setPt_own (s : State) (p : Nat) (x : PmPt) : (s.setPt p x).own = s.own := rfl
@[simp] theorem State.setPt_mem (s : State) (p : Nat) (x : PmPt) : (s.setPt p x).mem = s.mem := rfl
@[simp] theorem State.setPt_beacon (s : State) (p : Nat) (x : PmPt) : (s.setPt p x).beacon = s.beacon := rfl
@[simp] theorem State.setPt_helms (s : State) (p : Nat) (x : PmPt) : (s.setPt p x).helms = s.helms := rfl
@[simp] theorem State.setPt_ovhs (s : State) (p : Nat) (x : PmPt) : (s.setPt p x).ovhs = s.ovhs := rfl
@[simp] theorem State.setPt_chart (s : State) (p : Nat) (x : PmPt) : (s.setPt p x).chart = s.chart := rfl
@[simp] theorem State.setPt_groups (s : State) (p : Nat) (x : PmPt) : (s.setPt p x).groups = s.groups := rfl
@[simp] theorem State.setPt_chutes (s : State) (p : Nat) (x : PmPt) : (s.setPt p x).chutes = s.chutes := rfl
@[simp] theorem State.setPt_caps (s : State) (p : Nat) (x : PmPt) : (s.setPt p x).caps = s.caps := rfl
@[simp] theorem State.setPt_crateScrub (s : State) (p : Nat) (x : PmPt) : (s.setPt p x).crateScrub = s.crateScrub := rfl
@[simp] theorem State.setPt_sec (s : State) (p : Nat) (x : PmPt) : (s.setPt p x).sec = s.sec := rfl
@[simp] theorem State.setPt_pmRolled (s : State) (p : Nat) (x : PmPt) : (s.setPt p x).pmRolled = s.pmRolled := rfl
@[simp] theorem State.setPt_pats (s : State) (p : Nat) (x : PmPt) : (s.setPt p x).pats = s.pats := rfl
@[simp] theorem State.setPt_lines (s : State) (p : Nat) (x : PmPt) : (s.setPt p x).lines = s.lines := rfl
@[simp] theorem State.setPt_power (s : State) (p : Nat) (x : PmPt) : (s.setPt p x).power = s.power := rfl
@[simp] theorem State.setPt_bays (s : State) (p : Nat) (x : PmPt) : (s.setPt p x).bays = s.bays := rfl
@[simp] theorem State.setPt_feed (s : State) (p : Nat) (x : PmPt) : (s.setPt p x).feed = s.feed := rfl
@[simp] theorem State.setPt_keep (s : State) (p : Nat) (x : PmPt) : (s.setPt p x).keep = s.keep := rfl
@[simp] theorem State.setPt_boot (s : State) (p : Nat) (x : PmPt) : (s.setPt p x).boot = s.boot := rfl
@[simp] theorem State.setPt_health (s : State) (p : Nat) (x : PmPt) : (s.setPt p x).health = s.health := rfl
@[simp] theorem State.setPt_hiLatch (s : State) (p : Nat) (x : PmPt) : (s.setPt p x).hiLatch = s.hiLatch := rfl

/-! ### `State.coverWords` -/

@[simp] theorem State.coverWords_pending (s : State) (a n : Nat) : (s.coverWords a n).pending = s.pending := rfl
@[simp] theorem State.coverWords_regs (s : State) (a n : Nat) : (s.coverWords a n).regs = s.regs := rfl
@[simp] theorem State.coverWords_clock (s : State) (a n : Nat) : (s.coverWords a n).clock = s.clock := rfl
@[simp] theorem State.coverWords_freeCtr (s : State) (a n : Nat) : (s.coverWords a n).freeCtr = s.freeCtr := rfl
@[simp] theorem State.coverWords_out (s : State) (a n : Nat) : (s.coverWords a n).out = s.out := rfl
@[simp] theorem State.coverWords_tm (s : State) (a n : Nat) : (s.coverWords a n).tm = s.tm := rfl
@[simp] theorem State.coverWords_cnt (s : State) (a n : Nat) : (s.coverWords a n).cnt = s.cnt := rfl
@[simp] theorem State.coverWords_coreAcc (s : State) (a n : Nat) : (s.coverWords a n).coreAcc = s.coreAcc := rfl
@[simp] theorem State.coverWords_host (s : State) (a n : Nat) : (s.coverWords a n).host = s.host := rfl
@[simp] theorem State.coverWords_sessions (s : State) (a n : Nat) : (s.coverWords a n).sessions = s.sessions := rfl
@[simp] theorem State.coverWords_ops (s : State) (a n : Nat) : (s.coverWords a n).ops = s.ops := rfl
@[simp] theorem State.coverWords_own (s : State) (a n : Nat) : (s.coverWords a n).own = s.own := rfl
@[simp] theorem State.coverWords_beacon (s : State) (a n : Nat) : (s.coverWords a n).beacon = s.beacon := rfl
@[simp] theorem State.coverWords_helms (s : State) (a n : Nat) : (s.coverWords a n).helms = s.helms := rfl
@[simp] theorem State.coverWords_ovhs (s : State) (a n : Nat) : (s.coverWords a n).ovhs = s.ovhs := rfl
@[simp] theorem State.coverWords_chart (s : State) (a n : Nat) : (s.coverWords a n).chart = s.chart := rfl
@[simp] theorem State.coverWords_groups (s : State) (a n : Nat) : (s.coverWords a n).groups = s.groups := rfl
@[simp] theorem State.coverWords_chutes (s : State) (a n : Nat) : (s.coverWords a n).chutes = s.chutes := rfl
@[simp] theorem State.coverWords_caps (s : State) (a n : Nat) : (s.coverWords a n).caps = s.caps := rfl
@[simp] theorem State.coverWords_crateScrub (s : State) (a n : Nat) : (s.coverWords a n).crateScrub = s.crateScrub := rfl
@[simp] theorem State.coverWords_pm (s : State) (a n : Nat) : (s.coverWords a n).pm = s.pm := rfl
@[simp] theorem State.coverWords_sec (s : State) (a n : Nat) : (s.coverWords a n).sec = s.sec := rfl
@[simp] theorem State.coverWords_pmRolled (s : State) (a n : Nat) : (s.coverWords a n).pmRolled = s.pmRolled := rfl
@[simp] theorem State.coverWords_pats (s : State) (a n : Nat) : (s.coverWords a n).pats = s.pats := rfl
@[simp] theorem State.coverWords_lines (s : State) (a n : Nat) : (s.coverWords a n).lines = s.lines := rfl
@[simp] theorem State.coverWords_power (s : State) (a n : Nat) : (s.coverWords a n).power = s.power := rfl
@[simp] theorem State.coverWords_bays (s : State) (a n : Nat) : (s.coverWords a n).bays = s.bays := rfl
@[simp] theorem State.coverWords_feed (s : State) (a n : Nat) : (s.coverWords a n).feed = s.feed := rfl
@[simp] theorem State.coverWords_keep (s : State) (a n : Nat) : (s.coverWords a n).keep = s.keep := rfl
@[simp] theorem State.coverWords_boot (s : State) (a n : Nat) : (s.coverWords a n).boot = s.boot := rfl
@[simp] theorem State.coverWords_health (s : State) (a n : Nat) : (s.coverWords a n).health = s.health := rfl
@[simp] theorem State.coverWords_hiLatch (s : State) (a n : Nat) : (s.coverWords a n).hiLatch = s.hiLatch := rfl

/-! ### `State.scrubPage` -/

@[simp] theorem State.scrubPage_pending (s : State) (p : Nat) : (s.scrubPage p).pending = s.pending := rfl
@[simp] theorem State.scrubPage_regs (s : State) (p : Nat) : (s.scrubPage p).regs = s.regs := rfl
@[simp] theorem State.scrubPage_clock (s : State) (p : Nat) : (s.scrubPage p).clock = s.clock := rfl
@[simp] theorem State.scrubPage_freeCtr (s : State) (p : Nat) : (s.scrubPage p).freeCtr = s.freeCtr := rfl
@[simp] theorem State.scrubPage_out (s : State) (p : Nat) : (s.scrubPage p).out = s.out := rfl
@[simp] theorem State.scrubPage_tm (s : State) (p : Nat) : (s.scrubPage p).tm = s.tm := rfl
@[simp] theorem State.scrubPage_cnt (s : State) (p : Nat) : (s.scrubPage p).cnt = s.cnt := rfl
@[simp] theorem State.scrubPage_coreAcc (s : State) (p : Nat) : (s.scrubPage p).coreAcc = s.coreAcc := rfl
@[simp] theorem State.scrubPage_host (s : State) (p : Nat) : (s.scrubPage p).host = s.host := rfl
@[simp] theorem State.scrubPage_sessions (s : State) (p : Nat) : (s.scrubPage p).sessions = s.sessions := rfl
@[simp] theorem State.scrubPage_ops (s : State) (p : Nat) : (s.scrubPage p).ops = s.ops := rfl
@[simp] theorem State.scrubPage_own (s : State) (p : Nat) : (s.scrubPage p).own = s.own := rfl
@[simp] theorem State.scrubPage_beacon (s : State) (p : Nat) : (s.scrubPage p).beacon = s.beacon := rfl
@[simp] theorem State.scrubPage_helms (s : State) (p : Nat) : (s.scrubPage p).helms = s.helms := rfl
@[simp] theorem State.scrubPage_ovhs (s : State) (p : Nat) : (s.scrubPage p).ovhs = s.ovhs := rfl
@[simp] theorem State.scrubPage_chart (s : State) (p : Nat) : (s.scrubPage p).chart = s.chart := rfl
@[simp] theorem State.scrubPage_groups (s : State) (p : Nat) : (s.scrubPage p).groups = s.groups := rfl
@[simp] theorem State.scrubPage_chutes (s : State) (p : Nat) : (s.scrubPage p).chutes = s.chutes := rfl
@[simp] theorem State.scrubPage_caps (s : State) (p : Nat) : (s.scrubPage p).caps = s.caps := rfl
@[simp] theorem State.scrubPage_crateScrub (s : State) (p : Nat) : (s.scrubPage p).crateScrub = s.crateScrub := rfl
@[simp] theorem State.scrubPage_pm (s : State) (p : Nat) : (s.scrubPage p).pm = s.pm := rfl
@[simp] theorem State.scrubPage_sec (s : State) (p : Nat) : (s.scrubPage p).sec = s.sec := rfl
@[simp] theorem State.scrubPage_pmRolled (s : State) (p : Nat) : (s.scrubPage p).pmRolled = s.pmRolled := rfl
@[simp] theorem State.scrubPage_pats (s : State) (p : Nat) : (s.scrubPage p).pats = s.pats := rfl
@[simp] theorem State.scrubPage_lines (s : State) (p : Nat) : (s.scrubPage p).lines = s.lines := rfl
@[simp] theorem State.scrubPage_power (s : State) (p : Nat) : (s.scrubPage p).power = s.power := rfl
@[simp] theorem State.scrubPage_bays (s : State) (p : Nat) : (s.scrubPage p).bays = s.bays := rfl
@[simp] theorem State.scrubPage_feed (s : State) (p : Nat) : (s.scrubPage p).feed = s.feed := rfl
@[simp] theorem State.scrubPage_keep (s : State) (p : Nat) : (s.scrubPage p).keep = s.keep := rfl
@[simp] theorem State.scrubPage_boot (s : State) (p : Nat) : (s.scrubPage p).boot = s.boot := rfl
@[simp] theorem State.scrubPage_health (s : State) (p : Nat) : (s.scrubPage p).health = s.health := rfl
@[simp] theorem State.scrubPage_hiLatch (s : State) (p : Nat) : (s.scrubPage p).hiLatch = s.hiLatch := rfl

/-! ### Reads after writes -/

theorem State.sess_setSess_same {s : State} (h : smSorted s.sessions = true) (n : Nat) (x : Sess) : (s.setSess n x).sess n = x :=
  smGet_smSet_same _ h n x

theorem State.sess_setSess_other {s : State} (h : smSorted s.sessions = true) {n k : Nat} (x : Sess) (hk : k ≠ n) :
    (s.setSess n x).sess k = s.sess k :=
  smGet_smSet_other _ h x hk

theorem State.setSess_sorted {s : State} (h : smSorted s.sessions = true) (n : Nat) (x : Sess) : smSorted (s.setSess n x).sessions = true :=
  smSorted_smSet _ h n x

theorem State.helm_setHelm_same {s : State} (h : smSorted s.helms = true) (n : Nat) (x : Helm) : (s.setHelm n x).helm n = x :=
  smGet_smSet_same _ h n x

theorem State.helm_setHelm_other {s : State} (h : smSorted s.helms = true) {n k : Nat} (x : Helm) (hk : k ≠ n) :
    (s.setHelm n x).helm k = s.helm k :=
  smGet_smSet_other _ h x hk

theorem State.setHelm_sorted {s : State} (h : smSorted s.helms = true) (n : Nat) (x : Helm) : smSorted (s.setHelm n x).helms = true :=
  smSorted_smSet _ h n x

theorem State.line_setLine_same {s : State} (h : smSorted s.lines = true) (n : Nat) (x : Line) : (s.setLine n x).line n = x :=
  smGet_smSet_same _ h n x

theorem State.line_setLine_other {s : State} (h : smSorted s.lines = true) {n k : Nat} (x : Line) (hk : k ≠ n) :
    (s.setLine n x).line k = s.line k :=
  smGet_smSet_other _ h x hk

theorem State.setLine_sorted {s : State} (h : smSorted s.lines = true) (n : Nat) (x : Line) : smSorted (s.setLine n x).lines = true :=
  smSorted_smSet _ h n x

theorem State.ovh_setOvh_same {s : State} (h : smSorted s.ovhs = true) (n : Nat) (x : Ovh) : (s.setOvh n x).ovh n = x :=
  smGet_smSet_same _ h n x

theorem State.ovh_setOvh_other {s : State} (h : smSorted s.ovhs = true) {n k : Nat} (x : Ovh) (hk : k ≠ n) :
    (s.setOvh n x).ovh k = s.ovh k :=
  smGet_smSet_other _ h x hk

theorem State.setOvh_sorted {s : State} (h : smSorted s.ovhs = true) (n : Nat) (x : Ovh) : smSorted (s.setOvh n x).ovhs = true :=
  smSorted_smSet _ h n x

theorem State.ent_setEnt_same {s : State} (h : smSorted s.chart = true) (n : Nat) (x : ChartEnt) : (s.setEnt n x).ent n = x :=
  smGet_smSet_same _ h n x

theorem State.ent_setEnt_other {s : State} (h : smSorted s.chart = true) {n k : Nat} (x : ChartEnt) (hk : k ≠ n) :
    (s.setEnt n x).ent k = s.ent k :=
  smGet_smSet_other _ h x hk

theorem State.setEnt_sorted {s : State} (h : smSorted s.chart = true) (n : Nat) (x : ChartEnt) : smSorted (s.setEnt n x).chart = true :=
  smSorted_smSet _ h n x

theorem State.grp_setGrp_same {s : State} (h : smSorted s.groups = true) (n : Nat) (x : Group) : (s.setGrp n x).grp n = x :=
  smGet_smSet_same _ h n x

theorem State.grp_setGrp_other {s : State} (h : smSorted s.groups = true) {n k : Nat} (x : Group) (hk : k ≠ n) :
    (s.setGrp n x).grp k = s.grp k :=
  smGet_smSet_other _ h x hk

theorem State.setGrp_sorted {s : State} (h : smSorted s.groups = true) (n : Nat) (x : Group) : smSorted (s.setGrp n x).groups = true :=
  smSorted_smSet _ h n x

theorem State.chute_setChute_same {s : State} (h : smSorted s.chutes = true) (n : Nat) (x : Chute) : (s.setChute n x).chute n = x :=
  smGet_smSet_same _ h n x

theorem State.chute_setChute_other {s : State} (h : smSorted s.chutes = true) {n k : Nat} (x : Chute) (hk : k ≠ n) :
    (s.setChute n x).chute k = s.chute k :=
  smGet_smSet_other _ h x hk

theorem State.setChute_sorted {s : State} (h : smSorted s.chutes = true) (n : Nat) (x : Chute) : smSorted (s.setChute n x).chutes = true :=
  smSorted_smSet _ h n x

theorem State.bay_setBay_same {s : State} (h : smSorted s.bays = true) (n : Nat) (x : Bay) : (s.setBay n x).bay n = x :=
  smGet_smSet_same _ h n x

theorem State.bay_setBay_other {s : State} (h : smSorted s.bays = true) {n k : Nat} (x : Bay) (hk : k ≠ n) :
    (s.setBay n x).bay k = s.bay k :=
  smGet_smSet_other _ h x hk

theorem State.setBay_sorted {s : State} (h : smSorted s.bays = true) (n : Nat) (x : Bay) : smSorted (s.setBay n x).bays = true :=
  smSorted_smSet _ h n x

theorem State.pat_setPat_same {s : State} (h : smSorted s.pats = true) (n : Nat) (x : PatUnit) : (s.setPat n x).pat n = x :=
  smGet_smSet_same _ h n x

theorem State.pat_setPat_other {s : State} (h : smSorted s.pats = true) {n k : Nat} (x : PatUnit) (hk : k ≠ n) :
    (s.setPat n x).pat k = s.pat k :=
  smGet_smSet_other _ h x hk

theorem State.setPat_sorted {s : State} (h : smSorted s.pats = true) (n : Nat) (x : PatUnit) : smSorted (s.setPat n x).pats = true :=
  smSorted_smSet _ h n x

theorem State.pt_setPt_same {s : State} (h : smSorted s.pm = true) (n : Nat) (x : PmPt) : (s.setPt n x).pt n = x :=
  smGet_smSet_same _ h n x

theorem State.pt_setPt_other {s : State} (h : smSorted s.pm = true) {n k : Nat} (x : PmPt) (hk : k ≠ n) :
    (s.setPt n x).pt k = s.pt k :=
  smGet_smSet_other _ h x hk

theorem State.setPt_sorted {s : State} (h : smSorted s.pm = true) (n : Nat) (x : PmPt) : smSorted (s.setPt n x).pm = true :=
  smSorted_smSet _ h n x

theorem State.fn_setFn_same {s : State} (h : smSorted s.host.fns = true) (n : Nat) (x : Fn) : (s.setFn n x).fn n = x :=
  smGet_smSet_same _ h n x

theorem State.fn_setFn_other {s : State} (h : smSorted s.host.fns = true) {n k : Nat} (x : Fn) (hk : k ≠ n) :
    (s.setFn n x).fn k = s.fn k :=
  smGet_smSet_other _ h x hk

theorem State.setFn_sorted {s : State} (h : smSorted s.host.fns = true) (n : Nat) (x : Fn) : smSorted (s.setFn n x).host.fns = true :=
  smSorted_smSet _ h n x

theorem State.source_setSource_same {s : State} (h : smSorted s.beacon.sources = true) (n : Nat) (x : Source) : (s.setSource n x).source n = x :=
  smGet_smSet_same _ h n x

theorem State.source_setSource_other {s : State} (h : smSorted s.beacon.sources = true) {n k : Nat} (x : Source) (hk : k ≠ n) :
    (s.setSource n x).source k = s.source k :=
  smGet_smSet_other _ h x hk

theorem State.setSource_sorted {s : State} (h : smSorted s.beacon.sources = true) (n : Nat) (x : Source) : smSorted (s.setSource n x).beacon.sources = true :=
  smSorted_smSet _ h n x

/-- A field reads back what was written, cut to its width. -/
theorem State.rd_wr_same {s : State} (h : smSorted s.regs = true) (f : Fld) (v i j : Nat) :
    (s.wr f v i j).rd f i j = v % 2 ^ f.width :=
  smGet_smSet_same _ h _ _

/-- A field at any other key reads as before. -/
theorem State.rd_wr_other {s : State} (h : smSorted s.regs = true) {f g : Fld} (v i j k l : Nat)
    (hk : g.key k l ≠ f.key i j) : (s.wr f v i j).rd g k l = s.rd g k l :=
  smGet_smSet_other _ h _ hk

theorem State.wr_sorted {s : State} (h : smSorted s.regs = true) (f : Fld) (v i j : Nat) :
    smSorted (s.wr f v i j).regs = true :=
  smSorted_smSet _ h _ _

theorem State.count_sorted {s : State} (h : smSorted s.cnt = true) (i n : Nat) : smSorted (s.count i n).cnt = true :=
  smSorted_smSet _ h _ _

/-! ### Helm registers -/

@[simp] theorem Helm.setReg_zero (m : Helm) (v : Word) : m.setReg 0 v = m := rfl

@[simp] theorem Helm.reg_zero (m : Helm) : m.reg 0 = 0 := rfl

/-- A register other than g0 reads back what was written (R171). -/
theorem Helm.reg_setReg_same {m : Helm} (h : smSorted m.g = true) {r : Nat} (hr : r ≠ 0) (v : Word) :
    (m.setReg r v).reg r = v := by
  simp only [Helm.setReg, Helm.reg, hr, if_false]
  exact smGet_smSet_same 0 h r v

theorem Helm.reg_setReg_other {m : Helm} (h : smSorted m.g = true) {r k : Nat} (v : Word) (hk : k ≠ r) :
    (m.setReg r v).reg k = m.reg k := by
  by_cases hr : r = 0
  · simp [Helm.setReg, hr]
  · by_cases hz : k = 0
    · simp [Helm.reg, hz]
    · simp only [Helm.setReg, Helm.reg, hr, hz, if_false]
      exact smGet_smSet_other 0 h v hk

end Sys2Proof.Machine
end

