-- ==== Sys2Proof/Tests/Slice0.lean ====
section
/-! SUPPORT. The tests: ill-formed commands that well-formedness refuses, values that the spec works out, and for every
statement the states that meet its hypotheses (`witness_` and its name). -/

namespace Sys2Proof.Tests

set_option maxRecDepth 100000
set_option Elab.async false

open Sys2Proof Sys2Proof.Machine Sys2Proof.Machine.Reg

/-! ### States for the tests -/

/-- Field values put into a state: field, value, block, copy. -/
def put (s : State) (l : List (Fld × Nat × Nat × Nat)) : State := l.foldl (fun s e => s.wr e.1 e.2.1 e.2.2.1 e.2.2.2) s

/-- A machine that works: booted, Tether and link up. -/
def up : State :=
  let s := put State.reset [(GL_BOOT_READY, 1, 0, 0), (KP_PWR_STAT_EDIE, 0, 0, 0), (KP_TETHER_UP, 1, 0, 0),
    (GL_LINK_STAT_LINK, 1, 0, 0), (GL_LINK_STAT_SPEED, 3, 0, 0), (GL_LINK_STAT_WIDTH, 2, 0, 0)]
  { s with boot := { s.boot with phase := 0 }, clock := 1000000000, tm := { s.tm with device := 1000000000 } }

/-- The same with S3 open on VF3, its rings and its event queue on. -/
def up3 : State :=
  let s := put up [(SES_CTL_STATE, 2, 3, 0), (SQ_CFG_EN, 1, 3, 0), (SQ_CFG_EN, 1, 3, 1), (CQ_CFG_EN, 1, 3, 0),
    (EQ_CFG_EN, 1, 3, 0), (CQ_BASE_ADDR, 0x44, 3, 0), (SQ_BASE_ADDR, 0x40, 3, 0), (EQ_BASE_ADDR, 0x48, 3, 0)]
  let s := { s with host := { s.host with vfEnable := true, numVFs := 7 } }
  (s.setFn 3 { Fn.init with bme := true }).setFn 0 { Fn.init with bme := true }

/-- A running operation with parameters `p`. -/
def op (sess tag opcode obj : Nat) (p : List Nat) : Op :=
  { sess := sess, tag := tag, opcode := opcode, obj := obj, flags := 0, haddr := 0x1000,
    p := p ++ List.replicate (12 - p.length) 0, ring := 0, st := .running, prev := .running, started := true, est := 0,
    slots := 1, refused := false, admitTime := 0, admitDev := 0, seq := 5, fin := none, data := [], want := 0, outp := [],
    dropped := 0, stage := 0, due := none, rem := 0, aux := [] }

def ops (s : State) (l : List Op) : State := { s with ops := l }
def boot (s : State) (f : BootSt → BootSt) : State := { s with boot := f s.boot }
def keep (s : State) (f : KeeperSt → KeeperSt) : State := { s with keep := f s.keep }
def feed (s : State) (f : FeedSt → FeedSt) : State := { s with feed := f s.feed }
def own (s : State) (f : OwnSt → OwnSt) : State := { s with own := f s.own }
def host (s : State) (f : HostSt → HostSt) : State := { s with host := f s.host }
def tm (s : State) (f : TimeSt → TimeSt) : State := { s with tm := f s.tm }
def health (s : State) (f : HealthSt → HealthSt) : State := { s with health := f s.health }
def sess (s : State) (n : Nat) (f : Sess → Sess) : State := s.setSess n (f (s.sess n))
def line (s : State) (i : Nat) (f : Line → Line) : State := s.setLine i (f (s.line i))
def ovh (s : State) (i : Nat) (f : Ovh → Ovh) : State := s.setOvh i (f (s.ovh i))
def ent (s : State) (e : Nat) (f : ChartEnt → ChartEnt) : State := s.setEnt e (f (s.ent e))
def grp (s : State) (g : Nat) (f : Group → Group) : State := s.setGrp g (f (s.grp g))
def bay (s : State) (b : Nat) (f : Bay → Bay) : State := s.setBay b (f (s.bay b))
def chute (s : State) (c : Nat) (f : Chute → Chute) : State := s.setChute c (f (s.chute c))
def pt (s : State) (p : Nat) (f : PmPt → PmPt) : State := s.setPt p (f (s.pt p))
def pat (s : State) (u : Nat) (f : PatUnit → PatUnit) : State := s.setPat u (f (s.pat u))
def src (s : State) (k : Nat) (f : Source → Source) : State := s.setSource k (f (s.source k))
def helm (s : State) (h : Nat) (f : Helm → Helm) : State := s.setHelm h (f (s.helm h))

/-- Values to start from. -/
def op0 : Op := op 0 0 0 0 []
/-- The operation `tag` of session `n`. -/
def opOf (s : State) (n tag : Nat) : Op := (s.op? n tag).getD op0
/-- It runs with this opcode. -/
def opIn (s : State) (n tag opcode : Nat) : Bool :=
  let o := opOf s n tag
  decide (s.op? n tag = some o ∧ o.opcode = opcode ∧ o.fin = none ∧ o.st = .running ∧ o.started = true ∧ o.want = 0)
/-- What `opIn` says is the statements' hypothesis. -/
theorem opIn_runs {s : State} {n tag opcode : Nat} (h : opIn s n tag opcode = true) : s.opRuns n tag opcode (opOf s n tag) := by
  simp only [opIn, decide_eq_true_eq] at h
  exact h
def end0 : OpEnd := { status := 0, result := 0, time := 0 }
def read0 : HostRead := { tag := 0, func := 0, purpose := .fetch 0 0, len := 0, issued := 0, abandoned := false, discard := false }
def scrub0 : Scrub := { sess := 0, kind := 0, ends := [], objs := [], pages := [], tag := none, result := 0 }
def range0 : ChartRange := { id := 0, first := 0, count := 0, sess := 0 }
def far0 : FarOp := { kind := 0, dpa := 0, d := 0, val := 0, most := 0 }
def run0 : Run := { entry := 0, kind := 0, port := 0, cycles := 0, limit := 0 }
def timer0 : Timer := { periodic := false, due := 0, period := 0 }
def port0 : Port := { src := 0, sel := 0, ro := false, ready := false, bank := [], rateF := 0, rateM := 0, lastF := none, lastM := none, thin := false, cut := false }
/-- The port that the present word of Helm `h` names. -/
def portOf (s : State) (h : Nat) : Port := ((s.helm h).port? (wPt (s.word_ h))).getD port0
def entry0 : CEntry := { data := 0, sop := false, eop := false, gap := false }
def crate0 : Crate := { shared := false, recs := [], tOpen := none, gapItems := 0 }
def cap0 : Cap := { sess := 0, tag := 0, chute := 0, enc := 0, bound := 0, loss := 0, store := 0, slots := 0, limit := 0, flush := 0, base := 0, req := 0, crate := none, seq := 0, heldCrates := [], delivered := 0, queue := [], part := [], began := 0, last := none, repAt := none, run := [], bins := [], total := 0, sum := 0, t0 := 0, t1 := 0, resumeGap := false, gaps := false, fin := none }
def acq0 : Acq := { sess := 3, tag := 7, p1 := 0, p2 := 0, furthest := 1, due := none, rem := none, power := 0, suspended := false, loss := none }
def dump0 : Dump := { cause := 0, data := 0, dtime := 0, at_ := 0, count := 0, second := none, lane := none, counters := [], device := [], sections := [] }
def event0 : Event := { kind := 0, port := 0, cause := 0, set := false, ovf := false, stamp := 0, payload := [] }
def held0 : HeldCrate := { seq := 0, shared := false, img := [] }
def bin0 : Bin := { serial := 0, start := 0, flags := 0, secs := 0, near := { eb := 0, bbe := 0, es := 0, ses := 0, uas := 0, sep := 0 }, far := { eb := 0, bbe := 0, es := 0, ses := 0, uas := 0, sep := 0 }, judged := false }
def rx0 : RxFrame := { images := [], parity := [], viol := [], ptr := 0, mf := false, h4 := false, pt := none, traces := [], ssm := [], obs := [] }
def diag0 : OpticsDiag := { temp := 0, supply := 0, lanes := [] }

/-- Slice `i` with format, LSTATE, stage and framer state. -/
def slice (s : State) (i fmt ls stg fs : Nat) : State :=
  put s [(LINE_STAT_FORMAT, fmt, i, 0), (LINE_STAT_LSTATE, ls, i, 0), (LINE_STAT_STAGE, stg, i, 0), (FR_STAT_STATE, fs, i, 0)]

/-- An image of the stock kind, with nothing in it but what the tests ask of it. -/
def image0 : Image :=
  { stock := 0xFFFFFFFF, codeWords := 64, handlers := [], ports := [], timing := 0, floor := 200, farBase := 0, farLen := 0,
    data := [] }

/-- Helm 5 runs a handler at the words `ws`, with the registers `g`. -/
def runs5 (ws : List Word) (g : List (Nat × Word)) (f : Helm → Helm) : State :=
  up.setHelm 5 (f { Helm.init with ps := .running, imem := ws.mapIdx fun i w => (i, w), g := g, image := some image0,
                                   run := some { entry := 0, kind := 0, port := 0, cycles := 10, limit := 1000 } })

/-- Words of the five formats (Table MAE-1's bit places). -/
def fmtA (maj d a b fn : Nat) : Word := BitVec.ofNat 32 (maj * 2 ^ 26 + d * 2 ^ 22 + a * 2 ^ 18 + b * 2 ^ 14 + fn)
def fmtB (maj d a fn imm : Nat) : Word := BitVec.ofNat 32 (maj * 2 ^ 26 + d * 2 ^ 22 + a * 2 ^ 18 + fn * 2 ^ 12 + imm)
def fmtC (maj d fn imm : Nat) : Word := BitVec.ofNat 32 (maj * 2 ^ 26 + d * 2 ^ 22 + fn * 2 ^ 16 + imm)
def fmtD (maj r kind off : Nat) : Word := BitVec.ofNat 32 (maj * 2 ^ 26 + r * 2 ^ 22 + kind * 2 ^ 20 + off % 2 ^ 20)
def fmtE (maj d a pt fn imm : Nat) : Word :=
  BitVec.ofNat 32 (maj * 2 ^ 26 + d * 2 ^ 22 + a * 2 ^ 18 + pt * 2 ^ 15 + fn * 2 ^ 12 + imm)

/-! ### Commands that the edge cannot bring: one for each check of `Instr.wf` -/

theorem test_wf_compassLoop : Instr.wf (.compassLoop (List.replicate 23 0)) = false ∧ Instr.wf (.compassLoop (List.replicate 24 0)) = true := by
  decide
theorem test_wf_adcScan : Instr.wf (.adcScan (List.replicate 15 0)) = false ∧ Instr.wf (.adcScan (List.replicate 16 0)) = true := by decide
theorem test_wf_fetch : Instr.wf (.submissionFetchDone 0 (some (List.replicate 63 0))) = false ∧
    Instr.wf (.submissionFetchDone 0 (some [])) = false ∧ Instr.wf (.submissionFetchDone 0 (some (List.replicate 64 0))) = true := by decide
theorem test_wf_linkUp : Instr.wf (.linkUp 0 true true) = false ∧ Instr.wf (.linkUp 1 true true) = true := by decide
theorem test_wf_bcVclaim : Instr.wf (.bcVclaim 2) = false ∧ Instr.wf (.bcVclaim 3) = true := by decide
theorem test_wf_keeperCode : Instr.wf (.kpUnknownCommand 0x10 0) = false ∧ Instr.wf (.kpUnknownCommand 0x13 0) = true := by decide
theorem test_wf_bar0 : Instr.wf (.rcRead 3 0x200000) = false ∧ Instr.wf (.wideReadLow 3 0x200000) = false ∧
    Instr.wf (.registerWrite 3 0x200000 0 false) = false ∧ Instr.wf (.rcRead 0 0x200000) = true := by decide
theorem test_wf_carrier : Instr.wf (.frameBoundary 24 rx0) = false ∧ Instr.wf (.transmitFrame 31 []) = false ∧
    Instr.wf (.frameBoundary 32 rx0) = true := by decide
theorem test_wf_bar2 : Instr.wf (.bar2Write 0xFFFFFF [1, 2]) = false ∧ Instr.wf (.bar2Write 0xFFFFFF [1]) = true := by decide
theorem test_wf_tag : Instr.wf (.nop 3 65536) = false ∧ Instr.wf (.nop 3 65535) = true := by decide

/-! ### The only stops -/

theorem test_compassLoop_stops : exec (.compassLoop []) up = .fault .illFormed := by rfl
theorem test_adcScan_stops : exec (.adcScan []) up = .fault .illFormed := by rfl

/-! ### Good form -/

/-- The premise of the two invariants: State.reset meets it, and so does a machine at work. -/
theorem witness_EveryStepKeepsGoodForm : State.reset.wf = true ∧ up3.wf = true ∧ State.reset.mem.wf = true := by decide +kernel
theorem witness_EveryStepKeepsMemoryCanonical : (up.setNum 0x100 8 0x1000000000000001).mem.wf = true := by decide +kernel
/-- The queue's premise. -/
theorem witness_AStepTakesTheCommandAtTheFront : State.reset.pending = [] := rfl
/-- No row of the table has bits. -/
theorem test_decode (nbits w : Nat) : decodeTableWord nbits w = none := rfl

/-! ### Values that the spec works out -/

/-- 05, reading three words. -/
theorem test_threeWords :
    (let x : Word := 0x048D0000; wMajor x = 1 ∧ wD x = 2 ∧ wA x = 3 ∧ wB x = 4 ∧ wFnA x = 0) ∧
    (let x : Word := 0x51580100; wMajor x = 0x14 ∧ wD x = 5 ∧ wA x = 6 ∧ wFnB x = 0 ∧ wImm12 x = 0x100) ∧
    (let x : Word := 0x400FFFFD; wMajor x = 0x10 ∧ wD x = 0 ∧ wKind x = 0 ∧ (BitVec.ofNat 20 (wOff20 x)).toInt = -3) := by decide

/-- 06, a SECOND handler: the words of its instructions. -/
theorem test_handlerWords :
    ([0x24400008, 0x24800100, 0x24C00000, 0x44400003, 0x51080000, 0x20880004, 0x04CD0000, 0xA0C00021, 0xFC000000].map
        fun x => helmOp (BitVec.ofNat 32 x)) =
      [some .movl, some .movl, some .movl, some .loop, some .ldw, some .addi, some .add, some .post, some .fin] := by decide

/-- 05, image length. -/
theorem test_imageLength : imageLength 300 1002 = 2432 ∧ imageLength 4096 8160 = 24772 := by decide

/-- 03, reading the identity: the CRCs and the answer. -/
theorem test_identity :
    crc8 [0x10] = 0x70 ∧ crc8 [0x21, 0x00, 0x0B, 0x60, 0x72] = 0x46 ∧
    (match exec (.kpReadId 0x70) up with
     | .next t => t.out == [.keeper [0xA5, 0x21, 0x00, 0x0B, 0x60, 0x72, 0x46]]
     | _ => false) = true := by decide +kernel

/-- 06, step helpers: the CRC of the byte 0x10. -/
theorem test_crcStep :
    (match exec (.crc 5 .none) (runs5 [fmtA 0x20 1 2 0 0x12] [(2, 0x10)] id) with
     | .next t => (t.helm 5).reg 1
     | _ => 0) = 0x70 := by decide +kernel

/-- 07, an OTU4 monitor: the load in units of 0.01 %. -/
theorem test_load : loadUnits 784173200 800 = 9803 ∧ loadUnits 527256800 800 = 6591 := by decide

/-- 09, a TDR length. -/
theorem test_tdrLength : tdrLength (tdrVf 0) 91000 = 900 ∧ tdrLength 690 91000 = 941 := by decide

/-- 01 and 04: the power estimates of the worked cases. -/
theorem test_estimates :
    estimate (op 3 7 0x10 0x1005 [0x41]) = 240 ∧ estimate (op 3 7 0x20 0x4007 []) = 180 ∧
    estimate (op 1 7 0x10 3 [0x21]) = 1300 ∧ estimate (op 3 7 0x38 0xFFFF []) = 150 ∧ estimate (op 3 7 0x22 0x700C []) = 0 := by decide

/-- 12, encoding an E1 BERT route: the fields of the four parts. -/
theorem test_routeWord :
    (let w := 0x10050130 + 0x0000700C * 2 ^ 32 + 0xFFFE0000 * 2 ^ 64 + 0x0000FFFF * 2 ^ 96
     wordMap w = 0x30 ∧ wordBidir w = true ∧ wordSrc w = 0x1005 ∧ wordDst w = 0x700C ∧ wordSrcPos w = 0 ∧ wordDstPos w = 0 ∧
       wordTs w = 0xFFFFFFFE ∧ wordLabel w = 0 ∧ wordOk w = true) := by decide

/-- 02, one translation, and the same with a page of a device region. -/
def walkState (e2 : Nat) : State :=
  let s := put up3 [(SES_MAP_BASE, 0x300, 3, 0), (SES_WALK_ADDR, 0x300, 3, 0), (SES_WALK_LIM_ADDR, 0x33F, 3, 0), (MX_CELLAR_ADDR_MIB, 4096, 0, 0)]
  (s.setNum 0x600020 8 0x604003).setNum 0x6051A0 8 e2
theorem test_walk :
    (walkState 0x10020_3003).walk 3 0x1234ABC false = .mapped (0x1234ABC / 4096) false 0x100203000 true ∧
    (walkState 0x8000001001).walk 3 0x1234ABC false = .fault 4 0 := by decide +kernel

/-- 08, the partner vanishes during loop-up: RESULT. -/
theorem test_acqResult :
    (line (put up3 [(LINE_STAT_RESTARTS, 1, 10, 0), (LP_LOOP_PENDING, 1, 10, 0)]) 10 fun x =>
      { x with acq := some { acq0 with furthest := 5, loss := some 184 } }).acqResult 10 1 = 0x00B81151 := by decide +kernel

/-- 15, a TIE trend: when the line leaves the samples, and the two records. -/
def tie : List Nat :=
  ([0, 400, 1000, 1500, 2100, 2400, 9000, 9300] : List Nat).mapIdx fun i v => i * 1000000 + v * 2 ^ 32
theorem test_trend :
    trendFits 1000 (tie.take 6) = true ∧ trendFits 1000 (tie.take 7) = false ∧
    (runRecord (tie.take 6)).length = 40 ∧ (runRecord (tie.drop 6)).length = 24 := by decide +kernel

/-- 18, a dock that starves the group: the PD power of class 6 after four events. -/
theorem test_poe : poeGrant 4 6 = 51000 := by decide

/-- 09: 1 mW is 0.00 dBm. -/
theorem test_dbm : dBm100 10000 = 0 := by decide +kernel

/-! ### Witnesses -/

/-- The hypotheses of Obligations.HelmAddsAndSubtracts, a state for each clause. -/
theorem witness_HelmAddsAndSubtracts :
    (∃ s : State, s = (helm up 5 fun x => { x with
      ps := PState.running,
      image := some image0,
      imem := [(0, 0x0448c000)],
      run := some { run0 with cycles := 10, limit := 1000 } }) ∧
      s.wf = true ∧ s.helmRuns 5 HOp.add 1 = true) ∧
    (∃ s : State, s = (helm up 5 fun x => { x with
      ps := PState.running,
      image := some image0,
      imem := [(0, 0x0448c001)],
      run := some { run0 with cycles := 10, limit := 1000 } }) ∧
      s.wf = true ∧ s.helmRuns 5 HOp.adc 1 = true) ∧
    (∃ s : State, s = (helm up 5 fun x => { x with
      ps := PState.running,
      image := some image0,
      imem := [(0, 0x0448c002)],
      run := some { run0 with cycles := 10, limit := 1000 } }) ∧
      s.wf = true ∧ s.helmRuns 5 HOp.sub 1 = true) ∧
    (∃ s : State, s = (helm up 5 fun x => { x with
      ps := PState.running,
      image := some image0,
      imem := [(0, 0x0448c003)],
      run := some { run0 with cycles := 10, limit := 1000 } }) ∧
      s.wf = true ∧ s.helmRuns 5 HOp.sbc 1 = true) ∧
    (∃ s : State, s = (helm up 5 fun x => { x with
      ps := PState.running,
      image := some image0,
      imem := [(0, 0x20480000)],
      run := some { run0 with cycles := 10, limit := 1000 } }) ∧
      s.wf = true ∧ s.helmRuns 5 HOp.addi 1 = true) ∧
    (∃ s : State, s = (helm up 5 fun x => { x with
      ps := PState.running,
      image := some image0,
      imem := [(0, 0x1c48c000)],
      run := some { run0 with cycles := 10, limit := 1000 } }) ∧
      s.wf = true ∧ s.helmRuns 5 HOp.adds 1 = true) ∧
    (∃ s : State, s = (helm up 5 fun x => { x with
      ps := PState.running,
      image := some image0,
      imem := [(0, 0x1c48c001)],
      run := some { run0 with cycles := 10, limit := 1000 } }) ∧
      s.wf = true ∧ s.helmRuns 5 HOp.subs 1 = true) ∧
    (∃ s : State, s = (helm up 5 fun x => { x with
      ps := PState.running,
      image := some image0,
      imem := [(0, 0x3008c000)],
      run := some { run0 with cycles := 10, limit := 1000 } }) ∧
      s.wf = true ∧ s.helmRuns 5 HOp.cmp 1 = true) ∧
    (∃ s : State, s = (helm up 5 fun x => { x with
      ps := PState.running,
      image := some image0,
      imem := [(0, 0x34080000)],
      run := some { run0 with cycles := 10, limit := 1000 } }) ∧
      s.wf = true ∧ s.helmRuns 5 HOp.cmpi 1 = true) :=
  ⟨⟨_, rfl, by decide +kernel⟩,
   ⟨_, rfl, by decide +kernel⟩,
   ⟨_, rfl, by decide +kernel⟩,
   ⟨_, rfl, by decide +kernel⟩,
   ⟨_, rfl, by decide +kernel⟩,
   ⟨_, rfl, by decide +kernel⟩,
   ⟨_, rfl, by decide +kernel⟩,
   ⟨_, rfl, by decide +kernel⟩,
   ⟨_, rfl, by decide +kernel⟩⟩

/-- The hypotheses of Obligations.HelmLogicMultipliesShiftsAndRotates, a state for each clause. -/
theorem witness_HelmLogicMultipliesShiftsAndRotates :
    (∃ s : State, s = (helm up 5 fun x => { x with
      ps := PState.running,
      image := some image0,
      imem := [(0, 0x0848c000)],
      run := some { run0 with cycles := 10, limit := 1000 } }) ∧
      s.wf = true ∧ s.helmRuns 5 HOp.and 1 = true) ∧
    (∃ s : State, s = (helm up 5 fun x => { x with
      ps := PState.running,
      image := some image0,
      imem := [(0, 0x0848c001)],
      run := some { run0 with cycles := 10, limit := 1000 } }) ∧
      s.wf = true ∧ s.helmRuns 5 HOp.or 1 = true) ∧
    (∃ s : State, s = (helm up 5 fun x => { x with
      ps := PState.running,
      image := some image0,
      imem := [(0, 0x0848c002)],
      run := some { run0 with cycles := 10, limit := 1000 } }) ∧
      s.wf = true ∧ s.helmRuns 5 HOp.xor 1 = true) ∧
    (∃ s : State, s = (helm up 5 fun x => { x with
      ps := PState.running,
      image := some image0,
      imem := [(0, 0x0848c003)],
      run := some { run0 with cycles := 10, limit := 1000 } }) ∧
      s.wf = true ∧ s.helmRuns 5 HOp.andn 1 = true) ∧
    (∃ s : State, s = (helm up 5 fun x => { x with
      ps := PState.running,
      image := some image0,
      imem := [(0, 0x20481000)],
      run := some { run0 with cycles := 10, limit := 1000 } }) ∧
      s.wf = true ∧ s.helmRuns 5 HOp.andi 1 = true) ∧
    (∃ s : State, s = (helm up 5 fun x => { x with
      ps := PState.running,
      image := some image0,
      imem := [(0, 0x20482000)],
      run := some { run0 with cycles := 10, limit := 1000 } }) ∧
      s.wf = true ∧ s.helmRuns 5 HOp.ori 1 = true) ∧
    (∃ s : State, s = (helm up 5 fun x => { x with
      ps := PState.running,
      image := some image0,
      imem := [(0, 0x20483000)],
      run := some { run0 with cycles := 10, limit := 1000 } }) ∧
      s.wf = true ∧ s.helmRuns 5 HOp.xori 1 = true) ∧
    (∃ s : State, s = (helm up 5 fun x => { x with
      ps := PState.running,
      image := some image0,
      imem := [(0, 0x3008c001)],
      run := some { run0 with cycles := 10, limit := 1000 } }) ∧
      s.wf = true ∧ s.helmRuns 5 HOp.tst 1 = true) ∧
    (∃ s : State, s = (helm up 5 fun x => { x with
      ps := PState.running,
      image := some image0,
      imem := [(0, 0x34081000)],
      run := some { run0 with cycles := 10, limit := 1000 } }) ∧
      s.wf = true ∧ s.helmRuns 5 HOp.tsti 1 = true) ∧
    (∃ s : State, s = (helm up 5 fun x => { x with
      ps := PState.running,
      image := some image0,
      imem := [(0, 0x1048c000)],
      run := some { run0 with cycles := 10, limit := 1000 } }) ∧
      s.wf = true ∧ s.helmRuns 5 HOp.mul 2 = true) ∧
    (∃ s : State, s = (helm up 5 fun x => { x with
      ps := PState.running,
      image := some image0,
      imem := [(0, 0x1048c001)],
      run := some { run0 with cycles := 10, limit := 1000 } }) ∧
      s.wf = true ∧ s.helmRuns 5 HOp.mulhu 2 = true) ∧
    (∃ s : State, s = (helm up 5 fun x => { x with
      ps := PState.running,
      image := some image0,
      imem := [(0, 0x14480000)],
      run := some { run0 with cycles := 10, limit := 1000 } }) ∧
      s.wf = true ∧ s.helmRuns 5 HOp.popc 1 = true) ∧
    (∃ s : State, s = (helm up 5 fun x => { x with
      ps := PState.running,
      image := some image0,
      imem := [(0, 0x14480001)],
      run := some { run0 with cycles := 10, limit := 1000 } }) ∧
      s.wf = true ∧ s.helmRuns 5 HOp.clz 1 = true) ∧
    (∃ s : State, s = (helm up 5 fun x => { x with
      ps := PState.running,
      image := some image0,
      imem := [(0, 0x14480002)],
      run := some { run0 with cycles := 10, limit := 1000 } }) ∧
      s.wf = true ∧ s.helmRuns 5 HOp.bswap 1 = true) ∧
    (∃ s : State, s = (helm up 5 fun x => { x with
      ps := PState.running,
      image := some image0,
      imem := [(0, 0x0c48c000)],
      run := some { run0 with cycles := 10, limit := 1000 } }) ∧
      s.wf = true ∧ s.helmRuns 5 HOp.shl 1 = true) ∧
    (∃ s : State, s = (helm up 5 fun x => { x with
      ps := PState.running,
      image := some image0,
      imem := [(0, 0x0c48c001)],
      run := some { run0 with cycles := 10, limit := 1000 } }) ∧
      s.wf = true ∧ s.helmRuns 5 HOp.shr 1 = true) ∧
    (∃ s : State, s = (helm up 5 fun x => { x with
      ps := PState.running,
      image := some image0,
      imem := [(0, 0x0c48c002)],
      run := some { run0 with cycles := 10, limit := 1000 } }) ∧
      s.wf = true ∧ s.helmRuns 5 HOp.sar 1 = true) ∧
    (∃ s : State, s = (helm up 5 fun x => { x with
      ps := PState.running,
      image := some image0,
      imem := [(0, 0x0c48c003)],
      run := some { run0 with cycles := 10, limit := 1000 } }) ∧
      s.wf = true ∧ s.helmRuns 5 HOp.ror 1 = true) ∧
    (∃ s : State, s = (helm up 5 fun x => { x with
      ps := PState.running,
      image := some image0,
      imem := [(0, 0x20484000)],
      run := some { run0 with cycles := 10, limit := 1000 } }) ∧
      s.wf = true ∧ s.helmRuns 5 HOp.shli 1 = true) ∧
    (∃ s : State, s = (helm up 5 fun x => { x with
      ps := PState.running,
      image := some image0,
      imem := [(0, 0x20485000)],
      run := some { run0 with cycles := 10, limit := 1000 } }) ∧
      s.wf = true ∧ s.helmRuns 5 HOp.shri 1 = true) ∧
    (∃ s : State, s = (helm up 5 fun x => { x with
      ps := PState.running,
      image := some image0,
      imem := [(0, 0x20486000)],
      run := some { run0 with cycles := 10, limit := 1000 } }) ∧
      s.wf = true ∧ s.helmRuns 5 HOp.sari 1 = true) ∧
    (∃ s : State, s = (helm up 5 fun x => { x with
      ps := PState.running,
      image := some image0,
      imem := [(0, 0x20487000)],
      run := some { run0 with cycles := 10, limit := 1000 } }) ∧
      s.wf = true ∧ s.helmRuns 5 HOp.rori 1 = true) :=
  ⟨⟨_, rfl, by decide +kernel⟩,
   ⟨_, rfl, by decide +kernel⟩,
   ⟨_, rfl, by decide +kernel⟩,
   ⟨_, rfl, by decide +kernel⟩,
   ⟨_, rfl, by decide +kernel⟩,
   ⟨_, rfl, by decide +kernel⟩,
   ⟨_, rfl, by decide +kernel⟩,
   ⟨_, rfl, by decide +kernel⟩,
   ⟨_, rfl, by decide +kernel⟩,
   ⟨_, rfl, by decide +kernel⟩,
   ⟨_, rfl, by decide +kernel⟩,
   ⟨_, rfl, by decide +kernel⟩,
   ⟨_, rfl, by decide +kernel⟩,
   ⟨_, rfl, by decide +kernel⟩,
   ⟨_, rfl, by decide +kernel⟩,
   ⟨_, rfl, by decide +kernel⟩,
   ⟨_, rfl, by decide +kernel⟩,
   ⟨_, rfl, by decide +kernel⟩,
   ⟨_, rfl, by decide +kernel⟩,
   ⟨_, rfl, by decide +kernel⟩,
   ⟨_, rfl, by decide +kernel⟩,
   ⟨_, rfl, by decide +kernel⟩⟩

/-- The hypotheses of Obligations.HelmMovesFieldsAndStepHelpers, a state for each clause. -/
theorem witness_HelmMovesFieldsAndStepHelpers :
    (∃ s : State, s = (helm up 5 fun x => { x with
      ps := PState.running,
      image := some image0,
      imem := [(0, 0x1848c000)],
      run := some { run0 with cycles := 10, limit := 1000 } }) ∧
      s.wf = true ∧ s.helmRuns 5 HOp.csel 1 = true) ∧
    (∃ s : State, s = (helm up 5 fun x => { x with
      ps := PState.running,
      image := some image0,
      imem := [(0, 0x24400000)],
      run := some { run0 with cycles := 10, limit := 1000 } }) ∧
      s.wf = true ∧ s.helmRuns 5 HOp.movl 1 = true) ∧
    (∃ s : State, s = (helm up 5 fun x => { x with
      ps := PState.running,
      image := some image0,
      imem := [(0, 0x24420000)],
      run := some { run0 with cycles := 10, limit := 1000 } }) ∧
      s.wf = true ∧ s.helmRuns 5 HOp.movs 1 = true) ∧
    (∃ s : State, s = (helm up 5 fun x => { x with
      ps := PState.running,
      image := some image0,
      imem := [(0, 0x24410000)],
      run := some { run0 with cycles := 10, limit := 1000 } }) ∧
      s.wf = true ∧ s.helmRuns 5 HOp.movh 1 = true) ∧
    (∃ s : State, s = (helm up 5 fun x => { x with
      ps := PState.running,
      image := some image0,
      imem := [(0, 0x28400000)],
      run := some { run0 with cycles := 10, limit := 1000 } }) ∧
      s.wf = true ∧ s.helmRuns 5 HOp.rds 1 = true) ∧
    (∃ s : State, s = (helm up 5 fun x => { x with
      ps := PState.running,
      image := some image0,
      imem := [(0, 0x2c480000)],
      run := some { run0 with cycles := 10, limit := 1000 } }) ∧
      s.wf = true ∧ s.helmRuns 5 HOp.extu 1 = true) ∧
    (∃ s : State, s = (helm up 5 fun x => { x with
      ps := PState.running,
      image := some image0,
      imem := [(0, 0x2c481000)],
      run := some { run0 with cycles := 10, limit := 1000 } }) ∧
      s.wf = true ∧ s.helmRuns 5 HOp.ins 1 = true) ∧
    (∃ s : State, s = (helm up 5 fun x => { x with
      ps := PState.running,
      image := some image0,
      imem := [(0, 0x90480001)],
      run := some { run0 with cycles := 10, limit := 1000 } }) ∧
      s.wf = true ∧ s.helmRuns 5 HOp.tbin 1 = true) ∧
    (∃ s : State, s = (helm up 5 fun x => { x with
      ps := PState.running,
      image := some image0,
      imem := [(0, 0x80480000)],
      run := some { run0 with cycles := 10, limit := 1000 } }) ∧
      s.wf = true ∧ s.helmRuns 5 HOp.crc (if wImm12 (s.word_ 5) / 16 % 4 = 2 then 2 else 1) = true) ∧
    (∃ s : State, s = (helm up 5 fun x => { x with
      ps := PState.running,
      image := some image0,
      imem := [(0, 0x84480000)],
      run := some { run0 with cycles := 10, limit := 1000 } }) ∧
      s.wf = true ∧ s.helmRuns 5 HOp.bip8 1 = true) ∧
    (∃ s : State, s = (helm up 5 fun x => { x with
      ps := PState.running,
      image := some image0,
      imem := [(0, 0x84480001)],
      run := some { run0 with cycles := 10, limit := 1000 } }) ∧
      s.wf = true ∧ s.helmRuns 5 HOp.bip2 1 = true) ∧
    (∃ s : State, s = (helm up 5 fun x => { x with
      ps := PState.running,
      image := some image0,
      imem := [(0, 0x8448c002)],
      run := some { run0 with cycles := 10, limit := 1000 } }) ∧
      s.wf = true ∧ s.helmRuns 5 HOp.berr 1 = true) :=
  ⟨⟨_, rfl, by decide +kernel⟩,
   ⟨_, rfl, by decide +kernel⟩,
   ⟨_, rfl, by decide +kernel⟩,
   ⟨_, rfl, by decide +kernel⟩,
   ⟨_, rfl, by decide +kernel⟩,
   ⟨_, rfl, by decide +kernel⟩,
   ⟨_, rfl, by decide +kernel⟩,
   ⟨_, rfl, by decide +kernel⟩,
   ⟨_, rfl, by decide +kernel⟩,
   ⟨_, rfl, by decide +kernel⟩,
   ⟨_, rfl, by decide +kernel⟩,
   ⟨_, rfl, by decide +kernel⟩⟩

def stateHelmBranchesAndTheirRange1 : State :=
  helm up 5 fun x => { x with
    ps := PState.running,
    image := some image0,
    imem := [(0, 0x00000000), (1, 0x00000000), (2, 0x40000001)],
    g := [(2, 0x00000005), (15, 0xfffff003)],
    pc := 2,
    run := some { run0 with cycles := 10, limit := 1000 } }

/-- The hypotheses of Obligations.HelmBranchesAndTheirRange, a state for each clause. -/
theorem witness_HelmBranchesAndTheirRange :
    (∃ s : State, s = stateHelmBranchesAndTheirRange1 ∧
      s.wf = true ∧ s.helmRuns 5 HOp.b (if (s.helm 5).cond (wD (s.word_ 5)) = true then 2 else 1) = true ∧
        (s.helm 5).cond (wD (s.word_ 5)) = true ∧ 0 ≤ ↑(s.helm 5).pc + (BitVec.ofNat 20 (wOff20 (s.word_ 5))).toInt ∧
        ↑(s.helm 5).pc + (BitVec.ofNat 20 (wOff20 (s.word_ 5))).toInt < ↑(s.helm 5).codeWords) ∧
    (∃ s : State, s = (helm stateHelmBranchesAndTheirRange1 5 fun x => { x with
      imem := [(0, 0x00000000), (1, 0x00000000), (2, 0x400ffffd)] }) ∧
      s.wf = true ∧ s.helmRuns 5 HOp.b (if (s.helm 5).cond (wD (s.word_ 5)) = true then 2 else 1) = true ∧
        (s.helm 5).cond (wD (s.word_ 5)) = true ∧ ¬(0 ≤ ↑(s.helm 5).pc + (BitVec.ofNat 20 (wOff20 (s.word_ 5))).toInt ∧
        ↑(s.helm 5).pc + (BitVec.ofNat 20 (wOff20 (s.word_ 5))).toInt < ↑(s.helm 5).codeWords)) ∧
    (∃ s : State, s = (helm stateHelmBranchesAndTheirRange1 5 fun x => { x with
      imem := [(0, 0x00000000), (1, 0x00000000), (2, 0x40400001)] }) ∧
      s.wf = true ∧ s.helmRuns 5 HOp.b (if (s.helm 5).cond (wD (s.word_ 5)) = true then 2 else 1) = true ∧
        ¬(s.helm 5).cond (wD (s.word_ 5)) = true) ∧
    (∃ s : State, s = (helm stateHelmBranchesAndTheirRange1 5 fun x => { x with
      imem := [(0, 0x00000000), (1, 0x00000000), (2, 0x40100001)] }) ∧
      s.wf = true ∧ s.helmRuns 5 HOp.bl (if (s.helm 5).cond (wD (s.word_ 5)) = true then 2 else 1) = true ∧
        (s.helm 5).cond (wD (s.word_ 5)) = true ∧ 0 ≤ ↑(s.helm 5).pc + (BitVec.ofNat 20 (wOff20 (s.word_ 5))).toInt ∧
        ↑(s.helm 5).pc + (BitVec.ofNat 20 (wOff20 (s.word_ 5))).toInt < ↑(s.helm 5).codeWords) ∧
    (∃ s : State, s = (helm stateHelmBranchesAndTheirRange1 5 fun x => { x with
      imem := [(0, 0x00000000), (1, 0x00000000), (2, 0x401ffffd)] }) ∧
      s.wf = true ∧ s.helmRuns 5 HOp.bl (if (s.helm 5).cond (wD (s.word_ 5)) = true then 2 else 1) = true ∧
        (s.helm 5).cond (wD (s.word_ 5)) = true ∧ ¬(0 ≤ ↑(s.helm 5).pc + (BitVec.ofNat 20 (wOff20 (s.word_ 5))).toInt ∧
        ↑(s.helm 5).pc + (BitVec.ofNat 20 (wOff20 (s.word_ 5))).toInt < ↑(s.helm 5).codeWords)) ∧
    (∃ s : State, s = (helm stateHelmBranchesAndTheirRange1 5 fun x => { x with
      imem := [(0, 0x00000000), (1, 0x00000000), (2, 0x40500001)] }) ∧
      s.wf = true ∧ s.helmRuns 5 HOp.bl (if (s.helm 5).cond (wD (s.word_ 5)) = true then 2 else 1) = true ∧
        ¬(s.helm 5).cond (wD (s.word_ 5)) = true) ∧
    (∃ s : State, s = (helm stateHelmBranchesAndTheirRange1 5 fun x => { x with
      imem := [(0, 0x00000000), (1, 0x00000000), (2, 0x40200000)] }) ∧
      s.wf = true ∧ s.helmRuns 5 HOp.ret (if (s.helm 5).cond (wD (s.word_ 5)) = true then 2 else 1) = true ∧
        (s.helm 5).cond (wD (s.word_ 5)) = true ∧ 0 ≤ ↑(BitVec.extractLsb' 0 12 ((s.helm 5).reg 15)).toNat ∧
        ↑(BitVec.extractLsb' 0 12 ((s.helm 5).reg 15)).toNat < ↑(s.helm 5).codeWords) ∧
    (∃ s : State, s = (helm stateHelmBranchesAndTheirRange1 5 fun x => { x with
      imem := [(0, 0x00000000), (1, 0x00000000), (2, 0x40200000)],
      g := [(15, 0x00000040)] }) ∧
      s.wf = true ∧ s.helmRuns 5 HOp.ret (if (s.helm 5).cond (wD (s.word_ 5)) = true then 2 else 1) = true ∧
        (s.helm 5).cond (wD (s.word_ 5)) = true ∧ ¬(0 ≤ ↑(BitVec.extractLsb' 0 12 ((s.helm 5).reg 15)).toNat ∧
        ↑(BitVec.extractLsb' 0 12 ((s.helm 5).reg 15)).toNat < ↑(s.helm 5).codeWords)) ∧
    (∃ s : State, s = (helm stateHelmBranchesAndTheirRange1 5 fun x => { x with
      imem := [(0, 0x00000000), (1, 0x00000000), (2, 0x40600000)] }) ∧
      s.wf = true ∧ s.helmRuns 5 HOp.ret (if (s.helm 5).cond (wD (s.word_ 5)) = true then 2 else 1) = true ∧
        ¬(s.helm 5).cond (wD (s.word_ 5)) = true) ∧
    (∃ s : State, s = (helm stateHelmBranchesAndTheirRange1 5 fun x => { x with
      imem := [(0, 0x00000000), (1, 0x00000000), (2, 0x48800001)],
      g := [(15, 0x0000003f)] }) ∧
      s.wf = true ∧ s.helmRuns 5 HOp.cbz (if ((s.helm 5).reg (wD (s.word_ 5)) == 0) = true then 2 else 1) = true ∧
        ((s.helm 5).reg (wD (s.word_ 5)) == 0) = true ∧ 0 ≤ ↑(s.helm 5).pc + (BitVec.ofNat 20 (wOff20 (s.word_ 5))).toInt ∧
        ↑(s.helm 5).pc + (BitVec.ofNat 20 (wOff20 (s.word_ 5))).toInt < ↑(s.helm 5).codeWords) ∧
    (∃ s : State, s = (helm stateHelmBranchesAndTheirRange1 5 fun x => { x with
      imem := [(0, 0x00000000), (1, 0x00000000), (2, 0x488ffffd)],
      g := [(15, 0x0000003f)] }) ∧
      s.wf = true ∧ s.helmRuns 5 HOp.cbz (if ((s.helm 5).reg (wD (s.word_ 5)) == 0) = true then 2 else 1) = true ∧
        ((s.helm 5).reg (wD (s.word_ 5)) == 0) = true ∧ ¬(0 ≤ ↑(s.helm 5).pc + (BitVec.ofNat 20 (wOff20 (s.word_ 5))).toInt ∧
        ↑(s.helm 5).pc + (BitVec.ofNat 20 (wOff20 (s.word_ 5))).toInt < ↑(s.helm 5).codeWords)) ∧
    (∃ s : State, s = (helm stateHelmBranchesAndTheirRange1 5 fun x => { x with
      imem := [(0, 0x00000000), (1, 0x00000000), (2, 0x48800001)] }) ∧
      s.wf = true ∧ s.helmRuns 5 HOp.cbz (if ((s.helm 5).reg (wD (s.word_ 5)) == 0) = true then 2 else 1) = true ∧
        ¬((s.helm 5).reg (wD (s.word_ 5)) == 0) = true) ∧
    (∃ s : State, s = (helm stateHelmBranchesAndTheirRange1 5 fun x => { x with
      imem := [(0, 0x00000000), (1, 0x00000000), (2, 0x48900001)] }) ∧
      s.wf = true ∧ s.helmRuns 5 HOp.cbnz (if ((s.helm 5).reg (wD (s.word_ 5)) != 0) = true then 2 else 1) = true ∧
        ((s.helm 5).reg (wD (s.word_ 5)) != 0) = true ∧ 0 ≤ ↑(s.helm 5).pc + (BitVec.ofNat 20 (wOff20 (s.word_ 5))).toInt ∧
        ↑(s.helm 5).pc + (BitVec.ofNat 20 (wOff20 (s.word_ 5))).toInt < ↑(s.helm 5).codeWords) ∧
    (∃ s : State, s = (helm stateHelmBranchesAndTheirRange1 5 fun x => { x with
      imem := [(0, 0x00000000), (1, 0x00000000), (2, 0x489ffffd)] }) ∧
      s.wf = true ∧ s.helmRuns 5 HOp.cbnz (if ((s.helm 5).reg (wD (s.word_ 5)) != 0) = true then 2 else 1) = true ∧
        ((s.helm 5).reg (wD (s.word_ 5)) != 0) = true ∧ ¬(0 ≤ ↑(s.helm 5).pc + (BitVec.ofNat 20 (wOff20 (s.word_ 5))).toInt ∧
        ↑(s.helm 5).pc + (BitVec.ofNat 20 (wOff20 (s.word_ 5))).toInt < ↑(s.helm 5).codeWords)) ∧
    (∃ s : State, s = (helm stateHelmBranchesAndTheirRange1 5 fun x => { x with
      imem := [(0, 0x00000000), (1, 0x00000000), (2, 0x48900001)],
      g := [(15, 0x0000003f)] }) ∧
      s.wf = true ∧ s.helmRuns 5 HOp.cbnz (if ((s.helm 5).reg (wD (s.word_ 5)) != 0) = true then 2 else 1) = true ∧
        ¬((s.helm 5).reg (wD (s.word_ 5)) != 0) = true) :=
  ⟨⟨_, rfl, by decide +kernel⟩,
   ⟨_, rfl, by decide +kernel⟩,
   ⟨_, rfl, by decide +kernel⟩,
   ⟨_, rfl, by decide +kernel⟩,
   ⟨_, rfl, by decide +kernel⟩,
   ⟨_, rfl, by decide +kernel⟩,
   ⟨_, rfl, by decide +kernel⟩,
   ⟨_, rfl, by decide +kernel⟩,
   ⟨_, rfl, by decide +kernel⟩,
   ⟨_, rfl, by decide +kernel⟩,
   ⟨_, rfl, by decide +kernel⟩,
   ⟨_, rfl, by decide +kernel⟩,
   ⟨_, rfl, by decide +kernel⟩,
   ⟨_, rfl, by decide +kernel⟩,
   ⟨_, rfl, by decide +kernel⟩⟩

def outer : LoopSt := { first := 0, last := 20, left := 1 }
def inBody (left : Nat) : Helm := { Helm.init with pc := 2, loops := [{ first := 1, last := 2, left := left }] }

def stateHelmLoopRunsItsBodyBounded1 : State :=
  helm up 5 fun x => { x with
    ps := PState.running,
    image := some image0,
    imem := [(0, 0x00000000), (1, 0x00000000), (2, 0x44800001)],
    g := [(3, 0x00000001), (4, 0x00001388)],
    pc := 2,
    run := some { run0 with cycles := 10, limit := 1000 } }

def stateHelmLoopRunsItsBodyBounded2 : State :=
  helm stateHelmLoopRunsItsBodyBounded1 5 fun x => { x with
    loops := [{ first := 0, last := 20, left := 1 }, { first := 0, last := 20, left := 1 },
      { first := 0, last := 20, left := 1 }, { first := 0, last := 20, left := 1 }] }

/-- The hypotheses of Obligations.HelmLoopRunsItsBodyBounded, a state for each clause. -/
theorem witness_HelmLoopRunsItsBodyBounded :
    (∃ s : State, s = stateHelmLoopRunsItsBodyBounded1 ∧
      s.wf = true ∧ s.helmRuns 5 HOp.loop (if min (BitVec.toNat ((s.helm 5).reg (wD (s.word_ 5)))) ([16, 256,
        4096].getD (wKind (s.word_ 5)) 0) = 0 then 2 else 1) = true ∧ ¬4 ≤ (s.helm 5).loops.length ∧
        (¬(↑(s.helm 5).pc + (BitVec.ofNat 20 (wOff20 (s.word_ 5))).toInt ≤ ↑(s.helm 5).pc ∨
        ↑(s.helm 5).codeWords ≤ ↑(s.helm 5).pc + (BitVec.ofNat 20 (wOff20 (s.word_ 5))).toInt)) ∧
        (inBody 1).loops = (inBody 1).loops.headD { first := 1, last := 2, left := 1 : LoopSt } :: (inBody 1).loops.tail ∧
        ((inBody 1).loops.headD { first := 1, last := 2, left := 1 : LoopSt }).last = (inBody 1).pc ∧
        ((inBody 1).loops.headD { first := 1, last := 2, left := 1 : LoopSt }).left ≠ 0 ∧
        (inBody 0).loops = [(inBody 0).loops.headD { first := 1, last := 2, left := 1 : LoopSt }] ∧
        ((inBody 0).loops.headD { first := 1, last := 2, left := 1 : LoopSt }).last = (inBody 0).pc ∧
        ((inBody 0).loops.headD { first := 1, last := 2, left := 1 : LoopSt }).left = 0 ∧ (∀ l ∈ [outer], l.last ≠ 2)) ∧
    (∃ s : State, s = stateHelmLoopRunsItsBodyBounded2 ∧
      s.wf = true ∧ s.helmRuns 5 HOp.loop (if min (BitVec.toNat ((s.helm 5).reg (wD (s.word_ 5)))) ([16, 256,
        4096].getD (wKind (s.word_ 5)) 0) = 0 then 2 else 1) = true ∧ 4 ≤ (s.helm 5).loops.length) ∧
    (∃ s : State, s = (helm stateHelmLoopRunsItsBodyBounded1 5 fun x => { x with
      imem := [(0, 0x00000000), (1, 0x00000000), (2, 0x44800000)] }) ∧
      s.wf = true ∧ s.helmRuns 5 HOp.loop (if min (BitVec.toNat ((s.helm 5).reg (wD (s.word_ 5)))) ([16, 256,
        4096].getD (wKind (s.word_ 5)) 0) = 0 then 2 else 1) = true ∧ ¬4 ≤ (s.helm 5).loops.length ∧
        (↑(s.helm 5).pc + (BitVec.ofNat 20 (wOff20 (s.word_ 5))).toInt ≤ ↑(s.helm 5).pc ∨
        ↑(s.helm 5).codeWords ≤ ↑(s.helm 5).pc + (BitVec.ofNat 20 (wOff20 (s.word_ 5))).toInt)) :=
  ⟨⟨_, rfl, by decide +kernel⟩,
   ⟨_, rfl, by decide +kernel⟩,
   ⟨_, rfl, by decide +kernel⟩⟩

def stateHelmLocalLoadsStoresAndTally1 : State :=
  helm up 5 fun x => { x with
    ps := PState.running,
    image := some image0,
    imem := [(0, 0x50480000)],
    ram := [(4, 0xff), (5, 0xff), (6, 0xff), (7, 0xff), (12, 0x81), (13, 0x92), (16, 0x01), (17, 0x80), (19, 0xf3),
      (1024, 0x01)],
    g := [(2, 0x00001fff)],
    z := true,
    c := true,
    run := some { run0 with cycles := 10, limit := 1000 } }

/-- The hypotheses of Obligations.HelmLocalLoadsStoresAndTally, a state for each clause. -/
theorem witness_HelmLocalLoadsStoresAndTally :
    (∃ s : State, s = stateHelmLocalLoadsStoresAndTally1 ∧
      s.wf = true ∧ s.helmRuns 5 HOp.ldw 2 = true ∧
        BitVec.toNat ((s.helm 5).reg (wA (s.word_ 5)) + BitVec.signExtend 32 (BitVec.ofNat 12 (wImm12 (s.word_ 5)))) % 4 ≠ 0) ∧
    (∃ s : State, s = (helm stateHelmLocalLoadsStoresAndTally1 5 fun x => { x with imem := [(0, 0x50480001)] }) ∧
      s.wf = true ∧ s.helmRuns 5 HOp.ldw 2 = true ∧
        BitVec.toNat ((s.helm 5).reg (wA (s.word_ 5)) + BitVec.signExtend 32 (BitVec.ofNat 12 (wImm12 (s.word_ 5)))) % 4 = 0 ∧
        8191 < BitVec.toNat ((s.helm 5).reg (wA (s.word_ 5)) + BitVec.signExtend 32 (BitVec.ofNat 12 (wImm12 (s.word_ 5)))) + 4 - 1) ∧
    (∃ s : State, s = (helm stateHelmLocalLoadsStoresAndTally1 5 fun x => { x with
      imem := [(0, 0x50480ffc)],
      badRam := [3],
      g := [(1, 0x89abcdef), (2, 0x00000010)] }) ∧
      s.wf = true ∧ s.helmRuns 5 HOp.ldw 2 = true ∧
        BitVec.toNat ((s.helm 5).reg (wA (s.word_ 5)) + BitVec.signExtend 32 (BitVec.ofNat 12 (wImm12 (s.word_ 5)))) % 4 = 0 ∧
        BitVec.toNat ((s.helm 5).reg (wA (s.word_ 5)) + BitVec.signExtend 32 (BitVec.ofNat 12 (wImm12 (s.word_ 5)))) + 4 ≤ 8192 ∧
        (Upset.none = Upset.double ∨
        (s.helm 5).badRam.contains (BitVec.toNat ((s.helm 5).reg (wA (s.word_ 5)) + BitVec.signExtend 32 (BitVec.ofNat 12 (wImm12 (s.word_ 5)))) / 4) = true)) ∧
    (∃ s : State, s = (helm stateHelmLocalLoadsStoresAndTally1 5 fun x => { x with
      g := [(1, 0x00000005), (2, 0x00001ffc), (3, 0x00000002)] }) ∧
      s.wf = true ∧ s.helmRuns 5 HOp.ldw 2 = true ∧
        BitVec.toNat ((s.helm 5).reg (wA (s.word_ 5)) + BitVec.signExtend 32 (BitVec.ofNat 12 (wImm12 (s.word_ 5)))) % 4 = 0 ∧
        BitVec.toNat ((s.helm 5).reg (wA (s.word_ 5)) + BitVec.signExtend 32 (BitVec.ofNat 12 (wImm12 (s.word_ 5)))) + 4 ≤ 8192 ∧
        (¬(Upset.none = Upset.double ∨
        (s.helm 5).badRam.contains (BitVec.toNat ((s.helm 5).reg (wA (s.word_ 5)) + BitVec.signExtend 32 (BitVec.ofNat 12 (wImm12 (s.word_ 5)))) / 4) = true)) ∧
        (¬(Upset.single = Upset.double ∨
        (s.helm 5).badRam.contains (BitVec.toNat ((s.helm 5).reg (wA (s.word_ 5)) + BitVec.signExtend 32 (BitVec.ofNat 12 (wImm12 (s.word_ 5)))) / 4) = true))) ∧
    (∃ s : State, s = (helm stateHelmLocalLoadsStoresAndTally1 5 fun x => { x with imem := [(0, 0x50481000)] }) ∧
      s.wf = true ∧ s.helmRuns 5 HOp.ldh 2 = true ∧
        BitVec.toNat ((s.helm 5).reg (wA (s.word_ 5)) + BitVec.signExtend 32 (BitVec.ofNat 12 (wImm12 (s.word_ 5)))) % 2 ≠ 0) ∧
    (∃ s : State, s = (helm stateHelmLocalLoadsStoresAndTally1 5 fun x => { x with imem := [(0, 0x50481001)] }) ∧
      s.wf = true ∧ s.helmRuns 5 HOp.ldh 2 = true ∧
        BitVec.toNat ((s.helm 5).reg (wA (s.word_ 5)) + BitVec.signExtend 32 (BitVec.ofNat 12 (wImm12 (s.word_ 5)))) % 2 = 0 ∧
        8191 < BitVec.toNat ((s.helm 5).reg (wA (s.word_ 5)) + BitVec.signExtend 32 (BitVec.ofNat 12 (wImm12 (s.word_ 5)))) + 2 - 1) ∧
    (∃ s : State, s = (helm stateHelmLocalLoadsStoresAndTally1 5 fun x => { x with
      imem := [(0, 0x50481ffc)],
      badRam := [3],
      g := [(1, 0x89abcdef), (2, 0x00000010)] }) ∧
      s.wf = true ∧ s.helmRuns 5 HOp.ldh 2 = true ∧
        BitVec.toNat ((s.helm 5).reg (wA (s.word_ 5)) + BitVec.signExtend 32 (BitVec.ofNat 12 (wImm12 (s.word_ 5)))) % 2 = 0 ∧
        BitVec.toNat ((s.helm 5).reg (wA (s.word_ 5)) + BitVec.signExtend 32 (BitVec.ofNat 12 (wImm12 (s.word_ 5)))) + 2 ≤ 8192 ∧
        (Upset.none = Upset.double ∨
        (s.helm 5).badRam.contains (BitVec.toNat ((s.helm 5).reg (wA (s.word_ 5)) + BitVec.signExtend 32 (BitVec.ofNat 12 (wImm12 (s.word_ 5)))) / 4) = true)) ∧
    (∃ s : State, s = (helm stateHelmLocalLoadsStoresAndTally1 5 fun x => { x with
      imem := [(0, 0x50481002)],
      g := [(1, 0x00000005), (2, 0x00001ffc), (3, 0x00000002)] }) ∧
      s.wf = true ∧ s.helmRuns 5 HOp.ldh 2 = true ∧
        BitVec.toNat ((s.helm 5).reg (wA (s.word_ 5)) + BitVec.signExtend 32 (BitVec.ofNat 12 (wImm12 (s.word_ 5)))) % 2 = 0 ∧
        BitVec.toNat ((s.helm 5).reg (wA (s.word_ 5)) + BitVec.signExtend 32 (BitVec.ofNat 12 (wImm12 (s.word_ 5)))) + 2 ≤ 8192 ∧
        (¬(Upset.none = Upset.double ∨
        (s.helm 5).badRam.contains (BitVec.toNat ((s.helm 5).reg (wA (s.word_ 5)) + BitVec.signExtend 32 (BitVec.ofNat 12 (wImm12 (s.word_ 5)))) / 4) = true)) ∧
        (¬(Upset.single = Upset.double ∨
        (s.helm 5).badRam.contains (BitVec.toNat ((s.helm 5).reg (wA (s.word_ 5)) + BitVec.signExtend 32 (BitVec.ofNat 12 (wImm12 (s.word_ 5)))) / 4) = true))) ∧
    (∃ s : State, s = (helm stateHelmLocalLoadsStoresAndTally1 5 fun x => { x with imem := [(0, 0x50482000)] }) ∧
      s.wf = true ∧ s.helmRuns 5 HOp.ldhs 2 = true ∧
        BitVec.toNat ((s.helm 5).reg (wA (s.word_ 5)) + BitVec.signExtend 32 (BitVec.ofNat 12 (wImm12 (s.word_ 5)))) % 2 ≠ 0) ∧
    (∃ s : State, s = (helm stateHelmLocalLoadsStoresAndTally1 5 fun x => { x with imem := [(0, 0x50482001)] }) ∧
      s.wf = true ∧ s.helmRuns 5 HOp.ldhs 2 = true ∧
        BitVec.toNat ((s.helm 5).reg (wA (s.word_ 5)) + BitVec.signExtend 32 (BitVec.ofNat 12 (wImm12 (s.word_ 5)))) % 2 = 0 ∧
        8191 < BitVec.toNat ((s.helm 5).reg (wA (s.word_ 5)) + BitVec.signExtend 32 (BitVec.ofNat 12 (wImm12 (s.word_ 5)))) + 2 - 1) ∧
    (∃ s : State, s = (helm stateHelmLocalLoadsStoresAndTally1 5 fun x => { x with
      imem := [(0, 0x50482ffc)],
      badRam := [3],
      g := [(1, 0x89abcdef), (2, 0x00000010)] }) ∧
      s.wf = true ∧ s.helmRuns 5 HOp.ldhs 2 = true ∧
        BitVec.toNat ((s.helm 5).reg (wA (s.word_ 5)) + BitVec.signExtend 32 (BitVec.ofNat 12 (wImm12 (s.word_ 5)))) % 2 = 0 ∧
        BitVec.toNat ((s.helm 5).reg (wA (s.word_ 5)) + BitVec.signExtend 32 (BitVec.ofNat 12 (wImm12 (s.word_ 5)))) + 2 ≤ 8192 ∧
        (Upset.none = Upset.double ∨
        (s.helm 5).badRam.contains (BitVec.toNat ((s.helm 5).reg (wA (s.word_ 5)) + BitVec.signExtend 32 (BitVec.ofNat 12 (wImm12 (s.word_ 5)))) / 4) = true)) ∧
    (∃ s : State, s = (helm stateHelmLocalLoadsStoresAndTally1 5 fun x => { x with
      imem := [(0, 0x50482002)],
      g := [(1, 0x00000005), (2, 0x00001ffc), (3, 0x00000002)] }) ∧
      s.wf = true ∧ s.helmRuns 5 HOp.ldhs 2 = true ∧
        BitVec.toNat ((s.helm 5).reg (wA (s.word_ 5)) + BitVec.signExtend 32 (BitVec.ofNat 12 (wImm12 (s.word_ 5)))) % 2 = 0 ∧
        BitVec.toNat ((s.helm 5).reg (wA (s.word_ 5)) + BitVec.signExtend 32 (BitVec.ofNat 12 (wImm12 (s.word_ 5)))) + 2 ≤ 8192 ∧
        (¬(Upset.none = Upset.double ∨
        (s.helm 5).badRam.contains (BitVec.toNat ((s.helm 5).reg (wA (s.word_ 5)) + BitVec.signExtend 32 (BitVec.ofNat 12 (wImm12 (s.word_ 5)))) / 4) = true)) ∧
        (¬(Upset.single = Upset.double ∨
        (s.helm 5).badRam.contains (BitVec.toNat ((s.helm 5).reg (wA (s.word_ 5)) + BitVec.signExtend 32 (BitVec.ofNat 12 (wImm12 (s.word_ 5)))) / 4) = true))) ∧
    (∃ s : State, s = (helm stateHelmLocalLoadsStoresAndTally1 5 fun x => { x with imem := [(0, 0x50483001)] }) ∧
      s.wf = true ∧ s.helmRuns 5 HOp.ldb 2 = true ∧
        BitVec.toNat ((s.helm 5).reg (wA (s.word_ 5)) + BitVec.signExtend 32 (BitVec.ofNat 12 (wImm12 (s.word_ 5)))) % 1 = 0 ∧
        8191 < BitVec.toNat ((s.helm 5).reg (wA (s.word_ 5)) + BitVec.signExtend 32 (BitVec.ofNat 12 (wImm12 (s.word_ 5)))) + 1 - 1) ∧
    (∃ s : State, s = (helm stateHelmLocalLoadsStoresAndTally1 5 fun x => { x with
      imem := [(0, 0x50483fff)],
      badRam := [3],
      g := [(1, 0x89abcdef), (2, 0x00000010)] }) ∧
      s.wf = true ∧ s.helmRuns 5 HOp.ldb 2 = true ∧
        BitVec.toNat ((s.helm 5).reg (wA (s.word_ 5)) + BitVec.signExtend 32 (BitVec.ofNat 12 (wImm12 (s.word_ 5)))) % 1 = 0 ∧
        BitVec.toNat ((s.helm 5).reg (wA (s.word_ 5)) + BitVec.signExtend 32 (BitVec.ofNat 12 (wImm12 (s.word_ 5)))) + 1 ≤ 8192 ∧
        (Upset.none = Upset.double ∨
        (s.helm 5).badRam.contains (BitVec.toNat ((s.helm 5).reg (wA (s.word_ 5)) + BitVec.signExtend 32 (BitVec.ofNat 12 (wImm12 (s.word_ 5)))) / 4) = true)) ∧
    (∃ s : State, s = (helm stateHelmLocalLoadsStoresAndTally1 5 fun x => { x with imem := [(0, 0x50483000)] }) ∧
      s.wf = true ∧ s.helmRuns 5 HOp.ldb 2 = true ∧
        BitVec.toNat ((s.helm 5).reg (wA (s.word_ 5)) + BitVec.signExtend 32 (BitVec.ofNat 12 (wImm12 (s.word_ 5)))) % 1 = 0 ∧
        BitVec.toNat ((s.helm 5).reg (wA (s.word_ 5)) + BitVec.signExtend 32 (BitVec.ofNat 12 (wImm12 (s.word_ 5)))) + 1 ≤ 8192 ∧
        (¬(Upset.none = Upset.double ∨
        (s.helm 5).badRam.contains (BitVec.toNat ((s.helm 5).reg (wA (s.word_ 5)) + BitVec.signExtend 32 (BitVec.ofNat 12 (wImm12 (s.word_ 5)))) / 4) = true)) ∧
        (¬(Upset.single = Upset.double ∨
        (s.helm 5).badRam.contains (BitVec.toNat ((s.helm 5).reg (wA (s.word_ 5)) + BitVec.signExtend 32 (BitVec.ofNat 12 (wImm12 (s.word_ 5)))) / 4) = true))) ∧
    (∃ s : State, s = (helm stateHelmLocalLoadsStoresAndTally1 5 fun x => { x with imem := [(0, 0x50484001)] }) ∧
      s.wf = true ∧ s.helmRuns 5 HOp.ldbs 2 = true ∧
        BitVec.toNat ((s.helm 5).reg (wA (s.word_ 5)) + BitVec.signExtend 32 (BitVec.ofNat 12 (wImm12 (s.word_ 5)))) % 1 = 0 ∧
        8191 < BitVec.toNat ((s.helm 5).reg (wA (s.word_ 5)) + BitVec.signExtend 32 (BitVec.ofNat 12 (wImm12 (s.word_ 5)))) + 1 - 1) ∧
    (∃ s : State, s = (helm stateHelmLocalLoadsStoresAndTally1 5 fun x => { x with
      imem := [(0, 0x50484fff)],
      badRam := [3],
      g := [(1, 0x89abcdef), (2, 0x00000010)] }) ∧
      s.wf = true ∧ s.helmRuns 5 HOp.ldbs 2 = true ∧
        BitVec.toNat ((s.helm 5).reg (wA (s.word_ 5)) + BitVec.signExtend 32 (BitVec.ofNat 12 (wImm12 (s.word_ 5)))) % 1 = 0 ∧
        BitVec.toNat ((s.helm 5).reg (wA (s.word_ 5)) + BitVec.signExtend 32 (BitVec.ofNat 12 (wImm12 (s.word_ 5)))) + 1 ≤ 8192 ∧
        (Upset.none = Upset.double ∨
        (s.helm 5).badRam.contains (BitVec.toNat ((s.helm 5).reg (wA (s.word_ 5)) + BitVec.signExtend 32 (BitVec.ofNat 12 (wImm12 (s.word_ 5)))) / 4) = true)) ∧
    (∃ s : State, s = (helm stateHelmLocalLoadsStoresAndTally1 5 fun x => { x with imem := [(0, 0x50484000)] }) ∧
      s.wf = true ∧ s.helmRuns 5 HOp.ldbs 2 = true ∧
        BitVec.toNat ((s.helm 5).reg (wA (s.word_ 5)) + BitVec.signExtend 32 (BitVec.ofNat 12 (wImm12 (s.word_ 5)))) % 1 = 0 ∧
        BitVec.toNat ((s.helm 5).reg (wA (s.word_ 5)) + BitVec.signExtend 32 (BitVec.ofNat 12 (wImm12 (s.word_ 5)))) + 1 ≤ 8192 ∧
        (¬(Upset.none = Upset.double ∨
        (s.helm 5).badRam.contains (BitVec.toNat ((s.helm 5).reg (wA (s.word_ 5)) + BitVec.signExtend 32 (BitVec.ofNat 12 (wImm12 (s.word_ 5)))) / 4) = true)) ∧
        (¬(Upset.single = Upset.double ∨
        (s.helm 5).badRam.contains (BitVec.toNat ((s.helm 5).reg (wA (s.word_ 5)) + BitVec.signExtend 32 (BitVec.ofNat 12 (wImm12 (s.word_ 5)))) / 4) = true))) ∧
    (∃ s : State, s = (helm stateHelmLocalLoadsStoresAndTally1 5 fun x => { x with imem := [(0, 0x54480000)] }) ∧
      s.wf = true ∧ s.helmRuns 5 HOp.stw 1 = true ∧
        BitVec.toNat ((s.helm 5).reg (wA (s.word_ 5)) + BitVec.signExtend 32 (BitVec.ofNat 12 (wImm12 (s.word_ 5)))) % 4 ≠ 0) ∧
    (∃ s : State, s = (helm stateHelmLocalLoadsStoresAndTally1 5 fun x => { x with imem := [(0, 0x54480001)] }) ∧
      s.wf = true ∧ s.helmRuns 5 HOp.stw 1 = true ∧
        BitVec.toNat ((s.helm 5).reg (wA (s.word_ 5)) + BitVec.signExtend 32 (BitVec.ofNat 12 (wImm12 (s.word_ 5)))) % 4 = 0 ∧
        8191 < BitVec.toNat ((s.helm 5).reg (wA (s.word_ 5)) + BitVec.signExtend 32 (BitVec.ofNat 12 (wImm12 (s.word_ 5)))) + 4 - 1) ∧
    (∃ s : State, s = (helm stateHelmLocalLoadsStoresAndTally1 5 fun x => { x with
      imem := [(0, 0x54480000)],
      g := [(1, 0x00000005), (2, 0x00001ffc), (3, 0x00000002)] }) ∧
      s.wf = true ∧ s.helmRuns 5 HOp.stw 1 = true ∧
        BitVec.toNat ((s.helm 5).reg (wA (s.word_ 5)) + BitVec.signExtend 32 (BitVec.ofNat 12 (wImm12 (s.word_ 5)))) % 4 = 0 ∧
        BitVec.toNat ((s.helm 5).reg (wA (s.word_ 5)) + BitVec.signExtend 32 (BitVec.ofNat 12 (wImm12 (s.word_ 5)))) + 4 ≤ 8192) ∧
    (∃ s : State, s = (helm stateHelmLocalLoadsStoresAndTally1 5 fun x => { x with imem := [(0, 0x54481000)] }) ∧
      s.wf = true ∧ s.helmRuns 5 HOp.sth 1 = true ∧
        BitVec.toNat ((s.helm 5).reg (wA (s.word_ 5)) + BitVec.signExtend 32 (BitVec.ofNat 12 (wImm12 (s.word_ 5)))) % 2 ≠ 0) ∧
    (∃ s : State, s = (helm stateHelmLocalLoadsStoresAndTally1 5 fun x => { x with imem := [(0, 0x54481001)] }) ∧
      s.wf = true ∧ s.helmRuns 5 HOp.sth 1 = true ∧
        BitVec.toNat ((s.helm 5).reg (wA (s.word_ 5)) + BitVec.signExtend 32 (BitVec.ofNat 12 (wImm12 (s.word_ 5)))) % 2 = 0 ∧
        8191 < BitVec.toNat ((s.helm 5).reg (wA (s.word_ 5)) + BitVec.signExtend 32 (BitVec.ofNat 12 (wImm12 (s.word_ 5)))) + 2 - 1) ∧
    (∃ s : State, s = (helm stateHelmLocalLoadsStoresAndTally1 5 fun x => { x with
      imem := [(0, 0x54481002)],
      g := [(1, 0x00000005), (2, 0x00001ffc), (3, 0x00000002)] }) ∧
      s.wf = true ∧ s.helmRuns 5 HOp.sth 1 = true ∧
        BitVec.toNat ((s.helm 5).reg (wA (s.word_ 5)) + BitVec.signExtend 32 (BitVec.ofNat 12 (wImm12 (s.word_ 5)))) % 2 = 0 ∧
        BitVec.toNat ((s.helm 5).reg (wA (s.word_ 5)) + BitVec.signExtend 32 (BitVec.ofNat 12 (wImm12 (s.word_ 5)))) + 2 ≤ 8192) ∧
    (∃ s : State, s = (helm stateHelmLocalLoadsStoresAndTally1 5 fun x => { x with imem := [(0, 0x54482001)] }) ∧
      s.wf = true ∧ s.helmRuns 5 HOp.stb 1 = true ∧
        BitVec.toNat ((s.helm 5).reg (wA (s.word_ 5)) + BitVec.signExtend 32 (BitVec.ofNat 12 (wImm12 (s.word_ 5)))) % 1 = 0 ∧
        8191 < BitVec.toNat ((s.helm 5).reg (wA (s.word_ 5)) + BitVec.signExtend 32 (BitVec.ofNat 12 (wImm12 (s.word_ 5)))) + 1 - 1) ∧
    (∃ s : State, s = (helm stateHelmLocalLoadsStoresAndTally1 5 fun x => { x with imem := [(0, 0x54482000)] }) ∧
      s.wf = true ∧ s.helmRuns 5 HOp.stb 1 = true ∧
        BitVec.toNat ((s.helm 5).reg (wA (s.word_ 5)) + BitVec.signExtend 32 (BitVec.ofNat 12 (wImm12 (s.word_ 5)))) % 1 = 0 ∧
        BitVec.toNat ((s.helm 5).reg (wA (s.word_ 5)) + BitVec.signExtend 32 (BitVec.ofNat 12 (wImm12 (s.word_ 5)))) + 1 ≤ 8192) ∧
    (∃ s : State, s = (helm stateHelmLocalLoadsStoresAndTally1 5 fun x => { x with imem := [(0, 0x904c8000)] }) ∧
      s.wf = true ∧ s.helmRuns 5 HOp.tally 3 = true ∧
        (BitVec.toNat (s.srcB 5) + 4 * binOf (BitVec.toNat (s.srcA 5))) % 2 ^ 32 % 4 ≠ 0) ∧
    (∃ s : State, s = (helm stateHelmLocalLoadsStoresAndTally1 5 fun x => { x with
      imem := [(0, 0x904c8000)],
      g := [(1, 0x00000005), (2, 0x00001ffc), (3, 0x00000002)] }) ∧
      s.wf = true ∧ s.helmRuns 5 HOp.tally 3 = true ∧
        (BitVec.toNat (s.srcB 5) + 4 * binOf (BitVec.toNat (s.srcA 5))) % 2 ^ 32 % 4 = 0 ∧
        8191 < (BitVec.toNat (s.srcB 5) + 4 * binOf (BitVec.toNat (s.srcA 5))) % 2 ^ 32 + 3) ∧
    (∃ s : State, s = (helm stateHelmLocalLoadsStoresAndTally1 5 fun x => { x with
      imem := [(0, 0x904c8000)],
      g := [(1, 0x89abcdef), (2, 0x00000010)] }) ∧
      s.wf = true ∧ s.helmRuns 5 HOp.tally 3 = true ∧
        (BitVec.toNat (s.srcB 5) + 4 * binOf (BitVec.toNat (s.srcA 5))) % 2 ^ 32 % 4 = 0 ∧
        (BitVec.toNat (s.srcB 5) + 4 * binOf (BitVec.toNat (s.srcA 5))) % 2 ^ 32 + 4 ≤ 8192 ∧
        (s.helm 5).badRam.contains ((BitVec.toNat (s.srcB 5) + 4 * binOf (BitVec.toNat (s.srcA 5))) % 2 ^ 32 / 4) = false) :=
  ⟨⟨_, rfl, by decide +kernel⟩,
   ⟨_, rfl, by decide +kernel⟩,
   ⟨_, rfl, by decide +kernel⟩,
   ⟨_, rfl, by decide +kernel⟩,
   ⟨_, rfl, by decide +kernel⟩,
   ⟨_, rfl, by decide +kernel⟩,
   ⟨_, rfl, by decide +kernel⟩,
   ⟨_, rfl, by decide +kernel⟩,
   ⟨_, rfl, by decide +kernel⟩,
   ⟨_, rfl, by decide +kernel⟩,
   ⟨_, rfl, by decide +kernel⟩,
   ⟨_, rfl, by decide +kernel⟩,
   ⟨_, rfl, by decide +kernel⟩,
   ⟨_, rfl, by decide +kernel⟩,
   ⟨_, rfl, by decide +kernel⟩,
   ⟨_, rfl, by decide +kernel⟩,
   ⟨_, rfl, by decide +kernel⟩,
   ⟨_, rfl, by decide +kernel⟩,
   ⟨_, rfl, by decide +kernel⟩,
   ⟨_, rfl, by decide +kernel⟩,
   ⟨_, rfl, by decide +kernel⟩,
   ⟨_, rfl, by decide +kernel⟩,
   ⟨_, rfl, by decide +kernel⟩,
   ⟨_, rfl, by decide +kernel⟩,
   ⟨_, rfl, by decide +kernel⟩,
   ⟨_, rfl, by decide +kernel⟩,
   ⟨_, rfl, by decide +kernel⟩,
   ⟨_, rfl, by decide +kernel⟩,
   ⟨_, rfl, by decide +kernel⟩⟩

def stateFarAccessesStallPostAndDrain1 : State :=
  { (helm up 5 fun x => { x with
    ps := PState.running,
    image := some { image0 with farBase := 16, farLen := 4096 },
    imem := [(0, 0x60480001)],
    g := [(1, 0x89abcdef), (2, 0x00010000)],
    z := true,
    c := true,
    run := some { run0 with cycles := 10, limit := 1000 } }) with
    own := { up.own with
      mapCache := [{ sess := 0, page := 16, blk := false, dpa := 5, w := true, pinned := true },
        { sess := 0, page := 32, blk := false, dpa := 16777216, w := true, pinned := true }] } }

def stateFarAccessesStallPostAndDrain10 : State :=
  { (helm up 5 fun x => { x with
    ps := PState.running,
    image := some image0,
    imem := [(0, 0x60480000)],
    run := some { run0 with cycles := 10, limit := 1000 },
    stall := some { far0 with kind := 1, dpa := 256, d := 1, val := 0x80000001, most := 64 } }) with
    mem := { up.mem with larder := [(256, 0x01), (257, 0x02), (258, 0x03), (259, 0xff)] } }

/-- The hypotheses of Obligations.FarAccessesStallPostAndDrain, a state for each clause. -/
theorem witness_FarAccessesStallPostAndDrain :
    (∃ s : State, s = stateFarAccessesStallPostAndDrain1 ∧
      s.wf = true ∧ s.helmRuns 5 HOp.fld 1 = true ∧
        BitVec.toNat ((s.helm 5).reg (wA (s.word_ 5)) + BitVec.signExtend 32 (BitVec.ofNat 12 (wImm12 (s.word_ 5)))) % 4 ≠ 0) ∧
    (∃ s : State, s = (helm stateFarAccessesStallPostAndDrain1 5 fun x => { x with imem := [(0, 0x60480000)] }) ∧
      s.wf = true ∧ s.helmRuns 5 HOp.fld 1 = true ∧
        BitVec.toNat ((s.helm 5).reg (wA (s.word_ 5)) + BitVec.signExtend 32 (BitVec.ofNat 12 (wImm12 (s.word_ 5)))) % 4 = 0 ∧
        (s.helmCycles 5 1).translate (s.helmOwner 5) (BitVec.toNat ((s.helm 5).reg (wA (s.word_ 5)) + BitVec.signExtend 32 (BitVec.ofNat 12 (wImm12 (s.word_ 5))))) false = (Except.ok (((s.helmCycles 5 1).translate (s.helmOwner 5) (BitVec.toNat ((s.helm 5).reg (wA (s.word_ 5)) + BitVec.signExtend 32 (BitVec.ofNat 12 (wImm12 (s.word_ 5))))) false).1.toOption.getD 0),
        ((s.helmCycles 5 1).translate (s.helmOwner 5) (BitVec.toNat ((s.helm 5).reg (wA (s.word_ 5)) + BitVec.signExtend 32 (BitVec.ofNat 12 (wImm12 (s.word_ 5))))) false).2) ∧
        (0 = 1 →
        ((s.helmCycles 5 1).translate (s.helmOwner 5) (BitVec.toNat ((s.helm 5).reg (wA (s.word_ 5)) + BitVec.signExtend 32 (BitVec.ofNat 12 (wImm12 (s.word_ 5))))) false).1.toOption.getD 0 < 8388608)) ∧
    (∃ s : State, s = (helm stateFarAccessesStallPostAndDrain1 5 fun x => { x with imem := [(0, 0x68480001)] }) ∧
      s.wf = true ∧ s.helmRuns 5 HOp.fadd 1 = true ∧
        BitVec.toNat ((s.helm 5).reg (wA (s.word_ 5)) + BitVec.signExtend 32 (BitVec.ofNat 12 (wImm12 (s.word_ 5)))) % 4 ≠ 0) ∧
    (∃ s : State, s = (helm stateFarAccessesStallPostAndDrain1 5 fun x => { x with imem := [(0, 0x68480000)] }) ∧
      s.wf = true ∧ s.helmRuns 5 HOp.fadd 1 = true ∧
        BitVec.toNat ((s.helm 5).reg (wA (s.word_ 5)) + BitVec.signExtend 32 (BitVec.ofNat 12 (wImm12 (s.word_ 5)))) % 4 = 0 ∧
        (s.helmCycles 5 1).translate (s.helmOwner 5) (BitVec.toNat ((s.helm 5).reg (wA (s.word_ 5)) + BitVec.signExtend 32 (BitVec.ofNat 12 (wImm12 (s.word_ 5))))) true = (Except.ok (((s.helmCycles 5 1).translate (s.helmOwner 5) (BitVec.toNat ((s.helm 5).reg (wA (s.word_ 5)) + BitVec.signExtend 32 (BitVec.ofNat 12 (wImm12 (s.word_ 5))))) true).1.toOption.getD 0),
        ((s.helmCycles 5 1).translate (s.helmOwner 5) (BitVec.toNat ((s.helm 5).reg (wA (s.word_ 5)) + BitVec.signExtend 32 (BitVec.ofNat 12 (wImm12 (s.word_ 5))))) true).2) ∧
        (1 = 1 →
        ((s.helmCycles 5 1).translate (s.helmOwner 5) (BitVec.toNat ((s.helm 5).reg (wA (s.word_ 5)) + BitVec.signExtend 32 (BitVec.ofNat 12 (wImm12 (s.word_ 5))))) true).1.toOption.getD 0 < 8388608)) ∧
    (∃ s : State, s = (helm stateFarAccessesStallPostAndDrain1 5 fun x => { x with
      imem := [(0, 0x68480000)],
      g := [(1, 0x00000003), (2, 0x00020000)] }) ∧
      s.wf = true ∧ s.helmRuns 5 HOp.fadd 1 = true ∧
        BitVec.toNat ((s.helm 5).reg (wA (s.word_ 5)) + BitVec.signExtend 32 (BitVec.ofNat 12 (wImm12 (s.word_ 5)))) % 4 = 0 ∧
        (s.helmCycles 5 1).translate (s.helmOwner 5) (BitVec.toNat ((s.helm 5).reg (wA (s.word_ 5)) + BitVec.signExtend 32 (BitVec.ofNat 12 (wImm12 (s.word_ 5))))) true = (Except.ok (((s.helmCycles 5 1).translate (s.helmOwner 5) (BitVec.toNat ((s.helm 5).reg (wA (s.word_ 5)) + BitVec.signExtend 32 (BitVec.ofNat 12 (wImm12 (s.word_ 5))))) true).1.toOption.getD 0),
        ((s.helmCycles 5 1).translate (s.helmOwner 5) (BitVec.toNat ((s.helm 5).reg (wA (s.word_ 5)) + BitVec.signExtend 32 (BitVec.ofNat 12 (wImm12 (s.word_ 5))))) true).2) ∧
        8388608 ≤ ((s.helmCycles 5 1).translate (s.helmOwner 5) (BitVec.toNat ((s.helm 5).reg (wA (s.word_ 5)) + BitVec.signExtend 32 (BitVec.ofNat 12 (wImm12 (s.word_ 5))))) true).1.toOption.getD 0) ∧
    (∃ s : State, s = (helm stateFarAccessesStallPostAndDrain1 5 fun x => { x with imem := [(0, 0x64480001)] }) ∧
      s.wf = true ∧ s.helmRuns 5 HOp.fst 1 = true ∧ (s.helm 5).posted.length < 4 ∧
        BitVec.toNat ((s.helm 5).reg (wA (s.word_ 5)) + BitVec.signExtend 32 (BitVec.ofNat 12 (wImm12 (s.word_ 5)))) % 4 ≠ 0) ∧
    (∃ s : State, s = (helm stateFarAccessesStallPostAndDrain1 5 fun x => { x with imem := [(0, 0x64480000)] }) ∧
      s.wf = true ∧ s.helmRuns 5 HOp.fst 1 = true ∧ (s.helm 5).posted.length < 4 ∧
        BitVec.toNat ((s.helm 5).reg (wA (s.word_ 5)) + BitVec.signExtend 32 (BitVec.ofNat 12 (wImm12 (s.word_ 5)))) % 4 = 0 ∧
        (s.helmCycles 5 1).translate (s.helmOwner 5) (BitVec.toNat ((s.helm 5).reg (wA (s.word_ 5)) + BitVec.signExtend 32 (BitVec.ofNat 12 (wImm12 (s.word_ 5))))) true = (Except.ok (((s.helmCycles 5 1).translate (s.helmOwner 5) (BitVec.toNat ((s.helm 5).reg (wA (s.word_ 5)) + BitVec.signExtend 32 (BitVec.ofNat 12 (wImm12 (s.word_ 5))))) true).1.toOption.getD 0),
        ((s.helmCycles 5 1).translate (s.helmOwner 5) (BitVec.toNat ((s.helm 5).reg (wA (s.word_ 5)) + BitVec.signExtend 32 (BitVec.ofNat 12 (wImm12 (s.word_ 5))))) true).2)) ∧
    (∃ s : State, s = (helm stateFarAccessesStallPostAndDrain1 5 fun x => { x with imem := [(0, 0x6c000000)] }) ∧
      s.wf = true ∧ s.helmRuns 5 HOp.fsync 1 = true ∧ (s.helm 5).posted = []) ∧
    (∃ s : State, s = (helm stateFarAccessesStallPostAndDrain1 5 fun x => { x with
      imem := [(0, 0x60480000)],
      posted := [{ far0 with kind := 2, dpa := 256, d := 1, val := 0x80000001, most := 64 }] }) ∧
      s.wf = true ∧ (s.helm 5).posted = (s.helm 5).posted.headD far0 :: (s.helm 5).posted.tail) ∧
    (∃ s : State, s = stateFarAccessesStallPostAndDrain10 ∧
      s.wf = true ∧ (s.helm 5).stall = some ((s.helm 5).stall.getD far0) ∧ (s.helm 5).run = some ((s.helm 5).run.getD run0) ∧
        (s.helm 5).posted = [] ∧ 0 ≤ ((s.helm 5).stall.getD far0).most ∧
        ((s.helm 5).run.getD run0).cycles + 0 ≤ ((s.helm 5).run.getD run0).limit ∧
        s.badWord ((s.helm 5).stall.getD far0).dpa = false ∧ inLarder ((s.helm 5).stall.getD far0).dpa = true ∧
        inLarder (((s.helm 5).stall.getD far0).dpa + 3) = true ∧ ((s.helm 5).stall.getD far0).kind < 2) :=
  ⟨⟨_, rfl, by decide +kernel⟩,
   ⟨_, rfl, by decide +kernel⟩,
   ⟨_, rfl, by decide +kernel⟩,
   ⟨_, rfl, by decide +kernel⟩,
   ⟨_, rfl, by decide +kernel⟩,
   ⟨_, rfl, by decide +kernel⟩,
   ⟨_, rfl, by decide +kernel⟩,
   ⟨_, rfl, by decide +kernel⟩,
   ⟨_, rfl, by decide +kernel⟩,
   ⟨_, rfl, by decide +kernel⟩⟩

def stateHelmOverheadAndChutePorts1 : State :=
  { (helm (put up [(LINE_STAT_LSTATE, 2, 0, 0), (LINE_STAT_FORMAT, 2, 0, 0), (FR_STAT_STATE, 2, 0, 0),
    (LINE_STAT_LSTATE, 2, 8, 0), (LINE_STAT_FORMAT, 32, 8, 0), (FR_STAT_STATE, 2, 8, 0)]) 5 fun x => { x with
      ps := PState.running,
      image := some image0,
      imem := [(0, 0x70498000)],
      g := [(1, 0x89abcdef), (2, 0x01020304)],
      z := true,
      c := true,
      run := some { run0 with cycles := 10, limit := 1000 },
      stagedOh := [(1, 5, 0x09)],
      ports := [(0, some { port0 with sel := 1, ready := true, bank := List.replicate 300 7 }),
        (1, some { port0 with sel := 129, bank := List.replicate 300 7 }),
        (2, some { port0 with src := 12288, ro := true, ready := true, bank := List.replicate 300 7 }),
        (3, some { port0 with src := 16385, bank := List.replicate 300 7 }),
        (4, some { port0 with src := 28674, bank := List.replicate 300 7 }),
        (5, some { port0 with src := 28674, sel := 1, bank := List.replicate 300 7 })] }) with
    own := { up.own with ranges := [{ range0 with first := 3, count := 2 }] } }

def stateHelmOverheadAndChutePorts13 : State :=
  helm stateHelmOverheadAndChutePorts1 5 fun x => { x with
    imem := [(0, 0x7c498000)],
    ports := [(0, some { port0 with sel := 2, ro := true, ready := true, bank := List.replicate 300 7 }),
      (1, some { port0 with sel := 130, ro := true, bank := List.replicate 300 7 }),
      (2, some { port0 with src := 12288, ready := true, bank := List.replicate 300 7, cut := true }),
      (3, some { port0 with src := 16385, ro := true, bank := List.replicate 300 7 }),
      (4, some { port0 with src := 28674, ro := true, bank := List.replicate 300 7 }),
      (5, some { port0 with src := 28674, sel := 1, ro := true, bank := List.replicate 300 7 }),
      (6, some { port0 with src := 8, sel := 1, ready := true, bank := List.replicate 300 7 })] }

/-- The hypotheses of Obligations.HelmOverheadAndChutePorts, a state for each clause. -/
theorem witness_HelmOverheadAndChutePorts :
    (∃ s : State, s = stateHelmOverheadAndChutePorts1 ∧
      s.wf = true ∧ s.helmRuns 5 HOp.ohrd 2 = true ∧ (∀ (q : Port), (s.helm 5).port? (wPt (s.word_ 5)) = some q →
        q.kind ∉ [PortKind.sliceRx, PortKind.sliceTx, PortKind.chart])) ∧
    (∃ s : State, s = (helm stateHelmOverheadAndChutePorts1 5 fun x => { x with imem := [(0, 0x70480000)] }) ∧
      s.wf = true ∧ s.helmRuns 5 HOp.ohrd 2 = true ∧ (s.helm 5).port? (wPt (s.word_ 5)) = some (portOf s 5) ∧
        (portOf s 5).kind ∈ [PortKind.sliceRx, PortKind.sliceTx, PortKind.chart]) ∧
    (∃ s : State, s = (helm stateHelmOverheadAndChutePorts1 5 fun x => { x with imem := [(0, 0x74498000)] }) ∧
      s.wf = true ∧ s.helmRuns 5 HOp.ohwr 1 = true ∧ (∀ (q : Port), (s.helm 5).port? (wPt (s.word_ 5)) = some q →
        q.kind ∉ [PortKind.sliceRx, PortKind.sliceTx, PortKind.chart])) ∧
    (∃ s : State, s = (helm stateHelmOverheadAndChutePorts1 5 fun x => { x with imem := [(0, 0x74480000)] }) ∧
      s.wf = true ∧ s.helmRuns 5 HOp.ohwr 1 = true ∧ (s.helm 5).port? (wPt (s.word_ 5)) = some (portOf s 5) ∧
        (portOf s 5).kind ∈ [PortKind.sliceRx, PortKind.sliceTx, PortKind.chart] ∧ ((portOf s 5).ro = true ∨
        (portOf s 5).kind = PortKind.sliceRx)) ∧
    (∃ s : State, s = (helm stateHelmOverheadAndChutePorts1 5 fun x => { x with imem := [(0, 0x74488000)] }) ∧
      s.wf = true ∧ s.helmRuns 5 HOp.ohwr 1 = true ∧ (s.helm 5).port? (wPt (s.word_ 5)) = some (portOf s 5) ∧
        (portOf s 5).kind ∈ [PortKind.sliceRx, PortKind.sliceTx, PortKind.chart] ∧ (portOf s 5).ro = false ∧
        (portOf s 5).kind ≠ PortKind.sliceRx) ∧
    (∃ s : State, s = (helm stateHelmOverheadAndChutePorts1 5 fun x => { x with imem := [(0, 0x78498000)] }) ∧
      s.wf = true ∧ s.helmRuns 5 HOp.ohwm 1 = true ∧ (∀ (q : Port), (s.helm 5).port? (wPt (s.word_ 5)) = some q →
        q.kind ∉ [PortKind.sliceRx, PortKind.sliceTx, PortKind.chart])) ∧
    (∃ s : State, s = (helm stateHelmOverheadAndChutePorts1 5 fun x => { x with imem := [(0, 0x78480000)] }) ∧
      s.wf = true ∧ s.helmRuns 5 HOp.ohwm 1 = true ∧ (s.helm 5).port? (wPt (s.word_ 5)) = some (portOf s 5) ∧
        (portOf s 5).kind ∈ [PortKind.sliceRx, PortKind.sliceTx, PortKind.chart] ∧ ((portOf s 5).ro = true ∨
        (portOf s 5).kind = PortKind.sliceRx)) ∧
    (∃ s : State, s = (helm stateHelmOverheadAndChutePorts1 5 fun x => { x with imem := [(0, 0x78488000)] }) ∧
      s.wf = true ∧ s.helmRuns 5 HOp.ohwm 1 = true ∧ (s.helm 5).port? (wPt (s.word_ 5)) = some (portOf s 5) ∧
        (portOf s 5).kind ∈ [PortKind.sliceRx, PortKind.sliceTx, PortKind.chart] ∧ (portOf s 5).ro = false ∧
        (portOf s 5).kind ≠ PortKind.sliceRx) ∧
    (∃ s : State, s = (helm stateHelmOverheadAndChutePorts1 5 fun x => { x with imem := [(0, 0x88408000)] }) ∧
      s.wf = true ∧ s.helmRuns 5 HOp.bipx 2 = true ∧ (∀ (q : Port), (s.helm 5).port? (wPt (s.word_ 5)) = some q →
        q.kind ∉ [PortKind.sliceRx, PortKind.chart])) ∧
    (∃ s : State, s = (helm stateHelmOverheadAndChutePorts1 5 fun x => { x with imem := [(0, 0x88400000)] }) ∧
      s.wf = true ∧ s.helmRuns 5 HOp.bipx 2 = true ∧ (s.helm 5).port? (wPt (s.word_ 5)) = some (portOf s 5) ∧
        (portOf s 5).kind ∈ [PortKind.sliceRx, PortKind.chart] ∧ wImm12 (s.word_ 5) ∉ s.portItems (portOf s 5)) ∧
    (∃ s : State, s = (helm stateHelmOverheadAndChutePorts1 5 fun x => { x with imem := [(0, 0x88400001)] }) ∧
      s.wf = true ∧ s.helmRuns 5 HOp.bipx 2 = true ∧ (s.helm 5).port? (wPt (s.word_ 5)) = some (portOf s 5) ∧
        (portOf s 5).kind ∈ [PortKind.sliceRx, PortKind.chart] ∧ wImm12 (s.word_ 5) ∈ s.portItems (portOf s 5)) ∧
    (∃ s : State, s = (helm stateHelmOverheadAndChutePorts1 5 fun x => { x with imem := [(0, 0x7c480000)] }) ∧
      s.wf = true ∧ s.helmRuns 5 HOp.push 1 = true ∧ (∀ (q : Port), (s.helm 5).port? (wPt (s.word_ 5)) = some q →
        q.kind ≠ PortKind.chute)) ∧
    (∃ s : State, s = stateHelmOverheadAndChutePorts13 ∧
      s.wf = true ∧ s.helmRuns 5 HOp.push 1 = true ∧ (s.helm 5).port? (wPt (s.word_ 5)) = some (portOf s 5) ∧
        (portOf s 5).kind = PortKind.chute ∧ (portOf s 5).ro = true) ∧
    (∃ s : State, s = (helm stateHelmOverheadAndChutePorts1 5 fun x => { x with imem := [(0, 0x7c498000)] }) ∧
      s.wf = true ∧ s.helmRuns 5 HOp.push 1 = true ∧ (s.helm 5).port? (wPt (s.word_ 5)) = some (portOf s 5) ∧
        (portOf s 5).kind = PortKind.chute ∧ (portOf s 5).ro = false) ∧
    (∃ s : State, s = (helm stateHelmOverheadAndChutePorts1 5 fun x => { x with imem := [(0, 0x7c481000)] }) ∧
      s.wf = true ∧ s.helmRuns 5 HOp.pushc 1 = true ∧ (∀ (q : Port), (s.helm 5).port? (wPt (s.word_ 5)) = some q →
        q.kind ≠ PortKind.chute)) ∧
    (∃ s : State, s = (helm stateHelmOverheadAndChutePorts13 5 fun x => { x with imem := [(0, 0x7c499000)] }) ∧
      s.wf = true ∧ s.helmRuns 5 HOp.pushc 1 = true ∧ (s.helm 5).port? (wPt (s.word_ 5)) = some (portOf s 5) ∧
        (portOf s 5).kind = PortKind.chute ∧ (portOf s 5).ro = true) ∧
    (∃ s : State, s = (helm stateHelmOverheadAndChutePorts1 5 fun x => { x with imem := [(0, 0x7c499000)] }) ∧
      s.wf = true ∧ s.helmRuns 5 HOp.pushc 1 = true ∧ (s.helm 5).port? (wPt (s.word_ 5)) = some (portOf s 5) ∧
        (portOf s 5).kind = PortKind.chute ∧ (portOf s 5).ro = false) ∧
    (∃ s : State, s = (helm stateHelmOverheadAndChutePorts1 5 fun x => { x with imem := [(0, 0x7c002000)] }) ∧
      s.wf = true ∧ s.helmRuns 5 HOp.rwd 1 = true ∧ (∀ (q : Port), (s.helm 5).port? (wPt (s.word_ 5)) = some q →
        q.kind ≠ PortKind.chute)) ∧
    (∃ s : State, s = (helm stateHelmOverheadAndChutePorts13 5 fun x => { x with imem := [(0, 0x7c01a000)] }) ∧
      s.wf = true ∧ s.helmRuns 5 HOp.rwd 1 = true ∧ (s.helm 5).port? (wPt (s.word_ 5)) = some (portOf s 5) ∧
        (portOf s 5).kind = PortKind.chute ∧ (portOf s 5).ro = true) ∧
    (∃ s : State, s = (helm stateHelmOverheadAndChutePorts1 5 fun x => { x with imem := [(0, 0x7c01a000)] }) ∧
      s.wf = true ∧ s.helmRuns 5 HOp.rwd 1 = true ∧ (s.helm 5).port? (wPt (s.word_ 5)) = some (portOf s 5) ∧
        (portOf s 5).kind = PortKind.chute ∧ (portOf s 5).ro = false) ∧
    (∃ s : State, s = up ∧
      s.portImage { port0 with src := 3 } ≤ 300) :=
  ⟨⟨_, rfl, by decide +kernel⟩,
   ⟨_, rfl, by decide +kernel⟩,
   ⟨_, rfl, by decide +kernel⟩,
   ⟨_, rfl, by decide +kernel⟩,
   ⟨_, rfl, by decide +kernel⟩,
   ⟨_, rfl, by decide +kernel⟩,
   ⟨_, rfl, by decide +kernel⟩,
   ⟨_, rfl, by decide +kernel⟩,
   ⟨_, rfl, by decide +kernel⟩,
   ⟨_, rfl, by decide +kernel⟩,
   ⟨_, rfl, by decide +kernel⟩,
   ⟨_, rfl, by decide +kernel⟩,
   ⟨_, rfl, by decide +kernel⟩,
   ⟨_, rfl, by decide +kernel⟩,
   ⟨_, rfl, by decide +kernel⟩,
   ⟨_, rfl, by decide +kernel⟩,
   ⟨_, rfl, by decide +kernel⟩,
   ⟨_, rfl, by decide +kernel⟩,
   ⟨_, rfl, by decide +kernel⟩,
   ⟨_, rfl, by decide +kernel⟩,
   ⟨_, rfl, by decide +kernel⟩⟩

def stateHelmDefectsAndPatternControl1 : State :=
  { (helm (put up [(LINE_STAT_LSTATE, 2, 0, 0), (LINE_STAT_FORMAT, 2, 0, 0), (FR_STAT_STATE, 2, 0, 0),
    (LINE_STAT_LSTATE, 2, 8, 0), (LINE_STAT_FORMAT, 32, 8, 0), (FR_STAT_STATE, 2, 8, 0)]) 5 fun x => { x with
      ps := PState.running,
      image := some image0,
      imem := [(0, 0x94000000)],
      g := [(1, 0x89abcdef), (2, 0x01020304)],
      z := true,
      c := true,
      run := some { run0 with cycles := 10, limit := 1000 },
      stagedDef := [(1, 5, true)],
      ports := [(0, some { port0 with sel := 1, ready := true, bank := List.replicate 300 7 }),
        (1, some { port0 with sel := 129, bank := List.replicate 300 7 }),
        (2, some { port0 with src := 12288, ro := true, ready := true, bank := List.replicate 300 7 }),
        (3, some { port0 with src := 16385, bank := List.replicate 300 7 }),
        (4, some { port0 with src := 28674, bank := List.replicate 300 7 }),
        (5, some { port0 with src := 28674, sel := 1, bank := List.replicate 300 7 })] }) with
    own := { up.own with ranges := [{ range0 with first := 3, count := 2 }] } }

def stateHelmDefectsAndPatternControl3 : State :=
  helm stateHelmDefectsAndPatternControl1 5 fun x => { x with
    imem := [(0, 0x94000010)],
    ports := [(0, some { port0 with sel := 2, ro := true, ready := true, bank := List.replicate 300 7 }),
      (1, some { port0 with sel := 130, ro := true, bank := List.replicate 300 7 }),
      (2, some { port0 with src := 12288, ready := true, bank := List.replicate 300 7, cut := true }),
      (3, some { port0 with src := 16385, ro := true, bank := List.replicate 300 7 }),
      (4, some { port0 with src := 28674, ro := true, bank := List.replicate 300 7 }),
      (5, some { port0 with src := 28674, sel := 1, ro := true, bank := List.replicate 300 7 }),
      (6, some { port0 with src := 8, sel := 1, ready := true, bank := List.replicate 300 7 })] }

/-- The hypotheses of Obligations.HelmDefectsAndPatternControl, a state for each clause. -/
theorem witness_HelmDefectsAndPatternControl :
    (∃ s : State, s = stateHelmDefectsAndPatternControl1 ∧
      s.wf = true ∧ s.helmRuns 5 HOp.dset 1 = true ∧ wImm12 (s.word_ 5) % 256 ∉ progCodes) ∧
    (∃ s : State, s = (helm stateHelmDefectsAndPatternControl1 5 fun x => { x with imem := [(0, 0x94018010)] }) ∧
      s.wf = true ∧ s.helmRuns 5 HOp.dset 1 = true ∧ wImm12 (s.word_ 5) % 256 ∈ progCodes ∧ (∀ (q : Port),
        (s.helm 5).port? (wPt (s.word_ 5)) = some q → q.kind ∉ [PortKind.sliceRx, PortKind.sliceTx, PortKind.chart])) ∧
    (∃ s : State, s = stateHelmDefectsAndPatternControl3 ∧
      s.wf = true ∧ s.helmRuns 5 HOp.dset 1 = true ∧ (s.helm 5).port? (wPt (s.word_ 5)) = some (portOf s 5) ∧
        (portOf s 5).kind ∈ [PortKind.sliceRx, PortKind.sliceTx, PortKind.chart] ∧ wImm12 (s.word_ 5) % 256 ∈ progCodes ∧
        wImm12 (s.word_ 5) % 256 ∉ s.portProgDefects (portOf s 5)) ∧
    (∃ s : State, s = (helm stateHelmDefectsAndPatternControl3 5 fun x => { x with imem := [(0, 0x94000021)] }) ∧
      s.wf = true ∧ s.helmRuns 5 HOp.dset 1 = true ∧ (s.helm 5).port? (wPt (s.word_ 5)) = some (portOf s 5) ∧
        (portOf s 5).kind ∈ [PortKind.sliceRx, PortKind.sliceTx, PortKind.chart] ∧ wImm12 (s.word_ 5) % 256 ∈ progCodes ∧
        wImm12 (s.word_ 5) % 256 ∈ s.portProgDefects (portOf s 5) ∧ (portOf s 5).ro = true) ∧
    (∃ s : State, s = (helm stateHelmDefectsAndPatternControl1 5 fun x => { x with imem := [(0, 0x94000010)] }) ∧
      s.wf = true ∧ s.helmRuns 5 HOp.dset 1 = true ∧ (s.helm 5).port? (wPt (s.word_ 5)) = some (portOf s 5) ∧
        (portOf s 5).kind ∈ [PortKind.sliceRx, PortKind.sliceTx, PortKind.chart] ∧ wImm12 (s.word_ 5) % 256 ∈ progCodes ∧
        wImm12 (s.word_ 5) % 256 ∈ s.portProgDefects (portOf s 5) ∧ (portOf s 5).ro = false) ∧
    (∃ s : State, s = (helm stateHelmDefectsAndPatternControl1 5 fun x => { x with imem := [(0, 0x94001000)] }) ∧
      s.wf = true ∧ s.helmRuns 5 HOp.dclr 1 = true ∧ wImm12 (s.word_ 5) % 256 ∉ progCodes) ∧
    (∃ s : State, s = (helm stateHelmDefectsAndPatternControl1 5 fun x => { x with imem := [(0, 0x94019010)] }) ∧
      s.wf = true ∧ s.helmRuns 5 HOp.dclr 1 = true ∧ wImm12 (s.word_ 5) % 256 ∈ progCodes ∧ (∀ (q : Port),
        (s.helm 5).port? (wPt (s.word_ 5)) = some q → q.kind ∉ [PortKind.sliceRx, PortKind.sliceTx, PortKind.chart])) ∧
    (∃ s : State, s = (helm stateHelmDefectsAndPatternControl3 5 fun x => { x with imem := [(0, 0x94001010)] }) ∧
      s.wf = true ∧ s.helmRuns 5 HOp.dclr 1 = true ∧ (s.helm 5).port? (wPt (s.word_ 5)) = some (portOf s 5) ∧
        (portOf s 5).kind ∈ [PortKind.sliceRx, PortKind.sliceTx, PortKind.chart] ∧ wImm12 (s.word_ 5) % 256 ∈ progCodes ∧
        wImm12 (s.word_ 5) % 256 ∉ s.portProgDefects (portOf s 5)) ∧
    (∃ s : State, s = (helm stateHelmDefectsAndPatternControl3 5 fun x => { x with imem := [(0, 0x94001021)] }) ∧
      s.wf = true ∧ s.helmRuns 5 HOp.dclr 1 = true ∧ (s.helm 5).port? (wPt (s.word_ 5)) = some (portOf s 5) ∧
        (portOf s 5).kind ∈ [PortKind.sliceRx, PortKind.sliceTx, PortKind.chart] ∧ wImm12 (s.word_ 5) % 256 ∈ progCodes ∧
        wImm12 (s.word_ 5) % 256 ∈ s.portProgDefects (portOf s 5) ∧ (portOf s 5).ro = true) ∧
    (∃ s : State, s = (helm stateHelmDefectsAndPatternControl1 5 fun x => { x with imem := [(0, 0x94001010)] }) ∧
      s.wf = true ∧ s.helmRuns 5 HOp.dclr 1 = true ∧ (s.helm 5).port? (wPt (s.word_ 5)) = some (portOf s 5) ∧
        (portOf s 5).kind ∈ [PortKind.sliceRx, PortKind.sliceTx, PortKind.chart] ∧ wImm12 (s.word_ 5) % 256 ∈ progCodes ∧
        wImm12 (s.word_ 5) % 256 ∈ s.portProgDefects (portOf s 5) ∧ (portOf s 5).ro = false) ∧
    (∃ s : State, s = (helm stateHelmDefectsAndPatternControl1 5 fun x => { x with imem := [(0, 0x98000003)] }) ∧
      s.wf = true ∧ s.helmRuns 5 HOp.pstart 1 = true ∧ decide (wImm12 (s.word_ 5) % 16 < 8) = true ∧ (∀ (q : Port),
        (s.helm 5).port? (wPt (s.word_ 5)) = some q → q.kind ≠ PortKind.pattern)) ∧
    (∃ s : State, s = (helm stateHelmDefectsAndPatternControl3 5 fun x => { x with imem := [(0, 0x98020003)] }) ∧
      s.wf = true ∧ s.helmRuns 5 HOp.pstart 1 = true ∧ decide (wImm12 (s.word_ 5) % 16 < 8) = true ∧
        (s.helm 5).port? (wPt (s.word_ 5)) = some (portOf s 5) ∧ (portOf s 5).kind = PortKind.pattern ∧
        (portOf s 5).ro = true) ∧
    (∃ s : State, s = (helm stateHelmDefectsAndPatternControl1 5 fun x => { x with imem := [(0, 0x98020003)] }) ∧
      s.wf = true ∧ s.helmRuns 5 HOp.pstart 1 = true ∧ decide (wImm12 (s.word_ 5) % 16 < 8) = true ∧
        (s.helm 5).port? (wPt (s.word_ 5)) = some (portOf s 5) ∧ (portOf s 5).kind = PortKind.pattern ∧ (true = true →
        (portOf s 5).ro = false)) ∧
    (∃ s : State, s = (helm stateHelmDefectsAndPatternControl1 5 fun x => { x with imem := [(0, 0x98001000)] }) ∧
      s.wf = true ∧ s.helmRuns 5 HOp.pstop 1 = true ∧ (∀ (q : Port), (s.helm 5).port? (wPt (s.word_ 5)) = some q →
        q.kind ≠ PortKind.pattern)) ∧
    (∃ s : State, s = (helm stateHelmDefectsAndPatternControl3 5 fun x => { x with imem := [(0, 0x98021000)] }) ∧
      s.wf = true ∧ s.helmRuns 5 HOp.pstop 1 = true ∧ (s.helm 5).port? (wPt (s.word_ 5)) = some (portOf s 5) ∧
        (portOf s 5).kind = PortKind.pattern ∧ (portOf s 5).ro = true) ∧
    (∃ s : State, s = (helm stateHelmDefectsAndPatternControl1 5 fun x => { x with imem := [(0, 0x98021000)] }) ∧
      s.wf = true ∧ s.helmRuns 5 HOp.pstop 1 = true ∧ (s.helm 5).port? (wPt (s.word_ 5)) = some (portOf s 5) ∧
        (portOf s 5).kind = PortKind.pattern ∧ (true = true → (portOf s 5).ro = false)) ∧
    (∃ s : State, s = (helm stateHelmDefectsAndPatternControl1 5 fun x => { x with imem := [(0, 0x98002000)] }) ∧
      s.wf = true ∧ s.helmRuns 5 HOp.perr 1 = true ∧ (∀ (q : Port), (s.helm 5).port? (wPt (s.word_ 5)) = some q →
        q.kind ≠ PortKind.pattern)) ∧
    (∃ s : State, s = (helm stateHelmDefectsAndPatternControl3 5 fun x => { x with imem := [(0, 0x98022000)] }) ∧
      s.wf = true ∧ s.helmRuns 5 HOp.perr 1 = true ∧ (s.helm 5).port? (wPt (s.word_ 5)) = some (portOf s 5) ∧
        (portOf s 5).kind = PortKind.pattern ∧ (portOf s 5).ro = true) ∧
    (∃ s : State, s = (helm stateHelmDefectsAndPatternControl1 5 fun x => { x with imem := [(0, 0x98022000)] }) ∧
      s.wf = true ∧ s.helmRuns 5 HOp.perr 1 = true ∧ (s.helm 5).port? (wPt (s.word_ 5)) = some (portOf s 5) ∧
        (portOf s 5).kind = PortKind.pattern ∧ (true = true → (portOf s 5).ro = false)) ∧
    (∃ s : State, s = (helm stateHelmDefectsAndPatternControl1 5 fun x => { x with imem := [(0, 0x98403000)] }) ∧
      s.wf = true ∧ s.helmRuns 5 HOp.prdc 1 = true ∧ (∀ (q : Port), (s.helm 5).port? (wPt (s.word_ 5)) = some q →
        q.kind ≠ PortKind.pattern)) ∧
    (∃ s : State, s = (helm stateHelmDefectsAndPatternControl1 5 fun x => { x with imem := [(0, 0x98423000)] }) ∧
      s.wf = true ∧ s.helmRuns 5 HOp.prdc 1 = true ∧ (s.helm 5).port? (wPt (s.word_ 5)) = some (portOf s 5) ∧
        (portOf s 5).kind = PortKind.pattern ∧ (false = true → (portOf s 5).ro = false)) ∧
    (∃ s : State, s = (helm stateHelmDefectsAndPatternControl1 5 fun x => { x with imem := [(0, 0x98404000)] }) ∧
      s.wf = true ∧ s.helmRuns 5 HOp.pstat 1 = true ∧ (∀ (q : Port), (s.helm 5).port? (wPt (s.word_ 5)) = some q →
        q.kind ≠ PortKind.pattern)) ∧
    (∃ s : State, s = (helm stateHelmDefectsAndPatternControl1 5 fun x => { x with imem := [(0, 0x98424000)] }) ∧
      s.wf = true ∧ s.helmRuns 5 HOp.pstat 1 = true ∧ (s.helm 5).port? (wPt (s.word_ 5)) = some (portOf s 5) ∧
        (portOf s 5).kind = PortKind.pattern ∧ (false = true → (portOf s 5).ro = false)) ∧
    (∃ s : State, s = (helm stateHelmDefectsAndPatternControl1 5 fun x => { x with imem := [(0, 0x98405000)] }) ∧
      s.wf = true ∧ s.helmRuns 5 HOp.pword 1 = true ∧ (∀ (q : Port), (s.helm 5).port? (wPt (s.word_ 5)) = some q →
        q.kind ≠ PortKind.pattern)) ∧
    (∃ s : State, s = (helm stateHelmDefectsAndPatternControl3 5 fun x => { x with imem := [(0, 0x98425000)] }) ∧
      s.wf = true ∧ s.helmRuns 5 HOp.pword 1 = true ∧ (s.helm 5).port? (wPt (s.word_ 5)) = some (portOf s 5) ∧
        (portOf s 5).kind = PortKind.pattern ∧ (portOf s 5).ro = true) ∧
    (∃ s : State, s = (helm stateHelmDefectsAndPatternControl1 5 fun x => { x with imem := [(0, 0x98425000)] }) ∧
      s.wf = true ∧ s.helmRuns 5 HOp.pword 1 = true ∧ (s.helm 5).port? (wPt (s.word_ 5)) = some (portOf s 5) ∧
        (portOf s 5).kind = PortKind.pattern ∧ (true = true → (portOf s 5).ro = false)) :=
  ⟨⟨_, rfl, by decide +kernel⟩,
   ⟨_, rfl, by decide +kernel⟩,
   ⟨_, rfl, by decide +kernel⟩,
   ⟨_, rfl, by decide +kernel⟩,
   ⟨_, rfl, by decide +kernel⟩,
   ⟨_, rfl, by decide +kernel⟩,
   ⟨_, rfl, by decide +kernel⟩,
   ⟨_, rfl, by decide +kernel⟩,
   ⟨_, rfl, by decide +kernel⟩,
   ⟨_, rfl, by decide +kernel⟩,
   ⟨_, rfl, by decide +kernel⟩,
   ⟨_, rfl, by decide +kernel⟩,
   ⟨_, rfl, by decide +kernel⟩,
   ⟨_, rfl, by decide +kernel⟩,
   ⟨_, rfl, by decide +kernel⟩,
   ⟨_, rfl, by decide +kernel⟩,
   ⟨_, rfl, by decide +kernel⟩,
   ⟨_, rfl, by decide +kernel⟩,
   ⟨_, rfl, by decide +kernel⟩,
   ⟨_, rfl, by decide +kernel⟩,
   ⟨_, rfl, by decide +kernel⟩,
   ⟨_, rfl, by decide +kernel⟩,
   ⟨_, rfl, by decide +kernel⟩,
   ⟨_, rfl, by decide +kernel⟩,
   ⟨_, rfl, by decide +kernel⟩,
   ⟨_, rfl, by decide +kernel⟩⟩

def stateHelmTimersArmReplaceAndCancel1 : State :=
  { (helm (put up [(LINE_STAT_LSTATE, 2, 0, 0), (LINE_STAT_FORMAT, 2, 0, 0), (FR_STAT_STATE, 2, 0, 0),
    (LINE_STAT_LSTATE, 2, 8, 0), (LINE_STAT_FORMAT, 32, 8, 0), (FR_STAT_STATE, 2, 8, 0)]) 5 fun x => { x with
      ps := PState.running,
      image := some { image0 with
        handlers := [{ kind := 6, mask := 255, entry := 3, wcet := 100 }, { kind := 5, mask := 255, entry := 3, wcet := 100 }] },
      imem := [(0, 0x9c000000)],
      g := [(1, 0x12000005), (2, 0x01000000)],
      z := true,
      c := true,
      fc := 0x00008005,
      run := some { run0 with cycles := 10, limit := 1000 } }) with
    own := { up.own with ranges := [{ range0 with first := 3, count := 2 }] } }

def stateHelmTimersArmReplaceAndCancel5 : State :=
  helm stateHelmTimersArmReplaceAndCancel1 5 fun x => { x with
    timers := [(0, some { timer0 with periodic := true, due := 900000, period := 10 }),
      (1, some { timer0 with due := 1000000 }), (3, some { timer0 with periodic := true, due := 1000001, period := 10 })] }

def stateHelmTimersArmReplaceAndCancel6 : State :=
  helm stateHelmTimersArmReplaceAndCancel5 5 fun x => { x with
    queue := [{ kind := 6, port := 0, cause := 0, set := false, ovf := false, stamp := 5, payload := [] },
      { kind := 6, port := 0, cause := 1, set := false, ovf := false, stamp := 5, payload := [] },
      { kind := 6, port := 0, cause := 3, set := false, ovf := false, stamp := 5, payload := [] },
      { kind := 2, port := 0, cause := 0, set := false, ovf := false, stamp := 5, payload := [] }] }

/-- The hypotheses of Obligations.HelmTimersArmReplaceAndCancel, a state for each clause. -/
theorem witness_HelmTimersArmReplaceAndCancel :
    (∃ s : State, s = stateHelmTimersArmReplaceAndCancel1 ∧
      s.wf = true ∧ s.helmRuns 5 HOp.tarm 1 = true) ∧
    (∃ s : State, s = (helm stateHelmTimersArmReplaceAndCancel1 5 fun x => { x with imem := [(0, 0x9c440000)] }) ∧
      s.wf = true ∧ s.helmRuns 5 HOp.tarmr 1 = true) ∧
    (∃ s : State, s = (helm stateHelmTimersArmReplaceAndCancel1 5 fun x => { x with imem := [(0, 0x9c080000)] }) ∧
      s.wf = true ∧ s.helmRuns 5 HOp.tper 1 = true) ∧
    (∃ s : State, s = (helm stateHelmTimersArmReplaceAndCancel1 5 fun x => { x with imem := [(0, 0x9c0c0000)] }) ∧
      s.wf = true ∧ s.helmRuns 5 HOp.tcan 1 = true) ∧
    (∃ s : State, s = stateHelmTimersArmReplaceAndCancel5 ∧
      s.wf = true ∧ smGet none (s.helm 5).timers 3 = some ((smGet none (s.helm 5).timers 3).getD timer0) ∧
        s.tm.device < 1000 * ((smGet none (s.helm 5).timers 3).getD timer0).due ∧
        smGet none (s.helm 5).timers 0 = some ((smGet none (s.helm 5).timers 0).getD timer0) ∧
        1000 * ((smGet none (s.helm 5).timers 0).getD timer0).due ≤ s.tm.device ∧
        ((s.helm 5).queue.any fun (e : Event) => decide (e.kind = 6) && decide (e.cause = 0)) = false ∧
        (s.helm 5).takesEvents = true ∧ ((s.helm 5).handlerFor 6 0).isSome = true ∧ (s.helm 5).queue.length < 32) ∧
    (∃ s : State, s = stateHelmTimersArmReplaceAndCancel6 ∧
      s.wf = true ∧ smGet none (s.helm 5).timers 0 = some ((smGet none (s.helm 5).timers 0).getD timer0) ∧
        1000 * ((smGet none (s.helm 5).timers 0).getD timer0).due ≤ s.tm.device ∧
        ((s.helm 5).queue.any fun (e : Event) => decide (e.kind = 6) && decide (e.cause = 0)) = true) :=
  ⟨⟨_, rfl, by decide +kernel⟩,
   ⟨_, rfl, by decide +kernel⟩,
   ⟨_, rfl, by decide +kernel⟩,
   ⟨_, rfl, by decide +kernel⟩,
   ⟨_, rfl, by decide +kernel⟩,
   ⟨_, rfl, by decide +kernel⟩⟩

def statePostRaiseAndEndOfAHandler1 : State :=
  { (helm (put up [(SES_CTL_STATE, 2, 3, 0), (LINE_STAT_LSTATE, 2, 0, 0), (LINE_STAT_FORMAT, 2, 0, 0),
    (FR_STAT_STATE, 2, 0, 0), (LINE_STAT_LSTATE, 2, 8, 0), (LINE_STAT_FORMAT, 32, 8, 0), (FR_STAT_STATE, 2, 8, 0)]) 5 fun x => { x with
      ps := PState.running,
      image := some { image0 with
        handlers := [{ kind := 6, mask := 255, entry := 3, wcet := 100 }, { kind := 5, mask := 255, entry := 3, wcet := 100 },
          { kind := 7, mask := 255, entry := 9, wcet := 100 }, { kind := 2, mask := 8, entry := 9, wcet := 100 },
          { kind := 1, mask := 0, entry := 9, wcet := 100 }] },
      imem := [(0, 0xa0480000)],
      g := [(1, 0x12000005), (2, 0x01000000)],
      z := true,
      c := true,
      run := some { run0 with cycles := 10, limit := 1000 },
      loops := [{ first := 0, last := 0, left := 3 }],
      ports := [(0, some { port0 with sel := 1, ready := true, bank := List.replicate 300 7 }),
        (1, some { port0 with sel := 129, bank := List.replicate 300 7 }),
        (2, some { port0 with src := 12288, ro := true, ready := true, bank := List.replicate 300 7 }),
        (3, some { port0 with src := 16385, bank := List.replicate 300 7 }),
        (4, some { port0 with src := 28674, bank := List.replicate 300 7 }),
        (5, some { port0 with src := 28674, sel := 1, bank := List.replicate 300 7 })] }) with
    own := { up.own with ranges := [{ range0 with first := 3, count := 2 }] } }

def statePostRaiseAndEndOfAHandler5 : State :=
  helm (put statePostRaiseAndEndOfAHandler1 [(SES_CTL_STATE, 0, 3, 0)]) 5 fun x => { x with
    imem := [(0, 0x00000000)],
    ram := [(8160, 0x07)],
    queue := [{ kind := 1, port := 3, cause := 0, set := true, ovf := false, stamp := 5, payload := [] }],
    run := none,
    loops := [] }

/-- The hypotheses of Obligations.PostRaiseAndEndOfAHandler, a state for each clause. -/
theorem witness_PostRaiseAndEndOfAHandler :
    (∃ s : State, s = statePostRaiseAndEndOfAHandler1 ∧
      s.wf = true ∧ s.helmRuns 5 HOp.post 1 = true ∧ s.muted 5 = false ∧ (s.sess (s.helmOwner 5)).phase = 0) ∧
    (∃ s : State, s = (helm statePostRaiseAndEndOfAHandler1 5 fun x => { x with imem := [(0, 0xa4000002)] }) ∧
      s.wf = true ∧ s.helmRuns 5 HOp.raise 1 = true) ∧
    (∃ s : State, s = (helm statePostRaiseAndEndOfAHandler1 5 fun x => { x with imem := [(0, 0xa4010000)] }) ∧
      s.wf = true ∧ s.helmRuns 5 HOp.raises 1 = true ∧ s.muted 5 = false) ∧
    (∃ s : State, s = (helm statePostRaiseAndEndOfAHandler1 5 fun x => { x with
      imem := [(0, 0xfc000000)],
      run := some { run0 with kind := 6, cycles := 10, limit := 1000 } }) ∧
      s.wf = true ∧ s.helmRuns 5 HOp.fin 1 = true ∧ (s.helm 5).posted = [] ∧ (s.helm 5).stagedOh = [] ∧
        (s.helm 5).stagedDef = [] ∧ (s.helm 5).run = some ((s.helm 5).run.getD run0) ∧ ((s.helm 5).run.getD run0).kind ≠ 0 ∧
        ((s.helm 5).run.getD run0).kind ≠ 1) ∧
    (∃ s : State, s = statePostRaiseAndEndOfAHandler5 ∧
      s.wf = true ∧ (s.helm 5).run = none ∧ (s.helm 5).image = some ((s.helm 5).image.getD image0) ∧
        (s.helm 5).queue = (s.helm 5).queue.headD event0 :: (s.helm 5).queue.tail ∧ (s.helm 5).ps ≠ PState.faulted ∧
        ((s.helm 5).queue.headD event0).kind ≠ 0 ∧
        ((s.helm 5).image.getD image0).handlerFor ((s.helm 5).queue.headD event0).kind ((s.helm 5).queue.headD event0).port = some ((((s.helm 5).image.getD image0).handlerFor ((s.helm 5).queue.headD event0).kind ((s.helm 5).queue.headD event0).port).getD 0) ∧
        (((s.helm 5).image.getD image0).handlerFor ((s.helm 5).queue.headD event0).kind ((s.helm 5).queue.headD event0).port).getD 0 < ((s.helm 5).image.getD image0).handlers.length) :=
  ⟨⟨_, rfl, by decide +kernel⟩,
   ⟨_, rfl, by decide +kernel⟩,
   ⟨_, rfl, by decide +kernel⟩,
   ⟨_, rfl, by decide +kernel⟩,
   ⟨_, rfl, by decide +kernel⟩⟩

def stateReservedWordsAndTheWatchdogFault1 : State :=
  { (helm (put up [(LINE_STAT_LSTATE, 2, 0, 0), (LINE_STAT_FORMAT, 2, 0, 0), (FR_STAT_STATE, 2, 0, 0),
    (LINE_STAT_LSTATE, 2, 8, 0), (LINE_STAT_FORMAT, 32, 8, 0), (FR_STAT_STATE, 2, 8, 0)]) 5 fun x => { x with
      ps := PState.running,
      image := some image0,
      g := [(1, 0x00000005)],
      z := true,
      c := true,
      queue := [{ kind := 6, port := 3, cause := 1, set := true, ovf := false, stamp := 5, payload := [] }],
      run := some { run0 with kind := 6, cycles := 10, limit := 1000 },
      loops := [{ first := 0, last := 0, left := 3 }],
      stagedOh := [(1, 5, 0x09)] }) with
    own := { up.own with ranges := [{ range0 with first := 3, count := 2 }] } }

/-- The hypotheses of Obligations.ReservedWordsAndTheWatchdogFault, a state for each clause. -/
theorem witness_ReservedWordsAndTheWatchdogFault :
    (∃ s : State, s = stateReservedWordsAndTheWatchdogFault1 ∧
      s.wf = true ∧ (s.helm 5).run = some ((s.helm 5).run.getD run0) ∧ (s.helm 5).pc < 4096 ∧
        ((s.helm 5).run.getD run0).kind < 16 ∧ (s.helm 5).ps = PState.running ∧ (s.helm 5).ports = [] ∧
        (s.helm 5).progDef = [] ∧ (s.helm 5).stopWait = false ∧ ((s.helm 5).run.getD run0).kind ≠ 0) ∧
    (∃ s : State, s = (helm stateReservedWordsAndTheWatchdogFault1 5 fun x => { x with
      run := some { run0 with kind := 6, cycles := 10, limit := 10 } }) ∧
      s.wf = true ∧ (s.helm 5).run = some ((s.helm 5).run.getD run0) ∧ (s.helm 5).stall = none ∧ helmOp (s.word_ 5) = none ∧
        ((s.helm 5).run.getD run0).limit < ((s.helm 5).run.getD run0).cycles + 1) ∧
    (∃ s : State, s = (helm stateReservedWordsAndTheWatchdogFault1 5 fun x => { x with
      run := some { run0 with cycles := 10, limit := 11 } }) ∧
      s.wf = true ∧ (s.helm 5).run = some ((s.helm 5).run.getD run0) ∧ (s.helm 5).stall = none ∧ helmOp (s.word_ 5) = none ∧
        ((s.helm 5).run.getD run0).cycles + 1 ≤ ((s.helm 5).run.getD run0).limit) ∧
    (∃ s : State, s = (helm stateReservedWordsAndTheWatchdogFault1 5 fun x => { x with
      stall := some { far0 with dpa := 256, d := 1, val := 0x80000001, most := 64 } }) ∧
      s.wf = true ∧ (s.helm 5).stall = some ((s.helm 5).stall.getD far0) ∧ (s.helm 5).run = some ((s.helm 5).run.getD run0)) :=
  ⟨⟨_, rfl, by decide +kernel⟩,
   ⟨_, rfl, by decide +kernel⟩,
   ⟨_, rfl, by decide +kernel⟩,
   ⟨_, rfl, by decide +kernel⟩⟩

/-- The hypotheses of Obligations.NopAndQueriesAnswerTheirBytes, a state for each clause. -/
theorem witness_NopAndQueriesAnswerTheirBytes :
    (∃ s : State, s = { up3 with ops := [op 3 7 0x0 65535 []] } ∧
      opIn s 3 7 0x0 = true) ∧
    (∃ s : State, s = { up3 with ops := [op 3 7 0x3f 8197 [0, 0, 7]] } ∧
      opIn s 3 7 0x3F = true ∧ (opOf s 3 7).par 0 = 0) ∧
    (∃ s : State, s = { up3 with ops := [op 0 7 0x3f 0 [1, 24, 9], op 0 9 0x21 5 []] } ∧
      opIn s 0 7 0x3F = true ∧ (opOf s 0 7).par 0 = 1) ∧
    (∃ s : State, s = { up3 with ops := [op 3 7 0x3f 8197 [2, 0, 7]] } ∧
      opIn s 3 7 0x3F = true ∧ (s.op? 3 ((opOf s 3 7).par 2)).isSome = true ∧ (opOf s 3 7).par 0 = 2) ∧
    (∃ s : State, s = { up3 with ops := [op 3 7 0x3f 8197 [3, 0, 7]] } ∧
      opIn s 3 7 0x3F = true ∧ (opOf s 3 7).par 0 = 3) ∧
    (∃ s : State, s = { up3 with ops := [op 0 7 0x3f 0 [4, 24, 9], op 0 9 0x21 5 []] } ∧
      opIn s 0 7 0x3F = true ∧ (opOf s 0 7).par 0 = 4) ∧
    (∃ s : State, s = { up3 with ops := [op 0 7 0x3f 0 [5, 12, 9], op 0 9 0x21 5 []] } ∧
      opIn s 0 7 0x3F = true ∧ (opOf s 0 7).par 0 = 5) :=
  ⟨⟨_, rfl, by decide +kernel⟩,
   ⟨_, rfl, by decide +kernel⟩,
   ⟨_, rfl, by decide +kernel⟩,
   ⟨_, rfl, by decide +kernel⟩,
   ⟨_, rfl, by decide +kernel⟩,
   ⟨_, rfl, by decide +kernel⟩,
   ⟨_, rfl, by decide +kernel⟩⟩

/-- The hypotheses of Obligations.DoorbellsMoveTheRingsOrAreCounted, a state for each clause. -/
theorem witness_DoorbellsMoveTheRingsOrAreCounted :
    (∃ s : State, s = up ∧
      s.wf = true ∧ s.tlpIn.bellOn 3 = false ∧ s.tlpIn.bellOn 0 = true ∧ (s.tlpIn.flag SQ_CFG_EN = false ∨
        s.tlpIn.sqSize 0 0 ≤ 0) ∧ (s.tlpIn.flag CQ_CFG_EN = false ∨ 2 ^ ringLog2 (s.tlpIn.rd CQ_CFG_LOG2_SIZE) ≤ 0) ∧
        (s.tlpIn.flag EQ_CFG_EN = false ∨ s.tlpIn.eqSize 0 ≤ 0)) ∧
    (∃ s : State, s = up3 ∧
      s.wf = true ∧ s.tlpIn.bellOn 3 = true ∧ s.tlpIn.flag SQ_CFG_EN 3 = true ∧ 0 < s.tlpIn.sqSize 3 0 ∧
        s.tlpIn.flag CQ_CFG_EN 3 = true ∧ (s.tlpIn.sess 3).cqRead ≤ (s.tlpIn.sess 3).cqWritten ∧
        (s.tlpIn.sess 3).cqRead + 0 ≤ (s.tlpIn.sess 3).cqWritten ∧ 0 < 2 ^ ringLog2 (s.tlpIn.rd CQ_CFG_LOG2_SIZE 3) ∧
        0 = ((s.tlpIn.sess 3).cqRead + 0) % 2 ^ ringLog2 (s.tlpIn.rd CQ_CFG_LOG2_SIZE 3) ∧ s.tlpIn.flag EQ_CFG_EN 3 = true ∧
        (s.tlpIn.sess 3).eqRead + 0 ≤ (s.tlpIn.sess 3).eqWritten ∧ 0 < s.tlpIn.eqSize 3 ∧
        0 = ((s.tlpIn.sess 3).eqRead + 0) % s.tlpIn.eqSize 3) :=
  ⟨⟨_, rfl, by decide +kernel⟩,
   ⟨_, rfl, by decide +kernel⟩⟩

def stateHostReadsCompleteFailAndQuarantineTheirTags2 : State :=
  { up3 with
    host := { up3.host with
      reads := [{ read0 with tag := 1, func := 3, purpose := ReadFor.data 3 7, len := 64, issued := 100, discard := true }] },
    ops := [{ op 3 7 0x14 8197 [] with data := [1, 2], want := 96 }] }

def stateHostReadsCompleteFailAndQuarantineTheirTags5 : State :=
  { up3 with
    host := { up3.host with
      reads := [{ read0 with tag := 1, func := 3, purpose := ReadFor.data 3 7, len := 64, issued := 1000000000 },
        { read0 with tag := 1, func := 3, purpose := ReadFor.data 3 7, len := 64, issued := 100, abandoned := true }] },
    ops := [{ op 3 7 0x14 8197 [] with data := [1, 2], want := 96 }] }

def stateHostReadsCompleteFailAndQuarantineTheirTags6 : State :=
  { up3 with
    host := { up3.host with
      reads := [{ read0 with
        tag := 1,
        func := 3,
        purpose := ReadFor.data 3 7,
        len := 64,
        issued := 1000000000,
        abandoned := true }] },
    ops := [{ op 3 7 0x14 8197 [] with data := [1, 2], want := 96 }] }

/-- The hypotheses of Obligations.HostReadsCompleteFailAndQuarantineTheirTags, a state for each clause. -/
theorem witness_HostReadsCompleteFailAndQuarantineTheirTags :
    (∃ s : State, s = { up3 with
      host := { up3.host with
        reads := [{ read0 with tag := 1, func := 3, purpose := ReadFor.data 3 7, len := 64, issued := 1000000000 }] },
      ops := [{ op 3 7 0x14 8197 [] with data := [1, 2], want := 96 }] } ∧
      s.wf = true ∧ s.waiting? 0 = none ∧ s.waiting? 1 = some ((s.waiting? 1).getD read0) ∧
        ((s.waiting? 1).getD read0).purpose = ReadFor.data 3 7 ∧ s.op? 3 7 = some (opOf s 3 7) ∧ (opOf s 3 7).live = true ∧
        ((s.waiting? 1).getD read0).discard = false ∧
        s.clock < ((s.waiting? 1).getD read0).issued + 1000000 * (s.fn ((s.waiting? 1).getD read0).func).ctoMs ∧
        (opOf s 3 7).st ≠ OpState.halted ∧ (s.host.reads.any fun (r : HostRead) => decide (r.tag = 0) && r.abandoned) = false) ∧
    (∃ s : State, s = stateHostReadsCompleteFailAndQuarantineTheirTags2 ∧
      s.wf = true ∧ s.waiting? 1 = some ((s.waiting? 1).getD read0) ∧ ((s.waiting? 1).getD read0).purpose = ReadFor.data 3 7 ∧
        s.op? 3 7 = some (opOf s 3 7) ∧ (opOf s 3 7).live = true ∧ ((s.waiting? 1).getD read0).discard = true) ∧
    (∃ s : State, s = { up3 with
      host := { up3.host with
        reads := [{ read0 with tag := 1, func := 3, purpose := ReadFor.data 3 7, len := 64, issued := 100 }] },
      ops := [{ op 3 7 0x14 8197 [] with data := [1, 2], want := 96 }] } ∧
      s.wf = true ∧ s.waiting? 1 = some ((s.waiting? 1).getD read0) ∧ ((s.waiting? 1).getD read0).purpose = ReadFor.data 3 7 ∧
        s.op? 3 7 = some (opOf s 3 7) ∧ (opOf s 3 7).live = true ∧
        ((s.waiting? 1).getD read0).issued + 1000000 * (s.fn ((s.waiting? 1).getD read0).func).ctoMs ≤ s.clock ∧
        ((s.waiting? 1).getD read0).discard = false ∧ (opOf s 3 7).st ≠ OpState.halted) ∧
    (∃ s : State, s = { up3 with
      host := { up3.host with
        reads := [{ read0 with tag := 1, func := 3, purpose := ReadFor.fetch 3 0, len := 128, issued := 100 }] },
      ops := [{ op 3 7 0x14 8197 [] with data := [1, 2], want := 96 }] } ∧
      s.wf = true ∧ s.waiting? 1 = some ((s.waiting? 1).getD read0) ∧ ((s.waiting? 1).getD read0).purpose = ReadFor.fetch 3 0 ∧
        (s.sess 3).fetched.length = 4 ∧ ((s.waiting? 1).getD read0).discard = false ∧ s.tlpIn.flag SQ_CFG_EN 3 = true ∧ [0#8,
        1#8, 2#8, 3#8, 4#8, 5#8, 6#8, 7#8, 8#8, 9#8, 10#8, 11#8, 12#8, 13#8, 14#8, 15#8, 16#8, 17#8, 18#8, 19#8, 20#8, 21#8,
        22#8, 23#8, 24#8, 25#8, 26#8, 27#8, 28#8, 29#8, 30#8, 31#8, 32#8, 33#8, 34#8, 35#8, 36#8, 37#8, 38#8, 39#8, 40#8, 41#8,
        42#8, 43#8, 44#8, 45#8, 46#8, 47#8, 48#8, 49#8, 50#8, 51#8, 52#8, 53#8, 54#8, 55#8, 56#8, 57#8, 58#8, 59#8, 60#8, 61#8,
        62#8, 63#8, 64#8, 65#8, 66#8, 67#8, 68#8, 69#8, 70#8, 71#8, 72#8, 73#8, 74#8, 75#8, 76#8, 77#8, 78#8, 79#8, 80#8, 81#8,
        82#8, 83#8, 84#8, 85#8, 86#8, 87#8, 88#8, 89#8, 90#8, 91#8, 92#8, 93#8, 94#8, 95#8, 96#8, 97#8, 98#8, 99#8, 100#8,
        101#8, 102#8, 103#8, 104#8, 105#8, 106#8, 107#8, 108#8, 109#8, 110#8, 111#8, 112#8, 113#8, 114#8, 115#8, 116#8, 117#8,
        118#8, 119#8, 120#8, 121#8, 122#8, 123#8, 124#8, 125#8, 126#8, 127#8].length = ((s.waiting? 1).getD read0).len ∧
        ((s.waiting? 1).getD read0).len % 64 = 0) ∧
    (∃ s : State, s = stateHostReadsCompleteFailAndQuarantineTheirTags5 ∧
      s.wf = true ∧ (s.host.reads.any fun (r : HostRead) => decide (r.tag = 1) && r.abandoned) = true ∧
        List.find? (fun (r : HostRead) => decide (r.tag = 1) && r.abandoned) s.host.reads = some ((List.find? (fun (r : HostRead) => decide (r.tag = 1) && r.abandoned) s.host.reads).getD read0) ∧
        ((List.find? (fun (r : HostRead) => decide (r.tag = 1) && r.abandoned) s.host.reads).getD read0).issued + 1000000 * (s.fn ((List.find? (fun (r : HostRead) => decide (r.tag = 1) && r.abandoned) s.host.reads).getD read0).func).ctoMs ≤ s.clock) ∧
    (∃ s : State, s = stateHostReadsCompleteFailAndQuarantineTheirTags6 ∧
      s.wf = true ∧
        List.find? (fun (r : HostRead) => decide (r.tag = 1) && r.abandoned) s.host.reads = some ((List.find? (fun (r : HostRead) => decide (r.tag = 1) && r.abandoned) s.host.reads).getD read0) ∧
        s.clock < ((List.find? (fun (r : HostRead) => decide (r.tag = 1) && r.abandoned) s.host.reads).getD read0).issued + 1000000 * (s.fn ((List.find? (fun (r : HostRead) => decide (r.tag = 1) && r.abandoned) s.host.reads).getD read0).func).ctoMs) :=
  ⟨⟨_, rfl, by decide +kernel⟩,
   ⟨_, rfl, by decide +kernel⟩,
   ⟨_, rfl, by decide +kernel⟩,
   ⟨_, rfl, by decide +kernel⟩,
   ⟨_, rfl, by decide +kernel⟩,
   ⟨_, rfl, by decide +kernel⟩⟩

def stateRecordsAreAdmittedStartedAndCompleted1 : State :=
  { (sess up3 3 fun x => { x with
    fetched := [[], [([0x00, 0x00, 0x07, 0x00, 0xff, 0xff, 0x00, 0x00, 0x00, 0x20] ++ List.replicate 54 0x00)],
      [([0x00, 0x00, 0x07, 0x00, 0xff, 0xff, 0x00, 0x00, 0x00, 0x20] ++ List.replicate 54 0x00),
        ([0x00, 0x00, 0x07, 0x00, 0xff, 0xff, 0x00, 0x00, 0x00, 0x20] ++ List.replicate 54 0x00)], []],
    cqWritten := 15 }) with
    ops := [op 3 8 0x21 5 []] }

/-- The hypotheses of Obligations.RecordsAreAdmittedStartedAndCompleted, a state for each clause. -/
theorem witness_RecordsAreAdmittedStartedAndCompleted :
    (∃ s : State, s = stateRecordsAreAdmittedStartedAndCompleted1 ∧
      s.wf = true ∧ s.admits = true ∧ s.nextSes? = some (s.nextSes?.getD 0) ∧
        (s.sess (s.nextSes?.getD 0)).nextRec? = some (((s.sess (s.nextSes?.getD 0)).nextRec?.getD (0, [])).1,
        ((s.sess (s.nextSes?.getD 0)).nextRec?.getD (0, [])).2) ∧
        s.slotsFree (s.nextSes?.getD 0) < if (parseRec (s.nextSes?.getD 0) ((s.sess (s.nextSes?.getD 0)).nextRec?.getD (0,
        [])).1 ((s.sess (s.nextSes?.getD 0)).nextRec?.getD (0, [])).2).opcode = 56 then 2 else 1) ∧
    (∃ s : State, s = { (sess stateRecordsAreAdmittedStartedAndCompleted1 3 fun x => { x with cqWritten := 0 }) with ops := [] } ∧
      s.wf = true ∧ s.admits = true ∧ s.nextSes? = some (s.nextSes?.getD 0) ∧
        (s.sess (s.nextSes?.getD 0)).nextRec? = some (((s.sess (s.nextSes?.getD 0)).nextRec?.getD (0, [])).1,
        ((s.sess (s.nextSes?.getD 0)).nextRec?.getD (0, [])).2) ∧
        (if (parseRec (s.nextSes?.getD 0) ((s.sess (s.nextSes?.getD 0)).nextRec?.getD (0,
        [])).1 ((s.sess (s.nextSes?.getD 0)).nextRec?.getD (0,
        [])).2).opcode = 56 then 2 else 1) ≤ s.slotsFree (s.nextSes?.getD 0) ∧
        s.admitCheck (s.nextSes?.getD 0) ((s.sess (s.nextSes?.getD 0)).nextRec?.getD (0,
        [])).2 { (parseRec (s.nextSes?.getD 0) ((s.sess (s.nextSes?.getD 0)).nextRec?.getD (0, [])).1 ((s.sess (s.nextSes?.getD 0)).nextRec?.getD (0, [])).2) with admitTime := s.clock, admitDev := s.tm.device, seq := s.nextSeq } = some (((s.admitCheck (s.nextSes?.getD 0) ((s.sess (s.nextSes?.getD 0)).nextRec?.getD (0,
        [])).2 { (parseRec (s.nextSes?.getD 0) ((s.sess (s.nextSes?.getD 0)).nextRec?.getD (0, [])).1 ((s.sess (s.nextSes?.getD 0)).nextRec?.getD (0, [])).2) with admitTime := s.clock, admitDev := s.tm.device, seq := s.nextSeq }).getD (0,
        0)).1, ((s.admitCheck (s.nextSes?.getD 0) ((s.sess (s.nextSes?.getD 0)).nextRec?.getD (0,
        [])).2 { (parseRec (s.nextSes?.getD 0) ((s.sess (s.nextSes?.getD 0)).nextRec?.getD (0, [])).1 ((s.sess (s.nextSes?.getD 0)).nextRec?.getD (0, [])).2) with admitTime := s.clock, admitDev := s.tm.device, seq := s.nextSeq }).getD (0,
        0)).2)) ∧
    (∃ s : State, s = (sess up3 3 fun x => { x with fetched := [[], [[]], [[], []], []] }) ∧
      s.wf = true ∧ s.admits = true ∧ s.nextSes? = some (s.nextSes?.getD 0) ∧
        (s.sess (s.nextSes?.getD 0)).nextRec? = some (((s.sess (s.nextSes?.getD 0)).nextRec?.getD (0, [])).1,
        ((s.sess (s.nextSes?.getD 0)).nextRec?.getD (0, [])).2) ∧
        (if (parseRec (s.nextSes?.getD 0) ((s.sess (s.nextSes?.getD 0)).nextRec?.getD (0,
        [])).1 ((s.sess (s.nextSes?.getD 0)).nextRec?.getD (0,
        [])).2).opcode = 56 then 2 else 1) ≤ s.slotsFree (s.nextSes?.getD 0) ∧
        s.admitCheck (s.nextSes?.getD 0) ((s.sess (s.nextSes?.getD 0)).nextRec?.getD (0,
        [])).2 { (parseRec (s.nextSes?.getD 0) ((s.sess (s.nextSes?.getD 0)).nextRec?.getD (0, [])).1 ((s.sess (s.nextSes?.getD 0)).nextRec?.getD (0, [])).2) with admitTime := s.clock, admitDev := s.tm.device, seq := s.nextSeq } = none ∧
        { (parseRec (s.nextSes?.getD 0) ((s.sess (s.nextSes?.getD 0)).nextRec?.getD (0, [])).1 ((s.sess (s.nextSes?.getD 0)).nextRec?.getD (0, [])).2) with admitTime := s.clock, admitDev := s.tm.device, seq := s.nextSeq }.deferred = false) ∧
    (∃ s : State, s = State.reset ∧
      s.admits = false) ∧
    (∃ s : State, s = { up3 with ops := [{ op 3 7 0x0 3 [0, 1, 64] with st := OpState.queued, started := false }] } ∧
      s.wf = true ∧ s.op? 3 7 = some (opOf s 3 7) ∧ (opOf s 3 7).st = OpState.queued ∧ (opOf s 3 7).waits = true ∧
        (opOf s 3 7).stage ≠ 8 ∧ s.working = true ∧ s.mayStart (opOf s 3 7) = true) ∧
    (∃ s : State, s = { up3 with
      ops := [{ op 3 7 0x0 65535 [] with ring := 2, fin := some { status := 0, result := 0, time := 12345678 } }] } ∧
      s.wf = true ∧ s.nextEnded? 3 = some ((s.nextEnded? 3).getD op0) ∧
        ((s.nextEnded? 3).getD op0).fin = some (((s.nextEnded? 3).getD op0).fin.getD end0) ∧
        ((s.nextEnded? 3).getD op0).outp = [] ∧ ((s.nextEnded? 3).getD op0).sess = 3 ∧ (s.fn 3).bme = true ∧
        resultOpen ((s.nextEnded? 3).getD op0) (((s.nextEnded? 3).getD op0).fin.getD end0) = false) :=
  ⟨⟨_, rfl, by decide +kernel⟩,
   ⟨_, rfl, by decide +kernel⟩,
   ⟨_, rfl, by decide +kernel⟩,
   ⟨_, rfl, by decide +kernel⟩,
   ⟨_, rfl, by decide +kernel⟩,
   ⟨_, rfl, by decide +kernel⟩⟩

/-- The hypotheses of Obligations.SuspendResumeAndCancelReportTheirOutcome, a state for each clause. -/
theorem witness_SuspendResumeAndCancelReportTheirOutcome :
    (∃ s : State, s = { (chute up3 1 fun x => { x with consumer := 1, conSess := 3, conTag := 9 }) with
      ops := [{ op 3 7 0x30 65535 [9] with seq := 9 }] } ∧
      s.wf = true ∧
        (s.ops.any fun (y : Op) => decide (y.sess = 3) && y.live && isControl y.opcode && decide (y.seq < (opOf s 3 7).seq)) = false ∧
        opIn s 3 7 0x30 = true ∧ (opOf s 3 7).par 0 ≠ 7 ∧ s.op? 3 ((opOf s 3 7).par 0) = none) ∧
    (∃ s : State, s = { (chute up3 1 fun x => { x with consumer := 1, conSess := 3, conTag := 9 }) with
      ops := [{ op 3 7 0x30 65535 [9] with seq := 9 }, op 3 9 0x0 3 [0, 1, 64]] } ∧
      s.wf = true ∧
        (s.ops.any fun (y : Op) => decide (y.sess = 3) && y.live && isControl y.opcode && decide (y.seq < (opOf s 3 7).seq)) = false ∧
        opIn s 3 7 0x30 = true ∧ (opOf s 3 7).par 0 ≠ 7 ∧
        s.op? 3 ((opOf s 3 7).par 0) = some ((s.op? 3 ((opOf s 3 7).par 0)).getD op0) ∧
        isLong ((s.op? 3 ((opOf s 3 7).par 0)).getD op0).opcode = false) ∧
    (∃ s : State, s = { (chute up3 1 fun x => { x with consumer := 1, conSess := 3, conTag := 9 }) with
      ops := [{ op 3 7 0x30 65535 [9] with seq := 9 },
        { op 3 9 0x10 3 [0, 1, 64] with fin := some { status := 0, result := 0, time := 1 } }] } ∧
      s.wf = true ∧
        (s.ops.any fun (y : Op) => decide (y.sess = 3) && y.live && isControl y.opcode && decide (y.seq < (opOf s 3 7).seq)) = false ∧
        opIn s 3 7 0x30 = true ∧ (opOf s 3 7).par 0 ≠ 7 ∧
        s.op? 3 ((opOf s 3 7).par 0) = some ((s.op? 3 ((opOf s 3 7).par 0)).getD op0) ∧
        isLong ((s.op? 3 ((opOf s 3 7).par 0)).getD op0).opcode = true ∧ ((s.op? 3 ((opOf s 3 7).par 0)).getD op0).fin ≠ none) ∧
    (∃ s : State, s = { (chute up3 1 fun x => { x with consumer := 1, conSess := 3, conTag := 9 }) with
      ops := [{ op 3 7 0x31 65535 [9] with seq := 9 }] } ∧
      s.wf = true ∧
        (s.ops.any fun (y : Op) => decide (y.sess = 3) && y.live && isControl y.opcode && decide (y.seq < (opOf s 3 7).seq)) = false ∧
        opIn s 3 7 0x31 = true ∧ (opOf s 3 7).par 0 ≠ 7 ∧ s.op? 3 ((opOf s 3 7).par 0) = none) ∧
    (∃ s : State, s = { (chute up3 1 fun x => { x with consumer := 1, conSess := 3, conTag := 9 }) with
      ops := [{ op 3 7 0x31 65535 [9] with seq := 9 }, op 3 9 0x0 3 [0, 1, 64]] } ∧
      s.wf = true ∧
        (s.ops.any fun (y : Op) => decide (y.sess = 3) && y.live && isControl y.opcode && decide (y.seq < (opOf s 3 7).seq)) = false ∧
        opIn s 3 7 0x31 = true ∧ (opOf s 3 7).par 0 ≠ 7 ∧
        s.op? 3 ((opOf s 3 7).par 0) = some ((s.op? 3 ((opOf s 3 7).par 0)).getD op0) ∧
        isLong ((s.op? 3 ((opOf s 3 7).par 0)).getD op0).opcode = false) ∧
    (∃ s : State, s = { (chute up3 1 fun x => { x with consumer := 1, conSess := 3, conTag := 9 }) with
      ops := [{ op 3 7 0x31 65535 [9] with seq := 9 },
        { op 3 9 0x10 3 [0, 1, 64] with fin := some { status := 0, result := 0, time := 1 } }] } ∧
      s.wf = true ∧
        (s.ops.any fun (y : Op) => decide (y.sess = 3) && y.live && isControl y.opcode && decide (y.seq < (opOf s 3 7).seq)) = false ∧
        opIn s 3 7 0x31 = true ∧ (opOf s 3 7).par 0 ≠ 7 ∧
        s.op? 3 ((opOf s 3 7).par 0) = some ((s.op? 3 ((opOf s 3 7).par 0)).getD op0) ∧
        isLong ((s.op? 3 ((opOf s 3 7).par 0)).getD op0).opcode = true ∧ ((s.op? 3 ((opOf s 3 7).par 0)).getD op0).fin ≠ none) ∧
    (∃ s : State, s = { (chute up3 1 fun x => { x with consumer := 1, conSess := 3, conTag := 9 }) with
      ops := [{ op 3 7 0x32 65535 [9] with seq := 9 }] } ∧
      s.wf = true ∧
        (s.ops.any fun (y : Op) => decide (y.sess = 3) && y.live && isControl y.opcode && decide (y.seq < (opOf s 3 7).seq)) = false ∧
        opIn s 3 7 0x32 = true ∧ (opOf s 3 7).par 0 ≠ 7 ∧ s.op? 3 ((opOf s 3 7).par 0) = none) ∧
    (∃ s : State, s = { (chute up3 1 fun x => { x with consumer := 1, conSess := 3, conTag := 9 }) with
      ops := [{ op 3 7 0x32 65535 [9] with seq := 9 }, op 3 9 0x0 3 [0, 1, 64]] } ∧
      s.wf = true ∧
        (s.ops.any fun (y : Op) => decide (y.sess = 3) && y.live && isControl y.opcode && decide (y.seq < (opOf s 3 7).seq)) = false ∧
        opIn s 3 7 0x32 = true ∧ (opOf s 3 7).par 0 ≠ 7 ∧
        s.op? 3 ((opOf s 3 7).par 0) = some ((s.op? 3 ((opOf s 3 7).par 0)).getD op0) ∧
        isLong ((s.op? 3 ((opOf s 3 7).par 0)).getD op0).opcode = false) ∧
    (∃ s : State, s = { (chute up3 1 fun x => { x with consumer := 1, conSess := 3, conTag := 9 }) with
      ops := [{ op 3 7 0x32 65535 [9] with seq := 9 },
        { op 3 9 0x10 3 [0, 1, 64] with fin := some { status := 0, result := 0, time := 1 } }] } ∧
      s.wf = true ∧
        (s.ops.any fun (y : Op) => decide (y.sess = 3) && y.live && isControl y.opcode && decide (y.seq < (opOf s 3 7).seq)) = false ∧
        opIn s 3 7 0x32 = true ∧ (opOf s 3 7).par 0 ≠ 7 ∧
        s.op? 3 ((opOf s 3 7).par 0) = some ((s.op? 3 ((opOf s 3 7).par 0)).getD op0) ∧
        isLong ((s.op? 3 ((opOf s 3 7).par 0)).getD op0).opcode = true ∧ ((s.op? 3 ((opOf s 3 7).par 0)).getD op0).fin ≠ none) ∧
    (∃ s : State, s = { (chute up3 1 fun x => { x with consumer := 1, conSess := 3, conTag := 9 }) with
      ops := [{ op 3 7 0x30 65535 [9] with seq := 9 }, { op 3 9 0x10 3 [0, 1, 64] with st := OpState.suspended }] } ∧
      s.wf = true ∧
        (s.ops.any fun (y : Op) => decide (y.sess = 3) && y.live && isControl y.opcode && decide (y.seq < (opOf s 3 7).seq)) = false ∧
        s.op? 3 ((opOf s 3 7).par 0) = some ((s.op? 3 ((opOf s 3 7).par 0)).getD op0) ∧
        isLong ((s.op? 3 ((opOf s 3 7).par 0)).getD op0).opcode = true ∧ ((s.op? 3 ((opOf s 3 7).par 0)).getD op0).fin = none ∧
        ¬(((s.op? 3 ((opOf s 3 7).par 0)).getD op0).opcode = 25 ∧ ((s.op? 3 ((opOf s 3 7).par 0)).getD op0).stage = 1) ∧
        (opOf s 3 7).par 0 ≠ 7 ∧ ((s.op? 3 ((opOf s 3 7).par 0)).getD op0).st = OpState.suspended ∧ opIn s 3 7 0x30 = true) ∧
    (∃ s : State, s = { (chute up3 1 fun x => { x with consumer := 1, conSess := 3, conTag := 9 }) with
      ops := [{ op 3 7 0x31 65535 [9] with seq := 9 }, op 3 9 0x10 3 [0, 1, 64]] } ∧
      s.wf = true ∧
        (s.ops.any fun (y : Op) => decide (y.sess = 3) && y.live && isControl y.opcode && decide (y.seq < (opOf s 3 7).seq)) = false ∧
        s.op? 3 ((opOf s 3 7).par 0) = some ((s.op? 3 ((opOf s 3 7).par 0)).getD op0) ∧
        isLong ((s.op? 3 ((opOf s 3 7).par 0)).getD op0).opcode = true ∧ ((s.op? 3 ((opOf s 3 7).par 0)).getD op0).fin = none ∧
        ¬(((s.op? 3 ((opOf s 3 7).par 0)).getD op0).opcode = 25 ∧ ((s.op? 3 ((opOf s 3 7).par 0)).getD op0).stage = 1) ∧
        (opOf s 3 7).par 0 ≠ 7 ∧ ((s.op? 3 ((opOf s 3 7).par 0)).getD op0).st = OpState.running ∧ opIn s 3 7 0x31 = true) ∧
    (∃ s : State, s = { (chute up3 1 fun x => { x with consumer := 1, conSess := 3, conTag := 9 }) with
      ops := [{ op 3 7 0x30 65535 [9] with seq := 9 }, op 3 9 0x21 16385 [0, 1, 64]] } ∧
      s.wf = true ∧
        (s.ops.any fun (y : Op) => decide (y.sess = 3) && y.live && isControl y.opcode && decide (y.seq < (opOf s 3 7).seq)) = false ∧
        s.op? 3 ((opOf s 3 7).par 0) = some ((s.op? 3 ((opOf s 3 7).par 0)).getD op0) ∧
        isLong ((s.op? 3 ((opOf s 3 7).par 0)).getD op0).opcode = true ∧ ((s.op? 3 ((opOf s 3 7).par 0)).getD op0).fin = none ∧
        ¬(((s.op? 3 ((opOf s 3 7).par 0)).getD op0).opcode = 25 ∧ ((s.op? 3 ((opOf s 3 7).par 0)).getD op0).stage = 1) ∧
        (opOf s 3 7).par 0 ≠ 7 ∧ ((s.op? 3 ((opOf s 3 7).par 0)).getD op0).opcode = 33 ∧
        ((s.op? 3 ((opOf s 3 7).par 0)).getD op0).st = OpState.running ∧ opIn s 3 7 0x30 = true) ∧
    (∃ s : State, s = { (chute up3 1 fun x => { x with consumer := 1, conSess := 3, conTag := 9 }) with
      ops := [{ op 3 7 0x31 65535 [9] with seq := 9 }, { op 3 9 0x21 16385 [0, 1, 64] with st := OpState.suspended }] } ∧
      s.wf = true ∧
        (s.ops.any fun (y : Op) => decide (y.sess = 3) && y.live && isControl y.opcode && decide (y.seq < (opOf s 3 7).seq)) = false ∧
        s.op? 3 ((opOf s 3 7).par 0) = some ((s.op? 3 ((opOf s 3 7).par 0)).getD op0) ∧
        isLong ((s.op? 3 ((opOf s 3 7).par 0)).getD op0).opcode = true ∧ ((s.op? 3 ((opOf s 3 7).par 0)).getD op0).fin = none ∧
        ¬(((s.op? 3 ((opOf s 3 7).par 0)).getD op0).opcode = 25 ∧ ((s.op? 3 ((opOf s 3 7).par 0)).getD op0).stage = 1) ∧
        (opOf s 3 7).par 0 ≠ 7 ∧ ((s.op? 3 ((opOf s 3 7).par 0)).getD op0).opcode = 33 ∧
        ((s.op? 3 ((opOf s 3 7).par 0)).getD op0).st = OpState.suspended ∧
        ((s.op? 3 ((opOf s 3 7).par 0)).getD op0).started = true ∧ opIn s 3 7 0x31 = true) ∧
    (∃ s : State, s = { (chute up3 1 fun x => { x with consumer := 1, conSess := 3, conTag := 9 }) with
      ops := [{ op 3 7 0x32 65535 [9] with seq := 9 }, op 3 9 0x21 16385 [0, 1, 64]] } ∧
      s.wf = true ∧
        (s.ops.any fun (y : Op) => decide (y.sess = 3) && y.live && isControl y.opcode && decide (y.seq < (opOf s 3 7).seq)) = false ∧
        s.op? 3 ((opOf s 3 7).par 0) = some ((s.op? 3 ((opOf s 3 7).par 0)).getD op0) ∧
        isLong ((s.op? 3 ((opOf s 3 7).par 0)).getD op0).opcode = true ∧ ((s.op? 3 ((opOf s 3 7).par 0)).getD op0).fin = none ∧
        ¬(((s.op? 3 ((opOf s 3 7).par 0)).getD op0).opcode = 25 ∧ ((s.op? 3 ((opOf s 3 7).par 0)).getD op0).stage = 1) ∧
        (opOf s 3 7).par 0 ≠ 7 ∧ ((s.op? 3 ((opOf s 3 7).par 0)).getD op0).opcode = 33 ∧
        ((s.op? 3 ((opOf s 3 7).par 0)).getD op0).st = OpState.running ∧ opIn s 3 7 0x32 = true) :=
  ⟨⟨_, rfl, by decide +kernel⟩,
   ⟨_, rfl, by decide +kernel⟩,
   ⟨_, rfl, by decide +kernel⟩,
   ⟨_, rfl, by decide +kernel⟩,
   ⟨_, rfl, by decide +kernel⟩,
   ⟨_, rfl, by decide +kernel⟩,
   ⟨_, rfl, by decide +kernel⟩,
   ⟨_, rfl, by decide +kernel⟩,
   ⟨_, rfl, by decide +kernel⟩,
   ⟨_, rfl, by decide +kernel⟩,
   ⟨_, rfl, by decide +kernel⟩,
   ⟨_, rfl, by decide +kernel⟩,
   ⟨_, rfl, by decide +kernel⟩,
   ⟨_, rfl, by decide +kernel⟩⟩

/-- The hypotheses of Obligations.TheLinkTrainsSleepsAndWakes, a state for each clause. -/
theorem witness_TheLinkTrainsSleepsAndWakes :
    (∃ s : State, s = (put State.reset [(BY_STAT_STATE, 2, 0, 4), (KP_DOM, 16386, 0, 0)]) ∧
      s.wf = true ∧ s.eDieOn = true ∧ s.host.perst = false ∧ s.boot.phase ≠ 3 ∧ s.ready = false) ∧
    (∃ s : State, s = { State.reset with host := { State.reset.host with perst := true } } ∧
      s.wf = true ∧ s.host.perst = true ∧ (s.host.aspmL1 = false ∨ s.rd GL_LINK_STAT_LINK ≠ 1) ∧ s.rd GL_LINK_STAT_LINK ≠ 3) ∧
    (∃ s : State, s = { up with host := { up.host with aspmL1 := true } } ∧
      s.wf = true ∧ s.working = true ∧ s.host.aspmL1 = true ∧ s.rd GL_LINK_STAT_LINK = 1 ∧
        s.host.idleSince + 1000 * max 1 (s.rd GL_HOST_CTL_L1_IDLE) ≤ s.clock ∧ 1 ≤ s.rd GL_LINK_STAT_LINK ∧
        s.rd GL_LINK_STAT_LINK ≤ 3 ∧ s.ready = true) ∧
    (∃ s : State, s = { (put up [(GL_LINK_STAT_LINK, 3, 0, 0)]) with host := { up.host with clkreqLow := false } } ∧
      s.wf = true ∧ s.working = true ∧ s.rd GL_LINK_STAT_LINK = 3) :=
  ⟨⟨_, rfl, by decide +kernel⟩,
   ⟨_, rfl, by decide +kernel⟩,
   ⟨_, rfl, by decide +kernel⟩,
   ⟨_, rfl, by decide +kernel⟩⟩

/-- The hypotheses of Obligations.LossOfTheLinkAndStalledStagingAreFatal, a state for each clause. -/
theorem witness_LossOfTheLinkAndStalledStagingAreFatal :
    (∃ s : State, s = { (helm up3 5 fun x => { x with ps := PState.running }) with
      host := { up3.host with
        vfEnable := false,
        numVFs := 0,
        fns := [],
        staging := [Stage.data 3 4096 [0x01, 0x02], Stage.msix 3 0] },
      ops := [op 3 7 0x21 5 []] } ∧
      s.wf = true ∧ s.working = true ∧ s.rd KP_PWR_STAT_EDIE ≤ 2 ∧ 1 ≤ s.rd GL_LINK_STAT_LINK ∧ s.rd GL_LINK_STAT_LINK ≤ 3 ∧
        s.host.perst = false ∧ s.host.staging ≠ [] ∧ s.host.creditAt + 10000000 * max 10 (s.rd GL_HOST_CTL_STALL) ≤ s.clock) ∧
    (∃ s : State, s = State.reset ∧
      s.wf = true ∧ (s.host.staging = [] ∨ s.clock < s.host.creditAt + 10000000 * max 10 (s.rd GL_HOST_CTL_STALL)) ∧
        (s.rd GL_LINK_STAT_LINK = 0 ∨ s.rd GL_LINK_STAT_LINK = 4) ∧ s.host.perst = false ∧ s.kDieOn = true) ∧
    (∃ s : State, s = { State.reset with host := { State.reset.host with perst := true, wakeLow := true } } ∧
      s.wf = true ∧ s.host.perst = true) ∧
    (∃ s : State, s = { up with host := { up.host with perst := true, wakeLow := true } } ∧
      s.wf = true ∧ s.host.perst = true ∧ s.beaconUp = true ∧ s.keep.entry = none ∧ s.kDieOn = true) :=
  ⟨⟨_, rfl, by decide +kernel⟩,
   ⟨_, rfl, by decide +kernel⟩,
   ⟨_, rfl, by decide +kernel⟩,
   ⟨_, rfl, by decide +kernel⟩⟩

/-- The hypotheses of Obligations.BusMasterEnableHaltsAndCreditsDrain, a state for each clause. -/
theorem witness_BusMasterEnableHaltsAndCreditsDrain :
    (∃ s : State, s = State.reset ∧
      s.wf = true ∧ (s.fn 0).bme = false ∧ s.linkCarries = false) ∧
    (∃ s : State, s = up3 ∧
      s.wf = true ∧ (s.fn 0).bme = true ∧ s.ready = true ∧ s.fnEnabled 0 = true ∧ (∀ o ∈ s.ops, o.prev ≠ OpState.halted)) ∧
    (∃ s : State, s = up ∧
      s.wf = true ∧ s.ready = true ∧ s.fnEnabled 0 = true ∧ (∀ o ∈ s.ops, o.prev ≠ OpState.halted) ∧ (s.fn 0).bme = false ∧
        s.linkCarries = true ∧ (∀ x ∈ s.host.staging, s.funcCarries x.func = false)) ∧
    (∃ s : State, s = { up3 with host := { up3.host with staging := [Stage.data 3 4096 [0x01, 0x02], Stage.msix 3 0] } } ∧
      s.wf = true ∧ s.linkCarries = true ∧ s.host.staging = s.host.staging.headD (Stage.msix 0 0) :: s.host.staging.tail ∧
        s.funcCarries (s.host.staging.headD (Stage.msix 0 0)).func = true) :=
  ⟨⟨_, rfl, by decide +kernel⟩,
   ⟨_, rfl, by decide +kernel⟩,
   ⟨_, rfl, by decide +kernel⟩,
   ⟨_, rfl, by decide +kernel⟩⟩

/-- The hypotheses of Obligations.SessionsAreOpenedGrantedAndWatched, a state for each clause. -/
theorem witness_SessionsAreOpenedGrantedAndWatched :
    (∃ s : State, s = { (put up3 [(SES_CTL_STATE, 1, 4, 0), (SES_CTL_STATE, 3, 6, 0), (FD_ALLOW_MW, 30000, 0, 0)]) with
      ops := [op 0 7 0x1 65535 []] } ∧
      s.wf = true ∧ opIn s 0 7 0x1 = true ∧ ((opOf s 0 7).par 0 = 0 ∨ 16 ≤ (opOf s 0 7).par 0)) ∧
    (∃ s : State, s = { State.reset with ops := [op 0 7 0x1 65535 [3]] } ∧
      s.wf = true ∧ opIn s 0 7 0x1 = true ∧ 1 ≤ (opOf s 0 7).par 0 ∧ (opOf s 0 7).par 0 < 16 ∧
        s.fnEnabled ((opOf s 0 7).par 0) = false) ∧
    (∃ s : State, s = { (put up3 [(SES_CTL_STATE, 1, 4, 0), (SES_CTL_STATE, 3, 6, 0), (FD_ALLOW_MW, 30000, 0, 0)]) with
      ops := [op 0 7 0x1 65535 [3]] } ∧
      s.wf = true ∧ opIn s 0 7 0x1 = true ∧ 1 ≤ (opOf s 0 7).par 0 ∧ (opOf s 0 7).par 0 < 16 ∧
        s.fnEnabled ((opOf s 0 7).par 0) = true ∧ s.sesState ((opOf s 0 7).par 0) ≠ 0) ∧
    (∃ s : State, s = { (put up3 [(SES_CTL_STATE, 1, 4, 0), (SES_CTL_STATE, 3, 6, 0), (FD_ALLOW_MW, 30000, 0, 0)]) with
      ops := [op 0 7 0x1 65535 [5]] } ∧
      s.wf = true ∧ opIn s 0 7 0x1 = true ∧ 1 ≤ (opOf s 0 7).par 0 ∧ (opOf s 0 7).par 0 < 16 ∧
        s.fnEnabled ((opOf s 0 7).par 0) = true ∧ s.sesState ((opOf s 0 7).par 0) = 0 ∧ (opOf s 0 7).par 1 = 0 ∧
        (s.sess ((opOf s 0 7).par 0)).windows = [] ∧ s.limitCheck ((opOf s 0 7).par 0) (opOf s 0 7) true = none ∧
        s.allRuns ((opOf s 0 7).par 0) [] ≤ 2048 ∧ s.baseOk ((opOf s 0 7).par 0) 6291456 [] = true) ∧
    (∃ s : State, s = { (put up3 [(SES_CTL_STATE, 1, 4, 0), (SES_CTL_STATE, 3, 6, 0), (FD_ALLOW_MW, 30000, 0, 0)]) with
      ops := [op 0 7 0x3 65535 [5]] } ∧
      s.wf = true ∧ opIn s 0 7 0x3 = true ∧ (opOf s 0 7).par 0 < 256 ∧
        (s.own.scrubs.any fun (r : Scrub) => decide (r.kind = 0) && decide (r.tag = some (opOf s 0 7).tag)) = false ∧
        s.sesState ((opOf s 0 7).par 0 % 16) = 0) ∧
    (∃ s : State, s = { (put up3 [(SES_CTL_STATE, 1, 4, 0), (SES_CTL_STATE, 3, 6, 0), (FD_ALLOW_MW, 30000, 0, 0)]) with
      ops := [op 0 7 0x3 65535 [6]] } ∧
      s.wf = true ∧ opIn s 0 7 0x3 = true ∧ (opOf s 0 7).par 0 < 256 ∧
        (s.own.scrubs.any fun (r : Scrub) => decide (r.kind = 0) && decide (r.tag = some (opOf s 0 7).tag)) = false ∧
        3 ≤ s.sesState ((opOf s 0 7).par 0 % 16)) ∧
    (∃ s : State, s = { (put up3 [(SES_CTL_STATE, 1, 4, 0), (SES_CTL_STATE, 3, 6, 0), (FD_ALLOW_MW, 30000, 0, 0)]) with
      ops := [op 0 7 0x3 65535 [3]] } ∧
      s.wf = true ∧ opIn s 0 7 0x3 = true ∧ (opOf s 0 7).par 0 < 256 ∧
        (s.own.scrubs.any fun (r : Scrub) => decide (r.kind = 0) && decide (r.tag = some (opOf s 0 7).tag)) = false ∧
        (s.sesState ((opOf s 0 7).par 0 % 16) = 1 ∨ s.sesState ((opOf s 0 7).par 0 % 16) = 2) ∧
        s.limitCheck ((opOf s 0 7).par 0 % 16) (opOf s 0 7) false = none ∧ (s.sess ((opOf s 0 7).par 0 % 16)).windows = [] ∧
        s.allRuns ((opOf s 0 7).par 0 % 16) [] ≤ 2048 ∧ (opOf s 0 7).par 5 = 0) ∧
    (∃ s : State, s = { (put up3 [(SES_CTL_STATE, 1, 4, 0), (SES_CTL_STATE, 3, 6, 0), (FD_ALLOW_MW, 30000, 0, 0)]) with
      ops := [{ op 0 7 0x3 65535 [3, 0, 0, 0, 0, 1] with data := [0, 0, 5, 128, 1] ++ List.replicate 11 0 }] } ∧
      s.wf = true ∧ opIn s 0 7 0x3 = true ∧ (opOf s 0 7).par 0 < 256 ∧
        (s.own.scrubs.any fun (r : Scrub) => decide (r.kind = 0) && decide (r.tag = some (opOf s 0 7).tag)) = false ∧
        (s.sesState ((opOf s 0 7).par 0 % 16) = 1 ∨ s.sesState ((opOf s 0 7).par 0 % 16) = 2) ∧
        s.limitCheck ((opOf s 0 7).par 0 % 16) (opOf s 0 7) false = none ∧ (s.sess ((opOf s 0 7).par 0 % 16)).windows = [] ∧
        s.allRuns ((opOf s 0 7).par 0 % 16) [] ≤ 2048 ∧ (opOf s 0 7).par 5 = 1 ∧ 1 ≤ (opOf s 0 7).par 0 % 16 ∧
        s.ownerOf (32768 + 5) = 0 ∧ s.objBusy (32768 + 5) = false ∧ s.inUse 0 (32768 + 5) = false ∧
        (opOf s 0 7).data = leBytes 2 0 ++ leBytes 2 (32768 + 5) ++ leBytes 4 1 ++ leBytes 8 0) ∧
    (∃ s : State, s = { (put up3 [(SES_CTL_STATE, 1, 4, 0), (SES_CTL_STATE, 3, 6, 0), (FD_ALLOW_MW, 30000, 0, 0)]) with
      ops := [op 0 7 0x4 0 [35]] } ∧
      s.wf = true ∧ opIn s 0 7 0x4 = true ∧ (opOf s 0 7).obj = sliceObj 0 ∧ 32 ≤ (opOf s 0 7).par 0) ∧
    (∃ s : State, s = { (put up3 [(SES_CTL_STATE, 1, 4, 0), (SES_CTL_STATE, 3, 6, 0), (FD_ALLOW_MW, 30000, 0, 0)]) with
      ops := [op 0 7 0x4 0 [15]] } ∧
      s.wf = true ∧ opIn s 0 7 0x4 = true ∧ (opOf s 0 7).obj = sliceObj 0 ∧ (opOf s 0 7).par 0 < 16 ∧
        ((opOf s 0 7).par 0 % 16 = 0 ∨ (opOf s 0 7).par 0 % 16 = 0 ∨ s.sesState ((opOf s 0 7).par 0 % 16) = 0 ∨
        3 ≤ s.sesState ((opOf s 0 7).par 0 % 16))) ∧
    (∃ s : State, s = { (put up3 [(SES_CTL_STATE, 1, 4, 0), (SES_CTL_STATE, 3, 6, 0), (FD_ALLOW_MW, 30000, 0, 0)]) with
      ops := [op 0 7 0x4 0 [3]],
      own := { up3.own with watches := [(0, 3)] } } ∧
      s.wf = true ∧ opIn s 0 7 0x4 = true ∧ (opOf s 0 7).obj = sliceObj 0 ∧ (opOf s 0 7).par 0 < 16 ∧
        (opOf s 0 7).par 0 % 16 ≠ 0 ∧ (s.sesState ((opOf s 0 7).par 0 % 16) = 1 ∨ s.sesState ((opOf s 0 7).par 0 % 16) = 2) ∧
        s.watches ((opOf s 0 7).par 0 % 16) 0 = true) ∧
    (∃ s : State, s = { (put up3 [(SES_CTL_STATE, 1, 4, 0), (SES_CTL_STATE, 3, 6, 0), (FD_ALLOW_MW, 30000, 0, 0)]) with
      ops := [op 0 7 0x4 0 [3]],
      own := { up3.own with watches := [(0, 1), (0, 2), (0, 4), (0, 5), (9, 3)] } } ∧
      s.wf = true ∧ opIn s 0 7 0x4 = true ∧ (opOf s 0 7).obj = sliceObj 0 ∧ (opOf s 0 7).par 0 < 16 ∧
        (opOf s 0 7).par 0 % 16 ≠ 0 ∧ (s.sesState ((opOf s 0 7).par 0 % 16) = 1 ∨ s.sesState ((opOf s 0 7).par 0 % 16) = 2) ∧
        s.watches ((opOf s 0 7).par 0 % 16) 0 = false ∧
        4 ≤ (List.filter (fun (x : ℕ × ℕ) => decide (x.1 = 0)) s.own.watches).length) ∧
    (∃ s : State, s = { (put up3 [(SES_CTL_STATE, 1, 4, 0), (SES_CTL_STATE, 3, 6, 0), (FD_ALLOW_MW, 30000, 0, 0)]) with
      ops := [op 0 7 0x4 0 [3]] } ∧
      s.wf = true ∧ opIn s 0 7 0x4 = true ∧ (opOf s 0 7).obj = sliceObj 0 ∧ (opOf s 0 7).par 0 < 16 ∧
        (opOf s 0 7).par 0 % 16 ≠ 0 ∧ (s.sesState ((opOf s 0 7).par 0 % 16) = 1 ∨ s.sesState ((opOf s 0 7).par 0 % 16) = 2) ∧
        s.watches ((opOf s 0 7).par 0 % 16) 0 = false ∧
        (List.filter (fun (x : ℕ × ℕ) => decide (x.1 = 0)) s.own.watches).length < 4) ∧
    (∃ s : State, s = { (put up3 [(SES_CTL_STATE, 1, 4, 0), (SES_CTL_STATE, 3, 6, 0), (FD_ALLOW_MW, 30000, 0, 0)]) with
      ops := [op 0 7 0x4 0 [20]] } ∧
      s.wf = true ∧ opIn s 0 7 0x4 = true ∧ (opOf s 0 7).obj = sliceObj 0 ∧ 16 ≤ (opOf s 0 7).par 0 ∧ (opOf s 0 7).par 0 < 32 ∧
        s.watches ((opOf s 0 7).par 0 % 16) 0 = false) ∧
    (∃ s : State, s = { (put up3 [(SES_CTL_STATE, 1, 4, 0), (SES_CTL_STATE, 3, 6, 0), (FD_ALLOW_MW, 30000, 0, 0)]) with
      ops := [op 0 7 0x4 0 [20]],
      own := { up3.own with watches := [(0, 1), (0, 2), (0, 4), (0, 5), (9, 3)] } } ∧
      s.wf = true ∧ opIn s 0 7 0x4 = true ∧ (opOf s 0 7).obj = sliceObj 0 ∧ 16 ≤ (opOf s 0 7).par 0 ∧ (opOf s 0 7).par 0 < 32 ∧
        s.watches ((opOf s 0 7).par 0 % 16) 0 = true ∧ 0 ≠ (opOf s 0 7).par 0 % 16 ∧ (∀ y ∈ s.ops,
        y.sess ≠ (opOf s 0 7).par 0 % 16) ∧
        (s.portsWhere fun (h : ℕ) (q : Port) => decide (s.helmOwner h = (opOf s 0 7).par 0 % 16) && decide (q.src = sliceObj 0) && !q.cut) = []) :=
  ⟨⟨_, rfl, by decide +kernel⟩,
   ⟨_, rfl, by decide +kernel⟩,
   ⟨_, rfl, by decide +kernel⟩,
   ⟨_, rfl, by decide +kernel⟩,
   ⟨_, rfl, by decide +kernel⟩,
   ⟨_, rfl, by decide +kernel⟩,
   ⟨_, rfl, by decide +kernel⟩,
   ⟨_, rfl, by decide +kernel⟩,
   ⟨_, rfl, by decide +kernel⟩,
   ⟨_, rfl, by decide +kernel⟩,
   ⟨_, rfl, by decide +kernel⟩,
   ⟨_, rfl, by decide +kernel⟩,
   ⟨_, rfl, by decide +kernel⟩,
   ⟨_, rfl, by decide +kernel⟩,
   ⟨_, rfl, by decide +kernel⟩⟩

def stateSessionResetCloseAndFlrWaitAndScrub2 : State :=
  { (sess up3 3 fun x => { x with prev := 2, closeTag := some 9, phase := 3 }) with
    ops := [{ op 0 7 0x2 65535 [3] with stage := 1 }, op 0 9 0x3 65535 [3]],
    own := { up3.own with
      scrubs := [{ scrub0 with sess := 3, ends := [0, 1000], objs := [8197], tag := some 9, result := 77 },
        { scrub0 with sess := 4, ends := [0, 3000000000], result := 77 }] } }

def stateSessionResetCloseAndFlrWaitAndScrub3 : State :=
  { (put up3 [(GL_LINK_STAT_SPEED, 0, 0, 0), (GL_LINK_STAT_WIDTH, 0, 0, 0), (GL_LINK_STAT_LINK, 0, 0, 0),
    (GL_BOOT_READY, 0, 0, 0), (KP_TETHER_UP, 0, 0, 0), (BY_STAT_STATE, 7, 0, 4)]) with
    clock := 0,
    tm := { up3.tm with device := 0 },
    host := { up3.host with
      reads := [{ read0 with tag := 1, func := 3, purpose := ReadFor.data 3 8, len := 64, issued := 999999000 }] },
    ops := [op 0 7 0x2 65535 []],
    boot := { up3.boot with phase := 1 } }

def stateSessionResetCloseAndFlrWaitAndScrub4 : State :=
  { (put stateSessionResetCloseAndFlrWaitAndScrub2 [(GL_LINK_STAT_SPEED, 0, 0, 0), (GL_LINK_STAT_WIDTH, 0, 0, 0),
    (GL_LINK_STAT_LINK, 0, 0, 0), (GL_BOOT_READY, 0, 0, 0), (KP_TETHER_UP, 0, 0, 0), (BY_STAT_STATE, 7, 0, 4)]) with
    clock := 0,
    tm := { stateSessionResetCloseAndFlrWaitAndScrub2.tm with device := 0 },
    boot := { stateSessionResetCloseAndFlrWaitAndScrub2.boot with phase := 1 } }

def stateSessionResetCloseAndFlrWaitAndScrub5 : State :=
  { (sess (put stateSessionResetCloseAndFlrWaitAndScrub2 [(SES_CTL_STATE, 3, 3, 0)]) 3 fun x => { x with closeTag := none }) with
    own := { stateSessionResetCloseAndFlrWaitAndScrub2.own with
      scrubs := [{ scrub0 with sess := 3, kind := 1, ends := [0, 5], result := 77 },
        { scrub0 with sess := 4, ends := [0, 3000000000], result := 77 }] } }

def stateSessionResetCloseAndFlrWaitAndScrub6 : State :=
  { (sess (put stateSessionResetCloseAndFlrWaitAndScrub2 [(SES_CTL_STATE, 4, 3, 0)]) 3 fun x => { x with
    closing := true,
    closeTag := some 7 }) with
    own := { stateSessionResetCloseAndFlrWaitAndScrub2.own with
      scrubs := [{ scrub0 with sess := 3, kind := 2, ends := [0, 5], tag := some 7, result := 77 },
        { scrub0 with sess := 4, ends := [0, 3000000000], result := 77 }] } }

def stateSessionResetCloseAndFlrWaitAndScrub7 : State :=
  { stateSessionResetCloseAndFlrWaitAndScrub3 with
    host := { stateSessionResetCloseAndFlrWaitAndScrub3.host with
      fns := [(0, { bme := true, ctoMs := 50, flr := none }), (3, { bme := false, ctoMs := 50, flr := some 1000000000 })],
      reads := [] },
    ops := [] }

/-- The hypotheses of Obligations.SessionResetCloseAndFlrWaitAndScrub, a state for each clause. -/
theorem witness_SessionResetCloseAndFlrWaitAndScrub :
    (∃ s : State, s = { up3 with
      host := { up3.host with
        reads := [{ read0 with tag := 1, func := 3, purpose := ReadFor.data 3 8, len := 64, issued := 999999000 }] },
      ops := [op 0 7 0x2 65535 [3], op 3 8 0x21 16385 []] } ∧
      s.wf = true ∧ s.working = true ∧ s.sesTakes 3 = true ∧ (s.sess 3).closing = false ∧ (∃ r ∈ s.host.reads, r.func = 3 ∧
        r.abandoned = false ∧ s.clock < r.issued + 1000000 * (s.fn 3).ctoMs) ∧ s.fnEnabled 3 = true ∧ (s.fn 3).flr = none ∧
        opIn s 0 7 0x2 = true ∧ (opOf s 0 7).stage = 0 ∧ (opOf s 0 7).par 0 = 3 ∧ s.ready = true ∧ s.host.vfEnable = true) ∧
    (∃ s : State, s = stateSessionResetCloseAndFlrWaitAndScrub2 ∧
      s.wf = true ∧ s.working = true ∧ s.sesTakes 3 = true ∧ (s.sess 3).closing = false ∧ (∀ o ∈ s.ops, o.sess ≠ 3) ∧
        (∀ r ∈ s.host.reads, r.func ≠ 3) ∧ s.helmsOf 3 = [] ∧ s.fnEnabled 3 = true ∧ (s.fn 3).flr = none ∧
        s.own.scrubs[0]? = some (s.own.scrubs[0]?.getD scrub0) ∧ (∀ e ∈ (s.own.scrubs[0]?.getD scrub0).ends, e ≤ s.clock) ∧
        (s.own.scrubs[0]?.getD scrub0).kind = 0 ∧
        (s.own.scrubs[0]?.getD scrub0).tag = some ((s.own.scrubs[0]?.getD scrub0).tag.getD 0) ∧
        s.op? 0 ((s.own.scrubs[0]?.getD scrub0).tag.getD 0) = some ((s.op? 0 ((s.own.scrubs[0]?.getD scrub0).tag.getD 0)).getD op0) ∧
        ((s.op? 0 ((s.own.scrubs[0]?.getD scrub0).tag.getD 0)).getD op0).fin = none ∧
        ((s.op? 0 ((s.own.scrubs[0]?.getD scrub0).tag.getD 0)).getD op0).st ≠ OpState.halted) ∧
    (∃ s : State, s = stateSessionResetCloseAndFlrWaitAndScrub3 ∧
      s.wf = true ∧ opIn s 0 7 0x2 = true ∧ ((opOf s 0 7).par 0 = 0 ∨ 16 ≤ (opOf s 0 7).par 0 ∨
        s.sesState ((opOf s 0 7).par 0) = 0)) ∧
    (∃ s : State, s = stateSessionResetCloseAndFlrWaitAndScrub4 ∧
      s.wf = true ∧ s.own.scrubs[0]? = some (s.own.scrubs[0]?.getD scrub0) ∧ (∃ e ∈ (s.own.scrubs[0]?.getD scrub0).ends,
        s.clock < e)) ∧
    (∃ s : State, s = stateSessionResetCloseAndFlrWaitAndScrub5 ∧
      s.wf = true ∧ s.own.scrubs[0]? = some (s.own.scrubs[0]?.getD scrub0) ∧ (∀ e ∈ (s.own.scrubs[0]?.getD scrub0).ends,
        e ≤ s.clock) ∧ (s.own.scrubs[0]?.getD scrub0).kind = 1 ∧ (s.own.scrubs[0]?.getD scrub0).sess = 3 ∧
        (s.sess 3).closing = false ∧ s.objsOf 3 = [] ∧ (∀ x ∈ s.own.ranges, x.sess ≠ 3)) ∧
    (∃ s : State, s = stateSessionResetCloseAndFlrWaitAndScrub6 ∧
      s.wf = true ∧ s.own.scrubs[0]? = some (s.own.scrubs[0]?.getD scrub0) ∧ (∀ e ∈ (s.own.scrubs[0]?.getD scrub0).ends,
        e ≤ s.clock) ∧ (s.own.scrubs[0]?.getD scrub0).kind = 2 ∧ (s.own.scrubs[0]?.getD scrub0).sess = 3 ∧
        (s.own.scrubs[0]?.getD scrub0).objs = []) ∧
    (∃ s : State, s = stateSessionResetCloseAndFlrWaitAndScrub7 ∧
      s.wf = true ∧ (s.fn 3).flr.isSome = true ∧ (s.sess 3).phase ≠ 1 ∧ (s.sess 3).phase ≠ 2) ∧
    (∃ s : State, s = { up3 with host := { up3.host with vfEnable := false } } ∧
      s.wf = true ∧ s.ready = true ∧ s.host.vfEnable = false) ∧
    (∃ s : State, s = (put up3 [(SES_CTL_STATE, 0, 3, 0)]) ∧
      s.wf = true ∧ s.ready = true ∧ s.host.vfEnable = true ∧ (∀ (k : ℕ), 1 ≤ k → k ≤ s.host.numVFs → s.sesState k = 0 ∧
        (s.sess k).phase = 0 ∧ (s.fn k).flr = none)) :=
  ⟨⟨_, rfl, by decide +kernel⟩,
   ⟨_, rfl, by decide +kernel⟩,
   ⟨_, rfl, by decide +kernel⟩,
   ⟨_, rfl, by decide +kernel⟩,
   ⟨_, rfl, by decide +kernel⟩,
   ⟨_, rfl, by decide +kernel⟩,
   ⟨_, rfl, by decide +kernel⟩,
   ⟨_, rfl, by decide +kernel⟩,
   ⟨_, rfl, by decide +kernel⟩⟩

/-- The hypotheses of Obligations.KeysMapCacheAndBackgroundScrubs, a state for each clause. -/
theorem witness_KeysMapCacheAndBackgroundScrubs :
    (∃ s : State, s = up ∧
      s.wf = true ∧ s.working = true ∧ s.fnEnabled 3 = false ∧ s.fnEnabled 0 = true ∧ s.flag SES_KEYC_KEY_SET = false ∧
        s.keyZero 0 = true ∧ s.own.invPending = false ∧ s.own.bgPages.contains 0 = false ∧ s.unswept 0 = false) ∧
    (∃ s : State, s = (put up [(SES_KEYC_KEY_SET, 1, 0, 0), (SES_KEYC_KEY_SET, 1, 3, 0), (SES_VIOL_VIOL_COUNT, 65535, 3, 0)]) ∧
      s.wf = true ∧ s.working = true ∧ s.fnEnabled 0 = true ∧ s.flag SES_KEYC_KEY_SET = true) ∧
    (∃ s : State, s = (put up [(SES_CTL_STATE, 1, 3, 0), (SES_KEY_KEY, 5, 0, 0), (SES_KEY_KEY, 5, 3, 7)]) ∧
      s.wf = true ∧ s.working = true ∧ s.fnEnabled 0 = true ∧ s.flag SES_KEYC_KEY_SET = false ∧ s.keyZero 0 = false) ∧
    (∃ s : State, s = (put up3 [(SES_CTL_STATE, 1, 3, 0), (SES_KEY_KEY, 5, 0, 0), (SES_KEY_KEY, 5, 3, 7)]) ∧
      s.wf = true ∧ s.working = true ∧ s.fnEnabled 3 = true ∧ s.flag SES_KEYC_KEY_SET 3 = false ∧ s.keyZero 3 = false ∧
        s.sesState 3 = 1) ∧
    (∃ s : State, s = (put up3 [(SES_CTL_STATE, 3, 3, 0), (SES_KEY_KEY, 5, 3, 7)]) ∧
      s.wf = true ∧ s.working = true ∧ s.fnEnabled 3 = true ∧ s.flag SES_KEYC_KEY_SET 3 = false ∧ s.keyZero 3 = false ∧
        s.sesState 3 ≠ 1) ∧
    (∃ s : State, s = { up with
      own := { up.own with bgPages := [5, 9] },
      mem := { up.mem with larder := [(24575, 0x07), (24576, 0x08)] } } ∧
      s.wf = true ∧ s.working = true ∧ s.own.bgPages.contains 5 = true) :=
  ⟨⟨_, rfl, by decide +kernel⟩,
   ⟨_, rfl, by decide +kernel⟩,
   ⟨_, rfl, by decide +kernel⟩,
   ⟨_, rfl, by decide +kernel⟩,
   ⟨_, rfl, by decide +kernel⟩,
   ⟨_, rfl, by decide +kernel⟩⟩

def stateWarmResetsKeepMemoryAndLoseTheRest3 : State :=
  { (helm (put up [(LG_STAT_VALID, 1, 0, 0), (LG_STAT_HOLD, 1, 0, 0), (LG_CTL_AUTO_S, 1, 0, 0), (KP_CAL_VALID, 1, 0, 3),
    (KP_CAL_VALID, 1, 0, 4), (KP_CAL_VALID, 1, 0, 63)]) 5 fun x => { x with ps := PState.running }) with
    host := { up.host with d3hot := true, staging := [Stage.msix 3 0] },
    ops := [op 3 7 0x21 5 []],
    own := { up.own with objs := [(5, 3)], pages := [(7, 3)] },
    mem := { up.mem with larder := [(1193046, 0x01), (1193047, 0x02), (1193048, 0x03)] } }

def stateWarmResetsKeepMemoryAndLoseTheRest4 : State :=
  { (put stateWarmResetsKeepMemoryAndLoseTheRest3 [(GL_LINK_STAT_SPEED, 0, 0, 0), (GL_LINK_STAT_WIDTH, 0, 0, 0),
    (GL_LINK_STAT_LINK, 0, 0, 0), (GL_BOOT_READY, 0, 0, 0), (LG_STAT_HOLD, 0, 0, 0), (LG_CTL_AUTO_S, 0, 0, 0),
    (KP_TETHER_UP, 0, 0, 0), (BY_STAT_STATE, 7, 0, 4)]) with
    clock := 0,
    tm := { stateWarmResetsKeepMemoryAndLoseTheRest3.tm with device := 0 },
    boot := { stateWarmResetsKeepMemoryAndLoseTheRest3.boot with phase := 2, cause := 6 } }

/-- The hypotheses of Obligations.WarmResetsKeepMemoryAndLoseTheRest, a state for each clause. -/
theorem witness_WarmResetsKeepMemoryAndLoseTheRest :
    (∃ s : State, s = up ∧
      s.wf = true ∧ s.eDieOn = true ∧ (s.boot.phase = 0 ∨ s.boot.phase = 2) ∧ 0#8 ≠ 90) ∧
    (∃ s : State, s = State.reset ∧
      s.wf = true ∧ s.eDieOn = false ∧ (s.flag LG_STAT_HOLD = false ∨ min 3600 (s.rd LG_CTL_AUTO_S) = 0 ∨
        s.clock < s.health.holdAt + 1000000000 * min 3600 (s.rd LG_CTL_AUTO_S))) ∧
    (∃ s : State, s = stateWarmResetsKeepMemoryAndLoseTheRest3 ∧
      s.wf = true ∧ s.flag LG_STAT_HOLD = true ∧ min 3600 (s.rd LG_CTL_AUTO_S) ≠ 0 ∧
        s.health.holdAt + 1000000000 * min 3600 (s.rd LG_CTL_AUTO_S) ≤ s.clock) ∧
    (∃ s : State, s = stateWarmResetsKeepMemoryAndLoseTheRest4 ∧
      s.wf = true ∧ s.boot.phase = 2) :=
  ⟨⟨_, rfl, by decide +kernel⟩,
   ⟨_, rfl, by decide +kernel⟩,
   ⟨_, rfl, by decide +kernel⟩,
   ⟨_, rfl, by decide +kernel⟩⟩

def stateColdBootRailsAndPorK2 : State :=
  { (helm (put up3 [(GL_LINK_STAT_LINK, 0, 0, 0), (GL_BOOT_READY, 0, 0, 0), (LG_STAT_VALID, 1, 0, 0), (BY_STAT_STATE, 7, 0, 4),
    (KP_CAL_VALID, 1, 0, 3), (KP_CAL_VALID, 1, 0, 4), (KP_CAL_VALID, 1, 0, 63)]) 5 fun x => { x with ps := PState.running }) with
    ops := [op 3 7 0x21 5 []],
    mem := { up3.mem with larder := [(1193046, 0x01), (1193047, 0x02), (1193048, 0x03)] },
    boot := { up3.boot with phase := 1, cause := 2, railFails := 1 } }

def stateColdBootRailsAndPorK4 : State :=
  { (helm (put up [(LG_STAT_VALID, 1, 0, 0), (KP_CAL_VALID, 1, 0, 3), (KP_CAL_VALID, 1, 0, 4), (KP_CAL_VALID, 1, 0, 63)]) 5 fun x => { x with
    ps := PState.running }) with
    ops := [op 3 7 0x21 5 []],
    mem := { up.mem with larder := [(1193046, 0x01), (1193047, 0x02), (1193048, 0x03)] },
    boot := { up.boot with phase := 1, cause := 2, railRetry := some 1000000001, railFails := 1 } }

def stateColdBootRailsAndPorK6 : State :=
  { (put stateColdBootRailsAndPorK4 [(GL_LINK_STAT_SPEED, 0, 0, 0), (GL_LINK_STAT_WIDTH, 0, 0, 0),
    (GL_LINK_STAT_LINK, 0, 0, 0), (GL_BOOT_READY, 0, 0, 0), (KP_TETHER_UP, 0, 0, 0), (BY_STAT_STATE, 7, 0, 4)]) with
    clock := 0,
    tm := { stateColdBootRailsAndPorK4.tm with device := 0 },
    boot := { stateColdBootRailsAndPorK4.boot with phase := 5, railRetry := none } }

/-- The hypotheses of Obligations.ColdBootRailsAndPorK, a state for each clause. -/
theorem witness_ColdBootRailsAndPorK :
    (∃ s : State, s = up ∧
      s.wf = true ∧ s.eDieOn = true ∧ (s.boot.phase = 0 ∨ s.boot.phase = 2) ∧ (s.boot.phase ≠ 1 ∨ s.railsUp = false) ∧
        s.railPast 1900 = false ∧ s.boot.railRetry = none) ∧
    (∃ s : State, s = stateColdBootRailsAndPorK2 ∧
      s.wf = true ∧ s.boot.phase = 1 ∧ s.railsUp = true ∧ s.railPast 1900 = true ∧ s.boot.railFails < 2) ∧
    (∃ s : State, s = { stateColdBootRailsAndPorK2 with boot := { stateColdBootRailsAndPorK2.boot with railFails := 2 } } ∧
      s.wf = true ∧ s.railPast 1900 = true ∧ 2 ≤ s.boot.railFails) ∧
    (∃ s : State, s = stateColdBootRailsAndPorK4 ∧
      s.wf = true ∧ s.boot.railRetry = some (s.boot.railRetry.getD 0) ∧ s.clock < s.boot.railRetry.getD 0) ∧
    (∃ s : State, s = { stateColdBootRailsAndPorK4 with
      boot := { stateColdBootRailsAndPorK4.boot with railRetry := some 999000000 } } ∧
      s.wf = true ∧ s.boot.railRetry = some (s.boot.railRetry.getD 0) ∧ s.boot.railRetry.getD 0 ≤ s.clock) ∧
    (∃ s : State, s = stateColdBootRailsAndPorK6 ∧
      s.wf = true ∧ s.boot.phase = 5) ∧
    (∃ s : State, s = (put up3 [(GL_LINK_STAT_LINK, 0, 0, 0), (GL_BOOT_READY, 0, 0, 0), (BY_STAT_STATE, 5, 0, 4)]) ∧
      s.wf = true ∧ ((none : Option Nat).isSome = true ∧ s.rd KP_PWR_STAT_EDIE ≠ 5 ∨ (none : Option Nat).isSome = false ∧
        s.rd KP_PWR_STAT_EDIE = 5) ∧ s.rd KP_PWR_STAT_EDIE = 5) :=
  ⟨⟨_, rfl, by decide +kernel⟩,
   ⟨_, rfl, by decide +kernel⟩,
   ⟨_, rfl, by decide +kernel⟩,
   ⟨_, rfl, by decide +kernel⟩,
   ⟨_, rfl, by decide +kernel⟩,
   ⟨_, rfl, by decide +kernel⟩,
   ⟨_, rfl, by decide +kernel⟩⟩

/-- The hypotheses of Obligations.PowerStatesStowMoorAndWakes, a state for each clause. -/
theorem witness_PowerStatesStowMoorAndWakes :
    (∃ s : State, s = { (put up [(GL_LINK_STAT_LINK, 4, 0, 0), (GL_MEM_CELLAR_GIB, 4, 0, 0), (BY_STAT_STATE, 6, 0, 4)]) with
      host := { up.host with d3hot := true },
      keep := { up.keep with entry := some (3, 999000000) } } ∧
      s.wf = true ∧ s.keeperWorks = false ∧ s.keep.entry.isSome = true ∧ s.working = true ∧ s.rd KP_PWR_STAT_EDIE = 6 ∧
        s.entryBroken = false ∧ s.keep.entry = some (3, (s.keep.entry.getD (0, 0)).2)) ∧
    (∃ s : State, s = { (put up [(GL_LINK_STAT_LINK, 4, 0, 0), (GL_MEM_CELLAR_GIB, 4, 0, 0)]) with
      host := { up.host with d3hot := true } } ∧
      s.wf = true ∧ s.keeperWorks = true ∧ s.eDieOn = true ∧ s.stowOk = true ∧ s.moorOk = false) ∧
    (∃ s : State, s = (put up [(GL_BOOT_READY, 0, 0, 0), (BY_STAT_STATE, 3, 0, 4), (KP_CAL_TIME_LO, 1, 0, 3),
      (KP_CAL_VALID, 1, 0, 3), (KP_CAL_ACTION, 1, 0, 3)]) ∧
      s.wf = true ∧ s.eDieOn = false ∧ s.rd KP_PWR_STAT_EDIE = 3 ∧ s.noWake = false ∧ farOff s.wakeIn 6200001 = false) ∧
    (∃ s : State, s = (put up [(KP_DOM, 43690, 0, 0), (KP_CAL_TIME_LO, 1, 0, 3), (KP_CAL_VALID, 1, 0, 3),
      (KP_CAL_ACTION, 1, 0, 3)]) ∧
      s.wf = true ∧ s.eDieOn = true ∧ s.kDieOn = true ∧ s.dom 0 ≠ 0 ∧ farOff (s.horizon 0) (wakeNs (s.dom 0) + 200001) = false ∧
        s.keeperWorks = true ∧ s.stowOk = false) ∧
    (∃ s : State, s = { (put up [(GL_LINK_STAT_LINK, 4, 0, 0), (GL_MEM_CELLAR_GIB, 4, 0, 0), (BY_MAP_HS, 4, 0, 4)]) with
      host := { up.host with d3hot := true } } ∧
      s.wf = true ∧ s.keeperWorks = true ∧ s.moorOk = true) ∧
    (∃ s : State, s = { (put up [(GL_LINK_STAT_LINK, 4, 0, 0), (GL_MEM_CELLAR_GIB, 4, 0, 0), (BY_MAP_HS, 1, 0, 4),
      (BY_STAT_STATE, 6, 0, 4)]) with
      host := { up.host with d3hot := true },
      keep := { up.keep with entry := some (3, 999000000) } } ∧
      s.wf = true ∧ s.keep.entry.isSome = true ∧ s.working = true ∧ s.rd KP_PWR_STAT_EDIE = 6 ∧ s.entryBroken = true) ∧
    (∃ s : State, s = { (put up [(GL_LINK_STAT_LINK, 4, 0, 0), (GL_MEM_CELLAR_GIB, 4, 0, 0), (BY_MAP_HS, 4, 0, 4),
      (BY_STAT_STATE, 6, 0, 4)]) with
      host := { up.host with d3hot := true },
      keep := { up.keep with entry := some (4, 999000000) } } ∧
      s.wf = true ∧ s.keep.entry.isSome = true ∧ s.working = true ∧ s.rd KP_PWR_STAT_EDIE = 6 ∧ s.entryBroken = false ∧
        s.keep.entry = some (4, (s.keep.entry.getD (0, 0)).2)) ∧
    (∃ s : State, s = { (put up [(BY_STAT_STATE, 7, 0, 4)]) with
      keep := { up.keep with wake := some (3, 900000000) },
      boot := { up.boot with attic := 1 } } ∧
      s.wf = true ∧ s.keep.wake = some ((s.keep.wake.getD (0, 0)).1, (s.keep.wake.getD (0, 0)).2) ∧ s.railsUp = true ∧
        s.keep.coldNext = false ∧ s.boot.attic = 1 ∧ (s.keep.wake.getD (0, 0)).1 = 3) ∧
    (∃ s : State, s = { (put up [(BY_STAT_STATE, 7, 0, 4)]) with
      keep := { up.keep with wake := some (4, 900000000) },
      boot := { up.boot with attic := 1 } } ∧
      s.wf = true ∧ s.keep.wake = some ((s.keep.wake.getD (0, 0)).1, (s.keep.wake.getD (0, 0)).2) ∧ s.railsUp = true ∧
        s.keep.coldNext = false ∧ s.boot.attic = 1 ∧ (s.keep.wake.getD (0, 0)).1 = 4) ∧
    (∃ s : State, s = { up with ops := [op 3 7 0x3d 65535 [3]] } ∧
      s.wf = true ∧ opIn s 3 7 0x3D = true ∧ s.flag KP_TETHER_UP = true) ∧
    (∃ s : State, s = { State.reset with ops := [op 3 7 0x3d 65535 [3]] } ∧
      s.wf = true ∧ opIn s 3 7 0x3D = true ∧ s.flag KP_TETHER_UP = false) :=
  ⟨⟨_, rfl, by decide +kernel⟩,
   ⟨_, rfl, by decide +kernel⟩,
   ⟨_, rfl, by decide +kernel⟩,
   ⟨_, rfl, by decide +kernel⟩,
   ⟨_, rfl, by decide +kernel⟩,
   ⟨_, rfl, by decide +kernel⟩,
   ⟨_, rfl, by decide +kernel⟩,
   ⟨_, rfl, by decide +kernel⟩,
   ⟨_, rfl, by decide +kernel⟩,
   ⟨_, rfl, by decide +kernel⟩,
   ⟨_, rfl, by decide +kernel⟩⟩

/-- The hypotheses of Obligations.FatalErrorsDumpsAndTheLogbook, a state for each clause. -/
theorem witness_FatalErrorsDumpsAndTheLogbook :
    (∃ s : State, s = up ∧
      s.wf = true ∧ s.working = true ∧ s.rd KP_PWR_STAT_EDIE ≤ 2 ∧ s.rd KP_DOM % 4 = 0 ∧ 0#8 ≠ 165 ∧ s.health.dump = none ∧
        s.ready = true) ∧
    (∃ s : State, s = { up3 with
      health := { up3.health with dump := some { dump0 with cause := 2, data := 3, dtime := 5, at_ := 999999000, count := 1 } } } ∧
      s.wf = true ∧ s.rd KP_PWR_STAT_EDIE ≠ 6 ∧ s.health.dump = some (s.health.dump.getD dump0) ∧
        s.clock < (s.health.dump.getD dump0).at_ + 30000000) ∧
    (∃ s : State, s = { up with
      health := { up.health with
        dump := some { dump0 with cause := 53, data := 3, dtime := 5, at_ := 5, count := 1, second := some 9 } } } ∧
      s.wf = true ∧ s.rd KP_PWR_STAT_EDIE ≠ 6 ∧ s.health.dump = some (s.health.dump.getD dump0) ∧
        (s.health.dump.getD dump0).at_ + 30000000 ≤ s.clock) ∧
    (∃ s : State, s = State.reset ∧
      s.wf = true ∧ s.health.dump = none ∧ s.working = false ∧ s.rd KP_PWR_STAT_EDIE ≠ 6) :=
  ⟨⟨_, rfl, by decide +kernel⟩,
   ⟨_, rfl, by decide +kernel⟩,
   ⟨_, rfl, by decide +kernel⟩,
   ⟨_, rfl, by decide +kernel⟩⟩

/-- The hypotheses of Obligations.SelfTestsCalibrationAndBackgroundChecks, a state for each clause. -/
theorem witness_SelfTestsCalibrationAndBackgroundChecks :
    (∃ s : State, s = { (put up [(HL_FAIL_HELM, 32, 0, 0), (CAL_STAT_DONE, 5, 3, 0)]) with ops := [op 0 7 0x38 8197 [1]] } ∧
      s.wf = true ∧ opIn s 0 7 0x38 = true ∧ (opOf s 0 7).obj = 8192 + 5 ∧ 1 ≤ (opOf s 0 7).par 0 ∧ (opOf s 0 7).par 0 ≤ 3 ∧
        s.checksRun = true ∧ s.flag HL_CFG_PATROL_EN = true ∧ s.own.scrubs = [] ∧ s.health.larderDue ≤ s.clock ∧
        s.mem.bad = [] ∧ inLarder 0 = true) ∧
    (∃ s : State, s = { (helm (put up [(HL_FAIL_HELM, 32, 0, 0), (CAL_STAT_DONE, 5, 3, 0)]) 0 fun x => { x with
      ps := PState.running }) with
      ops := [{ op 0 7 0x38 65535 [257] with st := OpState.queued, stage := 8, due := some 1000000000 }] } ∧
      s.wf = true ∧ s.op? 0 7 = some (opOf s 0 7) ∧ (opOf s 0 7).deferred = true ∧ (opOf s 0 7).stage = 8 ∧
        (opOf s 0 7).live = true ∧ (opOf s 0 7).st = OpState.queued ∧ s.quiet (opOf s 0 7) = false) ∧
    (∃ s : State, s = { (put up [(HL_FAIL_HELM, 32, 0, 0), (CAL_STAT_DONE, 5, 3, 0)]) with
      ops := [{ op 0 7 0x38 65535 [257] with st := OpState.queued, stage := 8, due := some 1000000000 }] } ∧
      s.wf = true ∧ s.op? 0 7 = some (opOf s 0 7) ∧ (opOf s 0 7).deferred = true ∧ (opOf s 0 7).stage = 8 ∧
        (opOf s 0 7).live = true ∧ (opOf s 0 7).st = OpState.queued ∧ s.quiet (opOf s 0 7) = true ∧ s.working = true) ∧
    (∃ s : State, s = { (put up [(HL_FAIL_HELM, 32, 0, 0), (CAL_STAT_DONE, 5, 3, 0)]) with
      ops := [{ op 0 7 0x38 65535 [256] with st := OpState.queued, stage := 8, due := some 1000000001 }] } ∧
      s.wf = true ∧ s.op? 0 7 = some (opOf s 0 7) ∧ (opOf s 0 7).deferred = true ∧ (opOf s 0 7).stage = 8 ∧
        (opOf s 0 7).live = true ∧ (opOf s 0 7).st = OpState.queued ∧ s.isDue (opOf s 0 7).due = false) ∧
    (∃ s : State, s = { (put up [(HL_FAIL_HELM, 32, 0, 0), (CAL_STAT_DONE, 5, 3, 0)]) with
      ops := [{ op 0 7 0x38 65535 [1023] with st := OpState.queued, stage := 8, due := some 1000000000 }] } ∧
      s.wf = true ∧ s.op? 0 7 = some (opOf s 0 7) ∧ (opOf s 0 7).deferred = true ∧ (opOf s 0 7).stage = 8 ∧
        (opOf s 0 7).live = true ∧ (opOf s 0 7).st = OpState.queued ∧ s.isDue (opOf s 0 7).due = true ∧
        (opOf s 0 7).par 0 < 1024) ∧
    (∃ s : State, s = { (put up [(HL_FAIL_HELM, 32, 0, 0), (CAL_STAT_DONE, 5, 3, 0)]) with ops := [op 3 7 0x39 3 [2]] } ∧
      s.wf = true ∧ opIn s 3 7 0x39 = true ∧ (opOf s 3 7).obj = sliceObj 3 ∧ (opOf s 3 7).par 0 < 3 ∧
        s.rd LINE_STAT_LSTATE 3 ≠ 2) ∧
    (∃ s : State, s = State.reset ∧
      s.wf = true ∧ s.checksRun = false) ∧
    (∃ s : State, s = { (put up [(HL_FAIL_HELM, 32, 0, 0), (CAL_STAT_DONE, 5, 3, 0)]) with
      health := { up.health with larderDue := 2000000000 } } ∧
      s.wf = true ∧ s.checksRun = true ∧ s.flag HL_CFG_PATROL_EN = true ∧ s.own.scrubs = [] ∧ s.clock < s.health.larderDue ∧
        s.flag HL_CFG_CHART_EN = true ∧ s.health.chartDue ≤ s.clock ∧ (∀ e ∈ s.chart, e.2.perr = 0)) ∧
    (∃ s : State, s = { (put up [(HL_FAIL_HELM, 32, 0, 0), (CAL_STAT_DONE, 5, 3, 0)]) with
      health := { up.health with mbistHelm := 31 } } ∧
      s.wf = true ∧ s.checksRun = true ∧ s.flag HL_CFG_MBIST_EN = true ∧ s.health.mbistDue ≤ s.clock ∧ s.health.mbistHelm < 32 ∧
        (s.helm s.health.mbistHelm).ps = PState.empty) :=
  ⟨⟨_, rfl, by decide +kernel⟩,
   ⟨_, rfl, by decide +kernel⟩,
   ⟨_, rfl, by decide +kernel⟩,
   ⟨_, rfl, by decide +kernel⟩,
   ⟨_, rfl, by decide +kernel⟩,
   ⟨_, rfl, by decide +kernel⟩,
   ⟨_, rfl, by decide +kernel⟩,
   ⟨_, rfl, by decide +kernel⟩,
   ⟨_, rfl, by decide +kernel⟩⟩

def stateTheBeaconsSourcesAreFiredTakenAndCompleted2 : State :=
  { (sess up3 3 fun x => { x with eqWritten := 15 }) with
    beacon := { up3.beacon with
      sources := [(768,
        {
          st := 1,
          count := 3,
          cause := 5,
          data := 7,
          time := 0,
          latched := false,
          en := true,
          prio := 3,
          route := some { mode := 0, target := 3, mask := 0 },
          holder := 0,
          pos := 0,
          presented := false })] } }

def stateTheBeaconsSourcesAreFiredTakenAndCompleted4 : State :=
  { up3 with
    beacon := { up3.beacon with
      sources := [(816,
        {
          st := 1,
          count := 3,
          cause := 5,
          data := 7,
          time := 0,
          latched := false,
          en := true,
          prio := 3,
          route := some { mode := 0, target := 16, mask := 0 },
          holder := 0,
          pos := 0,
          presented := false })] } }

def stateTheBeaconsSourcesAreFiredTakenAndCompleted7 : State :=
  { up3 with
    beacon := { up3.beacon with
      sources := [(816,
        {
          st := 1,
          count := 3,
          cause := 5,
          data := 7,
          time := 0,
          latched := false,
          en := true,
          prio := 3,
          route := some { mode := 1, target := 0, mask := 12 },
          holder := 0,
          pos := 0,
          presented := false })] } }

def stateTheBeaconsSourcesAreFiredTakenAndCompleted8 : State :=
  { up3 with
    beacon := { up3.beacon with
      sources := [(816,
        {
          st := 1,
          count := 3,
          cause := 5,
          data := 7,
          time := 0,
          latched := false,
          en := true,
          prio := 3,
          route := some { mode := 0, target := 35, mask := 0 },
          holder := 0,
          pos := 0,
          presented := false })] } }

/-- The hypotheses of Obligations.TheBeaconsSourcesAreFiredTakenAndCompleted, a state for each clause. -/
theorem witness_TheBeaconsSourcesAreFiredTakenAndCompleted :
    (∃ s : State, s = up ∧
      s.wf = true ∧ s.working = true ∧ srcReserved 700 = true ∧ srcReserved 5 = false ∧
        srcReserved (1311768464876175365 % 1024) = false ∧ s.sesWrites 3 = false ∧ s.sesWrites 0 = true ∧ ((s.source 5).st ≠ 1 ∨
        (s.source 5).en = false) ∧ s.beaconWorks = true ∧ s.nextFor 0 = none ∧ ((s.source 5).holder ≠ 16 + 0 ∨
        (s.source 5).st < 2) ∧
        (decide (816 < 1024) && decide ((s.routeOf 816).mode = 1) && decide ((s.source 816).st = 1) && (s.source 816).en && (s.maskHosts 816 (s.routeOf 816).mask).contains 0) = false ∧
        (∀ k < 1024, ¬((s.source k).st = 1 ∧ (s.source k).en = true ∧ (s.routeOf k).mode = 0 ∧
        (s.routeOf k).target = 32 + 3))) ∧
    (∃ s : State, s = stateTheBeaconsSourcesAreFiredTakenAndCompleted2 ∧
      s.wf = true ∧ s.working = true ∧ s.beaconWorks = true ∧ (s.source 768).st = 1 ∧ (s.source 768).en = true ∧
        (s.routeOf 768).mode = 0 ∧ (s.routeOf 768).target = 3 ∧ s.eqLive 3 = true ∧ (s.sess 3).phase = 0 ∧
        (s.sess 3).eqDropped = 0 ∧ (s.eqFree 3 = false ∨ s.stagingRoom 16 = false)) ∧
    (∃ s : State, s = { up3 with
      beacon := { up3.beacon with
        sources := [(816,
          {
            st := 1,
            count := 3,
            cause := 5,
            data := 7,
            time := 0,
            latched := false,
            en := true,
            prio := 3,
            route := none,
            holder := 67,
            pos := 0,
            presented := false })] } } ∧
      s.wf = true ∧ s.working = true ∧ s.beaconWorks = true ∧ (s.source 816).st = 1 ∧ (s.source 816).en = true ∧
        (s.routeOf 816).mode = 0 ∧ (s.routeOf 816).target = 3 ∧ s.eqLive 3 = true ∧ (s.sess 3).phase = 0 ∧
        (s.sess 3).eqDropped = 0 ∧ s.eqFree 3 = true ∧ s.stagingRoom 16 = true) ∧
    (∃ s : State, s = stateTheBeaconsSourcesAreFiredTakenAndCompleted4 ∧
      s.wf = true ∧ s.working = true ∧ s.beaconWorks = true ∧ s.nextFor 0 = some ((s.nextFor 0).getD 0) ∧
        ((s.nextFor 0).getD 0 < 64 ∨ 256 ≤ (s.nextFor 0).getD 0)) ∧
    (∃ s : State, s = { up3 with
      beacon := { up3.beacon with
        sources := [(816,
          {
            st := 2,
            count := 3,
            cause := 5,
            data := 7,
            time := 0,
            latched := false,
            en := true,
            prio := 3,
            route := none,
            holder := 16,
            pos := 0,
            presented := false })] } } ∧
      s.wf = true ∧ s.working = true ∧ (s.source 816).holder = 16 + 0 ∧ ((s.source 816).st = 2 ∨ (s.source 816).st = 3)) ∧
    (∃ s : State, s = { up3 with
      beacon := { up3.beacon with
        sources := [(816,
          {
            st := 2,
            count := 3,
            cause := 5,
            data := 7,
            time := 0,
            latched := false,
            en := true,
            prio := 3,
            route := none,
            holder := 67,
            pos := 0,
            presented := false })] } } ∧
      s.wf = true ∧ s.working = true ∧ s.sesWrites 3 = true ∧ (s.source 816).holder = 64 + 3 ∧ ((s.source 816).st = 2 ∨
        (s.source 816).st = 3)) ∧
    (∃ s : State, s = stateTheBeaconsSourcesAreFiredTakenAndCompleted7 ∧
      s.wf = true ∧ s.working = true ∧ s.sesWrites 0 = true ∧
        (decide (816 < 1024) && decide ((s.routeOf 816).mode = 1) && decide ((s.source 816).st = 1) && (s.source 816).en && (s.maskHosts 816 (s.routeOf 816).mask).contains 0) = true) ∧
    (∃ s : State, s = stateTheBeaconsSourcesAreFiredTakenAndCompleted8 ∧
      s.wf = true ∧ s.working = true ∧ (s.source 816).st = 1 ∧ (s.source 816).en = true ∧ (s.routeOf 816).mode = 0 ∧
        (s.routeOf 816).target = 32 + 3 ∧ (∀ j < 816, ¬((s.source j).st = 1 ∧ (s.source j).en = true ∧ (s.routeOf j).mode = 0 ∧
        (s.routeOf j).target = 32 + 3))) :=
  ⟨⟨_, rfl, by decide +kernel⟩,
   ⟨_, rfl, by decide +kernel⟩,
   ⟨_, rfl, by decide +kernel⟩,
   ⟨_, rfl, by decide +kernel⟩,
   ⟨_, rfl, by decide +kernel⟩,
   ⟨_, rfl, by decide +kernel⟩,
   ⟨_, rfl, by decide +kernel⟩,
   ⟨_, rfl, by decide +kernel⟩⟩

/-- The hypotheses of Obligations.CompassFollowsMarginsAndLevels, a state for each clause. -/
theorem witness_CompassFollowsMarginsAndLevels :
    (∃ s : State, s = State.reset ∧
      s.wf = true ∧ s.compassOn = false ∧ s.keep.shutHold = false ∧ s.kDieOn = true) ∧
    (∃ s : State, s = { (put up [(CP_STAT_VDD, 20, 0, 0), (CP_CTL_LO, 3, 0, 0)]) with
      keep := { up.keep with loopDue := 2000000000 } } ∧
      s.wf = true ∧ s.compassOn = true ∧ s.clock < s.keep.loopDue) ∧
    (∃ s : State, s = up ∧
      s.wf = true ∧ s.compassOn = true ∧ s.keep.loopDue ≤ s.clock ∧ s.flag CP_STAT_AVS_FAIL = false ∧ s.keep.avsAt = none ∧
        s.keep.raise = none ∧ s.keep.throttling = false ∧ s.aimLevel < 4 ∧ s.aimLevel = s.level) ∧
    (∃ s : State, s = (put up [(CP_STAT_VDD, 20, 0, 0), (CP_CTL_LO, 3, 0, 0), (CP_STAT_AVS_FAIL, 1, 0, 0)]) ∧
      s.wf = true ∧ s.compassOn = true ∧ s.flag CP_STAT_AVS_FAIL = true ∧ s.keep.avsAt = none) ∧
    (∃ s : State, s = (put up [(CP_STAT_VDD, 20, 0, 0), (GL_FLOOR_REQUIRED, 3, 0, 0), (GL_FLOOR_LEVEL, 2, 0, 0),
      (CP_CTL_MIN_LEVEL, 3, 0, 0), (CP_CTL_LO, 3, 0, 0), (KP_ADC_RAW, 2624, 0, 12), (KP_ADC_VALID, 1, 0, 12)]) ∧
      s.wf = true ∧ s.compassOn = true ∧ s.flag CP_STAT_AVS_FAIL = false ∧ s.keep.avsAt = none ∧ s.keep.raise = none ∧
        s.keep.throttling = false ∧ s.aimLevel < 4 ∧ s.level < s.aimLevel ∧ s.flag KP_ADC_VALID 0 12 = true ∧
        2624 ≤ s.rd KP_ADC_RAW 0 12 ∧ s.level < 4 ∧ s.level ≤ s.rd GL_FLOOR_REQUIRED) ∧
    (∃ s : State, s = (put up [(CP_STAT_VDD, 20, 0, 0), (GL_FLOOR_REQUIRED, 2, 0, 0), (GL_FLOOR_LEVEL, 3, 0, 0),
      (CP_CTL_LO, 3, 0, 0)]) ∧
      s.wf = true ∧ s.compassOn = true ∧ s.flag CP_STAT_AVS_FAIL = false ∧ s.keep.avsAt = none ∧ s.keep.raise = none ∧
        s.keep.throttling = false ∧ s.aimLevel < 4 ∧ s.aimLevel < s.level ∧ s.helmsQuiet = true) ∧
    (∃ s : State, s = (helm (put up [(CP_STAT_VDD, 20, 0, 0), (GL_FLOOR_LEVEL, 3, 0, 0), (CP_CTL_LO, 3, 0, 0)]) 5 fun x => { x with
      ps := PState.running,
      run := some { run0 with limit := 10 } }) ∧
      s.wf = true ∧ s.compassOn = true ∧ s.flag CP_STAT_AVS_FAIL = false ∧ s.keep.avsAt = none ∧ s.keep.raise = none ∧
        s.keep.throttling = false ∧ s.aimLevel < 4 ∧ s.aimLevel < s.level ∧ s.helmsQuiet = false) ∧
    (∃ s : State, s = { (put up [(CP_STAT_VDD, 20, 0, 0), (GL_FLOOR_REQUIRED, 3, 0, 0), (CP_CTL_MIN_LEVEL, 3, 0, 0),
      (CP_CTL_LO, 3, 0, 0)]) with
      keep := { up.keep with raise := some (1, 999990000) } } ∧
      s.wf = true ∧ s.compassOn = true ∧ s.flag CP_STAT_AVS_FAIL = false ∧ s.keep.avsAt = none ∧
        s.keep.raise = some ((s.keep.raise.getD (0, 0)).1, (s.keep.raise.getD (0, 0)).2) ∧ s.level < (s.keep.raise.getD (0,
        0)).1 ∧ (s.keep.raise.getD (0, 0)).1 < 4 ∧ (s.keep.raise.getD (0, 0)).1 ≤ s.aimLevel ∧ s.clock < (s.keep.raise.getD (0,
        0)).2 + 40000) ∧
    (∃ s : State, s = { (put up [(CP_STAT_VDD, 20, 0, 0), (GL_FLOOR_REQUIRED, 3, 0, 0), (CP_CTL_MIN_LEVEL, 3, 0, 0),
      (CP_CTL_LO, 3, 0, 0)]) with
      keep := { up.keep with raise := some (1, 999960000) } } ∧
      s.wf = true ∧ s.compassOn = true ∧ s.flag CP_STAT_AVS_FAIL = false ∧ s.keep.avsAt = none ∧
        s.keep.raise = some ((s.keep.raise.getD (0, 0)).1, (s.keep.raise.getD (0, 0)).2) ∧ s.level < (s.keep.raise.getD (0,
        0)).1 ∧ (s.keep.raise.getD (0, 0)).1 < 4 ∧ (s.keep.raise.getD (0, 0)).1 ≤ s.aimLevel ∧ (s.keep.raise.getD (0,
        0)).2 + 40000 ≤ s.clock) ∧
    (∃ s : State, s = (put up [(CP_STAT_VDD, 20, 0, 0), (GL_FLOOR_REQUIRED, 2, 0, 0), (GL_FLOOR_LEVEL, 3, 0, 0),
      (CP_CTL_MIN_LEVEL, 2, 0, 0), (CP_CTL_LO, 3, 0, 0), (KP_ADC_RAW, 2624, 0, 12), (KP_ADC_VALID, 1, 0, 12)]) ∧
      s.wf = true ∧ s.compassOn = true ∧ s.flag CP_STAT_AVS_FAIL = false ∧ s.keep.avsAt = none ∧
        s.flag KP_ADC_VALID 0 12 = true ∧ 2624 ≤ s.rd KP_ADC_RAW 0 12 ∧ s.keep.throttling = false ∧ s.level < 4 ∧
        s.rd GL_FLOOR_REQUIRED < s.level ∧ s.helmsQuiet = true) ∧
    (∃ s : State, s = { (put up [(CP_STAT_VDD, 20, 0, 0), (CP_CTL_LO, 3, 0, 0)]) with
      keep := { up.keep with avsAt := some 999990001 } } ∧
      s.wf = true ∧ s.compassOn = true ∧ s.keep.avsAt = some (s.keep.avsAt.getD 0) ∧ s.clock < s.keep.avsAt.getD 0 + 10000) ∧
    (∃ s : State, s = { (put up [(CP_STAT_VDD, 20, 0, 0), (CP_CTL_LO, 3, 0, 0)]) with
      keep := { up.keep with avsAt := some 999990000, avsTries := 1 } } ∧
      s.wf = true ∧ s.compassOn = true ∧ s.keep.avsAt = some (s.keep.avsAt.getD 0) ∧ s.keep.avsAt.getD 0 + 10000 ≤ s.clock ∧
        s.keep.avsTries < 2) ∧
    (∃ s : State, s = { (put up [(CP_STAT_VDD, 20, 0, 0), (CP_CTL_LO, 3, 0, 0)]) with
      keep := { up.keep with avsAt := some 999990000, avsTries := 2, acked := 13 } } ∧
      s.wf = true ∧ s.compassOn = true ∧ s.keep.avsAt = some (s.keep.avsAt.getD 0) ∧ s.keep.avsAt.getD 0 + 10000 ≤ s.clock ∧
        2 ≤ s.keep.avsTries ∧ s.keep.acked < 64 ∧ s.beaconUp = true ∧ s.keep.entry = none) ∧
    (∃ s : State, s = { (put up [(CP_STAT_VDD, 20, 0, 0), (CP_CTL_LO, 3, 0, 0), (CP_STAT_AVS_FAIL, 1, 0, 0)]) with
      keep := { up.keep with avsRetry := some 1000000001 } } ∧
      s.wf = true ∧ s.compassOn = true ∧ s.keep.avsRetry = some (s.keep.avsRetry.getD 0) ∧ s.clock < s.keep.avsRetry.getD 0) ∧
    (∃ s : State, s = { (put up [(CP_STAT_VDD, 20, 0, 0), (GL_FLOOR_THROTTLE, 1, 0, 0), (CP_CTL_LO, 3, 0, 0),
      (CP_STAT_AVS_FAIL, 1, 0, 0)]) with
      keep := { up.keep with acked := 13, avsRetry := some 1000000000 } } ∧
      s.wf = true ∧ s.compassOn = true ∧ s.keep.avsRetry = some (s.keep.avsRetry.getD 0) ∧ s.keep.avsRetry.getD 0 ≤ s.clock ∧
        s.beaconUp = true ∧ s.keep.entry = none) ∧
    (∃ s : State, s = { (put up [(CP_STAT_VDD, 20, 0, 0), (CP_CTL_LO, 3, 0, 0)]) with
      keep := { up.keep with shutHold := true } } ∧
      s.wf = true ∧ s.keep.shutHold = true) :=
  ⟨⟨_, rfl, by decide +kernel⟩,
   ⟨_, rfl, by decide +kernel⟩,
   ⟨_, rfl, by decide +kernel⟩,
   ⟨_, rfl, by decide +kernel⟩,
   ⟨_, rfl, by decide +kernel⟩,
   ⟨_, rfl, by decide +kernel⟩,
   ⟨_, rfl, by decide +kernel⟩,
   ⟨_, rfl, by decide +kernel⟩,
   ⟨_, rfl, by decide +kernel⟩,
   ⟨_, rfl, by decide +kernel⟩,
   ⟨_, rfl, by decide +kernel⟩,
   ⟨_, rfl, by decide +kernel⟩,
   ⟨_, rfl, by decide +kernel⟩,
   ⟨_, rfl, by decide +kernel⟩,
   ⟨_, rfl, by decide +kernel⟩,
   ⟨_, rfl, by decide +kernel⟩⟩

/-- The hypotheses of Obligations.TheTetherResendsIsLostAndRetrains, a state for each clause. -/
theorem witness_TheTetherResendsIsLostAndRetrains :
    (∃ s : State, s = State.reset ∧
      s.wf = true ∧ s.flag KP_TETHER_UP = false ∧ s.boot.lostAt = none ∧ (s.boot.phase ≠ 2 ∨
        s.clock < s.boot.since + 10000000)) ∧
    (∃ s : State, s = up ∧
      s.wf = true ∧ s.flag KP_TETHER_UP = true ∧ s.rd KP_PWR_STAT_EDIE ≤ 2 ∧ s.flag LG_STAT_HOLD = false) ∧
    (∃ s : State, s = { (put up3 [(KP_TETHER_UP, 0, 0, 0), (GL_FLOOR_THROTTLE, 1, 0, 0)]) with
      boot := { up3.boot with lostAt := some 5, trainDue := 2000000000 } } ∧
      s.wf = true ∧ s.boot.lostAt = some (s.boot.lostAt.getD 0) ∧ s.clock < s.boot.trainDue) ∧
    (∃ s : State, s = { (put up3 [(KP_TETHER_UP, 0, 0, 0), (GL_FLOOR_THROTTLE, 1, 0, 0)]) with
      boot := { up3.boot with lostAt := some 5, trainDue := 5 } } ∧
      s.wf = true ∧ s.boot.lostAt = some (s.boot.lostAt.getD 0) ∧ s.boot.trainDue ≤ s.clock ∧
        s.boot.lostAt.getD 0 + 100000000 ≤ s.clock ∧ s.working = true ∧ s.rd KP_PWR_STAT_EDIE ≤ 2) ∧
    (∃ s : State, s = { (put up3 [(KP_TETHER_UP, 0, 0, 0), (GL_FLOOR_THROTTLE, 1, 0, 0)]) with
      boot := { up3.boot with lostAt := some 950000000, trainDue := 5 } } ∧
      s.wf = true ∧ s.boot.lostAt = some (s.boot.lostAt.getD 0) ∧ s.clock < s.boot.lostAt.getD 0 + 100000000) ∧
    (∃ s : State, s = { (put up [(GL_BOOT_READY, 0, 0, 0)]) with boot := { up.boot with phase := 2, since := 5 } } ∧
      s.wf = true ∧ s.boot.phase = 2 ∧ s.boot.since + 10000000 ≤ s.clock ∧ s.rd KP_PWR_STAT_EDIE ≤ 2 ∧ s.health.dump = none ∧
        s.flag LG_STAT_HOLD = false) :=
  ⟨⟨_, rfl, by decide +kernel⟩,
   ⟨_, rfl, by decide +kernel⟩,
   ⟨_, rfl, by decide +kernel⟩,
   ⟨_, rfl, by decide +kernel⟩,
   ⟨_, rfl, by decide +kernel⟩,
   ⟨_, rfl, by decide +kernel⟩⟩

def stateTheCalendarAndTheWakeLatches2 : State :=
  { (put up3 [(KP_CAL_TIME_LO, 9, 0, 12), (KP_CAL_VALID, 1, 0, 12), (KP_CAL_ACTION, 1, 0, 12), (KP_CAL_TIME_LO, 9, 0, 13),
    (KP_CAL_VALID, 1, 0, 13), (KP_CAL_ACTION, 1, 0, 13), (KP_CAL_TIME_LO, 9, 0, 14), (KP_CAL_VALID, 1, 0, 14),
    (KP_CAL_ACTION, 1, 0, 14), (KP_CAL_TIME_LO, 9, 0, 15), (KP_CAL_VALID, 1, 0, 15), (KP_CAL_ACTION, 1, 0, 15)]) with
    ops := [op 3 7 0x3e 65535 [305419896, 65541, 145, 5]] }

/-- The hypotheses of Obligations.TheCalendarAndTheWakeLatches, a state for each clause. -/
theorem witness_TheCalendarAndTheWakeLatches :
    (∃ s : State, s = { (put up3 [(KP_TETHER_UP, 0, 0, 0)]) with ops := [op 3 7 0x3e 65535 [305419896, 65541, 145, 5]] } ∧
      s.wf = true ∧ opIn s 3 7 0x3E = true ∧ (opOf s 3 7).par 2 % 8 = 1 ∧ s.flag KP_TETHER_UP = false ∧ s.kDieOn = true ∧
        s.beaconUp = false ∧ s.maskBit KP_WAKE_EN 17 = false) ∧
    (∃ s : State, s = stateTheCalendarAndTheWakeLatches2 ∧
      s.wf = true ∧ opIn s 3 7 0x3E = true ∧ (opOf s 3 7).par 2 % 8 = 1 ∧ s.flag KP_TETHER_UP = true ∧ (∀ (k : Fin 4),
        s.flag KP_CAL_VALID 0 (4 * 3 + ↑k) = true)) ∧
    (∃ s : State, s = { up3 with ops := [op 3 7 0x3e 65535 [305419896, 65541, 145, 5]] } ∧
      s.wf = true ∧ opIn s 3 7 0x3E = true ∧ (opOf s 3 7).par 2 % 8 = 1 ∧ s.flag KP_TETHER_UP = true ∧ (∃ (k : Fin 4),
        s.flag KP_CAL_VALID 0 (4 * 3 + ↑k) = false) ∧ (s.calDue 0 = false ∨ s.calIs 0 1 = false) ∧ (s.calDue 0 = false ∨
        s.calIs 0 2 = false) ∧ s.isDue s.keep.holdUntil = false ∧ s.kDieOn = true ∧ s.beaconUp = true ∧ s.rd KP_DOM % 4 = 0 ∧
        s.keep.e0 = none ∧ s.tm.slewLeft = 0) ∧
    (∃ s : State, s = { (put up3 [(KP_TETHER_UP, 0, 0, 0)]) with ops := [op 3 7 0x3e 65535 [305419896, 65541, 146, 5]] } ∧
      s.wf = true ∧ opIn s 3 7 0x3E = true ∧ (opOf s 3 7).par 2 % 8 = 2 ∧ s.flag KP_TETHER_UP = false) ∧
    (∃ s : State, s = { stateTheCalendarAndTheWakeLatches2 with ops := [op 3 7 0x3e 65535 [305419896, 65541, 146, 5]] } ∧
      s.wf = true ∧ opIn s 3 7 0x3E = true ∧ (opOf s 3 7).par 2 % 8 = 2 ∧ s.flag KP_TETHER_UP = true ∧ (∀ (k : Fin 4),
        s.flag KP_CAL_VALID 0 (4 * 3 + ↑k) = true)) ∧
    (∃ s : State, s = { up3 with ops := [op 3 7 0x3e 65535 [305419896, 65541, 146, 5]] } ∧
      s.wf = true ∧ opIn s 3 7 0x3E = true ∧ (opOf s 3 7).par 2 % 8 = 2 ∧ s.flag KP_TETHER_UP = true ∧ (∃ (k : Fin 4),
        s.flag KP_CAL_VALID 0 (4 * 3 + ↑k) = false)) ∧
    (∃ s : State, s = { (put up3 [(KP_TETHER_UP, 0, 0, 0)]) with ops := [op 3 7 0x3e 65535 [305419896, 65541, 144, 5]] } ∧
      s.wf = true ∧ opIn s 3 7 0x3E = true ∧ (opOf s 3 7).par 2 % 8 = 0 ∧ s.flag KP_TETHER_UP = false) ∧
    (∃ s : State, s = { stateTheCalendarAndTheWakeLatches2 with ops := [op 3 7 0x3e 65535 [305419896, 65541, 144, 13]] } ∧
      s.wf = true ∧ opIn s 3 7 0x3E = true ∧ (opOf s 3 7).par 2 % 8 = 0 ∧ s.flag KP_TETHER_UP = true ∧
        s.flag KP_CAL_VALID 0 ((opOf s 3 7).par 3) = true) ∧
    (∃ s : State, s = { up3 with ops := [op 3 7 0x3e 65535 [305419896, 65541, 144, 5]] } ∧
      s.wf = true ∧ opIn s 3 7 0x3E = true ∧ (opOf s 3 7).par 2 % 8 = 0 ∧ s.flag KP_TETHER_UP = true ∧
        s.flag KP_CAL_VALID 0 ((opOf s 3 7).par 3) = false) ∧
    (∃ s : State, s = { (put up3 [(KP_CAL_TIME_LO, 5, 0, 0), (KP_CAL_VALID, 1, 0, 0), (KP_CAL_ACTION, 1, 0, 0),
      (KP_CAL_K, 9, 0, 0)]) with
      tm := { up3.tm with keeper := 10 } } ∧
      s.wf = true ∧ s.beaconUp = true ∧ s.rd KP_PWR_STAT_EDIE ≤ 2 ∧ s.keep.entry = none ∧ s.calDue 0 = true ∧
        s.calIs 0 1 = true ∧ s.rd KP_CAL_K < 16) ∧
    (∃ s : State, s = { (put up3 [(KP_CAL_TIME_LO, 5, 0, 0), (KP_CAL_VALID, 1, 0, 0), (KP_CAL_ACTION, 2, 0, 0),
      (KP_CAL_K, 9, 0, 0)]) with
      tm := { up3.tm with keeper := 10 } } ∧
      s.wf = true ∧ s.beaconUp = true ∧ s.rd KP_PWR_STAT_EDIE ≤ 2 ∧ s.keep.entry = none ∧ s.calDue 0 = true ∧
        s.calIs 0 2 = true ∧ s.rd KP_CAL_K < 16) ∧
    (∃ s : State, s = { up3 with keep := { up3.keep with holdUntil := some 5 } } ∧
      s.wf = true ∧ s.isDue s.keep.holdUntil = true ∧ s.kDieOn = true) ∧
    (∃ s : State, s = { (put up [(GL_REFIN_SEL, 5, 0, 0), (GL_REFIN_VALID, 1, 0, 0)]) with
      tm := { up.tm with device := 5000000000, slewAcc := 3 },
      keep := { up.keep with e0 := some 1000000000, ppsUntil := some 2000000000 } } ∧
      s.wf = true ∧ s.keep.e0 = some (s.keep.e0.getD 0) ∧ s.keep.ppsUntil = some (s.keep.ppsUntil.getD 0) ∧ s.eDieOn = true ∧
        s.clock ≤ s.keep.ppsUntil.getD 0 ∧ s.rd GL_REFIN_SEL = 5 ∧ s.flag GL_REFIN_VALID = true) ∧
    (∃ s : State, s = { (put up [(GL_REFIN_SEL, 5, 0, 0), (GL_REFIN_VALID, 1, 0, 0)]) with
      tm := { up.tm with device := 5000000100, slewLeft := 3, slewAcc := 3 },
      keep := { up.keep with e0 := some 1000000000, ppsUntil := some 2000000000 } } ∧
      s.wf = true ∧ s.tm.slewLeft ≠ 0) :=
  ⟨⟨_, rfl, by decide +kernel⟩,
   ⟨_, rfl, by decide +kernel⟩,
   ⟨_, rfl, by decide +kernel⟩,
   ⟨_, rfl, by decide +kernel⟩,
   ⟨_, rfl, by decide +kernel⟩,
   ⟨_, rfl, by decide +kernel⟩,
   ⟨_, rfl, by decide +kernel⟩,
   ⟨_, rfl, by decide +kernel⟩,
   ⟨_, rfl, by decide +kernel⟩,
   ⟨_, rfl, by decide +kernel⟩,
   ⟨_, rfl, by decide +kernel⟩,
   ⟨_, rfl, by decide +kernel⟩,
   ⟨_, rfl, by decide +kernel⟩,
   ⟨_, rfl, by decide +kernel⟩⟩

/-- The hypotheses of Obligations.FeedsSwitchBreakBeforeMakeAndCutOff, a state for each clause. -/
theorem witness_FeedsSwitchBreakBeforeMakeAndCutOff :
    (∃ s : State, s = { (put up [(FD_STAT_VALID, 1, 0, 0), (FD_PATH_PACK, 0, 0, 0)]) with feed := { up.feed with path := 1 } } ∧
      s.wf = true ∧ s.kDieOn = true ∧ s.feedValid 0 = true ∧ s.beaconUp = true ∧ s.keep.entry = none ∧ s.feed.dead = none ∧
        s.feed.path ≠ 0 ∧ s.packAlone = false ∧ s.flag FD_STAT_PACK_LOW = false ∧
        0 ≤ 5600 + 50 * min 28 (s.rd FD_PACK_CUTOFF) + 50 * min 20 (s.rd FD_PACK_WARN) ∧ s.flag FD_STAT_CUTOFF = false) ∧
    (∃ s : State, s = State.reset ∧
      s.wf = true ∧ s.kDieOn = true ∧ s.feedValid 0 = false ∧ s.feed.dead = none ∧ s.feed.path = 0 ∧ s.packAlone = true ∧
        s.flag FD_STAT_PACK_LOW = false ∧ 5600 + 50 * min 28 (s.rd FD_PACK_CUTOFF) + 50 * min 20 (s.rd FD_PACK_WARN) < 7000 ∧
        s.flag FD_STAT_CUTOFF = false ∧ s.isDue s.feed.grace = false ∧ (0 % 4 ≠ 0 ∧ (0 % 4 = 0 / 4 % 4 ∨ 0 % 4 = 0 / 16 % 4) ∨
        0 / 4 % 4 ≠ 0 ∧ 0 / 4 % 4 = 0 / 16 % 4 ∨ s.mirrorOk = false)) ∧
    (∃ s : State, s = { (put up [(FD_STAT_VALID, 2, 0, 0), (FD_PATH_PACK, 0, 0, 0)]) with feed := { up.feed with path := 3 } } ∧
      s.wf = true ∧ s.kDieOn = true ∧ s.beaconUp = true ∧ s.keep.entry = none ∧ s.feed.dead = none ∧ s.feed.path ≠ 0 ∧
        s.feedValid 0 = false ∧ s.flag FD_STAT_CUTOFF = false) ∧
    (∃ s : State, s = { (put up3 [(FD_STAT_VALID, 7, 0, 0)]) with feed := { up3.feed with dead := some (1, 2000000000) } } ∧
      s.wf = true ∧ s.kDieOn = true ∧ s.feed.dead = some ((s.feed.dead.getD (0, 0)).1, (s.feed.dead.getD (0, 0)).2) ∧
        s.clock < (s.feed.dead.getD (0, 0)).2) ∧
    (∃ s : State, s = { (put up3 [(FD_STAT_VALID, 7, 0, 0)]) with feed := { up3.feed with dead := some (1, 5) } } ∧
      s.wf = true ∧ s.kDieOn = true ∧ s.feed.dead = some ((s.feed.dead.getD (0, 0)).1, (s.feed.dead.getD (0, 0)).2) ∧
        (s.feed.dead.getD (0, 0)).2 ≤ s.clock ∧ s.wantedPath = (s.feed.dead.getD (0, 0)).1) ∧
    (∃ s : State, s = { (put up3 [(FD_STAT_VALID, 7, 0, 0), (FD_STAT_PACK_LOW, 1, 0, 0), (FD_PACK_CUTOFF, 28, 0, 0),
      (FD_PACK_WARN, 20, 0, 0)]) with
      feed := { up3.feed with path := 1 } } ∧
      s.wf = true ∧ s.kDieOn = true ∧ s.flag FD_STAT_PACK_LOW = true ∧
        0 ≤ 5600 + 50 * min 28 (s.rd FD_PACK_CUTOFF) + 50 * min 20 (s.rd FD_PACK_WARN) + 100 ∧ s.beaconUp = true ∧
        s.keep.entry = none ∧ 5600 + 50 * min 28 (s.rd FD_PACK_CUTOFF) + 50 * min 20 (s.rd FD_PACK_WARN) + 100 < 8101) ∧
    (∃ s : State, s = { (put up3 [(FD_STAT_VALID, 7, 0, 0), (FD_STAT_CUTOFF, 1, 0, 0)]) with
      feed := { up3.feed with path := 1 } } ∧
      s.wf = true ∧ s.kDieOn = true ∧ s.flag FD_STAT_CUTOFF = true) ∧
    (∃ s : State, s = up ∧
      s.wf = true ∧ s.kDieOn = true ∧ s.flag FD_STAT_CUTOFF = false ∧ s.beaconUp = true ∧ s.keep.entry = none ∧
        s.packAlone = true ∧ s.mirrorOk = true) ∧
    (∃ s : State, s = { (put up3 [(FD_STAT_VALID, 7, 0, 0), (FD_STAT_CUTOFF, 1, 0, 0), (BY_STAT_STATE, 5, 0, 1)]) with
      feed := { up3.feed with path := 1, grace := some 1000000000 } } ∧
      s.wf = true ∧ s.kDieOn = true ∧ s.isDue s.feed.grace = true) :=
  ⟨⟨_, rfl, by decide +kernel⟩,
   ⟨_, rfl, by decide +kernel⟩,
   ⟨_, rfl, by decide +kernel⟩,
   ⟨_, rfl, by decide +kernel⟩,
   ⟨_, rfl, by decide +kernel⟩,
   ⟨_, rfl, by decide +kernel⟩,
   ⟨_, rfl, by decide +kernel⟩,
   ⟨_, rfl, by decide +kernel⟩,
   ⟨_, rfl, by decide +kernel⟩⟩

def statePoeGrantsAllowanceShedAndOverdraw5 : State :=
  { (put up [(KP_ADC_RAW, 2000, 0, 2), (KP_ADC_VALID, 1, 0, 2), (KP_ADC_RAW, 1000, 0, 3), (KP_ADC_VALID, 1, 0, 3),
    (FD_STAT_VALID, 2, 0, 0), (FD_PATH_DOCK, 1, 0, 0), (FD_LIM_DOCK_LIMIT, 5000, 0, 0), (BY_CFG_SHED, 1, 0, 1),
    (BY_CFG_BUDGET_MW, 3000, 0, 1), (BY_STAT_STATE, 5, 0, 1), (BY_CFG_BUDGET_MW, 2000, 0, 3), (BY_STAT_STATE, 4, 0, 3)]) with
    feed := { up.feed with path := 3, shortAt := some 900000000 } }

def statePoeGrantsAllowanceShedAndOverdraw6 : State :=
  { (put up [(KP_ADC_RAW, 2000, 0, 2), (KP_ADC_VALID, 1, 0, 2), (KP_ADC_RAW, 1000, 0, 3), (KP_ADC_VALID, 1, 0, 3),
    (FD_STAT_VALID, 2, 0, 0), (FD_PATH_DOCK, 1, 0, 0), (FD_LIM_DOCK_LIMIT, 5000, 0, 0)]) with
    feed := { up.feed with path := 3, overAt := some 900000001 } }

/-- The hypotheses of Obligations.PoeGrantsAllowanceShedAndOverdraw, a state for each clause. -/
theorem witness_PoeGrantsAllowanceShedAndOverdraw :
    (∃ s : State, s = up ∧
      s.wf = true ∧ s.kDieOn = true ∧ s.beaconUp = true ∧ s.keep.entry = none ∧ s.feed.dead = none ∧ (∀ (b : Fin 4),
        s.bayState ↑b ≠ 3) ∧ s.feed.shortAt = none ∧ s.inputMw ≤ s.availMw) ∧
    (∃ s : State, s = (put up [(FD_POE_CFG_CLASS, 4, 0, 0), (FD_POE_EVENTS, 1, 0, 0)]) ∧
      s.wf = true ∧ s.kDieOn = true ∧ s.beaconUp = true ∧ s.keep.entry = none ∧ 1 ≤ s.rd FD_POE_EVENTS) ∧
    (∃ s : State, s = { up with feed := { up.feed with dead := some (1, 5) } } ∧
      s.wf = true ∧ s.kDieOn = true ∧ s.beaconUp = true ∧ s.keep.entry = none ∧ s.feed.dead.isSome = true) ∧
    (∃ s : State, s = { up with feed := { up.feed with shortAt := some 900000001 } } ∧
      s.wf = true ∧ s.kDieOn = true ∧ s.beaconUp = true ∧ s.keep.entry = none ∧ s.feed.shortAt = some (s.feed.shortAt.getD 0) ∧
        (s.clock < s.feed.shortAt.getD 0 + 100000000 ∨ s.rd FD_BASE_BASE_MW + s.bayBudgets ≤ s.availMw)) ∧
    (∃ s : State, s = statePoeGrantsAllowanceShedAndOverdraw5 ∧
      s.wf = true ∧ s.kDieOn = true ∧ s.beaconUp = true ∧ s.keep.entry = none ∧ s.feed.shortAt = some (s.feed.shortAt.getD 0) ∧
        s.feed.shortAt.getD 0 + 100000000 ≤ s.clock ∧ s.availMw < s.rd FD_BASE_BASE_MW + s.bayBudgets ∧ (s.bayState 1 = 4 ∨
        s.bayState 1 = 5) ∧ s.flag BY_CFG_SHED 0 1 = true ∧ (∀ (c : Fin 4), 1 < c → ¬((s.bayState ↑c = 4 ∨ s.bayState ↑c = 5) ∧
        s.flag BY_CFG_SHED 0 ↑c = true)) ∧ s.availMw < s.inputMw ∧ s.feed.overAt = none) ∧
    (∃ s : State, s = statePoeGrantsAllowanceShedAndOverdraw6 ∧
      s.wf = true ∧ s.kDieOn = true ∧ s.beaconUp = true ∧ s.keep.entry = none ∧ s.availMw < s.inputMw ∧
        s.feed.overAt = some (s.feed.overAt.getD 0) ∧ s.clock < s.feed.overAt.getD 0 + 100000000) ∧
    (∃ s : State, s = { statePoeGrantsAllowanceShedAndOverdraw6 with
      feed := { statePoeGrantsAllowanceShedAndOverdraw6.feed with overAt := some 900000000 } } ∧
      s.wf = true ∧ s.kDieOn = true ∧ s.beaconUp = true ∧ s.keep.entry = none ∧ s.availMw < s.inputMw ∧
        s.feed.overAt = some (s.feed.overAt.getD 0) ∧ s.feed.overAt.getD 0 + 100000000 ≤ s.clock ∧
        s.flag FD_STAT_OVERDRAW = false) :=
  ⟨⟨_, rfl, by decide +kernel⟩,
   ⟨_, rfl, by decide +kernel⟩,
   ⟨_, rfl, by decide +kernel⟩,
   ⟨_, rfl, by decide +kernel⟩,
   ⟨_, rfl, by decide +kernel⟩,
   ⟨_, rfl, by decide +kernel⟩,
   ⟨_, rfl, by decide +kernel⟩⟩

def stateBaysSeatStartFaultAndRetry1 : State :=
  { (put up [(KP_TETHER_UP, 0, 0, 0), (FD_STAT_VALID, 2, 0, 0), (FD_PATH_DOCK, 1, 0, 0), (FD_LIM_DOCK_LIMIT, 30000, 0, 0),
    (BY_CFG_BUDGET_MW, 3000, 0, 1), (BY_TIME_FLT_LIMIT, 3, 0, 1), (BY_STAT_SEAT_A, 1, 0, 1), (BY_STAT_SEAT_B, 1, 0, 1),
    (BY_MAP_HS, 3, 0, 2), (BY_MAP_LP, 16, 0, 2)]) with
    ops := [op 0 7 0x3c 20481 []],
    feed := { up.feed with path := 3 } }

def stateBaysSeatStartFaultAndRetry4 : State :=
  { (bay (put stateBaysSeatStartFaultAndRetry1 [(BY_STAT_STATE, 2, 0, 1), (KP_TETHER_UP, 1, 0, 0)]) 1 fun x => { x with
    seatAt := some 1000000000,
    startAt := 5,
    slew := 10,
    retryAt := some 1000000000,
    onAt := some 1000000000 }) with
    ops := [] }

/-- The hypotheses of Obligations.BaysSeatStartFaultAndRetry, a state for each clause. -/
theorem witness_BaysSeatStartFaultAndRetry :
    (∃ s : State, s = stateBaysSeatStartFaultAndRetry1 ∧
      s.wf = true ∧ s.kDieOn = true ∧ s.mirrorOk = false ∧ s.baySeated 1 = true) ∧
    (∃ s : State, s = { (put stateBaysSeatStartFaultAndRetry1 [(BY_STAT_SEAT_A, 0, 0, 1), (BY_STAT_SEAT_B, 0, 0, 1),
      (KP_TETHER_UP, 1, 0, 0)]) with
      ops := [] } ∧
      s.wf = true ∧ s.kDieOn = true ∧ s.mirrorOk = true ∧ s.bayState 1 = 0 ∧ s.baySeated 1 = false ∧ (s.bayState 1 ≠ 2 ∨
        s.isDue (s.bay 1).seatAt = false) ∧ s.bayState 1 ≠ 4 ∧ s.bayState 1 ≠ 5 ∧ (s.bayState 1 ≠ 6 ∨
        s.isDue (s.bay 1).retryAt = false) ∧ (s.bay 1).onAt = none ∧ (∃ (c : Fin 4), c ≠ 1 ∧
        ((4099 % 256).land (s.rd BY_MAP_HS 0 ↑c) ≠ 0 ∨ (4099 / 256 % 65536).land (s.rd BY_MAP_LP 0 ↑c) ≠ 0))) ∧
    (∃ s : State, s = { (put stateBaysSeatStartFaultAndRetry1 [(BY_STAT_SEAT_A, 0, 0, 1), (BY_STAT_SEAT_B, 0, 0, 1),
      (BY_STAT_STATE, 1, 0, 1), (KP_TETHER_UP, 1, 0, 0)]) with
      ops := [] } ∧
      s.wf = true ∧ s.kDieOn = true ∧ s.mirrorOk = true ∧ s.bayState 1 ≠ 0) ∧
    (∃ s : State, s = stateBaysSeatStartFaultAndRetry4 ∧
      s.wf = true ∧ s.kDieOn = true ∧ s.bayState 1 = 2 ∧ s.isDue (s.bay 1).seatAt = true ∧ (s.bayWindow 1 = true ∨
        s.baySeated 1 = true)) ∧
    (∃ s : State, s = { (put stateBaysSeatStartFaultAndRetry4 [(BY_STAT_STATE, 4, 0, 1), (BY_STAT_SEAT_A, 0, 0, 1),
      (BY_STAT_SEAT_B, 0, 0, 1)]) with
      bays := [] } ∧
      s.wf = true ∧ s.kDieOn = true ∧ s.bayState 1 = 4 ∧ (s.bay 1).startAt + bayRampNs (s.bay 1).slew ≤ s.clock ∧
        (s.bay 1).startAt + 2 * bayRampNs (s.bay 1).slew ≤ s.clock) ∧
    (∃ s : State, s = { (put stateBaysSeatStartFaultAndRetry4 [(BY_STAT_STATE, 5, 0, 1), (BY_STAT_SEAT_A, 0, 0, 1),
      (BY_STAT_SEAT_B, 0, 0, 1)]) with
      bays := [] } ∧
      s.wf = true ∧ s.kDieOn = true ∧ s.bayState 1 = 5 ∧ s.mirrorOk = true ∧ (¬∃ (c : Fin 4), c ≠ 1 ∧
        ((0 % 256).land (s.rd BY_MAP_HS 0 ↑c) ≠ 0 ∨ (0 / 256 % 65536).land (s.rd BY_MAP_LP 0 ↑c) ≠ 0))) ∧
    (∃ s : State, s = (put stateBaysSeatStartFaultAndRetry4 [(BY_STAT_STATE, 6, 0, 1), (BY_STAT_SEAT_A, 0, 0, 1),
      (BY_STAT_SEAT_B, 0, 0, 1)]) ∧
      s.wf = true ∧ s.kDieOn = true ∧ s.bayState 1 = 6 ∧ s.isDue (s.bay 1).retryAt = true) ∧
    (∃ s : State, s = { (put stateBaysSeatStartFaultAndRetry4 [(BY_STAT_STATE, 5, 0, 1), (BY_STAT_SEAT_A, 0, 0, 1),
      (BY_STAT_SEAT_B, 0, 0, 1), (BY_MAP_HS, 4, 0, 1), (BY_STAT_COUNT, 2, 0, 1)]) with
      clock := 20000000000 } ∧
      s.wf = true ∧ s.kDieOn = true ∧ s.bayState 1 = 5 ∧ (s.bay 1).onAt = some ((s.bay 1).onAt.getD 0) ∧
        (s.bay 1).onAt.getD 0 + 10000000000 ≤ s.clock) ∧
    (∃ s : State, s = stateBaysSeatStartFaultAndRetry1 ∧
      s.wf = true ∧ s.kDieOn = true ∧ opIn s 0 7 0x3C = true ∧ (opOf s 0 7).par 0 % 256 = 0 ∧ (opOf s 0 7).obj = 0x5001 ∧
        s.flag KP_TETHER_UP = false) ∧
    (∃ s : State, s = { (put stateBaysSeatStartFaultAndRetry1 [(KP_TETHER_UP, 1, 0, 0)]) with ops := [op 0 7 0x3c 20481 [3]] } ∧
      s.wf = true ∧ s.kDieOn = true ∧ opIn s 0 7 0x3C = true ∧ (opOf s 0 7).par 0 % 256 = 3 ∧ (opOf s 0 7).obj = 0x5001 ∧
        s.flag KP_TETHER_UP = true ∧ s.bayState 1 = 0) :=
  ⟨⟨_, rfl, by decide +kernel⟩,
   ⟨_, rfl, by decide +kernel⟩,
   ⟨_, rfl, by decide +kernel⟩,
   ⟨_, rfl, by decide +kernel⟩,
   ⟨_, rfl, by decide +kernel⟩,
   ⟨_, rfl, by decide +kernel⟩,
   ⟨_, rfl, by decide +kernel⟩,
   ⟨_, rfl, by decide +kernel⟩,
   ⟨_, rfl, by decide +kernel⟩,
   ⟨_, rfl, by decide +kernel⟩⟩

/-- The hypotheses of Obligations.HeadsAreIdentifiedAndTheAdcScans, a state for each clause. -/
theorem witness_HeadsAreIdentifiedAndTheAdcScans :
    (∃ s : State, s = { (bay (put up3 [(BY_STAT_STATE, 5, 0, 1)]) 1 fun x => { x with
      idFrom := some 3000000000,
      idNext := 3000000000 }) with
      clock := 5000000000 } ∧
      s.wf = true ∧ s.kDieOn = true ∧ s.beaconUp = true ∧ s.keep.entry = none ∧
        (s.bay 1).idFrom = some ((s.bay 1).idFrom.getD 0) ∧ s.bayState 1 = 5 ∧ (s.bay 1).idNext ≤ s.clock ∧
        (s.bay 1).idFrom.getD 0 = (s.bay 1).idNext ∧ headCardOk [65#8, 72#8, 67#8, 49#8, 1#8, 0#8, 0#8, 0#8, 52#8, 18#8, 7#8,
        7#8, 7#8, 7#8, 7#8, 7#8, 7#8, 7#8, 7#8, 7#8, 7#8, 7#8, 7#8, 7#8, 7#8, 7#8, 7#8, 7#8, 7#8, 7#8, 7#8, 7#8, 7#8, 7#8, 7#8,
        7#8, 7#8, 7#8, 7#8, 7#8, 7#8, 7#8, 7#8, 7#8, 7#8, 7#8, 7#8, 7#8, 7#8, 7#8, 7#8, 7#8, 7#8, 7#8, 7#8, 7#8, 7#8, 7#8, 7#8,
        7#8, 7#8, 7#8, 7#8, 7#8, 7#8, 7#8, 7#8, 7#8, 7#8, 7#8, 7#8, 7#8, 7#8, 7#8, 7#8, 7#8, 7#8, 7#8, 7#8, 7#8, 7#8, 7#8, 7#8,
        7#8, 7#8, 7#8, 7#8, 7#8, 7#8, 7#8, 7#8, 7#8, 7#8, 7#8, 7#8, 7#8, 7#8, 7#8, 7#8, 7#8, 7#8, 7#8, 7#8, 7#8, 7#8, 7#8, 7#8,
        7#8, 7#8, 7#8, 7#8, 7#8, 7#8, 7#8, 7#8, 7#8, 7#8, 7#8, 7#8, 7#8, 7#8, 7#8, 7#8, 7#8, 7#8, 7#8, 7#8, 7#8, 7#8, 7#8, 7#8,
        7#8, 7#8, 7#8, 7#8, 7#8, 7#8, 7#8, 7#8, 7#8, 7#8, 7#8, 7#8, 7#8, 7#8, 7#8, 7#8, 7#8, 7#8, 7#8, 7#8, 7#8, 7#8, 7#8, 7#8,
        7#8, 7#8, 7#8, 7#8, 7#8, 7#8, 7#8, 7#8, 7#8, 7#8, 7#8, 7#8, 7#8, 7#8, 7#8, 7#8, 7#8, 7#8, 7#8, 7#8, 7#8, 7#8, 7#8, 7#8,
        7#8, 7#8, 7#8, 7#8, 7#8, 7#8, 7#8, 7#8, 7#8, 7#8, 7#8, 7#8, 7#8, 7#8, 7#8, 7#8, 7#8, 7#8, 7#8, 7#8, 7#8, 7#8, 7#8, 7#8,
        7#8, 7#8, 7#8, 7#8, 7#8, 7#8, 7#8, 7#8, 7#8, 7#8, 7#8, 7#8, 7#8, 7#8, 7#8, 7#8, 7#8, 7#8, 7#8, 7#8, 7#8, 7#8, 7#8, 7#8,
        7#8, 7#8, 7#8, 7#8, 7#8, 7#8, 7#8, 7#8, 7#8, 7#8, 7#8, 7#8, 7#8, 7#8, 7#8, 7#8, 7#8, 7#8, 7#8, 7#8, 7#8, 7#8, 7#8, 7#8,
        7#8, 152#8, 25#8, 217#8, 168#8] = true ∧ headCardOk [65#8, 72#8, 67#8, 49#8, 1#8, 0#8, 0#8, 0#8, 52#8, 0#8, 7#8, 7#8,
        7#8, 7#8, 7#8, 7#8, 7#8, 7#8, 7#8, 7#8, 7#8, 7#8, 7#8, 7#8, 7#8, 7#8, 7#8, 7#8, 7#8, 7#8, 7#8, 7#8, 7#8, 7#8, 7#8, 7#8,
        7#8, 7#8, 7#8, 7#8, 7#8, 7#8, 7#8, 7#8, 7#8, 7#8, 7#8, 7#8, 7#8, 7#8, 7#8, 7#8, 7#8, 7#8, 7#8, 7#8, 7#8, 7#8, 7#8, 7#8,
        7#8, 7#8, 7#8, 7#8, 7#8, 7#8, 7#8, 7#8, 7#8, 7#8, 7#8, 7#8, 7#8, 7#8, 7#8, 7#8, 7#8, 7#8, 7#8, 7#8, 7#8, 7#8, 7#8, 7#8,
        7#8, 7#8, 7#8, 7#8, 7#8, 7#8, 7#8, 7#8, 7#8, 7#8, 7#8, 7#8, 7#8, 7#8, 7#8, 7#8, 7#8, 7#8, 7#8, 7#8, 7#8, 7#8, 7#8, 7#8,
        7#8, 7#8, 7#8, 7#8, 7#8, 7#8, 7#8, 7#8, 7#8, 7#8, 7#8, 7#8, 7#8, 7#8, 7#8, 7#8, 7#8, 7#8, 7#8, 7#8, 7#8, 7#8, 7#8, 7#8,
        7#8, 7#8, 7#8, 7#8, 7#8, 7#8, 7#8, 7#8, 7#8, 7#8, 7#8, 7#8, 7#8, 7#8, 7#8, 7#8, 7#8, 7#8, 7#8, 7#8, 7#8, 7#8, 7#8, 7#8,
        7#8, 7#8, 7#8, 7#8, 7#8, 7#8, 7#8, 7#8, 7#8, 7#8, 7#8, 7#8, 7#8, 7#8, 7#8, 7#8, 7#8, 7#8, 7#8, 7#8, 7#8, 7#8, 7#8, 7#8,
        7#8, 7#8, 7#8, 7#8, 7#8, 7#8, 7#8, 7#8, 7#8, 7#8, 7#8, 7#8, 7#8, 7#8, 7#8, 7#8, 7#8, 7#8, 7#8, 7#8, 7#8, 7#8, 7#8, 7#8,
        7#8, 7#8, 7#8, 7#8, 7#8, 7#8, 7#8, 7#8, 7#8, 7#8, 7#8, 7#8, 7#8, 7#8, 7#8, 7#8, 7#8, 7#8, 7#8, 7#8, 7#8, 7#8, 7#8, 7#8,
        7#8, 7#8, 7#8, 7#8, 7#8, 7#8, 7#8, 7#8, 7#8, 7#8, 7#8, 7#8, 7#8, 7#8, 7#8, 7#8, 7#8, 7#8, 7#8, 7#8, 7#8, 7#8, 7#8, 7#8,
        152#8, 25#8, 217#8, 168#8] = false ∧ (s.bay 1).idFrom.getD 0 + 2000000000 ≤ s.clock ∧
        s.flag BY_STAT_INT 0 1 = s.flag BY_STAT_INT 0 1 ∧ s.flag BY_STAT_INT 0 1 ≠ true ∧
        s.flag BY_STAT_LOS 0 1 = s.flag BY_STAT_INT 0 1 ∧ s.flag BY_STAT_LOS 0 1 ≠ true ∧ (true = false ∨ s.baySlices 1 = []) ∧
        s.mirrorOk = true) ∧
    (∃ s : State, s = { (bay (put up3 [(BY_STAT_STATE, 5, 0, 1)]) 1 fun x => { x with
      idFrom := some 3000000000,
      idNext := 5000000000 }) with
      clock := 5000000000 } ∧
      s.wf = true ∧ s.kDieOn = true ∧ s.beaconUp = true ∧ s.keep.entry = none ∧
        (s.bay 1).idFrom = some ((s.bay 1).idFrom.getD 0) ∧ s.bayState 1 = 5 ∧ (s.bay 1).idNext ≤ s.clock ∧
        (s.bay 1).idFrom.getD 0 ≠ (s.bay 1).idNext ∧ headCardOk [65#8, 72#8, 67#8, 49#8, 1#8, 0#8, 0#8, 0#8, 52#8, 18#8, 7#8,
        7#8, 7#8, 7#8, 7#8, 7#8, 7#8, 7#8, 7#8, 7#8, 7#8, 7#8, 7#8, 7#8, 7#8, 7#8, 7#8, 7#8, 7#8, 7#8, 7#8, 7#8, 7#8, 7#8, 7#8,
        7#8, 7#8, 7#8, 7#8, 7#8, 7#8, 7#8, 7#8, 7#8, 7#8, 7#8, 7#8, 7#8, 7#8, 7#8, 7#8, 7#8, 7#8, 7#8, 7#8, 7#8, 7#8, 7#8, 7#8,
        7#8, 7#8, 7#8, 7#8, 7#8, 7#8, 7#8, 7#8, 7#8, 7#8, 7#8, 7#8, 7#8, 7#8, 7#8, 7#8, 7#8, 7#8, 7#8, 7#8, 7#8, 7#8, 7#8, 7#8,
        7#8, 7#8, 7#8, 7#8, 7#8, 7#8, 7#8, 7#8, 7#8, 7#8, 7#8, 7#8, 7#8, 7#8, 7#8, 7#8, 7#8, 7#8, 7#8, 7#8, 7#8, 7#8, 7#8, 7#8,
        7#8, 7#8, 7#8, 7#8, 7#8, 7#8, 7#8, 7#8, 7#8, 7#8, 7#8, 7#8, 7#8, 7#8, 7#8, 7#8, 7#8, 7#8, 7#8, 7#8, 7#8, 7#8, 7#8, 7#8,
        7#8, 7#8, 7#8, 7#8, 7#8, 7#8, 7#8, 7#8, 7#8, 7#8, 7#8, 7#8, 7#8, 7#8, 7#8, 7#8, 7#8, 7#8, 7#8, 7#8, 7#8, 7#8, 7#8, 7#8,
        7#8, 7#8, 7#8, 7#8, 7#8, 7#8, 7#8, 7#8, 7#8, 7#8, 7#8, 7#8, 7#8, 7#8, 7#8, 7#8, 7#8, 7#8, 7#8, 7#8, 7#8, 7#8, 7#8, 7#8,
        7#8, 7#8, 7#8, 7#8, 7#8, 7#8, 7#8, 7#8, 7#8, 7#8, 7#8, 7#8, 7#8, 7#8, 7#8, 7#8, 7#8, 7#8, 7#8, 7#8, 7#8, 7#8, 7#8, 7#8,
        7#8, 7#8, 7#8, 7#8, 7#8, 7#8, 7#8, 7#8, 7#8, 7#8, 7#8, 7#8, 7#8, 7#8, 7#8, 7#8, 7#8, 7#8, 7#8, 7#8, 7#8, 7#8, 7#8, 7#8,
        7#8, 7#8, 7#8, 7#8, 7#8, 7#8, 7#8, 7#8, 7#8, 7#8, 7#8, 7#8, 7#8, 7#8, 7#8, 7#8, 7#8, 7#8, 7#8, 7#8, 7#8, 7#8, 7#8, 7#8,
        7#8, 152#8, 25#8, 217#8, 168#8] = true ∧ headCardOk [65#8, 72#8, 67#8, 49#8, 1#8, 0#8, 0#8, 0#8, 52#8, 0#8, 7#8, 7#8,
        7#8, 7#8, 7#8, 7#8, 7#8, 7#8, 7#8, 7#8, 7#8, 7#8, 7#8, 7#8, 7#8, 7#8, 7#8, 7#8, 7#8, 7#8, 7#8, 7#8, 7#8, 7#8, 7#8, 7#8,
        7#8, 7#8, 7#8, 7#8, 7#8, 7#8, 7#8, 7#8, 7#8, 7#8, 7#8, 7#8, 7#8, 7#8, 7#8, 7#8, 7#8, 7#8, 7#8, 7#8, 7#8, 7#8, 7#8, 7#8,
        7#8, 7#8, 7#8, 7#8, 7#8, 7#8, 7#8, 7#8, 7#8, 7#8, 7#8, 7#8, 7#8, 7#8, 7#8, 7#8, 7#8, 7#8, 7#8, 7#8, 7#8, 7#8, 7#8, 7#8,
        7#8, 7#8, 7#8, 7#8, 7#8, 7#8, 7#8, 7#8, 7#8, 7#8, 7#8, 7#8, 7#8, 7#8, 7#8, 7#8, 7#8, 7#8, 7#8, 7#8, 7#8, 7#8, 7#8, 7#8,
        7#8, 7#8, 7#8, 7#8, 7#8, 7#8, 7#8, 7#8, 7#8, 7#8, 7#8, 7#8, 7#8, 7#8, 7#8, 7#8, 7#8, 7#8, 7#8, 7#8, 7#8, 7#8, 7#8, 7#8,
        7#8, 7#8, 7#8, 7#8, 7#8, 7#8, 7#8, 7#8, 7#8, 7#8, 7#8, 7#8, 7#8, 7#8, 7#8, 7#8, 7#8, 7#8, 7#8, 7#8, 7#8, 7#8, 7#8, 7#8,
        7#8, 7#8, 7#8, 7#8, 7#8, 7#8, 7#8, 7#8, 7#8, 7#8, 7#8, 7#8, 7#8, 7#8, 7#8, 7#8, 7#8, 7#8, 7#8, 7#8, 7#8, 7#8, 7#8, 7#8,
        7#8, 7#8, 7#8, 7#8, 7#8, 7#8, 7#8, 7#8, 7#8, 7#8, 7#8, 7#8, 7#8, 7#8, 7#8, 7#8, 7#8, 7#8, 7#8, 7#8, 7#8, 7#8, 7#8, 7#8,
        7#8, 7#8, 7#8, 7#8, 7#8, 7#8, 7#8, 7#8, 7#8, 7#8, 7#8, 7#8, 7#8, 7#8, 7#8, 7#8, 7#8, 7#8, 7#8, 7#8, 7#8, 7#8, 7#8, 7#8,
        7#8, 7#8, 7#8, 7#8, 7#8, 7#8, 7#8, 7#8, 7#8, 7#8, 7#8, 7#8, 7#8, 7#8, 7#8, 7#8, 7#8, 7#8, 7#8, 7#8, 7#8, 7#8, 7#8, 7#8,
        152#8, 25#8, 217#8, 168#8] = false ∧ (s.bay 1).idFrom.getD 0 + 2000000000 ≤ s.clock) ∧
    (∃ s : State, s = (bay (put up3 [(BY_STAT_STATE, 5, 0, 1)]) 1 fun x => { x with
      idFrom := some 900000000,
      idNext := 900000000 }) ∧
      s.wf = true ∧ s.kDieOn = true ∧ s.beaconUp = true ∧ s.keep.entry = none ∧
        (s.bay 1).idFrom = some ((s.bay 1).idFrom.getD 0) ∧ s.bayState 1 = 5 ∧ (s.bay 1).idNext ≤ s.clock ∧
        s.clock < (s.bay 1).idFrom.getD 0 + 2000000000 ∧ (s.bay 1).idFrom.getD 0 = (s.bay 1).idNext) ∧
    (∃ s : State, s = (bay (put up3 [(BY_STAT_STATE, 5, 0, 1)]) 1 fun x => { x with
      idFrom := some 900000000,
      idNext := 950000000 }) ∧
      s.wf = true ∧ s.kDieOn = true ∧ s.beaconUp = true ∧ s.keep.entry = none ∧
        (s.bay 1).idFrom = some ((s.bay 1).idFrom.getD 0) ∧ s.bayState 1 = 5 ∧ (s.bay 1).idNext ≤ s.clock ∧
        s.clock < (s.bay 1).idFrom.getD 0 + 2000000000 ∧ (s.bay 1).idFrom.getD 0 ≠ (s.bay 1).idNext) ∧
    (∃ s : State, s = { (put up3 [(BY_STAT_STATE, 5, 0, 1)]) with feed := { up3.feed with scanDue := 2000000000 } } ∧
      s.wf = true ∧ s.kDieOn = true ∧ s.beaconUp = true ∧ s.keep.entry = none ∧ s.clock < s.feed.scanDue) ∧
    (∃ s : State, s = (put up3 [(KP_ADC_CTL_AVG, 0, 0, 0), (FD_POE_CFG_PD_LIMIT_MW, 20, 0, 0), (BY_STAT_STATE, 5, 0, 1)]) ∧
      s.wf = true ∧ s.kDieOn = true ∧ s.beaconUp = true ∧ s.keep.entry = none ∧ s.feed.scanDue ≤ s.clock ∧
        s.rd KP_ADC_CTL_AVG = 0) ∧
    (∃ s : State, s = { (put up3 [(LG_STAT_HOLD, 1, 0, 0)]) with health := { up3.health with holdAt := 5 } } ∧
      s.wf = true ∧ s.kDieOn = true ∧ s.beaconUp = true ∧ s.keep.entry = none ∧ s.mirrorOk = false) :=
  ⟨⟨_, rfl, by decide +kernel⟩,
   ⟨_, rfl, by decide +kernel⟩,
   ⟨_, rfl, by decide +kernel⟩,
   ⟨_, rfl, by decide +kernel⟩,
   ⟨_, rfl, by decide +kernel⟩,
   ⟨_, rfl, by decide +kernel⟩,
   ⟨_, rfl, by decide +kernel⟩⟩

def stateRegisterRowsWriteTheirFields2 : State :=
  { (chute (chute (line (line (helm (put up3 [(LINE_STAT_FORMAT, 5, 3, 0), (LINE_STAT_LSTATE, 2, 9, 0),
    (LINE_STAT_STAGE, 6, 9, 0), (LINE_STAT_FORMAT, 64, 9, 0), (FR_STAT_STATE, 2, 9, 0)]) 5 fun x => { x with
      ps := PState.running,
      imem := [(5, 0x00000001)] }) 3 fun x => { x with live := [21, 65, 3, 31, 99, 4097] }) 9 fun x => { x with
        live := [1025, 7] }) 1 fun x => { x with
          held := [{ entry0 with data := 77, sop := true }, { entry0 with data := 1099511627777, eop := true }],
          read := 1,
          waypt := some 1,
          consumer := 3,
          conSess := 3 }) 2 fun x => { x with consumer := 1 }) with
    own := { up3.own with objs := [(3, 3), (32773, 3)] } }

/-- The hypotheses of Obligations.RegisterRowsWriteTheirFields, a state for each clause. -/
theorem witness_RegisterRowsWriteTheirFields :
    (∃ s : State, s = State.reset ∧
      s.wf = true ∧ s.working = false) ∧
    (∃ s : State, s = stateRegisterRowsWriteTheirFields2 ∧
      s.wf = true ∧ s.working = true ∧ (s.helm 5).ps.bound = true ∧ (s.chute 1).consumer = 3 ∧ ((s.chute 2).consumer = 1 ∨
        (s.chute 2).consumer = 2) ∧ s.holdsOwn 0 1 = true ∧
        (s.chute 1).held[(s.chute 1).read]? = some ((s.chute 1).held[(s.chute 1).read]?.getD entry0) ∧
        s.pmAttachCheck 0 5 (2147483651 % 65536) (2147483651 / 65536 % 256) ≠ 0) ∧
    (∃ s : State, s = up ∧
      s.wf = true ∧ s.working = true ∧ (s.helm 5).ps.bound = false ∧ s.rd LINE_STAT_LSTATE 3 = 0 ∧ s.groupLead? 3 = none ∧
        fmtBonded (s.fmt 3) = false ∧ (∀ o ∈ s.ops, o.opcode ≠ 16 ∧ o.opcode ≠ 18) ∧ s.flag LP_LOOP_PENDING (8 + 0) = false ∧
        (s.chute 1).consumer ≠ 3 ∧ (s.chute 1).consumer = 0 ∧ s.holdsOwn 0 1 = false ∧
        s.pmAttachCheck 0 5 (2147483651 % 65536) (2147483651 / 65536 % 256) = 0) ∧
    (∃ s : State, s = { (put stateRegisterRowsWriteTheirFields2 [(LP_LOOP_PENDING, 1, 8, 0), (LP_LOOP_CONFIRMED, 1, 8, 0),
      (HM_STAT_WR_IGN, 255, 5, 0)]) with
      helms := [] } ∧
      s.wf = true ∧ s.working = true ∧ s.flag LP_LOOP_PENDING (8 + 0) = true) :=
  ⟨⟨_, rfl, by decide +kernel⟩,
   ⟨_, rfl, by decide +kernel⟩,
   ⟨_, rfl, by decide +kernel⟩,
   ⟨_, rfl, by decide +kernel⟩⟩

def stateReadsAndWritesOfTheRegisterFabric1 : State :=
  { (put up3 [(GL_HOST_ERR_CTO, 5, 0, 0), (GL_HOST_ERR_BADCPL, 255, 0, 0), (GL_HOST_ERR_UNEXP, 1, 0, 0),
    (HL_SNAP_TIME, 1311768467463790320, 0, 0), (WIN_PAGE, 2, 3, 0)]) with
    out := [Out.readData 0 2596069104],
    cnt := [(217, 1)],
    host := { up3.host with idleSince := 1000000000 },
    hiLatch := [(73992, 305419897)] }

/-- The hypotheses of Obligations.ReadsAndWritesOfTheRegisterFabric, a state for each clause. -/
theorem witness_ReadsAndWritesOfTheRegisterFabric :
    (∃ s : State, s = stateReadsAndWritesOfTheRegisterFabric1 ∧
      s.wf = true ∧ s.working = true ∧ s.rd GL_HOST_ERR_CTO < 256 ∧ s.rd GL_HOST_ERR_BADCPL < 256 ∧
        s.rd GL_HOST_ERR_UNEXP < 256 ∧ s.rd HL_SNAP_TIME < 2 ^ 64 ∧ s.vfOpen 3 = true ∧ s.rd WIN_PAGE 3 = 2 ∧
        s.helmOwner 0 ≠ 3 ∧ 0 + ([] : List Nat).length ≤ 8388608 ∧ (∀ k < ([] : List Nat).length,
        s.pageBusy ((0 + k) / 4096) = false)) ∧
    (∃ s : State, s = { (put up3 [(GL_HOST_ERR_CTO, 5, 0, 0), (GL_HOST_ERR_BADCPL, 255, 0, 0), (GL_HOST_ERR_UNEXP, 1, 0, 0),
      (HL_SNAP_TIME, 1311768467463790320, 0, 0), (WIN_PAGE, 2, 3, 0)]) with
      own := { up3.own with objs := [(8192, 3)] } } ∧
      s.wf = true ∧ s.working = true ∧ s.vfOpen 3 = true ∧ s.rd WIN_PAGE 3 = 2 ∧ s.helmOwner 0 = 3 ∧
        (s.helm 0).ps.bound = false ∧ smSorted (s.helm 0).imem = true) :=
  ⟨⟨_, rfl, by decide +kernel⟩,
   ⟨_, rfl, by decide +kernel⟩⟩

/-- The hypotheses of Obligations.TheKeeperPortAnswersItsFrames, a state for each clause. -/
theorem witness_TheKeeperPortAnswersItsFrames :
    (∃ s : State, s = State.reset ∧
      s.wf = true ∧ s.kpAttends = false) ∧
    (∃ s : State, s = up ∧
      s.wf = true ∧ s.kpAttends = true ∧ 16#8 ≠ crc8 [0] ∧ 0#8 ≠ crc8 [16] ∧ 0#8 ≠ crc8 [32] ∧ 0#8 ≠ crc8 (17 :: leBytes 2 0) ∧
        0#8 ≠ crc8 (18 :: (leBytes 2 0 ++ leBytes 4 0)) ∧ 0#8 ≠ crc8 [48, 0#8] ∧ 16#8 ≠ crc8 [0#8] ∧ s.beaconUp = true ∧
        s.keep.entry = none ∧ s.boot.phase ≠ 4 ∧ 0#8 ≠ 195 ∧ s.noWake = false) :=
  ⟨⟨_, rfl, by decide +kernel⟩,
   ⟨_, rfl, by decide +kernel⟩⟩

def stateAnAttemptGoesThroughItsStages4 : State :=
  { (line (put up3 [(LINE_STAT_LSTATE, 1, 3, 0), (LINE_STAT_STAGE, 3, 3, 0), (LINE_STAT_FORMAT, 16, 3, 0)]) 3 fun x => { x with
    acq := some { acq0 with due := some 1000000000, power := 5 } }) with
    ops := [op 4 9 0x11 3 [], { op 3 7 0x10 3 [16] with est := 120, stage := 1 }] }

def stateAnAttemptGoesThroughItsStages5 : State :=
  { (line (line (line (line (put up3 [(LINE_STAT_LSTATE, 1, 0, 0), (LINE_STAT_STAGE, 1, 0, 0), (LINE_STAT_FORMAT, 19, 0, 0),
    (LINE_STAT_SIG, 1, 0, 0), (LINE_STAT_TX_ON, 1, 0, 0), (FR_STAT_MF_STATE, 2, 0, 0), (LINE_STAT_SIG, 1, 1, 0),
    (LINE_STAT_SIG, 1, 2, 0), (LINE_STAT_SIG, 1, 3, 0)]) 0 fun x => { x with
      acq := some { acq0 with p1 := 2, due := some 1000000000, power := 5 },
      sigSince := some 5 }) 1 fun x => { x with sigSince := some 5 }) 2 fun x => { x with sigSince := some 5 }) 3 fun x => { x with
        sigSince := some 5 }) with
    ops := [{ op 3 7 0x10 0 [19, 2] with est := 120, stage := 1 }] }

def stateAnAttemptGoesThroughItsStages6 : State :=
  { (put stateAnAttemptGoesThroughItsStages5 [(LINE_STAT_SIG, 0, 0, 0), (LINE_STAT_SIG, 0, 1, 0), (LINE_STAT_SIG, 0, 2, 0),
    (LINE_STAT_SIG, 0, 3, 0)]) with
    lines := [(0, { Line.init with acq := some { acq0 with p1 := 2, due := some 1000000000, power := 5 } })] }

def stateAnAttemptGoesThroughItsStages9 : State :=
  { (line (put up3 [(LINE_STAT_LSTATE, 1, 9, 0), (LINE_STAT_STAGE, 4, 9, 0), (LINE_STAT_FORMAT, 64, 9, 0),
    (LINE_STAT_TX_ON, 1, 9, 0), (FR_STAT_STATE, 2, 9, 0), (FR_STAT_MF_STATE, 2, 9, 0)]) 9 fun x => { x with
      acq := some { acq0 with p1 := 2, p2 := 263440, due := some 1000000000, power := 5 } }) with
    ops := [{ op 3 7 0x10 4097 [64, 2, 263440] with est := 120, stage := 1 }] }

/-- The hypotheses of Obligations.AnAttemptGoesThroughItsStages, a state for each clause. -/
theorem witness_AnAttemptGoesThroughItsStages :
    (∃ s : State, s = { up3 with ops := [{ op 3 7 0x10 3 [16] with est := 120 }] } ∧
      s.wf = true ∧ opIn s 3 7 0x10 = true ∧ (opOf s 3 7).stage = 0 ∧ objSlice? (opOf s 3 7).obj = some 3 ∧
        fmtBonded ((opOf s 3 7).par 0 % 128) = false ∧ s.rd LINE_STAT_LSTATE = 0) ∧
    (∃ s : State, s = { (put up3 [(LINE_STAT_LSTATE, 3, 3, 0), (LINE_STAT_STAGE, 6, 3, 0), (LINE_STAT_FORMAT, 16, 3, 0),
      (FR_STAT_STATE, 2, 3, 0)]) with
      ops := [op 4 9 0x11 3 [], { op 3 7 0x10 3 [16] with est := 120, stage := 1 }] } ∧
      s.wf = true ∧ opIn s 4 9 0x11 = true ∧ objSlice? (opOf s 4 9).obj = some 3 ∧ s.rd LINE_STAT_LSTATE 3 = 3) ∧
    (∃ s : State, s = { (put up3 [(LINE_STAT_LSTATE, 2, 3, 0), (LINE_STAT_STAGE, 6, 3, 0), (LINE_STAT_FORMAT, 16, 3, 0),
      (FR_STAT_STATE, 2, 3, 0)]) with
      ops := [op 4 9 0x11 3 [], { op 3 7 0x10 3 [16] with est := 120, stage := 1 }] } ∧
      s.wf = true ∧ opIn s 4 9 0x11 = true ∧ objSlice? (opOf s 4 9).obj = some 3 ∧ s.rd LINE_STAT_LSTATE 3 = 2 ∧
        (s.line 3).acq = none) ∧
    (∃ s : State, s = stateAnAttemptGoesThroughItsStages4 ∧
      s.wf = true ∧ opIn s 4 9 0x11 = true ∧ objSlice? (opOf s 4 9).obj = some 3 ∧ s.rd LINE_STAT_LSTATE 3 = 1 ∧
        (s.line 3).acq = some ((s.line 3).acq.getD acq0) ∧
        s.op? ((s.line 3).acq.getD acq0).sess ((s.line 3).acq.getD acq0).tag = some ((s.op? ((s.line 3).acq.getD acq0).sess ((s.line 3).acq.getD acq0).tag).getD op0) ∧
        ((s.op? ((s.line 3).acq.getD acq0).sess ((s.line 3).acq.getD acq0).tag).getD op0).fin = none ∧
        ¬(((s.line 3).acq.getD acq0).sess = 4 ∧ ((s.line 3).acq.getD acq0).tag = 9) ∧
        ((s.line 3).acq.getD acq0).suspended = false ∧ s.rd LINE_STAT_STAGE 3 = 3 ∧ fmtBonded (s.fmt 3) = false ∧
        familyOf (s.fmt 3) ≠ Family.unframed ∧ familyOf (s.fmt 3) ≠ Family.none) ∧
    (∃ s : State, s = stateAnAttemptGoesThroughItsStages5 ∧
      s.wf = true ∧ (s.line 0).acq = some ((s.line 0).acq.getD acq0) ∧ ((s.line 0).acq.getD acq0).suspended = false ∧
        s.rd LINE_STAT_STAGE = 1 ∧ (∀ j ∈ s.group 0, s.flag LINE_STAT_SIG j = true ∧ ∃ (t0 : ℕ), (s.line j).sigSince = some t0 ∧
        t0 + 1000000 ≤ s.clock) ∧ ((s.line 0).acq.getD acq0).power ≤ s.clock ∧ s.rd LINE_STAT_LSTATE ≠ 0 ∧
        s.flag LINE_STAT_SIG = true) ∧
    (∃ s : State, s = stateAnAttemptGoesThroughItsStages6 ∧
      s.wf = true ∧ (s.line 0).acq = some ((s.line 0).acq.getD acq0) ∧ ((s.line 0).acq.getD acq0).suspended = false ∧
        s.rd LINE_STAT_STAGE = 1 ∧ ((∃ j ∈ s.group 0, s.flag LINE_STAT_SIG j = false) ∨
        s.clock < ((s.line 0).acq.getD acq0).power) ∧ s.isDue ((s.line 0).acq.getD acq0).due = true ∧
        s.rd LINE_STAT_RESTARTS < ((s.line 0).acq.getD acq0).p1 % 16 ∧ s.rd LINE_STAT_LSTATE ≠ 0 ∧
        s.flag LINE_STAT_SIG = false) ∧
    (∃ s : State, s = (put stateAnAttemptGoesThroughItsStages6 [(LINE_STAT_STAGE, 2, 0, 0)]) ∧
      s.wf = true ∧ (s.line 0).acq = some ((s.line 0).acq.getD acq0) ∧ ((s.line 0).acq.getD acq0).suspended = false ∧
        s.rd LINE_STAT_STAGE = 2) ∧
    (∃ s : State, s = (put stateAnAttemptGoesThroughItsStages6 [(LINE_STAT_STAGE, 4, 0, 0), (FR_STAT_STATE, 2, 0, 0)]) ∧
      s.wf = true ∧ (s.line 0).acq = some ((s.line 0).acq.getD acq0) ∧ ((s.line 0).acq.getD acq0).suspended = false ∧
        s.rd LINE_STAT_STAGE = 4 ∧ s.frState 0 = 2 ∧ (fmtMultiframe (s.fmt 0) = true → s.rd FR_STAT_MF_STATE = 2) ∧
        optHs ((s.line 0).acq.getD acq0).p2 = 0 ∧ s.loopPending 0 = false ∧
        s.op? ((s.line 0).acq.getD acq0).sess ((s.line 0).acq.getD acq0).tag = some ((s.op? ((s.line 0).acq.getD acq0).sess ((s.line 0).acq.getD acq0).tag).getD op0) ∧
        ((s.op? ((s.line 0).acq.getD acq0).sess ((s.line 0).acq.getD acq0).tag).getD op0).fin = none ∧
        ((s.op? ((s.line 0).acq.getD acq0).sess ((s.line 0).acq.getD acq0).tag).getD op0).st = OpState.running) ∧
    (∃ s : State, s = stateAnAttemptGoesThroughItsStages9 ∧
      s.wf = true ∧ (s.line 9).acq = some ((s.line 9).acq.getD acq0) ∧ ((s.line 9).acq.getD acq0).suspended = false ∧
        s.rd LINE_STAT_STAGE 9 = 4 ∧ s.frState 9 = 2 ∧ (fmtMultiframe (s.fmt 9) = true → s.rd FR_STAT_MF_STATE 9 = 2) ∧
        optHs ((s.line 9).acq.getD acq0).p2 = 1 ∧ s.loopPending 9 = false) ∧
    (∃ s : State, s = (put stateAnAttemptGoesThroughItsStages6 [(LINE_STAT_STAGE, 4, 0, 0), (LINE_STAT_SIG, 1, 0, 0),
      (FR_STAT_STATE, 1, 0, 0)]) ∧
      s.wf = true ∧ (s.line 0).acq = some ((s.line 0).acq.getD acq0) ∧ ((s.line 0).acq.getD acq0).suspended = false ∧
        s.rd LINE_STAT_STAGE = 4 ∧ s.frState 0 ≠ 2) ∧
    (∃ s : State, s = (line stateAnAttemptGoesThroughItsStages6 0 fun x => { x with
      acq := some { acq0 with p1 := 2, due := some 1000000001, power := 2000000000 } }) ∧
      s.wf = true ∧ (s.line 0).acq = some ((s.line 0).acq.getD acq0) ∧ s.isDue ((s.line 0).acq.getD acq0).due = false) ∧
    (∃ s : State, s = (put stateAnAttemptGoesThroughItsStages6 [(LINE_STAT_RESTARTS, 2, 0, 0)]) ∧
      s.wf = true ∧ (s.line 0).acq = some ((s.line 0).acq.getD acq0) ∧ s.isDue ((s.line 0).acq.getD acq0).due = true ∧
        ((s.line 0).acq.getD acq0).p1 % 16 ≤ s.rd LINE_STAT_RESTARTS ∧
        s.op? ((s.line 0).acq.getD acq0).sess ((s.line 0).acq.getD acq0).tag = some ((s.op? ((s.line 0).acq.getD acq0).sess ((s.line 0).acq.getD acq0).tag).getD op0) ∧
        ((s.op? ((s.line 0).acq.getD acq0).sess ((s.line 0).acq.getD acq0).tag).getD op0).fin = none) :=
  ⟨⟨_, rfl, by decide +kernel⟩,
   ⟨_, rfl, by decide +kernel⟩,
   ⟨_, rfl, by decide +kernel⟩,
   ⟨_, rfl, by decide +kernel⟩,
   ⟨_, rfl, by decide +kernel⟩,
   ⟨_, rfl, by decide +kernel⟩,
   ⟨_, rfl, by decide +kernel⟩,
   ⟨_, rfl, by decide +kernel⟩,
   ⟨_, rfl, by decide +kernel⟩,
   ⟨_, rfl, by decide +kernel⟩,
   ⟨_, rfl, by decide +kernel⟩,
   ⟨_, rfl, by decide +kernel⟩⟩

theorem smGet_mem {α : Type} (d : α) (m : SMap α) (x : Nat) : smGet d m x = d ∨ (x, smGet d m x) ∈ m := by
  induction m with
  | nil => exact .inl rfl
  | cons e m ih =>
    obtain ⟨k, v⟩ := e
    by_cases h : x = k
    · subst h; simp [smGet]
    · by_cases h' : x < k
      · simp [smGet, h, h']
      · simp only [smGet, h, h', if_false, List.mem_cons]
        exact ih.imp id .inr
theorem noBonded {s : State} (h : s.regs.all (fun e => !fmtBonded e.2) = true) (j : Nat) : fmtBonded (s.fmt j) = false := by
  show fmtBonded (smGet LINE_STAT_FORMAT.reset s.regs (LINE_STAT_FORMAT.key j 0)) = false
  rcases smGet_mem LINE_STAT_FORMAT.reset s.regs (LINE_STAT_FORMAT.key j 0) with e | e
  · rw [e]; decide
  · simpa using List.all_eq_true.mp h _ e

def stateLoopCodesReportsAndTransmitTiming2 : State :=
  { (line (put up3 [(LINE_STAT_LSTATE, 1, 3, 0), (LINE_STAT_STAGE, 5, 3, 0), (LINE_STAT_FORMAT, 5, 3, 0),
    (FR_STAT_STATE, 2, 3, 0)]) 3 fun x => { x with
      acq := some { acq0 with p1 := 2, due := some 1000000000, power := 5 },
      loop := 2,
      loopKind := 1,
      loopDue := some 5,
      loopFrom := 5000000 }) with
    ops := [op 3 7 0x10 3 [64, 2]] }

def stateLoopCodesReportsAndTransmitTiming9 : State :=
  { (line (put up3 [(LINE_STAT_LSTATE, 1, 9, 0), (LINE_STAT_STAGE, 5, 9, 0), (LINE_STAT_FORMAT, 64, 9, 0),
    (LP_LOOP_PENDING, 1, 9, 0), (LP_LOOP_KIND, 1, 9, 0), (FR_STAT_STATE, 2, 9, 0)]) 9 fun x => { x with
      acq := some { acq0 with p1 := 2, due := some 1000000000, power := 5 },
      loopKind := 1,
      loopDue := some 5,
      loopFrom := 5000000 }) with
    ops := [op 3 7 0x10 4097 [64, 2]] }

def stateLoopCodesReportsAndTransmitTiming12 : State :=
  line (put up3 [(GL_REFIN_SEL, 1, 0, 0), (GL_REFIN_VALID, 1, 0, 0), (LINE_STAT_STAGE, 6, 3, 0), (LINE_STAT_FORMAT, 5, 3, 0),
    (ADAPT_CTL_FREEZE, 1, 3, 0), (FR_STAT_STATE, 2, 3, 0)]) 3 fun x => { x with opts := 2, live := [1023, 63, 0, 31, 4095, 77] }

/-- The hypotheses of Obligations.LoopCodesReportsAndTransmitTiming, a state for each clause. -/
theorem witness_LoopCodesReportsAndTransmitTiming :
    (∃ s : State, s = State.reset ∧
      s.wf = true ∧ s.isDue (s.line 3).loopDue = false ∧ (s.line 3).loop ≠ 3 ∧ s.rd LINE_STAT_LSTATE 3 = 0 ∧
        s.rd GL_REFIN_SEL = 0 ∧ s.flag GL_REFIN_VALID = false) ∧
    (∃ s : State, s = stateLoopCodesReportsAndTransmitTiming2 ∧
      s.wf = true ∧ (s.line 3).loop = 2 ∧ s.isDue (s.line 3).loopDue = true) ∧
    (∃ s : State, s = (line stateLoopCodesReportsAndTransmitTiming2 3 fun x => { x with loop := 3 }) ∧
      s.wf = true ∧ (s.line 3).loop = 3 ∧ (s.line 3).acq = some ((s.line 3).acq.getD acq0) ∧
        ((s.line 3).acq.getD acq0).suspended = false) ∧
    (∃ s : State, s = (line (put stateLoopCodesReportsAndTransmitTiming2 [(LINE_STAT_LSTATE, 2, 3, 0)]) 3 fun x => { x with
      acq := none,
      loop := 3 }) ∧
      s.wf = true ∧ (s.line 3).loop = 3 ∧ (s.line 3).acq = none) ∧
    (∃ s : State, s = (line stateLoopCodesReportsAndTransmitTiming2 3 fun x => { x with loop := 1 }) ∧
      s.wf = true ∧ s.isDue (s.line 3).loopDue = true ∧ (s.line 3).loop = 1 ∧ (s.line 3).probe = none ∧
        (s.line 3).acq = some ((s.line 3).acq.getD acq0) ∧ optHs ((s.line 3).acq.getD acq0).p2 = 0 ∧
        s.rd LINE_STAT_LSTATE 3 ≠ 0) ∧
    (∃ s : State, s = (line stateLoopCodesReportsAndTransmitTiming2 3 fun x => { x with loop := 4 }) ∧
      s.wf = true ∧ s.isDue (s.line 3).loopDue = true ∧ (s.line 3).loop = 4 ∧
        (s.line 3).acq = some ((s.line 3).acq.getD acq0)) ∧
    (∃ s : State, s = (line stateLoopCodesReportsAndTransmitTiming2 3 fun x => { x with loop := 6, probe := some (3, 8) }) ∧
      s.wf = true ∧ s.isDue (s.line 3).loopDue = true ∧ (s.line 3).loop = 6 ∧ (s.line 3).probe.isSome = true) ∧
    (∃ s : State, s = (line stateLoopCodesReportsAndTransmitTiming2 3 fun x => { x with loop := 5 }) ∧
      s.wf = true ∧ (s.line 3).acq = some ((s.line 3).acq.getD acq0) ∧ ((s.line 3).acq.getD acq0).suspended = false ∧
        (s.line 3).loop = 5) ∧
    (∃ s : State, s = stateLoopCodesReportsAndTransmitTiming9 ∧
      s.wf = true ∧ s.rd LINE_STAT_LSTATE 9 ≠ 0) ∧
    (∃ s : State, s = (line (put up3 [(GL_REFIN_SEL, 1, 0, 0), (LINE_STAT_LSTATE, 2, 3, 0), (LINE_STAT_STAGE, 6, 3, 0),
      (LINE_STAT_FORMAT, 5, 3, 0), (ADAPT_CTL_BG_OFF, 1, 3, 0), (FR_STAT_STATE, 2, 3, 0)]) 3 fun x => { x with opts := 2 }) ∧
      (∀ (j : ℕ), fmtBonded (s.fmt j) = false) ∧ s.wf = true ∧ s.rd LINE_STAT_LSTATE 3 ≠ 0 ∧ (s.flag ADAPT_CTL_FREEZE 3 = true ∨
        s.flag ADAPT_CTL_BG_OFF 3 = true) ∧ 1 ≤ s.rd GL_REFIN_SEL ∧ s.rd GL_REFIN_SEL ≤ 5) ∧
    (∃ s : State, s = (line (put stateLoopCodesReportsAndTransmitTiming9 [(LINE_STAT_LSTATE, 2, 9, 0), (LP_LOOP_KIND, 2, 9, 0)]) 9 fun x => { x with
      acq := none }) ∧
      s.wf = true ∧ s.rd LINE_STAT_LSTATE 9 ≠ 0 ∧ s.flag ADAPT_CTL_FREEZE 9 = false ∧ s.flag ADAPT_CTL_BG_OFF 9 = false ∧
        (s.line 9).acq = none) ∧
    (∃ s : State, s = stateLoopCodesReportsAndTransmitTiming12 ∧
      (∀ (j : ℕ), fmtBonded (s.fmt j) = false) ∧ s.wf = true ∧ 1 ≤ s.rd GL_REFIN_SEL ∧ s.rd GL_REFIN_SEL ≤ 5 ∧
        s.flag GL_REFIN_VALID = true) :=
  ⟨⟨_, rfl, by decide +kernel⟩,
   ⟨_, rfl, by decide +kernel⟩,
   ⟨_, rfl, by decide +kernel⟩,
   ⟨_, rfl, by decide +kernel⟩,
   ⟨_, rfl, by decide +kernel⟩,
   ⟨_, rfl, by decide +kernel⟩,
   ⟨_, rfl, by decide +kernel⟩,
   ⟨_, rfl, by decide +kernel⟩,
   ⟨_, rfl, by decide +kernel⟩,
   ⟨_, rfl, noBonded (by decide +kernel), by decide +kernel⟩,
   ⟨_, rfl, by decide +kernel⟩,
   ⟨_, rfl, noBonded (by decide +kernel), by decide +kernel⟩⟩

def stateTheFramerFindsAndLosesItsPattern1 : State :=
  line (put up3 [(LINE_STAT_LSTATE, 2, 0, 0), (LINE_STAT_STAGE, 6, 0, 0), (LINE_STAT_FORMAT, 19, 0, 0),
    (FR_CFG_LOSS_NFAS, 1, 0, 0), (FR_STAT_STATE, 0, 0, 0), (FR_STAT_MF_STATE, 0, 0, 0), (FR_CNT_OOF_CNT, 65535, 0, 0),
    (FR_BOND_ALIGNED, 1, 0, 0)]) 0 fun x => { x with
      fr := { x.fr with
        cands := [(0, 3), (1, 3), (2, 3), (3, 3), (4, 3), (5, 3), (6, 3), (7, 3)],
        win := [true, true, true, true],
        mfLast := some 4,
        mfRun := 7,
        blk := { x.fr.blk with st := 2, n := 5, bad := 15 },
        cg := 9,
        cgGood := 3 } }

def stateTheFramerFindsAndLosesItsPattern2 : State :=
  put up3 [(LINE_STAT_LSTATE, 2, 9, 0), (LINE_STAT_STAGE, 6, 9, 0), (LINE_STAT_FORMAT, 64, 9, 0), (FR_CFG_N, 1, 9, 0),
    (FR_CFG_M, 1, 9, 0), (FR_CFG_W, 1, 9, 0), (FR_STAT_STATE, 1, 9, 0), (FR_STAT_MF_STATE, 0, 9, 0),
    (FR_CNT_OOF_CNT, 65535, 9, 0)]

def stateTheFramerFindsAndLosesItsPattern5 : State :=
  line (put stateTheFramerFindsAndLosesItsPattern2 [(LINE_STAT_FORMAT, 73, 9, 0), (FR_CFG_N, 0, 9, 0), (FR_CFG_M, 0, 9, 0),
    (FR_CFG_W, 0, 9, 0), (FR_CFG_LOSS_NFAS, 1, 9, 0)]) 9 fun x => { x with
      fr := { x.fr with
        cands := [(0, 3), (1, 3), (2, 3), (3, 3), (4, 3), (5, 3), (6, 3), (7, 3)],
        win := [true, true, true, true],
        mfLast := some 4,
        mfRun := 7,
        blk := { x.fr.blk with st := 2, n := 5, bad := 15 },
        cg := 9,
        cgGood := 3 } }

def stateTheFramerFindsAndLosesItsPattern10 : State :=
  line (put stateTheFramerFindsAndLosesItsPattern5 [(LINE_STAT_FORMAT, 65, 9, 0), (FR_STAT_STATE, 2, 9, 0),
    (FR_STAT_MF_STATE, 1, 9, 0)]) 9 fun x => { x with
      fr := { x.fr with
        cands := [(5, 1), (7, 2)],
        win := [true, false, true],
        mfFrom := 999000000,
        mfWords := [3],
        mfLast := some 255,
        mfRun := 1,
        blk := { x.fr.blk with st := 1, n := 63, bad := 0 },
        cg := 5,
        cgGood := 0 } }

def stateTheFramerFindsAndLosesItsPattern13 : State :=
  line (put stateTheFramerFindsAndLosesItsPattern1 [(FR_STAT_STATE, 2, 0, 0)]) 0 fun x => { x with
    fr := { x.fr with
      cands := [(5, 1), (7, 2)],
      win := [true, false, true],
      mfFrom := 999000000,
      mfWords := [3],
      mfLast := some 255,
      mfRun := 1,
      blk := { x.fr.blk with st := 1, n := 63, bad := 0 },
      cg := 5,
      cgGood := 0 } }

def stateTheFramerFindsAndLosesItsPattern16 : State :=
  line (put up3 [(LINE_STAT_LSTATE, 2, 3, 0), (LINE_STAT_STAGE, 6, 3, 0), (LINE_STAT_FORMAT, 33, 3, 0),
    (FR_CFG_LOSS_NFAS, 1, 3, 0), (FR_STAT_STATE, 0, 3, 0), (FR_STAT_MF_STATE, 0, 3, 0), (FR_CNT_OOF_CNT, 65535, 3, 0),
    (FR_BOND_ALIGNED, 1, 3, 0)]) 3 fun x => { x with
      fr := { x.fr with
        cands := [(5, 1), (7, 2)],
        win := [true, false, true],
        mfFrom := 999000000,
        mfWords := [3],
        mfLast := some 255,
        mfRun := 1,
        blk := { x.fr.blk with st := 1, n := 63 },
        cg := 5 } }

def stateTheFramerFindsAndLosesItsPattern18 : State :=
  line (put stateTheFramerFindsAndLosesItsPattern16 [(FR_STAT_STATE, 2, 3, 0)]) 3 fun x => { x with
    fr := { x.fr with
      cands := [(0, 3), (1, 3), (2, 3), (3, 3), (4, 3), (5, 3), (6, 3), (7, 3)],
      win := [true, true, true, true],
      mfFrom := 0,
      mfWords := [],
      mfLast := some 4,
      mfRun := 7,
      blk := { x.fr.blk with st := 2, n := 5, bad := 15 },
      cg := 9,
      cgGood := 3 } }

/-- The hypotheses of Obligations.TheFramerFindsAndLosesItsPattern, a state for each clause. -/
theorem witness_TheFramerFindsAndLosesItsPattern :
    (∃ s : State, s = stateTheFramerFindsAndLosesItsPattern1 ∧
      s.wf = true ∧ (s.frState 0 = 2 ∨ 8 ≤ (s.framer 0).cands.length ∨ 100 ∈ List.map Prod.fst (s.framer 0).cands)) ∧
    (∃ s : State, s = stateTheFramerFindsAndLosesItsPattern2 ∧
      s.wf = true ∧ s.frHunts 9 = true ∧ s.frState 9 ≤ 1 ∧ (s.framer 9).cands.length < 8 ∧
        100 ∉ List.map Prod.fst (s.framer 9).cands ∧ s.frN 9 = 1) ∧
    (∃ s : State, s = { (put stateTheFramerFindsAndLosesItsPattern1 [(FR_STAT_STATE, 1, 0, 0)]) with lines := [] } ∧
      s.wf = true ∧ s.frHunts 0 = true ∧ s.frState 0 ≤ 1 ∧ (s.framer 0).cands.length < 8 ∧
        100 ∉ List.map Prod.fst (s.framer 0).cands ∧ (1 < s.frN 0 ∨ s.frN 0 = 1 ∧ true = false)) ∧
    (∃ s : State, s = (put stateTheFramerFindsAndLosesItsPattern1 [(FR_STAT_STATE, 1, 0, 0)]) ∧
      s.wf = true ∧ s.frHunts 0 = true ∧ s.frState 0 = 1 ∧
        List.find? (fun (c : ℕ × ℕ) => decide (c.1 = 0)) (s.framer 0).cands = some (0,
        ((List.find? (fun (c : ℕ × ℕ) => decide (c.1 = 0)) (s.framer 0).cands).getD (0, 0)).2) ∧
        s.frN 0 ≤ ((List.find? (fun (c : ℕ × ℕ) => decide (c.1 = 0)) (s.framer 0).cands).getD (0, 0)).2 + 1) ∧
    (∃ s : State, s = stateTheFramerFindsAndLosesItsPattern5 ∧
      s.wf = true ∧ s.frHunts 9 = true ∧ s.frState 9 = 1 ∧
        List.find? (fun (c : ℕ × ℕ) => decide (c.1 = 0)) (s.framer 9).cands = some (0,
        ((List.find? (fun (c : ℕ × ℕ) => decide (c.1 = 0)) (s.framer 9).cands).getD (0, 0)).2) ∧
        ((List.find? (fun (c : ℕ × ℕ) => decide (c.1 = 0)) (s.framer 9).cands).getD (0, 0)).2 + 1 < s.frN 9) ∧
    (∃ s : State, s = (line (put up3 [(LINE_STAT_LSTATE, 2, 9, 0), (LINE_STAT_STAGE, 6, 9, 0), (LINE_STAT_FORMAT, 73, 9, 0),
      (FR_STAT_STATE, 1, 9, 0)]) 9 fun x => { x with fr := { x.fr with cands := [(5, 100), (7, 2)] } }) ∧
      s.wf = true ∧ s.frHunts 9 = true ∧ s.frState 9 = 1 ∧
        List.find? (fun (c : ℕ × ℕ) => decide (c.1 = 5)) (s.framer 9).cands = some (5,
        ((List.find? (fun (c : ℕ × ℕ) => decide (c.1 = 5)) (s.framer 9).cands).getD (0, 0)).2) ∧ s.fmt 9 = 73 ∧
        s.frN 9 ≤ ((List.find? (fun (c : ℕ × ℕ) => decide (c.1 = 5)) (s.framer 9).cands).getD (0, 0)).2 + 1 ∧
        s.flag FR_CFG_CRC6_OFF 9 = false) ∧
    (∃ s : State, s = (put stateTheFramerFindsAndLosesItsPattern1 [(FR_STAT_STATE, 2, 0, 0)]) ∧
      s.wf = true ∧ s.frHunts 0 = true ∧ s.frState 0 = 2 ∧
        s.frM 0 ≤ (List.filter id (List.take (s.frW 0) (true :: (s.framer 0).win))).length ∧ familyOf (s.fmt 0) = Family.otn ∧
        (s.framer 0).mfLast = some ((s.framer 0).mfLast.getD 0) ∧ s.rd FR_STAT_MF_STATE ≠ 2 ∧
        ((s.framer 0).mfLast.getD 0 + 1) % 256 ≠ 0) ∧
    (∃ s : State, s = { (put stateTheFramerFindsAndLosesItsPattern1 [(FR_STAT_STATE, 2, 0, 0)]) with lines := [] } ∧
      s.wf = true ∧ s.frHunts 0 = true ∧ s.frState 0 = 2 ∧
        (List.filter id (List.take (s.frW 0) (true :: (s.framer 0).win))).length < s.frM 0) ∧
    (∃ s : State, s = { (put stateTheFramerFindsAndLosesItsPattern5 [(LINE_STAT_FORMAT, 64, 9, 0), (FR_STAT_STATE, 2, 9, 0)]) with
      lines := [] } ∧
      s.wf = true ∧ (s.fmt 9 = 64 ∨ s.fmt 9 = 65) ∧ s.frState 9 = 2 ∧ s.flag FR_CFG_LOSS_NFAS 9 = true) ∧
    (∃ s : State, s = stateTheFramerFindsAndLosesItsPattern10 ∧
      s.wf = true ∧ s.fmt 9 = 65 ∧ s.frState 9 = 2 ∧ s.rd FR_STAT_MF_STATE 9 ≤ 1 ∧ s.clock ≤ (s.framer 9).mfFrom + 8000000 ∧
        (∃ w ∈ (s.framer 9).mfWords, w < 19 ∧ (19 - w) % 16 = 0) ∧ (∀ w ∈ (s.framer 9).mfWords, ¬(w < 100 ∧
        (100 - w) % 16 = 0)) ∧ s.clock < (s.framer 9).mfFrom + 8000000) ∧
    (∃ s : State, s = { stateTheFramerFindsAndLosesItsPattern10 with lines := [] } ∧
      s.wf = true ∧ s.fmt 9 = 65 ∧ s.frState 9 = 2 ∧ s.rd FR_STAT_MF_STATE 9 ≤ 1 ∧ (s.framer 9).mfFrom + 8000000 ≤ s.clock) ∧
    (∃ s : State, s = { (put stateTheFramerFindsAndLosesItsPattern10 [(FR_STAT_MF_STATE, 2, 9, 0)]) with lines := [] } ∧
      s.wf = true ∧ s.fmt 9 = 65 ∧ s.frState 9 = 2 ∧ s.rd FR_STAT_MF_STATE 9 = 2) ∧
    (∃ s : State, s = stateTheFramerFindsAndLosesItsPattern13 ∧
      s.wf = true ∧ familyOf (s.fmt 0) = Family.otn ∧ s.frState 0 = 2 ∧
        (s.framer 0).mfLast = some ((s.framer 0).mfLast.getD 0) ∧ s.rd FR_STAT_MF_STATE ≠ 2 ∧
        ((s.framer 0).mfLast.getD 0 + 1) % 256 = 0 ∧ s.frMfN 0 ≤ (s.framer 0).mfRun + 1) ∧
    (∃ s : State, s = (put stateTheFramerFindsAndLosesItsPattern13 [(FR_STAT_MF_STATE, 2, 0, 0)]) ∧
      s.wf = true ∧ familyOf (s.fmt 0) = Family.otn ∧ s.frState 0 = 2 ∧
        (s.framer 0).mfLast = some ((s.framer 0).mfLast.getD 0) ∧ s.rd FR_STAT_MF_STATE = 2 ∧
        ((s.framer 0).mfLast.getD 0 + 1) % 256 = 0 ∧ 1 ≤ s.frMfM 0) ∧
    (∃ s : State, s = (put stateTheFramerFindsAndLosesItsPattern1 [(FR_STAT_STATE, 2, 0, 0), (FR_STAT_MF_STATE, 2, 0, 0)]) ∧
      s.wf = true ∧ familyOf (s.fmt 0) = Family.otn ∧ s.frState 0 = 2 ∧
        (s.framer 0).mfLast = some ((s.framer 0).mfLast.getD 0) ∧ s.rd FR_STAT_MF_STATE = 2 ∧
        ((s.framer 0).mfLast.getD 0 + 1) % 256 ≠ 0 ∧ s.frMfM 0 ≤ (s.framer 0).mfRun + 1) ∧
    (∃ s : State, s = stateTheFramerFindsAndLosesItsPattern16 ∧
      s.wf = true ∧ (s.fmt 3 = 33 ∨ s.fmt 3 = 34) ∧ (s.framer 3).blk.st ≠ 2 ∧ s.frState 3 ≠ 3 ∧
        s.frN 3 ≤ (s.framer 3).blk.n + 1) ∧
    (∃ s : State, s = { stateTheFramerFindsAndLosesItsPattern16 with lines := [] } ∧
      s.wf = true ∧ (s.fmt 3 = 33 ∨ s.fmt 3 = 34) ∧ (s.framer 3).blk.st ≠ 2 ∧ s.frState 3 ≠ 3) ∧
    (∃ s : State, s = stateTheFramerFindsAndLosesItsPattern18 ∧
      s.wf = true ∧ (s.fmt 3 = 33 ∨ s.fmt 3 = 34) ∧ (s.framer 3).blk.st = 2 ∧ s.frState 3 = 2 ∧
        s.frM 3 ≤ (s.framer 3).blk.bad + 1 ∧ s.working = true ∧ s.groupLead? 3 = none ∧ fmtBonded (s.fmt 3) = false) ∧
    (∃ s : State, s = (put stateTheFramerFindsAndLosesItsPattern16 [(LINE_STAT_FORMAT, 32, 3, 0), (FR_STAT_STATE, 1, 3, 0)]) ∧
      s.wf = true ∧ s.fmt 3 = 32 ∧ (s.framer 3).cg = 5 ∧ s.frState 3 ≤ 1) ∧
    (∃ s : State, s = (put stateTheFramerFindsAndLosesItsPattern18 [(LINE_STAT_FORMAT, 32, 3, 0)]) ∧
      s.wf = true ∧ s.fmt 3 = 32 ∧ (s.framer 3).cg = 9 ∧ s.frState 3 = 2) ∧
    (∃ s : State, s = { (put stateTheFramerFindsAndLosesItsPattern16 [(LINE_STAT_FORMAT, 32, 3, 0), (FR_STAT_STATE, 1, 3, 0)]) with
      lines := [] } ∧
      s.wf = true ∧ s.fmt 3 = 32 ∧ (s.framer 3).cg = 0 ∧ s.frState 3 ≤ 1) ∧
    (∃ s : State, s = up ∧
      s.wf = true ∧ s.working = true ∧ s.groupLead? 0 = none ∧ fmtBonded (s.fmt 0) = false ∧ s.frState 0 = 3) ∧
    (∃ s : State, s = { (put stateTheFramerFindsAndLosesItsPattern16 [(LINE_STAT_FORMAT, 16, 3, 0), (FR_STAT_MF_STATE, 2, 3, 0)]) with
      lines := [] } ∧
      s.wf = true ∧ s.working = true ∧ s.groupLead? 3 = none ∧ fmtBonded (s.fmt 3) = false ∧ s.frState 3 ≠ 3 ∧
        s.rd FR_STAT_MF_STATE 3 = 2) :=
  ⟨⟨_, rfl, by decide +kernel⟩,
   ⟨_, rfl, by decide +kernel⟩,
   ⟨_, rfl, by decide +kernel⟩,
   ⟨_, rfl, by decide +kernel⟩,
   ⟨_, rfl, by decide +kernel⟩,
   ⟨_, rfl, by decide +kernel⟩,
   ⟨_, rfl, by decide +kernel⟩,
   ⟨_, rfl, by decide +kernel⟩,
   ⟨_, rfl, by decide +kernel⟩,
   ⟨_, rfl, by decide +kernel⟩,
   ⟨_, rfl, by decide +kernel⟩,
   ⟨_, rfl, by decide +kernel⟩,
   ⟨_, rfl, by decide +kernel⟩,
   ⟨_, rfl, by decide +kernel⟩,
   ⟨_, rfl, by decide +kernel⟩,
   ⟨_, rfl, by decide +kernel⟩,
   ⟨_, rfl, by decide +kernel⟩,
   ⟨_, rfl, by decide +kernel⟩,
   ⟨_, rfl, by decide +kernel⟩,
   ⟨_, rfl, by decide +kernel⟩,
   ⟨_, rfl, by decide +kernel⟩,
   ⟨_, rfl, by decide +kernel⟩,
   ⟨_, rfl, by decide +kernel⟩⟩

def stateLanesGroupsAndGfpDelineation1 : State :=
  line (put up3 [(LINE_STAT_LSTATE, 2, 0, 0), (LINE_STAT_STAGE, 6, 0, 0), (LINE_STAT_FORMAT, 19, 0, 0),
    (FR_STAT_STATE, 2, 0, 0)]) 0 fun x => { x with
      fr := { x.fr with
        lanes := [(0,
          { num := some 0, good := 1, errs := 0, locked := false, arrival := 100, blk := { st := 2, n := 0, bad := 0 } })] } }

def stateLanesGroupsAndGfpDelineation4 : State :=
  line stateLanesGroupsAndGfpDelineation1 0 fun x => { x with
    fr := { x.fr with
      lanes := [
        (0, { num := some 19, good := 1, errs := 0, locked := true, arrival := 100, blk := { st := 2, n := 0, bad := 0 } }),
        (1, { num := some 18, good := 1, errs := 0, locked := true, arrival := 100, blk := { st := 2, n := 0, bad := 0 } }),
        (2, { num := some 17, good := 1, errs := 0, locked := true, arrival := 100, blk := { st := 2, n := 0, bad := 0 } }),
        (3, { num := some 16, good := 1, errs := 0, locked := true, arrival := 100, blk := { st := 2, n := 0, bad := 0 } }),
        (4, { num := some 15, good := 1, errs := 0, locked := true, arrival := 100, blk := { st := 2, n := 0, bad := 0 } }),
        (5, { num := some 14, good := 1, errs := 0, locked := true, arrival := 100, blk := { st := 2, n := 0, bad := 0 } }),
        (6, { num := some 13, good := 1, errs := 0, locked := true, arrival := 100, blk := { st := 2, n := 0, bad := 0 } }),
        (7, { num := some 12, good := 1, errs := 0, locked := true, arrival := 1900, blk := { st := 2, n := 0, bad := 0 } }),
        (8, { num := some 11, good := 1, errs := 0, locked := true, arrival := 100, blk := { st := 2, n := 0, bad := 0 } }),
        (9, { num := some 10, good := 1, errs := 0, locked := true, arrival := 100, blk := { st := 2, n := 0, bad := 0 } }),
        (10, { num := some 9, good := 1, errs := 0, locked := true, arrival := 100, blk := { st := 2, n := 0, bad := 0 } }),
        (11, { num := some 8, good := 1, errs := 0, locked := true, arrival := 100, blk := { st := 2, n := 0, bad := 0 } }),
        (12, { num := some 7, good := 1, errs := 0, locked := true, arrival := 100, blk := { st := 2, n := 0, bad := 0 } }),
        (13, { num := some 6, good := 1, errs := 0, locked := true, arrival := 100, blk := { st := 2, n := 0, bad := 0 } }),
        (14, { num := some 5, good := 1, errs := 0, locked := true, arrival := 100, blk := { st := 2, n := 0, bad := 0 } }),
        (15, { num := some 4, good := 1, errs := 0, locked := true, arrival := 100, blk := { st := 2, n := 0, bad := 0 } }),
        (16, { num := some 3, good := 1, errs := 0, locked := true, arrival := 100, blk := { st := 2, n := 0, bad := 0 } }),
        (17, { num := some 2, good := 1, errs := 0, locked := true, arrival := 100, blk := { st := 2, n := 0, bad := 0 } }),
        (18, { num := some 1, good := 1, errs := 0, locked := true, arrival := 100, blk := { st := 2, n := 0, bad := 0 } }),
        (19, { num := some 0, good := 1, errs := 0, locked := true, arrival := 100, blk := { st := 2, n := 0, bad := 0 } })] } }

/-- The hypotheses of Obligations.LanesGroupsAndGfpDelineation, a state for each clause. -/
theorem witness_LanesGroupsAndGfpDelineation :
    (∃ s : State, s = stateLanesGroupsAndGfpDelineation1 ∧
      s.wf = true ∧ fmtBonded (s.fmt 0) = true ∧ s.frState 0 ≤ 2 ∧ laneReady (s.fmt 0) ((s.framer 0).lane 0) = true ∧
        ((s.framer 0).lane 0).locked = false ∧ ((s.framer 0).lane 0).num = some 0 ∧ 1 ≤ ((s.framer 0).lane 0).good ∧
        s.flag FR_BOND_ALIGNED = false ∧ ((s.framer 0).lockedAt.length ≠ 20 ∨ ¬(s.framer 0).numbers.Nodup ∨
        1800 < (s.framer 0).skew)) ∧
    (∃ s : State, s = (line stateLanesGroupsAndGfpDelineation1 0 fun x => { x with
      fr := { x.fr with
        lanes := [(0,
          { num := some 0, good := 1, errs := 3, locked := true, arrival := 100, blk := { st := 2, n := 0, bad := 0 } })] } }) ∧
      s.wf = true ∧ fmtBonded (s.fmt 0) = true ∧ s.frState 0 ≤ 2 ∧ laneReady (s.fmt 0) ((s.framer 0).lane 0) = true ∧
        ((s.framer 0).lane 0).locked = true ∧ ((s.framer 0).lane 0).num = some 0 ∧
        ((s.framer 0).lane 0).errs + 1 < if s.fmt 0 = 19 then 5 else 4) ∧
    (∃ s : State, s = (line stateLanesGroupsAndGfpDelineation1 0 fun x => { x with
      fr := { x.fr with
        lanes := [(0,
          { num := some 0, good := 1, errs := 4, locked := true, arrival := 100, blk := { st := 2, n := 0, bad := 0 } })] } }) ∧
      s.wf = true ∧ fmtBonded (s.fmt 0) = true ∧ s.frState 0 ≤ 2 ∧ laneReady (s.fmt 0) ((s.framer 0).lane 0) = true ∧
        ((s.framer 0).lane 0).locked = true ∧ ((s.framer 0).lane 0).num = some 0 ∧
        (if s.fmt 0 = 19 then 5 else 4) ≤ ((s.framer 0).lane 0).errs + 1) ∧
    (∃ s : State, s = stateLanesGroupsAndGfpDelineation4 ∧
      s.wf = true ∧ fmtBonded (s.fmt 0) = true ∧ s.frState 0 ≤ 2 ∧ s.flag FR_BOND_ALIGNED = false ∧
        (s.framer 0).lockedAt.length = 20 ∧ (s.framer 0).numbers.Nodup ∧ (s.framer 0).numbers.length = 20 ∧
        (s.framer 0).skew ≤ 1800 ∧ s.fmt 0 = 19) ∧
    (∃ s : State, s = (put stateLanesGroupsAndGfpDelineation4 [(LINE_STAT_FORMAT, 35, 0, 0)]) ∧
      s.wf = true ∧ fmtBonded (s.fmt 0) = true ∧ s.frState 0 ≤ 2 ∧ s.flag FR_BOND_ALIGNED = false ∧
        (s.framer 0).lockedAt.length = 20 ∧ (s.framer 0).numbers.Nodup ∧ (s.framer 0).numbers.length = 20 ∧
        (s.framer 0).skew ≤ 1800 ∧ s.fmt 0 = 35) ∧
    (∃ s : State, s = { (put stateLanesGroupsAndGfpDelineation1 [(LINE_STAT_SIG, 1, 0, 0), (FR_BOND_ALIGNED, 1, 0, 0),
      (LINE_STAT_SIG, 1, 1, 0), (LINE_STAT_SIG, 1, 2, 0), (LINE_STAT_SIG, 1, 3, 0)]) with
      lines := [] } ∧
      s.wf = true ∧ fmtBonded (s.fmt 0) = true ∧ s.frState 0 ≤ 2 ∧ s.flag FR_BOND_ALIGNED = true ∧ s.frState 0 = 2 ∧
        (∀ j ∈ s.group 0, s.flag LINE_STAT_SIG j = true) ∧ (s.framer 0).lockedAt.length < 20) ∧
    (∃ s : State, s = { (put stateLanesGroupsAndGfpDelineation1 [(FR_BOND_ALIGNED, 1, 0, 0)]) with lines := [] } ∧
      s.wf = true ∧ fmtBonded (s.fmt 0) = true ∧ s.frState 0 ≤ 2 ∧ s.flag FR_BOND_ALIGNED = true ∧ s.frState 0 = 2 ∧
        (∃ j ∈ s.group 0, s.flag LINE_STAT_SIG j = false) ∧ tribOf (wordMap (s.ent 5).use0) ≠ Trib.gfp ∧
        (s.ovh (entryCarrier 5)).csfAt = none) ∧
    (∃ s : State, s = (put stateLanesGroupsAndGfpDelineation4 [(LINE_STAT_SIG, 1, 0, 0), (FR_BOND_ALIGNED, 1, 0, 0),
      (LINE_STAT_SIG, 1, 1, 0), (LINE_STAT_SIG, 1, 2, 0), (LINE_STAT_SIG, 1, 3, 0)]) ∧
      s.wf = true ∧ fmtBonded (s.fmt 0) = true ∧ s.frState 0 ≤ 2 ∧ s.flag FR_BOND_ALIGNED = true ∧ s.frState 0 = 2 ∧
        (∀ j ∈ s.group 0, s.flag LINE_STAT_SIG j = true) ∧ (s.framer 0).lockedAt.length = 20) ∧
    (∃ s : State, s = (ent (put up3 [(CH_STAT_GFP, 0, 5, 0)]) 5 fun x => { x with use0 := 32 }) ∧
      s.wf = true ∧ tribOf (wordMap (s.ent 5).use0) = Trib.gfp ∧ s.rd CH_STAT_GFP 5 = 0 ∧
        crcBytes 16 4129 0 [BitVec.ofNat 8 ((3064672736#32 ^^^ 3064672736#32).toNat / 2 ^ 24),
        BitVec.ofNat 8 ((3064672736#32 ^^^ 3064672736#32).toNat / 2 ^ 16)] = (3064672736#32 ^^^ 3064672736#32).toNat % 2 ^ 16 ∧
        ¬crcBytes 16 4129 0 [BitVec.ofNat 8 ((0#32 ^^^ 3064672736#32).toNat / 2 ^ 24),
        BitVec.ofNat 8 ((0#32 ^^^ 3064672736#32).toNat / 2 ^ 16)] = (0#32 ^^^ 3064672736#32).toNat % 2 ^ 16) ∧
    (∃ s : State, s = (ent (put up3 [(CH_STAT_GFP, 1, 5, 0)]) 5 fun x => { x with use0 := 32 }) ∧
      s.wf = true ∧ tribOf (wordMap (s.ent 5).use0) = Trib.gfp ∧ s.rd CH_STAT_GFP 5 = 1 ∧
        ¬crcBytes 16 4129 0 [BitVec.ofNat 8 ((0#32 ^^^ 3064672736#32).toNat / 2 ^ 24),
        BitVec.ofNat 8 ((0#32 ^^^ 3064672736#32).toNat / 2 ^ 16)] = (0#32 ^^^ 3064672736#32).toNat % 2 ^ 16 ∧
        crcBytes 16 4129 0 [BitVec.ofNat 8 ((3064672736#32 ^^^ 3064672736#32).toNat / 2 ^ 24),
        BitVec.ofNat 8 ((3064672736#32 ^^^ 3064672736#32).toNat / 2 ^ 16)] = (3064672736#32 ^^^ 3064672736#32).toNat % 2 ^ 16 ∧
        (if bitsAt (s.ent 5).use0 112 3 = 0 then 1 else bitsAt (s.ent 5).use0 112 3) ≤ (s.ent 5).gfpN + 1) ∧
    (∃ s : State, s = (ent (put up3 [(CH_STAT_GFP, 1, 5, 0)]) 5 fun x => { x with
      use0 := 98653640312161724942079430255181856,
      gfpN := 1,
      gfpBad := 1 }) ∧
      s.wf = true ∧ tribOf (wordMap (s.ent 5).use0) = Trib.gfp ∧ s.rd CH_STAT_GFP 5 = 1 ∧
        crcBytes 16 4129 0 [BitVec.ofNat 8 ((3064672736#32 ^^^ 3064672736#32).toNat / 2 ^ 24),
        BitVec.ofNat 8 ((3064672736#32 ^^^ 3064672736#32).toNat / 2 ^ 16)] = (3064672736#32 ^^^ 3064672736#32).toNat % 2 ^ 16 ∧
        (s.ent 5).gfpN + 1 < if bitsAt (s.ent 5).use0 112 3 = 0 then 1 else bitsAt (s.ent 5).use0 112 3) ∧
    (∃ s : State, s = (ent (put up3 [(CH_STAT_GFP, 2, 5, 0)]) 5 fun x => { x with use0 := 32 }) ∧
      s.wf = true ∧ tribOf (wordMap (s.ent 5).use0) = Trib.gfp ∧ s.rd CH_STAT_GFP 5 = 2 ∧
        crcBytes 16 4129 0 [BitVec.ofNat 8 ((3064672736#32 ^^^ 3064672736#32).toNat / 2 ^ 24),
        BitVec.ofNat 8 ((3064672736#32 ^^^ 3064672736#32).toNat / 2 ^ 16)] = (3064672736#32 ^^^ 3064672736#32).toNat % 2 ^ 16 ∧
        ¬crcBytes 16 4129 0 [BitVec.ofNat 8 ((0#32 ^^^ 3064672736#32).toNat / 2 ^ 24),
        BitVec.ofNat 8 ((0#32 ^^^ 3064672736#32).toNat / 2 ^ 16)] = (0#32 ^^^ 3064672736#32).toNat % 2 ^ 16 ∧
        bitsAt (s.ent 5).use0 118 1 = 0 ∧
        (if bitsAt (s.ent 5).use0 115 3 = 0 then 1 else bitsAt (s.ent 5).use0 115 3) ≤ (s.ent 5).gfpBad + 1) ∧
    (∃ s : State, s = (ent (put up3 [(CH_STAT_GFP, 2, 5, 0)]) 5 fun x => { x with use0 := 98653640312161724942079430255181856 }) ∧
      s.wf = true ∧ tribOf (wordMap (s.ent 5).use0) = Trib.gfp ∧ s.rd CH_STAT_GFP 5 = 2 ∧
        ¬crcBytes 16 4129 0 [BitVec.ofNat 8 ((0#32 ^^^ 3064672736#32).toNat / 2 ^ 24),
        BitVec.ofNat 8 ((0#32 ^^^ 3064672736#32).toNat / 2 ^ 16)] = (0#32 ^^^ 3064672736#32).toNat % 2 ^ 16 ∧
        bitsAt (s.ent 5).use0 118 1 = 0 ∧
        (s.ent 5).gfpBad + 1 < if bitsAt (s.ent 5).use0 115 3 = 0 then 1 else bitsAt (s.ent 5).use0 115 3) ∧
    (∃ s : State, s = (ovh up3 37 fun x => { x with hw := 10384593717069655257060992658440192, csfAt := some 900000000 }) ∧
      s.wf = true ∧ (s.ovh (entryCarrier 5)).csfAt = some ((s.ovh (entryCarrier 5)).csfAt.getD 0) ∧
        s.clock < (s.ovh (entryCarrier 5)).csfAt.getD 0 + 300000000) ∧
    (∃ s : State, s = (ovh up3 37 fun x => { x with hw := 10384593717069655257060992658440192, csfAt := some 5 }) ∧
      s.wf = true ∧ (s.ovh (entryCarrier 5)).csfAt = some ((s.ovh (entryCarrier 5)).csfAt.getD 0) ∧
        (s.ovh (entryCarrier 5)).csfAt.getD 0 + 300000000 ≤ s.clock) :=
  ⟨⟨_, rfl, by decide +kernel⟩,
   ⟨_, rfl, by decide +kernel⟩,
   ⟨_, rfl, by decide +kernel⟩,
   ⟨_, rfl, by decide +kernel⟩,
   ⟨_, rfl, by decide +kernel⟩,
   ⟨_, rfl, by decide +kernel⟩,
   ⟨_, rfl, by decide +kernel⟩,
   ⟨_, rfl, by decide +kernel⟩,
   ⟨_, rfl, by decide +kernel⟩,
   ⟨_, rfl, by decide +kernel⟩,
   ⟨_, rfl, by decide +kernel⟩,
   ⟨_, rfl, by decide +kernel⟩,
   ⟨_, rfl, by decide +kernel⟩,
   ⟨_, rfl, by decide +kernel⟩,
   ⟨_, rfl, by decide +kernel⟩⟩

def stateOverheadIsReceivedAcceptedAndJudged6 : State :=
  ovh (put up3 [(LINE_STAT_LSTATE, 2, 3, 0), (LINE_STAT_STAGE, 6, 3, 0), (LINE_STAT_FORMAT, 5, 3, 0), (FR_STAT_STATE, 2, 3, 0)]) 3 fun x => { x with
    bad := [(2, 6)],
    good := [(2, 6)],
    excBad := [(2, 2)],
    excGood := [(2, 2)],
    oofSince := some 997000000 }

/-- The hypotheses of Obligations.OverheadIsReceivedAcceptedAndJudged, a state for each clause. -/
theorem witness_OverheadIsReceivedAcceptedAndJudged :
    (∃ s : State, s = up ∧
      s.wf = true ∧ (s.rd LINE_STAT_LSTATE 3 = 0 ∨ s.flag LINE_STAT_SIG 3 = false) ∧ wordMap (s.ent 5).use0 = 0 ∧
        s.isDue (s.framer 3).tickDue = false ∧ (s.ovh 3).oofSince = none ∧ (s.ovh 3).ifSince = none ∧
        (s.ovh 3).oomSince = none ∧ (s.ovh 3).mfSince = none ∧ s.sec < s.tm.device / 1000000000 ∧
        s.flag OV_CFG_EXC_EN 3 2 = true ∧ (s.ovh 3).dcl = 0) ∧
    (∃ s : State, s = (line (put up3 [(LINE_STAT_LSTATE, 2, 3, 0), (LINE_STAT_STAGE, 6, 3, 0), (LINE_STAT_FORMAT, 5, 3, 0),
      (LINE_STAT_SIG, 1, 3, 0), (FR_STAT_STATE, 2, 3, 0)]) 3 fun x => { x with fr := { x.fr with fresh := true } }) ∧
      s.wf = true ∧ s.rd LINE_STAT_LSTATE 3 ≠ 0 ∧ s.flag LINE_STAT_SIG 3 = true ∧ s.frState 3 = 2 ∧ s.family 3 = Family.sdh ∧
        (s.framer 3).fresh = true) ∧
    (∃ s : State, s = (put up3 [(LINE_STAT_LSTATE, 2, 3, 0), (LINE_STAT_STAGE, 6, 3, 0), (LINE_STAT_FORMAT, 5, 3, 0),
      (LINE_STAT_SIG, 1, 3, 0), (FR_STAT_STATE, 2, 3, 0)]) ∧
      s.wf = true ∧ s.rd LINE_STAT_LSTATE 3 ≠ 0 ∧ s.flag LINE_STAT_SIG 3 = true ∧ s.frState 3 = 2 ∧ s.family 3 = Family.sdh ∧
        (s.framer 3).fresh = false) ∧
    (∃ s : State, s = (ovh (put up3 [(LINE_STAT_LSTATE, 2, 3, 0), (LINE_STAT_STAGE, 6, 3, 0), (LINE_STAT_FORMAT, 5, 3, 0),
      (LINE_STAT_SIG, 1, 3, 0), (FR_STAT_STATE, 2, 3, 0)]) 3 fun x => { x with runs := [(70, 4)], cand := [(16, [0x16], 4)] }) ∧
      s.wf = true ∧ s.rd LINE_STAT_LSTATE 3 ≠ 0 ∧ s.flag LINE_STAT_SIG 3 = true ∧ s.frState 3 = 2 ∧ s.family 3 = Family.sdh ∧
        (s.framer 3).fresh = false ∧
        rxByte { rx0 with images := [(2, List.replicate 81 0), (3, [1, 1, 22, 1, 1, 1, 1, 1, 1])] } 2 6 % 8 ≠ 7 ∧ rx0.ptr = 0 ∧
        (s.ovh 3).hw = 0 ∧ smGet ([],
        0) (s.ovh 3).cand 16 = ([BitVec.ofNat 8 (rxByte { rx0 with images := [(2, List.replicate 81 0), (3, [1, 1, 22, 1, 1, 1, 1, 1, 1])] } 3 2)],
        (smGet ([], 0) (s.ovh 3).cand 16).2) ∧ 4 ≤ (smGet ([], 0) (s.ovh 3).cand 16).2 ∧
        rxByte { rx0 with images := [(2, List.replicate 81 6)] } 2 6 % 8 = 6 ∧ (s.ovh 3).prog = 0 ∧ (s.ovh 3).dcl = 0 ∧
        4 ≤ smGet 0 (s.ovh 3).runs (2 * 35)) ∧
    (∃ s : State, s = (line (put up3 [(LINE_STAT_LSTATE, 2, 3, 0), (LINE_STAT_STAGE, 6, 3, 0), (LINE_STAT_FORMAT, 32, 3, 0),
      (FR_STAT_STATE, 2, 3, 0)]) 3 fun x => { x with fr := { x.fr with tickDue := some 1000000000 } }) ∧
      s.wf = true ∧ familyOf (s.fmt 3) = Family.pcs ∧ s.frState 3 = 2 ∧
        (s.framer 3).tickDue = some ((s.framer 3).tickDue.getD 0) ∧ (s.framer 3).tickDue.getD 0 ≤ s.clock ∧ [(8, [119])] = [(8,
        ([(8, [119])].headD (0, [])).2)] ∧ ([(8, [119])].headD (0, [])).2 ≠ []) ∧
    (∃ s : State, s = stateOverheadIsReceivedAcceptedAndJudged6 ∧
      s.wf = true ∧ (s.ovh 3).oofSince = some ((s.ovh 3).oofSince.getD 0) ∧
        (s.ovh 3).oofSince.getD 0 + 1000000 * s.lofMs 3 ≤ s.clock ∧ s.sec < s.tm.device / 1000000000 ∧
        s.flag OV_CFG_DEG_EN 3 2 = true ∧ (s.ovh 3).dcl = 0 ∧ (s.ovh 3).secDcl = 0 ∧
        0 * clamp 1 100 (s.rd OV_CFG_DEGTHR 3 2) ≤ 100 * 0 ∧ clamp 2 10 (s.rd OV_CFG_DEGM 3 2) ≤ smGet 0 (s.ovh 3).bad 2 + 1 ∧
        100 * 0 < 4 * clamp 1 100 (s.rd OV_CFG_DEGTHR 3 2) ∧ clamp 2 10 (s.rd OV_CFG_DEGM 3 2) ≤ smGet 0 (s.ovh 3).good 2 + 1 ∧
        s.flag OV_CFG_EXC_EN 3 2 = true ∧ 2 ≤ smGet 0 (s.ovh 3).excBad 2 ∧ 2 ≤ smGet 0 (s.ovh 3).excGood 2) ∧
    (∃ s : State, s = (ovh stateOverheadIsReceivedAcceptedAndJudged6 3 fun x => { x with
      hw := 25769803784,
      bad := [],
      good := [],
      excBad := [],
      excGood := [],
      oofSince := none,
      ifSince := some 997000000 }) ∧
      s.wf = true ∧ (s.ovh 3).oofSince = none ∧ (s.ovh 3).ifSince = some ((s.ovh 3).ifSince.getD 0) ∧
        (s.ovh 3).ifSince.getD 0 + 1000000 * s.lofMs 3 ≤ s.clock) ∧
    (∃ s : State, s = { (put up3 [(LINE_STAT_LSTATE, 2, 9, 0), (LINE_STAT_STAGE, 6, 9, 0), (LINE_STAT_FORMAT, 64, 9, 0),
      (FR_STAT_STATE, 2, 9, 0)]) with
      sec := 1 } ∧
      s.wf = true ∧ s.tm.device / 1000000000 ≤ s.sec) ∧
    (∃ s : State, s = (put up3 [(OV_CFG_EXC_EN, 0, 3, 2), (LINE_STAT_LSTATE, 2, 9, 0), (LINE_STAT_STAGE, 6, 9, 0),
      (LINE_STAT_FORMAT, 64, 9, 0), (FR_STAT_STATE, 2, 9, 0), (OV_CFG_EXC_EN, 0, 9, 2)]) ∧
      s.wf = true ∧ s.flag OV_CFG_EXC_EN 3 2 = false) :=
  ⟨⟨_, rfl, by decide +kernel⟩,
   ⟨_, rfl, by decide +kernel⟩,
   ⟨_, rfl, by decide +kernel⟩,
   ⟨_, rfl, by decide +kernel⟩,
   ⟨_, rfl, by decide +kernel⟩,
   ⟨_, rfl, by decide +kernel⟩,
   ⟨_, rfl, by decide +kernel⟩,
   ⟨_, rfl, by decide +kernel⟩,
   ⟨_, rfl, by decide +kernel⟩⟩

def stateTransmittedFramesAreBuiltInOrder2 : State :=
  put up3 [(LINE_STAT_LSTATE, 2, 3, 0), (LINE_STAT_STAGE, 6, 3, 0), (LINE_STAT_FORMAT, 5, 3, 0), (LINE_STAT_TX_ON, 1, 3, 0),
    (FR_STAT_STATE, 2, 3, 0), (OV_CONSEQ_BACK_EN, 0, 3, 0), (OV_INS_LAYER, 2, 3, 0), (OV_INS_ITEM, 5, 3, 0),
    (OV_INS_MODE, 1, 3, 0), (OV_FORCE_LAYER, 1, 3, 0)]

/-- The hypotheses of Obligations.TransmittedFramesAreBuiltInOrder, a state for each clause. -/
theorem witness_TransmittedFramesAreBuiltInOrder :
    (∃ s : State, s = up ∧
      s.wf = true ∧ s.flag LINE_STAT_TX_ON 3 = false ∧ wordMap (s.ent 5).use0 = 0) ∧
    (∃ s : State, s = stateTransmittedFramesAreBuiltInOrder2 ∧
      s.wf = true ∧ s.flag LINE_STAT_TX_ON 3 = true ∧ s.family 3 = Family.sdh ∧ s.rd OV_FORCE_LAYER 3 ≠ 0 ∧
        (s.line 3).loop = 0 ∧ s.rd OV_INS_MODE 3 = 1) ∧
    (∃ s : State, s = (ovh (put stateTransmittedFramesAreBuiltInOrder2 [(OV_INS_MODE, 3, 3, 0), (OV_INS_COUNT, 4, 3, 0)]) 3 fun x => { x with
      txPend := [(5, 520, some 0x77)],
      insLeft := 2,
      txN := 65535 }) ∧
      s.wf = true ∧ s.flag LINE_STAT_TX_ON 3 = true ∧ s.family 3 = Family.sdh ∧ s.rd OV_FORCE_LAYER 3 ≠ 0 ∧
        (s.line 3).loop = 0 ∧ s.rd OV_INS_MODE 3 = 3 ∧ s.rd OV_INS_COUNT 3 = s.rd OV_INS_COUNT 3 ∧ s.rd OV_INS_ITEM 3 ≠ 0 ∧
        1 ≤ s.rd OV_INS_COUNT 3 ∧ (s.ovh 3).insLeft + 1 < s.rd OV_INS_COUNT 3) ∧
    (∃ s : State, s = (put stateTransmittedFramesAreBuiltInOrder2 [(OV_INS_MODE, 3, 3, 0), (OV_INS_COUNT, 1, 3, 0)]) ∧
      s.wf = true ∧ s.flag LINE_STAT_TX_ON 3 = true ∧ s.family 3 = Family.sdh ∧ s.rd OV_FORCE_LAYER 3 ≠ 0 ∧
        (s.line 3).loop = 0 ∧ s.rd OV_INS_MODE 3 = 3 ∧ s.rd OV_INS_COUNT 3 = s.rd OV_INS_COUNT 3 ∧ s.rd OV_INS_ITEM 3 ≠ 0 ∧
        1 ≤ s.rd OV_INS_COUNT 3 ∧ s.rd OV_INS_COUNT 3 ≤ (s.ovh 3).insLeft + 1) ∧
    (∃ s : State, s = (line (put stateTransmittedFramesAreBuiltInOrder2 [(OV_INS_MODE, 0, 3, 0)]) 3 fun x => { x with
      loop := 1 }) ∧
      s.wf = true ∧ s.flag LINE_STAT_TX_ON 3 = true ∧ s.family 3 = Family.sdh ∧ s.rd OV_FORCE_LAYER 3 ≠ 0 ∧
        (s.line 3).loop ≠ 0) ∧
    (∃ s : State, s = (put stateTransmittedFramesAreBuiltInOrder2 [(OV_CONSEQ_BACK_EN, 1, 3, 0), (OV_INS_MODE, 0, 3, 0),
      (OV_FORCE_LAYER, 2, 3, 0), (OV_FORCE_AIS, 1, 3, 0)]) ∧
      s.wf = true ∧ s.flag LINE_STAT_TX_ON 3 = true ∧ s.family 3 = Family.sdh ∧ s.rd OV_FORCE_LAYER 3 ≠ 0 ∧
        s.rd OV_FORCE_LAYER 3 = 2 ∧ s.flag OV_FORCE_AIS 3 = true) ∧
    (∃ s : State, s = (ovh (put stateTransmittedFramesAreBuiltInOrder2 [(OV_INS_MODE, 0, 3, 0)]) 3 fun x => { x with
      txPend := [(5, 520, some 0x77)],
      insLeft := 2,
      txN := 65535 }) ∧
      s.wf = true ∧ s.flag LINE_STAT_TX_ON 3 = true ∧ s.family 3 = Family.sdh ∧ s.rd OV_FORCE_LAYER 3 ≠ 0 ∧
        (s.line 3).loop = 0 ∧ s.rd OV_INS_MODE 3 = 0 ∧ s.rd OV_FORCE_LAYER 3 ≠ 2 ∧ s.flag OV_CONSEQ_BACK_EN 3 = false ∧
        (s.ovh 3).txPend = [(((s.ovh 3).txPend.headD (0, 0, none)).1, 2 * 256 + 8, some (((s.ovh 3).txPend.headD (0, 0,
        none)).2.2.getD 119#8))] ∧ ((s.ovh 3).txPend.headD (0, 0, none)).1 + 2000 ≤ s.clock) :=
  ⟨⟨_, rfl, by decide +kernel⟩,
   ⟨_, rfl, by decide +kernel⟩,
   ⟨_, rfl, by decide +kernel⟩,
   ⟨_, rfl, by decide +kernel⟩,
   ⟨_, rfl, by decide +kernel⟩,
   ⟨_, rfl, by decide +kernel⟩,
   ⟨_, rfl, by decide +kernel⟩⟩

def stateSoundingsReturnTheirResults1 : State :=
  { (line (put up3 [(LINE_STAT_LSTATE, 2, 3, 0), (LINE_STAT_STAGE, 6, 3, 0), (LINE_STAT_FORMAT, 5, 3, 0),
    (LINE_STAT_SIG, 1, 3, 0), (FR_STAT_STATE, 2, 3, 0), (BY_MAP_HS, 8, 0, 1), (BY_MAP_LP, 2, 0, 1), (BY_STAT_STATE, 4, 0, 1)]) 3 fun x => { x with
      adaptAt := 777,
      live := [5, 6, 7, 8, 9, 10],
      autoneg := some (16800, 999) }) with
    ops := [op 3 7 0x12 3 [17, 16]] }

def stateSoundingsReturnTheirResults17 : State :=
  { (line (put up3 [(LINE_STAT_LSTATE, 2, 9, 0), (LINE_STAT_STAGE, 6, 9, 0), (LINE_STAT_FORMAT, 64, 9, 0),
    (LINE_STAT_SIG, 1, 9, 0), (FR_STAT_STATE, 2, 9, 0), (BY_MAP_HS, 8, 0, 1), (BY_MAP_LP, 2, 0, 1), (BY_STAT_STATE, 5, 0, 1)]) 9 fun x => { x with
      adaptAt := 777,
      live := [5, 6, 7, 8, 9, 10],
      autoneg := some (16800, 999) }) with
    ops := [op 3 7 0x12 20481 [2, 4096]] }

/-- The hypotheses of Obligations.SoundingsReturnTheirResults, a state for each clause. -/
theorem witness_SoundingsReturnTheirResults :
    (∃ s : State, s = stateSoundingsReturnTheirResults1 ∧
      s.wf = true ∧ opIn s 3 7 0x12 = true ∧ (opOf s 3 7).par 1 < 2 ^ 32 ∧ (opOf s 3 7).par 0 % 256 = 17 ∧
        (opOf s 3 7).stage ≠ 1 ∧ s.noHead (sndSlice (opOf s 3 7)) = true ∧
        (soundBytes 17 2 0 0 s.tm.device []).length ≤ (opOf s 3 7).par 1) ∧
    (∃ s : State, s = { stateSoundingsReturnTheirResults1 with ops := [op 3 7 0x12 3 [32, 16]] } ∧
      s.wf = true ∧ opIn s 3 7 0x12 = true ∧ (opOf s 3 7).par 1 < 2 ^ 32 ∧ (opOf s 3 7).par 0 % 256 = 32 ∧
        (opOf s 3 7).stage ≠ 1 ∧ s.noHead (sndSlice (opOf s 3 7)) = true ∧
        (soundBytes 32 2 0 0 s.tm.device []).length ≤ (opOf s 3 7).par 1) ∧
    (∃ s : State, s = { stateSoundingsReturnTheirResults1 with ops := [op 3 7 0x12 3 [33, 16]] } ∧
      s.wf = true ∧ opIn s 3 7 0x12 = true ∧ (opOf s 3 7).par 1 < 2 ^ 32 ∧ (opOf s 3 7).par 0 % 256 = 33 ∧
        (opOf s 3 7).stage ≠ 1 ∧ s.noHead (sndSlice (opOf s 3 7)) = true ∧
        (soundBytes 33 2 0 0 s.tm.device []).length ≤ (opOf s 3 7).par 1) ∧
    (∃ s : State, s = { stateSoundingsReturnTheirResults1 with ops := [op 3 7 0x12 3 [64, 16]] } ∧
      s.wf = true ∧ opIn s 3 7 0x12 = true ∧ (opOf s 3 7).par 1 < 2 ^ 32 ∧ (opOf s 3 7).par 0 % 256 = 64 ∧
        (opOf s 3 7).stage ≠ 1 ∧ s.noHead (sndSlice (opOf s 3 7)) = true ∧
        (soundBytes 64 2 0 0 s.tm.device []).length ≤ (opOf s 3 7).par 1) ∧
    (∃ s : State, s = { stateSoundingsReturnTheirResults1 with ops := [op 3 7 0x12 3 [65, 16]] } ∧
      s.wf = true ∧ opIn s 3 7 0x12 = true ∧ (opOf s 3 7).par 1 < 2 ^ 32 ∧ (opOf s 3 7).par 0 % 256 = 65 ∧
        (opOf s 3 7).stage ≠ 1 ∧ s.noHead (sndSlice (opOf s 3 7)) = true ∧
        (soundBytes 65 2 0 0 s.tm.device []).length ≤ (opOf s 3 7).par 1) ∧
    (∃ s : State, s = { stateSoundingsReturnTheirResults1 with ops := [op 3 7 0x12 3 [67, 16]] } ∧
      s.wf = true ∧ opIn s 3 7 0x12 = true ∧ (opOf s 3 7).par 1 < 2 ^ 32 ∧ (opOf s 3 7).par 0 % 256 = 67 ∧
        (opOf s 3 7).stage ≠ 1 ∧ s.noHead (sndSlice (opOf s 3 7)) = true ∧
        (soundBytes 67 2 0 0 s.tm.device []).length ≤ (opOf s 3 7).par 1) ∧
    (∃ s : State, s = { stateSoundingsReturnTheirResults1 with ops := [op 3 7 0x12 3 [16, 16]] } ∧
      s.wf = true ∧ opIn s 3 7 0x12 = true ∧ (opOf s 3 7).par 1 < 2 ^ 32 ∧ (opOf s 3 7).par 0 % 256 = 16 ∧
        (opOf s 3 7).stage ≠ 1 ∧ s.noHead (sndSlice (opOf s 3 7)) = true ∧
        (soundBytes 16 2 0 0 s.tm.device []).length ≤ (opOf s 3 7).par 1) ∧
    (∃ s : State, s = { stateSoundingsReturnTheirResults1 with ops := [op 3 7 0x12 3 [48, 16]] } ∧
      s.wf = true ∧ opIn s 3 7 0x12 = true ∧ (opOf s 3 7).par 1 < 2 ^ 32 ∧ (opOf s 3 7).par 0 % 256 = 48 ∧
        (opOf s 3 7).stage ≠ 1 ∧ s.noHead (sndSlice (opOf s 3 7)) = true ∧
        (soundBytes 48 2 0 0 s.tm.device []).length ≤ (opOf s 3 7).par 1) ∧
    (∃ s : State, s = { stateSoundingsReturnTheirResults1 with ops := [op 3 7 0x12 3 [49, 16]] } ∧
      s.wf = true ∧ opIn s 3 7 0x12 = true ∧ (opOf s 3 7).par 1 < 2 ^ 32 ∧ (opOf s 3 7).par 0 % 256 = 49 ∧
        (opOf s 3 7).stage ≠ 1 ∧ s.noHead (sndSlice (opOf s 3 7)) = true ∧
        (soundBytes 49 2 0 0 s.tm.device []).length ≤ (opOf s 3 7).par 1) ∧
    (∃ s : State, s = { (put stateSoundingsReturnTheirResults1 [(LINE_STAT_LSTATE, 0, 3, 0), (BY_STAT_STATE, 5, 0, 1)]) with
      ops := [op 3 7 0x12 3 [33, 16]] } ∧
      s.wf = true ∧ opIn s 3 7 0x12 = true ∧ (opOf s 3 7).par 1 < 2 ^ 32 ∧ (opOf s 3 7).par 0 % 256 = 33 ∧
        (opOf s 3 7).stage ≠ 1 ∧ s.noHead (sndSlice (opOf s 3 7)) = false ∧
        s.disturbed (sndSlice (opOf s 3 7)) (opOf s 3 7) = false ∧ s.sndLive (sndSlice (opOf s 3 7)) = false ∧
        (soundBytes 33 1 0 0 s.tm.device []).length ≤ (opOf s 3 7).par 1) ∧
    (∃ s : State, s = { (put stateSoundingsReturnTheirResults1 [(LINE_STAT_LSTATE, 0, 3, 0), (BY_STAT_STATE, 5, 0, 1)]) with
      ops := [op 3 7 0x12 3 [48, 16]] } ∧
      s.wf = true ∧ opIn s 3 7 0x12 = true ∧ (opOf s 3 7).par 1 < 2 ^ 32 ∧ (opOf s 3 7).par 0 % 256 = 48 ∧
        (opOf s 3 7).stage ≠ 1 ∧ s.noHead (sndSlice (opOf s 3 7)) = false ∧
        s.disturbed (sndSlice (opOf s 3 7)) (opOf s 3 7) = false ∧ s.sndLive (sndSlice (opOf s 3 7)) = false ∧
        (soundBytes 48 1 0 0 s.tm.device []).length ≤ (opOf s 3 7).par 1) ∧
    (∃ s : State, s = { (put stateSoundingsReturnTheirResults1 [(LINE_STAT_LSTATE, 0, 3, 0), (BY_STAT_STATE, 5, 0, 1)]) with
      ops := [op 3 7 0x12 3 [49, 16]] } ∧
      s.wf = true ∧ opIn s 3 7 0x12 = true ∧ (opOf s 3 7).par 1 < 2 ^ 32 ∧ (opOf s 3 7).par 0 % 256 = 49 ∧
        (opOf s 3 7).stage ≠ 1 ∧ s.noHead (sndSlice (opOf s 3 7)) = false ∧
        s.disturbed (sndSlice (opOf s 3 7)) (opOf s 3 7) = false ∧ s.sndLive (sndSlice (opOf s 3 7)) = false ∧
        (soundBytes 49 1 0 0 s.tm.device []).length ≤ (opOf s 3 7).par 1) ∧
    (∃ s : State, s = { (put stateSoundingsReturnTheirResults1 [(LINE_STAT_LSTATE, 0, 3, 0), (BY_STAT_STATE, 5, 0, 1)]) with
      ops := [op 3 7 0x12 3 [64, 16]] } ∧
      s.wf = true ∧ opIn s 3 7 0x12 = true ∧ (opOf s 3 7).par 1 < 2 ^ 32 ∧ (opOf s 3 7).par 0 % 256 = 64 ∧
        (opOf s 3 7).stage ≠ 1 ∧ s.noHead (sndSlice (opOf s 3 7)) = false ∧
        s.disturbed (sndSlice (opOf s 3 7)) (opOf s 3 7) = false ∧ s.sndLive (sndSlice (opOf s 3 7)) = false ∧
        (soundBytes 64 1 0 0 s.tm.device []).length ≤ (opOf s 3 7).par 1) ∧
    (∃ s : State, s = { (put stateSoundingsReturnTheirResults1 [(LINE_STAT_LSTATE, 0, 3, 0), (BY_STAT_STATE, 5, 0, 1)]) with
      ops := [op 3 7 0x12 3 [65, 16]] } ∧
      s.wf = true ∧ opIn s 3 7 0x12 = true ∧ (opOf s 3 7).par 1 < 2 ^ 32 ∧ (opOf s 3 7).par 0 % 256 = 65 ∧
        (opOf s 3 7).stage ≠ 1 ∧ s.noHead (sndSlice (opOf s 3 7)) = false ∧
        s.disturbed (sndSlice (opOf s 3 7)) (opOf s 3 7) = false ∧ s.sndLive (sndSlice (opOf s 3 7)) = false ∧
        (soundBytes 65 1 0 0 s.tm.device []).length ≤ (opOf s 3 7).par 1) ∧
    (∃ s : State, s = { (put stateSoundingsReturnTheirResults1 [(LINE_STAT_LSTATE, 0, 3, 0), (BY_STAT_STATE, 5, 0, 1)]) with
      ops := [op 3 7 0x12 3 [67, 16]] } ∧
      s.wf = true ∧ opIn s 3 7 0x12 = true ∧ (opOf s 3 7).par 1 < 2 ^ 32 ∧ (opOf s 3 7).par 0 % 256 = 67 ∧
        (opOf s 3 7).stage ≠ 1 ∧ s.noHead (sndSlice (opOf s 3 7)) = false ∧
        s.disturbed (sndSlice (opOf s 3 7)) (opOf s 3 7) = false ∧ s.sndLive (sndSlice (opOf s 3 7)) = false ∧
        (soundBytes 67 1 0 0 s.tm.device []).length ≤ (opOf s 3 7).par 1) ∧
    (∃ s : State, s = { (put stateSoundingsReturnTheirResults1 [(BY_STAT_STATE, 5, 0, 1)]) with
      ops := [op 3 7 0x12 3 [1, 4096]] } ∧
      s.wf = true ∧ opIn s 3 7 0x12 = true ∧ (opOf s 3 7).par 1 < 2 ^ 32 ∧ (opOf s 3 7).par 0 % 256 = 1 ∧
        (soundBytes 1 0 16 0 s.feed.scanAt (List.map (fun (c : ℕ) => leBytes 4 (s.rd KP_ADC_RAW 0 c + s.rd KP_ADC_VALID 0 c * 4096)) (List.range 16)).flatten).length ≤ (opOf s 3 7).par 1) ∧
    (∃ s : State, s = stateSoundingsReturnTheirResults17 ∧
      s.wf = true ∧ opIn s 3 7 0x12 = true ∧ (opOf s 3 7).par 1 < 2 ^ 32 ∧ (opOf s 3 7).par 0 % 256 = 2 ∧
        (soundBytes 2 (if s.bayState (objIndex (opOf s 3 7).obj) = 1 then 2 else 0) 1 0 s.tm.device (leBytes 1 (s.bayState (objIndex (opOf s 3 7).obj)) ++ leBytes 1 (s.rd BY_STAT_COUNT 0 (objIndex (opOf s 3 7).obj)) ++ leBytes 2 (s.rd KP_ADC_RAW 0 (7 + objIndex (opOf s 3 7).obj)) ++ leBytes 2 (s.bay (objIndex (opOf s 3 7).obj)).peak ++ leBytes 2 (s.rd KP_ADC_RAW 0 11))).length ≤ (opOf s 3 7).par 1) ∧
    (∃ s : State, s = { (put stateSoundingsReturnTheirResults1 [(LINE_STAT_LSTATE, 1, 3, 0), (BY_STAT_STATE, 5, 0, 1)]) with
      ops := [op 3 7 0x12 3 [16, 4096]] } ∧
      s.wf = true ∧ opIn s 3 7 0x12 = true ∧ (opOf s 3 7).par 1 < 2 ^ 32 ∧ (opOf s 3 7).par 0 % 256 = 16 ∧
        s.noHead (sndSlice (opOf s 3 7)) = false ∧ s.rd LINE_STAT_LSTATE (sndSlice (opOf s 3 7)) = 1) ∧
    (∃ s : State, s = { (put stateSoundingsReturnTheirResults1 [(LINE_STAT_LSTATE, 0, 3, 0), (BY_STAT_STATE, 5, 0, 1)]) with
      ops := [op 3 7 0x12 3 [16, 16]] } ∧
      s.wf = true ∧ opIn s 3 7 0x12 = true ∧ (opOf s 3 7).par 1 < 2 ^ 32 ∧ (opOf s 3 7).par 0 % 256 = 16 ∧
        s.noHead (sndSlice (opOf s 3 7)) = false ∧ s.rd LINE_STAT_LSTATE (sndSlice (opOf s 3 7)) = 0 ∧
        (soundBytes 16 0 (tdrEntries (if bitsAt ((opOf s 3 7).par 2) 0 10 = 0 then 660 else bitsAt ((opOf s 3 7).par 2) 0 10) []).length (if bitsAt ((opOf s 3 7).par 2) 0 10 = 0 then 660 else bitsAt ((opOf s 3 7).par 2) 0 10) s.tm.device (tdrEntries (if bitsAt ((opOf s 3 7).par 2) 0 10 = 0 then 660 else bitsAt ((opOf s 3 7).par 2) 0 10) []).flatten).length ≤ (opOf s 3 7).par 1) ∧
    (∃ s : State, s = { (put stateSoundingsReturnTheirResults1 [(BY_STAT_STATE, 5, 0, 1)]) with
      ops := [op 3 7 0x12 3 [16, 4096]] } ∧
      s.wf = true ∧ opIn s 3 7 0x12 = true ∧ (opOf s 3 7).par 1 < 2 ^ 32 ∧ (opOf s 3 7).par 0 % 256 = 16 ∧
        s.noHead (sndSlice (opOf s 3 7)) = false ∧ s.rd LINE_STAT_LSTATE (sndSlice (opOf s 3 7)) = 2 ∧
        (s.line ((s.groupLead? (sndSlice (opOf s 3 7))).getD (sndSlice (opOf s 3 7)))).acq = none ∧
        (s.line (sndSlice (opOf s 3 7))).probe = none) ∧
    (∃ s : State, s = (line (put stateSoundingsReturnTheirResults1 [(BY_STAT_STATE, 5, 0, 1)]) 3 fun x => { x with
      adaptAt := 0,
      autoneg := none }) ∧
      s.wf = true ∧ opIn s 3 7 0x12 = true ∧ (opOf s 3 7).par 1 < 2 ^ 32 ∧ (opOf s 3 7).par 0 % 256 = 17 ∧
        s.noHead (sndSlice (opOf s 3 7)) = false ∧ s.disturbed (sndSlice (opOf s 3 7)) (opOf s 3 7) = false ∧
        (s.line (sndSlice (opOf s 3 7))).adaptAt = 0 ∧ (soundBytes 17 7 0 0 s.tm.device []).length ≤ (opOf s 3 7).par 1) ∧
    (∃ s : State, s = { (put stateSoundingsReturnTheirResults1 [(BY_STAT_STATE, 5, 0, 1)]) with
      ops := [op 3 7 0x12 3 [17, 4096]] } ∧
      s.wf = true ∧ opIn s 3 7 0x12 = true ∧ (opOf s 3 7).par 1 < 2 ^ 32 ∧ (opOf s 3 7).par 0 % 256 = 17 ∧
        s.noHead (sndSlice (opOf s 3 7)) = false ∧ s.disturbed (sndSlice (opOf s 3 7)) (opOf s 3 7) = false ∧
        (s.line (sndSlice (opOf s 3 7))).adaptAt ≠ 0 ∧
        (soundBytes 17 0 1 0 (s.line (sndSlice (opOf s 3 7))).adaptAt (leBytes 4 (s.rd LP_RPT_LOSS_EST (sndSlice (opOf s 3 7))))).length ≤ (opOf s 3 7).par 1) ∧
    (∃ s : State, s = { (put stateSoundingsReturnTheirResults1 [(BY_MAP_HS, 0, 0, 1), (BY_MAP_LP, 0, 0, 1),
      (BY_STAT_STATE, 5, 0, 1)]) with
      ops := [op 3 7 0x12 3 [32, 16]] } ∧
      s.wf = true ∧ opIn s 3 7 0x12 = true ∧ (opOf s 3 7).par 1 < 2 ^ 32 ∧ (opOf s 3 7).par 0 % 256 = 32 ∧
        s.bayOf? (sndSlice (opOf s 3 7)) = none ∧ (soundBytes 32 2 0 0 s.tm.device []).length ≤ (opOf s 3 7).par 1) ∧
    (∃ s : State, s = { (put stateSoundingsReturnTheirResults1 [(BY_STAT_STATE, 5, 0, 1)]) with
      ops := [op 3 7 0x12 3 [32, 16]] } ∧
      s.wf = true ∧ opIn s 3 7 0x12 = true ∧ (opOf s 3 7).par 1 < 2 ^ 32 ∧ (opOf s 3 7).par 0 % 256 = 32 ∧
        (s.bayOf? (sndSlice (opOf s 3 7))).isSome = true ∧ s.noHead (sndSlice (opOf s 3 7)) = false ∧
        s.disturbed (sndSlice (opOf s 3 7)) (opOf s 3 7) = false ∧
        (soundBytes 32 3 0 0 s.tm.device []).length ≤ (opOf s 3 7).par 1) ∧
    (∃ s : State, s = { (put stateSoundingsReturnTheirResults1 [(BY_STAT_STATE, 5, 0, 1)]) with
      ops := [op 3 7 0x12 3 [32, 4096]] } ∧
      s.wf = true ∧ opIn s 3 7 0x12 = true ∧ (opOf s 3 7).par 1 < 2 ^ 32 ∧ (opOf s 3 7).par 0 % 256 = 32 ∧
        (s.bayOf? (sndSlice (opOf s 3 7))).isSome = true ∧ s.noHead (sndSlice (opOf s 3 7)) = false ∧
        s.disturbed (sndSlice (opOf s 3 7)) (opOf s 3 7) = false ∧ fmtBonded (s.fmt (sndSlice (opOf s 3 7))) = false ∧
        24 ≤ (opOf s 3 7).par 1) ∧
    (∃ s : State, s = { (put stateSoundingsReturnTheirResults1 [(BY_STAT_STATE, 5, 0, 1)]) with
      ops := [op 3 7 0x12 3 [33, 4096]] } ∧
      s.wf = true ∧ opIn s 3 7 0x12 = true ∧ (opOf s 3 7).par 1 < 2 ^ 32 ∧ (opOf s 3 7).par 0 % 256 = 33 ∧
        s.noHead (sndSlice (opOf s 3 7)) = false ∧ s.disturbed (sndSlice (opOf s 3 7)) (opOf s 3 7) = false ∧
        s.sndLive (sndSlice (opOf s 3 7)) = true ∧ 24 ≤ (opOf s 3 7).par 1) ∧
    (∃ s : State, s = { (line (put stateSoundingsReturnTheirResults1 [(BY_STAT_STATE, 5, 0, 1)]) 3 fun x => { x with
      adaptAt := 0,
      autoneg := none }) with
      ops := [op 3 7 0x12 3 [67, 16]] } ∧
      s.wf = true ∧ opIn s 3 7 0x12 = true ∧ (opOf s 3 7).par 1 < 2 ^ 32 ∧ (opOf s 3 7).par 0 % 256 = 67 ∧
        s.noHead (sndSlice (opOf s 3 7)) = false ∧ s.disturbed (sndSlice (opOf s 3 7)) (opOf s 3 7) = false ∧
        s.sndLive (sndSlice (opOf s 3 7)) = true ∧ (s.line (s.sndLead (sndSlice (opOf s 3 7)))).autoneg = none ∧
        (soundBytes 67 5 0 0 s.tm.device []).length ≤ (opOf s 3 7).par 1) ∧
    (∃ s : State, s = { (put stateSoundingsReturnTheirResults1 [(BY_STAT_STATE, 5, 0, 1)]) with
      ops := [op 3 7 0x12 3 [67, 4096]] } ∧
      s.wf = true ∧ opIn s 3 7 0x12 = true ∧ (opOf s 3 7).par 1 < 2 ^ 32 ∧ (opOf s 3 7).par 0 % 256 = 67 ∧
        s.noHead (sndSlice (opOf s 3 7)) = false ∧ s.disturbed (sndSlice (opOf s 3 7)) (opOf s 3 7) = false ∧
        s.sndLive (sndSlice (opOf s 3 7)) = true ∧
        (s.line (s.sndLead (sndSlice (opOf s 3 7)))).autoneg = some (((s.line (s.sndLead (sndSlice (opOf s 3 7)))).autoneg.getD (0,
        0)).1, ((s.line (s.sndLead (sndSlice (opOf s 3 7)))).autoneg.getD (0, 0)).2) ∧
        (soundBytes 67 0 1 0 ((s.line (s.sndLead (sndSlice (opOf s 3 7)))).autoneg.getD (0,
        0)).2 (leBytes 2 ((s.line (s.sndLead (sndSlice (opOf s 3 7)))).autoneg.getD (0,
        0)).1 ++ leBytes 2 0)).length ≤ (opOf s 3 7).par 1) :=
  ⟨⟨_, rfl, by decide +kernel⟩,
   ⟨_, rfl, by decide +kernel⟩,
   ⟨_, rfl, by decide +kernel⟩,
   ⟨_, rfl, by decide +kernel⟩,
   ⟨_, rfl, by decide +kernel⟩,
   ⟨_, rfl, by decide +kernel⟩,
   ⟨_, rfl, by decide +kernel⟩,
   ⟨_, rfl, by decide +kernel⟩,
   ⟨_, rfl, by decide +kernel⟩,
   ⟨_, rfl, by decide +kernel⟩,
   ⟨_, rfl, by decide +kernel⟩,
   ⟨_, rfl, by decide +kernel⟩,
   ⟨_, rfl, by decide +kernel⟩,
   ⟨_, rfl, by decide +kernel⟩,
   ⟨_, rfl, by decide +kernel⟩,
   ⟨_, rfl, by decide +kernel⟩,
   ⟨_, rfl, by decide +kernel⟩,
   ⟨_, rfl, by decide +kernel⟩,
   ⟨_, rfl, by decide +kernel⟩,
   ⟨_, rfl, by decide +kernel⟩,
   ⟨_, rfl, by decide +kernel⟩,
   ⟨_, rfl, by decide +kernel⟩,
   ⟨_, rfl, by decide +kernel⟩,
   ⟨_, rfl, by decide +kernel⟩,
   ⟨_, rfl, by decide +kernel⟩,
   ⟨_, rfl, by decide +kernel⟩,
   ⟨_, rfl, by decide +kernel⟩,
   ⟨_, rfl, by decide +kernel⟩⟩

def stateTimedSoundingsTracesAndProbes1 : State :=
  { (line (put up3 [(LINE_STAT_LSTATE, 2, 3, 0), (LINE_STAT_STAGE, 6, 3, 0), (LINE_STAT_FORMAT, 5, 3, 0),
    (LINE_STAT_SIG, 1, 3, 0), (FR_STAT_STATE, 2, 3, 0), (BY_MAP_HS, 8, 0, 1), (BY_MAP_LP, 2, 0, 1), (BY_STAT_STATE, 5, 0, 1)]) 3 fun x => { x with
      adaptAt := 777,
      live := [5, 6, 7, 8, 9, 10] }) with
    ops := [op 3 7 0x12 3 [48, 4096, 5]] }

def stateTimedSoundingsTracesAndProbes15 : State :=
  { (line (put up3 [(LINE_STAT_LSTATE, 2, 9, 0), (LINE_STAT_STAGE, 6, 9, 0), (LINE_STAT_FORMAT, 66, 9, 0),
    (LINE_STAT_SIG, 1, 9, 0), (FR_STAT_STATE, 2, 9, 0), (BY_MAP_HS, 8, 0, 1), (BY_MAP_LP, 2, 0, 1), (BY_STAT_STATE, 5, 0, 1)]) 9 fun x => { x with
      adaptAt := 777,
      live := [5, 6, 7, 8, 9, 10] }) with
    ops := [op 3 7 0x12 4097 [65, 4096]] }

/-- The hypotheses of Obligations.TimedSoundingsTracesAndProbes, a state for each clause. -/
theorem witness_TimedSoundingsTracesAndProbes :
    (∃ s : State, s = stateTimedSoundingsTracesAndProbes1 ∧
      s.wf = true ∧ opIn s 3 7 0x12 = true ∧ (opOf s 3 7).par 1 < 2 ^ 32 ∧ (opOf s 3 7).par 0 % 256 = 48 ∧
        (opOf s 3 7).stage ≠ 1 ∧ s.noHead (sndSlice (opOf s 3 7)) = false ∧
        s.disturbed (sndSlice (opOf s 3 7)) (opOf s 3 7) = false ∧ s.sndLive (sndSlice (opOf s 3 7)) = true ∧
        jitterFilter (bitsAt ((opOf s 3 7).par 0) 8 2) (s.fmt (s.sndLead (sndSlice (opOf s 3 7)))) = true) ∧
    (∃ s : State, s = { (put stateTimedSoundingsTracesAndProbes1 [(LINE_STAT_FORMAT, 32, 3, 0)]) with
      ops := [op 3 7 0x12 3 [304, 4096, 5]] } ∧
      s.wf = true ∧ opIn s 3 7 0x12 = true ∧ (opOf s 3 7).par 1 < 2 ^ 32 ∧ (opOf s 3 7).par 0 % 256 = 48 ∧
        (opOf s 3 7).stage ≠ 1 ∧ s.noHead (sndSlice (opOf s 3 7)) = false ∧
        s.disturbed (sndSlice (opOf s 3 7)) (opOf s 3 7) = false ∧ s.sndLive (sndSlice (opOf s 3 7)) = true ∧
        bitsAt ((opOf s 3 7).par 0) 8 2 = 1 ∧ familyOf (s.fmt (s.sndLead (sndSlice (opOf s 3 7)))) = Family.pcs) ∧
    (∃ s : State, s = { stateTimedSoundingsTracesAndProbes1 with
      ops := [{ op 3 7 0x12 3 [48, 4096, 5] with
        data := [0, 0, 0, 0, 5, 0, 0, 0],
        outp := ([215, 17] ++ List.replicate 6 0),
        stage := 1,
        due := some 1000000000 }] } ∧
      s.wf = true ∧ opIn s 3 7 0x12 = true ∧ (opOf s 3 7).par 1 < 2 ^ 32 ∧ (opOf s 3 7).par 0 % 256 = 48 ∧
        (opOf s 3 7).stage = 1 ∧ s.isDue (opOf s 3 7).due = true ∧
        (soundBytes 48 0 1 0 s.tm.device (leBytes 4 7 ++ leBytes 4 7)).length ≤ (opOf s 3 7).par 1) ∧
    (∃ s : State, s = { stateTimedSoundingsTracesAndProbes1 with
      ops := [{ op 3 7 0x12 3 [48, 4096, 5] with
        data := [0, 0, 0, 0, 5, 0, 0, 0],
        outp := ([215, 17] ++ List.replicate 6 0),
        stage := 1,
        due := some 1000000001 }] } ∧
      s.wf = true ∧ opIn s 3 7 0x12 = true ∧ (opOf s 3 7).par 1 < 2 ^ 32 ∧ (opOf s 3 7).par 0 % 256 = 48 ∧
        (opOf s 3 7).stage = 1 ∧ s.isDue (opOf s 3 7).due = false) ∧
    (∃ s : State, s = { stateTimedSoundingsTracesAndProbes1 with ops := [op 3 7 0x12 3 [49, 4096, 1000, 2]] } ∧
      s.wf = true ∧ opIn s 3 7 0x12 = true ∧ (opOf s 3 7).par 1 < 2 ^ 32 ∧ (opOf s 3 7).par 0 % 256 = 49 ∧
        (opOf s 3 7).stage ≠ 1 ∧ s.noHead (sndSlice (opOf s 3 7)) = false ∧
        s.disturbed (sndSlice (opOf s 3 7)) (opOf s 3 7) = false ∧ s.sndLive (sndSlice (opOf s 3 7)) = true ∧
        s.flag GL_REFIN_VALID = false ∧ (soundBytes 49 4 0 0 s.tm.device []).length ≤ (opOf s 3 7).par 1) ∧
    (∃ s : State, s = { (put stateTimedSoundingsTracesAndProbes1 [(GL_REFIN_VALID, 1, 0, 0)]) with
      ops := [op 3 7 0x12 3 [49, 4096, 1000, 2]] } ∧
      s.wf = true ∧ opIn s 3 7 0x12 = true ∧ (opOf s 3 7).par 1 < 2 ^ 32 ∧ (opOf s 3 7).par 0 % 256 = 49 ∧
        (opOf s 3 7).stage ≠ 1 ∧ s.noHead (sndSlice (opOf s 3 7)) = false ∧
        s.disturbed (sndSlice (opOf s 3 7)) (opOf s 3 7) = false ∧ s.sndLive (sndSlice (opOf s 3 7)) = true ∧
        s.flag GL_REFIN_VALID = true) ∧
    (∃ s : State, s = { stateTimedSoundingsTracesAndProbes1 with
      ops := [{ op 3 7 0x12 3 [49, 4096, 1000, 10] with
        data := [0, 0, 0, 0, 5, 0, 0, 0],
        outp := ([215, 17] ++ List.replicate 6 0),
        stage := 1,
        due := some 1000000001 }] } ∧
      s.wf = true ∧ opIn s 3 7 0x12 = true ∧ (opOf s 3 7).par 1 < 2 ^ 32 ∧ (opOf s 3 7).par 0 % 256 = 49 ∧
        (opOf s 3 7).stage = 1 ∧ (opOf s 3 7).due = some ((opOf s 3 7).due.getD 0) ∧ s.clock < (opOf s 3 7).due.getD 0) ∧
    (∃ s : State, s = { stateTimedSoundingsTracesAndProbes1 with
      ops := [{ op 3 7 0x12 3 [49, 4096, 1000, 10] with
        data := [0, 0, 0, 0, 5, 0, 0, 0],
        outp := ([215, 17] ++ List.replicate 6 0),
        stage := 1,
        due := some 1000000000 }] } ∧
      s.wf = true ∧ opIn s 3 7 0x12 = true ∧ (opOf s 3 7).par 1 < 2 ^ 32 ∧ (opOf s 3 7).par 0 % 256 = 49 ∧
        (opOf s 3 7).stage = 1 ∧ (opOf s 3 7).due = some ((opOf s 3 7).due.getD 0) ∧ (opOf s 3 7).due.getD 0 ≤ s.clock ∧
        ((opOf s 3 7).data ++ leBytes 4 (BitVec.ofInt 32 ((0#32).toInt * 125)).toNat).length / 4 < 1000 * (opOf s 3 7).par 3 / (opOf s 3 7).par 2 + 1) ∧
    (∃ s : State, s = { stateTimedSoundingsTracesAndProbes1 with
      ops := [{ op 3 7 0x12 3 [49, 4096, 1000, 2] with
        data := [0, 0, 0, 0, 5, 0, 0, 0],
        outp := ([215, 17] ++ List.replicate 6 0),
        stage := 1,
        due := some 1000000000 }] } ∧
      s.wf = true ∧ opIn s 3 7 0x12 = true ∧ (opOf s 3 7).par 1 < 2 ^ 32 ∧ (opOf s 3 7).par 0 % 256 = 49 ∧
        (opOf s 3 7).stage = 1 ∧ (opOf s 3 7).due = some ((opOf s 3 7).due.getD 0) ∧ (opOf s 3 7).due.getD 0 ≤ s.clock ∧
        1000 * (opOf s 3 7).par 3 / (opOf s 3 7).par 2 + 1 ≤ ((opOf s 3 7).data ++ leBytes 4 (BitVec.ofInt 32 ((0#32).toInt * 125)).toNat).length / 4 ∧
        (soundBytes 49 0 (((opOf s 3 7).data ++ leBytes 4 (BitVec.ofInt 32 ((0#32).toInt * 125)).toNat).length / 4) 0 (leNat (opOf s 3 7).outp) ((opOf s 3 7).data ++ leBytes 4 (BitVec.ofInt 32 ((0#32).toInt * 125)).toNat)).length ≤ (opOf s 3 7).par 1) ∧
    (∃ s : State, s = { stateTimedSoundingsTracesAndProbes1 with ops := [op 3 7 0x12 3 [64, 4096, 2147483653]] } ∧
      s.wf = true ∧ opIn s 3 7 0x12 = true ∧ (opOf s 3 7).par 1 < 2 ^ 32 ∧ (opOf s 3 7).par 0 % 256 = 64 ∧
        s.noHead (sndSlice (opOf s 3 7)) = false ∧ s.disturbed (sndSlice (opOf s 3 7)) (opOf s 3 7) = false ∧
        s.sndLive (sndSlice (opOf s 3 7)) = true ∧ ((opOf s 3 7).par 2).testBit 31 = true ∧
        s.entryOwner (bitsAt ((opOf s 3 7).par 2) 0 13) ≠ 3) ∧
    (∃ s : State, s = { stateTimedSoundingsTracesAndProbes1 with ops := [op 3 7 0x12 3 [64, 4096]] } ∧
      s.wf = true ∧ opIn s 3 7 0x12 = true ∧ (opOf s 3 7).par 1 < 2 ^ 32 ∧ (opOf s 3 7).par 0 % 256 = 64 ∧
        s.noHead (sndSlice (opOf s 3 7)) = false ∧ s.disturbed (sndSlice (opOf s 3 7)) (opOf s 3 7) = false ∧
        s.sndLive (sndSlice (opOf s 3 7)) = true ∧ ((opOf s 3 7).par 2).testBit 31 = false ∧
        familyOf (s.fmt (sndSlice (opOf s 3 7))) = Family.sdh ∧ smGet [] (s.ovh (sndSlice (opOf s 3 7))).latest 1 = [] ∧
        smGet [] (s.ovh (sndSlice (opOf s 3 7))).latest 2 = [] ∧
        (soundBytes 64 5 0 0 s.tm.device []).length ≤ (opOf s 3 7).par 1) ∧
    (∃ s : State, s = { (ovh stateTimedSoundingsTracesAndProbes1 3 fun x => { x with
      acc := [(1, [5]), (2, [6]), (18, [8])],
      latest := [(1, [5]), (2, [6, 7]), (18, [9])],
      trcAt := 123 }) with
      ops := [op 3 7 0x12 3 [64, 4096]] } ∧
      s.wf = true ∧ opIn s 3 7 0x12 = true ∧ (opOf s 3 7).par 1 < 2 ^ 32 ∧ (opOf s 3 7).par 0 % 256 = 64 ∧
        s.noHead (sndSlice (opOf s 3 7)) = false ∧ s.disturbed (sndSlice (opOf s 3 7)) (opOf s 3 7) = false ∧
        s.sndLive (sndSlice (opOf s 3 7)) = true ∧ ((opOf s 3 7).par 2).testBit 31 = false ∧
        familyOf (s.fmt (sndSlice (opOf s 3 7))) = Family.sdh ∧ smGet [] (s.ovh (sndSlice (opOf s 3 7))).latest 1 ≠ [] ∧
        (soundBytes 64 0 2 ((if smGet [] (s.ovh (sndSlice (opOf s 3 7))).acc 1 ≠ smGet [] (s.ovh (sndSlice (opOf s 3 7))).latest 1 then 1 else 0) + if smGet [] (s.ovh (sndSlice (opOf s 3 7))).acc 2 ≠ smGet [] (s.ovh (sndSlice (opOf s 3 7))).latest 2 then 2 else 0) (s.ovh (sndSlice (opOf s 3 7))).trcAt (traceEntry 1 (smGet [] (s.ovh (sndSlice (opOf s 3 7))).acc 1) (smGet [] (s.ovh (sndSlice (opOf s 3 7))).latest 1) ++ traceEntry 2 (smGet [] (s.ovh (sndSlice (opOf s 3 7))).acc 2) (smGet [] (s.ovh (sndSlice (opOf s 3 7))).latest 2))).length ≤ (opOf s 3 7).par 1) ∧
    (∃ s : State, s = { stateTimedSoundingsTracesAndProbes1 with ops := [op 3 7 0x12 3 [65, 4096]] } ∧
      s.wf = true ∧ opIn s 3 7 0x12 = true ∧ (opOf s 3 7).par 1 < 2 ^ 32 ∧ (opOf s 3 7).par 0 % 256 = 65 ∧
        s.noHead (sndSlice (opOf s 3 7)) = false ∧ s.disturbed (sndSlice (opOf s 3 7)) (opOf s 3 7) = false ∧
        s.sndLive (sndSlice (opOf s 3 7)) = true ∧ familyOf (s.fmt (sndSlice (opOf s 3 7))) = Family.sdh ∧
        (opOf s 3 7).par 2 = 0 ∧ smGet [] (s.ovh (sndSlice (opOf s 3 7))).latest 18 = [] ∧
        (soundBytes 65 5 0 0 s.tm.device []).length ≤ (opOf s 3 7).par 1) ∧
    (∃ s : State, s = { (ovh stateTimedSoundingsTracesAndProbes1 3 fun x => { x with
      acc := [(1, [5]), (2, [6]), (18, [8])],
      latest := [(1, [5]), (2, [6, 7]), (18, [9])],
      trcAt := 123 }) with
      ops := [op 3 7 0x12 3 [65, 4096]] } ∧
      s.wf = true ∧ opIn s 3 7 0x12 = true ∧ (opOf s 3 7).par 1 < 2 ^ 32 ∧ (opOf s 3 7).par 0 % 256 = 65 ∧
        s.noHead (sndSlice (opOf s 3 7)) = false ∧ s.disturbed (sndSlice (opOf s 3 7)) (opOf s 3 7) = false ∧
        s.sndLive (sndSlice (opOf s 3 7)) = true ∧ familyOf (s.fmt (sndSlice (opOf s 3 7))) = Family.sdh ∧
        (opOf s 3 7).par 2 = 0 ∧
        smGet [] (s.ovh (sndSlice (opOf s 3 7))).latest 18 = (smGet [] (s.ovh (sndSlice (opOf s 3 7))).latest 18).headD 9#8 :: (smGet [] (s.ovh (sndSlice (opOf s 3 7))).latest 18).tail ∧
        (soundBytes 65 0 1 0 s.tm.device [1, (smGet [] (s.ovh (sndSlice (opOf s 3 7))).acc 18).headD 0,
        (smGet [] (s.ovh (sndSlice (opOf s 3 7))).latest 18).headD 9#8, 0]).length ≤ (opOf s 3 7).par 1) ∧
    (∃ s : State, s = stateTimedSoundingsTracesAndProbes15 ∧
      s.wf = true ∧ opIn s 3 7 0x12 = true ∧ (opOf s 3 7).par 1 < 2 ^ 32 ∧ (opOf s 3 7).par 0 % 256 = 65 ∧
        s.noHead (sndSlice (opOf s 3 7)) = false ∧ s.disturbed (sndSlice (opOf s 3 7)) (opOf s 3 7) = false ∧
        s.sndLive (sndSlice (opOf s 3 7)) = true ∧ s.fmt (sndSlice (opOf s 3 7)) = 66) ∧
    (∃ s : State, s = { (put stateTimedSoundingsTracesAndProbes1 [(LINE_STAT_LSTATE, 0, 3, 0)]) with
      ops := [op 3 7 0x12 3 [66, 4096, 1]] } ∧
      s.wf = true ∧ opIn s 3 7 0x12 = true ∧ (opOf s 3 7).par 1 < 2 ^ 32 ∧ (opOf s 3 7).par 0 % 256 = 66 ∧
        (opOf s 3 7).stage ≠ 1 ∧ s.rd LINE_STAT_LSTATE (sndSlice (opOf s 3 7)) ≠ 2 ∧
        (soundBytes 66 1 0 0 s.tm.device []).length ≤ (opOf s 3 7).par 1) ∧
    (∃ s : State, s = { stateTimedSoundingsTracesAndProbes1 with ops := [op 3 7 0x12 3 [66, 4096, 1]] } ∧
      s.wf = true ∧ opIn s 3 7 0x12 = true ∧ (opOf s 3 7).par 1 < 2 ^ 32 ∧ (opOf s 3 7).par 0 % 256 = 66 ∧
        (opOf s 3 7).stage ≠ 1 ∧ s.rd LINE_STAT_LSTATE (sndSlice (opOf s 3 7)) = 2 ∧ s.noHead (sndSlice (opOf s 3 7)) = false ∧
        s.flag LINE_STAT_SIG (sndSlice (opOf s 3 7)) = true ∧
        loopFits ((opOf s 3 7).par 2 % 16) (s.fmt (sndSlice (opOf s 3 7))) = false) ∧
    (∃ s : State, s = { (put stateTimedSoundingsTracesAndProbes15 [(LINE_STAT_FORMAT, 64, 9, 0)]) with
      ops := [op 3 7 0x12 4097 [66, 4096, 1]] } ∧
      s.wf = true ∧ opIn s 3 7 0x12 = true ∧ (opOf s 3 7).par 1 < 2 ^ 32 ∧ (opOf s 3 7).par 0 % 256 = 66 ∧
        (opOf s 3 7).stage ≠ 1 ∧ s.rd LINE_STAT_LSTATE (sndSlice (opOf s 3 7)) = 2 ∧ s.noHead (sndSlice (opOf s 3 7)) = false ∧
        s.flag LINE_STAT_SIG (sndSlice (opOf s 3 7)) = true ∧
        loopFits ((opOf s 3 7).par 2 % 16) (s.fmt (sndSlice (opOf s 3 7))) = true ∧
        s.loopPending (sndSlice (opOf s 3 7)) = false) ∧
    (∃ s : State, s = { (put stateTimedSoundingsTracesAndProbes15 [(LINE_STAT_FORMAT, 64, 9, 0), (LP_LOOP_PENDING, 1, 9, 0),
      (LP_LOOP_KIND, 1, 9, 0)]) with
      ops := [op 3 7 0x12 4097 [66, 4096, 1]] } ∧
      s.wf = true ∧ opIn s 3 7 0x12 = true ∧ (opOf s 3 7).par 1 < 2 ^ 32 ∧ (opOf s 3 7).par 0 % 256 = 66 ∧
        (opOf s 3 7).stage ≠ 1 ∧ s.rd LINE_STAT_LSTATE (sndSlice (opOf s 3 7)) = 2 ∧ s.noHead (sndSlice (opOf s 3 7)) = false ∧
        s.flag LINE_STAT_SIG (sndSlice (opOf s 3 7)) = true ∧
        loopFits ((opOf s 3 7).par 2 % 16) (s.fmt (sndSlice (opOf s 3 7))) = true ∧
        s.loopPending (sndSlice (opOf s 3 7)) = true ∧
        loopFits (s.rd LP_LOOP_KIND (sndSlice (opOf s 3 7))) (s.fmt (sndSlice (opOf s 3 7))) = true) :=
  ⟨⟨_, rfl, by decide +kernel⟩,
   ⟨_, rfl, by decide +kernel⟩,
   ⟨_, rfl, by decide +kernel⟩,
   ⟨_, rfl, by decide +kernel⟩,
   ⟨_, rfl, by decide +kernel⟩,
   ⟨_, rfl, by decide +kernel⟩,
   ⟨_, rfl, by decide +kernel⟩,
   ⟨_, rfl, by decide +kernel⟩,
   ⟨_, rfl, by decide +kernel⟩,
   ⟨_, rfl, by decide +kernel⟩,
   ⟨_, rfl, by decide +kernel⟩,
   ⟨_, rfl, by decide +kernel⟩,
   ⟨_, rfl, by decide +kernel⟩,
   ⟨_, rfl, by decide +kernel⟩,
   ⟨_, rfl, by decide +kernel⟩,
   ⟨_, rfl, by decide +kernel⟩,
   ⟨_, rfl, by decide +kernel⟩,
   ⟨_, rfl, by decide +kernel⟩,
   ⟨_, rfl, by decide +kernel⟩⟩

def stateProgramsAreLoadedBoundAndMessaged1 : State :=
  { (helm up3 5 fun x => { x with
    ps := PState.running,
    image := some { image0 with
      codeWords := 4,
      handlers := ([{ kind := 0, mask := 0, entry := 0, wcet := 100 }] ++ List.replicate 15 { kind := 255, mask := 0, entry := 0, wcet := 0 }),
      ports := (List.replicate 8 { cls := 255, sel := 0, dir := 0 }),
      timing := 255 } }) with
    ops := [{ op 3 7 0x8 8197 [244] with
      data := ([77, 83, 76, 49, 1, 1, 1, 255, 200, 0, 4] ++ List.replicate 57 0 ++ [100, 0, 0, 0, 255] ++ List.replicate 7 0 ++ [255] ++ List.replicate 7 0 ++ [255] ++ List.replicate 7 0 ++ [255] ++ List.replicate 7 0 ++ [255] ++ List.replicate 7 0 ++ [255] ++ List.replicate 7 0 ++ [255] ++ List.replicate 7 0 ++ [255] ++ List.replicate 7 0 ++ [255] ++ List.replicate 7 0 ++ [255] ++ List.replicate 7 0 ++ [255] ++ List.replicate 7 0 ++ [255] ++ List.replicate 7 0 ++ [255] ++ List.replicate 7 0 ++ [255] ++ List.replicate 7 0 ++ [255] ++ List.replicate 7 0 ++ [
        255, 0, 0, 0, 255, 0, 0, 0, 255, 0, 0, 0, 255, 0, 0, 0, 255, 0, 0, 0, 255, 0, 0, 0, 255, 0, 0, 0, 255] ++ List.replicate 7 0 ++ [
          67, 66, 15, 0, 134, 132, 30, 0, 201, 198, 45, 0, 47, 44, 79, 166]) }],
    own := { up3.own with objs := [(3, 3), (8197, 3)] } }

def stateProgramsAreLoadedBoundAndMessaged3 : State :=
  { stateProgramsAreLoadedBoundAndMessaged1 with
    ops := [{ op 3 7 0x8 8197 [244] with
      data := ([77, 83, 76, 49, 1, 1, 1, 255, 200, 0, 4] ++ List.replicate 57 0 ++ [100, 0, 5, 0, 255] ++ List.replicate 7 0 ++ [255] ++ List.replicate 7 0 ++ [255] ++ List.replicate 7 0 ++ [255] ++ List.replicate 7 0 ++ [255] ++ List.replicate 7 0 ++ [255] ++ List.replicate 7 0 ++ [255] ++ List.replicate 7 0 ++ [255] ++ List.replicate 7 0 ++ [255] ++ List.replicate 7 0 ++ [255] ++ List.replicate 7 0 ++ [255] ++ List.replicate 7 0 ++ [255] ++ List.replicate 7 0 ++ [255] ++ List.replicate 7 0 ++ [255] ++ List.replicate 7 0 ++ [255] ++ List.replicate 7 0 ++ [
        255, 0, 0, 0, 255, 0, 0, 0, 255, 0, 0, 0, 255, 0, 0, 0, 255, 0, 0, 0, 255, 0, 0, 0, 255, 0, 0, 0, 255] ++ List.replicate 7 0 ++ [
          67, 66, 15, 0, 134, 132, 30, 0, 201, 198, 45, 0, 47, 44, 79, 166]) }],
    helms := [] }

def stateProgramsAreLoadedBoundAndMessaged9 : State :=
  { (helm (put stateProgramsAreLoadedBoundAndMessaged1 [(LINE_STAT_LSTATE, 2, 3, 0), (LINE_STAT_STAGE, 6, 3, 0),
    (LINE_STAT_FORMAT, 5, 3, 0), (FR_STAT_STATE, 2, 3, 0)]) 5 fun x => { x with
      ps := PState.loaded,
      image := some { image0 with
        codeWords := 3,
        handlers := ([{ kind := 0, mask := 0, entry := 0, wcet := 80000 }, { kind := 2, mask := 1, entry := 2, wcet := 80000 }] ++ List.replicate 14 { kind := 255, mask := 0, entry := 0, wcet := 0 }),
        ports := (List.replicate 8 { cls := 255, sel := 0, dir := 0 }),
        timing := 255,
        floor := 600 } }) with
    ops := [op 3 7 0x9 8197 [4294967295, 50331651]] }

def stateProgramsAreLoadedBoundAndMessaged15 : State :=
  { (helm stateProgramsAreLoadedBoundAndMessaged1 5 fun x => { x with
    image := some { image0 with
      codeWords := 4,
      handlers := ([{ kind := 0, mask := 0, entry := 0, wcet := 100 }, { kind := 7, mask := 0, entry := 1, wcet := 50 }] ++ List.replicate 14 { kind := 255, mask := 0, entry := 0, wcet := 0 }),
      ports := (List.replicate 8 { cls := 255, sel := 0, dir := 0 }),
      timing := 255 },
    queue := (List.replicate 31 { kind := 7, port := 0, cause := 0, set := false, ovf := false, stamp := 0, payload := [] }) }) with
    ops := [op 3 7 0xb 8197 [1, 2, 3, 4, 5, 6, 7, 4294967295]] }

def stateProgramsAreLoadedBoundAndMessaged16 : State :=
  helm stateProgramsAreLoadedBoundAndMessaged15 5 fun x => { x with
    image := some { image0 with
      codeWords := 4,
      handlers := ([{ kind := 0, mask := 0, entry := 0, wcet := 100 }] ++ List.replicate 15 { kind := 255, mask := 0, entry := 0, wcet := 0 }),
      ports := (List.replicate 8 { cls := 255, sel := 0, dir := 0 }),
      timing := 255 } }

/-- The hypotheses of Obligations.ProgramsAreLoadedBoundAndMessaged, a state for each clause. -/
theorem witness_ProgramsAreLoadedBoundAndMessaged :
    (∃ s : State, s = stateProgramsAreLoadedBoundAndMessaged1 ∧
      s.wf = true ∧ opIn s 3 7 0x8 = true ∧ (s.helm (objIndex (opOf s 3 7).obj)).ps.bound = true) ∧
    (∃ s : State, s = { (put stateProgramsAreLoadedBoundAndMessaged1 [(HL_FAIL_HELM, 32, 0, 0)]) with helms := [] } ∧
      s.wf = true ∧ opIn s 3 7 0x8 = true ∧ (s.helm (objIndex (opOf s 3 7).obj)).ps.bound = false ∧
        s.maskBit HL_FAIL_HELM (objIndex (opOf s 3 7).obj) = true) ∧
    (∃ s : State, s = stateProgramsAreLoadedBoundAndMessaged3 ∧
      s.wf = true ∧ opIn s 3 7 0x8 = true ∧ (s.helm (objIndex (opOf s 3 7).obj)).ps.bound = false ∧
        s.maskBit HL_FAIL_HELM (objIndex (opOf s 3 7).obj) = false ∧ imageOk (opOf s 3 7).data ((opOf s 3 7).par 0) = false) ∧
    (∃ s : State, s = { stateProgramsAreLoadedBoundAndMessaged1 with helms := [] } ∧
      s.wf = true ∧ opIn s 3 7 0x8 = true ∧ (s.helm (objIndex (opOf s 3 7).obj)).ps.bound = false ∧
        s.maskBit HL_FAIL_HELM (objIndex (opOf s 3 7).obj) = false ∧ imageOk (opOf s 3 7).data ((opOf s 3 7).par 0) = true) ∧
    (∃ s : State, s = { stateProgramsAreLoadedBoundAndMessaged1 with ops := [op 3 7 0x9 8197 [4294967295]] } ∧
      s.wf = true ∧ opIn s 3 7 0x9 = true ∧ (s.helm (objIndex (opOf s 3 7).obj)).ps.bound = true ∧
        (s.helm (objIndex (opOf s 3 7).obj)).bindTag ≠ some 7) ∧
    (∃ s : State, s = { stateProgramsAreLoadedBoundAndMessaged3 with ops := [op 3 7 0x9 8197 [4294967295]] } ∧
      s.wf = true ∧ opIn s 3 7 0x9 = true ∧ (s.helm (objIndex (opOf s 3 7).obj)).ps.bound = false ∧
        s.maskBit HL_FAIL_HELM (objIndex (opOf s 3 7).obj) = false ∧ stockListed ((opOf s 3 7).par 0) = false ∧
        ((opOf s 3 7).par 0 ≠ 4294967295 ∨ (s.helm (objIndex (opOf s 3 7).obj)).ps ≠ PState.loaded)) ∧
    (∃ s : State, s = { (helm stateProgramsAreLoadedBoundAndMessaged1 5 fun x => { x with ps := PState.loaded }) with
      ops := [op 3 7 0x9 8197 [4294967295, 16809987]] } ∧
      s.wf = true ∧ opIn s 3 7 0x9 = true ∧ (s.helm (objIndex (opOf s 3 7).obj)).ps = PState.loaded ∧
        s.maskBit HL_FAIL_HELM (objIndex (opOf s 3 7).obj) = false ∧ (opOf s 3 7).par 0 = 4294967295 ∧
        (s.helm (objIndex (opOf s 3 7).obj)).image = some ((s.helm (objIndex (opOf s 3 7).obj)).image.getD image0) ∧
        (s.bindPorts 3 ((s.helm (objIndex (opOf s 3 7).obj)).image.getD image0) (List.map (fun (k : ℕ) => (opOf s 3 7).par (k + 1)) (List.range 8))).1 ≠ 0) ∧
    (∃ s : State, s = { (helm (put stateProgramsAreLoadedBoundAndMessaged1 [(SES_CTL_MAPC_SHARE, 0, 3, 0)]) 5 fun x => { x with
      ps := PState.loaded }) with
      ops := [op 3 7 0x9 8197 [4294967295]] } ∧
      s.wf = true ∧ opIn s 3 7 0x9 = true ∧ (s.helm (objIndex (opOf s 3 7).obj)).ps = PState.loaded ∧
        s.maskBit HL_FAIL_HELM (objIndex (opOf s 3 7).obj) = false ∧ (opOf s 3 7).par 0 = 4294967295 ∧
        (s.helm (objIndex (opOf s 3 7).obj)).image = some ((s.helm (objIndex (opOf s 3 7).obj)).image.getD image0) ∧
        (s.bindPorts 3 ((s.helm (objIndex (opOf s 3 7).obj)).image.getD image0) (List.map (fun (k : ℕ) => (opOf s 3 7).par (k + 1)) (List.range 8))).1 = 0 ∧
        s.rd SES_CTL_MAPC_SHARE 3 < (s.pinsFor 3 ((s.helm (objIndex (opOf s 3 7).obj)).image.getD image0)).length + 1) ∧
    (∃ s : State, s = stateProgramsAreLoadedBoundAndMessaged9 ∧
      s.wf = true ∧ opIn s 3 7 0x9 = true ∧ (s.helm (objIndex (opOf s 3 7).obj)).ps = PState.loaded ∧
        s.maskBit HL_FAIL_HELM (objIndex (opOf s 3 7).obj) = false ∧ (opOf s 3 7).par 0 = 4294967295 ∧
        (s.helm (objIndex (opOf s 3 7).obj)).image = some ((s.helm (objIndex (opOf s 3 7).obj)).image.getD image0) ∧
        (s.bindPorts 3 ((s.helm (objIndex (opOf s 3 7).obj)).image.getD image0) (List.map (fun (k : ℕ) => (opOf s 3 7).par (k + 1)) (List.range 8))).1 = 0 ∧
        (s.pinsFor 3 ((s.helm (objIndex (opOf s 3 7).obj)).image.getD image0)).length + 1 ≤ s.rd SES_CTL_MAPC_SHARE 3 ∧
        9 * ((s.helm (objIndex (opOf s 3 7).obj)).image.getD image0).floor * 1000000 < 10 * loadOf ((s.helm (objIndex (opOf s 3 7).obj)).image.getD image0) (s.mkPorts (List.map (fun (k : ℕ) => (opOf s 3 7).par (k + 1)) (List.range 8)))) ∧
    (∃ s : State, s = { (helm stateProgramsAreLoadedBoundAndMessaged1 5 fun x => { x with ps := PState.loaded }) with
      ops := [op 3 7 0x9 8197 [4294967295]] } ∧
      s.wf = true ∧ opIn s 3 7 0x9 = true ∧ (s.helm (objIndex (opOf s 3 7).obj)).ps = PState.loaded ∧
        s.maskBit HL_FAIL_HELM (objIndex (opOf s 3 7).obj) = false ∧ (opOf s 3 7).par 0 = 4294967295 ∧
        (s.helm (objIndex (opOf s 3 7).obj)).image = some ((s.helm (objIndex (opOf s 3 7).obj)).image.getD image0) ∧
        (s.bindPorts 3 ((s.helm (objIndex (opOf s 3 7).obj)).image.getD image0) (List.map (fun (k : ℕ) => (opOf s 3 7).par (k + 1)) (List.range 8))).1 = 0 ∧
        (s.pinsFor 3 ((s.helm (objIndex (opOf s 3 7).obj)).image.getD image0)).length + 1 ≤ s.rd SES_CTL_MAPC_SHARE 3 ∧
        10 * loadOf ((s.helm (objIndex (opOf s 3 7).obj)).image.getD image0) (s.mkPorts (List.map (fun (k : ℕ) => (opOf s 3 7).par (k + 1)) (List.range 8))) ≤ 9 * ((s.helm (objIndex (opOf s 3 7).obj)).image.getD image0).floor * 1000000 ∧
        s.flag GL_FLOOR_THROTTLE = false) ∧
    (∃ s : State, s = { stateProgramsAreLoadedBoundAndMessaged3 with ops := [op 3 7 0xa 8197 []] } ∧
      s.wf = true ∧ opIn s 3 7 0xA = true ∧ (s.helm (objIndex (opOf s 3 7).obj)).unbindTags.contains 7 = false ∧
        (s.helm (objIndex (opOf s 3 7).obj)).ps.bound = false) ∧
    (∃ s : State, s = { stateProgramsAreLoadedBoundAndMessaged1 with ops := [op 3 7 0xa 8197 []] } ∧
      s.wf = true ∧ opIn s 3 7 0xA = true ∧ (s.helm (objIndex (opOf s 3 7).obj)).unbindTags.contains 7 = false ∧
        (s.helm (objIndex (opOf s 3 7).obj)).ps = PState.running) ∧
    (∃ s : State, s = { (helm stateProgramsAreLoadedBoundAndMessaged1 5 fun x => { x with
      ps := PState.starting,
      bindTag := some 7 }) with
      ops := [op 3 7 0xa 8197 []] } ∧
      s.wf = true ∧ opIn s 3 7 0xA = true ∧ (s.helm (objIndex (opOf s 3 7).obj)).unbindTags.contains 7 = false ∧
        (s.helm (objIndex (opOf s 3 7).obj)).ps = PState.starting) ∧
    (∃ s : State, s = { stateProgramsAreLoadedBoundAndMessaged3 with
      ops := [op 3 7 0xb 8197 [1, 2, 3, 4, 5, 6, 7, 4294967295]] } ∧
      s.wf = true ∧ opIn s 3 7 0xB = true ∧ ((s.helm (objIndex (opOf s 3 7).obj)).ps ≠ PState.running ∨
        32 ≤ (s.helm (objIndex (opOf s 3 7).obj)).queue.length)) ∧
    (∃ s : State, s = stateProgramsAreLoadedBoundAndMessaged15 ∧
      s.wf = true ∧ opIn s 3 7 0xB = true ∧ (s.helm (objIndex (opOf s 3 7).obj)).ps = PState.running ∧
        (s.helm (objIndex (opOf s 3 7).obj)).queue.length < 32 ∧ (s.helm (objIndex (opOf s 3 7).obj)).stopReq = false ∧
        ((s.helm (objIndex (opOf s 3 7).obj)).handlerFor 7 0).isSome = true) ∧
    (∃ s : State, s = stateProgramsAreLoadedBoundAndMessaged16 ∧
      s.wf = true ∧ opIn s 3 7 0xB = true ∧ (s.helm (objIndex (opOf s 3 7).obj)).ps = PState.running ∧
        (s.helm (objIndex (opOf s 3 7).obj)).queue.length < 32 ∧ (s.helm (objIndex (opOf s 3 7).obj)).handlerFor 7 0 = none) :=
  ⟨⟨_, rfl, by decide +kernel⟩,
   ⟨_, rfl, by decide +kernel⟩,
   ⟨_, rfl, by decide +kernel⟩,
   ⟨_, rfl, by decide +kernel⟩,
   ⟨_, rfl, by decide +kernel⟩,
   ⟨_, rfl, by decide +kernel⟩,
   ⟨_, rfl, by decide +kernel⟩,
   ⟨_, rfl, by decide +kernel⟩,
   ⟨_, rfl, by decide +kernel⟩,
   ⟨_, rfl, by decide +kernel⟩,
   ⟨_, rfl, by decide +kernel⟩,
   ⟨_, rfl, by decide +kernel⟩,
   ⟨_, rfl, by decide +kernel⟩,
   ⟨_, rfl, by decide +kernel⟩,
   ⟨_, rfl, by decide +kernel⟩,
   ⟨_, rfl, by decide +kernel⟩⟩

def stateTheChartIsWrittenSwappedAndApplied1 : State :=
  { up3 with
    ops := [{ op 3 7 0x18 12288 [8, 1, 1] with data := ([1, 0, 3, 0, 4, 0, 1, 0, 2] ++ List.replicate 7 0) }],
    own := { up3.own with
      objs := [(3, 3), (4, 3), (16385, 3)],
      ranges := [{ range0 with first := 16, count := 8, sess := 3 },
        { range0 with id := 1, first := 100, count := 64, sess := 4 }] } }

def stateTheChartIsWrittenSwappedAndApplied11 : State :=
  { (put stateTheChartIsWrittenSwappedAndApplied1 [(CH_SEL_PENDING, 1, 0, 3)]) with
    tm := { stateTheChartIsWrittenSwappedAndApplied1.tm with device := 1000000125 },
    ops := [{ op 3 7 0x18 12288 [0, 1] with data := ([1, 0, 3, 0, 4, 0, 1, 0, 2] ++ List.replicate 7 0) }] }

def stateTheChartIsWrittenSwappedAndApplied13 : State :=
  { (ent stateTheChartIsWrittenSwappedAndApplied1 20 fun x => { x with
    tgt := 36893769639575879687,
    use0 := 36893769639576010753,
    use1 := 351848016052256,
    mf := true }) with
    ops := [{ op 3 7 0x18 12288 [0, 1] with data := ([1, 0, 3, 0, 4, 0, 1, 0, 2] ++ List.replicate 7 0) }] }

/-- The hypotheses of Obligations.TheChartIsWrittenSwappedAndApplied, a state for each clause. -/
theorem witness_TheChartIsWrittenSwappedAndApplied :
    (∃ s : State, s = stateTheChartIsWrittenSwappedAndApplied1 ∧
      s.wf = true ∧ opIn s 3 7 0x18 = true ∧ s.rangeOf? (opOf s 3 7).obj = some ((s.rangeOf? (opOf s 3 7).obj).getD range0) ∧
        (opOf s 3 7).par 0 < 8192 ∧ (opOf s 3 7).par 2 < 2 ∧
        ((s.rangeOf? (opOf s 3 7).obj).getD range0).count < (opOf s 3 7).par 0 + 1 ∧ (opOf s 3 7).par 1 = 1) ∧
    (∃ s : State, s = { stateTheChartIsWrittenSwappedAndApplied1 with
      ops := [{ op 3 7 0x18 12288 [7, 1, 1] with data := ([1, 2, 3, 0, 4, 0, 1, 0, 2] ++ List.replicate 7 0) }] } ∧
      s.wf = true ∧ opIn s 3 7 0x18 = true ∧ s.rangeOf? (opOf s 3 7).obj = some ((s.rangeOf? (opOf s 3 7).obj).getD range0) ∧
        (opOf s 3 7).par 0 < 8192 ∧ (opOf s 3 7).par 2 < 2 ∧
        (opOf s 3 7).par 0 + 1 ≤ ((s.rangeOf? (opOf s 3 7).obj).getD range0).count ∧ (opOf s 3 7).par 1 = 1 ∧
        wordOk (leAt (opOf s 3 7).data 0 16) = false) ∧
    (∃ s : State, s = { stateTheChartIsWrittenSwappedAndApplied1 with
      ops := [{ op 3 7 0x18 12288 [7, 1, 1] with data := ([1, 0, 5, 0, 4, 0, 1, 0, 2] ++ List.replicate 7 0) }] } ∧
      s.wf = true ∧ opIn s 3 7 0x18 = true ∧ s.rangeOf? (opOf s 3 7).obj = some ((s.rangeOf? (opOf s 3 7).obj).getD range0) ∧
        (opOf s 3 7).par 0 < 8192 ∧ (opOf s 3 7).par 2 < 2 ∧
        (opOf s 3 7).par 0 + 1 ≤ ((s.rangeOf? (opOf s 3 7).obj).getD range0).count ∧ (opOf s 3 7).par 1 = 1 ∧
        wordOk (leAt (opOf s 3 7).data 0 16) = true ∧ wordMap (leAt (opOf s 3 7).data 0 16) ≠ 0 ∧
        wordSrc (leAt (opOf s 3 7).data 0 16) ≠ 65535 ∧ s.objOwner (wordSrc (leAt (opOf s 3 7).data 0 16)) ≠ 3) ∧
    (∃ s : State, s = { stateTheChartIsWrittenSwappedAndApplied1 with
      ops := [{ op 3 7 0x18 12288 [7, 1, 1] with data := ([1, 0, 3, 0, 4, 0, 1, 0, 2] ++ List.replicate 7 0) }] } ∧
      s.wf = true ∧ opIn s 3 7 0x18 = true ∧ s.rangeOf? (opOf s 3 7).obj = some ((s.rangeOf? (opOf s 3 7).obj).getD range0) ∧
        (opOf s 3 7).par 0 < 8192 ∧ (opOf s 3 7).par 2 < 2 ∧
        (opOf s 3 7).par 0 + 1 ≤ ((s.rangeOf? (opOf s 3 7).obj).getD range0).count ∧ (opOf s 3 7).par 1 = 1 ∧
        s.chartCheck 3 ((opOf s 3 7).par 2) ((s.rangeOf? (opOf s 3 7).obj).getD range0) ((opOf s 3 7).par 0) [leAt (opOf s 3 7).data 0 16] = none ∧
        (s.ent 20).pend0 = false ∧ (s.ent 20).pend1 = false ∧ s.isDue (s.ent 20).due = false) ∧
    (∃ s : State, s = { (put stateTheChartIsWrittenSwappedAndApplied1 [(CH_ERR_SPARES_USED, 63, 0, 0)]) with
      ops := [{ op 3 7 0x18 12288 [7, 1, 1] with data := ([1, 0, 3, 0, 4, 0, 1, 0, 2] ++ List.replicate 7 0) }] } ∧
      s.wf = true ∧ opIn s 3 7 0x18 = true ∧ s.rangeOf? (opOf s 3 7).obj = some ((s.rangeOf? (opOf s 3 7).obj).getD range0) ∧
        (opOf s 3 7).par 0 < 8192 ∧ (opOf s 3 7).par 2 < 2 ∧
        (opOf s 3 7).par 0 + 1 ≤ ((s.rangeOf? (opOf s 3 7).obj).getD range0).count ∧ (opOf s 3 7).par 1 = 1 ∧
        s.chartCheck 3 ((opOf s 3 7).par 2) ((s.rangeOf? (opOf s 3 7).obj).getD range0) ((opOf s 3 7).par 0) [leAt (opOf s 3 7).data 0 16] = none ∧
        s.rd CH_ERR_SPARES_USED < 64) ∧
    (∃ s : State, s = { (put stateTheChartIsWrittenSwappedAndApplied1 [(CH_ERR_SPARES_USED, 64, 0, 0)]) with
      ops := [{ op 3 7 0x18 12288 [7, 1, 1] with data := ([1, 0, 3, 0, 4, 0, 1, 0, 2] ++ List.replicate 7 0) }] } ∧
      s.wf = true ∧ opIn s 3 7 0x18 = true ∧ s.rangeOf? (opOf s 3 7).obj = some ((s.rangeOf? (opOf s 3 7).obj).getD range0) ∧
        (opOf s 3 7).par 0 < 8192 ∧ (opOf s 3 7).par 2 < 2 ∧
        (opOf s 3 7).par 0 + 1 ≤ ((s.rangeOf? (opOf s 3 7).obj).getD range0).count ∧ (opOf s 3 7).par 1 = 1 ∧
        s.chartCheck 3 ((opOf s 3 7).par 2) ((s.rangeOf? (opOf s 3 7).obj).getD range0) ((opOf s 3 7).par 0) [leAt (opOf s 3 7).data 0 16] = none ∧
        64 ≤ s.rd CH_ERR_SPARES_USED) ∧
    (∃ s : State, s = { stateTheChartIsWrittenSwappedAndApplied1 with ops := [op 3 7 0x18 12288 [0, 1, 3]] } ∧
      s.wf = true ∧ opIn s 3 7 0x18 = true ∧ s.rangeOf? (opOf s 3 7).obj = some ((s.rangeOf? (opOf s 3 7).obj).getD range0) ∧
        (opOf s 3 7).par 0 < 8192 ∧ (opOf s 3 7).par 2 = 3) ∧
    (∃ s : State, s = { stateTheChartIsWrittenSwappedAndApplied1 with
      ops := [{ op 3 7 0x18 12288 [7, 1, 2] with data := [10] ++ List.replicate 31 0 }] } ∧
      s.wf = true ∧ opIn s 3 7 0x18 = true ∧ s.rangeOf? (opOf s 3 7).obj = some ((s.rangeOf? (opOf s 3 7).obj).getD range0) ∧
        (opOf s 3 7).par 0 < 8192 ∧ (opOf s 3 7).par 2 = 2 ∧ (opOf s 3 7).par 1 = 1 ∧
        (opOf s 3 7).par 0 + 1 ≤ ((s.rangeOf? (opOf s 3 7).obj).getD range0).count) ∧
    (∃ s : State, s = { stateTheChartIsWrittenSwappedAndApplied1 with ops := [op 3 7 0x19 65535 [2]] } ∧
      s.wf = true ∧ opIn s 3 7 0x19 = true ∧ (opOf s 3 7).stage = 0 ∧ 1 < (opOf s 3 7).par 0) ∧
    (∃ s : State, s = { stateTheChartIsWrittenSwappedAndApplied1 with ops := [op 3 7 0x19 65535 [1]] } ∧
      s.wf = true ∧ opIn s 3 7 0x19 = true ∧ (opOf s 3 7).stage = 0 ∧ (opOf s 3 7).par 0 ≤ 1) ∧
    (∃ s : State, s = stateTheChartIsWrittenSwappedAndApplied11 ∧
      s.wf = true ∧ (s.tm.stopped = true ∨ s.tm.device % 125000 ≠ 0)) ∧
    (∃ s : State, s = { (put stateTheChartIsWrittenSwappedAndApplied1 [(CH_SEL_PENDING, 1, 0, 3)]) with
      ops := [op 3 7 0x19 65535 []] } ∧
      s.wf = true ∧ s.tm.stopped = false ∧ s.tm.device % 125000 = 0 ∧ s.swapsDue = [3]) ∧
    (∃ s : State, s = stateTheChartIsWrittenSwappedAndApplied13 ∧
      s.wf = true ∧ (s.ent 20).mf = true ∧ s.entryHasMf 20 = true) ∧
    (∃ s : State, s = (ent stateTheChartIsWrittenSwappedAndApplied13 20 fun x => { x with tgt := 0, pend0 := true, mf := false }) ∧
      s.wf = true ∧ ((s.ent 20).mf = false ∨ true = true) ∧ (s.ent 20).pend0 = true) ∧
    (∃ s : State, s = (ent stateTheChartIsWrittenSwappedAndApplied13 20 fun x => { x with tgt := 0, pend1 := true, mf := false }) ∧
      s.wf = true ∧ ((s.ent 20).mf = false ∨ true = true) ∧ (s.ent 20).pend1 = true) ∧
    (∃ s : State, s = (ent stateTheChartIsWrittenSwappedAndApplied13 20 fun x => { x with
      tgt := 0,
      mf := false,
      due := some 1000000000 }) ∧
      s.wf = true ∧ s.isDue (s.ent 20).due = true) :=
  ⟨⟨_, rfl, by decide +kernel⟩,
   ⟨_, rfl, by decide +kernel⟩,
   ⟨_, rfl, by decide +kernel⟩,
   ⟨_, rfl, by decide +kernel⟩,
   ⟨_, rfl, by decide +kernel⟩,
   ⟨_, rfl, by decide +kernel⟩,
   ⟨_, rfl, by decide +kernel⟩,
   ⟨_, rfl, by decide +kernel⟩,
   ⟨_, rfl, by decide +kernel⟩,
   ⟨_, rfl, by decide +kernel⟩,
   ⟨_, rfl, by decide +kernel⟩,
   ⟨_, rfl, by decide +kernel⟩,
   ⟨_, rfl, by decide +kernel⟩,
   ⟨_, rfl, by decide +kernel⟩,
   ⟨_, rfl, by decide +kernel⟩,
   ⟨_, rfl, by decide +kernel⟩⟩

def stateGroupsAreConfiguredCommandedAndDeleted1 : State :=
  { (put up3 [(LINE_STAT_LSTATE, 2, 2, 0), (LINE_STAT_STAGE, 6, 2, 0), (LINE_STAT_FORMAT, 5, 2, 0), (FR_STAT_STATE, 2, 2, 0),
    (LINE_STAT_LSTATE, 2, 3, 0), (LINE_STAT_STAGE, 6, 3, 0), (LINE_STAT_FORMAT, 5, 3, 0), (FR_STAT_STATE, 2, 3, 0)]) with
    ops := [op 3 7 0x1c 36869 [16]],
    own := { up3.own with objs := [(2, 3), (3, 3), (36869, 3)] } }

def stateGroupsAreConfiguredCommandedAndDeleted2 : State :=
  { (grp stateGroupsAreConfiguredCommandedAndDeleted1 5 fun x => { x with
    cfg := [0, 0, 1, 5, 5, 2, 2, 0, 3, 0, 0, 0, 0, 0, 255, 255, 10] ++ List.replicate 15 0 }) with
    ops := [{ op 3 7 0x1c 36869 [32] with
      data := [0, 0, 1, 5, 5, 2, 2, 0, 3, 0, 0, 0, 0, 0, 255, 255, 10] ++ List.replicate 15 0 }] }

def stateGroupsAreConfiguredCommandedAndDeleted20 : State :=
  grp (put stateGroupsAreConfiguredCommandedAndDeleted2 [(PS_K_K1_TX, 1, 5, 0), (PS_K_K2_TX, 16, 5, 0)]) 5 fun x => { x with
    cfg := [1, 0, 0, 0, 12, 2, 2, 0, 3, 0, 0, 0, 0, 0, 255, 255, 10] ++ List.replicate 15 0,
    kBad := 12,
    fails := [(false, 999999999), (false, 999999999), (false, 999999999), (false, 999999999)] }

def stateGroupsAreConfiguredCommandedAndDeleted21 : State :=
  grp (put stateGroupsAreConfiguredCommandedAndDeleted20 [(PS_STAT_PSB_FAIL, 1, 5, 0), (PS_STAT_CH_MM, 1, 5, 0),
    (PS_STAT_ARCH_MM, 1, 5, 0), (PS_STAT_MODE_MM, 1, 5, 0)]) 5 fun x => { x with
      kBad := 0,
      fails := [(false, 0), (false, 0), (false, 0), (false, 0)] }

/-- The hypotheses of Obligations.GroupsAreConfiguredCommandedAndDeleted, a state for each clause. -/
theorem witness_GroupsAreConfiguredCommandedAndDeleted :
    (∃ s : State, s = stateGroupsAreConfiguredCommandedAndDeleted1 ∧
      s.wf = true ∧ opIn s 3 7 0x1C = true ∧ (opOf s 3 7).par 0 ≠ 0 ∧ (opOf s 3 7).par 0 ≠ 32) ∧
    (∃ s : State, s = stateGroupsAreConfiguredCommandedAndDeleted2 ∧
      s.wf = true ∧ opIn s 3 7 0x1C = true ∧ (opOf s 3 7).par 0 = 32 ∧ (s.grp (objIndex (opOf s 3 7).obj)).cfg ≠ []) ∧
    (∃ s : State, s = { stateGroupsAreConfiguredCommandedAndDeleted1 with
      ops := [{ op 3 7 0x1c 36869 [32] with
        data := [0, 0, 1, 5, 3, 2, 2, 0, 3, 0, 0, 0, 0, 0, 255, 255, 10] ++ List.replicate 15 0 }] } ∧
      s.wf = true ∧ opIn s 3 7 0x1C = true ∧ (opOf s 3 7).par 0 = 32 ∧ (s.grp (objIndex (opOf s 3 7).obj)).cfg = [] ∧
        s.psBlockOk { Group.init with cfg := List.take 32 (opOf s 3 7).data, old := (s.grp (objIndex (opOf s 3 7).obj)).old, tick := s.tm.device / 1000 } = false) ∧
    (∃ s : State, s = { stateGroupsAreConfiguredCommandedAndDeleted2 with groups := [] } ∧
      s.wf = true ∧ opIn s 3 7 0x1C = true ∧ (opOf s 3 7).par 0 = 32 ∧ (s.grp (objIndex (opOf s 3 7).obj)).cfg = [] ∧
        s.psBlockOk { Group.init with cfg := List.take 32 (opOf s 3 7).data, old := (s.grp (objIndex (opOf s 3 7).obj)).old, tick := s.tm.device / 1000 } = true ∧
        (∀ m ∈ { Group.init with cfg := List.take 32 (opOf s 3 7).data, old := (s.grp (objIndex (opOf s 3 7).obj)).old, tick := s.tm.device / 1000 }.members,
        s.objOwner m.1 = 3) ∧
        { Group.init with cfg := List.take 32 (opOf s 3 7).data, old := (s.grp (objIndex (opOf s 3 7).obj)).old, tick := s.tm.device / 1000 }.pu = 65535 ∧
        s.psTaken (objIndex (opOf s 3 7).obj) { Group.init with cfg := List.take 32 (opOf s 3 7).data, old := (s.grp (objIndex (opOf s 3 7).obj)).old, tick := s.tm.device / 1000 } = false ∧
        s.psFits { Group.init with cfg := List.take 32 (opOf s 3 7).data, old := (s.grp (objIndex (opOf s 3 7).obj)).old, tick := s.tm.device / 1000 } = true ∧
        (s.grp 5).since.getD 0 none = none ∧ s.isDue (s.grp 5).wtr = false ∧ s.isDue (s.grp 5).exUntil = false) ∧
    (∃ s : State, s = { stateGroupsAreConfiguredCommandedAndDeleted1 with ops := [op 3 7 0x1c 36869 []] } ∧
      s.wf = true ∧ opIn s 3 7 0x1C = true ∧ (opOf s 3 7).par 0 = 0 ∧ (s.grp (objIndex (opOf s 3 7).obj)).cfg = []) ∧
    (∃ s : State, s = { stateGroupsAreConfiguredCommandedAndDeleted2 with ops := [op 3 7 0x1c 36869 []] } ∧
      s.wf = true ∧ opIn s 3 7 0x1C = true ∧ (opOf s 3 7).par 0 = 0 ∧ (s.grp (objIndex (opOf s 3 7).obj)).cfg ≠ []) ∧
    (∃ s : State, s = { stateGroupsAreConfiguredCommandedAndDeleted1 with
      ops := [{ op 3 7 0x1d 36869 [] with admitTime := 5 }] } ∧
      s.wf = true ∧ opIn s 3 7 0x1D = true ∧ (opOf s 3 7).stage = 0 ∧ (opOf s 3 7).par 0 = 0 ∧ (opOf s 3 7).par 0 < 8 ∧
        (opOf s 3 7).par 0 ≠ 7) ∧
    (∃ s : State, s = { stateGroupsAreConfiguredCommandedAndDeleted1 with
      ops := [{ op 3 7 0x1d 36869 [8] with admitTime := 5 }] } ∧
      s.wf = true ∧ opIn s 3 7 0x1D = true ∧ (opOf s 3 7).stage = 0 ∧ 8 ≤ (opOf s 3 7).par 0) ∧
    (∃ s : State, s = { stateGroupsAreConfiguredCommandedAndDeleted1 with
      ops := [{ op 3 7 0x1d 36869 [7] with admitTime := 5 }] } ∧
      s.wf = true ∧ opIn s 3 7 0x1D = true ∧ (opOf s 3 7).stage = 0 ∧ (opOf s 3 7).par 0 < 8 ∧ (opOf s 3 7).par 0 ≠ 0 ∧
        (opOf s 3 7).par 0 ≠ 1 ∧ (opOf s 3 7).par 0 ≠ 2 ∧ (opOf s 3 7).par 0 ≠ 3 ∧ (opOf s 3 7).par 0 ≠ 4 ∧
        (opOf s 3 7).par 0 ≠ 5 ∧ (opOf s 3 7).par 0 ≠ 6 ∧ (opOf s 3 7).par 0 = 7) ∧
    (∃ s : State, s = { stateGroupsAreConfiguredCommandedAndDeleted1 with
      ops := [{ op 3 7 0x1d 36869 [1] with admitTime := 5 }] } ∧
      s.wf = true ∧ opIn s 3 7 0x1D = true ∧ (opOf s 3 7).stage = 0 ∧ (opOf s 3 7).par 0 = 1) ∧
    (∃ s : State, s = { stateGroupsAreConfiguredCommandedAndDeleted1 with
      ops := [{ op 3 7 0x1d 36869 [2] with admitTime := 5 }] } ∧
      s.wf = true ∧ opIn s 3 7 0x1D = true ∧ (opOf s 3 7).stage = 0 ∧ (opOf s 3 7).par 0 = 2) ∧
    (∃ s : State, s = { stateGroupsAreConfiguredCommandedAndDeleted1 with
      ops := [{ op 3 7 0x1d 36869 [3] with admitTime := 5 }] } ∧
      s.wf = true ∧ opIn s 3 7 0x1D = true ∧ (opOf s 3 7).stage = 0 ∧ (opOf s 3 7).par 0 = 3) ∧
    (∃ s : State, s = { stateGroupsAreConfiguredCommandedAndDeleted1 with
      ops := [{ op 3 7 0x1d 36869 [4] with admitTime := 5 }] } ∧
      s.wf = true ∧ opIn s 3 7 0x1D = true ∧ (opOf s 3 7).stage = 0 ∧ (opOf s 3 7).par 0 = 4) ∧
    (∃ s : State, s = { stateGroupsAreConfiguredCommandedAndDeleted1 with
      ops := [{ op 3 7 0x1d 36869 [5] with admitTime := 5 }] } ∧
      s.wf = true ∧ opIn s 3 7 0x1D = true ∧ (opOf s 3 7).stage = 0 ∧ (opOf s 3 7).par 0 = 5) ∧
    (∃ s : State, s = { stateGroupsAreConfiguredCommandedAndDeleted1 with
      ops := [{ op 3 7 0x1d 36869 [6] with admitTime := 5 }] } ∧
      s.wf = true ∧ opIn s 3 7 0x1D = true ∧ (opOf s 3 7).stage = 0 ∧ (opOf s 3 7).par 0 = 6) ∧
    (∃ s : State, s = { stateGroupsAreConfiguredCommandedAndDeleted2 with
      ops := [{ op 3 7 0x1d 36869 [1] with admitTime := 5, stage := 1 }] } ∧
      s.wf = true ∧ s.tm.stopped = false ∧ s.tm.device % 125000 = 0 ∧ s.chart = [] ∧ s.own.ranges = [] ∧ s.swapsDue = [] ∧
        s.psDue = [s.psDue.headD op0] ∧ s.op? (s.psDue.headD op0).sess (s.psDue.headD op0).tag = some (s.psDue.headD op0) ∧
        (s.psDue.headD op0).st = OpState.running ∧ (s.psDue.headD op0).par 0 = 1 ∧
        (s.grp (objIndex (s.psDue.headD op0).obj)).cfg ≠ [] ∧ (s.grp (objIndex (s.psDue.headD op0).obj)).mode = 0 ∧
        (s.grp (objIndex (s.psDue.headD op0).obj)).type ≠ 7) ∧
    (∃ s : State, s = (grp stateGroupsAreConfiguredCommandedAndDeleted2 5 fun x => { x with
      since := [some 990000000, none, none, none],
      wtr := some 9,
      dnr := true }) ∧
      s.wf = true ∧ (s.grp 5).since.getD 0 none = some (((s.grp 5).since.getD 0 none).getD 0) ∧
        s.clock < ((s.grp 5).since.getD 0 none).getD 0 + (s.grp 5).holdoff) ∧
    (∃ s : State, s = (grp stateGroupsAreConfiguredCommandedAndDeleted2 5 fun x => { x with
      since := [some 5, none, none, none],
      wtr := some 9,
      dnr := true }) ∧
      s.wf = true ∧ (s.grp 5).since.getD 0 none = some (((s.grp 5).since.getD 0 none).getD 0) ∧
        ((s.grp 5).since.getD 0 none).getD 0 + (s.grp 5).holdoff ≤ s.clock ∧ (s.grp 5).evaluates = true ∧
        (s.psCrit 5).testBit 0 = false ∧ s.isDue (s.grp 5).wtr = true) ∧
    (∃ s : State, s = (grp stateGroupsAreConfiguredCommandedAndDeleted2 5 fun x => { x with
      cmd := 5,
      exUntil := some 1000000000 }) ∧
      s.wf = true ∧ s.isDue (s.grp 5).exUntil = true) ∧
    (∃ s : State, s = stateGroupsAreConfiguredCommandedAndDeleted20 ∧
      s.wf = true ∧ ((s.noteFails 5).grp 5).fails.getD 0 (false, 0) = (true, (((s.noteFails 5).grp 5).fails.getD 0 (false,
        0)).2) ∧ (s.psFails 5).testBit 0 = false ∧ (0 = 0 ∨ (((s.noteFails 5).grp 5).fails.getD 0 (false,
        0)).2 + 50000000 ≤ s.clock) ∧ ((s.noteFails 5).grp 5).fails.getD 1 (false, 0) = (true,
        (((s.noteFails 5).grp 5).fails.getD 1 (false, 0)).2) ∧ (s.psFails 5).testBit 1 = false ∧
        s.clock < (((s.noteFails 5).grp 5).fails.getD 1 (false, 0)).2 + 50000000) ∧
    (∃ s : State, s = stateGroupsAreConfiguredCommandedAndDeleted21 ∧
      s.wf = true ∧ ((s.noteFails 5).grp 5).fails.getD 0 (false, 0) = (false, (((s.noteFails 5).grp 5).fails.getD 0 (false,
        0)).2) ∧ (s.psFails 5).testBit 0 = true ∧ (((s.noteFails 5).grp 5).fails.getD 0 (false, 0)).2 + 50000000 ≤ s.clock) :=
  ⟨⟨_, rfl, by decide +kernel⟩,
   ⟨_, rfl, by decide +kernel⟩,
   ⟨_, rfl, by decide +kernel⟩,
   ⟨_, rfl, by decide +kernel⟩,
   ⟨_, rfl, by decide +kernel⟩,
   ⟨_, rfl, by decide +kernel⟩,
   ⟨_, rfl, by decide +kernel⟩,
   ⟨_, rfl, by decide +kernel⟩,
   ⟨_, rfl, by decide +kernel⟩,
   ⟨_, rfl, by decide +kernel⟩,
   ⟨_, rfl, by decide +kernel⟩,
   ⟨_, rfl, by decide +kernel⟩,
   ⟨_, rfl, by decide +kernel⟩,
   ⟨_, rfl, by decide +kernel⟩,
   ⟨_, rfl, by decide +kernel⟩,
   ⟨_, rfl, by decide +kernel⟩,
   ⟨_, rfl, by decide +kernel⟩,
   ⟨_, rfl, by decide +kernel⟩,
   ⟨_, rfl, by decide +kernel⟩,
   ⟨_, rfl, by decide +kernel⟩,
   ⟨_, rfl, by decide +kernel⟩⟩

def stateTheDisruptionMeterMeasuresGaps2 : State :=
  grp (put up3 [(LINE_STAT_LSTATE, 2, 2, 0), (LINE_STAT_STAGE, 6, 2, 0), (LINE_STAT_FORMAT, 5, 2, 0), (FR_STAT_STATE, 2, 2, 0),
    (PS_STAT_ARMED, 1, 5, 0), (PS_MTR_MAX, 3, 5, 0), (PS_MTR_EVENTS, 65535, 5, 0)]) 5 fun x => { x with
      cfg := [0, 0, 1, 5, 5, 2, 2, 0, 3, 0, 0, 0, 0, 0, 255, 255, 1] ++ List.replicate 15 0,
      tick := 999999,
      log := (List.replicate 31 (1, 2, 3, 4)) }

def stateTheDisruptionMeterMeasuresGaps5 : State :=
  { (grp (put stateTheDisruptionMeterMeasuresGaps2 [(PS_STAT_ARMED, 0, 5, 0)]) 5 fun x => { x with
    ev := some (999990, 999999, 4294967295),
    tick := 1000000 }) with
    tm := { stateTheDisruptionMeterMeasuresGaps2.tm with device := 1000999000 } }

/-- The hypotheses of Obligations.TheDisruptionMeterMeasuresGaps, a state for each clause. -/
theorem witness_TheDisruptionMeterMeasuresGaps :
    (∃ s : State, s = up ∧
      s.wf = true ∧ (s.tm.stopped = true ∨ s.flag PS_STAT_ARMED 5 = false ∨ s.tm.device % 1000 ≠ 0 ∨
        s.tm.device / 1000 ≤ (s.grp 5).tick) ∧ (s.grp 5).ev = none) ∧
    (∃ s : State, s = stateTheDisruptionMeterMeasuresGaps2 ∧
      s.wf = true ∧ s.tm.stopped = false ∧ s.flag PS_STAT_ARMED 5 = true ∧ s.tm.device % 1000 = 0 ∧
        (s.grp 5).tick < s.tm.device / 1000 ∧ ((s.meterNow 5).lor 0).land (s.grp 5).meterSrc = 0) ∧
    (∃ s : State, s = (grp stateTheDisruptionMeterMeasuresGaps2 5 fun x => { x with
      cfg := [0, 0, 1, 5, 5, 1, 2, 0, 3, 0, 0, 0, 0, 0, 255, 255, 1] ++ List.replicate 15 0 }) ∧
      s.wf = true ∧ s.tm.stopped = false ∧ s.flag PS_STAT_ARMED 5 = true ∧ s.tm.device % 1000 = 0 ∧
        (s.grp 5).tick < s.tm.device / 1000 ∧ ((s.meterNow 5).lor 1).land (s.grp 5).meterSrc ≠ 0 ∧ (s.grp 5).ev = none) ∧
    (∃ s : State, s = (grp stateTheDisruptionMeterMeasuresGaps2 5 fun x => { x with
      cfg := [0, 0, 1, 5, 5, 1, 2, 0, 3, 0, 0, 0, 0, 0, 255, 255, 1] ++ List.replicate 15 0,
      ev := some (999990, 999995, 3) }) ∧
      s.wf = true ∧ s.tm.stopped = false ∧ s.flag PS_STAT_ARMED 5 = true ∧ s.tm.device % 1000 = 0 ∧
        (s.grp 5).tick < s.tm.device / 1000 ∧ ((s.meterNow 5).lor 1).land (s.grp 5).meterSrc ≠ 0 ∧
        (s.grp 5).ev = some (((s.grp 5).ev.getD (0, 0, 0)).1, ((s.grp 5).ev.getD (0, 0, 0)).2.1, ((s.grp 5).ev.getD (0, 0,
        0)).2.2)) ∧
    (∃ s : State, s = stateTheDisruptionMeterMeasuresGaps5 ∧
      s.wf = true ∧ (s.grp 5).ev = some (((s.grp 5).ev.getD (0, 0, 0)).1, ((s.grp 5).ev.getD (0, 0, 0)).2.1,
        ((s.grp 5).ev.getD (0, 0, 0)).2.2) ∧ s.tm.device / 1000 < ((s.grp 5).ev.getD (0, 0,
        0)).2.1 + 1 + 1000 * (s.grp 5).guard) ∧
    (∃ s : State, s = (grp (put stateTheDisruptionMeterMeasuresGaps2 [(PS_STAT_ARMED, 0, 5, 0)]) 5 fun x => { x with
      ev := some (0, 2, 1),
      tick := 1000000 }) ∧
      s.wf = true ∧ (s.grp 5).ev = some (((s.grp 5).ev.getD (0, 0, 0)).1, ((s.grp 5).ev.getD (0, 0, 0)).2.1,
        ((s.grp 5).ev.getD (0, 0, 0)).2.2) ∧ ((s.grp 5).ev.getD (0, 0,
        0)).2.1 + 1 + 1000 * (s.grp 5).guard ≤ s.tm.device / 1000) :=
  ⟨⟨_, rfl, by decide +kernel⟩,
   ⟨_, rfl, by decide +kernel⟩,
   ⟨_, rfl, by decide +kernel⟩,
   ⟨_, rfl, by decide +kernel⟩,
   ⟨_, rfl, by decide +kernel⟩,
   ⟨_, rfl, by decide +kernel⟩⟩

def statePointsAreAttachedReadAndReset1 : State :=
  { (put up3 [(LINE_STAT_LSTATE, 2, 3, 0), (LINE_STAT_STAGE, 6, 3, 0), (LINE_STAT_FORMAT, 5, 3, 0), (FR_STAT_STATE, 2, 3, 0)]) with
    ops := [op 3 7 0x29 32773 [128, 16777219]],
    own := { up3.own with
      objs := [(3, 3), (16385, 3), (28675, 3), (32773, 3)],
      ranges := [{ range0 with first := 16, count := 8, sess := 3 }] } }

/-- The hypotheses of Obligations.PointsAreAttachedReadAndReset, a state for each clause. -/
theorem witness_PointsAreAttachedReadAndReset :
    (∃ s : State, s = statePointsAreAttachedReadAndReset1 ∧
      s.wf = true ∧ opIn s 3 7 0x29 = true ∧ (opOf s 3 7).par 0 = 128 ∧ 2 ^ 24 ≤ (opOf s 3 7).par 1) ∧
    (∃ s : State, s = { statePointsAreAttachedReadAndReset1 with
      ops := [op 3 7 0x29 32773 [128, 196611, 63, 1048575]],
      own := { statePointsAreAttachedReadAndReset1.own with objs := [] } } ∧
      s.wf = true ∧ opIn s 3 7 0x29 = true ∧ (opOf s 3 7).par 0 = 128 ∧ (opOf s 3 7).par 1 < 2 ^ 24 ∧ (opOf s 3 7).par 2 < 64 ∧
        (opOf s 3 7).par 3 < 2 ^ 20 ∧
        s.pmAttachCheck 3 (objIndex (opOf s 3 7).obj) ((opOf s 3 7).par 1 % 65536) (bitsAt ((opOf s 3 7).par 1) 16 8) = 17) ∧
    (∃ s : State, s = { statePointsAreAttachedReadAndReset1 with ops := [op 3 7 0x29 32773 [128, 196611, 63, 1048575]] } ∧
      s.wf = true ∧ opIn s 3 7 0x29 = true ∧ (opOf s 3 7).par 0 = 128 ∧ (opOf s 3 7).par 1 < 2 ^ 24 ∧ (opOf s 3 7).par 2 < 64 ∧
        (opOf s 3 7).par 3 < 2 ^ 20 ∧
        s.pmAttachCheck 3 (objIndex (opOf s 3 7).obj) ((opOf s 3 7).par 1 % 65536) (bitsAt ((opOf s 3 7).par 1) 16 8) = 0) ∧
    (∃ s : State, s = { statePointsAreAttachedReadAndReset1 with ops := [op 3 7 0x29 32773 [129]] } ∧
      s.wf = true ∧ opIn s 3 7 0x29 = true ∧ (opOf s 3 7).par 0 = 129) ∧
    (∃ s : State, s = { statePointsAreAttachedReadAndReset1 with ops := [op 3 7 0x29 32773 []] } ∧
      s.wf = true ∧ opIn s 3 7 0x29 = true ∧ (opOf s 3 7).par 0 = 0) ∧
    (∃ s : State, s = { statePointsAreAttachedReadAndReset1 with ops := [op 3 7 0x29 32773 [255]] } ∧
      s.wf = true ∧ opIn s 3 7 0x29 = true ∧ (opOf s 3 7).par 0 = 255) ∧
    (∃ s : State, s = { statePointsAreAttachedReadAndReset1 with ops := [op 3 7 0x29 32773 [65]] } ∧
      s.wf = true ∧ opIn s 3 7 0x29 = true ∧ (opOf s 3 7).par 0 = 65) ∧
    (∃ s : State, s = { statePointsAreAttachedReadAndReset1 with ops := [op 3 7 0x28 32773 [33, 80]] } ∧
      s.wf = true ∧ opIn s 3 7 0x28 = true ∧ 33 ≤ (opOf s 3 7).par 0 ∧ (opOf s 3 7).par 0 < 64) ∧
    (∃ s : State, s = { statePointsAreAttachedReadAndReset1 with ops := [op 3 7 0x28 32773 [0, 80]] } ∧
      s.wf = true ∧ opIn s 3 7 0x28 = true ∧ (opOf s 3 7).par 0 = 0 ∧ 80 ≤ (opOf s 3 7).par 1) ∧
    (∃ s : State, s = { statePointsAreAttachedReadAndReset1 with ops := [op 3 7 0x28 32773 [1, 80]] } ∧
      s.wf = true ∧ opIn s 3 7 0x28 = true ∧ (opOf s 3 7).par 0 = 1 ∧ 80 ≤ (opOf s 3 7).par 1) ∧
    (∃ s : State, s = { statePointsAreAttachedReadAndReset1 with
      ops := [{ op 3 7 0x20 3 [0, 65541] with aux := [7000000000, 5] }],
      own := { statePointsAreAttachedReadAndReset1.own with objs := [] } } ∧
      s.wf = true ∧ opIn s 3 7 0x20 = true ∧ (opOf s 3 7).stage = 0 ∧
        soakPoints (opOf s 3 7) = [(soakPoints (opOf s 3 7)).headD 0] ∧
        s.flag PM_CFG_ATTACHED ((soakPoints (opOf s 3 7)).headD 0) = false ∧
        s.pmAttachCheck 3 ((soakPoints (opOf s 3 7)).headD 0) (opOf s 3 7).obj (match objSlice? (opOf s 3 7).obj with | some i => soakLayer (s.rd LINE_STAT_FORMAT i) | none => 0) = 17 ∧
        s.cap? 3 7 = none ∧ s.isDue (opOf s 3 7).due = false) ∧
    (∃ s : State, s = { (chute (put statePointsAreAttachedReadAndReset1 [(PM_CFG_SRC, 3, 5, 0), (PM_CFG_ATTACHED, 1, 5, 0)]) 1 fun x => { x with
      consumer := 2 }) with
      ops := [{ op 3 7 0x20 3 [0, 65541, 16385] with aux := [7000000000, 5] }] } ∧
      s.wf = true ∧ opIn s 3 7 0x20 = true ∧ (opOf s 3 7).stage = 0 ∧
        soakPoints (opOf s 3 7) = [(soakPoints (opOf s 3 7)).headD 0] ∧
        s.flag PM_CFG_ATTACHED ((soakPoints (opOf s 3 7)).headD 0) = true ∧ (opOf s 3 7).par 2 ≠ 0 ∧
        (s.chute (objIndex ((opOf s 3 7).par 2))).consumer ≠ 0) ∧
    (∃ s : State, s = { (put statePointsAreAttachedReadAndReset1 [(PM_CFG_SRC, 3, 5, 0), (PM_CFG_SEL, 2, 5, 0),
      (PM_CFG_ATTACHED, 1, 5, 0)]) with
      ops := [{ op 3 7 0x20 3 [0, 65541] with aux := [7000000000, 5] }] } ∧
      s.wf = true ∧ opIn s 3 7 0x20 = true ∧ (opOf s 3 7).stage = 0 ∧
        soakPoints (opOf s 3 7) = [(soakPoints (opOf s 3 7)).headD 0] ∧
        s.flag PM_CFG_ATTACHED ((soakPoints (opOf s 3 7)).headD 0) = true ∧ (opOf s 3 7).par 2 = 0) ∧
    (∃ s : State, s = { statePointsAreAttachedReadAndReset1 with
      ops := [{ op 3 7 0x20 3 [0, 65541] with due := some 1000000000, aux := [7000000000, 5] }] } ∧
      s.wf = true ∧ opIn s 3 7 0x20 = true ∧ s.cap? 3 7 = none ∧ s.isDue (opOf s 3 7).due = true) ∧
    (∃ s : State, s = { statePointsAreAttachedReadAndReset1 with
      ops := [{ op 3 7 0x22 28675 [0, 5, 0, 1] with stage := 1, due := some 1000000000 }] } ∧
      s.wf = true ∧ opIn s 3 7 0x22 = true ∧ (opOf s 3 7).par 2 = 0 ∧ s.isDue (opOf s 3 7).due = true) :=
  ⟨⟨_, rfl, by decide +kernel⟩,
   ⟨_, rfl, by decide +kernel⟩,
   ⟨_, rfl, by decide +kernel⟩,
   ⟨_, rfl, by decide +kernel⟩,
   ⟨_, rfl, by decide +kernel⟩,
   ⟨_, rfl, by decide +kernel⟩,
   ⟨_, rfl, by decide +kernel⟩,
   ⟨_, rfl, by decide +kernel⟩,
   ⟨_, rfl, by decide +kernel⟩,
   ⟨_, rfl, by decide +kernel⟩,
   ⟨_, rfl, by decide +kernel⟩,
   ⟨_, rfl, by decide +kernel⟩,
   ⟨_, rfl, by decide +kernel⟩,
   ⟨_, rfl, by decide +kernel⟩,
   ⟨_, rfl, by decide +kernel⟩⟩

def stateSecondsAreJudgedAndIntervalsRoll2 : State :=
  { (pt (put up3 [(LINE_STAT_LSTATE, 2, 3, 0), (LINE_STAT_STAGE, 6, 3, 0), (LINE_STAT_FORMAT, 5, 3, 0),
    (FR_STAT_STATE, 2, 3, 0), (LINE_STAT_LSTATE, 2, 9, 0), (LINE_STAT_STAGE, 6, 9, 0), (LINE_STAT_FORMAT, 66, 9, 0),
    (FR_STAT_STATE, 2, 9, 0), (PM_CFG_SRC, 3, 5, 0), (PM_CFG_SEL, 1, 5, 0), (PM_CFG_ATTACHED, 1, 5, 0)]) 5 fun x => { x with
      cur15 := some {
        serial := 4,
        start := 0,
        flags := 0,
        secs := 77,
        near := { eb := 9, bbe := 0, es := 0, ses := 0, uas := 0, sep := 0 },
        far := { eb := 0, bbe := 0, es := 0, ses := 0, uas := 0, sep := 0 },
        judged := true },
      recent := [{
        serial := 2,
        start := 0,
        flags := 0,
        secs := 77,
        near := { eb := 9, bbe := 0, es := 0, ses := 0, uas := 0, sep := 0 },
        far := { eb := 0, bbe := 0, es := 0, ses := 0, uas := 0, sep := 0 },
        judged := true }],
      cur24 := some {
        serial := 3,
        start := 0,
        flags := 0,
        secs := 77,
        near := { eb := 9, bbe := 0, es := 0, ses := 0, uas := 0, sep := 0 },
        far := { eb := 0, bbe := 0, es := 0, ses := 0, uas := 0, sep := 0 },
        judged := true },
      closedLast := true,
      ready := true }) with
    tm := { up3.tm with device := 1000000000000 },
    own := { up3.own with objs := [(3, 3), (32773, 3)] },
    sec := 1 }

def stateSecondsAreJudgedAndIntervalsRoll4 : State :=
  pt (ovh stateSecondsAreJudgedAndIntervalsRoll2 3 fun x => { x with lastDcl := 16777474 }) 5 fun x => { x with
    ne := { unav := false, pend := (List.replicate 8 { s15 := 4, s24 := 3, eb := 9, es := true, ses := true }) },
    closedLast := false }

def stateSecondsAreJudgedAndIntervalsRoll5 : State :=
  pt stateSecondsAreJudgedAndIntervalsRoll4 5 fun x => { x with
    ne := { unav := false, pend := (List.replicate 9 { s15 := 4, s24 := 3, eb := 9, es := true, ses := true }) } }

/-- The hypotheses of Obligations.SecondsAreJudgedAndIntervalsRoll, a state for each clause. -/
theorem witness_SecondsAreJudgedAndIntervalsRoll :
    (∃ s : State, s = up ∧
      s.wf = true ∧ (s.pt 5).ready = false ∧ pmBoundary (s.rd PM_ALIGN) s.tm.device ≤ s.pmRolled ∧ (s.pt 5).finals = []) ∧
    (∃ s : State, s = stateSecondsAreJudgedAndIntervalsRoll2 ∧
      s.wf = true ∧ (s.pt 5).ready = true ∧ (s.pt 5).closedLast = true ∧ s.pmRolled < pmBoundary (s.rd PM_ALIGN) s.tm.device) ∧
    (∃ s : State, s = (pt stateSecondsAreJudgedAndIntervalsRoll2 5 fun x => { x with closedLast := false, absentLast := true }) ∧
      s.wf = true ∧ (s.pt 5).ready = true ∧ (s.pt 5).closedLast = false ∧ (s.pt 5).absentLast = true) ∧
    (∃ s : State, s = stateSecondsAreJudgedAndIntervalsRoll4 ∧
      s.wf = true ∧ (s.pt 5).ready = true ∧ (s.pt 5).closedLast = false ∧ (s.pt 5).absentLast = false ∧
        s.pmThr 5 = some ((s.pmThr 5).getD 0) ∧ (s.pmFar 5).1 = 0 ∧ (s.pt 5).ne.unav = false ∧ (s.pt 5).ne.pend.length ≤ 9 ∧
        (s.pmNearDef 5 = true ∨ (s.pmThr 5).getD 0 ≤ 0) ∧ (s.pt 5).ne.pend.length < 9) ∧
    (∃ s : State, s = stateSecondsAreJudgedAndIntervalsRoll5 ∧
      s.wf = true ∧ (s.pt 5).ready = true ∧ (s.pt 5).closedLast = false ∧ (s.pt 5).absentLast = false ∧
        s.pmThr 5 = some ((s.pmThr 5).getD 0) ∧ (s.pmFar 5).1 = 0 ∧ (s.pt 5).ne.unav = false ∧ (s.pt 5).ne.pend.length ≤ 9 ∧
        (s.pmNearDef 5 = true ∨ (s.pmThr 5).getD 0 ≤ 0) ∧ (s.pt 5).ne.pend.length = 9) ∧
    (∃ s : State, s = { stateSecondsAreJudgedAndIntervalsRoll5 with ovhs := [] } ∧
      s.wf = true ∧ (s.pt 5).ready = true ∧ (s.pt 5).closedLast = false ∧ (s.pt 5).absentLast = false ∧
        s.pmThr 5 = some ((s.pmThr 5).getD 0) ∧ (s.pmFar 5).1 = 0 ∧ (s.pt 5).ne.unav = false ∧ (s.pt 5).ne.pend.length ≤ 9 ∧
        s.pmNearDef 5 = false ∧ 0 < (s.pmThr 5).getD 0) ∧
    (∃ s : State, s = (pt stateSecondsAreJudgedAndIntervalsRoll2 5 fun x => { x with
      closedLast := false,
      finals := [(2000000000, 5, true)] }) ∧
      s.wf = true ∧ (s.pt 5).finals = (((s.pt 5).finals.headD (0, 0, false)).1, ((s.pt 5).finals.headD (0, 0, false)).2.1,
        ((s.pt 5).finals.headD (0, 0, false)).2.2) :: (s.pt 5).finals.tail ∧ s.clock < ((s.pt 5).finals.headD (0, 0,
        false)).1) ∧
    (∃ s : State, s = (pt stateSecondsAreJudgedAndIntervalsRoll2 5 fun x => { x with
      closedLast := false,
      finals := [(5, 4, true)] }) ∧
      s.wf = true ∧ (s.pt 5).finals = (((s.pt 5).finals.headD (0, 0, false)).1, ((s.pt 5).finals.headD (0, 0, false)).2.1,
        ((s.pt 5).finals.headD (0, 0, false)).2.2) :: (s.pt 5).finals.tail ∧ ((s.pt 5).finals.headD (0, 0, false)).1 ≤ s.clock ∧
        (s.pt 5).soak = none ∧ s.ownerOf (pmObj 5) < 16) ∧
    (∃ s : State, s = (pt stateSecondsAreJudgedAndIntervalsRoll2 5 fun x => { x with closedLast := false, short15 := some 0 }) ∧
      s.wf = true ∧ (s.pt 5).short15 = some ((s.pt 5).short15.getD 0) ∧ (s.pt 5).short15.getD 0 < s.sec ∧
        (s.pt 5).short24 = none ∧ (s.pt 5).cur15 = some ((s.pt 5).cur15.getD bin0)) :=
  ⟨⟨_, rfl, by decide +kernel⟩,
   ⟨_, rfl, by decide +kernel⟩,
   ⟨_, rfl, by decide +kernel⟩,
   ⟨_, rfl, by decide +kernel⟩,
   ⟨_, rfl, by decide +kernel⟩,
   ⟨_, rfl, by decide +kernel⟩,
   ⟨_, rfl, by decide +kernel⟩,
   ⟨_, rfl, by decide +kernel⟩,
   ⟨_, rfl, by decide +kernel⟩⟩

/-- The hypotheses of Obligations.PatternUnitsGenerateAndCheck, a state for each clause. -/
theorem witness_PatternUnitsGenerateAndCheck :
    (∃ s : State, s = { up3 with ops := [op 3 7 0x22 28677 [8, 305419896]] } ∧
      s.wf = true ∧ opIn s 3 7 0x22 = true ∧ (opOf s 3 7).stage = 0 ∧ (8 ≤ (opOf s 3 7).par 0 ∨ 3 ≤ (opOf s 3 7).par 2 ∨
        256 ≤ (opOf s 3 7).par 4)) ∧
    (∃ s : State, s = { (put up3 [(PU_STAT_LOSS, 65535, 5, 0), (PU_ERR, 18446744073709551611, 5, 0)]) with
      ops := [op 3 7 0x22 28677 [0, 305419896]] } ∧
      s.wf = true ∧ opIn s 3 7 0x22 = true ∧ (opOf s 3 7).stage = 0 ∧ (opOf s 3 7).par 0 < 8 ∧
        insertOk ((opOf s 3 7).par 4) = true ∧ ((opOf s 3 7).par 2 = 0 ∧ 1 = 1 ∨ (opOf s 3 7).par 2 = 1 ∧ 1 = 2 ∨
        (opOf s 3 7).par 2 = 2 ∧ 1 = 3) ∧ s.patChk 5 = false ∧ s.patGen 5 = false) ∧
    (∃ s : State, s = { (put up3 [(PU_CTL_RUN, 2, 5, 0), (PU_STAT_LOSS, 65535, 5, 0), (PU_ERR, 18446744073709551611, 5, 0)]) with
      ops := [op 3 7 0x22 28677 [0, 305419896]] } ∧
      s.wf = true ∧ s.patChk 5 = true ∧ s.flag PU_STAT_SYNC 5 = false ∧ s.unitAis 5 = false) ∧
    (∃ s : State, s = (ent (put up3 [(CH_STAT_MISFIT, 1, 20, 0), (PU_CTL_RUN, 2, 5, 0)]) 20 fun x => { x with
      use1 := 123166777344001 }) ∧
      s.wf = true ∧ s.patChk 5 = true ∧ s.flag PU_STAT_SYNC 5 = false ∧ s.unitAis 5 = true) ∧
    (∃ s : State, s = { (put up3 [(PU_CTL_RUN, 2, 5, 0), (PU_STAT_SYNC, 1, 5, 0), (PU_STAT_LOSS, 65535, 5, 0),
      (PU_ERR, 18446744073709551611, 5, 0)]) with
      ops := [op 3 7 0x22 28677 [0, 305419896]] } ∧
      s.wf = true ∧ s.patChk 5 = true ∧ s.flag PU_STAT_SYNC 5 = true) ∧
    (∃ s : State, s = { (put up3 [(PU_CTL_RUN, 1, 5, 0), (PU_STAT_LOSS, 65535, 5, 0), (PU_ERR, 18446744073709551611, 5, 0)]) with
      ops := [op 3 7 0x22 28677 [0, 305419896]] } ∧
      s.wf = true ∧ s.patGen 5 = true ∧ s.rd PU_CTL_MAN 5 = 0) ∧
    (∃ s : State, s = { (put up3 [(PU_CTL_RUN, 1, 5, 0), (PU_CTL_MAN, 1, 5, 0), (PU_CTL_EXP, 1, 5, 0),
      (PU_STAT_LOSS, 65535, 5, 0), (PU_ERR, 18446744073709551611, 5, 0)]) with
      ops := [op 3 7 0x22 28677 [0, 305419896]] } ∧
      s.wf = true ∧ s.patGen 5 = true ∧ s.rd PU_CTL_MAN 5 = 1 ∧ s.rd PU_CTL_EXP 5 = 1) :=
  ⟨⟨_, rfl, by decide +kernel⟩,
   ⟨_, rfl, by decide +kernel⟩,
   ⟨_, rfl, by decide +kernel⟩,
   ⟨_, rfl, by decide +kernel⟩,
   ⟨_, rfl, by decide +kernel⟩,
   ⟨_, rfl, by decide +kernel⟩,
   ⟨_, rfl, by decide +kernel⟩⟩

def stateChutesCarryWholePackets3 : State :=
  chute (ent (put up3 [(CH_STAT_GFP, 2, 20, 0), (CU_DROP, 4294967294, 1, 0), (CU_ERR_PTR_MISMATCH, 255, 1, 0),
    (CU_ERR_GAPS, 65535, 1, 0)]) 20 fun x => { x with use1 := 70373039341600 }) 1 fun x => { x with
      held := [{ entry0 with data := 3, sop := true }, { entry0 with data := 4, eop := true }],
      read := 1,
      waypt := some 1,
      freed := 4,
      opened := [{ producer := 100, entries := [1, 2], count := 2, cause := 0 },
        { producer := 101, entries := [1, 2], count := 2, cause := 0 },
        { producer := 102, entries := [1, 2], count := 2, cause := 0 },
        { producer := 103, entries := [1, 2], count := 2, cause := 0 },
        { producer := 104, entries := [1, 2], count := 2, cause := 0 },
        { producer := 105, entries := [1, 2], count := 2, cause := 0 },
        { producer := 106, entries := [1, 2], count := 2, cause := 0 },
        { producer := 107, entries := [1, 2], count := 2, cause := 0 }] }

def stateChutesCarryWholePackets5 : State :=
  chute (put stateChutesCarryWholePackets3 [(CH_STAT_GFP, 1, 20, 0)]) 1 fun x => { x with
    held := (List.replicate 496 { entry0 with data := 5, sop := true, eop := true }),
    read := 0,
    waypt := none,
    hidden := [[{ data := 1, sop := true, eop := true, gap := false }], [{ data := 2, sop := true, eop := true, gap := false }]],
    freed := 0,
    opened := [] }

/-- The hypotheses of Obligations.ChutesCarryWholePackets, a state for each clause. -/
theorem witness_ChutesCarryWholePackets :
    (∃ s : State, s = (ent (put up3 [(CH_STAT_GFP, 1, 20, 0), (CU_DROP, 4294967294, 1, 0), (CU_ERR_PTR_MISMATCH, 255, 1, 0),
      (CU_ERR_GAPS, 65535, 1, 0)]) 20 fun x => { x with use1 := 70373039341600 }) ∧
      s.wf = true ∧ (s.rd CH_STAT_GFP 20 ≠ 2 ∨ wordMap (s.ent 20).use1 = 0) ∧ ((s.chute 1).gapDue = false ∨
        (s.chute 1).room < 2) ∧ (s.chute 1).hidden = []) ∧
    (∃ s : State, s = (ent (put up3 [(CH_STAT_GFP, 2, 20, 0), (CU_DROP, 4294967294, 1, 0), (CU_ERR_PTR_MISMATCH, 255, 1, 0),
      (CU_ERR_GAPS, 65535, 1, 0)]) 20 fun x => { x with use1 := 70373039341600 }) ∧
      s.wf = true ∧ 32 ≤ wordMap (s.ent 20).use1 ∧ wordMap (s.ent 20).use1 ≤ 38 ∧ objClass (wordDst (s.ent 20).use1) = 4 ∧
        s.flag CH_STAT_MISFIT 20 = false ∧ s.flag CH_STAT_PERR 20 = false ∧ s.rd CH_STAT_GFP 20 = 2 ∧
        (∀ q ∈ (s.chute (objIndex (wordDst (s.ent 20).use1))).opened, q.producer ≠ 20) ∧
        (s.chute (objIndex (wordDst (s.ent 20).use1))).openCount < 8 ∧
        (s.chute (objIndex (wordDst (s.ent 20).use1))).gapDue = false ∧
        12 + [5].length ≤ (s.chute (objIndex (wordDst (s.ent 20).use1))).room) ∧
    (∃ s : State, s = stateChutesCarryWholePackets3 ∧
      s.wf = true ∧ 32 ≤ wordMap (s.ent 20).use1 ∧ wordMap (s.ent 20).use1 ≤ 38 ∧ objClass (wordDst (s.ent 20).use1) = 4 ∧
        s.flag CH_STAT_MISFIT 20 = false ∧ s.flag CH_STAT_PERR 20 = false ∧ s.rd CH_STAT_GFP 20 = 2 ∧
        (∀ q ∈ (s.chute (objIndex (wordDst (s.ent 20).use1))).opened, q.producer ≠ 20) ∧
        8 ≤ (s.chute (objIndex (wordDst (s.ent 20).use1))).openCount) ∧
    (∃ s : State, s = (chute (put stateChutesCarryWholePackets3 [(CH_STAT_GFP, 1, 20, 0)]) 1 fun x => { x with
      held := [],
      read := 0,
      waypt := none,
      freed := 0,
      opened := [],
      gapItems := 5,
      gapPackets := 2,
      gapCause := 3 }) ∧
      s.wf = true ∧ (s.chute 1).gapDue = true ∧ 2 ≤ (s.chute 1).room) ∧
    (∃ s : State, s = stateChutesCarryWholePackets5 ∧
      s.wf = true ∧ (s.chute 1).hidden = (s.chute 1).hidden.headD [] :: (s.chute 1).hidden.tail) :=
  ⟨⟨_, rfl, by decide +kernel⟩,
   ⟨_, rfl, by decide +kernel⟩,
   ⟨_, rfl, by decide +kernel⟩,
   ⟨_, rfl, by decide +kernel⟩,
   ⟨_, rfl, by decide +kernel⟩⟩

def stateCapturesFillCratesForTheHost1 : State :=
  { (chute up3 1 fun x => { x with
    held := [{ entry0 with data := 77, sop := true, eop := true }, { entry0 with data := 78, sop := true, eop := true }],
    consumer := 1,
    conSess := 3,
    conTag := 7 }) with
    tm := { up3.tm with device := 1500000000 },
    ops := [op 3 7 0x21 16385 [0, 0, 0, 4]] }

def stateCapturesFillCratesForTheHost3 : State :=
  { (put stateCapturesFillCratesForTheHost1 [(CU_HACK, 1, 1, 0), (CU_POOL_L_RES, 1, 3, 0)]) with
    ops := [{ op 3 7 0x21 16385 [0, 0, 0, 4] with stage := 1 }],
    caps := [{ cap0 with sess := 3, tag := 7, chute := 1, slots := 4, base := 65536, req := 1, seq := 5, delivered := 2 }] }

def stateCapturesFillCratesForTheHost7 : State :=
  { (put stateCapturesFillCratesForTheHost3 [(CU_HACK, 0, 1, 0), (CU_POOL_L_RES, 2, 3, 0), (CU_POOL_C_RES, 2, 3, 0)]) with
    caps := [{ cap0 with
      sess := 3,
      tag := 7,
      chute := 1,
      slots := 4,
      base := 65536,
      req := 2,
      seq := 5,
      heldCrates := [{ seq := 4, shared := true, img := [0x01, 0x02, 0x03] }],
      delivered := 2 }] }

def stateCapturesFillCratesForTheHost8 : State :=
  { (put stateCapturesFillCratesForTheHost3 [(CU_HACK, 2, 1, 0), (CU_POOL_L_RES, 0, 3, 0)]) with
    caps := [{ cap0 with sess := 3, tag := 7, chute := 1, slots := 4, base := 65536, seq := 5, delivered := 2 }],
    crateScrub := [(0, 5), (1, 5), (0, 2000000000)] }

def stateCapturesFillCratesForTheHost10 : State :=
  { (put stateCapturesFillCratesForTheHost8 [(CU_HACK, 0, 1, 0)]) with
    caps := [{ cap0 with
      sess := 3,
      tag := 7,
      chute := 1,
      slots := 4,
      flush := 1,
      base := 65536,
      crate := some { crate0 with tOpen := some 500000001 },
      seq := 5,
      delivered := 2 }],
    crateScrub := [] }

def stateCapturesFillCratesForTheHost11 : State :=
  { stateCapturesFillCratesForTheHost10 with
    caps := [{ cap0 with
      sess := 3,
      tag := 7,
      chute := 1,
      slots := 4,
      flush := 1,
      base := 65536,
      crate := some { crate0 with shared := true, recs := [1, 2, 3, 4], tOpen := some 500000000 },
      seq := 5,
      delivered := 2 }] }

def stateCapturesFillCratesForTheHost12 : State :=
  { stateCapturesFillCratesForTheHost8 with
    caps := [{ cap0 with
      sess := 3,
      tag := 7,
      chute := 1,
      slots := 4,
      base := 65536,
      seq := 5,
      heldCrates := [{ seq := 5, shared := false, img := [0x01, 0x02, 0x03] }],
      delivered := 2 }] }

/-- The hypotheses of Obligations.CapturesFillCratesForTheHost, a state for each clause. -/
theorem witness_CapturesFillCratesForTheHost :
    (∃ s : State, s = stateCapturesFillCratesForTheHost1 ∧
      s.wf = true ∧ opIn s 3 7 0x21 = true ∧ (opOf s 3 7).stage = 0 ∧ (s.chute (objIndex (opOf s 3 7).obj)).consumer ≠ 0 ∧
        (s.capFirst 0 fun (k : Cap) => decide (k.req = 1)) = none ∧ s.cap? 3 7 = none) ∧
    (∃ s : State, s = { stateCapturesFillCratesForTheHost1 with chutes := [] } ∧
      s.wf = true ∧ opIn s 3 7 0x21 = true ∧ (opOf s 3 7).stage = 0 ∧ (s.chute (objIndex (opOf s 3 7).obj)).consumer = 0 ∧
        s.cap? 3 7 = none ∧ (opOf s 3 7).sess = 3 ∧ (opOf s 3 7).tag = 7) ∧
    (∃ s : State, s = stateCapturesFillCratesForTheHost3 ∧
      s.wf = true ∧
        (s.capFirst 0 fun (k : Cap) => decide (k.req = 1)) = some ((s.capFirst 0 fun (k : Cap) => decide (k.req = 1)).getD cap0) ∧
        ((s.capFirst 0 fun (k : Cap) => decide (k.req = 1)).getD cap0).queue = [] ∧
        ((s.capFirst 0 fun (k : Cap) => decide (k.req = 1)).getD cap0).fin = none ∧
        s.cratesHeld ((s.capFirst 0 fun (k : Cap) => decide (k.req = 1)).getD cap0).sess ((s.capFirst 0 fun (k : Cap) => decide (k.req = 1)).getD cap0).store < s.crateReserve ((s.capFirst 0 fun (k : Cap) => decide (k.req = 1)).getD cap0).sess ((s.capFirst 0 fun (k : Cap) => decide (k.req = 1)).getD cap0).store) ∧
    (∃ s : State, s = (put stateCapturesFillCratesForTheHost3 [(CU_HACK, 0, 1, 0), (CU_POOL_L_RES, 0, 3, 0),
      (CU_LPOOL_SIZE, 4, 0, 0), (CU_CPOOL_SIZE, 4, 0, 0)]) ∧
      s.wf = true ∧
        (s.capFirst 0 fun (k : Cap) => decide (k.req = 1)) = some ((s.capFirst 0 fun (k : Cap) => decide (k.req = 1)).getD cap0) ∧
        ((s.capFirst 0 fun (k : Cap) => decide (k.req = 1)).getD cap0).queue = [] ∧
        ((s.capFirst 0 fun (k : Cap) => decide (k.req = 1)).getD cap0).fin = none ∧
        s.crateReserve ((s.capFirst 0 fun (k : Cap) => decide (k.req = 1)).getD cap0).sess ((s.capFirst 0 fun (k : Cap) => decide (k.req = 1)).getD cap0).store ≤ s.cratesHeld ((s.capFirst 0 fun (k : Cap) => decide (k.req = 1)).getD cap0).sess ((s.capFirst 0 fun (k : Cap) => decide (k.req = 1)).getD cap0).store ∧
        0 < s.sharedFree ((s.capFirst 0 fun (k : Cap) => decide (k.req = 1)).getD cap0).store) ∧
    (∃ s : State, s = { (put stateCapturesFillCratesForTheHost3 [(CU_HACK, 0, 1, 0), (CU_POOL_L_RES, 0, 3, 0)]) with
      ops := [{ op 3 7 0x21 16385 [0, 0, 0, 4] with flags := 1, stage := 1 }] } ∧
      s.wf = true ∧
        (s.capFirst 0 fun (k : Cap) => decide (k.req = 1)) = some ((s.capFirst 0 fun (k : Cap) => decide (k.req = 1)).getD cap0) ∧
        ((s.capFirst 0 fun (k : Cap) => decide (k.req = 1)).getD cap0).queue = [] ∧
        ((s.capFirst 0 fun (k : Cap) => decide (k.req = 1)).getD cap0).fin = none ∧
        s.crateReserve ((s.capFirst 0 fun (k : Cap) => decide (k.req = 1)).getD cap0).sess ((s.capFirst 0 fun (k : Cap) => decide (k.req = 1)).getD cap0).store ≤ s.cratesHeld ((s.capFirst 0 fun (k : Cap) => decide (k.req = 1)).getD cap0).sess ((s.capFirst 0 fun (k : Cap) => decide (k.req = 1)).getD cap0).store ∧
        s.sharedFree ((s.capFirst 0 fun (k : Cap) => decide (k.req = 1)).getD cap0).store = 0 ∧
        s.op? ((s.capFirst 0 fun (k : Cap) => decide (k.req = 1)).getD cap0).sess ((s.capFirst 0 fun (k : Cap) => decide (k.req = 1)).getD cap0).tag = some ((s.op? ((s.capFirst 0 fun (k : Cap) => decide (k.req = 1)).getD cap0).sess ((s.capFirst 0 fun (k : Cap) => decide (k.req = 1)).getD cap0).tag).getD op0) ∧
        ((s.op? ((s.capFirst 0 fun (k : Cap) => decide (k.req = 1)).getD cap0).sess ((s.capFirst 0 fun (k : Cap) => decide (k.req = 1)).getD cap0).tag).getD op0).flags.testBit 0 = true) ∧
    (∃ s : State, s = (put stateCapturesFillCratesForTheHost3 [(CU_HACK, 0, 1, 0), (CU_POOL_L_RES, 0, 3, 0)]) ∧
      s.wf = true ∧
        (s.capFirst 0 fun (k : Cap) => decide (k.req = 1)) = some ((s.capFirst 0 fun (k : Cap) => decide (k.req = 1)).getD cap0) ∧
        ((s.capFirst 0 fun (k : Cap) => decide (k.req = 1)).getD cap0).queue = [] ∧
        ((s.capFirst 0 fun (k : Cap) => decide (k.req = 1)).getD cap0).fin = none ∧
        s.crateReserve ((s.capFirst 0 fun (k : Cap) => decide (k.req = 1)).getD cap0).sess ((s.capFirst 0 fun (k : Cap) => decide (k.req = 1)).getD cap0).store ≤ s.cratesHeld ((s.capFirst 0 fun (k : Cap) => decide (k.req = 1)).getD cap0).sess ((s.capFirst 0 fun (k : Cap) => decide (k.req = 1)).getD cap0).store ∧
        s.sharedFree ((s.capFirst 0 fun (k : Cap) => decide (k.req = 1)).getD cap0).store = 0 ∧
        s.op? ((s.capFirst 0 fun (k : Cap) => decide (k.req = 1)).getD cap0).sess ((s.capFirst 0 fun (k : Cap) => decide (k.req = 1)).getD cap0).tag = some ((s.op? ((s.capFirst 0 fun (k : Cap) => decide (k.req = 1)).getD cap0).sess ((s.capFirst 0 fun (k : Cap) => decide (k.req = 1)).getD cap0).tag).getD op0) ∧
        ((s.op? ((s.capFirst 0 fun (k : Cap) => decide (k.req = 1)).getD cap0).sess ((s.capFirst 0 fun (k : Cap) => decide (k.req = 1)).getD cap0).tag).getD op0).flags.testBit 0 = false ∧
        ((s.op? ((s.capFirst 0 fun (k : Cap) => decide (k.req = 1)).getD cap0).sess ((s.capFirst 0 fun (k : Cap) => decide (k.req = 1)).getD cap0).tag).getD op0).opcode = 33 ∧
        ((s.op? ((s.capFirst 0 fun (k : Cap) => decide (k.req = 1)).getD cap0).sess ((s.capFirst 0 fun (k : Cap) => decide (k.req = 1)).getD cap0).tag).getD op0).fin = none ∧
        s.cap? ((s.capFirst 0 fun (k : Cap) => decide (k.req = 1)).getD cap0).sess ((s.capFirst 0 fun (k : Cap) => decide (k.req = 1)).getD cap0).tag = some ((s.capFirst 0 fun (k : Cap) => decide (k.req = 1)).getD cap0) ∧
        ((s.capFirst 0 fun (k : Cap) => decide (k.req = 1)).getD cap0).crate = none ∧
        ((s.capFirst 0 fun (k : Cap) => decide (k.req = 1)).getD cap0).heldCrates = [] ∧
        (s.capFirst 0 fun (k : Cap) => decide (k.req = 2) && (decide (s.cratesHeld k.sess k.store < s.crateReserve k.sess k.store) || decide (0 < s.sharedFree k.store))) = none ∧
        (∀ x ∈ s.crateScrub, x.1 = 0 → s.clock < x.2) ∧ s.cap? 3 7 = some ((s.cap? 3 7).getD cap0) ∧
        ((s.cap? 3 7).getD cap0).crate = none) ∧
    (∃ s : State, s = stateCapturesFillCratesForTheHost7 ∧
      s.wf = true ∧
        (s.capFirst 0 fun (k : Cap) => decide (k.req = 2) && (decide (s.cratesHeld k.sess k.store < s.crateReserve k.sess k.store) || decide (0 < s.sharedFree k.store))) = some ((s.capFirst 0 fun (k : Cap) => decide (k.req = 2) && (decide (s.cratesHeld k.sess k.store < s.crateReserve k.sess k.store) || decide (0 < s.sharedFree k.store))).getD cap0) ∧
        ((s.capFirst 0 fun (k : Cap) => decide (k.req = 2) && (decide (s.cratesHeld k.sess k.store < s.crateReserve k.sess k.store) || decide (0 < s.sharedFree k.store))).getD cap0).queue = [] ∧
        ((s.capFirst 0 fun (k : Cap) => decide (k.req = 2) && (decide (s.cratesHeld k.sess k.store < s.crateReserve k.sess k.store) || decide (0 < s.sharedFree k.store))).getD cap0).fin = none ∧
        s.cratesHeld ((s.capFirst 0 fun (k : Cap) => decide (k.req = 2) && (decide (s.cratesHeld k.sess k.store < s.crateReserve k.sess k.store) || decide (0 < s.sharedFree k.store))).getD cap0).sess ((s.capFirst 0 fun (k : Cap) => decide (k.req = 2) && (decide (s.cratesHeld k.sess k.store < s.crateReserve k.sess k.store) || decide (0 < s.sharedFree k.store))).getD cap0).store < s.crateReserve ((s.capFirst 0 fun (k : Cap) => decide (k.req = 2) && (decide (s.cratesHeld k.sess k.store < s.crateReserve k.sess k.store) || decide (0 < s.sharedFree k.store))).getD cap0).sess ((s.capFirst 0 fun (k : Cap) => decide (k.req = 2) && (decide (s.cratesHeld k.sess k.store < s.crateReserve k.sess k.store) || decide (0 < s.sharedFree k.store))).getD cap0).store ∧
        s.cap? 3 7 = some ((s.cap? 3 7).getD cap0) ∧ s.op? 3 7 = some (opOf s 3 7) ∧
        ((s.cap? 3 7).getD cap0).heldCrates = ((s.cap? 3 7).getD cap0).heldCrates.headD held0 :: ((s.cap? 3 7).getD cap0).heldCrates.tail ∧
        ((opOf s 3 7).st = OpState.halted ∨
        s.rd CU_HACK ((s.cap? 3 7).getD cap0).chute + ((s.cap? 3 7).getD cap0).slots ≤ (((s.cap? 3 7).getD cap0).heldCrates.headD held0).seq)) ∧
    (∃ s : State, s = stateCapturesFillCratesForTheHost8 ∧
      s.wf = true ∧
        List.find? (fun (e : ℕ × ℕ) => decide (e.1 = 0) && decide (e.2 ≤ s.clock)) s.crateScrub = some ((List.find? (fun (e : ℕ × ℕ) => decide (e.1 = 0) && decide (e.2 ≤ s.clock)) s.crateScrub).getD (0,
        0))) ∧
    (∃ s : State, s = { (put stateCapturesFillCratesForTheHost8 [(CU_HACK, 0, 1, 0)]) with
      caps := [{ cap0 with
        sess := 3,
        tag := 7,
        chute := 1,
        slots := 4,
        base := 65536,
        crate := some crate0,
        seq := 5,
        delivered := 2 }],
      crateScrub := [] } ∧
      s.wf = true ∧ s.cap? 3 7 = some ((s.cap? 3 7).getD cap0) ∧
        ((s.cap? 3 7).getD cap0).crate = some (((s.cap? 3 7).getD cap0).crate.getD crate0) ∧
        ((s.cap? 3 7).getD cap0).queue = [] ∧ ((s.cap? 3 7).getD cap0).fin = none ∧ ((s.cap? 3 7).getD cap0).part = [] ∧
        ((s.cap? 3 7).getD cap0).enc = 0 ∧ ((s.cap? 3 7).getD cap0).resumeGap = false ∧ s.capRuns 3 7 = true ∧
        (s.chute ((s.cap? 3 7).getD cap0).chute).held = (s.chute ((s.cap? 3 7).getD cap0).chute).held.headD entry0 :: (s.chute ((s.cap? 3 7).getD cap0).chute).held.tail ∧
        (s.chute ((s.cap? 3 7).getD cap0).chute).read = 0 ∧
        ((s.chute ((s.cap? 3 7).getD cap0).chute).held.headD entry0).gap = false ∧
        ((s.chute ((s.cap? 3 7).getD cap0).chute).held.headD entry0).eop = true ∧
        16 ≤ ((s.cap? 3 7).getD cap0).left (((s.cap? 3 7).getD cap0).crate.getD crate0)) ∧
    (∃ s : State, s = stateCapturesFillCratesForTheHost10 ∧
      s.wf = true ∧ s.cap? 3 7 = some ((s.cap? 3 7).getD cap0) ∧
        ((s.cap? 3 7).getD cap0).crate = some (((s.cap? 3 7).getD cap0).crate.getD crate0) ∧
        (((s.cap? 3 7).getD cap0).crate.getD crate0).tOpen = some ((((s.cap? 3 7).getD cap0).crate.getD crate0).tOpen.getD 0) ∧
        (((s.cap? 3 7).getD cap0).flush = 0 ∨
        s.tm.device < (((s.cap? 3 7).getD cap0).crate.getD crate0).tOpen.getD 0 + ((s.cap? 3 7).getD cap0).flush * 1000000000)) ∧
    (∃ s : State, s = stateCapturesFillCratesForTheHost11 ∧
      s.wf = true ∧ s.cap? 3 7 = some ((s.cap? 3 7).getD cap0) ∧
        ((s.cap? 3 7).getD cap0).crate = some (((s.cap? 3 7).getD cap0).crate.getD crate0) ∧
        (((s.cap? 3 7).getD cap0).crate.getD crate0).tOpen = some ((((s.cap? 3 7).getD cap0).crate.getD crate0).tOpen.getD 0) ∧
        ((s.cap? 3 7).getD cap0).flush ≠ 0 ∧
        (((s.cap? 3 7).getD cap0).crate.getD crate0).tOpen.getD 0 + ((s.cap? 3 7).getD cap0).flush * 1000000000 ≤ s.tm.device ∧
        ((s.cap? 3 7).getD cap0).fin = none ∧ ((s.cap? 3 7).getD cap0).run = [] ∧ ((s.cap? 3 7).getD cap0).total = 0 ∧
        ((s.cap? 3 7).getD cap0).limit = 0) ∧
    (∃ s : State, s = stateCapturesFillCratesForTheHost12 ∧
      s.wf = true ∧ s.cap? 3 7 = some ((s.cap? 3 7).getD cap0) ∧ s.op? 3 7 = some (opOf s 3 7) ∧
        ((s.cap? 3 7).getD cap0).heldCrates = ((s.cap? 3 7).getD cap0).heldCrates.headD held0 :: ((s.cap? 3 7).getD cap0).heldCrates.tail ∧
        (opOf s 3 7).st ≠ OpState.halted ∧
        (((s.cap? 3 7).getD cap0).heldCrates.headD held0).seq < s.rd CU_HACK ((s.cap? 3 7).getD cap0).chute + ((s.cap? 3 7).getD cap0).slots ∧
        s.stagingRoom (if ((s.cap? 3 7).getD cap0).store = 0 then 4096 else 65536) = true ∧
        ((s.cap? 3 7).getD cap0).fin = none) :=
  ⟨⟨_, rfl, by decide +kernel⟩,
   ⟨_, rfl, by decide +kernel⟩,
   ⟨_, rfl, by decide +kernel⟩,
   ⟨_, rfl, by decide +kernel⟩,
   ⟨_, rfl, by decide +kernel⟩,
   ⟨_, rfl, by decide +kernel⟩,
   ⟨_, rfl, by decide +kernel⟩,
   ⟨_, rfl, by decide +kernel⟩,
   ⟨_, rfl, by decide +kernel⟩,
   ⟨_, rfl, by decide +kernel⟩,
   ⟨_, rfl, by decide +kernel⟩,
   ⟨_, rfl, by decide +kernel⟩⟩

end Sys2Proof.Tests
end

section
/-! # Good form through every command

`State.wf` is a conjunction of some forty facts about tables. Here each is a named field of `State.Good`, so that an update
of the state is an update of the proof. -/

namespace Sys2Proof.Machine

-- The proofs of the many lemmas below are elaborated one after another: a thread for each would not fit in memory.
set_option Elab.async false

open Reg

section

variable {full : Prop} {α : Type} {m : SMap α} {x : Nat} {v : α}

/-- The keys of the table rise strictly; claimed only where `full` holds. -/
def Sorted (full : Prop) (m : SMap α) : Prop := full → smSorted m = true

theorem Sorted.nil : Sorted full ([] : SMap α) := fun _ => rfl

theorem Sorted.set [DecidableEq α] {d : α} (h : Sorted full m) : Sorted full (smSet d m x v) :=
  fun f => smSorted_smSet d (h f) x v

theorem Sorted.ins (h : Sorted full m) : Sorted full (smIns m x v) := fun f => smSorted_smIns (h f) x v

theorem Sorted.del (h : Sorted full m) : Sorted full (smDel m x) := fun f => smSorted_smDel (h f) x

theorem Sorted.filter {p : Nat × α → Bool} (h : Sorted full m) : Sorted full (m.filter p) := fun f => smSorted_filter (h f) p

theorem Sorted.mapVals {f : Nat × α → Nat × α} (h : Sorted full m) (hf : ∀ e, (f e).1 = e.1) : Sorted full (m.map f) :=
  fun hfull => smSorted_map (h hfull) f hf

theorem Sorted.either {a b : SMap α} {c : Prop} {_ : Decidable c} (ha : Sorted full a) (hb : Sorted full b) :
    Sorted full (if c then a else b) := by
  split <;> assumption

/-- A table written entry by entry. -/
theorem Sorted.fold {β : Type} {f : SMap α → β → SMap α} {l : List β} (h : Sorted full m)
    (hf : ∀ {m b}, Sorted full m → Sorted full (f m b)) : Sorted full (l.foldl f m) := by
  induction l generalizing m with
  | nil => exact h
  | cons b l ih => exact ih (hf h)

/-- A table written out for a rising list of keys. -/
theorem Sorted.ofKeys {l : List Nat} {f : Nat → α} (h : l.Pairwise (· < ·)) : Sorted full (l.map fun n => (n, f n)) :=
  fun _ => (smSorted_iff _).mpr (List.pairwise_map.mpr h)

/-- A list as a table of its places. -/
theorem Sorted.ofList {l : List α} : Sorted full (l.mapIdx fun i w => (i, w)) :=
  fun _ => (smSorted_iff _).mpr (List.pairwise_iff_getElem.mpr (by simp))

/-- What a table holds is its default or one of its entries. -/
theorem smGet_mem (d : α) (m : SMap α) (x : Nat) : smGet d m x = d ∨ (x, smGet d m x) ∈ m := by
  induction m with
  | nil => exact .inl rfl
  | cons e m ih =>
    obtain ⟨k, w⟩ := e
    simp only [smGet]
    split
    · rename_i h; exact .inr (h ▸ List.mem_cons_self ..)
    · split
      · exact .inl rfl
      · exact ih.imp id (List.mem_cons_of_mem _)

/-- What holds of the default and of every entry holds of what is read. -/
theorem smGet_of_mem {p : α → Prop} {d : α} (hd : p d) (h : ∀ e ∈ m, p e.2) (x : Nat) : p (smGet d m x) := by
  rcases smGet_mem d m x with e | e
  · rwa [e]
  · exact h _ e

/-- What holds of every entry and of the value written holds of every entry after the write. -/
theorem forall_mem_smSet [DecidableEq α] {p : α → Prop} {d : α} (h : ∀ e ∈ m, p e.2) (hv : p v) :
    ∀ e ∈ smSet d m x v, p e.2 := by
  intro e he
  rcases mem_smSet he with rfl | he
  · exact hv
  · exact h e he

theorem forall_mem_smDel {p : α → Prop} (h : ∀ e ∈ m, p e.2) : ∀ e ∈ smDel m x, p e.2 := fun e he => h e (mem_smDel he)

end

/-! ### The parts of the state -/

/-- A Helm's tables are in good form. -/
structure Helm.Good (full : Prop) (m : Helm) : Prop where
  g : Sorted full m.g
  ram : full → smWf 0 m.ram = true
  imem : Sorted full m.imem
  timers : Sorted full m.timers
  ports : Sorted full m.ports

/-- An overhead processor's tables are in good form. -/
structure Ovh.Good (full : Prop) (o : Ovh) : Prop where
  rx : Sorted full o.rx
  tx : Sorted full o.tx
  sent : Sorted full o.sent
  parity : Sorted full o.parity
  viol : Sorted full o.viol
  runs : Sorted full o.runs
  acc : Sorted full o.acc
  latest : Sorted full o.latest
  cand : Sorted full o.cand
  bad : Sorted full o.bad
  good : Sorted full o.good
  excBad : Sorted full o.excBad
  excGood : Sorted full o.excGood
  ssfSec : Sorted full o.ssfSec

/-- A framer's table of lanes is in good form. -/
structure Framer.Good (full : Prop) (f : Framer) : Prop where
  lanes : Sorted full f.lanes

/-- So is that of a slice's framer. -/
structure Line.Good (full : Prop) (l : Line) : Prop where
  fr : l.fr.Good full

/-- A capture's bins are in good form. -/
structure Cap.Good (full : Prop) (k : Cap) : Prop where
  bins : Sorted full k.bins

/-- A dump's tables are in good form. -/
structure Dump.Good (full : Prop) (d : Dump) : Prop where
  counters : Sorted full d.counters
  sections : Sorted full d.sections

/-- Good form of the machine, a field for each table. Where `full` fails only memory's canonical form is claimed, which
every command keeps by itself. -/
structure State.Good (full : Prop) (s : State) : Prop where
  mem : s.mem.wf = true
  regs : Sorted full s.regs
  cnt : Sorted full s.cnt
  sessions : Sorted full s.sessions
  hiLatch : Sorted full s.hiLatch
  helms : Sorted full s.helms
  helmGood : ∀ e ∈ s.helms, e.2.Good full
  ovhs : Sorted full s.ovhs
  ovhGood : ∀ e ∈ s.ovhs, e.2.Good full
  lines : Sorted full s.lines
  lineGood : ∀ e ∈ s.lines, e.2.Good full
  chart : Sorted full s.chart
  groups : Sorted full s.groups
  chutes : Sorted full s.chutes
  capGood : ∀ k ∈ s.caps, k.Good full
  pm : Sorted full s.pm
  pats : Sorted full s.pats
  bays : Sorted full s.bays
  hist : Sorted full s.feed.hist
  crossed : Sorted full s.feed.crossed
  fns : Sorted full s.host.fns
  objs : Sorted full s.own.objs
  pages : Sorted full s.own.pages
  sources : Sorted full s.beacon.sources
  vec : Sorted full s.beacon.vec
  latchData : Sorted full s.beacon.latchData
  latchCause : Sorted full s.beacon.latchCause
  dumpGood : ∀ d ∈ s.health.dump, d.Good full

/-! ### Updates that touch no table -/

section

variable {full : Prop}

theorem Helm.Good.update {m : Helm} {ps image badRam z n c v pc ev fc tm fcOn queue ovf run lastKind loops posted stall stagedOh stagedDef
    progDef stopReq stopWait bindTag unbindTags} (h : m.Good full) :
    ({ m with
        ps := ps, image := image, badRam := badRam, z := z, n := n, c := c, v := v, pc := pc, ev := ev, fc := fc, tm := tm
        fcOn := fcOn, queue := queue, ovf := ovf, run := run, lastKind := lastKind, loops := loops, posted := posted
        stall := stall, stagedOh := stagedOh, stagedDef := stagedDef, progDef := progDef, stopReq := stopReq
        stopWait := stopWait, bindTag := bindTag, unbindTags := unbindTags } : Helm).Good full :=
  { h with }

theorem Ovh.Good.update {o : Ovh} {txPend hw prog dcl latch secDcl lastDcl oofSince ifSince oomSince mfSince csqPend csq insLeft
    insEvery csfAt trcAt txN} (h : o.Good full) :
    ({ o with
        txPend := txPend, hw := hw, prog := prog, dcl := dcl, latch := latch, secDcl := secDcl, lastDcl := lastDcl
        oofSince := oofSince, ifSince := ifSince, oomSince := oomSince, mfSince := mfSince, csqPend := csqPend, csq := csq
        insLeft := insLeft, insEvery := insEvery, csfAt := csfAt, trcAt := trcAt, txN := txN } : Ovh).Good full :=
  { h with }

theorem Framer.Good.update {f : Framer} {cands win mfFrom mfWords mfLast mfRun blk cg cgEven cgGood frames fresh tickDue}
    (h : f.Good full) :
    ({ f with
        cands := cands, win := win, mfFrom := mfFrom, mfWords := mfWords, mfLast := mfLast, mfRun := mfRun, blk := blk
        cg := cg, cgEven := cgEven, cgGood := cgGood, frames := frames, fresh := fresh, tickDue := tickDue } : Framer).Good full :=
  { h with }

theorem Line.Good.update {l : Line} {chargeTo charge acq opts sigSince adaptAt live autoneg loop loopKind loopDue loopRem loopFrom
    probe probeDue probeMs} (h : l.Good full) :
    ({ l with
        chargeTo := chargeTo, charge := charge, acq := acq, opts := opts, sigSince := sigSince, adaptAt := adaptAt, live := live
        autoneg := autoneg, loop := loop, loopKind := loopKind, loopDue := loopDue, loopRem := loopRem, loopFrom := loopFrom
        probe := probe, probeDue := probeDue, probeMs := probeMs } : Line).Good full :=
  { h with }

theorem Cap.Good.update {k : Cap} {sess tag chute enc bound loss store slots limit flush base req crate seq heldCrates delivered queue
    part began last repAt run total sum t0 t1 resumeGap gaps fin} (h : k.Good full) :
    ({ k with
        sess := sess, tag := tag, chute := chute, enc := enc, bound := bound, loss := loss, store := store, slots := slots
        limit := limit, flush := flush, base := base, req := req, crate := crate, seq := seq, heldCrates := heldCrates
        delivered := delivered, queue := queue, part := part, began := began, last := last, repAt := repAt, run := run
        total := total, sum := sum, t0 := t0, t1 := t1, resumeGap := resumeGap, gaps := gaps, fin := fin } : Cap).Good full :=
  { h with }

/-- The parts of the state that hold some tables and something else may change in the rest. -/
theorem State.Good.update {s : State} {pending clock freeCtr out tm coreAcc ops crateScrub sec pmRolled power keep boot host own mem
    beacon feed health} (h : s.Good full)
    (hmem : mem.wf = s.mem.wf := by rfl) (hfns : host.fns = s.host.fns := by rfl) (hobjs : own.objs = s.own.objs := by rfl)
    (hpages : own.pages = s.own.pages := by rfl) (hsources : beacon.sources = s.beacon.sources := by rfl)
    (hvec : beacon.vec = s.beacon.vec := by rfl) (hdata : beacon.latchData = s.beacon.latchData := by rfl)
    (hcause : beacon.latchCause = s.beacon.latchCause := by rfl) (hhist : feed.hist = s.feed.hist := by rfl)
    (hcrossed : feed.crossed = s.feed.crossed := by rfl) (hdump : health.dump = s.health.dump := by rfl) :
    ({ s with
        pending := pending, clock := clock, freeCtr := freeCtr, out := out, tm := tm, coreAcc := coreAcc, ops := ops
        crateScrub := crateScrub, sec := sec, pmRolled := pmRolled, power := power, keep := keep, boot := boot, host := host
        own := own, mem := mem, beacon := beacon, feed := feed, health := health } : State).Good full :=
  { h with
    mem := hmem ▸ h.mem, fns := hfns ▸ h.fns, objs := hobjs ▸ h.objs, pages := hpages ▸ h.pages
    sources := hsources ▸ h.sources, vec := hvec ▸ h.vec, latchData := hdata ▸ h.latchData
    latchCause := hcause ▸ h.latchCause, hist := hhist ▸ h.hist, crossed := hcrossed ▸ h.crossed
    dumpGood := hdump ▸ h.dumpGood }

end

theorem sorted_true {α : Type} {m : SMap α} : Sorted True m ↔ smSorted m = true := forall_const True

theorem Helm.wf_iff (m : Helm) : m.wf = true ↔ m.Good True := by
  simp only [Helm.wf, Bool.and_eq_true, ← sorted_true]
  constructor
  · intro h; casesm* _ ∧ _; constructor <;> intros <;> assumption
  · rintro ⟨g, ram, imem, timers, ports⟩; exact ⟨⟨⟨⟨g, ram trivial⟩, imem⟩, timers⟩, ports⟩

theorem Ovh.wf_iff (o : Ovh) : o.wf = true ↔ o.Good True := by
  simp only [Ovh.wf, Bool.and_eq_true, ← sorted_true]
  constructor
  · intro h; casesm* _ ∧ _; constructor <;> assumption
  · rintro ⟨⟩; and_intros <;> assumption

theorem Dump.wf_iff (d : Dump) : d.wf = true ↔ d.Good True := by
  simp only [Dump.wf, Bool.and_eq_true, ← sorted_true]
  exact ⟨fun h => ⟨h.1, h.2⟩, fun h => ⟨h.counters, h.sections⟩⟩

theorem Line.lanes_iff (l : Line) : smSorted l.fr.lanes = true ↔ l.Good True :=
  ⟨fun h => ⟨⟨fun _ => h⟩⟩, fun h => h.fr.lanes trivial⟩

theorem Cap.bins_iff (k : Cap) : smSorted k.bins = true ↔ k.Good True := ⟨fun h => ⟨fun _ => h⟩, fun h => h.bins trivial⟩

theorem dump_wf_iff (d : Option Dump) : (d.map Dump.wf).getD true = true ↔ ∀ x ∈ d, x.Good True := by
  cases d <;> simp [Dump.wf_iff]

/-- The good form that the statements assume is `Good` with every claim made. -/
theorem State.wf_iff (s : State) : s.wf = true ↔ s.Good True := by
  simp only [State.wf, Bool.and_eq_true, List.all_eq_true, Helm.wf_iff, Ovh.wf_iff, Line.lanes_iff, Cap.bins_iff, dump_wf_iff]
  simp only [← sorted_true]
  constructor
  · intro h; casesm* _ ∧ _; constructor <;> assumption
  · rintro ⟨⟩; and_intros <;> assumption

theorem Helm.Good.init {full : Prop} : Helm.init.Good full := ⟨.nil, fun _ => rfl, .nil, .nil, .nil⟩

theorem Ovh.Good.init {full : Prop} : Ovh.init.Good full := by constructor <;> exact .nil

theorem Framer.Good.init {full : Prop} : Framer.init.Good full := ⟨.nil⟩

theorem Line.Good.init {full : Prop} : Line.init.Good full := ⟨.init⟩

theorem Sorted.of_false {α : Type} {m : SMap α} : Sorted False m := False.elim

theorem Helm.good_false (m : Helm) : m.Good False := by constructor <;> exact False.elim

theorem Ovh.good_false (o : Ovh) : o.Good False := by constructor <;> exact False.elim

theorem Line.good_false (l : Line) : l.Good False := ⟨⟨Sorted.of_false⟩⟩

theorem Cap.good_false (k : Cap) : k.Good False := ⟨Sorted.of_false⟩

theorem Dump.good_false (d : Dump) : d.Good False := by constructor <;> exact False.elim

/-- With no claim but memory's, `Good` is memory's canonical form. -/
theorem State.mem_wf_iff (s : State) : s.mem.wf = true ↔ s.Good False := by
  refine ⟨fun h => ?_, State.Good.mem⟩
  constructor <;>
    simp only [h, Sorted.of_false, Helm.good_false, Ovh.good_false, Line.good_false, Cap.good_false, Dump.good_false, implies_true]

/-- A command that answers a next state answers one in good form. -/
def Kept (full : Prop) (r : Res) : Prop := ∀ t, r = .next t → t.Good full

/-! ### The shapes of a definition: a choice, a match on an option, a fold -/

section

variable {full : Prop} {s t : State} {r r' : Res} {α : Type} {c : Prop} {_ : Decidable c}

theorem State.Good.either (hs : s.Good full) (ht : t.Good full) : (if c then s else t).Good full := by
  split <;> assumption

theorem Helm.Good.either {a b : Helm} (ha : a.Good full) (hb : b.Good full) : (if c then a else b).Good full := by
  split <;> assumption

theorem Ovh.Good.either {a b : Ovh} (ha : a.Good full) (hb : b.Good full) : (if c then a else b).Good full := by
  split <;> assumption

theorem Framer.Good.either {a b : Framer} (ha : a.Good full) (hb : b.Good full) : (if c then a else b).Good full := by
  split <;> assumption

theorem Line.Good.either {a b : Line} (ha : a.Good full) (hb : b.Good full) : (if c then a else b).Good full := by
  split <;> assumption

theorem Cap.Good.either {a b : Cap} (ha : a.Good full) (hb : b.Good full) : (if c then a else b).Good full := by
  split <;> assumption

theorem State.Good.foldl {f : State → α → State} {l : List α} (h : s.Good full)
    (hf : ∀ {t x}, t.Good full → (f t x).Good full) : (l.foldl f s).Good full := by
  induction l generalizing s with
  | nil => exact h
  | cons x l ih => exact ih (hf h)

/-- What a match knows of the state in a pair. -/
theorem State.Good.snd {p : α × State} {x : α} (e : p = (x, t)) (h : p.2.Good full) : t.Good full := by
  subst e; exact h

theorem State.Good.fst {p : State × α} {x : α} (e : p = (t, x)) (h : p.1.Good full) : t.Good full := by
  subst e; exact h

/-- What a fallible effect answers is in good form, with or without a fault. -/
def Answered (full : Prop) : Except (Nat × State) State → Prop
  | .ok s => s.Good full
  | .error e => e.2.Good full

theorem State.Good.ok (h : s.Good full) : Answered full (.ok s) := h

theorem Answered.error {e : Nat × State} (h : e.2.Good full) : Answered full (.error e) := h

theorem Answered.of_ok {a : Except (Nat × State) State} (e : a = .ok s) (h : Answered full a) : s.Good full := by
  subst e; exact h

theorem Answered.of_error {a : Except (Nat × State) State} {x : Nat × State} (e : a = .error x) (h : Answered full a) :
    x.2.Good full := by
  subst e; exact h

theorem Answered.either {a b : Except (Nat × State) State} (ha : Answered full a) (hb : Answered full b) :
    Answered full (if c then a else b) := by
  split <;> assumption

/-- An answer that may be missing comes, where it does, with a state in good form. -/
def Offered (full : Prop) (o : Option (α × State)) : Prop := ∀ x ∈ o, x.2.Good full

theorem Offered.none : Offered full (.none : Option (α × State)) :=
  fun _ h => absurd h (Option.not_mem_none _)

theorem State.Good.offer {x : α × State} (h : x.2.Good full) : Offered full (some x) :=
  fun _ e => Option.mem_some_iff.mp e ▸ h

theorem State.Good.reply {x : α} (h : s.Good full) : Offered full (some (x, s)) := .offer h

theorem Offered.of_some {o : Option (α × State)} {x : α × State} (e : o = some x) (h : Offered full o) : x.2.Good full := h x e

theorem Offered.either {a b : Option (α × State)} (ha : Offered full a) (hb : Offered full b) :
    Offered full (if c then a else b) := by
  split <;> assumption

theorem State.Good.next (h : s.Good full) : Kept full (.next s) := by
  rintro t ⟨⟩; exact h

theorem Kept.either (h : Kept full r) (h' : Kept full r') : Kept full (if c then r else r') := by
  split <;> assumption

theorem Kept.fault (e : Fault) : Kept full (.fault e) := by
  rintro t ⟨⟩

end

end Sys2Proof.Machine

end

section
/-! # What each command keeps

One lemma for each definition that answers a state, a part of one, or a command's result: given good form it answers good
form. A proof follows the definition's own shape, an update by the rule of its operation and a choice by `either`. The
lemmas stand in the model's order, under the names of its parts. -/

namespace Sys2Proof.Machine

open Reg

set_option Elab.async false

variable {full : Prop} {s : State}

/-! ### Machine/Ops -/

theorem State.Good.wr {f v i j} (h : s.Good full) : (s.wr f v i j).Good full := { h with regs := h.regs.set }

theorem State.Good.setFlag {f b i j} (h : s.Good full) : (s.setFlag f b i j).Good full := h.wr

theorem State.Good.bump {f i j n} (h : s.Good full) : (s.bump f i j n).Good full := h.wr

theorem State.Good.setMaskBit {f b on i j} (h : s.Good full) : (s.setMaskBit f b on i j).Good full := h.wr

theorem State.Good.draw (h : s.Good full) : s.draw.Good full := h.update

theorem State.Good.emit {o} (h : s.Good full) : (s.emit o).Good full := h.update

theorem State.Good.count {i n} (h : s.Good full) : (s.count i n).Good full := { h with cnt := h.cnt.set }

theorem State.Good.coreTick (h : s.Good full) : s.coreTick.Good full := by
  unfold State.coreTick
  split
  · exact h
  · dsimp only
    split
    · exact h.update
    · exact h.count.update

theorem State.Good.tick (h : s.Good full) : s.tick.Good full := h.coreTick.update

theorem State.Good.setSess {n x} (h : s.Good full) : (s.setSess n x).Good full := { h with sessions := h.sessions.set }

theorem State.Good.setFn {n x} (h : s.Good full) : (s.setFn n x).Good full := { h with fns := h.fns.set }

theorem State.Good.helm {k} (h : s.Good full) : (s.helm k).Good full := smGet_of_mem .init h.helmGood k

theorem State.Good.setHelm {k x} (h : s.Good full) (hx : x.Good full) : (s.setHelm k x).Good full :=
  { h with helms := h.helms.set, helmGood := forall_mem_smSet h.helmGood hx }

theorem State.Good.ofMem {t : State} (h : s.Good full) (hm : t.mem.wf = true) (e : t = { s with mem := t.mem }) : t.Good full :=
  e ▸ { h with mem := hm }

theorem State.Good.define {a} (h : s.Good full) : (s.define a).Good full :=
  h.ofMem (define_wf h.mem a) (by unfold State.define; split <;> rfl)

theorem State.Good.setByte {a b} (h : s.Good full) : (s.setByte a b).Good full := by
  refine h.ofMem (setByte_wf h.mem a b) ?_
  unfold State.setByte
  split
  · rfl
  · split
    · unfold State.define
      split <;> rfl
    · rfl

theorem State.Good.setBytes {a bs} (h : s.Good full) : (s.setBytes a bs).Good full := by
  induction bs generalizing s a with
  | nil => exact h
  | cons b bs ih => exact ih h.setByte

theorem State.Good.setNum {a n v} (h : s.Good full) : (s.setNum a n v).Good full := h.setBytes

theorem State.Good.markBad {a} (h : s.Good full) : (s.markBad a).Good full := h.either { h with mem := h.mem }

theorem State.Good.coverWords {a n} (h : s.Good full) : (s.coverWords a n).Good full := { h with mem := h.mem }

theorem State.Good.scrubPage {p} (h : s.Good full) : (s.scrubPage p).Good full := { h with mem := scrubPage_wf h.mem p }

theorem State.Good.setSource {k x} (h : s.Good full) : (s.setSource k x).Good full := { h with sources := h.sources.set }

theorem State.Good.fire {k cause data} (h : s.Good full) : (s.fire k cause data).Good full := h.bump.either h.setSource

theorem State.Good.startWake {src} (h : s.Good full) : (s.startWake src).Good full := .either h.wr.wr.update h

theorem State.Good.withLatches {dat cau} (h : s.Good full) (hd : Sorted full dat) (hc : Sorted full cau) :
    ({ s with beacon := { s.beacon with latchData := dat, latchCause := cau } } : State).Good full :=
  { h with latchData := hd, latchCause := hc }

theorem State.Good.latch {k cause data} (h : s.Good full) : (s.latch k cause data).Good full := by
  unfold State.latch
  extract_lets first s1 c0 _ b s2 s3 _ s4
  have h1 : s1.Good full := .either h.wr.wr h.wr
  have h3 : s3.Good full := .setMaskBit (h1.withLatches h1.latchData.set h1.latchCause.set)
  have h4 : s4.Good full := .either h3.update h3
  exact .either h4.startWake h4

theorem State.Good.kfire {k cause data} (h : s.Good full) : (s.kfire k cause data).Good full :=
  .either (.either h.fire.update h.fire) h.latch

theorem State.Good.clearSource {k} (h : s.Good full) : (s.clearSource k).Good full := h.setSource

theorem State.Good.rerouteSource {k} (h : s.Good full) : (s.rerouteSource k).Good full := h.setSource

theorem State.Good.pushStage {x} (h : s.Good full) : (s.pushStage x).Good full := h.update

theorem State.Good.eqWrite {n rec} (h : s.Good full) : (s.eqWrite n rec).Good full :=
  h.pushStage.wr.wr.setSess.count.pushStage.setFlag.either h.pushStage.wr.wr.setSess.count

theorem State.Good.eqOverflow {n} (h : s.Good full) : (s.eqOverflow n).Good full := h.either (h.eqWrite.setSess.either h)

theorem State.Good.eqDrop {n} (h : s.Good full) : (s.eqDrop n).Good full := h.setSess.bump.count

theorem State.Good.eqMessage {n rec} (h : s.Good full) : (s.eqMessage n rec).Good full := by
  dsimp only [State.eqMessage]
  split
  · exact h
  · exact (h.eqOverflow.eqWrite.either h.eqOverflow.eqDrop).either (h.setSess.either h.eqDrop)

theorem State.Good.eqFlush {n} (h : s.Good full) : (s.eqFlush n).Good full := h.setSess.foldl fun h => h.eqMessage

theorem State.Good.modOp {n tag f} (h : s.Good full) : (s.modOp n tag f).Good full := h.update

theorem State.Good.endOp {n tag status result} (h : s.Good full) : (s.endOp n tag status result).Good full := h.modOp

theorem State.Good.endWithData {n tag data len} (h : s.Good full) : (s.endWithData n tag data len).Good full :=
  h.modOp.endOp.either h.modOp.endOp

theorem State.Good.runOp {n tag opcode form f} (h : s.Good full) (hf : ∀ {x t}, t.Good full → (f x t).Good full) :
    (s.runOp n tag opcode form f).Good full := by
  dsimp only [State.runOp]
  split
  · exact .either (hf h) h
  · exact h

/-! ### Machine/Operands -/

theorem Helm.Good.setReg {m : Helm} {r v} (h : m.Good full) : (m.setReg r v).Good full := .either h { h with g := h.g.set }

theorem Helm.Good.withPorts {m : Helm} {ports} (h : m.Good full) (hp : Sorted full ports) :
    ({ m with ports := ports } : Helm).Good full :=
  { h with ports := hp }

theorem Helm.Good.setPort {m : Helm} {p x} (h : m.Good full) : (m.setPort p x).Good full := .withPorts h h.ports.set

/-! ### Machine/Flags -/

theorem Helm.Good.setZN {m : Helm} {r} (h : m.Good full) : (m.setZN r).Good full := h.update

theorem Helm.Good.flagsAdd {m : Helm} {x y cin} (h : m.Good full) : (m.flagsAdd x y cin).Good full := h.setZN.update

theorem Helm.Good.flagsSub {m : Helm} {x y bin} (h : m.Good full) : (m.flagsSub x y bin).Good full := h.setZN.update

theorem Helm.Good.flagsShift {m : Helm} {r k lastOut} (h : m.Good full) : (m.flagsShift r k lastOut).Good full :=
  .either h.setZN h.setZN.update

theorem Helm.Good.flagsSat {m : Helm} {r sat} (h : m.Good full) : (m.flagsSat r sat).Good full := h.setZN.update

theorem Helm.Good.flagsZ {m : Helm} {r} (h : m.Good full) : (m.flagsZ r).Good full := h.update

/-! ### Machine/Walk -/

theorem State.Good.fireFree {k} (h : s.Good full) : (s.fireFree k).Good full := h.draw.draw.fire

theorem State.Good.fireData {k data} (h : s.Good full) : (s.fireData k data).Good full := h.draw.fire

theorem State.Good.matrixErr {f master} (h : s.Good full) : (s.matrixErr f master).Good full := h.bump.wr.fireFree

theorem State.Good.eccCorr {k data} (h : s.Good full) : (s.eccCorr k data).Good full := h.count.fire

theorem State.Good.eccNote {k data patrol} (h : s.Good full) : (s.eccNote k data patrol).Good full := h.wr.wr.setFlag.bump

theorem State.Good.eccLog {k data patrol} (h : s.Good full) : (s.eccLog k data patrol).Good full := h.count.eccNote

theorem State.Good.eccUncorr {k data} (h : s.Good full) : (s.eccUncorr k data).Good full := h.eccLog.fire

theorem State.Good.translate {n swa write} (h : s.Good full) : (s.translate n swa write).2.Good full := by
  dsimp only [State.translate]
  split
  · split
    · exact h.update
    · exact h.update
  · split
    · exact .either h.count.eccUncorr.matrixErr h.count
    · exact h.count.update

theorem State.Good.mapFault {n master cause swa} (h : s.Good full) : (s.mapFault n master cause swa).Good full :=
  h.wr.wr.wr.fireFree

theorem State.Good.violation {n off} (h : s.Good full) : (s.violation n off).Good full := h.bump.wr.fireFree

theorem State.Good.dropMaps {p} (h : s.Good full) : (s.dropMaps p).Good full := h.update

/-! ### Machine/ChuteBase -/

theorem State.Good.setChute {c x} (h : s.Good full) : (s.setChute c x).Good full := { h with chutes := h.chutes.set }

theorem State.Good.chuteDraw {x} (h : s.Good full) : (s.chuteDraw x).Good full := h.either h.draw

theorem State.Good.putGap {c} (h : s.Good full) : (s.putGap c).Good full := h.setChute.bump.count

theorem State.Good.pushMore {c p o v} (h : s.Good full) : (s.pushMore c p o v).Good full :=
  h.setChute.either (h.setChute.either (h.chuteDraw.count.either h.chuteDraw).setChute)

theorem State.Good.pushFirst {c p v} (h : s.Good full) : (s.pushFirst c p v).Good full := by
  dsimp only [State.pushFirst]
  split
  · exact h.setChute
  · exact (h.chuteDraw.putGap.either h.chuteDraw).count.setChute.either h.chuteDraw.setChute

theorem State.Good.chutePush {c p v} (h : s.Good full) : (s.chutePush c p v).Good full := by
  dsimp only [State.chutePush]
  split
  · exact h.pushMore
  · exact h.pushFirst

theorem State.Good.chuteCommit {c p} (h : s.Good full) : (s.chuteCommit c p).Good full := by
  dsimp only [State.chuteCommit]
  split
  · exact h
  · exact h.setChute.either (h.setChute.bump.count.bump.either h.setChute.bump.count)

theorem State.Good.chuteRewind {c p} (h : s.Good full) : (s.chuteRewind c p).Good full := h.setChute

theorem State.Good.chuteTake {c} (h : s.Good full) : (s.chuteTake c).2.Good full := by
  dsimp only [State.chuteTake]
  split
  · exact h
  · exact h.setChute

theorem State.Good.chutePtrReset {c} (h : s.Good full) : (s.chutePtrReset c).Good full :=
  h.setChute.bump.bump.count.count.fireFree

/-! ### Machine/CrateBase -/

theorem State.Good.freeCrate {store shared} (h : s.Good full) : (s.freeCrate store shared).Good full := .either h.update h

theorem Cap.Good.close {k : Cap} {flags now} (h : k.Good full) : (k.close flags now).Good full := by
  dsimp only [Cap.close]
  split
  · exact h
  · exact h.update

theorem Cap.Good.roll {k : Cap} {now} (h : k.Good full) : (k.roll now).Good full :=
  .either h (.either h.close.update h.close.update)

theorem Cap.Good.place {k : Cap} {now n} (h : k.Good full) : (k.place now n).Good full := by
  induction n generalizing k with
  | zero => exact h
  | succ n ih =>
    dsimp only [Cap.place]
    split
    · split
      · exact ih { h with }
      · exact h.roll
    · exact h

theorem Cap.Good.put {k : Cap} {now t r} (h : k.Good full) : (k.put now t r).Good full := h.update.place

theorem Cap.Good.closeRun {k : Cap} {now} (h : k.Good full) : (k.closeRun now).Good full := by
  unfold Cap.closeRun
  extract_lets k1
  have h1 : k1.Good full := .either h (.put (.update h))
  exact .either h1 (.put ⟨.nil⟩)

theorem Cap.Good.putGap {k : Cap} {now data} (h : k.Good full) : (k.putGap now data).Good full := h.closeRun.update.put

theorem Cap.Good.putPacket {k : Cap} {now p} (h : k.Good full) : (k.putPacket now p).Good full := .either h.put.update h.put

theorem Cap.Good.putPacked {k : Cap} {now p} (h : k.Good full) : (k.putPacked now p).Good full := by
  dsimp only [Cap.putPacked]
  split
  · refine .either ?_ h.putPacket
    split
    · exact h.update
    · exact .either h.put.update h.put
  · exact h.putPacket

theorem Cap.Good.putSample {k : Cap} {now e} (h : k.Good full) : (k.putSample now e).Good full :=
  .either h.update (.either h.update h.closeRun.update)

theorem Cap.Good.withBins {k : Cap} {bins total sum t0 t1} (hb : Sorted full bins) :
    ({ k with bins := bins, total := total, sum := sum, t0 := t0, t1 := t1 } : Cap).Good full := ⟨hb⟩

theorem Cap.Good.putValue {k : Cap} {now v us} (h : k.Good full) : (k.putValue now v us).Good full := by
  unfold Cap.putValue
  extract_lets _ k1
  have h1 : k1.Good full := .either (.update h.closeRun) h
  exact .withBins h1.bins.set

theorem Cap.Good.take {k : Cap} {now e} (h : k.Good full) : (k.take now e).Good full := by
  dsimp only [Cap.take]
  refine .either ?_ ?_
  · refine .putGap ?_
    split
    · exact .update (.either h.update.putGap h)
    · exact .either h.update.putGap h
  · refine .either ?_ ?_
    · refine .update ?_
      split
      · exact .update (.either h.update.putGap h)
      · exact .either h.update.putGap h
    · split
      · refine .putPacket (.update ?_)
        split
        · exact .update (.either h.update.putGap h)
        · exact .either h.update.putGap h
      · refine .putPacked (.update ?_)
        split
        · exact .update (.either h.update.putGap h)
        · exact .either h.update.putGap h
      · refine .putSample (.update ?_)
        split
        · exact .update (.either h.update.putGap h)
        · exact .either h.update.putGap h
      · refine .putValue (.update ?_)
        split
        · exact .update (.either h.update.putGap h)
        · exact .either h.update.putGap h

theorem Cap.Good.endFill {k : Cap} {now status result} (h : k.Good full) : (k.endFill now status result).Good full :=
  .either h (.update (.either h.closeRun h.closeRun.close))

theorem State.Good.cap? {n tag k} (h : s.Good full) (e : s.cap? n tag = some k) : k.Good full :=
  h.capGood k (List.mem_of_find?_eq_some e)

theorem State.Good.setCap {x : Cap} (h : s.Good full) (hx : x.Good full) : (s.setCap x).Good full := by
  refine { h with capGood := ?_ }
  intro k hk
  obtain ⟨j, hj, rfl⟩ := List.mem_map.mp hk
  split
  · exact hx
  · exact h.capGood j hj

theorem State.Good.capRegs {k} (h : s.Good full) : (s.capRegs k).Good full := h.wr.wr

theorem State.Good.dropConsumer {c} (h : s.Good full) : (s.dropConsumer c).Good full := h.setChute

theorem State.Good.dropCap {n tag} (h : s.Good full) : (s.dropCap n tag).Good full := by
  have h' : ({ s with caps := s.caps.filter fun x => !(x.sess = n && x.tag = tag) } : State).Good full :=
    { h with capGood := fun k hk => h.capGood k (List.mem_of_mem_filter hk) }
  dsimp only [State.dropCap]
  split
  · exact h
  · refine .dropConsumer (.wr (.foldl ?_ fun h => h.freeCrate))
    split
    · exact h'.freeCrate
    · exact h'

theorem State.Good.capDone {n tag} (h : s.Good full) : (s.capDone n tag).Good full := by
  dsimp only [State.capDone]
  split
  · exact h
  · split
    · exact h.dropCap.endOp.either h
    · exact h

theorem State.Good.capEnd {n tag status result} (h : s.Good full) : (s.capEnd n tag status result).Good full := by
  dsimp only [State.capEnd]
  split
  · exact h.endOp
  · rename_i hk
    exact .capDone (.capRegs (h.setCap (h.cap? hk).endFill))

theorem State.Good.startCap {k : Cap} {role} (h : s.Good full) (hk : k.Good full) : (s.startCap k role).Good full := by
  refine .capRegs { (h.setChute : State.Good full (s.setChute k.chute _)) with capGood := fun j hj => ?_ }
  rcases List.mem_append.mp hj with hj | hj
  · exact h.setChute.capGood j hj
  · exact List.mem_singleton.mp hj ▸ hk

/-! ### Machine/OvhBase -/

theorem State.Good.ovh {c} (h : s.Good full) : (s.ovh c).Good full := smGet_of_mem .init h.ovhGood c

theorem State.Good.setOvh {c x} (h : s.Good full) (hx : x.Good full) : (s.setOvh c x).Good full :=
  { h with ovhs := h.ovhs.set, ovhGood := forall_mem_smSet h.ovhGood hx }

theorem State.Good.setEnt {e x} (h : s.Good full) : (s.setEnt e x).Good full := { h with chart := h.chart.set }

theorem State.Good.enqueue {h kind port cause set payload ovf} (hs : s.Good full) :
    (s.enqueue h kind port cause set payload ovf).Good full :=
  .either (.either (.count (.bump (hs.setHelm hs.helm.update))) (hs.setHelm hs.helm.update)) hs

theorem State.Good.defectEvent {p code set} (h : s.Good full) : (s.defectEvent p code set).Good full :=
  h.foldl fun h => h.enqueue

theorem State.Good.setGrp {g x} (h : s.Good full) : (s.setGrp g x).Good full := { h with groups := h.groups.set }

theorem State.Good.dump {d} (h : s.Good full) (e : s.health.dump = some d) : d.Good full := h.dumpGood d e

theorem State.Good.protScan (h : s.Good full) : s.protScan.Good full := h.foldl fun h => h.either h.setGrp

theorem State.Good.settleDefect {c code layer} (h : s.Good full) : (s.settleDefect c code layer).Good full := by
  dsimp only [State.settleDefect]
  refine .either h ?_
  exact .protScan (.either (.fireFree (.defectEvent (h.setOvh h.ovh.update))) (.defectEvent (h.setOvh h.ovh.update)))

theorem State.Good.hwDefect1 {c code on} (h : s.Good full) : (s.hwDefect1 c code on).Good full :=
  .either h (.settleDefect (h.setOvh h.ovh.update))

theorem Ovh.Good.restart {o : Ovh} (h : o.Good full) : o.restart.Good full :=
  { h with runs := .nil, cand := .nil, bad := .nil, good := .nil, excBad := .nil, excGood := .nil }

theorem State.Good.holdCleared {c} (h : s.Good full) : (s.holdCleared c).Good full :=
  h.foldl fun h => .either (.settleDefect (h.setOvh h.ovh.restart.update)) h

theorem State.Good.hwDefect {c code on} (h : s.Good full) : (s.hwDefect c code on).Good full :=
  .either (h.hwDefect1.holdCleared.foldl fun h => h.holdCleared.either h) h.hwDefect1

theorem State.Good.progDefect {c code layer} (h : s.Good full) : (s.progDefect c code layer).Good full :=
  .settleDefect (h.setOvh h.ovh.update)

/-! ### Machine/PmBase -/

theorem State.Good.setPt {p x} (h : s.Good full) : (s.setPt p x).Good full := { h with pm := h.pm.set }

theorem State.Good.pmScan (h : s.Good full) : s.pmScan.Good full := h.protScan.foldl fun h => h.setPt

theorem State.Good.pmReset {p} (h : s.Good full) : (s.pmReset p).Good full := h.wr.wr.wr.wr.wr.wr.wr.wr.setPt

theorem State.Good.pmAttach {p src sel} (h : s.Good full) : (s.pmAttach p src sel).Good full := h.wr.wr.wr.wr.setPt.setPt

theorem State.Good.pmOrphan {p} (h : s.Good full) : (s.pmOrphan p).Good full := h.wr.setPt

theorem State.Good.pmOrphanObj {n o watchOnly} (h : s.Good full) : (s.pmOrphanObj n o watchOnly).Good full :=
  h.foldl fun h => h.pmOrphan.either h

theorem State.Good.pmIntrusive {i} (h : s.Good full) : (s.pmIntrusive i).Good full := h.foldl fun h => h.setPt.either h

theorem State.Good.pmSwitched {p} (h : s.Good full) : (s.pmSwitched p).Good full := h.foldl fun h => h.setPt.either h

theorem State.Good.soakEnd {o cancelled} (h : s.Good full) : (s.soakEnd o cancelled).Good full :=
  h.pmScan.foldl fun h => h.setPt.either h

/-! ### Machine/PatBase -/

theorem State.Good.setPat {u x} (h : s.Good full) : (s.setPat u x).Good full := { h with pats := h.pats.set }

theorem State.Good.patSeed {u} (h : s.Good full) : (s.patSeed u).Good full := h.wr

theorem State.Good.patStart {u sides code} (h : s.Good full) : (s.patStart u sides code).Good full :=
  (h.wr.wr.setPat.either h.wr.wr).patSeed.either (h.wr.wr.setPat.either h.wr.wr)

theorem State.Good.patStop {u sides} (h : s.Good full) : (s.patStop u sides).Good full :=
  (h.wr.setPat.either h.wr).patSeed.either (h.wr.setPat.either h.wr)

theorem State.Good.patCount {u bits errs} (h : s.Good full) : (s.patCount u bits errs).Good full := h.wr.wr.setPat.either h

theorem State.Good.patRelease {u sides} (h : s.Good full) : (s.patRelease u sides).Good full := h.patStop.setPat

theorem State.Good.endDependent {o status result} (h : s.Good full) : (s.endDependent o status result).Good full :=
  (h.soakEnd.either h).capEnd.either (h.capEnd.either (h.patRelease.either h).endOp)

/-! ### Machine/HelmBase -/

theorem State.Good.setPs {h p} (hs : s.Good full) : (s.setPs h p).Good full :=
  .either hs (.fireFree (hs.setHelm hs.helm.update))

theorem State.Good.refloor (h : s.Good full) : s.refloor.Good full := h.wr

theorem Helm.Good.fallThrough {m : Helm} (h : m.Good full) : m.fallThrough.Good full := h.update

theorem State.Good.helmNext {h} (hs : s.Good full) : (s.helmNext h).Good full := hs.setHelm hs.helm.fallThrough

theorem State.Good.snapRegs {h} (hs : s.Good full) : (s.snapRegs h).Good full := hs.foldl fun h => h.wr

theorem State.Good.rewindPorts {h} (hs : s.Good full) : (s.rewindPorts h).Good full :=
  hs.foldl fun h => h.chuteRewind.either h

theorem State.Good.clearProgDefects {h} (hs : s.Good full) : (s.clearProgDefects h).Good full := by
  dsimp only [State.clearProgDefects]
  refine .foldl (hs.setHelm hs.helm.update) ?_
  intro _ _ h
  split
  · exact h.progDefect
  · exact h

theorem State.Good.dropTxWrites {h} (hs : s.Good full) : (s.dropTxWrites h).Good full := by
  dsimp only [State.dropTxWrites]
  refine .foldl hs ?_
  intro _ _ h
  split
  · exact .either (h.setOvh h.ovh.update) h
  · exact h

theorem State.Good.repin {n} (h : s.Good full) : (s.repin n).Good full := h.update

theorem State.Good.helmLoaded {h} (hs : s.Good full) : (s.helmLoaded h).Good full :=
  .foldl (.repin (.refloor (.setPs (.wr (hs.rewindPorts.clearProgDefects.setHelm
    { hs.rewindPorts.clearProgDefects.helm with timers := .nil, ports := .nil }))))) fun h => h.endOp

theorem State.Good.requestStop {h} (hs : s.Good full) : (s.requestStop h).Good full := by
  dsimp only [State.requestStop]
  split
  · exact hs.setHelm hs.helm.update
  · exact .setPs (hs.setHelm hs.helm.update)
  · exact hs.helmLoaded
  · exact hs

theorem State.Good.notePeak {h r} (hs : s.Good full) : (s.notePeak h r).Good full := hs.wr.either hs

theorem State.Good.toFaulted {h cause kind} (hs : s.Good full) : (s.toFaulted h cause kind).Good full := by
  dsimp only [State.toFaulted]
  refine .either ?_ ?_
  · refine .helmLoaded (.foldl ?_ (fun h => h.endDependent))
    split
    · exact .endOp (.refloor (.setPs (.setHelm hs.clearProgDefects.dropTxWrites
        { hs.clearProgDefects.dropTxWrites.helm with timers := .nil })))
    · exact .refloor (.setPs (.setHelm hs.clearProgDefects.dropTxWrites
        { hs.clearProgDefects.dropTxWrites.helm with timers := .nil }))
  · refine .foldl ?_ (fun h => h.endDependent)
    split
    · exact .endOp (.refloor (.setPs (.setHelm hs.clearProgDefects.dropTxWrites
        { hs.clearProgDefects.dropTxWrites.helm with timers := .nil })))
    · exact .refloor (.setPs (.setHelm hs.clearProgDefects.dropTxWrites
        { hs.clearProgDefects.dropTxWrites.helm with timers := .nil }))

theorem State.Good.helmFault {h cause} (hs : s.Good full) : (s.helmFault h cause).Good full := by
  dsimp only [State.helmFault]
  split
  · exact hs
  · refine .either ?_ ?_
    · refine .either ?_ ?_
      · exact .helmLoaded (.setHelm hs.wr.wr.wr.notePeak.snapRegs.rewindPorts
          hs.wr.wr.wr.notePeak.snapRegs.rewindPorts.helm.update)
      · exact .setHelm hs.wr.wr.wr.notePeak.snapRegs.rewindPorts hs.wr.wr.wr.notePeak.snapRegs.rewindPorts.helm.update
    · exact .toFaulted (.setHelm hs.wr.wr.wr.notePeak.snapRegs.rewindPorts
        hs.wr.wr.wr.notePeak.snapRegs.rewindPorts.helm.update)

theorem State.Good.helmCycles {h k} (hs : s.Good full) : (s.helmCycles h k).Good full := .count (hs.setHelm hs.helm.update)

theorem State.Good.helmStep {h u op cost eff} (hs : s.Good full) (heff : ∀ {x t}, t.Good full → Answered full (eff x t)) :
    (s.helmStep h u op cost eff).Good full := by
  dsimp only [State.helmStep]
  split
  · exact hs
  · refine .either hs (.either hs.helmCycles.helmFault (.either hs.helmCycles.eccUncorr.helmFault ?_))
    split
    · rename_i hk; exact Answered.of_ok hk (heff hs.helmCycles)
    · rename_i hk; exact (Answered.of_error hk (heff hs.helmCycles)).helmFault

/-! ### Machine/Capture -/

theorem State.Good.execClientFramePush {e words fcsOk} (h : s.Good full) :
    Kept full (execClientFramePush e words fcsOk s) := by
  dsimp only [Machine.execClientFramePush]
  refine .either h.next (.next (.either ?_ ?_))
  · exact .chuteCommit (h.foldl fun h => h.chutePush)
  · exact .chuteRewind (h.foldl fun h => h.chutePush)

theorem State.Good.execGapWrite {c} (h : s.Good full) : Kept full (execGapWrite c s) := h.putGap.next.either h.next

theorem State.Good.execPacketVisible {c} (h : s.Good full) : Kept full (execPacketVisible c s) := by
  dsimp only [Machine.execPacketVisible]
  split
  · exact h.setChute.next
  · exact h.next

theorem State.Good.execSpaceVisible {c} (h : s.Good full) : Kept full (execSpaceVisible c s) := h.setChute.next

theorem State.Good.execPtrMismatchReset {c} (h : s.Good full) : Kept full (execPtrMismatchReset c s) := h.chutePtrReset.next

theorem Cap.Good.newCap {o chute enc bound loss store slots limit flush} :
    (newCap o chute enc bound loss store slots limit flush).Good full := ⟨.nil⟩

theorem State.Good.execCapture {n tag} (h : s.Good full) : Kept full (execCapture n tag s) :=
  .next (h.runOp fun h => .either h.endOp (.startCap h.modOp .newCap))

theorem Cap.Good.repeatLost {k k' : Cap} {now x} (h : k.Good full) (e : k.repeatLost now x = some k') : k'.Good full := by
  unfold Cap.repeatLost at e
  split at e
  · split at e
    · cases e; exact .putGap { h with }
    · cases e
  · cases e

theorem State.Good.execCaptureTake {n tag bad} (h : s.Good full) : Kept full (execCaptureTake n tag bad s) := by
  unfold Machine.execCaptureTake
  split
  · exact h.next
  · rename_i k hk
    have hk := h.cap? hk
    refine .either h.next ?_
    split
    · rename_i ht
      exact (State.Good.snd ht h.chuteTake).next
    · rename_i e s1 ht
      have h1 : (s1.setChute k.chute (s1.chute k.chute).release).Good full := (State.Good.snd ht h.chuteTake).setChute
      extract_lets s2 now
      split
      rename_i k3 s3 hp
      have h3 : k3.Good full ∧ s3.Good full := by
        split at hp
        · rename_i hr
          obtain ⟨rfl, rfl⟩ := Prod.mk.inj hp
          split at hr
          · exact ⟨hk.repeatLost hr, h1.matrixErr⟩
          · cases hr
        · obtain ⟨rfl, rfl⟩ := Prod.mk.inj hp
          exact ⟨hk, h1⟩
      exact (h3.2.setCap h3.1.take).capRegs.capDone.next

theorem State.Good.capGrant {k : Cap} {shared} (h : s.Good full) (hk : k.Good full) : (s.capGrant k shared).Good full :=
  .capDone (.capRegs (h.setCap hk.update.place))

theorem State.Good.capFirst {store p k} (h : s.Good full) (e : s.capFirst store p = some k) : k.Good full := by
  have : ∀ y ∈ s.capFirst store p, y.Good full := by
    refine List.foldlRecOn (motive := fun b => ∀ y ∈ b, Cap.Good full y) _ _ (fun y hy => absurd hy (Option.not_mem_none y)) ?_
    intro b hb j hj y hy
    have hj := h.capGood j hj
    dsimp only at hy
    split at hy
    · split at hy
      · split at hy
        · exact Option.mem_some_iff.mp hy ▸ hj
        · exact hb y hy
      · exact Option.mem_some_iff.mp hy ▸ hj
    · exact hb y hy
  exact this k e

theorem State.Good.capServe {k t} (h : s.Good full) (hk : k.Good full) (e : s.capServe k = some t) : t.Good full := by
  unfold State.capServe at e
  split at e
  · cases e; exact h.capGrant hk
  · split at e
    · cases e; exact (h.capGrant hk).wr
    · cases e

theorem State.Good.execCrateRequest {store} (h : s.Good full) : Kept full (execCrateRequest store s) := by
  dsimp only [Machine.execCrateRequest]
  split
  · exact h.next
  · rename_i hk
    have hk := h.capFirst hk
    split
    · rename_i ht; exact (h.capServe hk ht).next
    · refine .either (h.setCap hk.update).next (.next (.capEnd ?_))
      split
      · exact h.soakEnd.either h
      · exact h

theorem State.Good.execCrateWaitGrant {store} (h : s.Good full) : Kept full (execCrateWaitGrant store s) := by
  dsimp only [Machine.execCrateWaitGrant]
  split
  · exact h.next
  · rename_i hk
    cases ht : s.capServe _ with
    | none => exact h.next
    | some t => exact (h.capServe (h.capFirst hk) ht).next

theorem State.Good.execCrateFlushTimer {n tag} (h : s.Good full) : Kept full (execCrateFlushTimer n tag s) := by
  dsimp only [Machine.execCrateFlushTimer]
  split
  · exact h.next
  · rename_i hk
    split
    · exact .either (.next (.capDone (.capRegs (h.setCap (h.cap? hk).closeRun.roll)))) h.next
    · exact h.next

theorem State.Good.execCrateWrite {n tag bad} (h : s.Good full) : Kept full (execCrateWrite n tag bad s) := by
  dsimp only [Machine.execCrateWrite]
  split
  · rename_i hk _
    have hk := h.cap? hk
    split
    · exact h.next
    · refine .either h.next (.either (.next (.capEnd (.setCap ?_ hk.update))) (.next ?_))
      · exact h.matrixErr.freeCrate.soakEnd.either h.matrixErr.freeCrate
      · exact (h.pushStage.freeCrate.count.setCap hk.update).capRegs.fireData.capDone
  · exact h.next

theorem State.Good.execCrateScrubDone {store} (h : s.Good full) : Kept full (execCrateScrubDone store s) := by
  dsimp only [Machine.execCrateScrubDone]
  split
  · exact h.update.next
  · exact h.next

/-! ### Machine/Pattern -/

theorem State.Good.execPattern {n tag} (h : s.Good full) : Kept full (execPattern n tag s) := by
  dsimp only [Machine.execPattern]
  refine .next (.runOp h ?_)
  intro _ _ h
  refine .either h.endOp (.patStart (.setPat (.either ?_ ?_)))
  · exact .setPat (.wr (.wr (.either h.modOp.wr.wr.wr h.modOp.wr)))
  · exact .either h.modOp.wr.wr.wr h.modOp.wr

theorem State.Good.execCheckerSync {u} (h : s.Good full) : Kept full (execCheckerSync u s) := h.wr.setPat.next.either h.next

theorem State.Good.execCheckerSyncLoss {u bits errs} (h : s.Good full) : Kept full (execCheckerSyncLoss u bits errs s) :=
  h.patCount.bump.setPat.patSeed.next.either h.next

theorem State.Good.execGeneratorInsert {u words} (h : s.Good full) : Kept full (execGeneratorInsert u words s) :=
  h.next.either h.setPat.next

/-! ### Machine/FrameBase -/

theorem State.Good.line {i} (h : s.Good full) : (s.line i).Good full := smGet_of_mem .init h.lineGood i

theorem State.Good.setLine {i x} (h : s.Good full) (hx : x.Good full) : (s.setLine i x).Good full :=
  { h with lines := h.lines.set, lineGood := forall_mem_smSet h.lineGood hx }

theorem State.Good.framer {i} (h : s.Good full) : (s.framer i).Good full := h.line.fr

theorem Line.Good.withFramer {l : Line} {x : Framer} (hx : x.Good full) : ({ l with fr := x } : Line).Good full := ⟨hx⟩

theorem State.Good.setFramer {i} {x : Framer} (h : s.Good full) (hx : x.Good full) : (s.setFramer i x).Good full :=
  .setLine h (.withFramer hx)

theorem State.Good.lofCheck {i} (h : s.Good full) : (s.lofCheck i).Good full := by
  dsimp only [State.lofCheck]
  split
  · exact (h.hwDefect.either (h.hwDefect.either h)).hwDefect
  · split
    · exact (h.hwDefect.either (h.hwDefect.either h)).hwDefect
    · exact h.hwDefect.either (h.hwDefect.either h)

theorem State.Good.linkDown {i} (h : s.Good full) : (s.linkDown i).Good full := h.hwDefect.either h

theorem State.Good.frShow {i} (h : s.Good full) : (s.frShow i).Good full := h.wr.wr

theorem State.Good.frOom {i} (h : s.Good full) : (s.frOom i).Good full := by
  dsimp only [State.frOom]
  refine .either h (.either ?_ (.wr (.wr (h.setFramer h.framer.update))))
  exact .fireFree (.lofCheck (.hwDefect (.setOvh (.bump (.wr (.wr (h.setFramer h.framer.update)))) (.update
    (State.Good.ovh (.bump (.wr (.wr (h.setFramer h.framer.update)))))))))

theorem State.Good.frOof {i cause} (h : s.Good full) : (s.frOof i cause).Good full := by
  dsimp only [State.frOof]
  refine .either h (.frShow (.linkDown (.either ?_ (.setFlag (.wr (h.setFramer h.framer.update))))))
  exact .fireFree (.lofCheck (.hwDefect (.count (.setOvh (.bump (.wr (.wr (.setFlag (.wr (h.setFramer
    h.framer.update)))))) (.update (State.Good.ovh (.bump (.wr (.wr (.setFlag (.wr (h.setFramer h.framer.update))))))))))))

theorem State.Good.frLost {i} (h : s.Good full) : (s.frLost i).Good full := h.frOof.frOom

theorem State.Good.portsReady {p} (h : s.Good full) : (s.portsReady p).Good full :=
  h.foldl fun h => .enqueue (h.setHelm (.either h.helm.setPort.update h.helm.setPort))

theorem State.Good.frIn {i} (h : s.Good full) : (s.frIn i).Good full := by
  dsimp only [State.frIn]
  refine .frShow ?_
  refine .linkDown (.fireFree (.portsReady (.portsReady (.lofCheck (.hwDefect (.setOvh ?_ ?_))))))
  · refine .either ?_ ?_
    · exact .wr (.wr (.wr (.wr (.wr (h.setFramer h.framer.update)))))
    · exact .wr (.wr (.wr (h.setFramer h.framer.update)))
  · refine .update (State.Good.ovh (.either ?_ ?_))
    · exact .wr (.wr (.wr (.wr (.wr (h.setFramer h.framer.update)))))
    · exact .wr (.wr (.wr (h.setFramer h.framer.update)))

theorem State.Good.frMfSync {i} (h : s.Good full) : (s.frMfSync i).Good full :=
  .fireFree (.lofCheck (.hwDefect (.setOvh h.wr.wr h.wr.wr.ovh.update)))

theorem State.Good.frStart {i} (h : s.Good full) : (s.frStart i).Good full :=
  .either h (.frShow (.linkDown (.wr (.wr (.wr (.wr (h.setFramer .init)))))))

theorem State.Good.frStop {i} (h : s.Good full) : (s.frStop i).Good full := by
  dsimp only [State.frStop]
  split
  · exact .foldl (.wr (.wr (.wr (.wr (.frShow (.wr (.wr (.wr (.wr ((h.frOof.either h).setFramer .init)))))))))) fun h =>
      h.wr
  · exact .frShow (.wr (.wr (.wr (.wr ((h.frOof.either h).setFramer .init)))))

theorem State.Good.frCount {i pos n} (h : s.Good full) : (s.frCount i pos n).Good full :=
  .either h.frIn (.frShow (.wr (h.setFramer h.framer.update)))

theorem State.Good.frUnit {i errored} (h : s.Good full) : (s.frUnit i errored).Good full := by
  dsimp only [State.frUnit]
  refine .either ?_ (.frShow (h.setFramer h.framer.update))
  exact .either (.frOof (h.setFramer h.framer.update)) (.frOom (.frOof (h.setFramer h.framer.update)))

theorem Framer.Good.setLane {f : Framer} {k x} (h : f.Good full) : (f.setLane k x).Good full :=
  { h with lanes := h.lanes.set }

theorem State.Good.bondShow {i} (h : s.Good full) : (s.bondShow i).Good full := by
  dsimp only [State.bondShow]
  refine .foldl h.wr.setFlag.setFlag ?_
  intro _ _ h
  split
  · exact h.wr.wr.wr
  · exact h.wr

theorem State.Good.groupOof {i cause} (h : s.Good full) : (s.groupOof i cause).Good full := by
  unfold State.groupOof
  extract_lets s1 lanes s2
  have h1 : s1.Good full := h.wr
  have h2 : s2.Good full := h1.frOof.frOom
  exact .bondShow (h2.setFramer ⟨h1.framer.lanes⟩)

theorem State.Good.reframe {i} (h : s.Good full) : (s.reframe i).Good full := by
  unfold State.reframe
  refine .either h ?_
  extract_lets s1 s2 s3
  have h1 : s1.Good full := h.frOof
  have h3 : s3.Good full := .wr (.either h1 h1.frOom)
  exact .either (.bondShow (.wr (.setFramer h3 ⟨.nil⟩))) h3

theorem State.Good.mfReframe {i} (h : s.Good full) : (s.mfReframe i).Good full :=
  .either h (.setFramer h.frOom h.frOom.framer.update)

/-! ### Machine/LineBase -/

theorem State.Good.lineFire {i} (h : s.Good full) : (s.lineFire i).Good full := h.fireFree

theorem State.Good.loopFire {i} (h : s.Good full) : (s.loopFire i).Good full := h.fireFree

theorem State.Good.onGroup {i f} (h : s.Good full) (hf : ∀ {x t}, t.Good full → (f x t).Good full) :
    (s.onGroup i f).Good full :=
  h.foldl fun h => hf h

theorem State.Good.preset {i} (h : s.Good full) : (s.preset i).Good full :=
  .setLine (List.foldlRecOn (motive := fun (p : State × List Nat) => p.1.Good full) _ _ h fun _ hp _ _ => hp.draw) (.update h.line)

theorem State.Good.report {i} (h : s.Good full) : (s.report i).Good full := h.wr.wr.wr.wr.wr.wr.either h.wr.wr

theorem State.Good.txTiming {i} (h : s.Good full) : (s.txTiming i).Good full := by
  dsimp only [State.txTiming]
  refine .onGroup h ?_
  intro _ _ h
  split
  · exact h.wr
  · exact .either h.wr.wr h.wr.wr
  · exact h.wr

theorem State.Good.enterStage {i stage timed} (h : s.Good full) : (s.enterStage i stage timed).Good full := by
  dsimp only [State.enterStage]
  split
  · exact h
  · exact .lineFire (.wr (h.setLine h.line.update))

theorem State.Good.startAttempt {i} (h : s.Good full) : (s.startAttempt i).Good full :=
  .enterStage (.txTiming (.wr (.setLine (.onGroup h.frStop fun h => h.wr.wr.preset.setFlag) (.update (State.Good.line
    (.onGroup h.frStop fun h => h.wr.wr.preset.setFlag))))))

theorem State.Good.dropPartner {i} (h : s.Good full) : (s.dropPartner i).Good full :=
  .setLine (h.setOvh { h.ovh with acc := .nil, latest := .nil, cand := .nil }) h.line.update

theorem Ovh.Good.blanked {o : Ovh} {hw dcl oof lf oom mf csqPend csq} (h : o.Good full) :
    ({ o with
        hw := hw, dcl := dcl, oofSince := oof, ifSince := lf, oomSince := oom, mfSince := mf, csqPend := csqPend, csq := csq
        rx := [], parity := [], viol := [] } : Ovh).Good full :=
  { h with rx := .nil, parity := .nil, viol := .nil }

theorem State.Good.idleSlice {j} (h : s.Good full) : (s.idleSlice j).Good full := by
  unfold State.idleSlice
  extract_lets s1 s2 s3 s4 o _ s5 x
  have h1 : s1.Good full := h.frStop.dropPartner
  have h3 : s3.Good full := h1.wr.wr.wr.wr.wr.wr.wr.wr
  have h4 : s4.Good full := h3.foldl fun h => h.wr
  have ho : o.restart.Good full := h4.ovh.restart
  have h5 : s5.Good full := h4.setOvh (.blanked ho)
  exact (h5.setLine Line.Good.init.update).wr

theorem State.Good.idleLine {i} (h : s.Good full) : (s.idleLine i).Good full :=
  .pmScan (.lineFire (h.foldl fun h => h.idleSlice))

theorem State.Good.acqEnd {i status} (h : s.Good full) : (s.acqEnd i status).Good full := by
  dsimp only [State.acqEnd]
  split
  · exact h
  · exact h.endOp.idleLine

theorem State.Good.acquired {i} (h : s.Good full) : (s.acquired i).Good full := by
  dsimp only [State.acquired]
  split
  · exact h
  · exact .pmScan (.lineFire (.wr (.wr (.wr (.setLine (.modOp (.endOp (h.setLine h.line.update))) (.update
      (State.Good.line (.modOp (.endOp (h.setLine h.line.update))))))))))

theorem State.Good.failAttempt {i} (h : s.Good full) : (s.failAttempt i).Good full := by
  dsimp only [State.failAttempt]
  split
  · exact h
  · exact h.bump.startAttempt.either h.acqEnd

theorem State.Good.loopSend {i phase kind ms} (h : s.Good full) : (s.loopSend i phase kind ms).Good full :=
  .emit (.wr (h.setLine h.line.update))

theorem State.Good.startHsTimer {i} (h : s.Good full) : (s.startHsTimer i).Good full := by
  dsimp only [State.startHsTimer]
  split
  · exact h.setLine h.line.update
  · exact h.setLine h.line.update

theorem State.Good.loopUp {i kind} (h : s.Good full) : (s.loopUp i kind).Good full :=
  h.wr.wr.wr.startHsTimer.loopSend.loopFire

theorem State.Good.loopClear {i} (h : s.Good full) : (s.loopClear i).Good full := h.wr.wr.loopFire

theorem State.Good.hsNext {i sent} (h : s.Good full) : (s.hsNext i sent).Good full := by
  dsimp only [State.hsNext]
  split
  · exact h
  · split
    · exact h.loopUp
    · exact .startHsTimer (h.setLine h.line.update)
    · exact .either h.loopSend h.acquired
    · exact h.acquired

theorem State.Good.enterHandshake {i} (h : s.Good full) : (s.enterHandshake i).Good full := by
  dsimp only [State.enterHandshake]
  split
  · exact h
  · exact h.acquired.either (h.enterStage.wr.wr.loopSend.either h.enterStage.wr.wr.hsNext)

theorem State.Good.enterFrame {i} (h : s.Good full) : (s.enterFrame i).Good full :=
  h.enterHandshake.either h.enterStage.frStart

theorem State.Good.soundEnd {o status count aux time body} (h : s.Good full) :
    (s.soundEnd o status count aux time body).Good full :=
  h.endWithData

theorem State.Good.probeEnd {i status} (h : s.Good full) : (s.probeEnd i status).Good full := by
  dsimp only [State.probeEnd]
  split
  · exact h
  · split
    · exact .wr (h.setLine h.line.update)
    · exact .soundEnd (.wr (h.setLine h.line.update))

theorem State.Good.probeDown {i} (h : s.Good full) : (s.probeDown i).Good full := .loopSend (h.setLine h.line.update)

theorem State.Good.soundsLost {i status wanderOnly} (h : s.Good full) : (s.soundsLost i status wanderOnly).Good full := by
  dsimp only [State.soundsLost]
  refine .foldl h ?_
  intro _ _ h
  split
  · exact .either h h.soundEnd
  · exact h.soundEnd
  · exact h

theorem State.Good.disturb {i n tag} (h : s.Good full) : (s.disturb i n tag).Good full := h.soundsLost.update

theorem State.Good.signalLost {i} (h : s.Good full) : (s.signalLost i).Good full := by
  dsimp only [State.signalLost]
  refine .either h ?_
  split
  · refine .either ?_ ?_
    · refine .failAttempt (.either ?_ ?_)
      · refine .probeEnd (.soundsLost (.dropPartner (.either ?_ ?_)))
        · exact .groupOof (.lineFire (.count (.hwDefect (.setLine h.wr h.line.update))))
        · exact .frLost (.lineFire (.count (.hwDefect (.setLine h.wr h.line.update))))
      · refine .soundsLost (.dropPartner (.either ?_ ?_))
        · exact .groupOof (.lineFire (.count (.hwDefect (.setLine h.wr h.line.update))))
        · exact .frLost (.lineFire (.count (.hwDefect (.setLine h.wr h.line.update))))
    · refine .either ?_ ?_
      · refine .probeEnd (.soundsLost (.dropPartner (.either ?_ ?_)))
        · exact .groupOof (.lineFire (.count (.hwDefect (.setLine h.wr h.line.update))))
        · exact .frLost (.lineFire (.count (.hwDefect (.setLine h.wr h.line.update))))
      · refine .soundsLost (.dropPartner (.either ?_ ?_))
        · exact .groupOof (.lineFire (.count (.hwDefect (.setLine h.wr h.line.update))))
        · exact .frLost (.lineFire (.count (.hwDefect (.setLine h.wr h.line.update))))
  · refine .either ?_ ?_
    · refine .probeEnd (.soundsLost (.dropPartner (.either ?_ ?_)))
      · exact .groupOof (.lineFire (.count (.hwDefect (.setLine h.wr h.line.update))))
      · exact .frLost (.lineFire (.count (.hwDefect (.setLine h.wr h.line.update))))
    · refine .soundsLost (.dropPartner (.either ?_ ?_))
      · exact .groupOof (.lineFire (.count (.hwDefect (.setLine h.wr h.line.update))))
      · exact .frLost (.lineFire (.count (.hwDefect (.setLine h.wr h.line.update))))

theorem State.Good.signalFound {i} (h : s.Good full) : (s.signalFound i).Good full :=
  .either h (.lineFire (.hwDefect (.setLine h.wr h.line.update)))

theorem State.Good.releaseLine {i status} (h : s.Good full) : (s.releaseLine i status).Good full := by
  dsimp only [State.releaseLine]
  split
  · exact h.acqEnd
  · exact h.idleLine.either h

/-! ### Machine/ChartBase -/

theorem State.Good.clearEntry {e} (h : s.Good full) : (s.clearEntry e).Good full :=
  .foldl (h.setOvh { h.ovh.restart with rx := .nil, parity := .nil, viol := .nil, acc := .nil, latest := .nil }) fun h =>
    h.settleDefect.either h

theorem State.Good.applySide {e side} (h : s.Good full) : (s.applySide e side).Good full := by
  dsimp only [State.applySide]
  refine .either ?_ ?_
  · refine .setEnt (.either h.setEnt (.either h.setEnt ?_))
    exact .portsReady (.either h.setEnt.clearEntry.pmSwitched.wr.hwDefect h.setEnt.clearEntry.pmSwitched.wr)
  · refine .pmScan (.wr (.setEnt (.either h.setEnt (.either h.setEnt ?_))))
    exact .portsReady (.either h.setEnt.clearEntry.pmSwitched.wr.hwDefect h.setEnt.clearEntry.pmSwitched.wr)

theorem State.Good.swapCheck {n} (h : s.Good full) : (s.swapCheck n).Good full := by
  dsimp only [State.swapCheck]
  split
  · exact h
  · exact h.either h.endOp

theorem State.Good.applyNow {e w} (h : s.Good full) : (s.applyNow e w).Good full := h.setEnt.applySide.applySide

theorem State.Good.chartOrphan {n o} (h : s.Good full) : (s.chartOrphan n o).Good full :=
  h.foldl fun h => h.setEnt.wr.wr.wr.applyNow.either h

theorem State.Good.withOvhs {ovhs} (h : s.Good full) (hs : Sorted full ovhs) (hg : ∀ e ∈ ovhs, e.2.Good full) :
    ({ s with ovhs := ovhs } : State).Good full :=
  { h with ovhs := hs, ovhGood := hg }

theorem State.Good.scrubEntry {e} (h : s.Good full) : (s.scrubEntry e).Good full := by
  unfold State.scrubEntry
  extract_lets _ s1 s2 s3
  have h1 : s1.Good full := h.setEnt.applyNow
  have h2 : s2.Good full := h1.foldl fun h => h.wr
  have h3 : s3.Good full := h2.foldl fun h => h.wr
  exact .withOvhs h3.setEnt h3.ovhs.del (forall_mem_smDel h3.ovhGood)

/-! ### Machine/ProtectBase -/

theorem State.Good.psLog {g time kind v v2} (h : s.Good full) : (s.psLog g time kind v v2).Good full :=
  (h.bump.either h).setGrp.fireFree

theorem Ovh.Good.withAccepted {o : Ovh} {hw acc latest} (h : o.Good full) (ha : Sorted full acc) (hl : Sorted full latest) :
    ({ o with hw := hw, acc := acc, latest := latest } : Ovh).Good full :=
  { h with acc := ha, latest := hl }

theorem State.Good.switchConsumers {x} (h : s.Good full) : (s.switchConsumers x).Good full := by
  unfold State.switchConsumers
  refine .either ?_ ?_
  · split
    · exact h
    · extract_lets was hp o hw _ s1 s2 s3
      have ho : o.restart.Good full := h.ovh.restart
      have h1 : s1.Good full := h.setOvh (.withAccepted ho h.ovh.acc.filter h.ovh.latest.filter)
      have h2 : s2.Good full := h1.foldl fun h => .either h.settleDefect h
      have h3 : s3.Good full := h2.foldl fun h => .either h.clearEntry h
      exact h3.pmSwitched
  · split
    · exact h.clearEntry.pmSwitched
    · exact h

theorem State.Good.psSelect {g side req} (h : s.Good full) : (s.psSelect g side req).Good full :=
  h.either h.wr.bump.psLog.switchConsumers

theorem State.Good.sendK {g k1 k2} (h : s.Good full) : (s.sendK g k1 k2).Good full := by
  dsimp only [State.sendK]
  refine .either h ?_
  split
  · exact .setOvh h.wr.wr h.wr.wr.ovh.update
  · exact h.wr.wr

theorem State.Good.noteFails {g} (h : s.Good full) : (s.noteFails g).Good full := h.setGrp

theorem State.Good.kFrame {i} (h : s.Good full) : (s.kFrame i).Good full :=
  h.foldl fun h => h.either (h.setGrp.either h.setGrp.wr.wr.psLog).noteFails

theorem State.Good.critUpdate {g} (h : s.Good full) : (s.critUpdate g).Good full :=
  h.setFlag.setFlag.setFlag.setFlag.either h.setFlag.setFlag.setFlag.setFlag.psLog

theorem State.Good.critStep {g} (h : s.Good full) : (s.critStep g).Good full := h.critUpdate.setGrp

theorem State.Good.evalGroup {g} (h : s.Good full) : (s.evalGroup g).Good full := by
  dsimp only [State.evalGroup]
  refine .either ?_ ?_
  · exact .either h.critStep.setGrp.setFlag.wr h.critStep.setGrp.setFlag.wr.wr.psLog
  · refine .either ?_ ?_
    · exact h.critStep.setGrp.setFlag.wr.setFlag.psSelect.sendK.noteFails
    · exact h.critStep.setGrp.setFlag.wr.setFlag.psSelect

theorem State.Good.evalProgram {g} (h : s.Good full) : (s.evalProgram g).Good full := by
  dsimp only [State.evalProgram]
  split
  · exact h
  · exact h.setGrp.setFlag.psSelect

theorem State.Good.meterEnd {g kind} (h : s.Good full) : (s.meterEnd g kind).Good full := by
  dsimp only [State.meterEnd]
  split
  · exact h
  · exact h.setGrp.wr.wr.wr.bump.psLog

theorem State.Good.meterDisarm {g} (h : s.Good full) : (s.meterDisarm g).Good full := h.meterEnd.wr

theorem State.Good.dropObj {o} (h : s.Good full) : ({ s with own := { s.own with objs := smDel s.own.objs o } } : State).Good full :=
  { h with objs := h.objs.del }

theorem State.Good.deleteGroup {g} (h : s.Good full) : (s.deleteGroup g).Good full := by
  dsimp only [State.deleteGroup]
  refine .either h (.rerouteSource (.setGrp (.dropObj (.foldl ?_ fun h => h.wr))))
  split
  · exact h.meterDisarm.setOvh { h.meterDisarm.ovh with }
  · exact h.meterDisarm

theorem State.Good.protOrphan {n o} (h : s.Good full) : (s.protOrphan n o).Good full :=
  h.foldl fun h => h.deleteGroup.either h

/-! ### Machine/PowerBase -/

theorem State.Good.resetRegs {c reach} (h : s.Good full) : (s.resetRegs c reach).Good full :=
  { h with regs := h.regs.filter }

theorem State.Good.keepFlds {t fs n} (h : s.Good full) : (s.keepFlds t fs n).Good full := h.foldl fun h => h.foldl fun h => h.wr

theorem State.Good.stopTime (h : s.Good full) : s.stopTime.Good full := h.update

theorem State.Good.rebase (h : s.Good full) : s.rebase.Good full := .either h.update h

theorem State.Good.coreLost (h : s.Good full) : s.coreLost.Good full :=
  { h with
    helms := .nil, helmGood := List.forall_mem_nil _, ovhs := .nil, ovhGood := List.forall_mem_nil _, lines := .nil
    lineGood := List.forall_mem_nil _, capGood := List.forall_mem_nil _, chart := .nil, groups := .nil, chutes := .nil
    pm := .nil, pats := .nil, hiLatch := .nil, sources := .nil, vec := .nil }

theorem State.Good.eraseCalendar {p} (h : s.Good full) : (s.eraseCalendar p).Good full :=
  .foldl h.update fun h => .either h.wr.wr.wr.wr.wr h

theorem State.Good.compassStart (h : s.Good full) : s.compassStart.Good full := h.wr.update

theorem State.Good.setDom {d x} (h : s.Good full) : (s.setDom d x).Good full :=
  h.either ((h.wr.wr.either h.wr).either (h.wr.wr.either h.wr).count)

theorem State.Good.domRun {d} (h : s.Good full) : (s.domRun d).Good full := (h.setDom.either h).setDom

theorem State.Good.stowAbort (h : s.Good full) : s.stowAbort.Good full := .either h.bump.count.wr.update h

theorem Dump.Good.ofNone : ∀ d ∈ (none : Option Dump), d.Good full := fun _ h => absurd h (Option.not_mem_none _)

theorem State.Good.unowned {bg} (h : s.Good full) : ({ s with sessions := [], own := s.own.clear bg } : State).Good full :=
  { h with sessions := .nil, objs := .nil, pages := .nil }

theorem State.Good.restarted {b} (h : s.Good full) :
    ({ s with boot := b, host := { s.host with fns := s.host.fns.map fun e => (e.1, { e.2 with flr := none }) },
              health := { s.health with dump := none } } : State).Good full :=
  { h with fns := h.fns.mapVals fun _ => rfl, dumpGood := .ofNone }

theorem State.Good.warmReset {cause} (h : s.Good full) : (s.warmReset cause).Good full :=
  .restarted (.compassStart (.wr (.wr (.stowAbort (.wr (.eraseCalendar (.unowned (.keepFlds (.resetRegs h.coreLost)))))))))

theorem State.Good.configReset (h : s.Good full) : s.configReset.Good full := { h with fns := .nil }

theorem State.Good.feedFire {cause} (h : s.Good full) : (s.feedFire cause).Good full := h.wr.kfire

theorem State.Good.setBay {b x} (h : s.Good full) : (s.setBay b x).Good full := { h with bays := h.bays.set }

theorem State.Good.pathScan {cause} (h : s.Good full) : (s.pathScan cause).Good full :=
  .either (.either h.wr h.feedFire) (.either h.update.feedFire h.update.feedFire)

theorem State.Good.shortScan (h : s.Good full) : s.shortScan.Good full := .either (.either h h.update) h.update

theorem State.Good.bayFire {b cause} (h : s.Good full) : (s.bayFire b cause).Good full := h.kfire

theorem State.Good.bayDark {b} (h : s.Good full) : (s.bayDark b).Good full := .either (h.foldl fun h => h.signalLost) h

theorem State.Good.bayMove {b st cause} (h : s.Good full) : (s.bayMove b st cause).Good full :=
  (h.setBay.wr.wr.wr.wr.wr.bayDark.either h.setBay.wr).bayFire.shortScan

theorem State.Good.bayStart {b} (h : s.Good full) : (s.bayStart b).Good full := h.bayMove.setBay

theorem State.Good.bayTry {b} (h : s.Good full) : (s.bayTry b).Good full := h.bayStart.either h.bayMove

theorem State.Good.deniedScan (h : s.Good full) : s.deniedScan.Good full := h.foldl fun h => h.bayStart.either h

theorem State.Good.baySeating {b} (h : s.Good full) : (s.baySeating b).Good full := h.bayMove.setBay

theorem State.Good.bayEnable {b} (h : s.Good full) : (s.bayEnable b).Good full := h.baySeating.either h.bayMove

theorem State.Good.bayOffNow {b} (h : s.Good full) : (s.bayOffNow b).Good full := h.either h.bayMove

theorem State.Good.bayFault {b code} (h : s.Good full) : (s.bayFault b code).Good full :=
  h.wr.wr.bayMove.deniedScan.either h.wr.wr.bayMove.setBay.deniedScan

theorem State.Good.bayCmd {b action} (h : s.Good full) : (s.bayCmd b action).Good full := by
  dsimp only [State.bayCmd]
  split
  · exact h.bayEnable.deniedScan.either h
  · exact h.bayOffNow.deniedScan
  · exact h.wr.bayEnable.deniedScan.either h.wr
  · exact h.either h.bayEnable.deniedScan
  · exact h

theorem State.Good.allowUpdate {extra} (h : s.Good full) : (s.allowUpdate extra).Good full := by
  dsimp only [State.allowUpdate]
  refine .shortScan (.deniedScan (.either ?_ ?_))
  · exact .either (.setFlag (.wr (.either h.wr.wr.update h.wr.wr))) (.either h.wr.wr.update h.wr.wr)
  · exact .kfire (.either (.setFlag (.wr (.either h.wr.wr.update h.wr.wr))) (.either h.wr.wr.update h.wr.wr))

theorem MemSt.wf_noLarder {m : MemSt} {bad} (h : m.wf = true) : ({ m with larder := [], bad := bad } : MemSt).wf = true :=
  (MemSt.wf_iff _).mpr ⟨rfl, ((MemSt.wf_iff _).mp h).2⟩

theorem MemSt.wf_noCellar {m : MemSt} (h : m.wf = true) : ({ m with cellar := [], undef := [] } : MemSt).wf = true :=
  (MemSt.wf_iff _).mpr ⟨((MemSt.wf_iff _).mp h).1, rfl, rfl⟩

theorem State.Good.larderLost {bad k} (h : s.Good full) :
    ({ s with cnt := [], coreAcc := 0, mem := { s.mem with larder := [], bad := bad }, own := { s.own with watches := [] },
              keep := k, health := { s.health with dump := none } } : State).Good full :=
  { h with cnt := .nil, mem := MemSt.wf_noLarder h.mem, dumpGood := .ofNone }

theorem State.Good.cellarLost (h : s.Good full) :
    ({ s with mem := { s.mem with cellar := [], undef := [] }, own := { s.own with swept := 0 } } : State).Good full :=
  { h with mem := MemSt.wf_noCellar h.mem }

theorem State.Good.coreOff {st} (h : s.Good full) : (s.coreOff st).Good full :=
  have h1 := (h.either (c := s.tm.stopped = true) h.stopTime).coreLost.resetRegs (c := if st = 3 then svST else svMR) (reach := onEDie)
  have h2 := ((h1.wr (f := KP_PWR_STAT_EDIE) (v := st) (i := 0) (j := 0)).wr (f := KP_DOM) (v := 0) (i := 0) (j := 0)).wr
    (f := KP_TETHER_UP) (v := 0) (i := 0) (j := 0)
  .either (.wr (.larderLost h2)) (.cellarLost (.wr (.larderLost h2)))

theorem State.Good.goOff (h : s.Good full) : s.goOff.Good full :=
  .update (.wr (.wr (.wr (.coreOff (h.foldl fun h => h.bayOffNow)))))

theorem State.Good.blank {k b} (h : s.Good full) :
    ({ s with sessions := [], own := { s.own.clear [] with swept := 0 }, cnt := [], coreAcc := 0,
              mem := { larder := [], cellar := [], bad := [], undef := [] }, keep := k, boot := b,
              health := { s.health with dump := none } } : State).Good full :=
  { h with sessions := .nil, objs := .nil, pages := .nil, cnt := .nil, mem := rfl, dumpGood := .ofNone }

theorem State.Good.coldReset {cause} (h : s.Good full) : (s.coldReset cause).Good full :=
  .shortScan (.pathScan (.blank (.configReset (.compassStart (.wr (.eraseCalendar
    (.keepFlds (.keepFlds (.resetRegs h.rebase.coreLost)))))))))

/-! ### Machine/Perf -/

theorem State.Good.execSoak {n tag} (h : s.Good full) : Kept full (execSoak n tag s) := by
  dsimp only [Machine.execSoak]
  refine .next (.runOp h ?_)
  intro _ _ h
  split
  · exact h.endOp
  · refine .either h.endOp (.either ?_ ?_)
    · exact .foldl (.foldl h.pmScan.modOp fun h => h.pmAttach) fun h => h.setPt
    · exact .startCap (.foldl (.foldl h.pmScan.modOp fun h => h.pmAttach) fun h => h.setPt) .newCap

theorem State.Good.execDurationExpiry {n tag bits errs} (h : s.Good full) :
    Kept full (execDurationExpiry n tag bits errs s) := by
  dsimp only [Machine.execDurationExpiry]
  split
  · exact h.next
  · refine .either h.next ?_
    exact .either h.soakEnd.modOp.capEnd.next (.either h.patCount.patRelease.endOp.next h.next)

theorem State.Good.execPmRead {n tag} (h : s.Good full) : Kept full (execPmRead n tag s) := by
  dsimp only [Machine.execPmRead]
  refine .next (.runOp h ?_)
  intro _ _ h
  split
  · exact h.endOp
  · exact h.endWithData

theorem State.Good.execPmReset {n tag} (h : s.Good full) : Kept full (execPmReset n tag s) :=
  .next (h.runOp fun h => h.setPt.endOp.either h.endOp)

theorem State.Good.execAttach {n tag} (h : s.Good full) : Kept full (execAttach n tag s) :=
  .next (h.runOp fun h => h.endOp.either (h.endOp.either h.wr.wr.wr.wr.pmAttach.endOp))

theorem State.Good.execDetach {n tag} (h : s.Good full) : Kept full (execDetach n tag s) :=
  .next (h.runOp fun h => h.pmReset.endOp)

theorem State.Good.execPmSecondJudgement {p eb feb} (h : s.Good full) : Kept full (execPmSecondJudgement p eb feb s) :=
  h.next.either (h.setPt.next.either (h.setPt.next.either h.setPt.next))

theorem State.Good.execIntervalBoundary (h : s.Good full) : Kept full (execIntervalBoundary s) :=
  .either h.next (.next (.update (h.foldl fun h => h.setPt)))

theorem State.Good.execBinFinal {p} (h : s.Good full) : Kept full (execBinFinal p s) := by
  dsimp only [Machine.execBinFinal]
  split
  · refine .either h.next ?_
    split
    · refine .either (.next (.either h.setPt.fireFree h.setPt)) ?_
      exact .next (.chuteCommit (.foldl (.either h.setPt.fireFree h.setPt) fun h => h.chutePush))
    · exact .next (.either h.setPt.fireFree h.setPt)
  · exact h.next

theorem State.Good.execIntervalShortClose {p} (h : s.Good full) : Kept full (execIntervalShortClose p s) := h.setPt.next

/-! ### Machine/Overhead -/

theorem Ovh.Good.withRuns {o : Ovh} {runs} (h : o.Good full) (hr : Sorted full runs) : ({ o with runs := runs } : Ovh).Good full :=
  { h with runs := hr }

theorem State.Good.persist {c code set clr n k} (h : s.Good full) : (s.persist c code set clr n k).Good full := by
  unfold State.persist
  extract_lets o a b s1
  have h1 : s1.Good full := .setOvh h (.withRuns h.ovh h.ovh.runs.set.set)
  exact .either (.setOvh h (.withRuns h.ovh h.ovh.runs.set.set)) (.either h1.hwDefect (.either h1.hwDefect h1))

theorem State.Good.persist1 {c code n cond} (h : s.Good full) : (s.persist1 c code n cond).Good full := h.persist

theorem Ovh.Good.withLatest {o : Ovh} {latest cand} (h : o.Good full) (hl : Sorted full latest) (hc : Sorted full cand) :
    ({ o with latest := latest, cand := cand } : Ovh).Good full :=
  { h with latest := hl, cand := hc }

theorem Ovh.Good.withAcc {o : Ovh} {acc} (h : o.Good full) (ha : Sorted full acc) : ({ o with acc := acc } : Ovh).Good full :=
  { h with acc := ha }

theorem State.Good.acceptVal {c item n v} (h : s.Good full) : (s.acceptVal c item n v).Good full := by
  unfold State.acceptVal
  extract_lets o
  split
  extract_lets k o1 o2
  have h1 : o1.Good full := .withLatest h.ovh h.ovh.latest.set h.ovh.cand.set
  have h2 : o2.Good full := .either h1.update h1
  exact h.setOvh (.either (.withAcc h2 h2.acc.set) h2)

theorem State.Good.acceptTrace {c item v crcOk} (h : s.Good full) : (s.acceptTrace c item v crcOk).Good full :=
  .either (.setOvh h (.withLatest h.ovh h.ovh.latest.set h.ovh.cand.set)) h.acceptVal

theorem State.Good.timCheck {i t} (h : s.Good full) : (s.timCheck i t).Good full := h.hwDefect

theorem State.Good.c2Check {c plmEn expect} (h : s.Good full) : (s.c2Check c plmEn expect).Good full := by
  dsimp only [State.c2Check]
  split
  · exact h
  · exact h.hwDefect.hwDefect

theorem State.Good.detectObs {c f} (h : s.Good full) : (s.detectObs c f).Good full := by
  dsimp only [State.detectObs]
  refine .foldl h ?_
  intro _ _ h
  split
  · exact .either h.persist1 h.hwDefect
  · exact h

theorem State.Good.acceptSsm {c sa v} (h : s.Good full) : (s.acceptSsm c sa v).Good full := by
  unfold State.acceptSsm
  extract_lets o b win o1
  have h1 : o1.Good full := .withLatest h.ovh h.ovh.latest.set h.ovh.cand.set
  exact .either h.acceptVal (h.setOvh (.either (.withAcc h1 h1.acc.set) h1))

theorem State.Good.detectSlice {i f} (h : s.Good full) : (s.detectSlice i f).Good full := by
  dsimp only [State.detectSlice]
  split
  · exact .timCheck (.timCheck (.foldl h.persist1.persist1.persist.persist.acceptVal.acceptVal.acceptVal.acceptVal.c2Check.persist1 fun h => .either h.acceptTrace h))
  · refine .timCheck (.timCheck (.foldl ?_ (fun h => .either h.acceptTrace h)))
    split
    · refine .hwDefect ?_
      split
      · exact h.persist1.persist1.persist1.persist1.persist1.persist1.persist1.acceptVal
      · exact h.persist1.persist1.persist1.persist1.persist1.persist1.persist1
    · split
      · exact h.persist1.persist1.persist1.persist1.persist1.persist1.persist1.acceptVal
      · exact h.persist1.persist1.persist1.persist1.persist1.persist1.persist1
  · exact .detectObs (.foldl (.either h h.persist1) fun h => h.acceptSsm)
  · exact h.detectObs

theorem State.Good.detectEntry {e f} (h : s.Good full) : (s.detectEntry e f).Good full := by
  dsimp only [State.detectEntry]
  split
  · exact h.persist.persist.acceptVal.c2Check.persist1
  · refine .either (.hwDefect (.foldl (.persist1 ?_) (fun h => .either h.acceptTrace h))) h.persist
    split
    · exact h.persist.persist.persist.persist1.acceptVal.hwDefect
    · exact h.persist.persist.persist.persist1.acceptVal
  · split
    · refine .hwDefect ?_
      split
      · exact h.persist1.persist1.persist1.persist1.acceptVal
      · exact h.persist1.persist1.persist1.persist1
    · split
      · exact h.persist1.persist1.persist1.persist1.acceptVal
      · exact h.persist1.persist1.persist1.persist1
  · exact .either (.hwDefect (h.setOvh h.ovh.update)) h
  · exact h

theorem State.Good.portFrames {p kind bank} (h : s.Good full) : (s.portFrames p kind bank).Good full :=
  h.foldl fun h => (h.enqueue.setHelm h.enqueue.helm.setPort).either (h.setHelm h.helm.setPort)

theorem State.Good.countFc {p} (h : s.Good full) : (s.countFc p).Good full :=
  h.foldl fun h => .either (h.setHelm h.helm.update) h

theorem State.Good.frameEvents {c p f mframe} (h : s.Good full) : (s.frameEvents c p f mframe).Good full :=
  h.countFc.portFrames.portFrames.either h.countFc.portFrames

theorem State.Good.storeRx {c f} (h : s.Good full) : (s.storeRx c f).Good full :=
  h.setOvh { h.ovh with
    rx := h.ovh.rx.fold fun h => h.set
    parity := h.ovh.parity.fold fun h => h.set
    viol := h.ovh.viol.fold fun h => h.set }

theorem State.Good.execFrameBoundary {c f} (h : s.Good full) : Kept full (execFrameBoundary c f s) := by
  dsimp only [Machine.execFrameBoundary]
  refine .either ?_ ?_
  · refine .either h.next ?_
    refine .either h.detectObs.next (.either (.next (.detectObs (h.setFramer h.framer.update))) ?_)
    exact .next (.frameEvents (.kFrame (.detectSlice (.storeRx (h.setFramer h.framer.update)))))
  · exact .either h.next (.either h.next h.storeRx.detectEntry.frameEvents.next)

theorem State.Good.execMonitoringTick {i f} (h : s.Good full) : Kept full (execMonitoringTick i f s) := by
  dsimp only [Machine.execMonitoringTick]
  refine .either ?_ h.next
  exact .next (.frameEvents (.linkDown (.detectObs (.storeRx (h.setFramer h.framer.update)))))

theorem State.Good.execLofTimer {i} (h : s.Good full) : Kept full (execLofTimer i s) := h.lofCheck.next

theorem Ovh.Good.withDeg {o : Ovh} {bad good} (h : o.Good full) (hb : Sorted full bad) (hg : Sorted full good) :
    ({ o with bad := bad, good := good } : Ovh).Good full :=
  { h with bad := hb, good := hg }

theorem State.Good.judgeDeg {c layer blocks errored} (h : s.Good full) : (s.judgeDeg c layer blocks errored).Good full := by
  have ho {b g} : (s.setOvh c { s.ovh c with
      bad := smSet 0 (s.ovh c).bad layer b, good := smSet 0 (s.ovh c).good layer g }).Good full :=
    .setOvh h (.withDeg h.ovh h.ovh.bad.set h.ovh.good.set)
  unfold State.judgeDeg
  exact .either h (.either (.either ho ho.hwDefect) (.either ho.hwDefect (.either ho.hwDefect ho)))

theorem State.Good.dclRolled (h : s.Good full) :
    ({ s with ovhs := s.ovhs.map fun e => (e.1, { e.2 with lastDcl := e.2.secDcl, secDcl := e.2.dcl }) } : State).Good full :=
  { h with
    ovhs := h.ovhs.mapVals fun _ => rfl
    ovhGood := by
      intro e he
      obtain ⟨e', he', rfl⟩ := List.mem_map.mp he
      exact { h.ovhGood e' he' with } }

theorem State.Good.setSec {n} (h : s.Good full) : ({ s with sec := n } : State).Good full := { h with }

theorem State.Good.execSecondBoundary {deg} (h : s.Good full) : Kept full (execSecondBoundary deg s) := by
  refine .either h.next (.next (.foldl ?_ fun h => h.setPt))
  exact .dclRolled (.foldl (.setSec (h.pmScan.foldl fun h => h.judgeDeg)) fun h => h.enqueue)

theorem Ovh.Good.withExc {o : Ovh} {bad good} (h : o.Good full) (hb : Sorted full bad) (hg : Sorted full good) :
    ({ o with excBad := bad, excGood := good } : Ovh).Good full :=
  { h with excBad := hb, excGood := hg }

theorem State.Good.execExcWindow {c layer viol} (h : s.Good full) : Kept full (execExcWindow c layer viol s) := by
  have ho {b g} : (s.setOvh c { s.ovh c with
      excBad := smSet 0 (s.ovh c).excBad layer b, excGood := smSet 0 (s.ovh c).excGood layer g }).Good full :=
    .setOvh h (.withExc h.ovh h.ovh.excBad.set h.ovh.excGood.set)
  unfold Machine.execExcWindow
  exact .either h.next (.either (.next (.either ho ho.hwDefect)) (.next (.either ho.hwDefect (.either ho.hwDefect ho))))

theorem State.Good.execCsfGfpTimeout {e} (h : s.Good full) : Kept full (execCsfGfpTimeout e s) := by
  dsimp only [Machine.execCsfGfpTimeout]
  split
  · exact .either (.next (.hwDefect (h.setOvh h.ovh.update))) h.next
  · exact h.next

theorem State.Good.txInsert {c} (h : s.Good full) : (s.txInsert c).2.Good full := by
  dsimp only [State.txInsert]
  split
  · exact h
  · split
    · exact h.wr
    · split
      · exact h
      · split
        · exact h.setOvh h.ovh.update
        · exact h.setOvh h.ovh.update
    · split
      · exact h.wr
      · split
        · exact .wr (h.setOvh h.ovh.update)
        · exact h.setOvh h.ovh.update
    · exact h

theorem State.Good.txMature {c} (h : s.Good full) : (s.txMature c).Good full :=
  h.setOvh { h.ovh with tx := h.ovh.tx.fold fun h => h.set }

theorem Ovh.Good.withSent {o : Ovh} {sent n} (h : o.Good full) (hs : Sorted full sent) :
    ({ o with sent := sent, txN := n } : Ovh).Good full :=
  { h with sent := hs }

theorem State.Good.execTransmitFrame {c own} (h : s.Good full) : Kept full (execTransmitFrame c own s) := by
  have h1 := h.txMature (c := c)
  unfold Machine.execTransmitFrame
  refine .either h.next (.either (.next (.setOvh h1 (.withSent h1.ovh .nil))) ?_)
  extract_lets held k layers
  split
  rename_i ins s' he
  have h' : s'.Good full := by
    split at he
    · exact Prod.mk.inj he |>.2 ▸ h1
    · exact .snd he h1.txInsert
  exact .next (.setOvh h' (.withSent h'.ovh (.fold .nil fun h => h.set)))

/-! ### Machine/Sound -/

theorem State.Good.sndBegin {o signal f} (h : s.Good full) (hf : ∀ {x}, (f x).Good full) :
    (s.sndBegin o signal f).Good full :=
  .either h.soundEnd (.either h.soundEnd (.either h.soundEnd hf))

theorem State.Good.execSupply {n tag} (h : s.Good full) : Kept full (execSupply n tag s) :=
  .next (h.runOp fun h => h.soundEnd)

theorem State.Good.execSoundBay {n tag} (h : s.Good full) : Kept full (execSoundBay n tag s) :=
  .next (h.runOp fun h => h.setBay.soundEnd)

theorem State.Good.execTdr {n tag refl} (h : s.Good full) : Kept full (execTdr n tag refl s) :=
  .next (h.runOp fun h => h.soundEnd.either (h.endOp.either (h.disturb.pmIntrusive.signalLost.either h).soundEnd))

theorem State.Good.execCableLoss {n tag} (h : s.Good full) : Kept full (execCableLoss n tag s) :=
  .next (h.runOp fun h => h.sndBegin (h.soundEnd.either h.soundEnd))

theorem State.Good.execOptics {n tag diag} (h : s.Good full) : Kept full (execOptics n tag diag s) := by
  dsimp only [Machine.execOptics]
  refine .next (.runOp h ?_)
  intro _ _ h
  refine .either h.soundEnd (.sndBegin h ?_)
  intro _
  split
  · exact h.soundEnd
  · exact h.soundEnd

theorem State.Good.execEye {n tag} (h : s.Good full) : Kept full (execEye n tag s) :=
  .next (h.runOp fun h => h.sndBegin h.report.soundEnd)

theorem State.Good.execJitter {n tag} (h : s.Good full) : Kept full (execJitter n tag s) :=
  .next (h.runOp fun h => h.sndBegin (h.modOp.either h.endOp))

theorem State.Good.execJitterWindowEnd {n tag pp rms} (h : s.Good full) : Kept full (execJitterWindowEnd n tag pp rms s) :=
  .next (h.runOp fun h => h.soundEnd)

theorem State.Good.execWander {n tag} (h : s.Good full) : Kept full (execWander n tag s) :=
  .next (h.runOp fun h => h.sndBegin (h.modOp.either h.soundEnd))

theorem State.Good.execWanderSample {n tag tie} (h : s.Good full) : Kept full (execWanderSample n tag tie s) :=
  .next (h.runOp fun h => h.soundEnd.either h.modOp)

theorem State.Good.traceResult {o c ts} (h : s.Good full) : (s.traceResult o c ts).Good full := h.soundEnd.either h.soundEnd

theorem State.Good.execTraces {n tag} (h : s.Good full) : Kept full (execTraces n tag s) :=
  .next (h.runOp fun h => h.sndBegin ((h.traceResult.either h.endOp).either h.traceResult))

theorem State.Good.ssmResult {o i src item} (h : s.Good full) : (s.ssmResult o i src item).Good full := by
  dsimp only [State.ssmResult]
  split
  · exact h.soundEnd
  · exact h.soundEnd

theorem State.Good.execSsm {n tag} (h : s.Good full) : Kept full (execSsm n tag s) := by
  dsimp only [Machine.execSsm]
  refine .next (.runOp h ?_)
  intro _ _ h
  refine .sndBegin h ?_
  intro _
  refine .either (.either h.ssmResult h.endOp) ?_
  exact .either (.either h.ssmResult h.endOp) (.either (.either h.ssmResult h.endOp) h.endOp)

theorem State.Good.execLoopProbe {n tag} (h : s.Good full) : Kept full (execLoopProbe n tag s) := by
  dsimp only [Machine.execLoopProbe]
  refine .next (.runOp h ?_)
  intro _ _ h
  refine .either h.soundEnd ?_
  refine .either h.soundEnd (.either h.soundEnd (.either h.endOp (.either ?_ ?_)))
  · exact .loopSend (.wr (.wr (.setLine h.disturb.pmIntrusive.modOp h.disturb.pmIntrusive.modOp.line.update)))
  · exact .loopUp (.wr (.wr (.setLine h.disturb.pmIntrusive.modOp h.disturb.pmIntrusive.modOp.line.update)))

theorem State.Good.execAutoneg {n tag} (h : s.Good full) : Kept full (execAutoneg n tag s) := by
  dsimp only [Machine.execAutoneg]
  refine .next (.runOp h ?_)
  intro _ _ h
  refine .sndBegin h ?_
  intro _
  split
  · exact h.soundEnd
  · exact h.soundEnd

/-! ### Machine/LinkBase -/

theorem State.Good.linkUsed (h : s.Good full) : s.linkUsed.Good full := .update (.either h.wr h)

theorem State.Good.tlpOut (h : s.Good full) : s.tlpOut.Good full := h.linkUsed.count

theorem State.Good.tlpIn (h : s.Good full) : s.tlpIn.Good full := h.either h.linkUsed.domRun.count

theorem State.Good.issueRead {n p addr len} (h : s.Good full) : (s.issueRead n p addr len).Good full := by
  dsimp only [State.issueRead]
  split
  · exact h
  · exact h.update.emit.tlpOut

theorem State.Good.fetchRing {n q} (h : s.Good full) : (s.fetchRing n q).Good full := h.issueRead.either h

theorem State.Good.readOp {o} (h : s.Good full) : (s.readOp o).Good full := h.issueRead.either h

theorem State.Good.pump {n} (h : s.Good full) : (s.pump n).Good full :=
  .either (.foldl (h.foldl fun h => h.fetchRing) fun h => h.readOp) h

theorem State.Good.pumpAll (h : s.Good full) : s.pumpAll.Good full := h.foldl fun h => h.pump

theorem State.Good.dropRead {t} (h : s.Good full) : (s.dropRead t).Good full := h.update

theorem State.Good.hostErr {f} (h : s.Good full) : (s.hostErr f).Good full := h.bump.fireFree

theorem State.Good.abandon {r cause} (h : s.Good full) : (s.abandon r cause).Good full := by
  dsimp only [State.abandon]
  split
  · exact h.update.setSess
  · exact .either h.update h.update.endOp

theorem State.Good.stated {o e} (h : s.Good full) : (s.stated o e).2.Good full := by
  dsimp only [State.stated]
  split
  · exact h.draw
  · exact h

theorem State.Good.pushRecord {o e} (h : s.Good full) : (s.pushRecord o e).Good full :=
  h.stated.pushStage.pushStage.wr.wr.setSess.count.update

theorem State.Good.endNext {n} (h : s.Good full) : (s.endNext n).Good full := by
  dsimp only [State.endNext]
  split
  · exact h
  · split
    · exact h
    · exact .either h.pushRecord (.either h (.either h.pushStage.update.pushRecord h.pushStage.update))

theorem State.Good.endAll {n} (h : s.Good full) : (s.endAll n).Good full := h.foldl fun h => h.endNext

theorem State.Good.recordWritten {n b} (h : s.Good full) : (s.recordWritten n b).Good full := h.update

/-! ### Machine/Engine -/

theorem State.Good.ringErr {n q} (h : s.Good full) : (s.ringErr n q).Good full := h.bump

theorem State.Good.sqBell {n q tail} (h : s.Good full) : (s.sqBell n q tail).Good full :=
  h.either (h.ringErr.either h.setSess.wr.pump)

theorem State.Good.execSqDoorbell {n q tail} (h : s.Good full) : Kept full (execSqDoorbell n q tail s) :=
  h.tlpIn.sqBell.next

theorem State.Good.cqBell {n head} (h : s.Good full) : (s.cqBell n head).Good full := by
  dsimp only [State.cqBell]
  split
  · exact h
  · split
    · exact h.ringErr
    · split
      · exact h.ringErr
      · exact h.setSess.either h.setSess.wr.pump

theorem State.Good.execCqDoorbell {n head} (h : s.Good full) : Kept full (execCqDoorbell n head s) := h.tlpIn.cqBell.next

theorem State.Good.eqComplete {n upTo} (h : s.Good full) : (s.eqComplete n upTo).Good full :=
  { h with sources := h.sources.fold fun h => h.set.either h }

theorem State.Good.eqBell {n head} (h : s.Good full) : (s.eqBell n head).Good full := by
  dsimp only [State.eqBell]
  split
  · exact h
  · split
    · exact h.ringErr
    · split
      · exact h.ringErr
      · split
        · exact h.setSess.eqComplete.setFlag.eqOverflow.pushStage.setFlag
        · exact h.setSess.eqComplete.setFlag.eqOverflow

theorem State.Good.execEqHeadDoorbell {n head} (h : s.Good full) : Kept full (execEqHeadDoorbell n head s) :=
  h.tlpIn.eqBell.next

theorem State.Good.execSubmissionFetchDone {tag data} (h : s.Good full) :
    Kept full (execSubmissionFetchDone tag data s) := by
  dsimp only [Machine.execSubmissionFetchDone]
  split
  · exact h.next
  · split
    · exact h.next
    · split
      · exact h.tlpIn.abandon.hostErr.pumpAll.next
      · exact .either h.tlpIn.dropRead.pumpAll.next h.tlpIn.dropRead.setSess.wr.pumpAll.next

theorem State.Good.execHostReadCompletion {tag data} (h : s.Good full) : Kept full (execHostReadCompletion tag data s) := by
  dsimp only [Machine.execHostReadCompletion]
  split
  · exact h.next
  · split
    · exact h.next
    · exact .next (.pumpAll (.either h.tlpIn.dropRead h.tlpIn.dropRead.modOp))

theorem State.Good.execCompletionTimeout {tag} (h : s.Good full) : Kept full (execCompletionTimeout tag s) := by
  dsimp only [Machine.execCompletionTimeout]
  split
  · exact h.next
  · exact .either h.next h.abandon.hostErr.count.pumpAll.next

theorem State.Good.execBadCompletion {tag kind} (h : s.Good full) : Kept full (execBadCompletion tag kind s) := by
  dsimp only [Machine.execBadCompletion]
  split
  · exact h.next
  · exact h.tlpIn.abandon.hostErr.pumpAll.next

theorem State.Good.execUnexpectedCompletion {tag} (h : s.Good full) : Kept full (execUnexpectedCompletion tag s) :=
  h.tlpIn.hostErr.next.either h.next

theorem State.Good.execTagQuarantineEnd {tag} (h : s.Good full) : Kept full (execTagQuarantineEnd tag s) := by
  dsimp only [Machine.execTagQuarantineEnd]
  split
  · exact h.next
  · exact .next (.either h h.dropRead.pumpAll)

theorem State.Good.consume {n q} (h : s.Good full) : (s.consume n q).Good full := h.setSess.update

theorem State.Good.admitRec {o} (h : s.Good full) : (s.admitRec o).Good full := h.count.count.update

theorem State.Good.execAdmitRecord (h : s.Good full) : Kept full (execAdmitRecord s) := by
  dsimp only [Machine.execAdmitRecord]
  refine .either h.next ?_
  split
  · exact h.next
  · split
    · exact h.next
    · refine .either h.wr.next ?_
      split
      · exact h.consume.update.count.pump.next
      · exact h.consume.admitRec.pump.next

theorem State.Good.execOperationStart {n tag} (h : s.Good full) : Kept full (execOperationStart n tag s) := by
  dsimp only [Machine.execOperationStart]
  split
  · exact h.next
  · exact .either h.modOp.pump.next h.next

theorem State.Good.execOperationEnd {n tag} (h : s.Good full) : Kept full (execOperationEnd n tag s) := by
  dsimp only [Machine.execOperationEnd]
  split
  · exact h.next
  · exact .next (.either h.endNext h)

theorem State.Good.bmeClear {n} (h : s.Good full) : (s.bmeClear n).Good full := h.setFn.update

theorem State.Good.bmeSet {n} (h : s.Good full) : (s.bmeSet n).Good full := h.setFn.update.endAll.eqOverflow.eqFlush.pump

theorem State.Good.execBmeClear {n} (h : s.Good full) : Kept full (execBmeClear n s) := (h.bmeClear.either h).next

theorem State.Good.execBmeSet {n cto} (h : s.Good full) : Kept full (execBmeSet n cto s) := by
  dsimp only [Machine.execBmeSet]
  refine .either h.next (.next (.either ?_ ?_))
  · split
    · exact h.setFn
    · exact h
  · refine .bmeSet ?_
    split
    · exact h.setFn
    · exact h

theorem State.Good.deliver {x} (h : s.Good full) : (s.deliver x).Good full := by
  dsimp only [State.deliver]
  split
  · exact h.emit.tlpOut
  · exact h.emit.tlpOut
  · exact h.emit.tlpOut.recordWritten
  · exact h.emit.tlpOut

theorem State.Good.drain {n l kept} (h : s.Good full) : (s.drain n l kept).Good full := by
  induction n generalizing s l kept with
  | zero => cases l <;> exact { h with }
  | succ n ih =>
    induction l generalizing kept with
    | nil => exact { h with }
    | cons x l ih' =>
      unfold State.drain
      exact (ih h.deliver).either ih'

theorem State.Good.execPcieCreditReturn {k} (h : s.Good full) : Kept full (execPcieCreditReturn k s) :=
  .either h.next h.update.drain.next

/-! ### Machine/Query -/

theorem State.Good.execNop {n tag} (h : s.Good full) : Kept full (execNop n tag s) := .next (h.runOp fun h => h.endOp)

theorem State.Good.query {n tag c f} (h : s.Good full) (hf : ∀ {x t}, t.Good full → (f x t).2.Good full) :
    (s.query n tag c f).Good full :=
  h.runOp fun h => .endWithData (hf h)

theorem State.Good.execQueryGlobal {n tag} (h : s.Good full) : Kept full (execQueryGlobal n tag s) :=
  .next (h.query fun h => h)

theorem State.Good.execQuerySession {n tag} (h : s.Good full) : Kept full (execQuerySession n tag s) :=
  .next (h.query fun h => h)

theorem State.Good.execQueryOperation {n tag} (h : s.Good full) : Kept full (execQueryOperation n tag s) := by
  dsimp only [Machine.execQueryOperation]
  refine .next (.query h ?_)
  intro _ _ h
  split
  · exact h
  · exact h.draw.draw

theorem State.Good.execQueryObject {n tag} (h : s.Good full) : Kept full (execQueryObject n tag s) :=
  .next (h.query fun h => h)

theorem State.Good.execQueryLink {n tag} (h : s.Good full) : Kept full (execQueryLink n tag s) := .next (h.query fun h => h)

theorem State.Good.execQueryPower {n tag} (h : s.Good full) : Kept full (execQueryPower n tag s) :=
  .next (h.query fun h => h)

/-! ### Machine/OpsEnd -/

theorem State.Good.dropProbe {o} (h : s.Good full) : (s.dropProbe o).Good full := by
  dsimp only [State.dropProbe]
  split
  · exact .either (.wr (h.setLine h.line.update)) h
  · exact h

theorem State.Good.pauseEvent {o kind} (h : s.Good full) : (s.pauseEvent o kind).Good full := by
  dsimp only [State.pauseEvent]
  split
  · exact h
  · exact h.foldl fun h => h.enqueue

theorem State.Good.abortOp {o status} (h : s.Good full) : (s.abortOp o status).Good full := by
  dsimp only [State.abortOp]
  split
  · split
    · exact (h.pauseEvent.either h).acqEnd
    · exact (h.pauseEvent.either h).endOp
  · exact (h.pauseEvent.either h).dropProbe.modOp.endOp
  · split
    · exact (h.pauseEvent.either h).endOp
    · exact ((h.pauseEvent.either h).wr.either (h.pauseEvent.either h)).endOp
  · exact ((h.pauseEvent.either h).soakEnd.either (h.pauseEvent.either h)).dropCap.endOp
  · exact (h.pauseEvent.either h).dropCap.endOp
  · exact ((h.pauseEvent.either h).patRelease.either (h.pauseEvent.either h)).endOp
  · exact (h.pauseEvent.either h).endOp

theorem State.Good.suspendOp {o bits errs} (h : s.Good full) : (s.suspendOp o bits errs).Good full := by
  dsimp only [State.suspendOp]
  split
  · refine .modOp ?_
    split
    · exact h.setLine h.line.update
    · exact h
  · exact h.dropProbe.modOp
  · exact .pmScan (.modOp (.either h.pmScan h))
  · exact .modOp (.either (.setPat (.either h.patCount h)) (.either h.patCount h))
  · exact h.modOp

theorem State.Good.resumeOp {o} (h : s.Good full) : (s.resumeOp o).Good full := by
  dsimp only [State.resumeOp]
  split
  · refine .modOp ?_
    split
    · exact h.setLine h.line.update
    · exact h
  · refine .pmScan (.modOp ?_)
    split
    · rename_i hk
      exact h.setCap (h.cap? hk).update
    · exact h
  · refine .modOp ?_
    split
    · rename_i hk
      exact h.setCap (h.cap? hk).update
    · exact h
  · exact .modOp (.either h.setPat.patSeed h)
  · exact h.modOp

theorem State.Good.control {n tag opcode f} (h : s.Good full) (hf : ∀ {x t}, t.Good full → (f x t).1.Good full) :
    (s.control n tag opcode f).Good full := by
  dsimp only [State.control]
  refine .runOp h ?_
  intro _ _ h
  split
  · exact h.endOp
  · exact .either h.endOp (.either h.endOp (.endOp (hf h)))

theorem State.Good.execSuspend {n tag bits errs} (h : s.Good full) : Kept full (execSuspend n tag bits errs s) := by
  dsimp only [Machine.execSuspend]
  refine .next (.control h ?_)
  intro _ _ h
  split
  · exact h
  · exact h.suspendOp.pauseEvent

theorem State.Good.execResume {n tag} (h : s.Good full) : Kept full (execResume n tag s) := by
  dsimp only [Machine.execResume]
  refine .next (.control h ?_)
  intro _ _ h
  split
  · exact h.resumeOp.pauseEvent
  · exact h

theorem State.Good.execCancel {n tag bits errs} (h : s.Good full) : Kept full (execCancel n tag bits errs s) :=
  .next (h.control fun h => (h.patCount.either h).abortOp)

/-! ### Machine/Fatal -/

theorem State.Good.faultEnds (h : s.Good full) : s.faultEnds.Good full := by
  dsimp only [State.faultEnds]
  refine .foldl h.update ?_
  intro _ _ h
  split
  · exact h.stated.update
  · exact h.update

theorem State.Good.stewardRegs {d : Dump} {w} (h : s.Good full) : (s.stewardRegs d w).2.Good full := h.draw

theorem State.Good.counterSnap (h : s.Good full) : s.counterSnap.Good full := h.wr.foldl fun h => h.wr

theorem State.Good.workGone (h : s.Good full) :
    ({ s with ops := [], helms := [], ovhs := [], pats := [], lines := [],
              host := { s.host with staging := [], reads := [] } } : State).Good full :=
  { h with
    helms := .nil, helmGood := List.forall_mem_nil _, ovhs := .nil, ovhGood := List.forall_mem_nil _, lines := .nil
    lineGood := List.forall_mem_nil _, pats := .nil }

theorem State.Good.stopWork (h : s.Good full) : s.stopWork.Good full := .workGone (h.foldl fun h => h.wr.wr)

theorem State.Good.setDump {d} (h : s.Good full) (hd : d.Good full) :
    ({ s with health := { s.health with dump := some d } } : State).Good full :=
  { h with dumpGood := fun _ e => Option.mem_some_iff.mp e ▸ hd }

theorem State.Good.fatal {cause data lane} (h : s.Good full) : (s.fatal cause data lane).Good full := by
  unfold State.fatal
  extract_lets s1 _ s2 t liveTag who d s3
  have h1 : s1.Good full := h.stowAbort
  split
  · rename_i hk
    have hd := h1.dump hk
    exact h1.setDump ⟨hd.counters, hd.sections⟩
  · refine .either h1 ?_
    have h2 : s2.Good full := h1.wr
    have h3 : s3.Good full := .wr (.stopWork (.counterSnap (.update h2)))
    exact .setDump h3 ⟨h2.cnt, .ofKeys (List.pairwise_lt_range.filter _)⟩

theorem State.Good.sections {d : Dump} (h : s.Good full) : (s.sections d).2.Good full := by
  dsimp only [State.sections]
  exact h.stewardRegs.stewardRegs

theorem State.Good.dumpOver {n} (h : s.Good full) :
    ({ s with health := { s.health with dump := none, holdAt := n } } : State).Good full :=
  { h with dumpGood := .ofNone }

theorem State.Good.dumpEnd {d : Dump} {k} (h : s.Good full) : (s.dumpEnd d k).Good full := by
  unfold State.dumpEnd
  split
  rename_i l s1 he
  extract_lets l base put s2 s3 s4 s5
  have h1 : s1.Good full := .snd he h.sections
  have hput {t o b} (ht : State.Good full t) : (put t o b).Good full := ht.setBytes.coverWords
  have h2 : s2.Good full := h1.foldl fun h => .either (hput h) h
  have h4 : s4.Good full := .either (hput h2).wr (hput h2)
  exact .dumpOver (.wr (.wr (.setFlag h4.wr)))

theorem State.Good.execLogbookDump {own} (h : s.Good full) : Kept full (execLogbookDump own s) := by
  dsimp only [Machine.execLogbookDump]
  split
  · exact (h.eccUncorr.fatal.either h).next
  · exact h.fatal.next
  · refine .next ?_
    split
    · exact h.dumpEnd
    · exact h

theorem State.Good.execDumpTimeout {k} (h : s.Good full) : Kept full (execDumpTimeout k s) := by
  dsimp only [Machine.execDumpTimeout]
  split
  · exact .next (.either h.dumpEnd h)
  · exact h.next

theorem State.Good.execFaultHoldAutoReset (h : s.Good full) : Kept full (execFaultHoldAutoReset s) :=
  .next (.either h.warmReset h)

theorem State.Good.execLockstepMismatch {w consec lane} (h : s.Good full) :
    Kept full (execLockstepMismatch w consec lane s) :=
  .either h.next (.next (.fatal (.either h.count.fire.wr h.count.fire)))

theorem State.Good.inject {w flagged real} (h : s.Good full) : (s.inject w flagged real).Good full := by
  dsimp only [State.inject]
  refine .either ?_ ?_
  · refine .either ?_ ?_
    · refine .fatal (.fire (.either ?_ ?_))
      · exact .draw (.either (.count (.either h.count.count.wr h.count)) (.either h.count.count.wr h.count))
      · exact .either (.count (.either h.count.count.wr h.count)) (.either h.count.count.wr h.count)
    · refine .either ?_ ?_
      · exact .draw (.either (.count (.either h.count.count.wr h.count)) (.either h.count.count.wr h.count))
      · exact .either (.count (.either h.count.count.wr h.count)) (.either h.count.count.wr h.count)
  · refine .fatal (.fire (.either ?_ ?_))
    · exact .draw (.either (.count (.either h.count.count.wr h.count)) (.either h.count.count.wr h.count))
    · exact .either (.count (.either h.count.count.wr h.count)) (.either h.count.count.wr h.count)

theorem State.Good.execComparatorInjection {w flagged real} (h : s.Good full) :
    Kept full (execComparatorInjection w flagged real s) :=
  h.next.either h.inject.next

theorem State.Good.execMatrixStall {m} (h : s.Good full) : Kept full (execMatrixStall m s) := h.fatal.next

theorem State.Good.logRead (h : s.Good full) : s.logRead.Good full := h.wr

theorem State.Good.execLogbookMarkRead (h : s.Good full) : Kept full (execLogbookMarkRead s) := (h.logRead.either h).next

theorem State.Good.execLogbookForce {key} (h : s.Good full) : Kept full (execLogbookForce key s) :=
  .next (.either h.fatal h)

theorem State.Good.execCounterSnap (h : s.Good full) : Kept full (execCounterSnap s) := (h.counterSnap.either h).next

/-! ### Machine/Feeds -/

theorem State.Good.kEvent {f} (h : s.Good full) (hf : ∀ {t}, t.Good full → (f t).Good full) : Kept full (s.kEvent f) :=
  .next (.either (hf h) h)

theorem State.Good.cutoffEnd {cause} (h : s.Good full) : (s.cutoffEnd cause).Good full :=
  .either h.wr.update.pathScan.startWake h.wr.update.pathScan

theorem State.Good.execFeedValid {f} (h : s.Good full) : Kept full (execFeedValid f s) :=
  h.kEvent fun h => h.either (h.setMaskBit.cutoffEnd.either h.setMaskBit.pathScan)

theorem State.Good.execFeedInvalid {f} (h : s.Good full) : Kept full (execFeedInvalid f s) :=
  h.kEvent fun h => h.setMaskBit.pathScan.either h

theorem State.Good.execDeadTimeEnd (h : s.Good full) : Kept full (execDeadTimeEnd s) := by
  dsimp only [Machine.execDeadTimeEnd]
  refine State.Good.kEvent h ?_
  intro _ h
  split
  · exact .either h.update.pathScan h
  · exact h

theorem State.Good.execPowerFailure (h : s.Good full) : Kept full (execPowerFailure s) := h.kEvent fun h => h.goOff.either h

theorem State.Good.execPackLowChange {mv} (h : s.Good full) : Kept full (execPackLowChange mv s) :=
  h.kEvent fun h => (h.wr.kfire.either h).either (h.wr.kfire.either h)

theorem State.Good.setGrace {g} (h : s.Good full) : ({ s with feed := { s.feed with grace := g } } : State).Good full := h.update

theorem State.Good.execCutoffEntry (h : s.Good full) : Kept full (execCutoffEntry s) := by
  refine h.kEvent fun {s} h => .either h (.either (.pathScan (.update h.wr)) ?_)
  split
  · exact .feedFire (.update h.wr.coreOff)
  · exact .feedFire (.update h.wr)
  · exact .setGrace (.feedFire (.allowUpdate h.wr))

theorem State.Good.execPackGraceExpiry (h : s.Good full) : Kept full (execPackGraceExpiry s) :=
  h.kEvent fun h => .either (.update (.coreOff (h.foldl fun h => h.bayOffNow))) h

theorem State.Good.execCutoffExit (h : s.Good full) : Kept full (execCutoffExit s) := h.kEvent fun h => h.cutoffEnd.either h

theorem State.Good.execPackDisconnect (h : s.Good full) : Kept full (execPackDisconnect s) :=
  h.kEvent fun h => h.goOff.either h

theorem State.Good.poeFire {cause} (h : s.Good full) : (s.poeFire cause).Good full := h.kfire

theorem State.Good.execPoeDetection (h : s.Good full) : Kept full (execPoeDetection s) :=
  h.kEvent fun h => h.wr.wr.update.poeFire

theorem State.Good.execPoeClassification (h : s.Good full) : Kept full (execPoeClassification s) :=
  h.kEvent fun h => h.wr.wr.poeFire

theorem State.Good.execPoePowerApplied (h : s.Good full) : Kept full (execPoePowerApplied s) :=
  h.kEvent fun h => (h.draw.wr.either h.wr).wr.poeFire.shortScan

theorem State.Good.execPoePowerRemoved (h : s.Good full) : Kept full (execPoePowerRemoved s) :=
  h.kEvent fun h => h.wr.wr.wr.poeFire.shortScan

theorem State.Good.execAllowanceRecompute (h : s.Good full) : Kept full (execAllowanceRecompute s) :=
  h.kEvent fun h => h.either h.allowUpdate

theorem State.Good.execBayShed (h : s.Good full) : Kept full (execBayShed s) := by
  dsimp only [Machine.execBayShed]
  refine State.Good.kEvent h ?_
  intro _ h
  split
  · exact h
  · refine .either h ?_
    split
    · exact h
    · exact h.bayMove.update.kfire

theorem State.Good.execOverdrawCheck (h : s.Good full) : Kept full (execOverdrawCheck s) := by
  dsimp only [Machine.execOverdrawCheck]
  refine State.Good.kEvent h ?_
  intro _ h
  refine .either h.update.wr ?_
  split
  · exact h.update
  · exact .either h.wr.kfire h

theorem State.Good.bayAct {b tag action} (h : s.Good full) : (s.bayAct b tag action).Good full := by
  dsimp only [State.bayAct]
  split
  · exact h.bayCmd.either h
  · exact h.runOp fun h => h.bayCmd.endOp.either h.endOp

theorem State.Good.execBayOn {b tag} (h : s.Good full) : Kept full (execBayOn b tag s) := h.bayAct.next

theorem State.Good.execBayOff {b tag} (h : s.Good full) : Kept full (execBayOff b tag s) := h.bayAct.next

theorem State.Good.execBayClear {b tag} (h : s.Good full) : Kept full (execBayClear b tag s) := h.bayAct.next

theorem State.Good.execBayRestart {b tag} (h : s.Good full) : Kept full (execBayRestart b tag s) := h.bayAct.next

theorem State.Good.execHeadSeated {b} (h : s.Good full) : Kept full (execHeadSeated b s) := by
  dsimp only [Machine.execHeadSeated]
  refine State.Good.kEvent h ?_
  intro _ h
  refine .either h (.either h.wr.wr ?_)
  split
  · exact h.wr.wr.baySeating
  · exact .either h.wr.wr.setBay.bayFire h.wr.wr
  · exact h.wr.wr

theorem State.Good.execHeadUnseated {b pinB} (h : s.Good full) : Kept full (execHeadUnseated b pinB s) := by
  dsimp only [Machine.execHeadUnseated]
  refine State.Good.kEvent h ?_
  intro _ h
  refine .either (.either h.wr h.wr) (.either ?_ ?_)
  · exact .deniedScan (.bayMove (.either h.wr h.wr))
  · exact .either (.setBay (.either h.wr h.wr)) (.either h.wr h.wr)

theorem State.Good.execSeatDebounceEnd {b} (h : s.Good full) : Kept full (execSeatDebounceEnd b s) :=
  h.kEvent fun h => h.bayTry.deniedScan.either h

theorem State.Good.execBayOutOfWindow (h : s.Good full) : Kept full (execBayOutOfWindow s) :=
  h.kEvent fun h => h.foldl fun h => h.baySeating.either h

theorem State.Good.execPowerGood {b} (h : s.Good full) : Kept full (execPowerGood b s) :=
  h.kEvent fun h => h.bayMove.wr.setBay.deniedScan.either h

theorem State.Good.execShortStart {b} (h : s.Good full) : Kept full (execShortStart b s) :=
  h.kEvent fun h => h.bayFault.either h

theorem State.Good.execFastTrip {b} (h : s.Good full) : Kept full (execFastTrip b s) :=
  h.kEvent fun h => h.bayFault.either (h.bayFault.either h)

theorem State.Good.execOvercurrent {b} (h : s.Good full) : Kept full (execOvercurrent b s) :=
  h.kEvent fun h => h.bayFault.either h

theorem State.Good.execPgLost {b} (h : s.Good full) : Kept full (execPgLost b s) := h.kEvent fun h => h.bayFault.either h

theorem State.Good.execRetryExpiry {b} (h : s.Good full) : Kept full (execRetryExpiry b s) :=
  h.kEvent fun h => h.bayTry.deniedScan.either h

theorem State.Good.execFaultCountReset {b} (h : s.Good full) : Kept full (execFaultCountReset b s) := by
  dsimp only [Machine.execFaultCountReset]
  refine State.Good.kEvent h ?_
  intro _ h
  split
  · exact .either h.wr h
  · exact h

theorem State.Good.bayIdentified {b kind status decl mem} (h : s.Good full) :
    (s.bayIdentified b kind status decl mem).Good full :=
  h.wr.wr.wr.setBay.bayFire.shortScan

theorem State.Good.bayIdent {b m50 m57 decl} (h : s.Good full) : (s.bayIdent b m50 m57 decl).Good full := by
  dsimp only [State.bayIdent]
  split
  · exact h
  · split
    · exact h
    · split
      · exact h.bayIdentified
      · exact h.bayIdentified.either h.bayIdentified
      · exact h.bayIdentified.either h.setBay

theorem State.Good.execHeadIdent {b m50 m57 decl} (h : s.Good full) : Kept full (execHeadIdent b m50 m57 decl s) :=
  h.bayIdent.next.either h.next

theorem State.Good.execHeadIdentRetry {b m50 m57 decl} (h : s.Good full) :
    Kept full (execHeadIdentRetry b m50 m57 decl s) :=
  h.next.either h.bayIdent.next

theorem State.Good.execHeadIntChange {b on} (h : s.Good full) : Kept full (execHeadIntChange b on s) :=
  h.kEvent fun h => h.either h.setFlag.kfire

theorem State.Good.execHeadLosChange {b on} (h : s.Good full) : Kept full (execHeadLosChange b on s) :=
  h.kEvent fun h => h.either (h.setFlag.kfire.bayDark.either h.setFlag.kfire)

theorem State.Good.adcLimit {c} (h : s.Good full) : (s.adcLimit c).Good full :=
  .either (.kfire { h with crossed := h.crossed.set }) { h with crossed := h.crossed.set }

theorem State.Good.withHist {m} (h : s.Good full) (hm : Sorted full m) :
    ({ s with feed := { s.feed with hist := m } } : State).Good full :=
  { h with hist := hm }

theorem State.Good.adcConvert {c v} (h : s.Good full) : (s.adcConvert c v).Good full := by
  unfold State.adcConvert
  refine .either (.wr (.wr (.withHist h h.hist.del))) ?_
  extract_lets l _ s1 s2
  have h2 : s2.Good full := .wr (.wr (.withHist h h.hist.set))
  exact .adcLimit (.either (.setBay h2) h2)

theorem State.Good.coolScan (h : s.Good full) : s.coolScan.Good full := h.update

theorem State.Good.execAdcScan {raw} (h : s.Good full) : Kept full (execAdcScan raw s) := by
  dsimp only [Machine.execAdcScan]
  refine .either (.fault _) ?_
  exact h.kEvent fun h => .either h (.coolScan (.shortScan (.wr (.update (h.foldl fun h => h.adcConvert)))))

theorem State.Good.fdPathWrite {v} (h : s.Good full) : (s.fdPathWrite v).Good full := h.either h.wr.wr.wr.pathScan.shortScan

theorem State.Good.byMapWrite {b v} (h : s.Good full) : (s.byMapWrite b v).Good full :=
  h.wr.either (h.wr.wr.either h.wr.wr.bayDark)

theorem State.Good.poeCfgWrite {v} (h : s.Good full) : (s.poeCfgWrite v).Good full :=
  h.wr.wr.wr.either h.wr.wr.wr.poeFire.shortScan

theorem State.Good.execFdPathWrite {v} (h : s.Good full) : Kept full (execFdPathWrite v s) := (h.fdPathWrite.either h).next

theorem State.Good.execByMapWrite {b v} (h : s.Good full) : Kept full (execByMapWrite b v s) := (h.byMapWrite.either h).next

theorem State.Good.execPdLimitWrite {v} (h : s.Good full) : Kept full (execPdLimitWrite v s) :=
  (h.poeCfgWrite.either h).next

/-! ### Machine/HostLink -/

theorem State.Good.execLinkUp {speed x2 aspm} (h : s.Good full) : Kept full (execLinkUp speed x2 aspm s) :=
  .either h.next h.wr.wr.wr.update.pumpAll.next

theorem State.Good.execLinkDown (h : s.Good full) : Kept full (execLinkDown s) := .either h.next h.wr.fatal.next

theorem State.Good.execPerstAssert (h : s.Good full) : Kept full (execPerstAssert s) :=
  .either h.next (.next (.either h.update h.update.wr.fatal))

theorem State.Good.execPerstDeassert (h : s.Good full) : Kept full (execPerstDeassert s) :=
  h.kEvent fun h => .either h h.update.draw.draw.kfire.update

theorem State.Good.execStagingStall (h : s.Good full) : Kept full (execStagingStall s) := .next (.either h.fatal h)

theorem State.Good.execL2L3Ready (h : s.Good full) : Kept full (execL2L3Ready s) := (h.wr.either h).next

theorem State.Good.execL1Entry {deep} (h : s.Good full) : Kept full (execL1Entry deep s) :=
  .next (.either (.either h.update.wr h.wr) h)

theorem State.Good.execL12Exit (h : s.Good full) : Kept full (execL12Exit s) := (h.linkUsed.pumpAll.either h).next

theorem State.Good.execConfigRetry (h : s.Good full) : Kept full (execConfigRetry s) := (h.emit.either h).next

theorem State.Good.hostCtlWrite {v} (h : s.Good full) : (s.hostCtlWrite v).Good full := h.wr.wr.wr.emit

theorem State.Good.execLtrUpdate {v} (h : s.Good full) : Kept full (execLtrUpdate v s) :=
  (h.tlpIn.hostCtlWrite.either h).next

theorem State.Good.execDStateWrite {d3 pme} (h : s.Good full) : Kept full (execDStateWrite d3 pme s) :=
  .next (.either h.update.pump h)

theorem State.Good.execPf0Flr (h : s.Good full) : Kept full (execPf0Flr s) := .next (.either h.warmReset.configReset h)

theorem State.Good.execHotReset (h : s.Good full) : Kept full (execHotReset s) := .next (.either h.warmReset.configReset h)

theorem State.Good.glReset {v} (h : s.Good full) : (s.glReset v).Good full :=
  .either h (.either h.coldReset (.either h.warmReset h))

theorem State.Good.execWarmReset {key} (h : s.Good full) : Kept full (execWarmReset key s) := h.glReset.next

theorem State.Good.execColdReset {key} (h : s.Good full) : Kept full (execColdReset key s) := h.glReset.next

theorem State.Good.execBar2Write {off data} (h : s.Good full) : Kept full (execBar2Write off data s) := by
  dsimp only [Machine.execBar2Write]
  refine .either h.tlpIn.next ?_
  exact .next (.foldl (.either h.tlpIn.coverWords h.tlpIn) fun h => .either h.setByte h)

theorem State.Good.execBar2Atomicop (h : s.Good full) : Kept full (execBar2Atomicop s) := (h.tlpIn.emit.either h).next

/-! ### Machine/Keeper -/

theorem State.Good.calendar {n tag action f} (h : s.Good full) (hf : ∀ {x t}, t.Good full → (f x t).Good full) :
    (s.calendar n tag action f).Good full :=
  h.runOp fun h => .either (hf h) h.endOp

theorem State.Good.calendarAdd {n tag action} (h : s.Good full) : (s.calendarAdd n tag action).Good full := by
  dsimp only [State.calendarAdd]
  refine .calendar h ?_
  intro _ _ h
  split
  · exact h.endOp
  · exact h.draw.wr.wr.wr.wr.wr.endOp

theorem State.Good.execCalendarAddWake {n tag} (h : s.Good full) : Kept full (execCalendarAddWake n tag s) :=
  h.calendarAdd.next

theorem State.Good.execCalendarAddRaise {n tag} (h : s.Good full) : Kept full (execCalendarAddRaise n tag s) :=
  h.calendarAdd.next

theorem State.Good.execCalendarCancel {n tag} (h : s.Good full) : Kept full (execCalendarCancel n tag s) :=
  .next (h.calendar fun h => h.wr.endOp.either h.endOp)

theorem State.Good.calRaise {e} (h : s.Good full) : (s.calRaise e).Good full :=
  .either h.draw.kfire (.either h.fireData h.update)

theorem State.Good.execCalendarWakeFire {e} (h : s.Good full) : Kept full (execCalendarWakeFire e s) :=
  h.kEvent fun h => .either (.update (.wr (.either h.startWake.calRaise.domRun h.startWake.calRaise))) h

theorem State.Good.execCalendarRaiseFire {e} (h : s.Good full) : Kept full (execCalendarRaiseFire e s) :=
  h.kEvent fun h => h.calRaise.wr.either h

theorem State.Good.execHoldMsExpiry (h : s.Good full) : Kept full (execHoldMsExpiry s) :=
  h.kEvent fun h => .either h.update h

theorem State.Good.execPowerFloor {n tag} (h : s.Good full) : Kept full (execPowerFloor n tag s) :=
  .next (h.runOp fun h => h.wr.endOp.either h.endOp)

theorem State.Good.execKeeperChoice (h : s.Good full) : Kept full (execKeeperChoice s) :=
  .either h.next (.next (.setDom (h.foldl fun h => h.setDom)))

theorem State.Good.execDomainWakeStart {d} (h : s.Good full) : Kept full (execDomainWakeStart d s) :=
  h.kEvent fun h => (h.either h.startWake).either (h.domRun.either h)

theorem State.Good.execUnknownEventWake {d} (h : s.Good full) : Kept full (execUnknownEventWake d s) :=
  (h.domRun.either h).next

theorem State.Good.entryStart {st} (h : s.Good full) : (s.entryStart st).Good full := h.wr.update

theorem State.Good.execStowEntry (h : s.Good full) : Kept full (execStowEntry s) := (h.entryStart.either h).next

theorem State.Good.execMoorEntry (h : s.Good full) : Kept full (execMoorEntry s) := (h.entryStart.either h).next

theorem State.Good.execStowAbort (h : s.Good full) : Kept full (execStowAbort s) := (h.stowAbort.either h).next

theorem State.Good.execStowCommit {pps} (h : s.Good full) : Kept full (execStowCommit pps s) := by
  dsimp only [Machine.execStowCommit]
  split
  · exact h.next
  · exact .either h.next h.count.coreOff.update.next

theorem State.Good.execPpsRefinement (h : s.Good full) : Kept full (execPpsRefinement s) := by
  dsimp only [Machine.execPpsRefinement]
  refine .next ?_
  split
  · exact .either h.update (.either h.update h.update)
  · exact h

theorem State.Good.execRebaseSlewEnd (h : s.Good full) : Kept full (execRebaseSlewEnd s) := .next (.either h.update h)

/-! ### Machine/Compass -/

theorem State.Good.avsWrite {v} (h : s.Good full) : (s.avsWrite v).Good full :=
  .either h (.update (.emit (.wr (.either h.count (.either h.count h)))))

theorem State.Good.avsSettle (h : s.Good full) : s.avsSettle.Good full := by
  dsimp only [State.avsSettle]
  split
  · exact .either h.update h
  · exact h

theorem State.Good.reThrottle (h : s.Good full) : s.reThrottle.Good full := h.setFlag

theorem State.Good.setLevel {l} (h : s.Good full) : (s.setLevel l).Good full := h.either h.wr.count.fire

theorem State.Good.lowerTo {l} (h : s.Good full) : (s.lowerTo l).Good full := h.setLevel.avsWrite

theorem State.Good.raiseTo {l} (h : s.Good full) : (s.raiseTo l).Good full := h.avsWrite.update

theorem State.Good.execCompassLoop {margins} (h : s.Good full) : Kept full (execCompassLoop margins s) := by
  dsimp only [Machine.execCompassLoop]
  refine .either (.fault _) (.either h.next (.next (.either ?_ ?_)))
  · exact h.avsSettle.wr.update.avsWrite
  · exact .either h.avsSettle.wr.update.avsWrite h.avsSettle.wr.update

theorem State.Good.execMarginZero (h : s.Good full) : Kept full (execMarginZero s) := (h.avsSettle.avsWrite.either h).next

theorem State.Good.execSyspllLevelChange (h : s.Good full) : Kept full (execSyspllLevelChange s) := by
  dsimp only [Machine.execSyspllLevelChange]
  refine .either h.next ?_
  split
  · exact .either h.avsSettle.update.next (.either h.avsSettle.setLevel.update.next h.avsSettle.next)
  · refine .either h.avsSettle.next ?_
    exact .either h.avsSettle.raiseTo.next (.either h.avsSettle.lowerTo.next h.avsSettle.next)

theorem State.Good.execThrottleStep (h : s.Good full) : Kept full (execThrottleStep s) := by
  dsimp only [Machine.execThrottleStep]
  refine .either h.next (.either ?_ ?_)
  · refine .next (.either (.either h.avsSettle h.avsSettle.update.reThrottle.count.fire) ?_)
    exact .update (.lowerTo (.either h.avsSettle h.avsSettle.update.reThrottle.count.fire))
  · split
    · refine .either h.avsSettle.next (.either ?_ ?_)
      · exact h.avsSettle.update.reThrottle.fire.next
      · exact .either h.avsSettle.next h.avsSettle.raiseTo.update.next
    · exact h.avsSettle.next

theorem State.Good.execAvsbusTimeout (h : s.Good full) : Kept full (execAvsbusTimeout s) := by
  dsimp only [Machine.execAvsbusTimeout]
  split
  · exact h.next
  · exact .either h.next (.either h.update.emit.next h.update.wr.wr.reThrottle.kfire.next)

theorem State.Good.execAvsbusRetry {ack} (h : s.Good full) : Kept full (execAvsbusRetry ack s) :=
  .either h.next (.either h.emit.update.wr.reThrottle.kfire.next h.emit.update.next)

theorem State.Good.execThermalShutdown {t} (h : s.Good full) : Kept full (execThermalShutdown t s) := by
  dsimp only [Machine.execThermalShutdown]
  refine State.Good.kEvent h ?_
  intro _ h
  refine .either h ?_
  exact .kfire (.wr (.update (.either (.foldl h.update fun h => h.bayOffNow) (.coreOff (.foldl h.update fun h =>
    h.bayOffNow)))))

theorem State.Good.execThermalRecovery (h : s.Good full) : Kept full (execThermalRecovery s) := h.kEvent fun h => h.update

/-! ### Machine/SesBase -/

theorem State.Good.sliceReset {i} (h : s.Good full) : (s.sliceReset i).Good full :=
  .foldl (.resetRegs (.either (h.foldl fun h => h.abortOp) (.idleLine (h.foldl fun h => h.abortOp)))) fun h => h.setOvh
    h.ovh.update

theorem State.Good.watchEnd {i w} (h : s.Good full) : (s.watchEnd i w).Good full :=
  .foldl (.pmOrphanObj (.foldl h.update fun h => .setHelm h.enqueue h.enqueue.helm.setPort)) fun h => h.abortOp

theorem State.Good.watchesEnd {p} (h : s.Good full) : (s.watchesEnd p).Good full := h.foldl fun h => h.watchEnd

theorem State.Good.dropHelm {k} (h : s.Good full) : ({ s with helms := smDel s.helms k } : State).Good full :=
  { h with helms := h.helms.del, helmGood := forall_mem_smDel h.helmGood }

theorem State.Good.wipeObj {o} (h : s.Good full) : (s.wipeObj o).Good full := by
  dsimp only [State.wipeObj]
  split
  · exact h.dropHelm.refloor
  · exact { h with chutes := h.chutes.del }
  · exact { h.patRelease with pats := h.pats.del }
  · exact h.pmReset
  · exact h.deleteGroup
  · split
    · exact h.sliceReset
    · exact h

theorem State.Good.setOwner {o m} (h : s.Good full) :
    ({ s with own := { s.own with objs := smSet 0 s.own.objs o m } } : State).Good full :=
  { h with objs := h.objs.set }

theorem State.Good.moveObj {o n m} (h : s.Good full) : (s.moveObj o n m).Good full := by
  have h1 : (match objSlice? o with | some i => s.watchesEnd (fun w => w.1 = i) | none => s).Good full := by
    split
    · exact h.watchesEnd
    · exact h
  exact .foldl (.setOwner (.wipeObj (h1.chartOrphan.protOrphan.pmOrphanObj.either h1))) fun h => h.rerouteSource

theorem State.Good.resetObjs {l} (h : s.Good full) : (s.resetObjs l).Good full := h.resetRegs

theorem State.Good.scrubRange {first count} (h : s.Good full) : (s.scrubRange first count).Good full :=
  h.foldl fun h => h.scrubEntry

theorem State.Good.buildMap {n base ws} (h : s.Good full) : (s.buildMap n base ws).Good full :=
  .setSess (.wr (.wr (.wr (.foldl (.foldl (h.foldl fun h => h.scrubPage) fun h => h.setNum) fun h => h.foldl fun h =>
    h.setNum))))

theorem State.Good.startScrub {x work} (h : s.Good full) : (s.startScrub x work).Good full :=
  .update (h.foldl fun h => h.scrubPage)

/-! ### Machine/Boot -/

theorem State.Good.replay (h : s.Good full) : s.replay.Good full :=
  .update (.foldl { h.foldl fun h => .either h.setSource.setMaskBit h with latchData := .nil, latchCause := .nil }
    fun h => h.draw.setSource)

theorem State.Good.execLatchReplay (h : s.Good full) : Kept full (execLatchReplay s) := (h.replay.either h).next

theorem State.Good.execWakeLatchSet {k cause data} (h : s.Good full) : Kept full (execWakeLatchSet k cause data s) :=
  h.kEvent fun h => h.either h.latch

theorem State.Good.memFit (h : s.Good full) : s.memFit.Good full :=
  h.wr.setFlag.wr.setFlag.wr.wr.wr.wr.wr.either h.wr.setFlag.wr.setFlag.wr.wr.wr.wr

theorem State.Good.unlonReady {cause} (h : s.Good full) : (s.unlonReady cause).Good full := by
  unfold State.unlonReady
  extract_lets s1 s2 v0 v1 s3 bays _ _ _ _ s4
  have h3 : s3.Good full := State.Good.draw (.draw (.wr (.wr (.wr (h.wr.wr.wr.wr.wr)))))
  have h4 : s4.Good full := { h3 with bays := .fold h3.bays fun h => .either h.set h }
  exact h4.memFit.reThrottle

theorem State.Good.execUnlonReady {copyOk gib ecc rate} (h : s.Good full) :
    Kept full (execUnlonReady copyOk gib ecc rate s) := by
  dsimp only [Machine.execUnlonReady]
  refine .next ?_
  split
  · exact h.update.unlonReady
  · exact .either h.unlonReady h.coldReset
  · exact h

theorem State.Good.noLarder (h : s.Good full) : ({ s with mem := { s.mem with larder := [] } } : State).Good full :=
  { h with mem := MemSt.wf_noLarder h.mem }

theorem State.Good.execColdBoot {a b verA verB} (h : s.Good full) : Kept full (execColdBoot a b verA verB s) := by
  dsimp only [Machine.execColdBoot]
  refine .either h.next (.next ?_)
  split
  · exact h.noLarder.update
  · exact .update (.wr (.wr h.noLarder))
  · exact .update (.wr (.wr (.wr (.wr (.wr h.noLarder)))))

theorem State.Good.execRailCheckFail (h : s.Good full) : Kept full (execRailCheckFail s) :=
  .next (.either h (.either h.update h.update))

theorem State.Good.railsAgain (h : s.Good full) : s.railsAgain.Good full := h.update

theorem State.Good.execRailRetry (h : s.Good full) : Kept full (execRailRetry s) := (h.railsAgain.either h).next

theorem State.Good.reset : State.reset.Good full where
  mem := rfl
  regs _ := by decide
  cnt := .nil
  sessions := .nil
  hiLatch := .nil
  helms := .nil
  helmGood := List.forall_mem_nil _
  ovhs := .nil
  ovhGood := List.forall_mem_nil _
  lines := .nil
  lineGood := List.forall_mem_nil _
  chart := .nil
  groups := .nil
  chutes := .nil
  capGood := List.forall_mem_nil _
  pm := .nil
  pats := .nil
  bays := .nil
  hist := .nil
  crossed := .nil
  fns := .nil
  objs := .nil
  pages := .nil
  sources := .nil
  vec := .nil
  latchData := .nil
  latchCause := .nil
  dumpGood := .ofNone

theorem State.Good.execPorK {f} (h : s.Good full) : Kept full (execPorK f s) :=
  .either h.next (.next (.pathScan (.wr (.keepFlds (.update .reset)))))

theorem State.Good.pageUndefined {p n} (h : s.Good full) :
    ({ s with mem := { s.mem with undef := smSet (0, []) s.mem.undef p (s.freeCtr, []) }, freeCtr := n } : State).Good full :=
  have ⟨hl, hc, hu⟩ := (MemSt.wf_iff _).mp h.mem
  { h with mem := (MemSt.wf_iff _).mpr ⟨hl, hc, smSorted_smSet _ hu _ _⟩ }

theorem State.Good.moorWindows (h : s.Good full) : s.moorWindows.Good full := h.foldl fun h => h.pageUndefined

theorem State.Good.rebuildMaps (h : s.Good full) : s.rebuildMaps.Good full := by
  dsimp only [State.rebuildMaps]
  refine .foldl h ?_
  intro _ _ h
  split
  · exact h.buildMap
  · exact h

theorem State.Good.wakeEnd {st imageOk codeOk} (h : s.Good full) : (s.wakeEnd st imageOk codeOk).Good full := by
  dsimp only [State.wakeEnd]
  split
  · refine .either h (.either h.coldReset (.either h.coldReset (.either ?_ ?_)))
    · exact h.rebase.compassStart.update.unlonReady.rebuildMaps.moorWindows
    · exact h.rebase.compassStart.update.unlonReady.rebuildMaps
  · exact h

theorem State.Good.execWakeFromStow {imageOk codeOk} (h : s.Good full) : Kept full (execWakeFromStow imageOk codeOk s) :=
  h.wakeEnd.next

theorem State.Good.execWakeFromMoor {imageOk codeOk gib ecc rate} (h : s.Good full) :
    Kept full (execWakeFromMoor imageOk codeOk gib ecc rate s) :=
  h.update.wakeEnd.next

theorem State.Good.tetherLost (h : s.Good full) : s.tetherLost.Good full := by
  dsimp only [State.tetherLost]
  refine .either h ?_
  exact .fireFree (.reThrottle (.update (.foldl h.wr.bump.stowAbort fun h => .either h h.domRun)))

theorem State.Good.execTetherResend {k} (h : s.Good full) : Kept full (execTetherResend k s) :=
  (h.either (h.tetherLost.either h.bump.count)).next

theorem State.Good.execTetherHeartbeatMiss (h : s.Good full) : Kept full (execTetherHeartbeatMiss s) :=
  (h.count.tetherLost.either h).next

theorem State.Good.execTetherRetrain {ok} (h : s.Good full) : Kept full (execTetherRetrain ok s) := by
  dsimp only [Machine.execTetherRetrain]
  split
  · exact h.next
  · exact .either h.next (.either h.update.next h.update.wr.allowUpdate.reThrottle.replay.fireFree.next)

theorem State.Good.execTetherFatal (h : s.Good full) : Kept full (execTetherFatal s) := by
  dsimp only [Machine.execTetherFatal]
  refine .next ?_
  split
  · exact .either h.fatal h
  · exact h

theorem State.Good.execWarmTetherTimeout (h : s.Good full) : Kept full (execWarmTetherTimeout s) :=
  .next (.either h.update.wr.bump.fatal h)

/-! ### Machine/Beacon -/

theorem State.Good.takeSource {k holder pos} (h : s.Good full) : (s.takeSource k holder pos).Good full :=
  .either (h.setSource.foldl fun h => h.eqMessage) h.setSource

theorem State.Good.eqRecord {n k flags} (h : s.Good full) : Offered full (s.eqRecord n k flags) := by
  unfold State.eqRecord
  exact .either .none (.either (State.Good.reply h.eqOverflow.eqWrite) .none)

theorem State.Good.execSourceFire {k cause data} (h : s.Good full) : Kept full (execSourceFire k cause data s) :=
  (h.fire.either h).next

theorem State.Good.execSourceTake {k} (h : s.Good full) : Kept full (execSourceTake k s) := by
  dsimp only [Machine.execSourceTake]
  refine .either h.next (.either ?_ ?_)
  · refine .either ?_ (.either h.setSource.pushStage.next h.next)
    split
    · rename_i hk
      exact (Offered.of_some hk h.eqRecord).takeSource.next
    · exact h.next
  · refine .either h.next (.next (.setSource (.foldl h ?_)))
    intro _ _ h
    split
    · rename_i hk
      exact (Offered.of_some hk h.eqRecord)
    · exact h

theorem State.Good.vectorTo {w k} (h : s.Good full) : (s.vectorTo w k).Good full :=
  .emit { h.draw.draw with vec := h.draw.draw.vec.ins }

theorem State.Good.execStewardPresent {w lost} (h : s.Good full) : Kept full (execStewardPresent w lost s) := by
  unfold Machine.execStewardPresent
  refine .either h.next (.either (.next (.either h.vectorTo h)) ?_)
  split
  · exact h.next
  · exact .next (.update h.takeSource.vectorTo)

theorem State.Good.completeSource {k p} (h : s.Good full) : (s.completeSource k p).Good full := h.setSource.either h

theorem State.Good.execStewardEoi {w k} (h : s.Good full) : Kept full (execStewardEoi w k s) :=
  (h.completeSource.either h).next

theorem State.Good.bcSet {v} (h : s.Good full) : (s.bcSet v).Good full := h.fire

theorem State.Good.execBcSet {v} (h : s.Good full) : Kept full (execBcSet v s) := (h.tlpIn.bcSet.either h).next

theorem State.Good.swRaise {n k} (h : s.Good full) : (s.swRaise n k).Good full := h.fire

theorem State.Good.execSwRaise {n k} (h : s.Good full) : Kept full (execSwRaise n k s) := (h.tlpIn.swRaise.either h).next

theorem State.Good.bcClaim {n k} (h : s.Good full) : (s.bcClaim n k).Good full := h.takeSource.wr.either h.wr

theorem State.Good.execClaim {n k} (h : s.Good full) : Kept full (execClaim n k s) := (h.tlpIn.bcClaim.either h).next

theorem State.Good.bcEoi {n k} (h : s.Good full) : (s.bcEoi n k).Good full := h.completeSource

theorem State.Good.execEoi {n k} (h : s.Good full) : Kept full (execEoi n k s) := (h.tlpIn.bcEoi.either h).next

theorem State.Good.vclaim {v} (h : s.Good full) : (s.vclaim v).2.Good full := by
  unfold State.vclaim
  split
  · exact h.takeSource
  · exact h

theorem State.Good.execBcVclaim {v} (h : s.Good full) : Kept full (execBcVclaim v s) := by
  dsimp only [Machine.execBcVclaim]
  exact .either h.next h.tlpIn.vclaim.emit.next

theorem State.Good.bcSrcWrite {k v} (h : s.Good full) : (s.bcSrcWrite k v).Good full := h.either (h.setSource.either h.bump)

theorem State.Good.bcSrcEn {k v} (h : s.Good full) : (s.bcSrcEn k v).Good full := h.either h.setSource

/-! ### Machine/Chart -/

theorem State.Good.showPerr {e} (h : s.Good full) : (s.showPerr e).Good full := h.setFlag.setFlag

theorem State.Good.chartPut {e letter w bad} (h : s.Good full) : (s.chartPut e letter w bad).1.Good full := by
  dsimp only [State.chartPut]
  split
  · exact h.setEnt.showPerr
  · split
    · exact h.count.eccNote.setEnt.wr.wr.showPerr
    · exact h.count.eccNote.setEnt.wr

theorem State.Good.chartPuts {first ofs letter fail ws} (h : s.Good full) : (s.chartPuts first ofs letter fail ws).1.Good full := by
  induction ws generalizing s ofs with
  | nil => exact h
  | cons w ws ih => exact ih h.chartPut

theorem State.Good.execChartWrite {n tag fail} (h : s.Good full) : Kept full (execChartWrite n tag fail s) := by
  dsimp only [Machine.execChartWrite]
  refine .next (.runOp h ?_)
  intro _ _ h
  split
  · exact h.endOp
  · refine .either h.endOp ?_
    split
    · exact h.endOp
    · split
      · rename_i hk
        exact (State.Good.fst hk h.chartPuts).endOp
      · rename_i hk
        exact (State.Good.fst hk h.chartPuts).endOp

theorem State.Good.execChartWriteCfg {n tag} (h : s.Good full) : Kept full (execChartWriteCfg n tag s) := by
  dsimp only [Machine.execChartWriteCfg]
  refine .next (.runOp h ?_)
  intro _ _ h
  split
  · exact h.endOp
  · exact .either h.endOp (.endOp (h.foldl fun h => .foldl h.wr.wr.wr.wr.wr.wr.wr fun h => h.wr))

theorem State.Good.execChartSwap {n tag} (h : s.Good full) : Kept full (execChartSwap n tag s) :=
  .next (h.runOp fun h => h.endOp.either h.wr.wr)

theorem State.Good.swapCommit {n} (h : s.Good full) : (s.swapCommit n).Good full :=
  .update (.foldl h.wr.wr fun h => .either h.setEnt.wr h.setEnt.setEnt)

theorem State.Good.entryBoundary {e bad} (h : s.Good full) : (s.entryBoundary e bad).Good full := by
  dsimp only [State.entryBoundary]
  refine .either ?_ ?_
  · refine .eccUncorr (.fireFree (.bump (.showPerr (.either ?_ ?_))))
    · exact .setEnt (.setFlag (.either h.setEnt h.setEnt.setEnt))
    · exact .setFlag (.either h.setEnt h.setEnt.setEnt)
  · refine .showPerr (.either ?_ ?_)
    · exact .setEnt (.setFlag (.either h.setEnt h.setEnt.setEnt))
    · exact .setFlag (.either h.setEnt h.setEnt.setEnt)

theorem State.Good.psCommand {o} (h : s.Good full) : (s.psCommand o).Good full := by
  dsimp only [State.psCommand]
  split
  · exact h.endOp
  · split
    · exact (h.either h.wr.setGrp).psLog.endOp
    · split
      · exact h.meterDisarm.psLog.endOp
      · split
        · exact h.psLog.endOp
        · exact h.setGrp.wr.psLog.endOp.either (h.psLog.endOp.either h.setGrp.psLog.endOp)

theorem State.Good.groupBoundary {g} (h : s.Good full) : (s.groupBoundary g).Good full := by
  dsimp only [State.groupBoundary]
  split
  · exact h.either h.wr.bump.setGrp.switchConsumers
  · split
    · exact (h.either h.wr.bump.setGrp.switchConsumers).evalProgram
    · exact (h.either h.wr.bump.setGrp.switchConsumers).evalGroup

theorem State.Good.execChartFrameBoundary {upset} (h : s.Good full) : Kept full (execChartFrameBoundary upset s) := by
  dsimp only [Machine.execChartFrameBoundary]
  refine .either h.next ?_
  exact .next (.foldl (.foldl (.foldl (.foldl (.protScan (.pmScan (.foldl (h.foldl fun h => h.swapCommit) fun h =>
    h.entryBoundary))) fun h => .either h.critStep h) fun h => h.psCommand) fun h => h.groupBoundary) fun h => h.swapCheck)

theorem State.Good.execTributaryFrameStart {e side mframe} (h : s.Good full) :
    Kept full (execTributaryFrameStart e side mframe s) :=
  h.applySide.swapCheck.next.either h.next

theorem State.Good.execSwapPeriodEnd {e} (h : s.Good full) : Kept full (execSwapPeriodEnd e s) := by
  dsimp only [Machine.execSwapPeriodEnd]
  refine .either h.next ?_
  exact .next (.swapCheck (.either (.applySide (.either h.applySide h)) (.either h.applySide h)))

/-! ### Machine/Framing -/

theorem State.Good.execPatternFound {i pos aux} (h : s.Good full) : Kept full (execPatternFound i pos aux s) :=
  .either (.either (.next (.frShow (.wr (h.setFramer h.framer.update)))) h.frCount.next) h.next

theorem State.Good.execCandidateCheck {i pos found aux crc6} (h : s.Good full) :
    Kept full (execCandidateCheck i pos found aux crc6 s) := by
  dsimp only [Machine.execCandidateCheck]
  split
  · exact h.next
  · exact .either h.next (.either h.frCount.next (.next (.frShow (.wr (h.setFramer h.framer.update)))))

theorem State.Good.execSyncCheckUnit {i errored} (h : s.Good full) : Kept full (execSyncCheckUnit i errored s) :=
  h.frUnit.next.either h.next

theorem State.Good.execNfasLoss {i n} (h : s.Good full) : Kept full (execNfasLoss i n s) :=
  (h.frOof.either h.frOof.frOom).next.either h.next

theorem State.Good.execCrc4MfasWord {i frame} (h : s.Good full) : Kept full (execCrc4MfasWord i frame s) :=
  .either (.either h.frMfSync.next (.next (.wr (h.setFramer h.framer.update)))) h.next

theorem State.Good.execCrc4MfTimeout {i} (h : s.Good full) : Kept full (execCrc4MfTimeout i s) :=
  h.frOof.frOom.next.either h.next

theorem State.Good.execCrc4FailThreshold {i failed} (h : s.Good full) : Kept full (execCrc4FailThreshold i failed s) :=
  h.frOof.frOom.next.either h.next

theorem State.Good.execMfasCheck {i mfas} (h : s.Good full) : Kept full (execMfasCheck i mfas s) := by
  dsimp only [Machine.execMfasCheck]
  refine .either (.either ?_ ?_) h.next
  · exact .next (.either (.frOom (h.setFramer h.framer.update)) (h.setFramer h.framer.update))
  · refine .either ?_ (.next (.wr (h.setFramer h.framer.update)))
    exact .next (.frMfSync (.setFramer (h.setFramer h.framer.update) (.update (State.Good.framer (h.setFramer
      h.framer.update)))))

theorem State.Good.execSyncHeader {i k hdr} (h : s.Good full) : Kept full (execSyncHeader i k hdr s) := by
  dsimp only [Machine.execSyncHeader]
  refine .either h.next (.either ?_ ?_)
  · split
    · exact .next (.frIn (h.setFramer h.framer.update))
    · exact .next (.frOof (h.setFramer h.framer.update))
    · exact .next (.either (.frShow (h.setFramer h.framer.update)) (.frShow (.wr (h.setFramer h.framer.update))))
  · exact .either (.next (.bondShow (h.setFramer h.framer.setLane))) h.next

theorem State.Good.execGfpCoreHeader {e octets} (h : s.Good full) : Kept full (execGfpCoreHeader e octets s) := by
  dsimp only [Machine.execGfpCoreHeader]
  refine .either h.next ?_
  split
  · exact .either h.setEnt.wr.next h.next
  · exact .either h.setEnt.wr.next (.either h.setEnt.wr.hwDefect.hwDefect.portsReady.next h.setEnt.next)
  · exact .either h.setEnt.next (.either h.setEnt.wr.hwDefect.hwDefect.next h.setEnt.next)

theorem State.Good.execLaneMarker {i k num arrival} (h : s.Good full) : Kept full (execLaneMarker i k num arrival s) := by
  dsimp only [Machine.execLaneMarker]
  refine .either (.next (.bondShow (.setFramer ?_ h.framer.setLane))) h.next
  split
  · exact .either h.bump h
  · exact h

theorem State.Good.execGroupAlign {i} (h : s.Good full) : Kept full (execGroupAlign i s) :=
  (h.wr.frIn.either h.wr).next.either h.next

theorem State.Good.execGroupOof {i} (h : s.Good full) : Kept full (execGroupOof i s) :=
  (h.groupOof.next.either (h.groupOof.next.either h.next)).either h.next

theorem State.Good.execCodeGroup {i cg} (h : s.Good full) : Kept full (execCodeGroup i cg s) := by
  dsimp only [Machine.execCodeGroup]
  refine .either (.either ?_ ?_) h.next
  · exact .next (.either (h.setFramer h.framer.update) (.frIn (h.setFramer h.framer.update)))
  · refine .either ?_ ?_
    · exact .next (.frOof (h.setFramer h.framer.update))
    · exact .next (.frShow (.wr (h.setFramer h.framer.update)))

/-! ### Machine/Health -/

theorem State.Good.patrolFind {k dpa uncorr} (h : s.Good full) : (s.patrolFind k dpa uncorr).Good full :=
  h.markBad.eccLog.fire.either h.count.fire

theorem State.Good.patrol {k found} (h : s.Good full) : (s.patrol k found).Good full := h.foldl fun h => h.patrolFind

theorem State.Good.execPatrolPass {cellar found} (h : s.Good full) : Kept full (execPatrolPass cellar found s) := by
  dsimp only [Machine.execPatrolPass]
  refine .either h.next ?_
  exact .either (.either h.next h.patrol.update.next) (.either h.next h.patrol.update.next)

theorem State.Good.execBackgroundMbist {failed} (h : s.Good full) : Kept full (execBackgroundMbist failed s) := by
  dsimp only [Machine.execBackgroundMbist]
  refine .either h.next ?_
  split
  · exact h.update.next
  · exact .next (.either h.update.setMaskBit.fire h.update)

theorem State.Good.execBackgroundChartCheck {words spares} (h : s.Good full) :
    Kept full (execBackgroundChartCheck words spares s) := by
  dsimp only [Machine.execBackgroundChartCheck]
  refine .either h.next ?_
  exact .next (.foldl (.foldl h.update fun h => .either h h.setEnt.showPerr.count.eccNote.fire) fun h => .either
    h.count.eccNote.fire h)

theorem State.Good.rxTaken {i} (h : s.Good full) : (s.rxTaken i).Good full :=
  h.pmIntrusive.signalLost.signalFound.either h.pmIntrusive

theorem State.Good.testHelm {h mask fail} (hs : s.Good full) : (s.testHelm h mask fail).Good full :=
  .either (.setMaskBit hs.setPs.dropHelm) (.either (.setMaskBit hs.setPs.dropHelm) hs.setPs.dropHelm)

theorem State.Good.runTests {obj mask fail dead found} (h : s.Good full) :
    (s.runTests obj mask fail dead found).Good full := by
  dsimp only [State.runTests]
  split
  · refine .patrol ?_
    split
    · refine .inject (.inject ?_)
      split
      · exact (h.testHelm.either h).rxTaken.either (h.testHelm.either h)
      · exact h.testHelm.either h
    · split
      · exact (h.testHelm.either h).rxTaken.either (h.testHelm.either h)
      · exact h.testHelm.either h
  · split
    · refine .inject (.inject ?_)
      split
      · exact (h.testHelm.either h).rxTaken.either (h.testHelm.either h)
      · exact h.testHelm.either h
    · split
      · exact (h.testHelm.either h).rxTaken.either (h.testHelm.either h)
      · exact h.testHelm.either h

theorem State.Good.selfTest {o run skip fail dead found} (h : s.Good full) :
    (s.selfTest o run skip fail dead found).Good full :=
  h.runTests.endOp

theorem State.Good.execSelftest {n tag fail dead found} (h : s.Good full) :
    Kept full (execSelftest n tag fail dead found s) :=
  .next (h.runOp fun h => h.selfTest)

theorem State.Good.execSelftestQuietStart {n tag} (h : s.Good full) : Kept full (execSelftestQuietStart n tag s) := by
  dsimp only [Machine.execSelftestQuietStart]
  refine .next ?_
  split
  · exact .either h.modOp h
  · exact h

theorem State.Good.execSelftestDeferExpiry {n tag fail dead found} (h : s.Good full) :
    Kept full (execSelftestDeferExpiry n tag fail dead found s) := by
  dsimp only [Machine.execSelftestDeferExpiry]
  refine .next ?_
  split
  · exact .either h.selfTest h
  · exact h

theorem State.Good.execCalibrate {n tag failed live} (h : s.Good full) : Kept full (execCalibrate n tag failed live s) := by
  dsimp only [Machine.execCalibrate]
  refine .next (.runOp h ?_)
  intro _ _ h
  split
  · exact h.endOp
  · refine .endOp (.foldl h ?_)
    intro _ _ h
    refine .setMaskBit (.setMaskBit (.either ?_ (.either h (.either h.pmIntrusive h.rxTaken))))
    split
    · exact .setLine (.either h (.either h.pmIntrusive h.rxTaken)) (.update (State.Good.line (.either h (.either
        h.pmIntrusive h.rxTaken))))
    · exact .either h (.either h.pmIntrusive h.rxTaken)

/-! ### Machine/HelmAlu -/

theorem State.Good.aluStep {h u op cost val fl} (hs : s.Good full) (hfl : ∀ {m x y}, m.Good full → (fl m x y).Good full) :
    (s.aluStep h u op cost val fl).Good full :=
  hs.helmStep fun h => .ok (.helmNext (h.setHelm (.setReg (hfl h.helm))))

theorem State.Good.cmpStep {h u op fl} (hs : s.Good full) (hfl : ∀ {m x}, m.Good full → (fl m x).Good full) :
    (s.cmpStep h u op fl).Good full :=
  hs.helmStep fun h => .ok (.helmNext (h.setHelm (hfl h.helm)))

theorem Helm.Good.noFlags {m : Helm} {x r} (h : m.Good full) : (noFlags m x r).Good full := h

theorem Helm.Good.znFlags {m : Helm} {x r} (h : m.Good full) : (znFlags m x r).Good full := h.setZN

theorem State.Good.execAdd {h u} (hs : s.Good full) : Kept full (execAdd h u s) := .next (hs.aluStep fun h => h.flagsAdd)

theorem State.Good.execAdc {h u} (hs : s.Good full) : Kept full (execAdc h u s) := .next (hs.aluStep fun h => h.flagsAdd)

theorem State.Good.execSub {h u} (hs : s.Good full) : Kept full (execSub h u s) := .next (hs.aluStep fun h => h.flagsSub)

theorem State.Good.execSbc {h u} (hs : s.Good full) : Kept full (execSbc h u s) := .next (hs.aluStep fun h => h.flagsSub)

theorem State.Good.execAnd {h u} (hs : s.Good full) : Kept full (execAnd h u s) := .next (hs.aluStep fun h => h.znFlags)

theorem State.Good.execOr {h u} (hs : s.Good full) : Kept full (execOr h u s) := .next (hs.aluStep fun h => h.znFlags)

theorem State.Good.execXor {h u} (hs : s.Good full) : Kept full (execXor h u s) := .next (hs.aluStep fun h => h.znFlags)

theorem State.Good.execAndn {h u} (hs : s.Good full) : Kept full (execAndn h u s) := .next (hs.aluStep fun h => h.znFlags)

theorem State.Good.execShl {h u} (hs : s.Good full) : Kept full (execShl h u s) := .next (hs.aluStep fun h => h.flagsShift)

theorem State.Good.execShr {h u} (hs : s.Good full) : Kept full (execShr h u s) := .next (hs.aluStep fun h => h.flagsShift)

theorem State.Good.execSar {h u} (hs : s.Good full) : Kept full (execSar h u s) := .next (hs.aluStep fun h => h.flagsShift)

theorem State.Good.execRor {h u} (hs : s.Good full) : Kept full (execRor h u s) := .next (hs.aluStep fun h => h.flagsShift)

theorem State.Good.execMul {h u} (hs : s.Good full) : Kept full (execMul h u s) := .next (hs.aluStep fun h => h.znFlags)

theorem State.Good.execMulhu {h u} (hs : s.Good full) : Kept full (execMulhu h u s) := .next (hs.aluStep fun h => h.znFlags)

theorem State.Good.execPopc {h u} (hs : s.Good full) : Kept full (execPopc h u s) := .next (hs.aluStep fun h => h.znFlags)

theorem State.Good.execClz {h u} (hs : s.Good full) : Kept full (execClz h u s) := .next (hs.aluStep fun h => h.znFlags)

theorem State.Good.execBswap {h u} (hs : s.Good full) : Kept full (execBswap h u s) := .next (hs.aluStep fun h => h.znFlags)

theorem State.Good.execCsel {h u} (hs : s.Good full) : Kept full (execCsel h u s) := .next (hs.aluStep fun h => h.noFlags)

theorem State.Good.execAdds {h u} (hs : s.Good full) : Kept full (execAdds h u s) := .next (hs.aluStep fun h => h.flagsSat)

theorem State.Good.execSubs {h u} (hs : s.Good full) : Kept full (execSubs h u s) := .next (hs.aluStep fun h => h.flagsSat)

theorem State.Good.execAddi {h u} (hs : s.Good full) : Kept full (execAddi h u s) := .next (hs.aluStep fun h => h.flagsAdd)

theorem State.Good.execAndi {h u} (hs : s.Good full) : Kept full (execAndi h u s) := .next (hs.aluStep fun h => h.znFlags)

theorem State.Good.execOri {h u} (hs : s.Good full) : Kept full (execOri h u s) := .next (hs.aluStep fun h => h.znFlags)

theorem State.Good.execXori {h u} (hs : s.Good full) : Kept full (execXori h u s) := .next (hs.aluStep fun h => h.znFlags)

theorem State.Good.execShli {h u} (hs : s.Good full) : Kept full (execShli h u s) :=
  .next (hs.aluStep fun h => h.flagsShift)

theorem State.Good.execShri {h u} (hs : s.Good full) : Kept full (execShri h u s) :=
  .next (hs.aluStep fun h => h.flagsShift)

theorem State.Good.execSari {h u} (hs : s.Good full) : Kept full (execSari h u s) :=
  .next (hs.aluStep fun h => h.flagsShift)

theorem State.Good.execRori {h u} (hs : s.Good full) : Kept full (execRori h u s) :=
  .next (hs.aluStep fun h => h.flagsShift)

theorem State.Good.execMovl {h u} (hs : s.Good full) : Kept full (execMovl h u s) := .next (hs.aluStep fun h => h.noFlags)

theorem State.Good.execMovh {h u} (hs : s.Good full) : Kept full (execMovh h u s) := .next (hs.aluStep fun h => h.noFlags)

theorem State.Good.execMovs {h u} (hs : s.Good full) : Kept full (execMovs h u s) := .next (hs.aluStep fun h => h.noFlags)

theorem State.Good.execRds {h u} (hs : s.Good full) : Kept full (execRds h u s) := .next (hs.aluStep fun h => h.noFlags)

theorem State.Good.execExtu {h u} (hs : s.Good full) : Kept full (execExtu h u s) := .next (hs.aluStep fun h => h.znFlags)

theorem State.Good.execIns {h u} (hs : s.Good full) : Kept full (execIns h u s) := .next (hs.aluStep fun h => h.znFlags)

theorem State.Good.execBip8 {h u} (hs : s.Good full) : Kept full (execBip8 h u s) := .next (hs.aluStep fun h => h.znFlags)

theorem State.Good.execBip2 {h u} (hs : s.Good full) : Kept full (execBip2 h u s) := .next (hs.aluStep fun h => h.znFlags)

theorem State.Good.execBerr {h u} (hs : s.Good full) : Kept full (execBerr h u s) := .next (hs.aluStep fun h => h.flagsSat)

theorem State.Good.execCrc {h u} (hs : s.Good full) : Kept full (execCrc h u s) :=
  .next (hs.helmStep fun h => .ok (.helmNext (h.setHelm h.helm.flagsZ.setReg)))

theorem State.Good.execCmp {h u} (hs : s.Good full) : Kept full (execCmp h u s) := .next (hs.cmpStep fun h => h.flagsSub)

theorem State.Good.execTst {h u} (hs : s.Good full) : Kept full (execTst h u s) := .next (hs.cmpStep fun h => h.setZN)

theorem State.Good.execCmpi {h u} (hs : s.Good full) : Kept full (execCmpi h u s) := .next (hs.cmpStep fun h => h.flagsSub)

theorem State.Good.execTsti {h u} (hs : s.Good full) : Kept full (execTsti h u s) := .next (hs.cmpStep fun h => h.setZN)

theorem State.Good.branchStep {h u op taken target link ends} (hs : s.Good full) :
    (s.branchStep h u op taken target link ends).Good full := by
  dsimp only [State.branchStep]
  refine .helmStep hs ?_
  intro _ _ h
  refine .either (.either (.error h) ?_) h.helmNext.ok
  exact .ok (h.setHelm (.update (.either (.update (.either h.helm.setReg h.helm)) (.either h.helm.setReg h.helm))))

theorem State.Good.execB {h u} (hs : s.Good full) : Kept full (execB h u s) := hs.branchStep.next

theorem State.Good.execBl {h u} (hs : s.Good full) : Kept full (execBl h u s) := hs.branchStep.next

theorem State.Good.execRet {h u} (hs : s.Good full) : Kept full (execRet h u s) := hs.branchStep.next

theorem State.Good.execCbz {h u} (hs : s.Good full) : Kept full (execCbz h u s) := hs.branchStep.next

theorem State.Good.execCbnz {h u} (hs : s.Good full) : Kept full (execCbnz h u s) := hs.branchStep.next

theorem State.Good.execLoop {h u} (hs : s.Good full) : Kept full (execLoop h u s) := by
  dsimp only [Machine.execLoop]
  refine .next (.helmStep hs ?_)
  intro _ _ h
  refine .either (.error h) ?_
  exact .either (.error h) (.either (.ok (h.setHelm h.helm.update)) (.ok (h.setHelm h.helm.update)))

/-! ### Machine/HelmMem -/

theorem Helm.Good.setLocal {m : Helm} {a bs} (h : m.Good full) : (m.setLocal a bs).Good full := by
  induction bs generalizing m a with
  | nil => exact h
  | cons b bs ih => exact ih { h with ram := fun f => smWf_smSet (h.ram f) a b }

theorem Helm.Good.storeLocal {m : Helm} {a n v} (h : m.Good full) : (m.storeLocal a n v).Good full := h.setLocal.update

theorem State.Good.localRead {h u a} (hs : s.Good full) : Answered full (s.localRead h u a) :=
  .either (.error (.eccUncorr (hs.setHelm hs.helm.update))) (.either hs.bump.eccCorr.ok hs.ok)

theorem State.Good.loadStep {h u op n ext} (hs : s.Good full) : (s.loadStep h u op n ext).Good full := by
  dsimp only [State.loadStep]
  refine .helmStep hs ?_
  intro _ _ h
  split
  · exact .error h
  · split
    · rename_i hk
      exact .error (Answered.of_error hk h.localRead)
    · rename_i hk
      exact .ok (.helmNext (.setHelm (Answered.of_ok hk h.localRead) (Answered.of_ok hk h.localRead).helm.setReg))

theorem State.Good.storeStep {h u op n} (hs : s.Good full) : (s.storeStep h u op n).Good full := by
  dsimp only [State.storeStep]
  refine .helmStep hs ?_
  intro _ _ h
  split
  · exact .error h
  · exact .ok (.helmNext (h.setHelm h.helm.storeLocal))

theorem State.Good.execLdw {h u} (hs : s.Good full) : Kept full (execLdw h u s) := hs.loadStep.next

theorem State.Good.execLdh {h u} (hs : s.Good full) : Kept full (execLdh h u s) := hs.loadStep.next

theorem State.Good.execLdhs {h u} (hs : s.Good full) : Kept full (execLdhs h u s) := hs.loadStep.next

theorem State.Good.execLdb {h u} (hs : s.Good full) : Kept full (execLdb h u s) := hs.loadStep.next

theorem State.Good.execLdbs {h u} (hs : s.Good full) : Kept full (execLdbs h u s) := hs.loadStep.next

theorem State.Good.execStw {h u} (hs : s.Good full) : Kept full (execStw h u s) := hs.storeStep.next

theorem State.Good.execSth {h u} (hs : s.Good full) : Kept full (execSth h u s) := hs.storeStep.next

theorem State.Good.execStb {h u} (hs : s.Good full) : Kept full (execStb h u s) := hs.storeStep.next

theorem State.Good.execTally {h u} (hs : s.Good full) : Kept full (execTally h u s) := by
  dsimp only [Machine.execTally]
  refine .next (.helmStep hs ?_)
  intro _ _ h
  split
  · exact .error h
  · split
    · rename_i hk
      exact .error (Answered.of_error hk h.localRead)
    · rename_i hk
      exact .ok (.helmNext (.setHelm (Answered.of_ok hk h.localRead) (Answered.of_ok hk
        h.localRead).helm.update.storeLocal.setReg))

theorem State.Good.execTbin {h u} (hs : s.Good full) : Kept full (execTbin h u s) :=
  .next (hs.helmStep fun h => .ok (.helmNext (h.setHelm h.helm.setReg)))

theorem State.Good.farWrite {dpa v} (h : s.Good full) : (s.farWrite dpa v).Good full := h.setNum.count

theorem State.Good.farDrain {h} (hs : s.Good full) : (s.farDrain h).Good full := by
  dsimp only [State.farDrain]
  split
  · exact hs
  · exact .farWrite (hs.setHelm hs.helm.update)

theorem State.Good.farDrainAll {h} (hs : s.Good full) : (s.farDrainAll h).Good full := hs.foldl fun h => h.farDrain

theorem State.Good.farTranslate {h x write} (hs : s.Good full) : (s.farTranslate h x write).2.Good full := by
  dsimp only [State.farTranslate]
  split
  · rename_i hk
    exact (State.Good.snd hk hs.translate)
  · rename_i hk
    exact (State.Good.snd hk hs.translate).mapFault

theorem State.Good.farIssue {h u op kind} (hs : s.Good full) : (s.farIssue h u op kind).Good full := by
  dsimp only [State.farIssue]
  refine .helmStep hs ?_
  intro _ _ h
  refine .either (.error h) ?_
  split
  · rename_i hk
    exact .error (State.Good.snd hk h.farTranslate)
  · rename_i hk
    refine .either ?_ ?_
    · exact .error (State.Good.snd hk h.farTranslate).matrixErr
    · exact .ok (.setHelm (State.Good.snd hk h.farTranslate) h.helm.update)

theorem State.Good.execFld {h u} (hs : s.Good full) : Kept full (execFld h u s) := hs.farIssue.next

theorem State.Good.execFadd {h u} (hs : s.Good full) : Kept full (execFadd h u s) := hs.farIssue.next

theorem State.Good.execFst {h u w} (hs : s.Good full) : Kept full (execFst h u w s) := by
  dsimp only [Machine.execFst]
  refine .next (.helmStep hs ?_)
  intro _ _ h
  refine .either (.error h) ?_
  split
  · rename_i hk
    exact .error (State.Good.snd hk h.farTranslate)
  · rename_i hk
    exact .ok (.helmNext (.setHelm (.either (State.Good.snd hk h.farTranslate) (State.Good.snd hk
      h.farTranslate).farDrain) (.update (State.Good.helm (.either (State.Good.snd hk h.farTranslate) (State.Good.snd hk
      h.farTranslate).farDrain)))))

theorem State.Good.execFsync {h u w} (hs : s.Good full) : Kept full (execFsync h u w s) :=
  .next (hs.helmStep fun h => h.farDrainAll.helmNext.ok)

theorem State.Good.execFarLoadComplete {h u k} (hs : s.Good full) : Kept full (execFarLoadComplete h u k s) := by
  dsimp only [Machine.execFarLoadComplete]
  split
  · refine .either hs.helmCycles.helmFault.next (.either ?_ ?_)
    · exact .next (.helmFault (.matrixErr (.eccUncorr
        (.either hs.helmCycles.farDrainAll.count.markBad hs.helmCycles.farDrainAll.count))))
    · refine .next (.helmNext (.setHelm ?_ ?_))
      · refine .either ?_ ?_
        · refine .farWrite (.either ?_ ?_)
          · exact .eccCorr (.either hs.helmCycles.farDrainAll.count.markBad hs.helmCycles.farDrainAll.count)
          · exact .either hs.helmCycles.farDrainAll.count.markBad hs.helmCycles.farDrainAll.count
        · refine .either ?_ ?_
          · exact .eccCorr (.either hs.helmCycles.farDrainAll.count.markBad hs.helmCycles.farDrainAll.count)
          · exact .either hs.helmCycles.farDrainAll.count.markBad hs.helmCycles.farDrainAll.count
      · refine .setReg (.update (State.Good.helm (.either ?_ ?_)))
        · refine .farWrite (.either ?_ ?_)
          · exact .eccCorr (.either hs.helmCycles.farDrainAll.count.markBad hs.helmCycles.farDrainAll.count)
          · exact .either hs.helmCycles.farDrainAll.count.markBad hs.helmCycles.farDrainAll.count
        · refine .either ?_ ?_
          · exact .eccCorr (.either hs.helmCycles.farDrainAll.count.markBad hs.helmCycles.farDrainAll.count)
          · exact .either hs.helmCycles.farDrainAll.count.markBad hs.helmCycles.farDrainAll.count
  · exact hs.next

theorem State.Good.execFarStoreComplete {h} (hs : s.Good full) : Kept full (execFarStoreComplete h s) := hs.farDrain.next

theorem State.Good.execBudgetAbort {h} (hs : s.Good full) : Kept full (execBudgetAbort h s) := by
  dsimp only [Machine.execBudgetAbort]
  split
  · exact hs.helmCycles.helmFault.next
  · exact hs.next

/-! ### Machine/HelmPort -/

theorem State.Good.execOhrd {h u} (hs : s.Good full) : Kept full (execOhrd h u s) := by
  dsimp only [Machine.execOhrd]
  refine .next (.helmStep hs ?_)
  intro _ _ h
  split
  · exact .error h
  · exact .ok (.helmNext (h.setHelm h.helm.setReg))

theorem State.Good.stageOh {h p q o l} (hs : s.Good full) : (s.stageOh h p q o l).Good full := hs.setHelm hs.helm.update

theorem State.Good.execOhwr {h u} (hs : s.Good full) : Kept full (execOhwr h u s) := by
  dsimp only [Machine.execOhwr]
  refine .next (.helmStep hs ?_)
  intro _ _ h
  split
  · exact .error h
  · exact h.stageOh.helmNext.ok

theorem State.Good.execOhwm {h u own} (hs : s.Good full) : Kept full (execOhwm h u own s) := by
  dsimp only [Machine.execOhwm]
  refine .next (.helmStep hs ?_)
  intro _ _ h
  split
  · exact .error h
  · exact h.stageOh.helmNext.ok

theorem State.Good.chuteStep {h u op f} (hs : s.Good full) (hf : ∀ {x y z t}, t.Good full → (f x y z t).Good full) :
    (s.chuteStep h u op f).Good full := by
  dsimp only [State.chuteStep]
  refine .helmStep hs ?_
  intro _ _ h
  split
  · exact .error h
  · exact .either (.error h) (.ok (.helmNext (hf h)))

theorem State.Good.execPush {h u} (hs : s.Good full) : Kept full (execPush h u s) :=
  .next (hs.chuteStep fun h => h.chutePush)

theorem State.Good.execPushc {h u} (hs : s.Good full) : Kept full (execPushc h u s) :=
  .next (hs.chuteStep fun h => h.chutePush.chuteCommit)

theorem State.Good.execRwd {h u} (hs : s.Good full) : Kept full (execRwd h u s) :=
  .next (hs.chuteStep fun h => h.chuteRewind)

theorem State.Good.execBipx {h u} (hs : s.Good full) : Kept full (execBipx h u s) := by
  dsimp only [Machine.execBipx]
  refine .next (.helmStep hs ?_)
  intro _ _ h
  split
  · exact .error h
  · exact .either (.error h) (.ok (.helmNext (h.setHelm h.helm.setZN.setReg)))

theorem State.Good.defStep {h u op set} (hs : s.Good full) : (s.defStep h u op set).Good full := by
  dsimp only [State.defStep]
  refine .helmStep hs ?_
  intro _ _ h
  refine .either (.error h) ?_
  split
  · exact .error h
  · exact .either (.error h) (.either (.error h) (.ok (.helmNext (h.setHelm h.helm.update))))

theorem State.Good.execDset {h u} (hs : s.Good full) : Kept full (execDset h u s) := hs.defStep.next

theorem State.Good.execDclr {h u} (hs : s.Good full) : Kept full (execDclr h u s) := hs.defStep.next

theorem State.Good.patStep {h u op ctl bad f} (hs : s.Good full) (hf : ∀ {x y z t}, t.Good full → (f x y z t).Good full) :
    (s.patStep h u op ctl bad f).Good full := by
  dsimp only [State.patStep]
  refine .helmStep hs ?_
  intro _ _ h
  refine .either (.error h) ?_
  split
  · exact .error h
  · exact .either (.error h) (.ok (.helmNext (hf h)))

theorem State.Good.execPstart {h u} (hs : s.Good full) : Kept full (execPstart h u s) :=
  .next (hs.patStep fun h => h.patStart)

theorem State.Good.execPstop {h u} (hs : s.Good full) : Kept full (execPstop h u s) := .next (hs.patStep fun h => h.patStop)

theorem State.Good.execPerr {h u} (hs : s.Good full) : Kept full (execPerr h u s) :=
  .next (hs.patStep fun h => h.setPat.either h)

theorem State.Good.execPrdc {h u bits errs} (hs : s.Good full) : Kept full (execPrdc h u bits errs s) :=
  .next (hs.patStep fun h => (h.setHelm h.helm.setReg).either (h.patCount.setPat.setHelm h.patCount.helm.setReg))

theorem State.Good.execPstat {h u} (hs : s.Good full) : Kept full (execPstat h u s) :=
  .next (hs.patStep fun h => (h.setHelm h.helm.setReg).either (h.setPat.setHelm h.helm.setReg))

theorem State.Good.execPword {h u} (hs : s.Good full) : Kept full (execPword h u s) := .next (hs.patStep fun h => h.wr)

theorem Helm.Good.withTimers {m : Helm} {timers queue} (h : m.Good full) (ht : Sorted full timers) :
    ({ m with timers := timers, queue := queue } : Helm).Good full :=
  { h with timers := ht }

theorem Helm.Good.cancelTimer {m : Helm} {t} (h : m.Good full) : (m.cancelTimer t).Good full := .withTimers h h.timers.set

theorem Helm.Good.armTimer {m : Helm} {t now us periodic} (h : m.Good full) : (m.armTimer t now us periodic).Good full :=
  .either h.cancelTimer (.withTimers h h.timers.set)

theorem State.Good.timerStep {h u op f} (hs : s.Good full) (hf : ∀ {m x y z}, m.Good full → (f m x y z).Good full) :
    (s.timerStep h u op f).Good full :=
  hs.helmStep fun h => .ok (.helmNext (h.setHelm (hf h.helm)))

theorem State.Good.execTarm {h u} (hs : s.Good full) : Kept full (execTarm h u s) :=
  .next (hs.timerStep fun h => h.armTimer)

theorem State.Good.execTarmr {h u} (hs : s.Good full) : Kept full (execTarmr h u s) :=
  .next (hs.timerStep fun h => h.armTimer)

theorem State.Good.execTper {h u} (hs : s.Good full) : Kept full (execTper h u s) :=
  .next (hs.timerStep fun h => h.armTimer)

theorem State.Good.execTcan {h u} (hs : s.Good full) : Kept full (execTcan h u s) :=
  .next (hs.timerStep fun h => h.cancelTimer)

theorem State.Good.execPost {h u} (hs : s.Good full) : Kept full (execPost h u s) :=
  .next (hs.helmStep fun h => .ok (.helmNext (.either h h.eqMessage)))

theorem State.Good.execRaise {h u} (hs : s.Good full) : Kept full (execRaise h u s) :=
  .next (hs.helmStep fun h => h.fireFree.helmNext.ok)

theorem State.Good.execRaises {h u} (hs : s.Good full) : Kept full (execRaises h u s) :=
  .next (hs.helmStep fun h => .ok (.helmNext (.either h h.fireFree)))

theorem State.Good.commitOh {h} (hs : s.Good full) : (s.commitOh h).Good full := by
  dsimp only [State.commitOh]
  refine .foldl (hs.setHelm hs.helm.update) ?_
  intro _ _ h
  split
  · exact h
  · split
    · exact h
    · exact h.setOvh h.ovh.update

theorem State.Good.commitDef {h} (hs : s.Good full) : (s.commitDef h).Good full := by
  dsimp only [State.commitDef]
  refine .foldl (hs.setHelm hs.helm.update) ?_
  intro _ _ h
  split
  · split
    · exact h
    · exact .progDefect (h.setHelm h.helm.update)
  · exact h

theorem State.Good.startDone {h} (hs : s.Good full) : (s.startDone h).Good full := by
  dsimp only [State.startDone]
  refine .either ?_ ?_
  · refine .requestStop ?_
    split
    · exact .endOp (.setPs (hs.setHelm hs.helm.update))
    · exact .setPs (hs.setHelm hs.helm.update)
  · split
    · exact .endOp (.setPs (hs.setHelm hs.helm.update))
    · exact .setPs (hs.setHelm hs.helm.update)

theorem State.Good.execHelmEnd {h u w} (hs : s.Good full) : Kept full (execHelmEnd h u w s) := by
  dsimp only [Machine.execHelmEnd]
  refine .next (.helmStep hs ?_)
  intro _ _ h
  split
  · exact h.farDrainAll.commitOh.commitDef.ok
  · refine .ok (.either ?_ ?_)
    · exact .startDone (.setHelm h.farDrainAll.commitOh.commitDef.notePeak.snapRegs
        h.farDrainAll.commitOh.commitDef.notePeak.snapRegs.helm.update)
    · refine .either ?_ ?_
      · exact .helmLoaded (.setHelm h.farDrainAll.commitOh.commitDef.notePeak.snapRegs
          h.farDrainAll.commitOh.commitDef.notePeak.snapRegs.helm.update)
      · exact .setHelm h.farDrainAll.commitOh.commitDef.notePeak.snapRegs
          h.farDrainAll.commitOh.commitDef.notePeak.snapRegs.helm.update

theorem State.Good.execEventDispatch {h idle} (hs : s.Good full) : Kept full (execEventDispatch h idle s) := by
  dsimp only [Machine.execEventDispatch]
  split
  · refine .either hs.next ?_
    split
    · refine .next (.either (.startDone (hs.setHelm hs.helm.update)) ?_)
      exact .either (.helmLoaded (hs.setHelm hs.helm.update)) (hs.setHelm hs.helm.update)
    · refine .next (.count (.helmCycles ?_))
      refine .setHelm hs (.either ?_ (.either hs.helm.update.setLocal.update hs.helm.update))
      split
      · exact .setPort (.either hs.helm.update.setLocal.update hs.helm.update)
      · exact .either hs.helm.update.setLocal.update hs.helm.update
  · exact hs.next

theorem State.Good.execHelmTimerExpiry {h t} (hs : s.Good full) : Kept full (execHelmTimerExpiry h t s) := by
  dsimp only [Machine.execHelmTimerExpiry]
  split
  · exact hs.next
  · refine .either hs.next (.either ?_ ?_)
    · exact .next (hs.setHelm { hs.helm with timers := hs.helm.timers.set })
    · exact .next (.enqueue (hs.setHelm { hs.helm with timers := hs.helm.timers.set }))

theorem State.Good.execReservedEncoding {h u} (hs : s.Good full) : Kept full (execReservedEncoding h u s) := by
  dsimp only [Machine.execReservedEncoding]
  split
  · exact hs.next
  · refine .either hs.next (.either hs.helmCycles.helmFault.next ?_)
    exact .next (.either hs.helmCycles.eccUncorr.helmFault hs.helmCycles.helmFault)

/-! ### Machine/Sessions -/

theorem State.Good.setLimits {t o} (h : s.Good full) : (s.setLimits t o).Good full := by
  dsimp only [State.setLimits]
  refine .allowUpdate ?_
  split
  · refine .wr ?_
    split
    · exact ((h.wr.either h).wr.either (h.wr.either h)).wr.wr
    · exact (h.wr.either h).wr.either (h.wr.either h)
  · split
    · exact ((h.wr.either h).wr.either (h.wr.either h)).wr.wr
    · exact (h.wr.either h).wr.either (h.wr.either h)

theorem State.Good.withPages {m} (h : s.Good full) (hm : Sorted full m) :
    ({ s with own := { s.own with pages := m } } : State).Good full :=
  { h with pages := hm }

theorem State.Good.applyMoves {t v base n tag result} (h : s.Good full) :
    (s.applyMoves t v base n tag result).Good full := by
  unfold State.applyMoves
  extract_lets s1 s2 s3 _ s4 s5 pages1 pages2 _ s6 s7 s8 gone count work
  have h1 : s1.Good full := h.foldl fun h => h.moveObj
  have h2 : s2.Good full := h1.foldl fun h => h.scrubRange.pmOrphanObj
  have h3 : s3.Good full := h2.foldl fun h => h.scrubRange
  have h5 : s5.Good full := .resetObjs h3.update
  have hp : Sorted full pages2 := .fold (.fold h5.pages fun h => h.del) fun h => h.set
  have h7 : s7.Good full := .dropMaps (h5.withPages hp)
  have h8 : s8.Good full := by
    unfold s8
    split
    · exact h7.buildMap
    · exact h7
  exact .either h8.endOp h8.startScrub

theorem State.Good.forceOut {l} (h : s.Good full) : (s.forceOut l).Good full :=
  h.foldl fun h => .foldl (h.foldl fun h => h.abortOp) fun h => h.requestStop

theorem State.Good.grantTo {o t k opening place} (h : s.Good full) : (s.grantTo o t k opening place).Good full := by
  dsimp only [State.grantTo]
  split
  · exact h.endOp
  · refine .either h (.either h.forceOut ?_)
    exact .either h.forceOut.wr.setSess.wr.wr.wr.applyMoves h.forceOut.setLimits.applyMoves

theorem State.Good.execSessionOpen {n tag place} (h : s.Good full) : Kept full (execSessionOpen n tag place s) :=
  .next (h.runOp fun h => h.endOp.either (h.endOp.either (h.endOp.either h.grantTo)))

theorem State.Good.execGrant {n tag place} (h : s.Good full) : Kept full (execGrant n tag place s) :=
  .next (h.runOp fun h => h.endOp.either (h.endOp.either h.grantTo))

theorem State.Good.execWatchGrant {n tag} (h : s.Good full) : Kept full (execWatchGrant n tag s) := by
  dsimp only [Machine.execWatchGrant]
  refine .next (.runOp h ?_)
  intro _ _ h
  split
  · exact h.endOp
  · refine .either h.endOp (.either (.endOp (.either h.watchEnd h)) ?_)
    exact .either h.endOp (.either h.endOp (.either h.endOp h.update.endOp))

theorem State.Good.clearSources {n} (h : s.Good full) : (s.clearSources n).Good full := h.foldl fun h => h.clearSource

theorem State.Good.drainEnd {n} (h : s.Good full) : (s.drainEnd n).Good full :=
  .foldl (.setSess (.update (.foldl (h.foldl fun h => h.abandon) fun h => h.abortOp))) fun h => h.requestStop

theorem State.Good.startReset {n} (h : s.Good full) : (s.startReset n).Good full :=
  .startScrub (.setSess (.dropMaps (h.foldl fun h => h.wipeObj)))

theorem State.Good.startClose {n afterReset} (h : s.Good full) : (s.startClose n afterReset).Good full := by
  unfold State.startClose
  extract_lets objs pages ranges count work tag s1 s2 s3 s4 _ s5 s6 s7 _ s8
  have h2 : s2.Good full := h.watchesEnd.clearSources
  have h3 : s3.Good full := h2.foldl fun h => .either h.wipeObj h.moveObj
  have h4 : s4.Good full := h3.foldl fun h => h.scrubRange.pmOrphanObj
  have h5 : s5.Good full := { h4 with pages := h4.pages.filter }
  have h7 : s7.Good full := h5.dropMaps.eraseCalendar.foldl fun h => h.wr
  exact h7.allowUpdate.setSess.startScrub

theorem State.Good.sesAdvance {n} (h : s.Good full) : (s.sesAdvance n).Good full := by
  dsimp only [State.sesAdvance]
  refine .either (.either ?_ ?_) (.either h.drainEnd h)
  · exact .startClose (.either (.setFn (.either h.drainEnd h)) (.either h.drainEnd h))
  · exact .startReset (.either (.setFn (.either h.drainEnd h)) (.either h.drainEnd h))

theorem State.Good.startSesReset {n} (h : s.Good full) : (s.startSesReset n).Good full := h.setSess.wr

theorem State.Good.sesResetWrite {n} (h : s.Good full) : (s.sesResetWrite n).Good full :=
  h.either h.startSesReset.sesAdvance

theorem State.Good.execSessionReset {n} (h : s.Good full) : Kept full (execSessionReset n s) :=
  (h.tlpIn.sesResetWrite.either h).next

theorem State.Good.execSessionClose {n tag} (h : s.Good full) : Kept full (execSessionClose n tag s) := by
  dsimp only [Machine.execSessionClose]
  refine .next (.runOp h ?_)
  intro _ _ h
  refine .either h.endOp (.either h.sesAdvance ?_)
  exact .either h.endOp (.sesAdvance (.setSess (.wr (.either h.modOp h.modOp.startSesReset))))

theorem State.Good.resetDone {n} (h : s.Good full) : (s.resetDone n).Good full := by
  dsimp only [State.resetDone]
  split
  · exact .startClose (.setSess (.wr (.wr (.wr (.resetRegs (.resetObjs (.foldl (h.clearSources.foldl fun h => h.either
      h.wipeObj) fun h => h.scrubRange)))))))
  · exact .allowUpdate (.wr (.setSess (.wr (.wr (.wr (.resetRegs (.resetObjs (.foldl (h.clearSources.foldl fun h =>
      h.either h.wipeObj) fun h => h.scrubRange))))))))

theorem State.Good.dropSess {n} (h : s.Good full) : ({ s with sessions := smDel s.sessions n } : State).Good full :=
  { h with sessions := h.sessions.del }

theorem State.Good.closeDone {n objs tag} (h : s.Good full) : (s.closeDone n objs tag).Good full := by
  unfold State.closeDone
  extract_lets s1 s2 s3
  have h2 : s2.Good full := h.resetObjs.resetRegs.wr.wr.wr
  split
  · exact h2.dropSess.endOp
  · exact h2.dropSess

theorem State.Good.execScrubDone {k} (h : s.Good full) : Kept full (execScrubDone k s) := by
  dsimp only [Machine.execScrubDone]
  split
  · exact h.next
  · refine .either h.next (.next ?_)
    split
    · split
      · exact h.update.endOp
      · exact h.update
    · exact h.update.resetDone
    · exact h.update.closeDone

theorem State.Good.vfFlr {n} (h : s.Good full) : (s.vfFlr n).Good full :=
  .sesAdvance (.either h.setFn.update.startSesReset h.setFn.update)

theorem State.Good.execVfFlr {n} (h : s.Good full) : Kept full (execVfFlr n s) := h.next.either h.vfFlr.next

theorem State.Good.execFlrDrainEnd {n} (h : s.Good full) : Kept full (execFlrDrainEnd n s) :=
  (h.sesAdvance.setFn.either h.sesAdvance).next

theorem State.Good.execVfEnableClear (h : s.Good full) : Kept full (execVfEnableClear s) :=
  .either h.next (.next (.update (h.foldl fun h => .either h h.vfFlr)))

theorem State.Good.execVfEnableSet {numVFs ari} (h : s.Good full) : Kept full (execVfEnableSet numVFs ari s) :=
  .either h.next h.update.next

theorem State.Good.keyCommit {n} (h : s.Good full) : (s.keyCommit n).Good full :=
  h.violation.either (h.either (h.wr.either (h.wr.wr.either h)))

theorem State.Good.execSesKeyCommit {n} (h : s.Good full) : Kept full (execSesKeyCommit n s) :=
  (h.tlpIn.keyCommit.either h).next

theorem State.Good.mapcInvalidate (h : s.Good full) : s.mapcInvalidate.Good full := h.dropMaps.update

theorem State.Good.execMapcInvalidate {n all page} (h : s.Good full) : Kept full (execMapcInvalidate n all page s) :=
  h.next.either (h.tlpIn.wr.setFlag.wr.either h.tlpIn.wr.setFlag.wr.mapcInvalidate).next

theorem State.Good.execMapcInvDone (h : s.Good full) : Kept full (execMapcInvDone s) := h.update.next

theorem State.Good.execBackgroundPageScrub {page} (h : s.Good full) : Kept full (execBackgroundPageScrub page s) := by
  dsimp only [Machine.execBackgroundPageScrub]
  refine .either h.next (.either ?_ ?_)
  · exact .next { h.scrubPage with objs := h.objs, pages := h.pages }
  · exact .either h.update.next h.next

/-! ### Machine/Bus -/

theorem State.Good.clearRc {r i o lo hi} (h : s.Good full) : (s.clearRc r i o lo hi).Good full := by
  dsimp only [State.clearRc]
  refine .foldl h ?_
  intro _ _ h
  split
  · exact .either h.wr h
  · exact h

theorem State.Good.withHiLatch {m} (h : s.Good full) (hm : Sorted full m) : ({ s with hiLatch := m } : State).Good full :=
  { h with hiLatch := hm }

theorem State.Good.readReg {n r i o take} (h : s.Good full) : (s.readReg n r i o take).2.Good full := by
  have hc {lo hi} : (if take then s.clearRc r i o lo hi else s).Good full := .either h.clearRc h
  unfold State.readReg
  split
  · exact hc.withHiLatch hc.hiLatch.set
  · split
    · split
      · exact .either h.clearRc h
      · exact h.withHiLatch h.hiLatch.del
    · exact hc

theorem State.Good.popTake {n c} (h : s.Good full) : (s.popTake n c).2.Good full := by
  dsimp only [State.popTake]
  split
  · exact h.chuteTake.setChute
  · exact h

theorem State.Good.readPlace {n p take} (h : s.Good full) : (s.readPlace n p take).2.Good full := by
  dsimp only [State.readPlace]
  split
  · exact h
  · exact h.draw
  · exact h
  · exact h.vclaim
  · exact h
  · exact h
  · split
    · exact h.popTake
    · split
      · exact h
      · exact h.readReg

theorem State.Good.busRead {n a} (h : s.Good full) : (s.busRead n a).2.Good full := by
  dsimp only [State.busRead]
  split
  · split
    · exact h.readPlace
    · exact h
  · split
    · exact h
    · split
      · split
        · exact h.readPlace
        · split
          · exact h.readPlace
          · exact h
      · exact h.readPlace

theorem State.Good.pokeFld {f i j v hi} (h : s.Good full) : (s.pokeFld f i j v hi).Good full := by
  dsimp only [State.pokeFld]
  refine .either h ?_
  split
  · exact h.wr
  · exact h.wr
  · exact h

theorem State.Good.poke {r i o v} (h : s.Good full) : (s.poke r i o v).Good full := by
  dsimp only [State.poke]
  refine .foldl h ?_
  intro _ _ h
  refine .either ?_ ?_
  · split
    · exact h.pokeFld
    · exact h
  · split
    · refine .pokeFld ?_
      split
      · exact h.pokeFld
      · exact h
    · split
      · exact h.pokeFld
      · exact h

theorem State.Good.realign (h : s.Good full) : s.realign.Good full := .update (h.foldl fun h => h.setPt)

theorem State.Good.globWrite {o v} (h : s.Good full) : (s.globWrite o v).Good full := by
  dsimp only [State.globWrite]
  split
  · exact h.hostCtlWrite
  · exact h.glReset
  · exact .either h.poke.mapcInvalidate h.poke
  · exact .either (.fatal (.either h.poke.logRead h.poke)) (.either h.poke.logRead h.poke)
  · exact h.bcSet
  · exact h.wr
  · exact .either h.counterSnap h
  · exact .either h.wr h
  · exact .either h.wr h
  · exact h.poke.realign
  · exact h.poke.realign
  · exact h.poke

theorem State.Good.ringCleared {n q} (h : s.Good full) : (s.ringCleared n q).Good full := h.setSess.update

theorem State.Good.sqCfgWrite {n q v} (h : s.Good full) : (s.sqCfgWrite n q v).Good full := by
  dsimp only [State.sqCfgWrite]
  split
  · exact h.ringErr
  · exact h.wr.setFlag.either (h.wr.setFlag.ringCleared.either h.wr.setFlag.wr.wr.ringCleared)

theorem State.Good.cqCfgWrite {n v} (h : s.Good full) : (s.cqCfgWrite n v).Good full :=
  h.ringErr.either (h.wr.setFlag.either h.wr.setFlag.setSess.wr.wr.wr)

theorem State.Good.eqCfgWrite {n v} (h : s.Good full) : (s.eqCfgWrite n v).Good full :=
  h.wr.setFlag.either h.wr.setFlag.setSess.wr.wr.setFlag

theorem State.Good.sesWrite {n o v} (h : s.Good full) : (s.sesWrite n o v).Good full := by
  dsimp only [State.sesWrite]
  refine .either (.either h.violation h.wr) ?_
  refine .either (.either h.keyCommit h) (.either h.sqCfgWrite (.either h.cqCfgWrite ?_))
  refine .either h.eqCfgWrite (.either (.either h.swRaise h) (.either (.either h.bcClaim h) ?_))
  exact .either (.either h.bcEoi h) (.either h.sqBell (.either h.cqBell (.either h.eqBell h.poke)))

theorem State.Good.sliceWrite {i o v} (h : s.Good full) : (s.sliceWrite i o v).Good full := by
  dsimp only [State.sliceWrite]
  refine .either (.either h.poke.report h.poke) ?_
  refine .either (.either h.sliceReset h) (.either (.either h.loopClear h) (.either ?_ ?_))
  · exact .either (.mfReframe (.either h.reframe h)) (.either h.reframe h)
  · refine .either (h.setOvh h.ovh.update) ?_
    exact .either (.setOvh h.poke h.poke.ovh.update) (.either h.poke.wr h.poke)

theorem State.Good.puWrite {u o v} (h : s.Good full) : (s.puWrite u o v).Good full :=
  h.poke.either (h.patStop.poke.patStart.either h.patStop.poke.patStart.patSeed)

theorem State.Good.cuOwn {n c on} (h : s.Good full) : (s.cuOwn n c on).Good full :=
  (h.setChute.either (h.either h.violation)).either (h.setChute.either h)

theorem State.Good.cuAct {c f} (h : s.Good full) : (s.cuAct c f).Good full := h.setChute.either h

theorem State.Good.chuteWrite {n c o v} (h : s.Good full) : (s.chuteWrite n c o v).Good full := by
  dsimp only [State.chuteWrite]
  split
  · split
    · exact ((h.wr.cuOwn.cuAct.either h.wr.cuOwn).cuAct.either (h.wr.cuOwn.cuAct.either h.wr.cuOwn)).cuAct
    · exact (h.wr.cuOwn.cuAct.either h.wr.cuOwn).cuAct.either (h.wr.cuOwn.cuAct.either h.wr.cuOwn)
  · exact h.poke

theorem State.Good.pmAttachWrite {n p v} (h : s.Good full) : (s.pmAttachWrite n p v).Good full :=
  h.either ((h.pmReset.either h.violation).either (h.pmAttach.either h.violation))

theorem State.Good.pointWrite {n p o v} (h : s.Good full) : (s.pointWrite n p o v).Good full :=
  h.pmAttachWrite.either h.poke.pmScan

theorem State.Good.kdieWrite {o v} (h : s.Good full) : (s.kdieWrite o v).Good full := by
  dsimp only [State.kdieWrite]
  split
  · exact h.fdPathWrite
  · split
    · exact h.poeCfgWrite
    · split
      · exact h.poke.shortScan
      · split
        · exact (h.wr.either h).poke.deniedScan.shortScan
        · exact h.byMapWrite.either (h.bayCmd.either h.poke)

theorem State.Good.imemWrite {h a v} (hs : s.Good full) : (s.imemWrite h a v).Good full :=
  .either hs.bump (hs.setHelm { hs.helm with imem := hs.helm.imem.set })

theorem State.Good.writePlace {n p v} (h : s.Good full) : (s.writePlace n p v).Good full := by
  dsimp only [State.writePlace]
  split
  · exact h
  · exact h
  · exact h
  · exact h.bcSrcWrite.either h.bcSrcEn
  · exact h.setHelm h.helm.storeLocal
  · exact h.imemWrite
  · split
    · exact h.globWrite
    · exact (h.sesResetWrite.either h).either h.poke
    · exact h.sesWrite
    · exact h.sliceWrite
    · exact h.puWrite
    · exact h.chuteWrite
    · exact h.pointWrite
    · exact h.kdieWrite
    · exact h.poke

theorem State.Good.busWrite {n a v} (h : s.Good full) : (s.busWrite n a v).Good full := by
  dsimp only [State.busWrite]
  split
  · exact h.writePlace.either h
  · exact h.either ((h.writePlace.either (h.violation.either h)).either h.writePlace)

/-! ### Machine/KeeperPort -/

theorem State.Good.kpAnswer {bits data} (h : s.Good full) : (s.kpAnswer bits data).Good full := h.emit

theorem State.Good.kpFrame {req crc act} (h : s.Good full) (hact : ∀ {t}, t.Good full → Offered full (act t)) :
    Kept full (s.kpFrame req crc act) := by
  dsimp only [State.kpFrame]
  refine .next ?_
  split
  · exact h
  · split
    · exact h.bump.kpAnswer
    · split
      · exact h.kpAnswer
      · rename_i hk
        exact (Offered.of_some hk (hact h)).kpAnswer

theorem State.Good.execKpNop {crc} (h : s.Good full) : Kept full (execKpNop crc s) := h.kpFrame fun h => h.offer

theorem State.Good.execKpReadId {crc} (h : s.Good full) : Kept full (execKpReadId crc s) := h.kpFrame fun h => h.offer

theorem State.Good.execKpRead {a crc} (h : s.Good full) : Kept full (execKpRead a crc s) :=
  State.Good.kpFrame h fun h => .either .none (.either h.offer (State.Good.offer (.readReg h)))

theorem State.Good.execKpWrite {a v crc} (h : s.Good full) : Kept full (execKpWrite a v crc s) :=
  h.kpFrame fun h => .either .none (h.either h.kdieWrite).offer

theorem State.Good.newAttempts (h : s.Good full) : s.newAttempts.Good full := h.update.railsAgain

theorem State.Good.execKpWake {crc} (h : s.Good full) : Kept full (execKpWake crc s) :=
  h.kpFrame fun h => (h.newAttempts.either h).draw.draw.kfire.offer

theorem State.Good.execKpColdReset {confirm crc} (h : s.Good full) : Kept full (execKpColdReset confirm crc s) := by
  refine h.kpFrame fun h => ?_
  refine .either .none (.either ?_ ?_)
  · exact State.Good.reply h.update
  · exact State.Good.reply h.coldReset

theorem State.Good.execKpFrameAbort (h : s.Good full) : Kept full (execKpFrameAbort s) := (h.bump.either h).next

theorem State.Good.execKpUnknownCommand {cmd crc} (h : s.Good full) : Kept full (execKpUnknownCommand cmd crc s) :=
  h.kpFrame fun _ => .none

/-! ### Machine/LineCmds -/

theorem State.Good.execAcquire {n tag} (h : s.Good full) : Kept full (execAcquire n tag s) := by
  dsimp only [Machine.execAcquire]
  refine .next (.runOp h ?_)
  intro _ _ h
  split
  · exact h
  · exact .pmScan (.startAttempt (.wr (.setLine (.foldl h.modOp fun h => .setLine h.wr.wr h.line.update) (.update
      (State.Good.line (.foldl h.modOp fun h => .setLine h.wr.wr h.line.update))))))

theorem State.Good.execReleaseLine {n tag} (h : s.Good full) : Kept full (execReleaseLine n tag s) := by
  dsimp only [Machine.execReleaseLine]
  refine .next (.runOp h ?_)
  intro _ _ h
  split
  · exact h
  · exact .either h.endOp h.releaseLine.endOp

theorem State.Good.execSignalPresent {i} (h : s.Good full) : Kept full (execSignalPresent i s) :=
  h.next.either h.signalFound.next

theorem State.Good.execSignalAbsent {i} (h : s.Good full) : Kept full (execSignalAbsent i s) :=
  h.next.either h.signalLost.next

theorem State.Good.execStageComplete {i coeffs} (h : s.Good full) : Kept full (execStageComplete i coeffs s) := by
  dsimp only [Machine.execStageComplete]
  split
  · exact h.next
  · refine .either h.next ?_
    split
    · exact .either h.enterStage.next h.next
    · exact .next (.enterStage (.txTiming (h.onGroup fun h => h.wr)))
    · refine .either ?_ ?_
      · exact .next (.enterFrame (.setLine (.wr (h.foldl fun h => .either (.wr (.wr (h.setLine h.line.update))) (.wr
          (h.setLine h.line.update)))) (.update (State.Good.line (.wr (h.foldl fun h => .either (.wr (.wr (h.setLine
          h.line.update))) (.wr (h.setLine h.line.update))))))))
      · exact .next (.enterFrame (h.foldl fun h => .either (.wr (.wr (h.setLine h.line.update))) (.wr (h.setLine
          h.line.update))))
    · exact .either h.enterHandshake.next h.next
    · exact h.next

theorem State.Good.execStageTimerExpiry {i} (h : s.Good full) : Kept full (execStageTimerExpiry i s) := by
  dsimp only [Machine.execStageTimerExpiry]
  split
  · exact .either h.failAttempt.next h.next
  · exact .either h.probeDown.next h.next

theorem State.Good.execLoopUpActivateEnd {i} (h : s.Good full) : Kept full (execLoopUpActivateEnd i s) :=
  .either (.next (.emit (h.setLine h.line.update))) h.next

theorem State.Good.execLoopConfirm {i} (h : s.Good full) : Kept full (execLoopConfirm i s) := by
  dsimp only [Machine.execLoopConfirm]
  refine .either ?_ h.next
  split
  · exact .either h.wr.loopFire.next h.wr.loopFire.acquired.next
  · exact .next (.probeDown (.setLine h.wr.loopFire h.line.update))

theorem State.Good.execLoopDownEnd {i} (h : s.Good full) : Kept full (execLoopDownEnd i s) := by
  dsimp only [Machine.execLoopDownEnd]
  refine .either h.next ?_
  split
  · split
    · exact .next (.loopUp (.setLine h.loopClear h.line.update))
    · exact .next (.hsNext (.setLine h.loopClear h.line.update))
  · exact .next (.acquired (.either h.loopClear h))
  · exact h.loopClear.probeEnd.next
  · exact h.next

theorem State.Good.execAutonegComplete {i page} (h : s.Good full) : Kept full (execAutonegComplete i page s) := by
  dsimp only [Machine.execAutonegComplete]
  split
  · exact .either (.next (.acquired (.linkDown (h.setLine h.line.update)))) h.next
  · exact h.next

theorem State.Good.execReportRefresh {i} (h : s.Good full) : Kept full (execReportRefresh i s) :=
  h.next.either h.report.next

theorem State.Good.execBackgroundAdaptStep {i d meas} (h : s.Good full) : Kept full (execBackgroundAdaptStep i d meas s) :=
  .either h.next (.next (h.setLine h.line.update))

theorem State.Good.refinChange (h : s.Good full) : s.refinChange.Good full := h.foldl fun h => h.txTiming.either h

theorem State.Good.execRefinValid (h : s.Good full) : Kept full (execRefinValid s) := h.next.either h.wr.refinChange.next

theorem State.Good.execRefinInvalid (h : s.Good full) : Kept full (execRefinInvalid s) :=
  .either h.next (.next (h.wr.refinChange.foldl fun h => h.soundsLost))

/-! ### Machine/Programs -/

theorem Helm.Good.withImage {m : Helm} {im imem} (h : m.Good full) (hi : Sorted full imem) :
    ({ m with image := im, imem := imem } : Helm).Good full :=
  { h with imem := hi }

theorem State.Good.installImage {h im code} (hs : s.Good full) : (s.installImage h im code).Good full :=
  .wr (.setHelm hs (.withImage hs.helm (Sorted.filter Sorted.ofList)))

theorem State.Good.execLoad {n tag} (h : s.Good full) : Kept full (execLoad n tag s) :=
  .next (h.runOp fun h => .either h.endOp (.either h.endOp (.either h.endOp h.installImage.setPs.endOp)))

theorem State.Good.installPins {n pins} (h : s.Good full) : (s.installPins n pins).Good full := h.update

theorem Sorted.mkPorts {words} : Sorted full (s.mkPorts words) := by
  refine fun _ => (smSorted_iff _).mpr (List.Pairwise.filterMap _ ?_ List.pairwise_lt_range)
  intro i j hij a ha b hb
  dsimp only at ha hb
  split at ha
  · split at hb
    · cases ha; cases hb; exact hij
    · cases hb
  · cases ha

theorem State.Good.bindStart {n h tag im ports load} (hs : s.Good full) (hp : Sorted full ports) :
    (s.bindStart n h tag im ports load).Good full := by
  have hram : full → smWf 0 ((im.data.mapIdx fun i b => (i, b)).filter fun e => e.2 ≠ 0) = true := fun f =>
    (smWf_iff 0 _).mpr ⟨Sorted.ofList.filter f, fun e he => by simpa using (List.mem_filter.mp he).2⟩
  have hports : Sorted full (ports.map fun (e : Nat × Port) => (e.1, some e.2)) := fun f =>
    (smSorted_iff _).mpr (List.pairwise_map.mpr ((smSorted_iff _).mp (hp f)))
  refine .portsReady (.installPins (.refloor (.setPs (.foldl (.wr (hs.setHelm ?_)) fun h => h.wr))))
  exact ⟨.nil, hram, hs.helm.imem, .nil, hports⟩

theorem State.Good.execBind {n tag} (h : s.Good full) : Kept full (execBind n tag s) := by
  dsimp only [Machine.execBind]
  refine .next (.runOp h ?_)
  intro _ _ h
  refine .either h (.either h.endOp (.either h.endOp (.either h.endOp ?_)))
  split
  · exact h.endOp
  · refine .either h.endOp (.either h.endOp ?_)
    exact .either h.endOp (.either h.endOp (.bindStart (.either h h.installImage) .mkPorts))

theorem State.Good.execUnbind {n tag} (h : s.Good full) : Kept full (execUnbind n tag s) :=
  .next (h.runOp fun h => .either h (.either h.endOp (.requestStop (h.setHelm h.helm.update))))

theorem State.Good.execSend {n tag} (h : s.Good full) : Kept full (execSend n tag s) :=
  .next (h.runOp fun h => h.endOp.either h.enqueue.endOp)

/-! ### Machine/Protect -/

theorem State.Good.execProtectCfg {n tag} (h : s.Good full) : Kept full (execProtectCfg n tag s) := by
  dsimp only [Machine.execProtectCfg]
  refine .next (.runOp h ?_)
  intro _ _ h
  refine .either h.endOp (.either h.endOp (.either h.endOp (.either h.endOp (.either h.endOp ?_))))
  exact .either h.endOp (.endOp (.protScan (.setFlag (.wr (.setGrp { h with objs := h.objs.set })))))

theorem State.Good.execProtectCfgDelete {n tag} (h : s.Good full) : Kept full (execProtectCfgDelete n tag s) :=
  .next (h.runOp fun h => h.deleteGroup.endOp)

theorem State.Good.psTake {n tag code} (h : s.Good full) : (s.psTake n tag code).Good full :=
  h.runOp fun h => h.endOp.either h.modOp

theorem State.Good.execProtectClear {n tag} (h : s.Good full) : Kept full (execProtectClear n tag s) := h.psTake.next

theorem State.Good.execLockout {n tag} (h : s.Good full) : Kept full (execLockout n tag s) := h.psTake.next

theorem State.Good.execForce {n tag} (h : s.Good full) : Kept full (execForce n tag s) := h.psTake.next

theorem State.Good.execManualP {n tag} (h : s.Good full) : Kept full (execManualP n tag s) := h.psTake.next

theorem State.Good.execManualW {n tag} (h : s.Good full) : Kept full (execManualW n tag s) := h.psTake.next

theorem State.Good.execExercise {n tag} (h : s.Good full) : Kept full (execExercise n tag s) := h.psTake.next

theorem State.Good.execMeterArm {n tag} (h : s.Good full) : Kept full (execMeterArm n tag s) := h.psTake.next

theorem State.Good.execMeterDisarm {n tag} (h : s.Good full) : Kept full (execMeterDisarm n tag s) := h.psTake.next

theorem State.Good.execHoldoffExpiry {g k} (h : s.Good full) : Kept full (execHoldoffExpiry g k s) :=
  (h.wr.setGrp.wr.either h.wr).psLog.next.either h.next

theorem State.Good.execWtrExpiry {g} (h : s.Good full) : Kept full (execWtrExpiry g s) := h.setGrp.wr.next.either h.next

theorem State.Good.execExerciseEnd {g} (h : s.Good full) : Kept full (execExerciseEnd g s) := h.setGrp.next.either h.next

theorem State.Good.execProtocolFailureChange {g w} (h : s.Good full) : Kept full (execProtocolFailureChange g w s) :=
  h.noteFails.setFlag.psLog.next.either h.noteFails.next

theorem State.Good.execMeterTick {g past} (h : s.Good full) : Kept full (execMeterTick g past s) := by
  dsimp only [Machine.execMeterTick]
  refine .either h.next (.either h.setGrp.next ?_)
  split
  · exact h.setGrp.wr.next
  · exact h.setGrp.next

theorem State.Good.execMeterGuardExpiry {g} (h : s.Good full) : Kept full (execMeterGuardExpiry g s) := by
  dsimp only [Machine.execMeterGuardExpiry]
  split
  · exact .either h.meterEnd.next h.next
  · exact h.next

/-! ### Machine/RegCmds -/

theorem State.Good.access {f} (h : s.Good full) (hf : ∀ {t}, t.Good full → (f t).Good full) : Kept full (s.access f) :=
  .next (.either (hf h.tlpIn) h)

theorem State.Good.execAdaptSnap {i} (h : s.Good full) : Kept full (execAdaptSnap i s) := h.access fun h => h.report

theorem State.Good.execAdaptFreeze {i on} (h : s.Good full) : Kept full (execAdaptFreeze i on s) :=
  h.access fun h => h.setFlag

theorem State.Good.execReframe {i} (h : s.Good full) : Kept full (execReframe i s) := h.access fun h => h.sliceWrite

theorem State.Good.execMfReframe {i} (h : s.Good full) : Kept full (execMfReframe i s) := h.access fun h => h.sliceWrite

theorem State.Good.execSliceReset {i} (h : s.Good full) : Kept full (execSliceReset i s) := h.access fun h => h.sliceReset

theorem State.Good.execLoopPendingClear {i} (h : s.Good full) : Kept full (execLoopPendingClear i s) :=
  h.access fun h => h.sliceWrite

theorem State.Good.ovIns {i layer item mode man exp count} (h : s.Good full) :
    (s.ovIns i layer item mode man exp count).Good full :=
  h.sliceWrite

theorem State.Good.execOvInsSingle {i layer item} (h : s.Good full) : Kept full (execOvInsSingle i layer item s) :=
  h.access fun h => h.ovIns

theorem State.Good.execOvInsRate {i layer item man exp} (h : s.Good full) :
    Kept full (execOvInsRate i layer item man exp s) :=
  h.access fun h => h.ovIns

theorem State.Good.execOvInsBurst {i layer item count} (h : s.Good full) :
    Kept full (execOvInsBurst i layer item count s) :=
  h.access fun h => h.ovIns

theorem State.Good.force {i f layer on} (h : s.Good full) : (s.force i f layer on).Good full := h.wr.setFlag

theorem State.Good.execForceAis {i layer on} (h : s.Good full) : Kept full (execForceAis i layer on s) :=
  h.access fun h => h.force

theorem State.Good.execForceRdi {i layer on} (h : s.Good full) : Kept full (execForceRdi i layer on s) :=
  h.access fun h => h.force

theorem State.Good.execForceUneq {i layer on} (h : s.Good full) : Kept full (execForceUneq i layer on s) :=
  h.access fun h => h.force

theorem State.Good.execForceLof {i layer on} (h : s.Good full) : Kept full (execForceLof i layer on s) :=
  h.access fun h => h.force

theorem State.Good.execForceLos {i layer on} (h : s.Good full) : Kept full (execForceLos i layer on s) :=
  h.access fun h => h.force

theorem State.Good.execForceLck {i layer on} (h : s.Good full) : Kept full (execForceLck i layer on s) :=
  h.access fun h => h.force

theorem State.Good.execForceLf {i layer on} (h : s.Good full) : Kept full (execForceLf i layer on s) :=
  h.access fun h => h.force

theorem State.Good.execForceRf {i layer on} (h : s.Good full) : Kept full (execForceRf i layer on s) :=
  h.access fun h => h.force

theorem State.Good.execImemWrite {h a v} (hs : s.Good full) : Kept full (execImemWrite h a v s) :=
  hs.access fun h => h.imemWrite

theorem State.Good.execCuMark {c} (h : s.Good full) : Kept full (execCuMark c s) := h.access fun h => h.cuAct

theorem State.Good.execCuRewind {c} (h : s.Good full) : Kept full (execCuRewind c s) := h.access fun h => h.cuAct

theorem State.Good.execCuRelease {c} (h : s.Good full) : Kept full (execCuRelease c s) := h.access fun h => h.cuAct

theorem State.Good.execCuOwn {n c on} (h : s.Good full) : Kept full (execCuOwn n c on s) := h.access fun h => h.cuOwn

theorem State.Good.execCuPopTake {n c} (h : s.Good full) : Kept full (execCuPopTake n c s) :=
  h.access fun h => h.popTake.emit

theorem State.Good.execCuHackWrite {c v} (h : s.Good full) : Kept full (execCuHackWrite c v s) := h.access fun h => h.wr

theorem State.Good.execPmAttach {n p v} (h : s.Good full) : Kept full (execPmAttach n p v s) :=
  h.access fun h => h.pmAttachWrite

theorem State.Good.execPmAlignWrite {v} (h : s.Good full) : Kept full (execPmAlignWrite v s) :=
  h.access fun h => h.wr.realign

theorem State.Good.readCmd {n a} (h : s.Good full) : (s.readCmd n a).Good full := h.tlpIn.busRead.emit

theorem State.Good.execRcRead {n a} (h : s.Good full) : Kept full (execRcRead n a s) := h.readCmd.next

theorem State.Good.execWideReadLow {n a} (h : s.Good full) : Kept full (execWideReadLow n a s) := h.readCmd.next

theorem State.Good.execRegisterWrite {n a v narrow} (h : s.Good full) : Kept full (execRegisterWrite n a v narrow s) :=
  (h.tlpIn.either h.tlpIn.busWrite).next

/-! ### Machine/Dispatch -/

theorem State.Good.exec {i} (h : s.Good full) : Kept full (exec i s) := by
  cases i with
  | nop => exact h.execNop
  | sessionOpen => exact h.execSessionOpen
  | sessionClose => exact h.execSessionClose
  | grant => exact h.execGrant
  | watchGrant => exact h.execWatchGrant
  | load => exact h.execLoad
  | bind => exact h.execBind
  | unbind => exact h.execUnbind
  | send => exact h.execSend
  | acquire => exact h.execAcquire
  | releaseLine => exact h.execReleaseLine
  | supply => exact h.execSupply
  | soundBay => exact h.execSoundBay
  | tdr => exact h.execTdr
  | cableLoss => exact h.execCableLoss
  | optics => exact h.execOptics
  | eye => exact h.execEye
  | jitter => exact h.execJitter
  | jitterWindowEnd => exact h.execJitterWindowEnd
  | wander => exact h.execWander
  | wanderSample => exact h.execWanderSample
  | traces => exact h.execTraces
  | ssm => exact h.execSsm
  | loopProbe => exact h.execLoopProbe
  | autoneg => exact h.execAutoneg
  | chartWrite => exact h.execChartWrite
  | chartWriteCfg => exact h.execChartWriteCfg
  | chartSwap => exact h.execChartSwap
  | protectCfg => exact h.execProtectCfg
  | protectCfgDelete => exact h.execProtectCfgDelete
  | protectClear => exact h.execProtectClear
  | lockout => exact h.execLockout
  | force => exact h.execForce
  | manualP => exact h.execManualP
  | manualW => exact h.execManualW
  | exercise => exact h.execExercise
  | meterArm => exact h.execMeterArm
  | meterDisarm => exact h.execMeterDisarm
  | soak => exact h.execSoak
  | capture => exact h.execCapture
  | pattern => exact h.execPattern
  | pmRead => exact h.execPmRead
  | pmReset => exact h.execPmReset
  | attach => exact h.execAttach
  | detach => exact h.execDetach
  | suspend => exact h.execSuspend
  | resume => exact h.execResume
  | cancel => exact h.execCancel
  | selftest => exact h.execSelftest
  | selftestQuietStart => exact h.execSelftestQuietStart
  | selftestDeferExpiry => exact h.execSelftestDeferExpiry
  | calibrate => exact h.execCalibrate
  | bayOn => exact h.execBayOn
  | bayOff => exact h.execBayOff
  | bayClear => exact h.execBayClear
  | bayRestart => exact h.execBayRestart
  | powerFloor => exact h.execPowerFloor
  | calendarAddWake => exact h.execCalendarAddWake
  | calendarAddRaise => exact h.execCalendarAddRaise
  | calendarCancel => exact h.execCalendarCancel
  | calendarWakeFire => exact h.execCalendarWakeFire
  | calendarRaiseFire => exact h.execCalendarRaiseFire
  | holdMsExpiry => exact h.execHoldMsExpiry
  | queryGlobal => exact h.execQueryGlobal
  | querySession => exact h.execQuerySession
  | queryOperation => exact h.execQueryOperation
  | queryObject => exact h.execQueryObject
  | queryLink => exact h.execQueryLink
  | queryPower => exact h.execQueryPower
  | submissionFetchDone => exact h.execSubmissionFetchDone
  | admitRecord => exact h.execAdmitRecord
  | operationStart => exact h.execOperationStart
  | operationEnd => exact h.execOperationEnd
  | durationExpiry => exact h.execDurationExpiry
  | sqDoorbell => exact h.execSqDoorbell
  | cqDoorbell => exact h.execCqDoorbell
  | eqHeadDoorbell => exact h.execEqHeadDoorbell
  | sesKeyCommit => exact h.execSesKeyCommit
  | sessionReset => exact h.execSessionReset
  | scrubDone => exact h.execScrubDone
  | mapcInvalidate => exact h.execMapcInvalidate
  | mapcInvDone => exact h.execMapcInvDone
  | adaptSnap => exact h.execAdaptSnap
  | adaptFreeze => exact h.execAdaptFreeze
  | reportRefresh => exact h.execReportRefresh
  | backgroundAdaptStep => exact h.execBackgroundAdaptStep
  | reframe => exact h.execReframe
  | mfReframe => exact h.execMfReframe
  | sliceReset => exact h.execSliceReset
  | warmReset => exact h.execWarmReset
  | coldReset => exact h.execColdReset
  | logbookMarkRead => exact h.execLogbookMarkRead
  | logbookForce => exact h.execLogbookForce
  | counterSnap => exact h.execCounterSnap
  | cuMark => exact h.execCuMark
  | cuRewind => exact h.execCuRewind
  | cuRelease => exact h.execCuRelease
  | cuOwn => exact h.execCuOwn
  | cuPopTake => exact h.execCuPopTake
  | cuHackWrite => exact h.execCuHackWrite
  | bcSet => exact h.execBcSet
  | swRaise => exact h.execSwRaise
  | claim => exact h.execClaim
  | eoi => exact h.execEoi
  | bcVclaim v => exact h.execBcVclaim (v := v)
  | pmAttach => exact h.execPmAttach
  | pmAlignWrite => exact h.execPmAlignWrite
  | loopPendingClear => exact h.execLoopPendingClear
  | fdPathWrite => exact h.execFdPathWrite
  | byMapWrite => exact h.execByMapWrite
  | pdLimitWrite => exact h.execPdLimitWrite
  | ltrUpdate => exact h.execLtrUpdate
  | imemWrite => exact h.execImemWrite
  | ovInsSingle => exact h.execOvInsSingle
  | ovInsRate => exact h.execOvInsRate
  | ovInsBurst => exact h.execOvInsBurst
  | forceAis => exact h.execForceAis
  | forceRdi => exact h.execForceRdi
  | forceUneq => exact h.execForceUneq
  | forceLof => exact h.execForceLof
  | forceLos => exact h.execForceLos
  | forceLck => exact h.execForceLck
  | forceLf => exact h.execForceLf
  | forceRf => exact h.execForceRf
  | rcRead => exact h.execRcRead
  | wideReadLow => exact h.execWideReadLow
  | registerWrite => exact h.execRegisterWrite
  | kpNop => exact h.execKpNop
  | kpReadId => exact h.execKpReadId
  | kpRead => exact h.execKpRead
  | kpWrite => exact h.execKpWrite
  | kpWake => exact h.execKpWake
  | kpColdReset => exact h.execKpColdReset
  | kpFrameAbort => exact h.execKpFrameAbort
  | bmeClear => exact h.execBmeClear
  | bmeSet => exact h.execBmeSet
  | vfFlr => exact h.execVfFlr
  | flrDrainEnd => exact h.execFlrDrainEnd
  | pf0Flr => exact h.execPf0Flr
  | hotReset => exact h.execHotReset
  | vfEnableClear => exact h.execVfEnableClear
  | perstDeassert => exact h.execPerstDeassert
  | perstAssert => exact h.execPerstAssert
  | linkDown => exact h.execLinkDown
  | l2L3Ready => exact h.execL2L3Ready
  | l1Entry => exact h.execL1Entry
  | l12Exit => exact h.execL12Exit
  | completionTimeout => exact h.execCompletionTimeout
  | badCompletion => exact h.execBadCompletion
  | unexpectedCompletion => exact h.execUnexpectedCompletion
  | tagQuarantineEnd => exact h.execTagQuarantineEnd
  | configRetry => exact h.execConfigRetry
  | bar2Atomicop => exact h.execBar2Atomicop
  | stagingStall => exact h.execStagingStall
  | pcieCreditReturn => exact h.execPcieCreditReturn
  | eventDispatch => exact h.execEventDispatch
  | helmTimerExpiry => exact h.execHelmTimerExpiry
  | budgetAbort => exact h.execBudgetAbort
  | farLoadComplete => exact h.execFarLoadComplete
  | farStoreComplete => exact h.execFarStoreComplete
  | add => exact h.execAdd
  | adc => exact h.execAdc
  | sub => exact h.execSub
  | sbc => exact h.execSbc
  | and => exact h.execAnd
  | or => exact h.execOr
  | xor => exact h.execXor
  | andn => exact h.execAndn
  | shl => exact h.execShl
  | shr => exact h.execShr
  | sar => exact h.execSar
  | ror => exact h.execRor
  | mul => exact h.execMul
  | mulhu => exact h.execMulhu
  | popc => exact h.execPopc
  | clz => exact h.execClz
  | bswap => exact h.execBswap
  | csel => exact h.execCsel
  | adds => exact h.execAdds
  | subs => exact h.execSubs
  | addi => exact h.execAddi
  | andi => exact h.execAndi
  | ori => exact h.execOri
  | xori => exact h.execXori
  | shli => exact h.execShli
  | shri => exact h.execShri
  | sari => exact h.execSari
  | rori => exact h.execRori
  | movl => exact h.execMovl
  | movh => exact h.execMovh
  | movs => exact h.execMovs
  | rds => exact h.execRds
  | extu => exact h.execExtu
  | ins => exact h.execIns
  | cmp => exact h.execCmp
  | tst => exact h.execTst
  | cmpi => exact h.execCmpi
  | tsti => exact h.execTsti
  | b => exact h.execB
  | bl => exact h.execBl
  | ret => exact h.execRet
  | loop => exact h.execLoop
  | cbz => exact h.execCbz
  | cbnz => exact h.execCbnz
  | ldw => exact h.execLdw
  | ldh => exact h.execLdh
  | ldhs => exact h.execLdhs
  | ldb => exact h.execLdb
  | ldbs => exact h.execLdbs
  | stw => exact h.execStw
  | sth => exact h.execSth
  | stb => exact h.execStb
  | fld => exact h.execFld
  | fst => exact h.execFst
  | fadd => exact h.execFadd
  | fsync => exact h.execFsync
  | ohrd => exact h.execOhrd
  | ohwr => exact h.execOhwr
  | ohwm => exact h.execOhwm
  | push => exact h.execPush
  | pushc => exact h.execPushc
  | rwd => exact h.execRwd
  | crc => exact h.execCrc
  | bip8 => exact h.execBip8
  | bip2 => exact h.execBip2
  | berr => exact h.execBerr
  | bipx => exact h.execBipx
  | tally => exact h.execTally
  | tbin => exact h.execTbin
  | dset => exact h.execDset
  | dclr => exact h.execDclr
  | pstart => exact h.execPstart
  | pstop => exact h.execPstop
  | perr => exact h.execPerr
  | prdc => exact h.execPrdc
  | pstat => exact h.execPstat
  | pword => exact h.execPword
  | tarm => exact h.execTarm
  | tarmr => exact h.execTarmr
  | tper => exact h.execTper
  | tcan => exact h.execTcan
  | post => exact h.execPost
  | raise => exact h.execRaise
  | raises => exact h.execRaises
  | helmEnd => exact h.execHelmEnd
  | signalPresent => exact h.execSignalPresent
  | signalAbsent => exact h.execSignalAbsent
  | stageComplete => exact h.execStageComplete
  | stageTimerExpiry => exact h.execStageTimerExpiry
  | loopUpActivateEnd => exact h.execLoopUpActivateEnd
  | loopConfirm => exact h.execLoopConfirm
  | loopDownEnd => exact h.execLoopDownEnd
  | autonegComplete => exact h.execAutonegComplete
  | refinValid => exact h.execRefinValid
  | refinInvalid => exact h.execRefinInvalid
  | patternFound => exact h.execPatternFound
  | candidateCheck => exact h.execCandidateCheck
  | syncCheckUnit => exact h.execSyncCheckUnit
  | nfasLoss => exact h.execNfasLoss
  | crc4MfasWord => exact h.execCrc4MfasWord
  | crc4MfTimeout => exact h.execCrc4MfTimeout
  | crc4FailThreshold => exact h.execCrc4FailThreshold
  | mfasCheck => exact h.execMfasCheck
  | syncHeader => exact h.execSyncHeader
  | gfpCoreHeader => exact h.execGfpCoreHeader
  | laneMarker => exact h.execLaneMarker
  | groupAlign => exact h.execGroupAlign
  | groupOof => exact h.execGroupOof
  | frameBoundary => exact h.execFrameBoundary
  | monitoringTick => exact h.execMonitoringTick
  | lofTimer => exact h.execLofTimer
  | secondBoundary => exact h.execSecondBoundary
  | excWindow => exact h.execExcWindow
  | transmitFrame => exact h.execTransmitFrame
  | checkerSync => exact h.execCheckerSync
  | checkerSyncLoss => exact h.execCheckerSyncLoss
  | generatorInsert => exact h.execGeneratorInsert
  | chartFrameBoundary => exact h.execChartFrameBoundary
  | tributaryFrameStart => exact h.execTributaryFrameStart
  | swapPeriodEnd => exact h.execSwapPeriodEnd
  | holdoffExpiry => exact h.execHoldoffExpiry
  | wtrExpiry => exact h.execWtrExpiry
  | exerciseEnd => exact h.execExerciseEnd
  | protocolFailureChange => exact h.execProtocolFailureChange
  | meterTick => exact h.execMeterTick
  | meterGuardExpiry => exact h.execMeterGuardExpiry
  | pmSecondJudgement => exact h.execPmSecondJudgement
  | intervalBoundary => exact h.execIntervalBoundary
  | binFinal => exact h.execBinFinal
  | intervalShortClose => exact h.execIntervalShortClose
  | clientFramePush => exact h.execClientFramePush
  | gapWrite => exact h.execGapWrite
  | packetVisible => exact h.execPacketVisible
  | spaceVisible => exact h.execSpaceVisible
  | ptrMismatchReset => exact h.execPtrMismatchReset
  | captureTake => exact h.execCaptureTake
  | crateRequest => exact h.execCrateRequest
  | crateWaitGrant => exact h.execCrateWaitGrant
  | crateFlushTimer => exact h.execCrateFlushTimer
  | crateWrite => exact h.execCrateWrite
  | crateScrubDone => exact h.execCrateScrubDone
  | matrixStall => exact h.execMatrixStall
  | sourceFire => exact h.execSourceFire
  | sourceTake => exact h.execSourceTake
  | stewardPresent w lost => exact h.execStewardPresent (w := w) (lost := lost)
  | wakeLatchSet => exact h.execWakeLatchSet
  | latchReplay => exact h.execLatchReplay
  | feedValid => exact h.execFeedValid
  | feedInvalid => exact h.execFeedInvalid
  | deadTimeEnd => exact h.execDeadTimeEnd
  | powerFailure => exact h.execPowerFailure
  | packLowChange => exact h.execPackLowChange
  | cutoffEntry => exact h.execCutoffEntry
  | packGraceExpiry => exact h.execPackGraceExpiry
  | cutoffExit => exact h.execCutoffExit
  | packDisconnect => exact h.execPackDisconnect
  | poeDetection => exact h.execPoeDetection
  | poeClassification => exact h.execPoeClassification
  | poePowerApplied => exact h.execPoePowerApplied
  | poePowerRemoved => exact h.execPoePowerRemoved
  | allowanceRecompute => exact h.execAllowanceRecompute
  | bayShed => exact h.execBayShed
  | overdrawCheck => exact h.execOverdrawCheck
  | headSeated => exact h.execHeadSeated
  | headUnseated => exact h.execHeadUnseated
  | seatDebounceEnd => exact h.execSeatDebounceEnd
  | bayOutOfWindow => exact h.execBayOutOfWindow
  | powerGood => exact h.execPowerGood
  | shortStart => exact h.execShortStart
  | fastTrip => exact h.execFastTrip
  | overcurrent => exact h.execOvercurrent
  | pgLost => exact h.execPgLost
  | retryExpiry => exact h.execRetryExpiry
  | faultCountReset => exact h.execFaultCountReset
  | headIdent => exact h.execHeadIdent
  | headIdentRetry => exact h.execHeadIdentRetry
  | headIntChange => exact h.execHeadIntChange
  | headLosChange => exact h.execHeadLosChange
  | adcScan => exact h.execAdcScan
  | keeperChoice => exact h.execKeeperChoice
  | domainWakeStart => exact h.execDomainWakeStart
  | unknownEventWake => exact h.execUnknownEventWake
  | stowEntry => exact h.execStowEntry
  | stowCommit => exact h.execStowCommit
  | stowAbort => exact h.execStowAbort
  | moorEntry => exact h.execMoorEntry
  | wakeFromStow => exact h.execWakeFromStow
  | wakeFromMoor => exact h.execWakeFromMoor
  | ppsRefinement => exact h.execPpsRefinement
  | rebaseSlewEnd => exact h.execRebaseSlewEnd
  | compassLoop => exact h.execCompassLoop
  | marginZero => exact h.execMarginZero
  | syspllLevelChange => exact h.execSyspllLevelChange
  | throttleStep => exact h.execThrottleStep
  | avsbusTimeout => exact h.execAvsbusTimeout
  | avsbusRetry => exact h.execAvsbusRetry
  | thermalShutdown => exact h.execThermalShutdown
  | thermalRecovery => exact h.execThermalRecovery
  | porK => exact h.execPorK
  | coldBoot => exact h.execColdBoot
  | unlonReady => exact h.execUnlonReady
  | railCheckFail => exact h.execRailCheckFail
  | railRetry => exact h.execRailRetry
  | backgroundPageScrub => exact h.execBackgroundPageScrub
  | tetherResend => exact h.execTetherResend
  | tetherHeartbeatMiss => exact h.execTetherHeartbeatMiss
  | tetherRetrain => exact h.execTetherRetrain
  | tetherFatal => exact h.execTetherFatal
  | warmTetherTimeout => exact h.execWarmTetherTimeout
  | logbookDump => exact h.execLogbookDump
  | dumpTimeout => exact h.execDumpTimeout
  | faultHoldAutoReset => exact h.execFaultHoldAutoReset
  | lockstepMismatch => exact h.execLockstepMismatch
  | comparatorInjection => exact h.execComparatorInjection
  | patrolPass => exact h.execPatrolPass
  | backgroundMbist => exact h.execBackgroundMbist
  | backgroundChartCheck => exact h.execBackgroundChartCheck
  | stewardEoi => exact h.execStewardEoi
  | hostReadCompletion => exact h.execHostReadCompletion
  | bar2Write => exact h.execBar2Write
  | linkUp => exact h.execLinkUp
  | dStateWrite => exact h.execDStateWrite
  | vfEnableSet => exact h.execVfEnableSet
  | codeGroup => exact h.execCodeGroup
  | csfGfpTimeout => exact h.execCsfGfpTimeout
  | reservedEncoding => exact h.execReservedEncoding
  | kpUnknownCommand => exact h.execKpUnknownCommand

/-! ### Machine/Step -/

theorem State.Good.step (h : s.Good full) : Kept full (step s) := by
  unfold Machine.step
  split
  · exact h.tick.next
  · exact .exec h.update

theorem State.Good.withFetchWord {nbits w} (h : s.Good full) : (s.withFetchWord nbits w).Good full := h

/-- What a step answers keeps memory in canonical form, whatever the other tables are. -/
theorem step_keeps_memory {t : State} (h : s.mem.wf = true) (e : Machine.step s = .next t) : t.mem.wf = true :=
  (s.mem_wf_iff.mp h).step t e |>.mem

/-- Settles O4: `State.wf` is `State.Good` with every claim made, and a step keeps that. -/
theorem everyStepKeepsGoodForm : Obligations.EveryStepKeepsGoodForm := by
  unfold Obligations.EveryStepKeepsGoodForm
  intro s t hs ht
  exact t.wf_iff.mpr ((s.wf_iff.mp hs).step t ht)

end Sys2Proof.Machine

end

section
/-! # The step, and the machine at reset -/

namespace Sys2Proof.Machine

open Reg

/-! ### The tick -/

/-- Of the core clock only event counter 0 and the fraction of a cycle are kept. -/
theorem State.coreTick_eq (s : State) : s.coreTick = { s with cnt := s.coreTick.cnt, coreAcc := s.coreTick.coreAcc } := by
  unfold State.coreTick
  split
  · rfl
  · dsimp only
    split <;> rfl

theorem State.tick_eq (s : State) : s.tick =
    { s with cnt := s.coreTick.cnt, coreAcc := s.coreTick.coreAcc, clock := s.clock + 1, tm := s.tm.deviceTick.keeperTick } := by
  unfold State.tick
  rw [s.coreTick_eq]

/-- Settles O1: the queue's two cases are the step's own, and the tick writes only clocks. -/
theorem aStepTakesTheCommandAtTheFront : Obligations.AStepTakesTheCommandAtTheFront := by
  unfold Obligations.AStepTakesTheCommandAtTheFront
  refine ⟨fun _ _ _ => rfl, fun s hp => ⟨s.tick, ?_, ?_⟩⟩
  · unfold step
    rw [hp]
  · rw [s.tick_eq]
    exact ⟨fun _ _ _ _ => rfl, fun _ => rfl, rfl, hp, rfl, rfl, rfl⟩

/-! ### Reset -/

theorem State.reset_rd {f : Fld} {i j : Nat} (he : f.key i j ≠ KP_PWR_STAT_EDIE.key 0 0)
    (hv : f.key i j ≠ CP_STAT_VDD.key 0 0) : State.reset.rd f i j = f.reset := by
  simp only [State.rd, State.reset, smGet, he, hv, if_false, ite_self]

theorem State.reset_byteAt (a : Nat) : State.reset.byteAt a = 0 := by
  unfold State.byteAt
  split
  · rfl
  · split <;> rfl

/-- Settles O2: the two fields set at reset aside, every field is its Reset value; the words of the tables are computed. -/
theorem theMachineAtReset : Obligations.TheMachineAtReset := by
  unfold Obligations.TheMachineAtReset
  refine ⟨State.reset.wf_iff.mpr .reset, rfl, rfl, rfl, rfl, rfl, rfl, State.reset_byteAt, fun _ _ _ => State.reset_rd,
    ?_, ?_, ?_, ?_, ?_⟩
  · decide +kernel
  · decide +kernel
  · decide +kernel
  · decide +kernel
  · and_intros <;> decide +kernel

end Sys2Proof.Machine

end

section
/-! # Register accesses

What a command that is a register access leaves as it was (`Held`), what the arrival of its TLP writes, and what a word
written to a register, a firing and a reset do to the registers. -/

namespace Sys2Proof.Machine

open Reg

set_option Elab.async false

section

variable {keys : List Nat} {s t u : State} {f : Fld} {i j : Nat}

theorem SameRegs.of_eq (h : t.regs = s.regs) : SameRegs keys s t := fun f i j _ => by
  simp only [State.rd, h]

theorem SameRegs.trans (h : SameRegs keys s t) (h' : SameRegs keys t u) : SameRegs keys s u :=
  fun f i j hk => (h' f i j hk).trans (h f i j hk)

theorem SameRegs.mono {keys' : List Nat} (h : SameRegs keys s t) (hk : keys ⊆ keys') : SameRegs keys' s t :=
  fun f i j hn => h f i j fun hm => hn (hk hm)

theorem SameRegs.wr {v : Nat} (h : SameRegs keys s t) (ht : smSorted t.regs = true) (hk : f.key i j ∈ keys) :
    SameRegs keys s (t.wr f v i j) :=
  fun _ k l hn => (State.rd_wr_other ht v i j k l (ne_of_mem_of_not_mem hk hn).symm).trans (h _ k l hn)

theorem State.byteAt_congr (hm : t.mem = s.mem) (hc : t.cellarSize = s.cellarSize) (a : Nat) : t.byteAt a = s.byteAt a := by
  unfold State.byteAt State.inCellar State.undefAt
  rw [hm, hc]

/-- A command's effect so far: the state is in good form, and but for the listed fields the registers and memory, its size
among them, are as before. -/
structure Held (keys : List Nat) (s t : State) : Prop where
  good : t.Good True
  regs : SameRegs keys s t
  mem : t.mem = s.mem
  cellar : t.cellarSize = s.cellarSize

theorem Held.refl (h : s.Good True) : Held keys s s := ⟨h, fun _ _ _ _ => rfl, rfl, rfl⟩

theorem Held.trans (h : Held keys s t) (h' : Held keys t u) : Held keys s u :=
  ⟨h'.good, h.regs.trans h'.regs, h'.mem.trans h.mem, h'.cellar.trans h.cellar⟩

theorem Held.mono {keys' : List Nat} (h : Held keys s t) (hk : keys ⊆ keys') : Held keys' s t :=
  ⟨h.good, h.regs.mono hk, h.mem, h.cellar⟩

/-- A write of a global or K-die register at a known key. -/
theorem Held.wrKey {v : Nat} (h : Held keys s t) (hk : f.key i j ∈ keys)
    (hc : MX_CELLAR_ADDR_MIB.key 0 0 ≠ f.key i j := by decide) : Held keys s (t.wr f v i j) where
  good := h.good.wr
  regs := SameRegs.wr h.regs (h.good.regs trivial) hk
  mem := h.mem
  cellar := by
    rw [← h.cellar]
    unfold State.cellarSize
    rw [State.rd_wr_other (h.good.regs trivial) v i j 0 0 hc]

/-- A key of another block than the global registers is not memory's size. -/
theorem Fld.cellar_ne_key (h : f.region.code ≠ 0) : MX_CELLAR_ADDR_MIB.key 0 0 ≠ f.key i j := by
  have e : MX_CELLAR_ADDR_MIB.key 0 0 = 2622216 := rfl
  rw [e]
  unfold Fld.key
  omega

/-- A write of a register of a block with instances. -/
theorem Held.wr {v : Nat} (h : Held keys s t) (hk : f.key i j ∈ keys) (hf : f.region.code ≠ 0 := by decide) :
    Held keys s (t.wr f v i j) :=
  h.wrKey hk (Fld.cellar_ne_key hf)

/-- An update of other tables. -/
theorem Held.step (h : Held keys s t) (hu : u.Good True) (hr : u.regs = t.regs) (hm : u.mem = t.mem) : Held keys s u :=
  have hc : u.cellarSize = t.cellarSize := by simp only [State.cellarSize, State.rd, hr]
  ⟨hu, h.regs.trans (.of_eq hr), hm.trans h.mem, hc.trans h.cellar⟩

theorem Held.either {c : Prop} {_ : Decidable c} (ht : Held keys s t) (hu : Held keys s u) : Held keys s (if c then t else u) := by
  split <;> assumption

theorem Held.count {n k : Nat} (h : Held keys s t) : Held keys s (t.count n k) := h.step h.good.count rfl rfl

theorem Held.sameMem (h : Held keys s t) : SameMem s t := State.byteAt_congr h.mem h.cellar

theorem Held.does {c : Instr} {P : State → Prop} (h : Held keys s t) (e : exec c s = .next t) (hp : P t) :
    Does c s keys P :=
  ⟨t, e, hp, h.regs, h.sameMem⟩

end

section

variable {s : State}

/-- The fields that any arrival of a TLP may write. -/
def tlpKeys : List Nat := [GL_LINK_STAT_LINK.key 0 0, KP_DOM.key 0 0, KP_PWR_STAT_EDIE.key 0 0]

theorem State.setDom_eq (s : State) (d x : Nat) : s.setDom d x = { s with regs := (s.setDom d x).regs, cnt := (s.setDom d x).cnt } := by
  unfold State.setDom
  split
  · rfl
  · dsimp only
    split <;> split <;> rfl

theorem State.linkUsed_eq (s : State) : s.linkUsed =
    { s with regs := s.linkUsed.regs, host := { s.host with idleSince := s.clock, clkreqLow := true } } := by
  unfold State.linkUsed
  dsimp only
  split <;> rfl

theorem State.tlpIn_eq (s : State) : s.tlpIn =
    { s with
      regs := s.tlpIn.regs
      cnt := s.tlpIn.cnt
      host := { s.host with idleSince := s.tlpIn.host.idleSince, clkreqLow := s.tlpIn.host.clkreqLow } } := by
  unfold State.tlpIn
  split
  · rfl
  · unfold State.domRun
    rw [if_neg (by omega), State.setDom_eq, State.linkUsed_eq]
    rfl

theorem Held.setDom {keys : List Nat} {t : State} {d x : Nat} (h : Held keys s t) (hd : KP_DOM.key 0 0 ∈ keys)
    (he : KP_PWR_STAT_EDIE.key 0 0 ∈ keys) : Held keys s (t.setDom d x) := by
  unfold State.setDom
  refine .either h ?_
  extract_lets t1 t2
  have h2 : Held keys s t2 := .either ((h.wrKey hd).wrKey he) (h.wrKey hd)
  exact .either h2 h2.count

theorem Held.linkUsed (h : s.Good True) : Held tlpKeys s s.linkUsed := by
  unfold State.linkUsed
  extract_lets s1
  have h1 : Held tlpKeys s s1 := .either ((Held.refl h).wrKey (List.mem_cons_self ..)) (.refl h)
  exact h1.step h1.good.update rfl rfl

theorem Held.tlpIn (h : s.Good True) : Held tlpKeys s s.tlpIn := by
  unfold State.tlpIn
  refine .either (.refl h) (.count ?_)
  unfold State.domRun
  rw [if_neg (by omega)]
  exact (Held.linkUsed h).setDom (by simp [tlpKeys]) (by simp [tlpKeys])

end

section
variable {s t : State}

@[simp] theorem State.tlpIn_pending (s : State) : s.tlpIn.pending = s.pending := by rw [s.tlpIn_eq]
@[simp] theorem State.tlpIn_clock (s : State) : s.tlpIn.clock = s.clock := by rw [s.tlpIn_eq]
@[simp] theorem State.tlpIn_out (s : State) : s.tlpIn.out = s.out := by rw [s.tlpIn_eq]
@[simp] theorem State.tlpIn_sessions (s : State) : s.tlpIn.sessions = s.sessions := by rw [s.tlpIn_eq]
@[simp] theorem State.tlpIn_ops (s : State) : s.tlpIn.ops = s.ops := by rw [s.tlpIn_eq]
@[simp] theorem State.tlpIn_own (s : State) : s.tlpIn.own = s.own := by rw [s.tlpIn_eq]
@[simp] theorem State.tlpIn_mem (s : State) : s.tlpIn.mem = s.mem := by rw [s.tlpIn_eq]
@[simp] theorem State.tlpIn_helms (s : State) : s.tlpIn.helms = s.helms := by rw [s.tlpIn_eq]
@[simp] theorem State.tlpIn_lines (s : State) : s.tlpIn.lines = s.lines := by rw [s.tlpIn_eq]
@[simp] theorem State.tlpIn_chutes (s : State) : s.tlpIn.chutes = s.chutes := by rw [s.tlpIn_eq]
@[simp] theorem State.tlpIn_pm (s : State) : s.tlpIn.pm = s.pm := by rw [s.tlpIn_eq]
@[simp] theorem State.tlpIn_boot (s : State) : s.tlpIn.boot = s.boot := by rw [s.tlpIn_eq]
@[simp] theorem State.tlpIn_health (s : State) : s.tlpIn.health = s.health := by rw [s.tlpIn_eq]
@[simp] theorem State.tlpIn_hiLatch (s : State) : s.tlpIn.hiLatch = s.hiLatch := by rw [s.tlpIn_eq]

@[simp] theorem State.tlpIn_helm (s : State) (h : Nat) : s.tlpIn.helm h = s.helm h := by simp only [State.helm, tlpIn_helms]
@[simp] theorem State.tlpIn_line (s : State) (i : Nat) : s.tlpIn.line i = s.line i := by simp only [State.line, tlpIn_lines]
@[simp] theorem State.tlpIn_chute (s : State) (c : Nat) : s.tlpIn.chute c = s.chute c := by simp only [State.chute, tlpIn_chutes]
@[simp] theorem State.tlpIn_ownerOf (s : State) (o : Nat) : s.tlpIn.ownerOf o = s.ownerOf o := by simp only [State.ownerOf, tlpIn_own]

theorem State.tlpIn_rd {f : Fld} {i j : Nat} (h : s.Good True) (hk : f.key i j ∉ tlpKeys) : s.tlpIn.rd f i j = s.rd f i j :=
  (Held.tlpIn h).regs f i j hk

/-- A key of a block with instances is none of those a TLP's arrival may write. -/
theorem Fld.key_notin_tlpKeys {f : Fld} {i : Nat} (hf : f.region.code ≠ 0 ∧ f.region.code < 11) (hi : i < 8192)
    (ho : f.off < 0x1000000 ∧ f.lsb < 64) : f.key i 0 ∉ tlpKeys := by
  have e : tlpKeys = [1028, 11 * 2 ^ 43 + 0x610 * 64, 11 * 2 ^ 43 + 0x60C * 64] := rfl
  rw [e]
  simp only [List.mem_cons, List.not_mem_nil, or_false, Fld.key]
  omega

theorem State.tlpIn_rd_block (h : s.Good True) (f : Fld) {i : Nat} (hi : i < 8192 := by omega)
    (hf : f.region.code ≠ 0 ∧ f.region.code < 11 := by decide) (ho : f.off < 0x1000000 ∧ f.lsb < 64 := by decide) :
    s.tlpIn.rd f i = s.rd f i :=
  State.tlpIn_rd h (Fld.key_notin_tlpKeys hf hi ho)

theorem State.tlpIn_flag_block (h : s.Good True) (f : Fld) {i : Nat} (hi : i < 8192 := by omega)
    (hf : f.region.code ≠ 0 ∧ f.region.code < 11 := by decide) (ho : f.off < 0x1000000 ∧ f.lsb < 64 := by decide) :
    s.tlpIn.flag f i = s.flag f i :=
  congrArg (· != 0) (State.tlpIn_rd_block h f hi hf ho)

theorem State.rd_bump_same (h : s.Good True) (f : Fld) (i j n : Nat) :
    (s.bump f i j n).rd f i j = min (2 ^ f.width - 1) (s.rd f i j + n) := by
  unfold State.bump
  rw [State.rd_wr_same (h.regs trivial)]
  have : 0 < 2 ^ f.width := Nat.two_pow_pos _
  exact Nat.mod_eq_of_lt (by unfold satAdd; omega)

theorem Held.bump {keys : List Nat} {f : Fld} {i j n : Nat} (h : Held keys s t) (hk : f.key i j ∈ keys)
    (hf : f.region.code ≠ 0 := by decide) : Held keys s (t.bump f i j n) :=
  h.wr hk hf

theorem Held.setFlag {keys : List Nat} {f : Fld} {b : Bool} {i j : Nat} (h : Held keys s t) (hk : f.key i j ∈ keys)
    (hf : f.region.code ≠ 0 := by decide) : Held keys s (t.setFlag f b i j) :=
  h.wr hk hf

/-- With the device working a register access is its action after the TLP's arrival. -/
theorem State.access_next {c : Instr} (f : State → State) (hw : s.working = true) (e : exec c s = s.access f)
    (h : f s.tlpIn = t) : exec c s = .next t := by
  rw [e, State.access, if_pos hw, h]

theorem Idle.access {c : Instr} (f : State → State) (hw : s.working = false) (e : exec c s = s.access f) : Idle c s :=
  e.trans (by rw [State.access, if_neg (by simp [hw])])

theorem Does.imp {c : Instr} {keys : List Nat} {P Q : State → Prop} (h : Does c s keys P) (hpq : ∀ t, P t → Q t) :
    Does c s keys Q := by
  obtain ⟨t, e, hp, hk⟩ := h
  exact ⟨t, e, hpq t hp, hk⟩

theorem Does.access {c : Instr} {keys : List Nat} {P : State → Prop} (f : State → State) (hs : s.Good True)
    (hw : s.working = true) (e : exec c s = s.access f) (h : f s.tlpIn = t) (hf : Held keys s.tlpIn t) (hp : P t)
    (hsub : tlpKeys ⊆ keys := by simp) : Does c s keys P :=
  (((Held.tlpIn hs).mono hsub).trans hf).does (State.access_next f hw e h) hp

end

section
variable {s : State} {f g : Fld} {i j k o v : Nat} {r : Region}

/-! ### A word written to a register -/

theorem Fld.key_eq (f : Fld) (i : Nat) : f.key i 0 = f.key 0 0 + i * 2 ^ 30 := by
  unfold Fld.key
  omega

/-- Fields apart in one block of a kind are apart in each. -/
theorem State.rd_wr_ne (h : s.Good True) (f g : Fld) (v i : Nat) (hk : g.key 0 0 ≠ f.key 0 0 := by decide) :
    (s.wr f v i).rd g i = s.rd g i :=
  State.rd_wr_other (h.regs trivial) v i 0 i 0 (by rw [g.key_eq, f.key_eq]; omega)

theorem State.wr_mod {v w : Nat} (h : v % 2 ^ f.width = w % 2 ^ f.width) : s.wr f v i j = s.wr f w i j := by
  simp only [State.wr, h]

theorem setBitsAt_zero_mod (x y w : Nat) : setBitsAt x 0 w y % 2 ^ w = y % 2 ^ w := by
  have e : x - x % 2 ^ w = 2 ^ w * (x / 2 ^ w) := by have := Nat.div_add_mod x (2 ^ w); omega
  simp only [setBitsAt, bitsAt, Nat.pow_zero, Nat.div_one, Nat.mul_one, e, Nat.mul_add_mod, Nat.mod_mod]

/-- What the word written does to one field. -/
def State.pokeAt (s : State) (f : Fld) (i o v : Nat) : State :=
  let s := match f.at? o with | some j => s.pokeFld f i j v false | none => s
  if o < 4 then s else match f.at? (o - 4) with | some j => s.pokeFld f i j v true | none => s

/-- The field has bits in the word at `o`. -/
def Fld.inWord (f : Fld) (o : Nat) : Bool :=
  (f.at? o).isSome || (decide (4 ≤ o) && (f.at? (o - 4)).isSome && decide (32 < f.lsb + f.width))

theorem State.pokeAt_of_not_inWord (h : f.inWord o = false) : s.pokeAt f i o v = s := by
  simp only [Fld.inWord, Bool.or_eq_false_iff, Bool.and_eq_false_iff, Option.isSome_eq_false_iff, Option.isNone_iff_eq_none,
    decide_eq_false_iff_not] at h
  obtain ⟨hlo, hhi⟩ := h
  unfold State.pokeAt
  simp only [hlo]
  split
  · rfl
  · split
    · rename_i hs
      have hw : ¬ 32 < f.lsb + f.width := by
        rcases hhi with (hhi | hhi) | hhi
        · omega
        · simp [hhi] at hs
        · exact hhi
      unfold State.pokeFld
      rw [if_pos rfl]
      extract_lets lo top
      exact if_pos (by omega)
    · rfl

/-- A word written reaches the fields with bits in it, one after another. -/
theorem State.poke_eq (s : State) (r : Region) (i o v : Nat) :
    s.poke r i o v = ((fldsOf r i).filter fun f => f.inWord o).foldl (fun s f => s.pokeAt f i o v) s := by
  rw [List.foldl_filter]
  unfold State.poke
  congr
  funext s f
  by_cases h : f.inWord o = true
  · rw [if_pos h]
    rfl
  · rw [if_neg h]
    exact State.pokeAt_of_not_inWord (by simpa using h)

/-- A field that a 32-bit register at `o` takes from the word as it stands. -/
def Fld.plainAt (f : Fld) (o : Nat) : Prop := f.acc = .rw ∧ f.off = o ∧ f.copies ≤ 1 ∧ 0 < f.width ∧ f.lsb + f.width ≤ 32

theorem State.pokeFld_plain (s : State) (i v : Nat) (hf : f.plainAt o) :
    s.pokeFld f i 0 v false = s.wr f (bitsAt v f.lsb f.width) i := by
  obtain ⟨hacc, -, -, hw, hl⟩ := hf
  unfold State.pokeFld
  extract_lets base lo top x old
  have hlo : lo = f.lsb := by simp [lo, base]
  have htop : top = f.lsb + f.width := by simp only [top, base]; simp; omega
  rw [if_neg (by omega)]
  simp only [hacc]
  apply State.wr_mod
  simp only [x, hlo, htop, Nat.sub_self, Nat.add_sub_cancel_left, base]
  exact setBitsAt_zero_mod ..

theorem State.pokeAt_plain (s : State) (i v : Nat) (hf : f.plainAt o) :
    s.pokeAt f i o v = s.wr f (bitsAt v f.lsb f.width) i := by
  have hp := s.pokeFld_plain i v hf
  obtain ⟨-, ho, hc, -, -⟩ := hf
  have e : f.at? o = some 0 := by simp [Fld.at?, ho, hc]
  unfold State.pokeAt
  simp only [e, hp]
  split
  · rfl
  · have e' : f.at? (o - 4) = none := by simp [Fld.at?]; omega
    rw [e']

/-- A register of plain fields takes the word field by field. -/
theorem State.poke_plain {l : List Fld} (s : State) (v : Nat) (hl : ((fldsOf r i).filter fun f => f.inWord o) = l)
    (hf : ∀ f ∈ l, f.plainAt o) : s.poke r i o v = l.foldl (fun s f => s.wr f (bitsAt v f.lsb f.width) i) s := by
  rw [State.poke_eq, hl]
  exact List.foldl_ext _ _ _ fun s f h => s.pokeAt_plain i v (hf f h)

theorem State.Good.wrFlds {full : Prop} {x : Fld → Nat} {l : List Fld} (h : s.Good full) :
    (l.foldl (fun s f => s.wr f (x f) i) s).Good full :=
  h.foldl fun h => h.wr

theorem Held.wrFlds {keys : List Nat} {t : State} {x : Fld → Nat} {l : List Fld} (h : Held keys s t)
    (hk : ∀ f ∈ l, f.key i 0 ∈ keys) (hf : ∀ f ∈ l, f.region.code ≠ 0) :
    Held keys s (l.foldl (fun s f => s.wr f (x f) i) t) := by
  induction l generalizing t with
  | nil => exact h
  | cons f l ih =>
    obtain ⟨hkf, hkl⟩ := List.forall_mem_cons.mp hk
    obtain ⟨hff, hfl⟩ := List.forall_mem_cons.mp hf
    exact ih (h.wr hkf hff) hkl hfl

theorem State.rd_wrFlds_other {x : Fld → Nat} {l : List Fld} (h : s.Good True) (hg : ∀ f ∈ l, g.key 0 0 ≠ f.key 0 0) :
    (l.foldl (fun s f => s.wr f (x f) i) s).rd g i = s.rd g i := by
  induction l generalizing s with
  | nil => rfl
  | cons f l ih =>
    obtain ⟨hf, hl⟩ := List.forall_mem_cons.mp hg
    exact (ih h.wr hl).trans (State.rd_wr_ne h f g _ _ hf)

/-- Of fields written one after another, each reads back its value. -/
theorem State.rd_wrFlds {x : Fld → Nat} {l : List Fld} (h : s.Good True) (hl : l.Pairwise fun f g => f.key 0 0 ≠ g.key 0 0)
    (hg : g ∈ l) : (l.foldl (fun s f => s.wr f (x f) i) s).rd g i = x g % 2 ^ g.width := by
  induction l generalizing s with
  | nil => exact absurd hg (List.not_mem_nil)
  | cons f l ih =>
    obtain ⟨hf, hl⟩ := List.pairwise_cons.mp hl
    rcases List.mem_cons.mp hg with rfl | hg
    · exact (State.rd_wrFlds_other h.wr hf).trans (State.rd_wr_same (h.regs trivial) ..)
    · exact ih h.wr hl hg
end

/-! ### Firings and violations -/

section
variable {s t : State} {keys : List Nat} {k n off : Nat}

theorem State.fireFree_eq (s : State) (hk : srcReserved k = false) :
    s.fireFree k = { s with freeCtr := (s.fireFree k).freeCtr, beacon := (s.fireFree k).beacon } := by
  have e : s.fireFree k =
      s.draw.draw.setSource k ((s.draw.draw.source k).merge (s.drawn % 256) s.draw.drawn s.draw.draw.stamp 1 false) :=
    if_neg (by simp [hk])
  rw [e]
  rfl

theorem State.rd_fireFree (s : State) (hk : srcReserved k = false) (f : Fld) (i j : Nat) :
    (s.fireFree k).rd f i j = s.rd f i j := by
  rw [State.rd, s.fireFree_eq hk]
  rfl

theorem Held.fireFree (h : Held keys s t) (hk : srcReserved k = false) : Held keys s (t.fireFree k) :=
  h.step h.good.fireFree (by rw [t.fireFree_eq hk]) (by rw [t.fireFree_eq hk])

theorem srcReserved_violation (hn : n < 16) : srcReserved (736 + n) = false := by
  simp only [srcReserved, decide_eq_false_iff_not]
  omega

theorem Held.violation (h : Held keys s t) (hn : n < 16) (hc : SES_VIOL_VIOL_COUNT.key n 0 ∈ keys)
    (ho : SES_VIOL_VIOL_OFFSET.key n 0 ∈ keys) : Held keys s (t.violation n off) :=
  .fireFree (.wr (.bump h hc) ho) (srcReserved_violation hn)

theorem State.violation_eq (s : State) (hn : n < 16) :
    s.violation n off = { s with
      regs := ((s.bump SES_VIOL_VIOL_COUNT n).wr SES_VIOL_VIOL_OFFSET (off / 16) n).regs
      freeCtr := (s.violation n off).freeCtr
      beacon := (s.violation n off).beacon } := by
  unfold State.violation
  rw [State.fireFree_eq _ (srcReserved_violation hn)]
  rfl

theorem State.rd_violation_offset (h : s.Good True) (hn : n < 16) :
    (s.violation n off).rd SES_VIOL_VIOL_OFFSET n = off / 16 % 2 ^ 16 := by
  exact (State.rd_fireFree _ (srcReserved_violation hn) ..).trans (State.rd_wr_same (h.bump.regs trivial) ..)

end

/-! ### Resets of registers -/

theorem smGet_filter_key {α : Type} (d : α) {m : SMap α} (h : smSorted m = true) (p : Nat → Bool) (x : Nat) :
    smGet d (m.filter fun e => p e.1) x = if p x then smGet d m x else d := by
  induction m with
  | nil => simp [smGet]
  | cons e m ih =>
    obtain ⟨k, v⟩ := e
    have hm := smSorted_head h
    have ih := ih (smSorted_tail h)
    have below (hx : x ≤ k) : smGet d m x = d := smGet_below d fun a ha => hx.trans_lt (hm a ha)
    rcases lt_trichotomy x k with hx | rfl | hx
    · have hn : x ≠ k := hx.ne
      by_cases hp : p k <;> simp [hp, smGet, hx, hn, ih, below hx.le]
    · by_cases hp : p x <;> simp [hp, smGet, ih]
    · have hn : x ≠ k := hx.ne'
      by_cases hp : p k <;> simp [hp, smGet, hn, hx.not_gt, ih]

/-- A reset with Survives code `c` that reaches the blocks `reach` names leaves the field at key `k`. -/
def resetKeeps (c : Nat) (reach : Nat → Nat → Bool) (k : Nat) : Bool :=
  !reach (keyRegion k) (keyInstance k) || (keyFld? k).any fun f => f.survives (c + svFixed)

theorem State.resetRegs_eq (s : State) (c : Nat) (reach : Nat → Nat → Bool) :
    s.resetRegs c reach = { s with regs := s.regs.filter fun e => resetKeeps c reach e.1 } := by
  unfold State.resetRegs resetKeeps
  congr
  funext e
  cases keyFld? e.1 <;> rfl

theorem State.rd_resetRegs {s : State} (h : s.Good True) (c : Nat) (reach : Nat → Nat → Bool) (f : Fld) (i j : Nat) :
    (s.resetRegs c reach).rd f i j = if resetKeeps c reach (f.key i j) then s.rd f i j else f.reset := by
  rw [State.resetRegs_eq]
  exact smGet_filter_key f.reset (h.regs trivial) (resetKeeps c reach) _

theorem resetKeeps_frState (i : Fin 24) :
    resetKeeps svSL (fun r j => r = 3 && [i.val].contains j) (FR_STAT_STATE.key i 0) = false := by
  revert i
  decide +kernel

end Sys2Proof.Machine

end

section
/-! # The rows that name a register's action -/

namespace Sys2Proof.Machine

open Reg

set_option Elab.async false

def hsReports : List Fld := [HS_RPT0_CTLE, HS_RPT0_DFE1, HS_RPT0_DFE2, HS_RPT0_VGA, HS_RPT1_EYE_H, HS_RPT1_EYE_W]

def insFlds : List Fld := [OV_INS_LAYER, OV_INS_ITEM, OV_INS_MODE, OV_INS_MAN, OV_INS_EXP, OV_INS_COUNT]

theorem insFlds_eq (i : Fin 24) : (fldsOf .slice i).filter (fun f => f.inWord 0x290) = insFlds := by
  revert i
  decide +kernel

/-- The word that OV_INS takes. -/
def insWord (layer item mode man exp count : Nat) : Nat :=
  layer + item * 2 ^ 4 + mode * 2 ^ 12 + man * 2 ^ 14 + exp * 2 ^ 18 + count * 2 ^ 22

theorem insWord_fields {layer item mode man exp count : Nat} (hl : layer < 16) (hi : item < 256)
    (hm : mode < 4) (hn : man < 16) (he : exp < 16) (hc : count < 1024) :
    let v := insWord layer item mode man exp count
    bitsAt v 0 4 % 2 ^ 4 = layer ∧ bitsAt v 4 8 % 2 ^ 8 = item ∧ bitsAt v 12 2 % 2 ^ 2 = mode ∧ bitsAt v 14 4 % 2 ^ 4 = man ∧
      bitsAt v 18 4 % 2 ^ 4 = exp ∧ bitsAt v 22 10 % 2 ^ 10 = count := by
  simp only [bitsAt, insWord]
  omega

theorem State.flag_setFlag {s : State} {f : Fld} {i j : Nat} {on : Bool} (h : s.Good True) (hf : f.width = 1) :
    (s.setFlag f on i j).flag f i j = on := by
  unfold State.flag State.setFlag
  rw [State.rd_wr_same (h.regs trivial), hf]
  cases on <;> rfl

/-! ### Helms -/

section
variable {s : State} (hs : s.Good True) (hw : s.working = true)
include hs hw

theorem does_imemWrite_bound {h : Fin 32} {a : Fin 4096} {v : Word} (hb : (s.helm h).ps.bound = true) :
    Does (.imemWrite h a v) s (HM_STAT_WR_IGN.key h 0 :: tlpKeys) fun t =>
      t.helms = s.helms ∧ t.rd HM_STAT_WR_IGN h = min 255 (s.rd HM_STAT_WR_IGN h + 1) := by
  have e : s.tlpIn.imemWrite h a v.toNat = s.tlpIn.bump HM_STAT_WR_IGN h := by
    simp only [State.imemWrite, State.tlpIn_helm, hb, if_true]
  refine .access (fun s => s.imemWrite h a v.toNat) hs hw rfl e ((Held.refl hs.tlpIn).bump (List.mem_cons_self ..)) ⟨s.tlpIn_helms, ?_⟩
  rw [State.rd_bump_same hs.tlpIn, State.tlpIn_rd_block hs HM_STAT_WR_IGN]
  rfl

theorem does_imemWrite {h : Fin 32} {a : Fin 4096} {v : Word} (hb : (s.helm h).ps.bound = false) :
    Does (.imemWrite h a v) s tlpKeys fun t =>
      smGet 0 (t.helm h).imem a = v ∧ (∀ b : Fin 4096, b ≠ a → smGet 0 (t.helm h).imem b = smGet 0 (s.helm h).imem b) ∧
        ∀ k : Fin 32, k ≠ h → t.helm k = s.helm k := by
  have hi : smSorted (s.helm h).imem = true := hs.helm.imem trivial
  have hh : smSorted s.tlpIn.helms = true := hs.tlpIn.helms trivial
  have e : s.tlpIn.imemWrite h a v.toNat = s.tlpIn.setHelm h { s.helm h with imem := smSet 0 (s.helm h).imem a v } := by
    simp [State.imemWrite, hb]
  refine .access (fun s => s.imemWrite h a v.toNat) hs hw rfl e
    ((Held.refl hs.tlpIn).step (hs.tlpIn.setHelm (.withImage hs.helm hs.helm.imem.set)) rfl rfl) ?_
  rw [State.helm_setHelm_same hh]
  refine ⟨smGet_smSet_same 0 hi .., fun b hb => smGet_smSet_other 0 hi _ (by omega), fun k hk => ?_⟩
  rw [State.helm_setHelm_other hh _ (by omega), State.tlpIn_helm]

/-! ### Slices -/

theorem does_adaptFreeze {i : Fin 24} {on : Bool} :
    Does (.adaptFreeze i on) s (tlpKeys ++ [ADAPT_CTL_FREEZE.key i 0]) fun t => t.flag ADAPT_CTL_FREEZE i = on :=
  .access (fun s => s.setFlag ADAPT_CTL_FREEZE on i) hs hw rfl rfl ((Held.refl hs.tlpIn).setFlag (by simp))
    (State.flag_setFlag hs.tlpIn rfl)

theorem does_adaptSnap_lp {i : Fin 24} (hi : 8 ≤ i.val) :
    Does (.adaptSnap i) s (tlpKeys ++ [LP_RPT_EQ_GAIN.key i 0, LP_RPT_PEAK.key i 0]) fun t =>
      t.rd LP_RPT_EQ_GAIN i = (s.line i).live.getD 0 0 % 1024 ∧ t.rd LP_RPT_PEAK i = (s.line i).live.getD 1 0 % 1024 := by
  have e : s.tlpIn.report i =
      (s.tlpIn.wr LP_RPT_EQ_GAIN ((s.line i).live.getD 0 0) i).wr LP_RPT_PEAK ((s.line i).live.getD 1 0) i := by
    simp only [State.report, State.tlpIn_line, if_neg (show ¬ i.val < 8 by omega)]
  have h1 : (s.tlpIn.wr LP_RPT_EQ_GAIN ((s.line i).live.getD 0 0) i).Good True := hs.tlpIn.wr
  exact .access (fun s => s.report i) hs hw rfl e (((Held.refl hs.tlpIn).wr (by simp)).wr (by simp))
    ⟨(State.rd_wr_ne h1 LP_RPT_PEAK LP_RPT_EQ_GAIN ..).trans (State.rd_wr_same (hs.tlpIn.regs trivial) ..),
      State.rd_wr_same (h1.regs trivial) ..⟩

omit hs hw in
/-- The report registers of an HS slice, in the order of the coefficients. -/
theorem State.report_hs {i : Nat} (s : State) (hi : i < 8) :
    s.report i = hsReports.foldl (fun t f => t.wr f ((s.line i).live.getD (hsReports.idxOf f) 0) i) s := by
  unfold State.report
  rw [if_pos hi]
  rfl

theorem doesWide_adaptSnap_hs {i : Fin 24} (hi : i.val < 8) : DoesWide (.adaptSnap i) s fun t =>
    t.rd HS_RPT0_CTLE i = (s.line i).live.getD 0 0 % 16 ∧ t.rd HS_RPT0_DFE1 i = (s.line i).live.getD 1 0 % 64 ∧
      t.rd HS_RPT1_EYE_H i = (s.line i).live.getD 4 0 % 4096 := by
  have hd : hsReports.Pairwise fun f g => f.key 0 0 ≠ g.key 0 0 := by decide
  have e : s.tlpIn.report i =
      hsReports.foldl (fun t f => t.wr f ((s.line i).live.getD (hsReports.idxOf f) 0) i) s.tlpIn := by
    simp only [State.report_hs _ hi, State.tlpIn_line]
  refine ⟨_, State.access_next (fun s => s.report i) hw rfl e, ⟨?_, ?_, ?_⟩, s.tlpIn_mem⟩
  · exact State.rd_wrFlds hs.tlpIn hd (by decide)
  · exact State.rd_wrFlds hs.tlpIn hd (by decide)
  · exact State.rd_wrFlds hs.tlpIn hd (by decide)

/-! ### Insertion and forcing -/

theorem does_ovIns {c : Instr} {i : Fin 24} {layer item mode man exp count : Nat}
    (e : exec c s = s.access fun s => s.ovIns i layer item mode man exp count) (hl : layer < 16) (hi : item < 256)
    (hm : mode < 4) (hn : man < 16) (he : exp < 16) (hc : count < 1024) :
    Does c s (tlpKeys ++ [OV_INS_LAYER.key i 0, OV_INS_ITEM.key i 0, OV_INS_MODE.key i 0, OV_INS_MAN.key i 0, OV_INS_EXP.key i 0,
        OV_INS_COUNT.key i 0]) fun t =>
      t.rd OV_INS_LAYER i = layer ∧ t.rd OV_INS_ITEM i = item ∧ t.rd OV_INS_MODE i = mode ∧ t.rd OV_INS_MAN i = man ∧
        t.rd OV_INS_EXP i = exp ∧ t.rd OV_INS_COUNT i = count ∧ (t.ovh i).insLeft = 0 := by
  have hd : insFlds.Pairwise fun f g => f.key 0 0 ≠ g.key 0 0 := by decide
  have hv := insWord_fields hl hi hm hn he hc
  generalize hword : insWord layer item mode man exp count = v at hv
  have h0 := hs.tlpIn
  have hp := s.tlpIn.poke_plain v (insFlds_eq i) (by simp only [Fld.plainAt]; decide)
  generalize ht : s.tlpIn.poke .slice i 0x290 v = t at hp
  have hg : t.Good True := ht ▸ h0.poke
  have hr {f : Fld} (h : f ∈ insFlds) : t.rd f i = bitsAt v f.lsb f.width % 2 ^ f.width := hp ▸ State.rd_wrFlds h0 hd h
  have hh : Held (tlpKeys ++ [OV_INS_LAYER.key i 0, OV_INS_ITEM.key i 0, OV_INS_MODE.key i 0, OV_INS_MAN.key i 0,
      OV_INS_EXP.key i 0, OV_INS_COUNT.key i 0]) s.tlpIn t := by
    rw [hp]
    exact (Held.refl h0).wrFlds (by simp [insFlds]) (by decide)
  have e' : s.tlpIn.ovIns i layer item mode man exp count = t.setOvh i { t.ovh i with insLeft := 0 } := by
    subst hword ht
    rfl
  obtain ⟨rfl, rfl, rfl, rfl, rfl, rfl⟩ := hv
  exact .access _ hs hw e e' (hh.step (.setOvh hg hg.ovh.update) rfl rfl)
    ⟨hr (by decide), hr (by decide), hr (by decide), hr (by decide), hr (by decide), hr (by decide),
      by rw [State.ovh_setOvh_same (hg.ovhs trivial)]⟩

theorem does_force {c : Instr} {i : Fin 24} {layer : Fin 16} {on : Bool} (f : Fld)
    (e : exec c s = s.access fun s => s.force i f layer on)
    (hf : f.region.code ≠ 0 ∧ f.width = 1 ∧ OV_FORCE_LAYER.key 0 0 ≠ f.key 0 0 := by decide) :
    Does c s (tlpKeys ++ [OV_FORCE_LAYER.key i 0, f.key i 0]) fun t => t.rd OV_FORCE_LAYER i = layer ∧ t.flag f i = on := by
  obtain ⟨hc, hb, hk⟩ := hf
  have h1 : (s.tlpIn.wr OV_FORCE_LAYER layer i).Good True := hs.tlpIn.wr
  refine .access _ hs hw e rfl (((Held.refl hs.tlpIn).wr (by simp)).setFlag (by simp) hc) ⟨?_, ?_⟩
  · refine (State.rd_wr_ne h1 f OV_FORCE_LAYER _ _ hk).trans ((State.rd_wr_same (hs.tlpIn.regs trivial) ..).trans ?_)
    exact Nat.mod_eq_of_lt layer.isLt
  · exact State.flag_setFlag h1 hb

end

section
variable {s : State} (hs : s.Good True) (hw : s.working = true)
include hs hw

omit hw in
theorem State.tlpIn_fmt {i : Nat} (hi : i < 24) : s.tlpIn.fmt i = s.fmt i :=
  State.tlpIn_rd_block hs LINE_STAT_FORMAT

omit hw in
theorem State.tlpIn_groupLead? {i : Nat} (hi : i < 24) : s.tlpIn.groupLead? i = s.groupLead? i := by
  unfold State.groupLead?
  rw [State.tlpIn_fmt hs (by omega)]

omit hs hw in
/-- The reset of an IDLE slice that is in no group, with no operation that it could end. -/
theorem State.sliceReset_idle {i : Nat} (hl : s.rd LINE_STAT_LSTATE i = 0) (hg : s.groupLead? i = none)
    (hb : fmtBonded (s.fmt i) = false) (ho : ∀ o ∈ s.ops, o.opcode ≠ 0x10 ∧ o.opcode ≠ 0x12) :
    let t := s.resetRegs svSL fun r j => r = 3 && [i].contains j
    s.sliceReset i = t.setOvh i { t.ovh i with latch := 0, insLeft := 0, insEvery := 0 } := by
  have e : (s.ops.filter fun o => (o.opcode = 0x10 || o.opcode = 0x12) && o.live && [i].any fun j => o.onSlice j) = [] := by
    refine List.filter_eq_nil_iff.mpr fun o h => ?_
    obtain ⟨h1, h2⟩ := ho o h
    simp [h1, h2]
  have hgr : s.group i = [i] := by simp [State.group, groupOf, hb]
  unfold State.sliceReset
  simp only [hg, Option.getD_none, hgr]
  rw [e, List.foldl_nil, if_pos hl]
  rfl

theorem doesWide_sliceReset {i : Fin 24} (hl : s.rd LINE_STAT_LSTATE i = 0) (hg : s.groupLead? i = none)
    (hb : fmtBonded (s.fmt i) = false) (ho : ∀ o ∈ s.ops, o.opcode ≠ 0x10 ∧ o.opcode ≠ 0x12) :
    DoesWide (.sliceReset i) s fun t => t.rd LINE_STAT_LSTATE i = 0 ∧ t.rd FR_STAT_STATE i = FR_STAT_STATE.reset ∧
      (t.ovh i).latch = 0 := by
  have hu := hs.tlpIn
  have hl' : s.tlpIn.rd LINE_STAT_LSTATE i = 0 := (State.tlpIn_rd_block hs LINE_STAT_LSTATE).trans hl
  have e := State.sliceReset_idle hl' ((State.tlpIn_groupLead? hs i.isLt).trans hg)
    ((congrArg fmtBonded (State.tlpIn_fmt hs i.isLt)).trans hb) (by simpa using ho)
  dsimp only at e
  generalize ht : s.tlpIn.resetRegs svSL (fun r j => r = 3 && [i.val].contains j) = t at e
  have hr := State.rd_resetRegs hu svSL (fun r j => r = 3 && [i.val].contains j)
  rw [ht] at hr
  refine ⟨_, State.access_next (fun s => s.sliceReset i) hw rfl e, ⟨?_, ?_, ?_⟩, ?_⟩
  · refine (hr LINE_STAT_LSTATE i 0).trans ?_
    rw [hl']
    exact ite_self _
  · exact (hr FR_STAT_STATE i 0).trans (if_neg (by simp only [resetKeeps_frState i, Bool.false_eq_true, not_false_eq_true]))
  · rw [State.ovh_setOvh_same (by rw [← ht]; exact hu.ovhs trivial)]
  · rw [← s.tlpIn_mem, ← ht]
    rfl

/-! ### The loop flag of an LP slice -/

theorem does_loopPendingClear_not {i : Fin 16} (hp : s.flag LP_LOOP_PENDING (8 + i) = false) :
    Does (.loopPendingClear i) s tlpKeys fun t => t.lines = s.lines := by
  have hf : s.tlpIn.flag LP_LOOP_PENDING (8 + i) = false := (State.tlpIn_flag_block hs LP_LOOP_PENDING (by omega)).trans hp
  have e : s.tlpIn.sliceWrite (8 + i) 0x20 1 = s.tlpIn := by simp [State.sliceWrite, hf]
  exact .access (fun s => s.sliceWrite (8 + i) 0x20 1) hs hw rfl e (.refl hs.tlpIn) s.tlpIn_lines (List.Subset.refl _)

theorem does_loopPendingClear {i : Fin 16} (hp : s.flag LP_LOOP_PENDING (8 + i) = true) :
    Does (.loopPendingClear i) s (tlpKeys ++ [LP_LOOP_PENDING.key (8 + i) 0, LP_LOOP_CONFIRMED.key (8 + i) 0]) fun t =>
      t.rd LP_LOOP_PENDING (8 + i) = 0 ∧ t.rd LP_LOOP_CONFIRMED (8 + i) = 0 := by
  have hu := hs.tlpIn
  have hf : s.tlpIn.flag LP_LOOP_PENDING (8 + i) = true := (State.tlpIn_flag_block hs LP_LOOP_PENDING (by omega)).trans hp
  have e : s.tlpIn.sliceWrite (8 + i) 0x20 1 = s.tlpIn.loopClear (8 + i) := by simp [State.sliceWrite, hf]
  have hk : srcReserved (64 + 8 * (8 + i.val) + 3) = false := by
    simp only [srcReserved, decide_eq_false_iff_not]
    omega
  have h1 : (s.tlpIn.wr LP_LOOP_PENDING 0 (8 + i)).Good True := hu.wr
  refine .access (fun s => s.sliceWrite (8 + i) 0x20 1) hs hw rfl e (.fireFree (((Held.refl hu).wr (by simp)).wr (by simp)) hk) ?_
  exact ⟨(State.rd_fireFree _ hk ..).trans ((State.rd_wr_ne h1 LP_LOOP_CONFIRMED LP_LOOP_PENDING ..).trans
    (State.rd_wr_same (hu.regs trivial) ..)), (State.rd_fireFree _ hk ..).trans (State.rd_wr_same (h1.regs trivial) ..)⟩

end

section
variable {s : State} (hs : s.Good True) (hw : s.working = true)
include hs hw

/-! ### Chutes -/

theorem does_cuAct_other {i : Instr} {c : Nat} (f : Chute → Chute) (e : exec i s = s.access fun s => s.cuAct c f)
    (hc : (s.chute c).consumer ≠ 3) : Does i s tlpKeys fun t => t.chutes = s.chutes := by
  have e' : s.tlpIn.cuAct c f = s.tlpIn := if_neg (by rwa [s.tlpIn_chute])
  exact .access _ hs hw e e' (.refl hs.tlpIn) s.tlpIn_chutes (List.Subset.refl _)

theorem does_cuAct {i : Instr} {c : Nat} (f : Chute → Chute) (e : exec i s = s.access fun s => s.cuAct c f)
    (hc : (s.chute c).consumer = 3) : Does i s tlpKeys fun t => t.chute c = f (s.chute c) := by
  have e' : s.tlpIn.cuAct c f = s.tlpIn.setChute c (f (s.chute c)) := by simp only [State.cuAct, State.tlpIn_chute, hc, if_true]
  exact .access _ hs hw e e' ((Held.refl hs.tlpIn).step hs.tlpIn.setChute rfl rfl)
    (State.chute_setChute_same (hs.tlpIn.chutes trivial) ..) (List.Subset.refl _)

theorem does_cuOwn_take {n : Fin 16} {c : Fin 64} (hc : (s.chute c).consumer = 0) :
    Does (.cuOwn n c true) s tlpKeys fun t => (t.chute c).consumer = 3 ∧ (t.chute c).conSess = n := by
  have e : s.tlpIn.cuOwn n c true = s.tlpIn.setChute c { s.chute c with consumer := 3, conSess := n } := by
    simp only [State.cuOwn, State.tlpIn_chute, hc, if_true]
  refine .access (fun s => s.cuOwn n c true) hs hw rfl e ((Held.refl hs.tlpIn).step hs.tlpIn.setChute rfl rfl) ?_
    (List.Subset.refl _)
  rw [State.chute_setChute_same (hs.tlpIn.chutes trivial)]
  exact ⟨rfl, rfl⟩

theorem does_cuOwn_give {n : Fin 16} {c : Fin 64} (hc : (s.chute c).consumer = 3) :
    Does (.cuOwn n c false) s tlpKeys fun t => (t.chute c).consumer = 0 := by
  have e : s.tlpIn.cuOwn n c false = s.tlpIn.setChute c { s.chute c with consumer := 0, conSess := 0 } := by
    simp [State.cuOwn, hc]
  refine .access (fun s => s.cuOwn n c false) hs hw rfl e ((Held.refl hs.tlpIn).step hs.tlpIn.setChute rfl rfl) ?_
    (List.Subset.refl _)
  rw [State.chute_setChute_same (hs.tlpIn.chutes trivial)]

theorem does_cuOwn_taken {n : Fin 16} {c : Fin 64} (hc : (s.chute c).consumer = 1 ∨ (s.chute c).consumer = 2) :
    Does (.cuOwn n c true) s (tlpKeys ++ [SES_VIOL_VIOL_COUNT.key n 0, SES_VIOL_VIOL_OFFSET.key n 0]) fun t =>
      t.chutes = s.chutes := by
  have h0 : (s.chute c).consumer ≠ 0 := by omega
  have h3 : (s.chute c).consumer ≠ 3 := by omega
  have e : s.tlpIn.cuOwn n c true = s.tlpIn.violation n (0xC + 0x100 * c) := by simp [State.cuOwn, h0, h3]
  refine .access (fun s => s.cuOwn n c true) hs hw rfl e ((Held.refl hs.tlpIn).violation n.isLt (by simp) (by simp)) ?_
  rw [State.violation_eq _ n.isLt]
  exact s.tlpIn_chutes

omit hs hw in
theorem State.tlpIn_holdsOwn {n c : Nat} : s.tlpIn.holdsOwn n c = s.holdsOwn n c := by
  simp only [State.holdsOwn, State.tlpIn_chute, State.tlpIn_ownerOf]

theorem does_cuPopTake_other {n : Fin 16} {c : Fin 64} (ho : s.holdsOwn n c = false) :
    Does (.cuPopTake n c) s tlpKeys fun t => t.out = s.out ++ [.readData n 0] ∧ t.chutes = s.chutes := by
  have e : s.tlpIn.popTake n c = (0, s.tlpIn) := if_neg (by simp [State.tlpIn_holdsOwn, ho])
  refine .access (fun s => let (v, s) := s.popTake n c; s.emit (.readData n v)) hs hw rfl (by rw [e])
    ((Held.refl hs.tlpIn).step hs.tlpIn.emit rfl rfl) ⟨?_, s.tlpIn_chutes⟩ (List.Subset.refl _)
  exact congrArg (· ++ _) s.tlpIn_out

omit hs hw in
theorem State.chuteTake_some (s : State) {c : Nat} {e : CEntry} (he : (s.chute c).held[(s.chute c).read]? = some e) :
    ∃ x, s.chuteTake c = (some e, s.setChute c x) := by
  unfold State.chuteTake
  simp only [he]
  exact ⟨_, rfl⟩

theorem does_cuPopTake {n : Fin 16} {c : Fin 64} {e : CEntry} (ho : s.holdsOwn n c = true)
    (he : (s.chute c).held[(s.chute c).read]? = some e) :
    Does (.cuPopTake n c) s tlpKeys fun t =>
      t.out = s.out ++ [.readData n (e.data % 2 ^ 32)] ∧ (t.chute c).pop = some e := by
  obtain ⟨x, hx⟩ := s.tlpIn.chuteTake_some (by rw [s.tlpIn_chute, he])
  have hu : (s.tlpIn.setChute c x).Good True := hs.tlpIn.setChute
  have e' : s.tlpIn.popTake n c =
      (e.data % 2 ^ 32, (s.tlpIn.setChute c x).setChute c { (s.tlpIn.setChute c x).chute c with pop := some e }) := by
    rw [State.popTake, if_pos (by rw [State.tlpIn_holdsOwn, ho]), hx]
  refine .access (fun s => let (v, s) := s.popTake n c; s.emit (.readData n v)) hs hw rfl (by rw [e'])
    ((Held.refl hs.tlpIn).step hu.setChute.emit rfl rfl) ⟨?_, ?_⟩ (List.Subset.refl _)
  · exact congrArg (· ++ _) s.tlpIn_out
  · exact congrArg Chute.pop (State.chute_setChute_same (hu.chutes trivial) ..)

theorem does_cuHackWrite {c : Fin 64} {v : Word} :
    Does (.cuHackWrite c v) s (tlpKeys ++ [CU_HACK.key c 0]) fun t => t.rd CU_HACK c = v.toNat :=
  .access (fun s => s.wr CU_HACK v.toNat c) hs hw rfl rfl ((Held.refl hs.tlpIn).wr (by simp))
    ((State.rd_wr_same (hs.tlpIn.regs trivial) ..).trans (Nat.mod_eq_of_lt v.isLt))

/-! ### Points -/

omit hs hw in
theorem State.tlpIn_pmAttachCheck (s : State) (n p src sel : Nat) :
    s.tlpIn.pmAttachCheck n p src sel = s.pmAttachCheck n p src sel := by
  unfold State.pmAttachCheck State.watches State.rangeOf?
  simp only [State.tlpIn_ownerOf, State.tlpIn_own]

omit hs hw in
theorem bit31_of_lt {v : Nat} (h : v < 2 ^ 31) : v.testBit 31 = false := Nat.testBit_lt_two_pow h

omit hs hw in
theorem bit31_of_ge {v : Nat} (h : 2 ^ 31 ≤ v) (hv : v < 2 ^ 32) : v.testBit 31 = true := by
  rw [Nat.testBit_eq_decide_div_mod_eq, decide_eq_true_eq]
  omega

omit hs hw in
/-- PM_ATTACH with GO and without DETACH, in the words of its fields. -/
theorem State.pmAttachWrite_go {n p v : Nat} (h31 : v.testBit 31 = true) (h30 : v.testBit 30 = false) :
    s.pmAttachWrite n p v = if s.pmAttachCheck n p (v % 65536) (v / 65536 % 256) = 0 then
      s.pmAttach p (v % 65536) (v / 65536 % 256) else s.violation n (0xC + 0x80 * p) := by
  simp only [State.pmAttachWrite, h31, h30, bitsAt, doneOk, Nat.pow_zero, Nat.div_one, Nat.reducePow, Bool.not_true,
    Bool.false_eq_true, if_false]

theorem does_pmAttach_still {n : Fin 16} {p : Fin 2048} {v : Word} (hv : v.toNat < 2 ^ 31) :
    Does (.pmAttach n p v) s tlpKeys fun t => t.pm = s.pm := by
  have e : s.tlpIn.pmAttachWrite n p v.toNat = s.tlpIn := if_pos (by rw [bit31_of_lt hv]; rfl)
  exact .access (fun s => s.pmAttachWrite n p v.toNat) hs hw rfl e (.refl hs.tlpIn) s.tlpIn_pm (List.Subset.refl _)

omit hs hw in
theorem Held.pmAttach {keys : List Nat} {t : State} {p src sel : Nat} (h : Held keys s t)
    (hk : ∀ f ∈ [PM_CFG_SRC, PM_CFG_SEL, PM_CFG_ATTACHED, PM_CFG_ORPHANED], f.key p 0 ∈ keys) :
    Held keys s (t.pmAttach p src sel) := by
  have hr : Held keys s ((((t.wr PM_CFG_SRC src p).wr PM_CFG_SEL sel p).wr PM_CFG_ATTACHED 1 p).wr PM_CFG_ORPHANED 0 p) :=
    .wr (.wr (.wr (h.wr (hk _ (by simp))) (hk _ (by simp))) (hk _ (by simp))) (hk _ (by simp))
  exact hr.step h.good.pmAttach rfl rfl

omit hs hw in
theorem State.rd_pmAttach (s : State) (p src sel : Nat) (f : Fld) (i : Nat) : (s.pmAttach p src sel).rd f i =
    ((((s.wr PM_CFG_SRC src p).wr PM_CFG_SEL sel p).wr PM_CFG_ATTACHED 1 p).wr PM_CFG_ORPHANED 0 p).rd f i := rfl

theorem does_pmAttach {n : Fin 16} {p : Fin 2048} {v : Word} (hv : 2 ^ 31 ≤ v.toNat) (h30 : v.toNat.testBit 30 = false)
    (hc : s.pmAttachCheck n p (v.toNat % 65536) (v.toNat / 65536 % 256) = 0) :
    Does (.pmAttach n p v) s (tlpKeys ++ [PM_CFG_SRC.key p 0, PM_CFG_SEL.key p 0, PM_CFG_ATTACHED.key p 0, PM_CFG_ORPHANED.key p 0])
      fun t => t.flag PM_CFG_ATTACHED p = true ∧ t.rd PM_CFG_SRC p = v.toNat % 65536 := by
  generalize hsel : v.toNat / 65536 % 256 = sel at hc
  have e : s.tlpIn.pmAttachWrite n p v.toNat = s.tlpIn.pmAttach p (v.toNat % 65536) sel := by
    rw [State.pmAttachWrite_go (bit31_of_ge hv v.isLt) h30, State.tlpIn_pmAttachCheck, hsel, if_pos hc]
  have h0 := hs.tlpIn
  have h1 : (s.tlpIn.wr PM_CFG_SRC (v.toNat % 65536) p).Good True := h0.wr
  have h2 : ((s.tlpIn.wr PM_CFG_SRC (v.toNat % 65536) p).wr PM_CFG_SEL sel p).Good True := h1.wr
  have h3 : (((s.tlpIn.wr PM_CFG_SRC (v.toNat % 65536) p).wr PM_CFG_SEL sel p).wr PM_CFG_ATTACHED 1 p).Good True := h2.wr
  refine .access (fun s => s.pmAttachWrite n p v.toNat) hs hw rfl e ((Held.refl h0).pmAttach (by simp)) ⟨?_, ?_⟩
  · unfold State.flag
    rw [State.rd_pmAttach, State.rd_wr_ne h3 PM_CFG_ORPHANED PM_CFG_ATTACHED, State.rd_wr_same (h2.regs trivial)]
    rfl
  · rw [State.rd_pmAttach, State.rd_wr_ne h3 PM_CFG_ORPHANED PM_CFG_SRC, State.rd_wr_ne h2 PM_CFG_ATTACHED PM_CFG_SRC,
      State.rd_wr_ne h1 PM_CFG_SEL PM_CFG_SRC, State.rd_wr_same (h0.regs trivial)]
    exact Nat.mod_mod ..

theorem does_pmAttach_refused {n : Fin 16} {p : Fin 2048} {v : Word} (hv : 2 ^ 31 ≤ v.toNat)
    (h30 : v.toNat.testBit 30 = false) (hc : s.pmAttachCheck n p (v.toNat % 65536) (v.toNat / 65536 % 256) ≠ 0) :
    Does (.pmAttach n p v) s (tlpKeys ++ [SES_VIOL_VIOL_COUNT.key n 0, SES_VIOL_VIOL_OFFSET.key n 0]) fun t => t.pm = s.pm := by
  have e : s.tlpIn.pmAttachWrite n p v.toNat = s.tlpIn.violation n (0xC + 0x80 * p) := by
    rw [State.pmAttachWrite_go (bit31_of_ge hv v.isLt) h30, State.tlpIn_pmAttachCheck, if_neg hc]
  refine .access (fun s => s.pmAttachWrite n p v.toNat) hs hw rfl e
    ((Held.refl hs.tlpIn).violation n.isLt (by simp) (by simp)) ?_
  rw [State.violation_eq _ n.isLt]
  exact s.tlpIn_pm

omit hs hw in
theorem State.foldl_setPt (s : State) (l : List (Nat × PmPt)) (f : State → Nat × PmPt → PmPt) :
    ∃ m, l.foldl (fun s e => s.setPt e.1 (f s e)) s = { s with pm := m } := by
  induction l generalizing s with
  | nil => exact ⟨s.pm, rfl⟩
  | cons e l ih => exact ih (s.setPt e.1 (f s e))

omit hs hw in
theorem State.realign_eq (s : State) : s.realign = { s with pm := s.realign.pm, pmRolled := s.realign.pmRolled } := by
  unfold State.realign
  extract_lets mark t
  obtain ⟨m, hm⟩ := s.foldl_setPt s.pm fun s e => mark (s.pt e.1)
  rw [show t = { s with pm := m } from hm]

theorem does_pmAlignWrite {v : BitVec 64} :
    Does (.pmAlignWrite v) s (tlpKeys ++ [PM_ALIGN.key 0 0]) fun t => t.rd PM_ALIGN = v.toNat := by
  have hh : Held (tlpKeys ++ [PM_ALIGN.key 0 0]) s.tlpIn (s.tlpIn.wr PM_ALIGN v.toNat) := (Held.refl hs.tlpIn).wrKey (by simp)
  refine .access (fun s => (s.wr PM_ALIGN v.toNat).realign) hs hw rfl rfl
    (hh.step hh.good.realign (by rw [State.realign_eq]) (by rw [State.realign_eq])) ?_
  rw [State.realign_eq]
  exact (State.rd_wr_same (hs.tlpIn.regs trivial) ..).trans (Nat.mod_eq_of_lt v.isLt)

end

/-! ### The obligation -/

theorem idle_registerRows {s : State} (hw : s.working = false) :
    (∀ h a v, Idle (.imemWrite h a v) s) ∧ (∀ i, Idle (.adaptSnap i) s ∧ Idle (.sliceReset i) s) ∧
      (∀ c v, Idle (.cuHackWrite c v) s) ∧ ∀ v, Idle (.pmAlignWrite v) s :=
  ⟨fun h a v => .access (fun s => s.imemWrite h a v.toNat) hw rfl,
    fun i => ⟨.access (fun s => s.report i) hw rfl, .access (fun s => s.sliceReset i) hw rfl⟩,
    fun c v => .access (fun s => s.wr CU_HACK v.toNat c) hw rfl,
    fun v => .access (fun s => (s.wr PM_ALIGN v.toNat).realign) hw rfl⟩

/-- Settles O41: each row is its action after the arrival of the TLP, and writes what that action names. -/
theorem registerRowsWriteTheirFields : Obligations.RegisterRowsWriteTheirFields := by
  intro s hwf
  have hs : s.Good True := s.wf_iff.mp hwf
  refine ⟨idle_registerRows, fun hw => ⟨?helm, ?slice, ?loop, ?chute, ?point, fun v => does_pmAlignWrite hs hw⟩⟩
  case helm => exact fun h a v => ⟨does_imemWrite_bound hs hw, does_imemWrite hs hw⟩
  case slice =>
    refine fun i => ⟨fun layer item => ⟨?_, fun man exp => ?_, fun count => ?_⟩, fun layer on => ?_, fun on => does_adaptFreeze hs hw,
      does_adaptSnap_lp hs hw, doesWide_adaptSnap_hs hs hw, doesWide_sliceReset hs hw⟩
    · exact does_ovIns hs hw rfl layer.isLt item.isLt (by omega) (by omega) (by omega) (by omega)
    · exact does_ovIns hs hw rfl layer.isLt item.isLt (by omega) man.isLt exp.isLt (by omega)
    · exact does_ovIns hs hw rfl layer.isLt item.isLt (by omega) (by omega) (by omega) count.isLt
    · exact ⟨does_force hs hw OV_FORCE_AIS rfl, does_force hs hw OV_FORCE_RDI rfl, does_force hs hw OV_FORCE_UNEQ rfl,
        does_force hs hw OV_FORCE_LOF rfl, does_force hs hw OV_FORCE_LOS rfl, does_force hs hw OV_FORCE_LCK rfl,
        does_force hs hw OV_FORCE_LF rfl, does_force hs hw OV_FORCE_RF rfl⟩
  case loop => exact fun i => ⟨does_loopPendingClear_not hs hw, does_loopPendingClear hs hw⟩
  case chute =>
    intro n c x
    refine ⟨fun h => ?_, fun h => ⟨?_, ?_, ?_⟩, does_cuOwn_take hs hw, does_cuOwn_give hs hw, does_cuOwn_taken hs hw,
      does_cuPopTake_other hs hw, fun e => does_cuPopTake hs hw, fun v => does_cuHackWrite hs hw⟩
    · exact ⟨does_cuAct_other hs hw Chute.mark rfl h, does_cuAct_other hs hw Chute.rewind rfl h,
        does_cuAct_other hs hw Chute.release rfl h⟩
    · exact does_cuAct hs hw Chute.mark rfl h
    · exact does_cuAct hs hw Chute.rewind rfl h
    · refine (does_cuAct hs hw Chute.release rfl h).imp fun t ht => ?_
      rw [ht]
      exact ⟨rfl, rfl, rfl⟩
  case point =>
    exact fun n p v => ⟨does_pmAttach_still hs hw, does_pmAttach hs hw, does_pmAttach_refused hs hw⟩

end Sys2Proof.Machine

end

section
/-! # Reads and writes of the register fabric -/

namespace Sys2Proof.Machine

open Reg

set_option Elab.async false

/-! ### What the arrival of a TLP leaves open -/

section
variable {s t : State} {keys : List Nat}

theorem State.eDieOn_setDom (h : s.Good True) {d x : Nat} (hx : x ≤ 2) : (s.setDom d x).eDieOn = s.eDieOn := by
  have hd (v : Nat) : (s.wr KP_DOM v).rd KP_PWR_STAT_EDIE = s.rd KP_PWR_STAT_EDIE :=
    State.rd_wr_ne h KP_DOM KP_PWR_STAT_EDIE v 0
  have he {u : State} (hu : u.Good True) : (u.wr KP_PWR_STAT_EDIE x).rd KP_PWR_STAT_EDIE = x :=
    (State.rd_wr_same (hu.regs trivial) ..).trans (Nat.mod_eq_of_lt (lt_of_le_of_lt hx (by decide)))
  unfold State.setDom
  split
  · rfl
  · extract_lets s1 s2
    have h2 : s2.eDieOn = s.eDieOn := by
      unfold State.eDieOn
      by_cases hc : d = 0 ∧ s1.rd KP_PWR_STAT_EDIE ≤ 2
      · have hle : s.rd KP_PWR_STAT_EDIE ≤ 2 := by rw [← hd]; exact hc.2
        simp only [s2, if_pos hc, he (show s1.Good True from h.wr), hx, hle, decide_true, Bool.true_or]
      · simp only [s2, if_neg hc, s1, hd]
    exact (apply_ite State.eDieOn ..).trans ((ite_self _).trans h2)

theorem State.tlpIn_eDieOn (h : s.Good True) : s.tlpIn.eDieOn = s.eDieOn := by
  have hl : s.linkUsed.rd KP_PWR_STAT_EDIE = s.rd KP_PWR_STAT_EDIE := by
    unfold State.linkUsed
    extract_lets s1
    refine (apply_ite (fun s => State.rd s KP_PWR_STAT_EDIE) ..).trans ?_
    rw [State.rd_wr_ne h GL_LINK_STAT_LINK KP_PWR_STAT_EDIE, ite_self]
  unfold State.tlpIn
  split
  · rfl
  · unfold State.domRun
    rw [if_neg (by omega)]
    refine (State.eDieOn_setDom (Held.linkUsed h).good (by omega)).trans ?_
    unfold State.eDieOn
    rw [hl]

theorem State.tlpIn_ready (h : s.Good True) : s.tlpIn.ready = s.ready := by
  unfold State.ready State.flag
  rw [State.tlpIn_eDieOn h, State.tlpIn_rd h (by decide)]

theorem State.tlpIn_working (h : s.Good True) : s.tlpIn.working = s.working := by
  unfold State.working State.flag
  rw [State.tlpIn_ready h, State.tlpIn_rd h (by decide), s.tlpIn_health, s.tlpIn_boot]

@[simp] theorem State.tlpIn_fnEnabled (s : State) (n : Nat) : s.tlpIn.fnEnabled n = s.fnEnabled n := by rw [s.tlpIn_eq]; rfl
@[simp] theorem State.tlpIn_fn (s : State) (n : Nat) : s.tlpIn.fn n = s.fn n := by rw [s.tlpIn_eq]; rfl

theorem State.tlpIn_vfOpen (h : s.Good True) (n : Nat) : s.tlpIn.vfOpen n = s.vfOpen n := by
  unfold State.vfOpen
  rw [State.tlpIn_working h, s.tlpIn_fnEnabled, s.tlpIn_fn]

/-- With the device working PF0 reads the whole of its BAR, the K-die's mirror while the Tether is up. -/
theorem State.pf0Reads_of_working (hw : s.working = true) (a : Nat) :
    s.pf0Reads a = (decide (a < 0x600000) || s.flag KP_TETHER_UP) := by
  simp only [State.working, Bool.and_eq_true, Bool.not_eq_true', decide_eq_true_eq, Option.isNone_iff_eq_none] at hw
  obtain ⟨⟨⟨hr, hd⟩, hh⟩, hp⟩ := hw
  simp [State.pf0Reads, hr, hd, hh, hp]

/-! ### Commands that read and write any register -/

theorem State.readCmd_eq {n a v : Nat} (e : s.tlpIn.busRead n (a / 4 * 4) = (v, t)) :
    s.readCmd n a = t.emit (.readData n v) := by
  unfold State.readCmd
  dsimp only
  rw [e]

theorem does_readCmd {c : Instr} {n a v : Nat} {P : State → Prop} (hs : s.Good True) (ec : exec c s = .next (s.readCmd n a))
    (e : s.tlpIn.busRead n (a / 4 * 4) = (v, t)) (ht : Held keys s.tlpIn t) (hp : P (t.emit (.readData n v)))
    (hsub : tlpKeys ⊆ keys := by simp) : Does c s keys P :=
  (((Held.tlpIn hs).mono hsub).trans (ht.step ht.good.emit rfl rfl)).does
    (ec.trans (congrArg (fun t => (.next t : Res)) (State.readCmd_eq e))) hp

theorem does_registerWrite {n : Fin 16} {a : BitVec 26} {v : Word} {P : State → Prop} (hs : s.Good True)
    (e : s.tlpIn.busWrite n (a.toNat / 4 * 4) v.toNat = t) (ht : Held keys s.tlpIn t) (hp : P t)
    (hsub : tlpKeys ⊆ keys := by simp) : Does (.registerWrite n a v false) s keys P :=
  (((Held.tlpIn hs).mono hsub).trans ht).does (congrArg (fun t => (.next t : Res)) e) hp

end

/-! ### A word read -/

section
variable {s t : State} {r : Region} {i o : Nat} {l : List Fld}

theorem State.rd_emit (s : State) (x : Out) (f : Fld) (i j : Nat) : (s.emit x).rd f i j = s.rd f i j := rfl

/-- The fields of a register at `o`, which has no copies. -/
def fldsAt (r : Region) (i o : Nat) : List Fld := (fldsOf r i).filter fun f => f.at? o = some 0

theorem State.word_eq (s : State) (hl : fldsAt r i o = l) (hs : ∀ f ∈ fldsOf r i, (f.at? o).getD 0 = 0 := by decide +kernel)
    (hr : ∀ f ∈ l, f.acc ≠ .wo := by decide) : s.word r i o = l.foldl (fun w f => w + s.rd f i * 2 ^ f.lsb) 0 := by
  subst hl
  unfold State.word fldsAt
  rw [List.foldl_filter]
  refine List.foldl_ext _ _ _ fun w f hf => ?_
  rcases h : f.at? o with _ | j
  · simp
  · obtain rfl : j = 0 := by simpa [h] using hs f hf
    simp [hr f (List.mem_filter.mpr ⟨hf, by simp [h]⟩)]

theorem State.clearRc_eq (s : State) (lo hi : Nat) (hl : fldsAt r i o = l)
    (hs : ∀ f ∈ fldsOf r i, (f.at? o).getD 0 = 0 := by decide +kernel) : s.clearRc r i o lo hi =
      (l.filter fun f => f.acc = .rc ∧ f.lsb < hi ∧ lo < f.lsb + f.width).foldl (fun s f => s.wr f 0 i) s := by
  subst hl
  unfold State.clearRc fldsAt
  rw [List.foldl_filter, List.foldl_filter]
  refine List.foldl_ext _ _ _ fun s f hf => ?_
  rcases h : f.at? o with _ | j
  · simp
  · obtain rfl : j = 0 := by simpa [h] using hs f hf
    simp

theorem fldsAt_hostErr : fldsAt .glob 0 0x1C = [GL_HOST_ERR_CTO, GL_HOST_ERR_BADCPL, GL_HOST_ERR_UNEXP] := by
  decide +kernel

theorem fldsAt_snapTime : fldsAt .glob 0 0x12108 = [HL_SNAP_TIME] := by
  decide +kernel

/-- A register that no read latches. -/
theorem State.readReg_narrow (s : State) (n : Nat) (h : wideAt r i o = false) (h' : wideAt r i (o - 4) = false) :
    s.readReg n r i o true = (s.view r i o % 2 ^ 32, s.clearRc r i o 0 32) := by
  simp [State.readReg, h, h']

theorem State.readReg_wide (s : State) (n : Nat) (h : wideAt r i o = true) :
    s.readReg n r i o true = (s.view r i o % 2 ^ 32, { s.clearRc r i o 0 64 with
      hiLatch := smSet 0 (s.clearRc r i o 0 64).hiLatch (latchKey n r i o) (s.view r i o / 2 ^ 32 % 2 ^ 32 + 1) }) := by
  simp [State.readReg, h]

/-- The high word of a 64-bit register, which the read of its low word has latched. -/
theorem State.readReg_latched (s : State) (n : Nat) {h : Nat} (ho : 4 ≤ o) (hn : wideAt r i o = false)
    (hw : wideAt r i (o - 4) = true) (hl : smGet 0 s.hiLatch (latchKey n r i (o - 4)) = h + 1) :
    s.readReg n r i o true = (h, { s with hiLatch := smDel s.hiLatch (latchKey n r i (o - 4)) }) := by
  simp [State.readReg, hn, hw, ho, hl]

theorem State.pf0_busRead (s : State) {a : Nat} (hw : s.working = true) (ha : a < 0x600000)
    (hp : pf0Place a = .reg .glob 0 a) : s.busRead 0 a = s.readReg 0 .glob 0 a true := by
  have hr : s.pf0Reads a = true := by simp [State.pf0Reads_of_working hw, ha]
  simp [State.busRead, State.readPlace, hr, hp]

end

section
variable {s : State} (hs : s.Good True) (hw : s.working = true)
include hs hw

theorem does_rcRead_hostErr (h1 : s.rd GL_HOST_ERR_CTO < 256) (h2 : s.rd GL_HOST_ERR_BADCPL < 256)
    (h3 : s.rd GL_HOST_ERR_UNEXP < 256) :
    Does (.rcRead 0 0x1C) s (tlpKeys ++ [GL_HOST_ERR_CTO.key 0 0, GL_HOST_ERR_BADCPL.key 0 0, GL_HOST_ERR_UNEXP.key 0 0]) fun t =>
      t.out = s.out ++ [.readData 0 (s.rd GL_HOST_ERR_CTO + s.rd GL_HOST_ERR_BADCPL * 256 + s.rd GL_HOST_ERR_UNEXP * 65536)] ∧
      t.rd GL_HOST_ERR_CTO = 0 ∧ t.rd GL_HOST_ERR_BADCPL = 0 ∧ t.rd GL_HOST_ERR_UNEXP = 0 := by
  have hu := hs.tlpIn
  generalize hv : s.rd GL_HOST_ERR_CTO + s.rd GL_HOST_ERR_BADCPL * 256 + s.rd GL_HOST_ERR_UNEXP * 65536 = v
  have hview : s.tlpIn.view .glob 0 0x1C % 2 ^ 32 = v := by
    have hword : s.tlpIn.view .glob 0 0x1C = s.tlpIn.word .glob 0 0x1C := rfl
    rw [hword, State.word_eq _ fldsAt_hostErr]
    simp only [List.foldl_cons, List.foldl_nil]
    rw [State.tlpIn_rd hs (by decide), State.tlpIn_rd hs (by decide), State.tlpIn_rd hs (by decide)]
    simp only [GL_HOST_ERR_CTO, GL_HOST_ERR_BADCPL, GL_HOST_ERR_UNEXP] at *
    omega
  have hclear : s.tlpIn.clearRc .glob 0 0x1C 0 32 =
      ((s.tlpIn.wr GL_HOST_ERR_CTO 0).wr GL_HOST_ERR_BADCPL 0).wr GL_HOST_ERR_UNEXP 0 := State.clearRc_eq _ 0 32 fldsAt_hostErr
  have e : s.tlpIn.busRead 0 0x1C = (v, ((s.tlpIn.wr GL_HOST_ERR_CTO 0).wr GL_HOST_ERR_BADCPL 0).wr GL_HOST_ERR_UNEXP 0) := by
    rw [State.pf0_busRead _ (by rw [State.tlpIn_working hs, hw]) (by omega) rfl,
      State.readReg_narrow _ 0 (by decide +kernel) (by decide +kernel), hview, hclear]
  have g1 : (s.tlpIn.wr GL_HOST_ERR_CTO 0).Good True := hu.wr
  have g2 : ((s.tlpIn.wr GL_HOST_ERR_CTO 0).wr GL_HOST_ERR_BADCPL 0).Good True := g1.wr
  refine does_readCmd hs rfl e ((((Held.refl hu).wrKey (by simp)).wrKey (by simp)).wrKey (by simp)) ⟨?_, ?_, ?_, ?_⟩
  · exact congrArg (· ++ _) s.tlpIn_out
  · rw [State.rd_emit, State.rd_wr_ne g2 GL_HOST_ERR_UNEXP GL_HOST_ERR_CTO, State.rd_wr_ne g1 GL_HOST_ERR_BADCPL GL_HOST_ERR_CTO,
      State.rd_wr_same (hu.regs trivial), Nat.zero_mod]
  · rw [State.rd_emit, State.rd_wr_ne g2 GL_HOST_ERR_UNEXP GL_HOST_ERR_BADCPL, State.rd_wr_same (g1.regs trivial), Nat.zero_mod]
  · rw [State.rd_emit, State.rd_wr_same (g2.regs trivial), Nat.zero_mod]

/-- The read of +4 answers the high word that the function's last read of the low word has latched. -/
theorem does_rcRead_snapTimeHigh {h : Nat} (hl : smGet 0 s.hiLatch (latchKey 0 .glob 0 0x12108) = h + 1) :
    Does (.rcRead 0 0x1210C) s tlpKeys fun w => w.out = s.out ++ [.readData 0 h] := by
  have e : s.tlpIn.busRead 0 0x1210C = (h, { s.tlpIn with hiLatch := smDel s.tlpIn.hiLatch (latchKey 0 .glob 0 0x12108) }) := by
    rw [State.pf0_busRead _ (by rw [State.tlpIn_working hs, hw]) (by omega) rfl]
    exact State.readReg_latched _ 0 (by omega) (by decide +kernel) (by decide +kernel) (by rw [s.tlpIn_hiLatch]; exact hl)
  refine does_readCmd hs rfl e
    ((Held.refl hs.tlpIn).step (hs.tlpIn.withHiLatch hs.tlpIn.hiLatch.del) rfl rfl) ?_ (List.Subset.refl _)
  exact congrArg (· ++ _) s.tlpIn_out

theorem does_wideReadLow_snapTime (hb : s.rd HL_SNAP_TIME < 2 ^ 64) :
    Does (.wideReadLow 0 0x12108) s tlpKeys fun t =>
      t.out = s.out ++ [.readData 0 (s.rd HL_SNAP_TIME % 2 ^ 32)] ∧ t.working = true ∧
      smGet 0 t.hiLatch (latchKey 0 .glob 0 0x12108) = s.rd HL_SNAP_TIME / 2 ^ 32 + 1 := by
  have hu := hs.tlpIn
  have hview : s.tlpIn.view .glob 0 0x12108 = s.rd HL_SNAP_TIME := by
    have hword : s.tlpIn.view .glob 0 0x12108 = s.tlpIn.word .glob 0 0x12108 := rfl
    rw [hword, State.word_eq _ fldsAt_snapTime, ← State.tlpIn_rd hs (by decide)]
    simp [HL_SNAP_TIME]
  have hclear : s.tlpIn.clearRc .glob 0 0x12108 0 64 = s.tlpIn := State.clearRc_eq _ 0 64 fldsAt_snapTime
  have hhi : s.rd HL_SNAP_TIME / 2 ^ 32 % 2 ^ 32 = s.rd HL_SNAP_TIME / 2 ^ 32 := by omega
  have e : s.tlpIn.busRead 0 0x12108 = (s.rd HL_SNAP_TIME % 2 ^ 32, { s.tlpIn with
      hiLatch := smSet 0 s.tlpIn.hiLatch (latchKey 0 .glob 0 0x12108) (s.rd HL_SNAP_TIME / 2 ^ 32 + 1) }) := by
    rw [State.pf0_busRead _ (by rw [State.tlpIn_working hs, hw]) (by omega) rfl, State.readReg_wide _ 0 (by decide +kernel),
      hclear, hview, hhi]
  refine does_readCmd hs rfl e ((Held.refl hu).step (hu.withHiLatch hu.hiLatch.set) rfl rfl) ⟨?_, ?_, ?_⟩ (List.Subset.refl _)
  · exact congrArg (· ++ _) s.tlpIn_out
  · exact (State.tlpIn_working hs).trans hw
  · exact smGet_smSet_same 0 (hu.hiLatch trivial) (latchKey 0 .glob 0 0x12108) (s.rd HL_SNAP_TIME / 2 ^ 32 + 1)

omit hw in
/-- Past the mirror of the K-die nothing stands (R14). -/
theorem does_rcRead_reserved : Does (.rcRead 0 0x601000) s tlpKeys fun t => t.out = s.out ++ [.readData 0 0] := by
  have e : s.tlpIn.busRead 0 0x601000 = (0, s.tlpIn) := ite_self _
  exact does_readCmd hs rfl e (.refl hs.tlpIn) (congrArg (· ++ _) s.tlpIn_out) (List.Subset.refl _)

omit hw in
theorem does_registerWrite_reserved {v : Word} :
    Does (.registerWrite 0 0x601000 v false) s tlpKeys fun t => t.out = s.out := by
  have e : s.tlpIn.busWrite 0 0x601000 v.toNat = s.tlpIn := ite_self _
  exact does_registerWrite hs e (.refl hs.tlpIn) s.tlpIn_out (List.Subset.refl _)

omit hw in
theorem does_registerWrite_narrow {n : Fin 16} {a : BitVec 26} {v : Word} : Does (.registerWrite n a v true) s tlpKeys fun t =>
    t.out = s.out ∧ t.helms = s.helms ∧ t.sessions = s.sessions :=
  (Held.tlpIn hs).does rfl ⟨s.tlpIn_out, s.tlpIn_helms, s.tlpIn_sessions⟩

end

/-! ### A function's own BAR and its window -/

theorem latTol_alone (n : Nat) : ((fldsOf .ses n).filter fun f => f.inWord 0x1C0) = [LAT_TOL] :=
  show ((fldsOf .ses 0).filter fun f => f.inWord 0x1C0) = [LAT_TOL] by decide +kernel

section
variable {s : State} {n : Fin 16} {v : Word} (hs : s.Good True) (hn : 1 ≤ n.val) (ho : s.vfOpen n = true)
include hs hn ho

/-- A write outside the window reaches the function's own registers. -/
theorem State.busWrite_vf {a v : Nat} (ha : inWindow a = false) : s.tlpIn.busWrite n a v = s.tlpIn.writePlace n (vfPlace n a) v := by
  have hv : s.tlpIn.vfOpen n = true := (State.tlpIn_vfOpen hs n).trans ho
  simp [State.busWrite, show n.val ≠ 0 by omega, hv, ha]

theorem State.busWrite_window {a v : Nat} (ha : inWindow a = true) : s.tlpIn.busWrite n a v =
    if s.tlpIn.ownsPlace n (s.tlpIn.winPlace n a) then s.tlpIn.writePlace n (s.tlpIn.winPlace n a) v
    else if (s.tlpIn.winPlace n a).isReg then s.tlpIn.violation n (a % 0x100000) else s.tlpIn := by
  have hv : s.tlpIn.vfOpen n = true := (State.tlpIn_vfOpen hs n).trans ho
  simp [State.busWrite, show n.val ≠ 0 by omega, hv, ha]

theorem State.busRead_window {a : Nat} (ha : inWindow a = true) : s.tlpIn.busRead n a =
    if s.tlpIn.ownsPlace n (s.tlpIn.winPlace n a) then s.tlpIn.readPlace n (s.tlpIn.winPlace n a) true
    else if s.tlpIn.watchesPlace n (s.tlpIn.winPlace n a) then s.tlpIn.readPlace n (s.tlpIn.winPlace n a) false
    else (0, s.tlpIn) := by
  have hv : s.tlpIn.vfOpen n = true := (State.tlpIn_vfOpen hs n).trans ho
  simp [State.busRead, show n.val ≠ 0 by omega, hv, ha]

theorem does_registerWrite_latTol : Does (.registerWrite n 0x1C0 v false) s (tlpKeys ++ [LAT_TOL.key n 0]) fun t =>
    t.rd LAT_TOL n = v.toNat % 2 ^ 24 := by
  have e : s.tlpIn.busWrite n 0x1C0 v.toNat = s.tlpIn.wr LAT_TOL (bitsAt v.toNat 0 24) n :=
    (State.busWrite_vf hs hn ho rfl).trans (s.tlpIn.poke_plain v.toNat (latTol_alone n) (by simp only [Fld.plainAt]; decide))
  refine does_registerWrite hs e ((Held.refl hs.tlpIn).wr (by simp)) ?_
  rw [State.rd_wr_same (hs.tlpIn.regs trivial)]
  simp [bitsAt, LAT_TOL]

section
variable (hp : s.rd WIN_PAGE n = 2)
include hp

omit hn ho in
/-- The window's address 0x108000 is then the first word of Helm 0's instruction memory. -/
theorem State.winPlace_imem : s.tlpIn.winPlace n 0x108000 = .imem 0 0 := by
  have hp : s.tlpIn.rd WIN_PAGE n = 2 := (State.tlpIn_rd_block hs WIN_PAGE).trans hp
  unfold State.winPlace
  rw [hp]
  rfl

omit hs hn ho hp in
theorem State.ownsPlace_imem (s : State) (n : Nat) : s.tlpIn.ownsPlace n (.imem 0 0) = decide (s.helmOwner 0 = n) :=
  congrArg (fun x => decide (x = n)) (s.tlpIn_ownerOf 0x2000)

theorem does_registerWrite_imem_stranger (hw : s.helmOwner 0 ≠ n.val) :
    Does (.registerWrite n 0x108000 v false) s (tlpKeys ++ [SES_VIOL_VIOL_COUNT.key n 0, SES_VIOL_VIOL_OFFSET.key n 0]) fun t =>
      t.helms = s.helms ∧ t.rd SES_VIOL_VIOL_OFFSET n = 0x8000 / 16 := by
  have e : s.tlpIn.busWrite n 0x108000 v.toNat = s.tlpIn.violation n 0x8000 := by
    rw [State.busWrite_window hs hn ho rfl, State.winPlace_imem hs hp, State.ownsPlace_imem, if_neg (by simp [hw])]
    rfl
  refine does_registerWrite hs e ((Held.refl hs.tlpIn).violation n.isLt (by simp) (by simp))
    ⟨?_, State.rd_violation_offset hs.tlpIn n.isLt⟩
  rw [State.violation_eq _ n.isLt]
  exact s.tlpIn_helms

theorem does_rcRead_imem_stranger (hw : s.helmOwner 0 ≠ n.val) :
    Does (.rcRead n 0x108000) s tlpKeys fun t => t.out = s.out ++ [.readData n 0] := by
  have e : s.tlpIn.busRead n 0x108000 = (0, s.tlpIn) := by
    rw [State.busRead_window hs hn ho rfl, State.winPlace_imem hs hp, State.ownsPlace_imem, if_neg (by simp [hw])]
    rfl
  exact does_readCmd hs rfl e (.refl hs.tlpIn) (congrArg (· ++ _) s.tlpIn_out) (List.Subset.refl _)

theorem does_registerWrite_imem_owner (hw : s.helmOwner 0 = n.val) (hb : (s.helm 0).ps.bound = false) :
    Does (.registerWrite n 0x108000 v false) s tlpKeys fun t => smGet 0 (t.helm 0).imem 0 = v := by
  have e : s.tlpIn.busWrite n 0x108000 v.toNat = s.tlpIn.setHelm 0 { s.helm 0 with imem := smSet 0 (s.helm 0).imem 0 v } := by
    rw [State.busWrite_window hs hn ho rfl, State.winPlace_imem hs hp, State.ownsPlace_imem, if_pos (by simp [hw])]
    simp [State.writePlace, State.imemWrite, hb]
  refine does_registerWrite hs e ((Held.refl hs.tlpIn).step (hs.tlpIn.setHelm (.withImage hs.helm hs.helm.imem.set)) rfl rfl) ?_
    (List.Subset.refl _)
  rw [State.helm_setHelm_same (hs.tlpIn.helms trivial)]
  exact smGet_smSet_same 0 (hs.helm.imem trivial) ..

end

end

/-! ### Bytes written through BAR2 -/

section
variable {s : State} {a c : Nat} {b : Byte} {data : List Byte}

theorem State.setByte_eq (s : State) (a : Nat) (b : Byte) : s.setByte a b = { s with mem := (s.setByte a b).mem } := by
  unfold State.setByte State.define
  split
  · rfl
  · split
    · split <;> rfl
    · rfl

theorem State.setBytes_regs (s : State) (a : Nat) (data : List Byte) : (s.setBytes a data).regs = s.regs := by
  induction data generalizing s a with
  | nil => rfl
  | cons b data ih => exact (ih (s.setByte a b) (a + 1)).trans (by rw [s.setByte_eq])

theorem byteAt_setBytes_inside {k : Nat} (h : s.mem.wf = true) (hk : k < data.length) (hm : s.inMemory (a + k) = true) :
    (s.setBytes a data).byteAt (a + k) = data.getD k 0 := by
  induction data generalizing s a k with
  | nil => exact absurd hk (Nat.not_lt_zero k)
  | cons b data ih =>
    cases k with
    | zero => exact (byteAt_setBytes_outside data (setByte_wf h a b) (by omega)).trans (byteAt_setByte_same h hm b)
    | succ k =>
      rw [show a + (k + 1) = a + 1 + k by omega] at hm ⊢
      refine ih (setByte_wf h a b) (Nat.lt_of_succ_lt_succ hk) ?_
      rwa [State.inMemory, inCellar_setByte]

/-- The Cellar's sweep is no matter of the Larder's pages. -/
theorem State.pageBusy_larder (s : State) {p : Nat} (hp : p < 0x100000) :
    s.pageBusy p = (s.own.bgPages.contains p || s.own.scrubs.any fun r => r.pages.contains p) := by
  have hu : s.unswept p = false := by
    have : ¬ 0x100000 + s.own.swept ≤ p := by omega
    simp [State.unswept, this]
  rw [State.pageBusy, hu, Bool.or_false]

theorem State.bar2Open_larder (s : State) {o : Nat} (ho : o < 0x800000) : s.bar2Open o = !s.pageBusy (o / 4096) := by
  have ha : s.bar2Addr o = o := if_pos ho
  simp [State.bar2Open, ha, State.inMemory, inLarder, ho]

/-- Where the bytes of a BAR2 write start from: the marks of the words it covers are gone. -/
def State.bar2Start (s : State) (off n : Nat) : State :=
  if s.bar2Open off && s.bar2Open (off + n - 1) then s.coverWords (s.bar2Addr off) n else s

theorem State.bar2Start_eq (s : State) (off n : Nat) : ∃ bad, s.bar2Start off n = { s with mem := { s.mem with bad := bad } } := by
  unfold State.bar2Start
  split <;> exact ⟨_, rfl⟩

/-- One byte of a BAR2 write at `off`. -/
def State.bar2Byte (off : Nat) (s : State) (e : Byte × Nat) : State :=
  if off + e.2 < 0x1000000 ∧ s.bar2Open (off + e.2) = true then s.setByte (s.bar2Addr (off + e.2)) e.1 else s

/-- The bytes of a write to the Larder, in no page that a scrub holds, are stored one after another. -/
theorem State.foldl_bar2Byte {off : Nat} (k : Nat) (hl : off + k + data.length ≤ 0x800000)
    (hp : ∀ j, j < data.length → s.pageBusy ((off + k + j) / 4096) = false) :
    (data.zipIdx k).foldl (State.bar2Byte off) s = s.setBytes (off + k) data := by
  induction data generalizing s k with
  | nil => rfl
  | cons b data ih =>
    simp only [List.length_cons] at hl hp
    have ha : s.bar2Addr (off + k) = off + k := if_pos (by omega)
    have e : s.bar2Byte off (b, k) = s.setByte (off + k) b := by
      rw [State.bar2Byte, s.bar2Open_larder (by omega), ha]
      exact if_pos ⟨by omega, by simpa using hp 0 (by omega)⟩
    rw [List.zipIdx_cons, List.foldl_cons, e, ih (k + 1) (by omega) fun j hj => ?_]
    · rfl
    · rw [State.pageBusy_larder _ (by omega), s.setByte_eq, ← hp (j + 1) (by omega), State.pageBusy_larder _ (by omega)]
      simp only [Nat.add_assoc, Nat.add_comm 1]

theorem bar2Write_larder {off : Fin 16777216} (hs : s.Good True) (hw : s.working = true) (hl : off.val + data.length ≤ 0x800000)
    (hp : ∀ k, k < data.length → s.pageBusy ((off.val + k) / 4096) = false) :
    ∃ t, exec (.bar2Write off data) s = .next t ∧ SameRegs tlpKeys s t ∧
      (∀ k, k < data.length → t.byteAt (off.val + k) = data.getD k 0) ∧
      ∀ a, a < off.val ∨ off.val + data.length ≤ a → t.byteAt a = s.byteAt a := by
  obtain ⟨bad, hbad⟩ := s.tlpIn.bar2Start_eq off data.length
  generalize hu : s.tlpIn.bar2Start off data.length = u at hbad
  have hg : u.Good True := hbad ▸ { hs.tlpIn with mem := hs.tlpIn.mem }
  have hr : u.regs = s.tlpIn.regs := by rw [hbad]
  have ho : u.own = s.own := by rw [hbad, ← s.tlpIn_own]
  have hb (a : Nat) : u.byteAt a = s.byteAt a := by
    rw [hbad, ← (Held.tlpIn hs).sameMem a]
    rfl
  have hpu (k : Nat) (hk : k < data.length) : u.pageBusy ((off.val + 0 + k) / 4096) = false := by
    have h := hp k hk
    rw [State.pageBusy_larder _ (by omega)] at h ⊢
    rwa [ho]
  have hf : (data.zipIdx 0).foldl (State.bar2Byte off) (s.tlpIn.bar2Start off data.length) = u.setBytes off data := by
    rw [hu]
    exact State.foldl_bar2Byte 0 hl hpu
  refine ⟨u.setBytes off data, ?_, ?_, ?_, ?_⟩
  · unfold exec execBar2Write
    dsimp only
    rw [State.tlpIn_working hs, hw]
    exact congrArg (fun t => (.next t : Res)) hf
  · exact (Held.tlpIn hs).regs.trans (.of_eq (by rw [u.setBytes_regs, hr]))
  · exact fun k hk => byteAt_setBytes_inside hg.mem hk (by simp [State.inMemory, inLarder]; omega)
  · exact fun a ha => (byteAt_setBytes_outside data hg.mem ha).trans (hb a)

end

/-! ### The obligation -/

/-- Settles O42: each access is a read or a write of one place after the arrival of the TLP; the place and what it does there
follow from the address. -/
theorem readsAndWritesOfTheRegisterFabric : Obligations.ReadsAndWritesOfTheRegisterFabric := by
  intro s hwf hw
  have hs : s.Good True := s.wf_iff.mp hwf
  refine ⟨does_rcRead_hostErr hs hw, fun hb => ?wide, does_rcRead_reserved hs, fun v => does_registerWrite_reserved hs,
    fun n a v => does_registerWrite_narrow hs, fun n v hn ho => ⟨does_registerWrite_latTol hs hn ho, fun hp hne => ?_,
      fun hp he hb _ => does_registerWrite_imem_owner hs hn ho hp he hb⟩, fun off data => bar2Write_larder hs hw⟩
  case wide =>
    refine (does_wideReadLow_snapTime hs hw hb).imp fun t ⟨hout, hwt, hl⟩ => ⟨hout, hwt, fun u hwfu hwu hlu => ?_⟩
    exact does_rcRead_snapTimeHigh (u.wf_iff.mp hwfu) hwu (hlu ▸ hl)
  · exact ⟨does_registerWrite_imem_stranger hs hn ho hp hne, does_rcRead_imem_stranger hs hn ho hp hne⟩

end Sys2Proof.Machine

end

section
/-! # What defects and the framer leave of a slice

Each command of the line front end raises defects, starts and stops the framer and scans the PM points. `Beside` says what
these effects, which the statement names no value of, leave as it was. -/

namespace Sys2Proof.Machine

open Reg

set_option Elab.async false

/-! ### Where a slice's registers lie -/

/-- The key lies in the slices' blocks. -/
def inSlices (k : Nat) : Prop := 3 * 2 ^ 43 ≤ k ∧ k < 4 * 2 ^ 43

/-- Where in its block copy `j` of a field lies. -/
def Fld.place (f : Fld) (j : Nat) : Nat := (f.off + f.stride * j) * 64 + f.lsb

/-- The first copy of the field lies in a slice's block. -/
def Fld.ofSlice (f : Fld) : Prop := f.region.code = 3 ∧ f.place 0 < 2 ^ 30

/-- The key lies in the block of slice `i`. -/
def inSlice (i k : Nat) : Prop := k / 2 ^ 30 = 3 * 8192 + i

/-- The key is one of the framer's registers in the block of slice `i` (Tables FRM-10 to FRM-14). -/
def ofFramer (i k : Nat) : Prop := inSlice i k ∧ 0x10C * 64 ≤ k % 2 ^ 30 ∧ k % 2 ^ 30 < 0x200 * 64

section
variable {f g : Fld} {i j k l : Nat}

theorem Fld.key_place (f : Fld) (i j : Nat) : f.key i j = (f.region.code * 8192 + i) * 2 ^ 30 + f.place j := by
  unfold Fld.key Fld.place
  omega

theorem Fld.inSlice_key (hf : f.region.code = 3) (hp : f.place j < 2 ^ 30) : inSlice i (f.key i j) := by
  rw [inSlice, Fld.key_place, hf]
  omega

theorem Fld.inSlices_key (hf : f.ofSlice) (hi : i < 8192) : inSlices (f.key i 0) := by
  obtain ⟨hc, hp⟩ := hf
  rw [inSlices, Fld.key_place, hc]
  omega

theorem Fld.key_mod (hp : f.place j < 2 ^ 30) : f.key i j % 2 ^ 30 = f.place j := by
  rw [Fld.key_place, Nat.mul_add_mod_self_right, Nat.mod_eq_of_lt hp]

theorem Fld.ofFramer_key (hf : f.region.code = 3) (hp : 0x10C * 64 ≤ f.place j ∧ f.place j < 0x200 * 64) :
    ofFramer i (f.key i j) :=
  have hlt : f.place j < 2 ^ 30 := by omega
  ⟨Fld.inSlice_key hf hlt, by rwa [Fld.key_mod hlt]⟩

/-- Fields at two places never share a key, whatever the instances. -/
theorem Fld.key_ne (hf : f.place k < 2 ^ 30) (hg : g.place l < 2 ^ 30) (h : f.place k ≠ g.place l) :
    f.key i k ≠ g.key j l := fun e => h (by rw [← Fld.key_mod hf (i := i), e, Fld.key_mod hg])

end

/-! ### One bit of a mask -/

theorem testBit_one_setBitsAt_other {c : Nat} (v x : Nat) (hc : c ≠ 1) : (setBitsAt v c 1 x).testBit 1 = v.testBit 1 := by
  simp only [Nat.testBit_eq_decide_div_mod_eq, setBitsAt, bitsAt]
  match c, hc with
  | 0, _ => congr 2; omega
  | c + 2, _ =>
    have hp : 2 ^ (c + 2) = 4 * 2 ^ c := by rw [Nat.pow_add, Nat.mul_comm]
    have hle : v / (4 * 2 ^ c) % 2 * (4 * 2 ^ c) ≤ v :=
      (Nat.mul_le_mul_right _ (Nat.mod_le ..)).trans (Nat.div_mul_le_self ..)
    rw [hp, Nat.pow_one, Nat.mul_left_comm, Nat.mul_left_comm (x % 2)] at *
    congr 2
    omega

theorem testBit_one_setBitsAt (v : Nat) (on : Bool) : (setBitsAt v 1 1 (boolNat on)).testBit 1 = on := by
  have h (x : Nat) : setBitsAt v 1 1 x / 2 ^ 1 % 2 = x % 2 := by
    unfold setBitsAt bitsAt
    omega
  rw [Nat.testBit_eq_decide_div_mod_eq, h]
  cases on <;> rfl

/-! ### `Beside` -/

/-- An effect beside a slice's line: the state is in good form; the slices' registers are as before but for the keys `W`
names, and so are memory, the clocks and what `K` sees of each line. The operations are as before where `O` holds, each
carrier's detection of LOS where `L` does. -/
structure Beside {β : Type} (W : Nat → Prop) (K : Line → β) (O L : Prop) (s t : State) : Prop where
  good : t.Good True
  rd : ∀ f i j, inSlices (f.key i j) → ¬ W (f.key i j) → t.rd f i j = s.rd f i j
  mem : t.mem = s.mem
  clock : t.clock = s.clock
  tm : t.tm = s.tm
  out : t.out = s.out
  ops : O → t.ops = s.ops
  line : ∀ k, K (t.line k) = K (s.line k)
  los : L → ∀ c, (t.ovh c).hw.testBit 1 = (s.ovh c).hw.testBit 1

section
variable {β : Type} {W : Nat → Prop} {K : Line → β} {O L : Prop} {s t u : State} {i j k v : Nat} {f : Fld}

theorem Beside.refl (h : s.Good True) : Beside W K O L s s :=
  ⟨h, fun _ _ _ _ _ => rfl, rfl, rfl, rfl, rfl, fun _ => rfl, fun _ => rfl, fun _ _ => rfl⟩

theorem Beside.self (h : s.Good True) : Beside W K True True s s := .refl h

/-- An update of tables that `Beside` says nothing of. -/
theorem Beside.step (h : Beside W K O L s t) (hu : u.Good True) (hr : u.regs = t.regs := by rfl)
    (hm : u.mem = t.mem := by rfl) (hc : u.clock = t.clock := by rfl) (ht : u.tm = t.tm := by rfl)
    (ho : u.out = t.out := by rfl) (hops : O → u.ops = t.ops := by exact fun _ => rfl) (hl : u.lines = t.lines := by rfl)
    (hv : u.ovhs = t.ovhs := by rfl) : Beside W K O L s u where
  good := hu
  rd f i j hs hn := (congrArg (smGet f.reset · _) hr).trans (h.rd f i j hs hn)
  mem := hm.trans h.mem
  clock := hc.trans h.clock
  tm := ht.trans h.tm
  out := ho.trans h.out
  ops o := (hops o).trans (h.ops o)
  line k := (congrArg (fun m => K (smGet Line.init m k)) hl).trans (h.line k)
  los l c := (congrArg (fun m => (smGet Ovh.init m c).hw.testBit 1) hv).trans (h.los l c)

theorem Beside.either {c : Prop} {_ : Decidable c} (ht : Beside W K O L s t) (hu : Beside W K O L s u) :
    Beside W K O L s (if c then t else u) := by
  split <;> assumption

theorem Beside.foldl {α : Type} {g : State → α → State} {l : List α} (h : Beside W K O L s t)
    (hg : ∀ {u x}, x ∈ l → Beside W K O L s u → Beside W K O L s (g u x)) : Beside W K O L s (l.foldl g t) :=
  List.foldlRecOn l g h fun _ hu _ hx => hg hx hu

theorem Beside.wr (h : Beside W K O L s t) (hk : W (f.key i j)) : Beside W K O L s (t.wr f v i j) :=
  { h with
    good := h.good.wr
    rd := fun g k l hs hn => (State.rd_wr_other (h.good.regs trivial) v i j k l fun e => hn (by rwa [e])).trans (h.rd g k l hs hn) }

theorem Beside.wrOutside (h : Beside W K O L s t) (hk : ¬ inSlices (f.key i j)) : Beside W K O L s (t.wr f v i j) :=
  { h with
    good := h.good.wr
    rd := fun g k l hs hn => (State.rd_wr_other (h.good.regs trivial) v i j k l fun e => hk (e ▸ hs)).trans (h.rd g k l hs hn) }

theorem Beside.setLine {x : Line} (h : Beside W K O L s t) (hx : x.Good True) (hK : K x = K (t.line i)) :
    Beside W K O L s (t.setLine i x) :=
  { h with
    good := h.good.setLine hx
    line := fun k => by
      by_cases hk : k = i
      · rw [hk, State.line_setLine_same (h.good.lines trivial), hK, h.line]
      · rw [State.line_setLine_other (h.good.lines trivial) _ hk, h.line] }

theorem Beside.setOvh {x : Ovh} (h : Beside W K O L s t) (hx : x.Good True) (hL : L → x.hw.testBit 1 = (t.ovh i).hw.testBit 1) :
    Beside W K O L s (t.setOvh i x) :=
  { h with
    good := h.good.setOvh hx
    los := fun l c => by
      by_cases hc : c = i
      · rw [hc, State.ovh_setOvh_same (h.good.ovhs trivial), hL l, h.los l]
      · rw [State.ovh_setOvh_other (h.good.ovhs trivial) _ hc, h.los l] }

/-- The global registers lie below the slices', the Helms' above. -/
theorem not_inSlices_glob (hf : f.region.code = 0) (hi : i < 8192) (hp : f.place j < 2 ^ 30) : ¬ inSlices (f.key i j) := by
  rw [inSlices, Fld.key_place, hf]
  omega

theorem not_inSlices_helm (hf : f.region.code = 4) : ¬ inSlices (f.key i j) := by
  rw [inSlices, Fld.key_place, hf]
  omega

theorem Beside.count {n : Nat} (h : Beside W K O L s t) : Beside W K O L s (t.count i n) := h.step h.good.count

theorem Beside.modOp {n tag : Nat} {f : Op → Op} (h : Beside W K O L s t) (hO : ¬ O) : Beside W K O L s (t.modOp n tag f) :=
  h.step h.good.modOp (hops := fun o => absurd o hO)

theorem Beside.fireFree (h : Beside W K O L s t) : Beside W K O L s (t.fireFree k) :=
  have hd : Beside W K O L s t.draw.draw := h.step h.good.draw.draw
  .either (hd.wrOutside (not_inSlices_glob rfl (by decide) (by decide))) (hd.step hd.good.setSource)

theorem Beside.lineFire (h : Beside W K O L s t) : Beside W K O L s (t.lineFire i) := h.fireFree

theorem Beside.setHelm {x : Helm} (h : Beside W K O L s t) (hx : x.Good True) : Beside W K O L s (t.setHelm i x) :=
  h.step (h.good.setHelm hx)

/-! ### Defects and PM points -/

theorem Beside.enqueue {n kind port cause set payload ovf} (h : Beside W K O L s t) :
    Beside W K O L s (t.enqueue n kind port cause set payload ovf) :=
  .either (.either (.count (.wrOutside (h.setHelm h.good.helm.update) (not_inSlices_helm rfl))) (h.setHelm h.good.helm.update)) h

theorem Beside.defectEvent {p code set} (h : Beside W K O L s t) : Beside W K O L s (t.defectEvent p code set) :=
  h.foldl fun _ h => h.enqueue

theorem Beside.protScan (h : Beside W K O L s t) : Beside W K O L s t.protScan :=
  h.foldl fun _ h => .either h (h.step h.good.setGrp)

theorem Beside.pmScan (h : Beside W K O L s t) : Beside W K O L s t.pmScan :=
  h.protScan.foldl fun _ h => h.step h.good.setPt

theorem Beside.settleDefect {c code layer} (h : Beside W K O L s t) : Beside W K O L s (t.settleDefect c code layer) := by
  unfold State.settleDefect
  extract_lets o on d want t1 t2
  have h1 : Beside W K O L s t1 := h.setOvh h.good.ovh.update fun _ => rfl
  have h2 : Beside W K O L s t2 := h1.defectEvent
  exact .either h (.protScan (.either h2.fireFree h2))

/-- Hardware's detection of any defect but LOS. -/
theorem Beside.hwDefect1 {c code on} (h : Beside W K O L s t) (hc : L → code ≠ 1) : Beside W K O L s (t.hwDefect1 c code on) :=
  .either h (.settleDefect (h.setOvh h.good.ovh.update fun l => testBit_one_setBitsAt_other _ _ (hc l)))

theorem Beside.holdCleared {c} (h : Beside W K O L s t) : Beside W K O L s (t.holdCleared c) := by
  refine h.foldl fun {u k} _ h => ?_
  split
  next hk =>
    have hk1 : k ≠ 1 := by rintro rfl; simp [ssfExempt] at hk
    exact .settleDefect (h.setOvh h.good.ovh.restart.update fun _ => testBit_one_setBitsAt_other _ _ hk1)
  next => exact h

theorem Beside.hwDefect {c code on} (h : Beside W K O L s t) (hc : L → code ≠ 1) : Beside W K O L s (t.hwDefect c code on) :=
  .either (.foldl (h.hwDefect1 hc).holdCleared fun _ h => .either h.holdCleared h) (h.hwDefect1 hc)

theorem Beside.lofCheck (h : Beside W K O L s t) : Beside W K O L s (t.lofCheck i) := by
  unfold State.lofCheck
  extract_lets lasted o u
  have hu : Beside W K O L s u := .either (h.hwDefect (by omega)) (.either (h.hwDefect (by omega)) h)
  exact .either (hu.hwDefect (by omega)) (.either (hu.hwDefect (by omega)) hu)

theorem Beside.linkDown (h : Beside W K O L s t) : Beside W K O L s (t.linkDown i) :=
  .either (h.hwDefect (by omega)) h

end

end Sys2Proof.Machine

end

section
/-! # What the framer and an attempt's start leave -/

namespace Sys2Proof.Machine

open Reg

set_option Elab.async false

/-- The copy of the field is one of the framer's registers in a slice's block (Tables FRM-10 to FRM-14). -/
def Fld.ofFr (f : Fld) (j : Nat) : Prop := f.region.code = 3 ∧ 0x10C * 64 ≤ f.place j ∧ f.place j < 0x200 * 64

theorem Fld.ofFr_lane {f : Fld} {l : Nat} (hf : f.region.code = 3 ∧ f.off = 0x180 ∧ f.stride = 4 ∧ f.lsb < 64) (hl : l < 20) :
    f.ofFr l := by
  obtain ⟨hr, ho, hs, hb⟩ := hf
  refine ⟨hr, ?_⟩
  rw [Fld.place, ho, hs]
  omega

/-- Every key but that of field `g` of slice `i`. -/
def butFor (g : Fld) (i k : Nat) : Prop := k ≠ g.key i 0

theorem butFor_keys {g : Fld} {i j : Nat} {l : List Fld}
    (h : g.place 0 < 2 ^ 30 ∧ ∀ f ∈ l, f.place 0 < 2 ^ 30 ∧ f.place 0 ≠ g.place 0) : ∀ f ∈ l, butFor g i (f.key j 0) :=
  fun f hf => Fld.key_ne (h.2 f hf).1 h.1 (h.2 f hf).2

theorem butFor_ofFramer {g : Fld} {i j : Nat} (h : g.place 0 < 2 ^ 30 ∧ ¬ (0x10C * 64 ≤ g.place 0 ∧ g.place 0 < 0x200 * 64)) :
    ∀ k, ofFramer j k → butFor g i k := by
  rintro _ ⟨-, hk⟩ rfl
  rw [Fld.key_mod h.1] at hk
  exact h.2 hk

section
variable {β : Type} {W : Nat → Prop} {K : Line → β} {O L : Prop} {s t : State} {i : Nat}

/-- A field that `W` does not name reads as before. -/
theorem Beside.rd_slice {f : Fld} (h : Beside W K O L s t) (hi : i < 8192) (hf : f.ofSlice) (hn : ¬ W (f.key i 0)) :
    t.rd f i = s.rd f i :=
  h.rd f i 0 (Fld.inSlices_key hf hi) hn

theorem Beside.rd_butFor {g : Fld} (h : Beside (butFor g i) K O L s t) (hi : i < 8192 := by omega)
    (hg : g.ofSlice := by unfold Fld.ofSlice; decide) : t.rd g i = s.rd g i :=
  h.rd_slice hi hg fun hn => hn rfl

/-- A write of another field than the one spared. -/
theorem Beside.wrElse {f g : Fld} {j k v : Nat} (h : Beside (butFor g k) K O L s t)
    (hf : f.place j < 2 ^ 30 ∧ g.place 0 < 2 ^ 30 ∧ f.place j ≠ g.place 0 := by decide) :
    Beside (butFor g k) K O L s (t.wr f v i j) :=
  h.wr (Fld.key_ne hf.1 hf.2.1 hf.2.2)

end

section
variable {β : Type} {W : Nat → Prop} {K : Line → β} {O L : Prop} {s t : State} {i : Nat}
  (hW : ∀ k, ofFramer i k → W k) (hK : ∀ x f, K { x with fr := f } = K x)

include hW in
theorem Beside.wrFr {f : Fld} {v j : Nat} (h : Beside W K O L s t) (hf : f.ofFr j := by unfold Fld.ofFr; decide) :
    Beside W K O L s (t.wr f v i j) :=
  h.wr (hW _ (Fld.ofFramer_key hf.1 hf.2))

include hK in
theorem Beside.setFramer {x : Framer} (h : Beside W K O L s t) (hx : x.Good True) : Beside W K O L s (t.setFramer i x) :=
  h.setLine (.withFramer hx) (hK ..)

include hW in
theorem Beside.frShow (h : Beside W K O L s t) : Beside W K O L s (t.frShow i) :=
  .wrFr hW (.wrFr hW h)

include hK in
/-- OOM writes MF_STATE, OOM and OOM_CNT. -/
theorem Beside.frOom (h : Beside W K O L s t)
    (hW : ∀ f ∈ [FR_STAT_MF_STATE, FR_STAT_OOM, FR_CNT_OOM_CNT], W (f.key i 0)) : Beside W K O L s (t.frOom i) := by
  unfold State.frOom
  extract_lets was f t1 t2 t3 o t4
  have h1 : Beside W K O L s t1 := .setFramer hK h h.good.framer.update
  have h2 : Beside W K O L s t2 := .wr (.wr h1 (hW _ (by simp))) (hW _ (by simp))
  have h3 : Beside W K O L s t3 := .wr h2 (hW _ (by simp))
  have h4 : Beside W K O L s t4 := h3.setOvh h3.good.ovh.update fun _ => rfl
  exact .either h (.either (h4.hwDefect (by omega)).lofCheck.fireFree h2)

include hW hK in
theorem Beside.frOof {cause : Nat} (h : Beside W K O L s t) : Beside W K O L s (t.frOof i cause) := by
  unfold State.frOof
  extract_lets was f t1 t2 t3 o t4 t5
  have h2 : Beside W K O L s t2 := .wrFr hW (.wrFr hW (.setFramer hK h h.good.framer.update))
  have h3 : Beside W K O L s t3 := .wrFr hW (.wrFr hW (.wrFr hW h2))
  have h4 : Beside W K O L s t4 := .count (h3.setOvh h3.good.ovh.update fun _ => rfl)
  have h5 : Beside W K O L s t5 := .either (h4.hwDefect (by omega)).lofCheck.fireFree h2
  exact .either h (.frShow hW h5.linkDown)

include hW in
theorem Beside.frStart (hK : ∀ x f, K { x with fr := f } = K x) (h : Beside W K O L s t) : Beside W K O L s (t.frStart i) := by
  unfold State.frStart
  extract_lets fmt t1 t2
  have h2 : Beside W K O L s t2 := .wrFr hW (.wrFr hW (.wrFr hW (.setFramer hK h .init)))
  exact .either h (.frShow hW (Beside.wrFr hW h2).linkDown)

include hW in
theorem Beside.wrLanes {v : Nat} (h : Beside W K O L s t) :
    Beside W K O L s ((List.range 20).foldl (fun t l => t.wr FR_LANE_SKEW v i l) t) :=
  h.foldl fun hl h => .wrFr hW h (Fld.ofFr_lane (by decide) (List.mem_range.mp hl))

include hW hK in
theorem Beside.frStop (h : Beside W K O L s t) : Beside W K O L s (t.frStop i) := by
  unfold State.frStop
  extract_lets t1 t2 t3 t4
  have h1 : Beside W K O L s t1 := .either (.frOof hW hK h) h
  have h2 : Beside W K O L s t2 := .wrFr hW (.setFramer hK h1 .init)
  have h3 : Beside W K O L s t3 := .frShow hW (.wrFr hW (.wrFr hW (.wrFr hW h2)))
  have h4 : Beside W K O L s t4 := .wrFr hW (.wrFr hW (.wrFr hW (.wrFr hW h3)))
  exact .either (.wrLanes hW h4) h3

include hW in
theorem Beside.bondShow (h : Beside W K O L s t) : Beside W K O L s (t.bondShow i) := by
  unfold State.bondShow
  extract_lets f t1 t2 t3
  have h3 : Beside W K O L s t3 := .wrFr hW (.wrFr hW (.wrFr hW h))
  refine h3.foldl fun {u l} hl hu => ?_
  have wrLane {g : Fld} {v : Nat} {u : State} (hg : g.region.code = 3 ∧ g.off = 0x180 ∧ g.stride = 4 ∧ g.lsb < 64)
      (hu : Beside W K O L s u) : Beside W K O L s (u.wr g v i l) :=
    .wrFr hW hu (Fld.ofFr_lane hg (List.mem_range.mp hl))
  split
  · exact wrLane (by decide) (wrLane (by decide) (wrLane (by decide) hu))
  · exact wrLane (by decide) hu

include hW hK in
theorem Beside.frLost (h : Beside W K O L s t) : Beside W K O L s (t.frLost i) :=
  .frOom hK (.frOof hW hK h) fun f hf =>
    have ⟨hr, hp⟩ : f.ofFr 0 := by unfold Fld.ofFr; revert f; decide
    hW _ (Fld.ofFramer_key hr hp)

include hW hK in
theorem Beside.groupOof {cause : Nat} (h : Beside W K O L s t) : Beside W K O L s (t.groupOof i cause) := by
  unfold State.groupOof
  extract_lets t1 lanes t2
  have h1 : Beside W K O L s t1 := .wrFr hW h
  have h2 : Beside W K O L s t2 := .frOom hK (.frOof hW hK h1) fun f hf =>
    have ⟨hr, hp⟩ : f.ofFr 0 := by unfold Fld.ofFr; revert f; decide
    hW _ (Fld.ofFramer_key hr hp)
  exact .bondShow hW (.setFramer hK h2 ⟨h1.good.framer.lanes⟩)

end

/-! ### The framer's STATE -/

/-- The framer's own part as OOF leaves it. -/
def Framer.hunting (f : Framer) : Framer :=
  { f with cands := [], win := [], blk := .init, cg := 0, cgEven := false, cgGood := 0, tickDue := none }

section
variable {s : State} {i : Nat}

/-- OOF in SYNC: after STATE, OOF and CAUSE come the declaration's other registers. -/
theorem Beside.frOof_of_sync {W : Nat → Prop} (h : s.Good True) (hf : s.frState i = 2) (cause : Nat)
    (hW : ∀ f ∈ [FR_OOF_TIME, FR_CNT_OOF_CNT, FR_STAT_CAND, FR_STAT_ERR_WIN], W (f.key i 0)) :
    Beside W id True True
      ((((s.setFramer i (s.framer i).hunting).wr FR_STAT_STATE 0 i).setFlag FR_STAT_OOF true i).wr FR_STAT_CAUSE cause i)
      (s.frOof i cause) := by
  unfold State.frOof
  extract_lets was f t1 t2 t3 o t4 t5
  rw [if_neg (show ¬ was = 3 by omega), show t5 = _ from if_pos hf]
  have h3 : Beside W id True True (t2.wr FR_STAT_CAUSE cause i) t3 :=
    .wr (.wr (.refl (.wr (.setFlag (.wr (h.setFramer h.framer.update))))) (hW _ (by simp))) (hW _ (by simp))
  have h4 : Beside W id True True (t2.wr FR_STAT_CAUSE cause i) t4 := .count (h3.setOvh h3.good.ovh.update fun _ => rfl)
  exact .wr (.wr (h4.hwDefect (by omega)).lofCheck.fireFree.linkDown (hW _ (by simp))) (hW _ (by simp))

/-- The framer leaves SYNC for HUNT with the cause given (Table FRM-10). -/
theorem State.frOof_hunts (h : s.Good True) (hi : i < 8192) (hf : s.frState i = 2) (cause : Nat) :
    (s.frOof i cause).frState i = 0 ∧ (s.frOof i cause).rd FR_STAT_CAUSE i = cause % 8 := by
  have h1 : (s.setFramer i (s.framer i).hunting).Good True := h.setFramer h.framer.update
  have h2 : (((s.setFramer i (s.framer i).hunting).wr FR_STAT_STATE 0 i).setFlag FR_STAT_OOF true i).Good True := h1.wr.setFlag
  constructor
  · refine (Beside.frOof_of_sync h hf cause (butFor_keys (g := FR_STAT_STATE) (by decide))).rd_butFor.trans ?_
    rw [State.rd_wr_ne h2 FR_STAT_CAUSE FR_STAT_STATE, State.setFlag, State.rd_wr_ne h1.wr FR_STAT_OOF FR_STAT_STATE,
      State.rd_wr_same (h1.regs trivial)]
    rfl
  · refine (Beside.frOof_of_sync h hf cause (butFor_keys (g := FR_STAT_CAUSE) (by decide))).rd_butFor.trans ?_
    exact State.rd_wr_same (h2.regs trivial) ..

theorem State.frLost_hunts (h : s.Good True) (hi : i < 8192) (hf : s.frState i = 2) :
    (s.frLost i).frState i = 0 ∧ (s.frLost i).rd FR_STAT_CAUSE i = 2 := by
  obtain ⟨h1, h2⟩ := State.frOof_hunts h hi hf 2
  have hb {g : Fld} (hg) : Beside (butFor g i) Line.acq True True (s.frOof i 2) (s.frLost i) :=
    .frOom (fun _ _ => rfl) (.refl h.frOof) (butFor_keys hg)
  exact ⟨(hb (g := FR_STAT_STATE) (by decide)).rd_butFor.trans h1, (hb (g := FR_STAT_CAUSE) (by decide)).rd_butFor.trans h2⟩

/-- A framer that stops reads NONE (R329). -/
theorem State.frState_frStop (h : s.Good True) (hi : i < 8192) : (s.frStop i).frState i = 3 := by
  unfold State.frStop
  extract_lets t1 t2 t3 t4
  have g1 : (t1.setFramer i .init).Good True := .setFramer (.either h.frOof h) .init
  have hs : t2.rd FR_STAT_STATE i = 3 := State.rd_wr_same (g1.regs trivial) ..
  have h3 : Beside (butFor FR_STAT_STATE i) id True True t2 t3 := .wrElse (.wrElse (.wrElse (.wrElse (.wrElse (.refl g1.wr)))))
  have h4 : Beside (butFor FR_STAT_STATE i) id True True t2 t4 := .wrElse (.wrElse (.wrElse (.wrElse h3)))
  split
  · have h5 {u : State} {l : Nat} (hl : l ∈ List.range 20) (hu : Beside (butFor FR_STAT_STATE i) id True True t2 u) :
        Beside (butFor FR_STAT_STATE i) id True True t2 (u.wr FR_LANE_SKEW 0x7FF i l) := by
      refine hu.wrElse ?_
      rw [List.mem_range] at hl
      simp only [Fld.place, FR_LANE_SKEW, FR_STAT_STATE]
      omega
    exact (h4.foldl h5).rd_butFor.trans hs
  · exact h3.rd_butFor.trans hs

end

end Sys2Proof.Machine

end

section
/-! # An attempt's start, an attempt's end and a slice powered down -/

namespace Sys2Proof.Machine

open Reg

set_option Elab.async false

/-! ### The slices of a group -/

section
variable {s : State} {i j : Nat}

theorem State.self_mem_group (s : State) (i : Nat) : i ∈ s.group i := by
  unfold State.group groupOf
  split <;> simp

theorem State.lt_of_mem_group (h : j ∈ s.group i) (hi : i < 24) : j < 8192 := by
  unfold State.group groupOf at h
  split at h <;> simp at h <;> omega

theorem groupOf_single {fmt : Nat} (h : fmtBonded fmt = false) (i : Nat) : groupOf i fmt = [i] := by simp [groupOf, h]

theorem State.rd_wr_or {f : Fld} {v k : Nat} (h : s.Good True) (hv : v % 2 ^ f.width = v) (hk : k = j ∨ s.rd f k = v) :
    (s.wr f v j).rd f k = v := by
  by_cases e : k = j
  · rw [e, State.rd_wr_same (h.regs trivial), hv]
  · rw [State.rd_wr_other (h.regs trivial) v j 0 k 0 (by rw [f.key_eq k, f.key_eq j]; omega), hk.resolve_left e]

/-- What each step of a sweep over slices gives slice `k`, and no later step takes away, it has in the end. -/
theorem rd_foldl_slices {l : List Nat} {step : State → Nat → State} {f : Fld} {k v : Nat} (h : s.Good True)
    (hg : ∀ {t j}, t.Good True → (step t j).Good True)
    (hv : ∀ {t j}, j ∈ l → t.Good True → k = j ∨ t.rd f k = v → (step t j).rd f k = v) (hk : k ∈ l ∨ s.rd f k = v) :
    (l.foldl step s).rd f k = v := by
  induction l generalizing s with
  | nil => exact hk.resolve_left List.not_mem_nil
  | cons j l ih =>
    refine ih (hg h) (fun hj => hv (List.mem_cons_of_mem _ hj)) ?_
    rcases hk with hk | hk
    · exact (List.mem_cons.mp hk).symm.imp id fun e => hv (List.mem_cons_self ..) h (.inl e)
    · exact .inr (hv (List.mem_cons_self ..) h (.inr hk))

end

/-! ### Stages -/

/-- The ACQUIRE of slice `i` as the entry to a stage leaves it (R288, Table OPS-9). -/
def State.entered (s : State) (i : Nat) (a : Acq) (stage : Nat) (timed : Bool) : Acq :=
  let ms := 1000000 * s.stageMs i stage
  { a with furthest := max a.furthest stage, due := if timed && !a.suspended then some (s.clock + ms) else none,
           rem := if timed && a.suspended then some ms else none }

/-- A timed stage of an ACQUIRE that is not suspended has its timer running. -/
theorem State.entered_timed {s : State} {i stage : Nat} {a : Acq} (hs : a.suspended = false) : s.entered i a stage true =
    { a with furthest := max a.furthest stage, due := some (s.clock + 1000000 * s.stageMs i stage), rem := none } := by
  unfold State.entered
  dsimp only
  rw [if_pos (by rw [hs]; rfl), if_neg (by rw [hs]; exact Bool.false_ne_true)]

section
variable {β : Type} {W : Nat → Prop} {K : Line → β} {O L : Prop} {s t : State} {i stage : Nat} {a : Acq}

theorem State.enterStage_eq (ha : (s.line i).acq = some a) (timed : Bool) : s.enterStage i stage timed =
    ((s.setLine i { s.line i with acq := some (s.entered i a stage timed) }).wr LINE_STAT_STAGE stage i).lineFire i := by
  unfold State.enterStage
  rw [ha]
  rfl

theorem Beside.enterStage {timed : Bool} (h : Beside W K O L s t) (hW : W (LINE_STAT_STAGE.key i 0))
    (hK : ∀ x a, K { x with acq := a } = K x) : Beside W K O L s (t.enterStage i stage timed) := by
  cases ha : (t.line i).acq with
  | none =>
    unfold State.enterStage
    rwa [ha]
  | some a =>
    rw [State.enterStage_eq ha]
    exact .lineFire (.wr (h.setLine h.good.line.update (hK ..)) hW)

theorem State.rd_lineFire (s : State) (hi : i < 24) (f : Fld) (j k : Nat) : (s.lineFire i).rd f j k = s.rd f j k :=
  s.rd_fireFree (by simp only [srcReserved, decide_eq_false_iff_not]; omega) f j k

theorem State.line_lineFire (s : State) (hi : i < 24) (j : Nat) : (s.lineFire i).line j = s.line j := by
  unfold State.lineFire
  rw [s.fireFree_eq (by simp only [srcReserved, decide_eq_false_iff_not]; omega)]
  rfl

theorem State.rd_stage_enterStage (h : s.Good True) (hi : i < 24) (ha : (s.line i).acq = some a) (hs : stage < 8) (timed : Bool) :
    (s.enterStage i stage timed).rd LINE_STAT_STAGE i = stage := by
  rw [State.enterStage_eq ha, State.rd_lineFire _ hi, State.rd_wr_same ((h.setLine h.line.update).regs trivial)]
  exact Nat.mod_eq_of_lt hs

/-- The entry to a stage writes STAGE alone. -/
theorem State.rd_enterStage (h : s.Good True) {f : Fld} {k : Nat} (hk : k < 8192) (timed : Bool)
    (hf : f.ofSlice ∧ LINE_STAT_STAGE.place 0 ≠ f.place 0 := by unfold Fld.ofSlice; decide) :
    (s.enterStage i stage timed).rd f k = s.rd f k :=
  ((Beside.refl h).enterStage (W := butFor f k) (K := fun _ => ()) (O := True) (L := True)
    (Fld.key_ne (by decide) hf.1.2 hf.2) fun _ _ => rfl).rd_butFor hk hf.1

theorem State.line_enterStage (h : s.Good True) (hi : i < 24) (ha : (s.line i).acq = some a) (timed : Bool) :
    (s.enterStage i stage timed).line i = { s.line i with acq := some (s.entered i a stage timed) } := by
  rw [State.enterStage_eq ha, State.line_lineFire _ hi]
  exact State.line_setLine_same (h.lines trivial) ..

/-! ### The start of an attempt -/

theorem Beside.draw (h : Beside W K O L s t) : Beside W K O L s t.draw := h.step h.good.draw

theorem Beside.preset (h : Beside W K O L s t) (hK : ∀ x l, K { x with live := l } = K x) : Beside W K O L s (t.preset i) := by
  unfold State.preset
  extract_lets n x p
  have hp : Beside W K O L s p.1 ∧ p.1.lines = t.lines :=
    List.foldlRecOn (motive := fun (q : State × List Nat) => Beside W K O L s q.1 ∧ q.1.lines = t.lines) _ _ ⟨h, rfl⟩
      fun _ hq _ _ => ⟨hq.1.draw, hq.2⟩
  refine hp.1.setLine h.good.line.update ((hK ..).trans (congrArg K ?_))
  simp only [x, State.line, hp.2]

theorem Beside.txTiming (h : Beside W K O L s t) (hW : ∀ j, W (LINE_STAT_TXTIME.key j 0) ∧ W (LINE_STAT_TX_HOLDOVER.key j 0)) :
    Beside W K O L s (t.txTiming i) := by
  unfold State.txTiming
  extract_lets p2
  refine h.foldl fun {u j} _ hu => ?_
  obtain ⟨h1, h2⟩ := hW j
  split
  · exact hu.wr h1
  · exact .either (.wr (hu.wr h1) h2) (.wr (hu.wr h1) h2)
  · exact hu.wr h1

/-- What an attempt's start does to one slice of the group `lead` leads. -/
def State.attemptSlice (lead : Nat) (s : State) (j : Nat) : State :=
  (((s.wr LINE_STAT_LOCK 0 j).wr LINE_STAT_SETTLED 0 j).preset j).setFlag LINE_STAT_TX_ON
    (s.flag LINE_STAT_TX_ON j || optTxEn (s.line lead).opts) j

/-- The slices of the group start over. -/
def State.attemptSlices (s : State) (i : Nat) : State := (s.group i).foldl (State.attemptSlice i) s

/-- The loop handshake and the transmit timing start over. -/
def State.attemptTiming (s : State) (i : Nat) : State :=
  ((s.setLine i { s.line i with loop := 0, loopDue := none, loopRem := none }).wr OV_LPRBS_HELD 0 i).txTiming i

theorem State.startAttempt_eq (s : State) (i : Nat) :
    s.startAttempt i = (((s.frStop i).attemptSlices i).attemptTiming i).enterStage i 1 := rfl

theorem State.Good.attemptSlices (h : s.Good True) : (s.attemptSlices i).Good True := h.foldl fun h => .setFlag (.preset h.wr.wr)

/-- The fields an attempt's start writes of each slice of the group. -/
def attemptSliceFlds : List Fld := [LINE_STAT_LOCK, LINE_STAT_SETTLED, LINE_STAT_TX_ON]

/-- The fields the handshake's and the transmit timing's start write. -/
def attemptTimingFlds : List Fld := [OV_LPRBS_HELD, LINE_STAT_TXTIME, LINE_STAT_TX_HOLDOVER]

theorem Beside.attemptSlices (h : Beside W Line.acq O L s t) (hW : ∀ f ∈ attemptSliceFlds, ∀ j, W (f.key j 0)) :
    Beside W Line.acq O L s (t.attemptSlices i) :=
  h.foldl fun _ h => .wr (.preset (.wr (h.wr (hW _ (by decide) _)) (hW _ (by decide) _)) fun _ _ => rfl) (hW _ (by decide) _)

theorem Beside.attemptTiming (h : Beside W Line.acq O L s t) (hW : ∀ f ∈ attemptTimingFlds, ∀ j, W (f.key j 0)) :
    Beside W Line.acq O L s (t.attemptTiming i) :=
  .txTiming (.wr (h.setLine h.good.line.update rfl) (hW _ (by decide) i)) fun j => ⟨hW _ (by decide) j, hW _ (by decide) j⟩

/-- The slices of the group have neither lock nor settled coefficients. -/
theorem State.rd_attemptSlices (h : s.Good True) (hi : i < 24) :
    (s.attemptSlices i).rd LINE_STAT_LOCK i = 0 ∧ (s.attemptSlices i).rd LINE_STAT_SETTLED i = 0 := by
  have hg {t : State} {j : Nat} (ht : t.Good True) : (State.attemptSlice i t j).Good True := .setFlag (.preset ht.wr.wr)
  have hp {W : Nat → Prop} {t : State} {j : Nat} (ht : t.Good True) (hW : W (LINE_STAT_TX_ON.key j 0)) :
      Beside W Line.acq True True ((t.wr LINE_STAT_LOCK 0 j).wr LINE_STAT_SETTLED 0 j) (State.attemptSlice i t j) :=
    .wr (.preset (.refl ht.wr.wr) fun _ _ => rfl) hW
  have ne {g : Fld} (hg : LINE_STAT_TX_ON.place 0 ≠ g.place 0 ∧ g.place 0 < 2 ^ 30) {j : Nat} :
      butFor g i (LINE_STAT_TX_ON.key j 0) := Fld.key_ne (by decide) hg.2 hg.1
  constructor
  · refine rd_foldl_slices h hg (fun {t j} _ ht hk => ?_) (.inl (s.self_mem_group i))
    refine ((hp ht (ne (g := LINE_STAT_LOCK) (by decide))).rd_butFor).trans ?_
    rw [State.rd_wr_other (ht.wr.regs trivial) 0 j 0 i 0 (Fld.key_ne (by decide) (by decide) (by decide))]
    exact State.rd_wr_or ht rfl hk
  · refine rd_foldl_slices h hg (fun {t j} _ ht hk => ?_) (.inl (s.self_mem_group i))
    refine ((hp ht (ne (g := LINE_STAT_SETTLED) (by decide))).rd_butFor).trans (State.rd_wr_or ht.wr rfl (hk.imp id fun hk => ?_))
    rwa [State.rd_wr_other (ht.regs trivial) 0 j 0 i 0 (Fld.key_ne (by decide) (by decide) (by decide))]

/-- Fields of LINE_STAT and ACQ_TMO0 that an attempt's start leaves. -/
def attemptSteady : List Fld := [LINE_STAT_LSTATE, LINE_STAT_FORMAT, LINE_STAT_SIG, LINE_STAT_RESTARTS, ACQ_TMO0_T_SIGNAL]

theorem attemptSteady_place {f : Fld} (hf : f ∈ attemptSteady) :
    f.ofSlice ∧ ¬ (0x10C * 64 ≤ f.place 0 ∧ f.place 0 < 0x200 * 64) ∧
      ∀ g ∈ LINE_STAT_STAGE :: (attemptSliceFlds ++ attemptTimingFlds), g.place 0 < 2 ^ 30 ∧ g.place 0 ≠ f.place 0 := by
  unfold Fld.ofSlice
  revert f
  decide

/-- What an attempt's start leaves, and where it leads: stage 1 of the ACQUIRE, without lock, settling or frame (R287). -/
structure AttemptStarted (i : Nat) (s t : State) : Prop where
  good : t.Good True
  mem : t.mem = s.mem
  clock : t.clock = s.clock
  ops : t.ops = s.ops
  steady : ∀ f ∈ attemptSteady, ∀ k < 8192, t.rd f k = s.rd f k
  stage : t.rd LINE_STAT_STAGE i = 1
  lock : t.rd LINE_STAT_LOCK i = 0
  settled : t.rd LINE_STAT_SETTLED i = 0
  framer : t.frState i = 3
  acq : ∀ a, (s.line i).acq = some a → (t.line i).acq = some (s.entered i a 1 true)

theorem State.startAttempt_starts (h : s.Good True) (hi : i < 24) (ha : (s.line i).acq = some a) :
    AttemptStarted i s (s.startAttempt i) := by
  have hs := h.frStop (i := i)
  have hg := hs.attemptSlices (i := i)
  have hb {W : Nat → Prop} (hF : ∀ k, ofFramer i k → W k)
      (hW : ∀ f ∈ attemptSliceFlds ++ attemptTimingFlds, ∀ j, W (f.key j 0)) :
      Beside W Line.acq True True s (((s.frStop i).attemptSlices i).attemptTiming i) :=
    (((Beside.refl h).frStop hF fun _ _ => rfl).attemptSlices fun f hf => hW f (List.mem_append_left _ hf)).attemptTiming
      fun f hf => hW f (List.mem_append_right _ hf)
  have hr {f : Fld}
      (hf : f.ofSlice ∧ ∀ g ∈ LINE_STAT_STAGE :: attemptTimingFlds, g.place 0 < 2 ^ 30 ∧ g.place 0 ≠ f.place 0) :
      (s.startAttempt i).rd f i = ((s.frStop i).attemptSlices i).rd f i := by
    obtain ⟨hf, hp⟩ := hf
    obtain ⟨hst, hp⟩ := List.forall_mem_cons.mp hp
    have ht : Beside (butFor f i) Line.acq True True _ (((s.frStop i).attemptSlices i).attemptTiming i) :=
      .attemptTiming (.refl hg) fun g hg j => butFor_keys ⟨hf.2, hp⟩ g hg
    exact (State.rd_enterStage ht.good (by omega) true ⟨hf, hst.2⟩).trans (ht.rd_butFor (by omega) hf)
  have hsteady {f : Fld} (hf : f ∈ attemptSteady) {k : Nat} (hk : k < 8192) :
      (((s.frStop i).attemptSlices i).attemptTiming i).rd f k = s.rd f k := by
    obtain ⟨ho, hfr, hp⟩ := attemptSteady_place hf
    exact (hb (butFor_ofFramer ⟨ho.2, hfr⟩) fun g hg j =>
      butFor_keys ⟨ho.2, (List.forall_mem_cons.mp hp).2⟩ g hg).rd_butFor hk ho
  have h0 := hb (W := fun _ => True) (fun _ _ => trivial) fun _ _ _ => trivial
  have hau := (h0.line i).trans ha
  have he : Beside (fun _ => True) (fun _ => ()) True True _ (s.startAttempt i) :=
    .enterStage (.refl h0.good) trivial fun _ _ => rfl
  exact {
    good := he.good
    mem := he.mem.trans h0.mem
    clock := he.clock.trans h0.clock
    ops := (he.ops trivial).trans (h0.ops trivial)
    steady := fun f hf k hk =>
      have ⟨ho, _, hp⟩ := attemptSteady_place hf
      (State.rd_enterStage h0.good hk true ⟨ho, (hp _ (List.mem_cons_self ..)).2⟩).trans (hsteady hf hk)
    stage := State.rd_stage_enterStage h0.good hi hau (by omega) true
    lock := (hr (by unfold Fld.ofSlice; decide)).trans (State.rd_attemptSlices hs hi).1
    settled := (hr (by unfold Fld.ofSlice; decide)).trans (State.rd_attemptSlices hs hi).2
    framer := (hr (f := FR_STAT_STATE) (by unfold Fld.ofSlice; decide)).trans ((Beside.attemptSlices (.self hs) fun g hg j =>
      butFor_keys (g := FR_STAT_STATE) (by decide) g hg).rd_butFor.trans (State.frState_frStop h (by omega)))
    acq := fun b hb => by
      have e : (((s.frStop i).attemptSlices i).attemptTiming i).entered i b 1 true = s.entered i b 1 true := by
        simp only [State.entered, State.stageMs, hsteady (f := ACQ_TMO0_T_SIGNAL) (by decide) (show i < 8192 by omega), h0.clock]
      rw [State.startAttempt_eq, State.line_enterStage h0.good hi ((h0.line i).trans hb), e] }

end

end Sys2Proof.Machine

end

section
/-! # Slices powered down, and the end of an ACQUIRE -/

namespace Sys2Proof.Machine

open Reg

set_option Elab.async false

/-! ### Operations that end -/

section
variable {s t : State} {n m tag k status r opcode : Nat} {o x : Op}

theorem op?_congr (h : t.ops = s.ops) (n tag : Nat) : t.op? n tag = s.op? n tag := by simp only [State.op?, h]

theorem runOp_of_opRuns {form : Op → Bool} (h : s.opRuns n tag opcode o) (hf : form o = true) (f : Op → State → State) :
    s.runOp n tag opcode form f = f o s := by
  obtain ⟨ho, hop, hfin, hst, hstarted, hwant⟩ := h
  have hl : o.live = true := by simp [Op.live, hfin, (op?_key ho).2.2]
  exact runOp_runs f ho hop hl (by simp [Op.active, Op.eff, hst]) hstarted hwant hf

theorem op?_endOp_same (ho : s.op? n tag = some o) : (s.endOp n tag status r).op? n tag = some (o.finish s.stamp status r) :=
  (op?_modOp_same s n tag (Op.finish_keepsKey _ _ _)).trans (congrArg (Option.map _) ho)

theorem op?_endOp_other (h : ¬ (m = n ∧ k = tag)) : (s.endOp n tag status r).op? m k = s.op? m k :=
  op?_modOp_other s (Op.finish_keepsKey _ _ _) h

/-- A RUNNING operation ends as told. -/
theorem ends_endOp (ho : s.op? n tag = some o) (hfin : o.fin = none) (hst : o.st = .running) (hr : r < 2 ^ 32) :
    Ends s (s.endOp n tag status r) n tag status r := by
  refine ⟨_, op?_endOp_same ho, ?_⟩
  rw [finish_fin hfin (by rw [hst]; decide), Nat.mod_eq_of_lt hr]

/-- Only data lost while HALTED changes the status an operation ends with, and only that of a success (R157). -/
theorem endsAs_endOp (ho : s.op? n tag = some o) (hfin : o.fin = none)
    (hs : o.st ≠ .halted ∨ (status ≠ 0 ∧ status ≠ 2)) : EndsAs (s.endOp n tag status r) n tag status := by
  refine ⟨_, { status := status, result := r % 2 ^ 32, time := s.stamp }, op?_endOp_same ho, ?_, rfl⟩
  have hl : ¬ (o.st = .halted ∧ o.dropped ≠ 0 ∧ (status = 0 ∨ status = 2)) := by
    rintro ⟨hh, -, h⟩
    rcases hs with hs | hs
    · exact hs hh
    · omega
  simp [Op.finish, hfin, hl]

theorem EndsAs.congr (h : EndsAs s n tag status) (e : t.op? n tag = s.op? n tag) : EndsAs t n tag status := by
  unfold EndsAs at h ⊢
  rwa [e]

theorem Ends.congr {s' t' : State} (h : Ends s t n tag status r) (ht : t'.ops = t.ops) (hs : s'.tm = s.tm) :
    Ends s' t' n tag status r := by
  unfold Ends State.stamp at h ⊢
  rwa [op?_congr ht, hs]

end

/-! ### Slices powered down -/

/-- The fields of LINE_STAT that a slice powered down clears (R289). -/
def idledFlds : List Fld := [LINE_STAT_LSTATE, LINE_STAT_FORMAT, LINE_STAT_SIG, LINE_STAT_LOCK, LINE_STAT_SETTLED, LINE_STAT_TX_ON,
  LINE_STAT_TXTIME, LINE_STAT_TX_HOLDOVER]

/-- The forces that end with it (R390). -/
def forceFlds : List Fld := [OV_FORCE_AIS, OV_FORCE_RDI, OV_FORCE_UNEQ, OV_FORCE_LOF, OV_FORCE_LOS, OV_FORCE_LCK, OV_FORCE_LF,
  OV_FORCE_RF]

section
variable {β : Type} {W : Nat → Prop} {K : Line → β} {O L : Prop} {s t : State} {i j : Nat}

theorem Beside.dropPartner (h : Beside W K O L s t) (hK : ∀ x a, K { x with autoneg := a } = K x) :
    Beside W K O L s (t.dropPartner i) := by
  have ho : (t.ovh i).Good True := h.good.ovh
  have h1 : Beside W K O L s (t.setOvh i { t.ovh i with acc := [], latest := [], cand := [] }) :=
    h.setOvh { ho with acc := .nil, latest := .nil, cand := .nil } fun _ => rfl
  exact h1.setLine h.good.line.update (hK ..)

/-- A slice powered down: registers of its own block, its line and its overhead. -/
theorem Beside.idleSlice (h : Beside W K O L s t) (hW : ∀ k, inSlice j k → W k) (hK : ∀ x y, K x = K y) (hL : ¬ L) :
    Beside W K O L s (t.idleSlice j) := by
  have wr {u : State} {f : Fld} {v : Nat} (hu : Beside W K O L s u) (hf : f.ofSlice := by unfold Fld.ofSlice; decide) :
      Beside W K O L s (u.wr f v j) := hu.wr (hW _ (Fld.inSlice_key hf.1 hf.2))
  unfold State.idleSlice
  extract_lets t1 t2 t3 t4 o _ t5 x
  have h1 : Beside W K O L s t1 := .dropPartner (h.frStop (fun k hk => hW k hk.1) fun _ _ => hK ..) fun _ _ => hK ..
  have h3 : Beside W K O L s t3 := wr (wr (wr (wr (wr (wr (wr (wr h1)))))))
  have h4 : Beside W K O L s t4 := h3.foldl fun {_ f} hf hu => wr hu (by unfold Fld.ofSlice; revert f; decide)
  have h5 : Beside W K O L s t5 := h4.setOvh (.blanked h4.good.ovh.restart) fun l => absurd l hL
  exact wr (h5.setLine Line.Good.init.update (hK ..))

/-- The clearing of a slice's registers as it is powered down. -/
def State.idledRegs (s : State) (j : Nat) : State :=
  (idledFlds ++ forceFlds).foldl (fun s f => s.wr f 0 j) ((s.frStop j).dropPartner j)

/-- After its registers a slice loses its overhead's and its line's state. -/
theorem State.idleSlice_eq (s : State) (j : Nat) :
    ∃ o x, s.idleSlice j = (((s.idledRegs j).setOvh j o).setLine j x).wr OV_LPRBS_HELD 0 j := by
  rw [State.idledRegs, List.foldl_append]
  simp only [idledFlds, List.foldl_cons, List.foldl_nil]
  unfold forceFlds State.idleSlice
  exact ⟨_, _, rfl⟩

theorem State.Good.idledRegs (h : s.Good True) : (s.idledRegs j).Good True := .wrFlds h.frStop.dropPartner

theorem State.rd_idleSlice (h : s.Good True) {f : Fld} (hf : OV_LPRBS_HELD.key j 0 ≠ f.key j 0) :
    (s.idleSlice j).rd f j = (s.idledRegs j).rd f j := by
  obtain ⟨o, x, e⟩ := s.idleSlice_eq j
  have hr {u : State} (hu : u.Good True) : (((u.setOvh j o).setLine j x).wr OV_LPRBS_HELD 0 j).rd f j = u.rd f j :=
    State.rd_wr_other (s := (u.setOvh j o).setLine j x) (hu.regs trivial) _ _ _ _ _ hf.symm
  exact e ▸ hr h.idledRegs

/-- What an IDLE slice reads (R289, R294, R329). -/
def idledReads : List (Fld × Nat) := (FR_STAT_STATE, 3) :: idledFlds.map fun f => (f, 0)

theorem idledReads_place {f : Fld} {v : Nat} (hf : (f, v) ∈ idledReads) :
    f.ofSlice ∧ OV_LPRBS_HELD.place 0 ≠ f.place 0 := by
  have h : ∀ e ∈ idledReads, e.1.ofSlice ∧ OV_LPRBS_HELD.place 0 ≠ e.1.place 0 := by
    unfold Fld.ofSlice
    decide
  exact h _ hf

theorem State.rd_idleSlice_idled (h : s.Good True) (hj : j < 8192) {f : Fld} {v : Nat} (hf : (f, v) ∈ idledReads) :
    (s.idleSlice j).rd f j = v := by
  obtain ⟨ho, hne⟩ := idledReads_place hf
  rw [State.rd_idleSlice h (Fld.key_ne (by decide) ho.2 hne)]
  have h1 : ((s.frStop j).dropPartner j).Good True := h.frStop.dropPartner
  rcases List.mem_cons.mp hf with e | hf
  · obtain ⟨rfl, rfl⟩ := Prod.mk.inj e
    exact (State.rd_wrFlds_other h1 (by decide)).trans (State.frState_frStop h hj)
  · obtain ⟨g, hg, e⟩ := List.mem_map.mp hf
    obtain ⟨rfl, rfl⟩ := Prod.mk.inj e
    rw [State.idledRegs, State.rd_wrFlds h1 (by decide) (List.mem_append_left _ hg), Nat.zero_mod]

/-- A group powered down: each slice in it reads IDLE, one that read so before included. -/
theorem State.rd_idleLine (h : s.Good True) {f : Fld} {v k : Nat} (hf : (f, v) ∈ idledReads) (hk : k < 8192)
    (hv : k ∈ s.group i ∨ s.rd f k = v) : (s.idleLine i).rd f k = v := by
  have ho : f.ofSlice := (idledReads_place hf).1
  have hg : ((s.group i).foldl (fun s j => s.idleSlice j) s).Good True := h.foldl fun h => h.idleSlice
  have hs : Beside (fun _ => False) (fun _ => ()) True True _ (s.idleLine i) := (Beside.refl hg).lineFire.pmScan
  refine (hs.rd_slice hk ho not_false).trans (rd_foldl_slices h (fun h => h.idleSlice) (fun {t j} hj ht hkj => ?_) hv)
  by_cases e : k = j
  · subst e
    exact State.rd_idleSlice_idled ht hk hf
  · have hb : Beside (inSlice j) (fun _ => ()) True False t (t.idleSlice j) :=
      (Beside.refl ht).idleSlice (fun _ => id) (fun _ _ => rfl) id
    refine (hb.rd_slice hk ho fun hn => ?_).trans (hkj.resolve_left e)
    have := Fld.inSlice_key (i := k) ho.1 ho.2
    unfold inSlice at this hn
    omega

/-- A group powered down leaves operations, memory and clocks. -/
theorem State.idleLine_beside (h : s.Good True) : Beside (fun _ => True) (fun _ => ()) True False s (s.idleLine i) :=
  .pmScan (.lineFire ((Beside.refl h).foldl fun _ hu => hu.idleSlice (fun _ _ => trivial) (fun _ _ => rfl) id))

/-! ### The end of an ACQUIRE -/

variable {a : Acq} {o : Op} {status : Nat}

theorem State.acqEnd_eq (ha : (s.line i).acq = some a) : s.acqEnd i status =
    (s.endOp a.sess a.tag status (s.acqResult i (s.rd LINE_STAT_STAGE i))).idleLine i := by
  unfold State.acqEnd
  rw [ha]

theorem State.acqEnd_beside (h : s.Good True) (ha : (s.line i).acq = some a) :
    Beside (fun _ => True) (fun _ => ()) False False s (s.acqEnd i status) := by
  rw [State.acqEnd_eq ha]
  have hb := State.idleLine_beside (i := i) (h.endOp (n := a.sess) (tag := a.tag) (status := status)
    (result := s.acqResult i (s.rd LINE_STAT_STAGE i)))
  exact { hb with ops := False.elim, los := False.elim }

theorem State.rd_acqEnd (h : s.Good True) (ha : (s.line i).acq = some a) {f : Fld} {v k : Nat}
    (hf : (f, v) ∈ idledReads) (hk : k < 8192) (hv : k ∈ s.group i ∨ s.rd f k = v) : (s.acqEnd i status).rd f k = v := by
  rw [State.acqEnd_eq ha]
  exact State.rd_idleLine h.endOp hf hk hv

theorem State.op?_acqEnd (h : s.Good True) (ha : (s.line i).acq = some a) (n tag : Nat) : (s.acqEnd i status).op? n tag =
    (s.endOp a.sess a.tag status (s.acqResult i (s.rd LINE_STAT_STAGE i))).op? n tag := by
  rw [State.acqEnd_eq ha]
  exact op?_congr ((State.idleLine_beside h.endOp).ops trivial) ..

end

end Sys2Proof.Machine

end

section
/-! # The signal's coming and going -/

namespace Sys2Proof.Machine

open Reg

set_option Elab.async false

section
variable {β : Type} {W : Nat → Prop} {K : Line → β} {O L : Prop} {s t : State} {i : Nat}

/-! ### LOS -/

/-- What follows hardware's own detection of a defect leaves LOS as detected. -/
theorem Beside.ofHwDefect1 {c code : Nat} {on : Bool} (h : s.Good True) :
    Beside W K True True (s.hwDefect1 c code on) (s.hwDefect c code on) :=
  have h1 : Beside W K True True (s.hwDefect1 c code on) (s.hwDefect1 c code on) := .refl h.hwDefect1
  .either (.foldl h1.holdCleared fun _ h => .either h.holdCleared h) h1

/-- LOS is detected as told: no server signal fail holds it cleared. -/
theorem State.los_hwDefect (h : s.Good True) (on : Bool) : ((s.hwDefect i 1 on).ovh i).hw.testBit 1 = on := by
  refine ((Beside.ofHwDefect1 h (W := fun _ => True) (K := Line.acq)).los trivial i).trans ?_
  unfold State.hwDefect1
  extract_lets o layer held on'
  have e : on' = on := Bool.and_true on
  split
  next hs => exact hs.trans e
  next =>
    have h1 : (s.setOvh i { o with hw := setBitsAt o.hw 1 1 (boolNat on') }).Good True := h.setOvh h.ovh.update
    refine ((Beside.settleDefect (.self h1 (W := fun _ => True) (K := Line.acq))).los trivial i).trans ?_
    rw [State.ovh_setOvh_same (h.ovhs trivial), e]
    exact testBit_one_setBitsAt ..

/-! ### What the loss of a signal ends -/

theorem Beside.endOp {n tag status r : Nat} (h : Beside W K O L s t) (hO : ¬ O) :
    Beside W K O L s (t.endOp n tag status r) := h.modOp hO

theorem Beside.soundEnd {o : Op} {status count aux time : Nat} {body : List Byte} (h : Beside W K O L s t) (hO : ¬ O) :
    Beside W K O L s (t.soundEnd o status count aux time body) :=
  .either ((h.modOp hO).endOp hO) ((h.modOp hO).endOp hO)

theorem Beside.soundsLost {status : Nat} {wanderOnly : Bool} (h : Beside W K O L s t) (hO : ¬ O) :
    Beside W K O L s (t.soundsLost i status wanderOnly) := by
  refine h.foldl fun _ h => ?_
  split
  · exact .either h (h.soundEnd hO)
  · exact h.soundEnd hO
  · exact h

theorem Beside.probeEnd {status : Nat} (h : Beside W Line.acq O L s t) (hO : ¬ O) (hW : W (OV_LPRBS_HELD.key i 0)) :
    Beside W Line.acq O L s (t.probeEnd i status) := by
  unfold State.probeEnd
  extract_lets x t1 t2 body
  split
  · exact h
  · have h2 : Beside W Line.acq O L s t2 := .wr (h.setLine h.good.line.update rfl) hW
    split
    · exact h2
    · exact h2.soundEnd hO

/-- With the signal go the partner's data, the soundings that measure it and a LOOP_PROBE. -/
def State.signalGone (s : State) (i : Nat) : State :=
  let s := (s.dropPartner i).soundsLost i sndNoSignal false
  if (s.line i).probe.isSome then s.probeEnd i sndNoSignal else s

theorem Beside.signalGone (h : Beside W Line.acq O L s t) (hO : ¬ O) (hW : W (OV_LPRBS_HELD.key i 0)) :
    Beside W Line.acq O L s (t.signalGone i) :=
  have h1 := (h.dropPartner fun _ _ => rfl).soundsLost hO
  .either (h1.probeEnd hO hW) h1

/-- SIG shows the signal's absence, or its presence and since when. -/
def State.showSig (s : State) (i : Nat) (since : Option Nat) : State :=
  (s.wr LINE_STAT_SIG (boolNat since.isSome) i).setLine i { s.line i with sigSince := since }

theorem State.Good.showSig {since : Option Nat} (h : s.Good True) : (s.showSig i since).Good True := .setLine h.wr h.line.update

theorem State.rd_showSig {since : Option Nat} (h : s.Good True) : (s.showSig i since).rd LINE_STAT_SIG i = boolNat since.isSome :=
  (State.rd_wr_same (s := s) (h.regs trivial) LINE_STAT_SIG _ i 0).trans (by cases since <;> rfl)

theorem State.sigSince_showSig {since : Option Nat} (h : s.Good True) : ((s.showSig i since).line i).sigSince = since :=
  congrArg Line.sigSince (State.line_setLine_same (s := s.wr LINE_STAT_SIG (boolNat since.isSome) i) (h.lines trivial) ..)

/-- LOS is declared. -/
def State.losDeclared (s : State) (i : Nat) : State := (((s.showSig i none).hwDefect i 0x01 true).count (128 + i)).lineFire i

/-- The loss reaches the framer of the slice, or of its group (R355). -/
def State.losFramed (s : State) (lead : Nat) : State :=
  if fmtBonded (s.fmt lead) then s.groupOof lead 2 else s.frLost lead

/-- An attempt beyond SIGNAL fails. -/
def State.losAttempt (s : State) (lead : Nat) : State :=
  match (s.line lead).acq with
  | some _ => if 1 < s.rd LINE_STAT_STAGE lead then s.failAttempt lead else s
  | none => s

theorem State.signalLost_eq (hs : s.flag LINE_STAT_SIG i = true) : let lead := ((s.losDeclared i).groupLead? i).getD i
    s.signalLost i = (((s.losDeclared i).losFramed lead).signalGone i).losAttempt lead := by
  intro lead
  unfold State.signalLost
  rw [if_neg (by rw [hs]; exact Bool.false_ne_true)]
  rfl

theorem Beside.losFramed {lead : Nat} (h : Beside W Line.acq O L s t) (hW : ∀ k, ofFramer lead k → W k) :
    Beside W Line.acq O L s (t.losFramed lead) :=
  .either (h.groupOof hW fun _ _ => rfl) (h.frLost hW fun _ _ => rfl)

theorem State.Good.losDeclared (h : s.Good True) : (s.losDeclared i).Good True :=
  .lineFire (.count (.hwDefect h.showSig))

/-- The declaration writes SIG alone. -/
theorem Beside.losDeclared (h : Beside W Line.acq O L s t) (hL : ¬ L) (hW : W (LINE_STAT_SIG.key i 0)) :
    Beside W Line.acq O L s (t.losDeclared i) :=
  .lineFire (.count (.hwDefect (.setLine (h.wr hW) h.good.line.update rfl) fun l => absurd l hL))

theorem State.los_losDeclared (h : s.Good True) : ((s.losDeclared i).ovh i).hw.testBit 1 = true := by
  have hb : Beside (fun _ => True) Line.acq True True ((s.showSig i none).hwDefect i 0x01 true) (s.losDeclared i) :=
    (Beside.refl h.showSig.hwDefect).count.lineFire
  exact (hb.los trivial i).trans (State.los_hwDefect h.showSig true)

theorem State.rd_sig_losDeclared (h : s.Good True) (hi : i < 24) : (s.losDeclared i).rd LINE_STAT_SIG i = 0 := by
  have hb : Beside (fun _ => False) Line.acq True False (s.showSig i none) (s.losDeclared i) :=
    .lineFire (.count (.hwDefect (.refl h.showSig) False.elim))
  exact (hb.rd_slice (by omega) (by unfold Fld.ofSlice; decide) not_false).trans (State.rd_showSig h)

theorem State.groupLead_lt {lead : Nat} (hi : i < 24) (hl : (s.groupLead? i).getD i = lead) : lead < 24 := by
  unfold State.groupLead? at hl
  split at hl <;> simp at hl <;> omega

/-- A failing attempt keeps a slice's SIG at 0, and memory as it is. -/
theorem State.sig_failAttempt {k : Nat} (h : s.Good True) (hi : i < 24) (hk : k < 8192) (h0 : s.rd LINE_STAT_SIG k = 0) :
    (s.failAttempt i).rd LINE_STAT_SIG k = 0 ∧ (s.failAttempt i).mem = s.mem := by
  unfold State.failAttempt
  split
  next => exact ⟨h0, rfl⟩
  next a ha =>
    split
    · have hs := State.startAttempt_starts (h.bump (f := LINE_STAT_RESTARTS) (i := i) (j := 0) (n := 1)) hi ha
      refine ⟨(hs.steady LINE_STAT_SIG (by decide) k hk).trans ?_, hs.mem⟩
      exact (State.rd_wr_other (h.regs trivial) _ _ _ _ _ (Fld.key_ne (by decide) (by decide) (by decide))).trans h0
    · exact ⟨State.rd_acqEnd h ha (by decide) hk (.inr h0), (State.acqEnd_beside h ha).mem⟩

theorem State.sig_signalLost (h : s.Good True) (hi : i < 24) (hs : s.flag LINE_STAT_SIG i = true) :
    (s.signalLost i).rd LINE_STAT_SIG i = 0 ∧ (s.signalLost i).mem = s.mem := by
  rw [State.signalLost_eq hs]
  generalize hl : ((s.losDeclared i).groupLead? i).getD i = lead
  have hlead := State.groupLead_lt hi hl
  have hb : Beside (butFor LINE_STAT_SIG i) Line.acq False True (s.losDeclared i)
      (((s.losDeclared i).losFramed lead).signalGone i) :=
    .signalGone (.losFramed (.refl h.losDeclared) (butFor_ofFramer (by decide))) id
      (Fld.key_ne (by decide) (by decide) (by decide))
  have h0 := hb.rd_butFor.trans (State.rd_sig_losDeclared h hi)
  have hd : Beside (fun _ => True) Line.acq True False s (s.losDeclared i) := (Beside.refl h).losDeclared id trivial
  have hm := hb.mem.trans hd.mem
  unfold State.losAttempt
  split
  · split
    · exact (State.sig_failAttempt hb.good hlead (by omega) h0).imp id fun e => e.trans hm
    · exact ⟨h0, hm⟩
  · exact ⟨h0, hm⟩

/-- On a slice of its own with no ACQUIRE in progress the loss leads to LOS and takes a framer in SYNC to HUNT with cause 2. -/
theorem State.signalLost_acquired (h : s.Good True) (hi : i < 24) (hs : s.flag LINE_STAT_SIG i = true)
    (hg : s.groupLead? i = none) (hf : fmtBonded (s.fmt i) = false) (ha : (s.line i).acq = none) :
    ((s.signalLost i).ovh i).hw.testBit 1 = true ∧
      (s.frState i = 2 → (s.signalLost i).frState i = 0 ∧ (s.signalLost i).rd FR_STAT_CAUSE i = 2) := by
  have hd {f : Fld} (k : Nat) (hk : k < 8192) (hn : f.ofSlice ∧ LINE_STAT_SIG.place 0 ≠ f.place 0) :
      (s.losDeclared i).rd f k = s.rd f k :=
    ((Beside.refl h).losDeclared (W := butFor f k) (O := True) (L := False) (i := i) id
      (Fld.key_ne (by decide) hn.1.2 hn.2)).rd_butFor hk hn.1
  have hgd : (s.losDeclared i).groupLead? i = none := by
    unfold State.groupLead? State.fmt at hg ⊢
    rwa [hd (f := LINE_STAT_FORMAT) _ (by omega) (by unfold Fld.ofSlice; decide)]
  have hfd : (s.losDeclared i).fmt i = s.fmt i := hd (f := LINE_STAT_FORMAT) i (by omega) (by unfold Fld.ofSlice; decide)
  have hsd : (s.losDeclared i).frState i = s.frState i := hd (f := FR_STAT_STATE) i (by omega) (by unfold Fld.ofSlice; decide)
  have had : ((s.losDeclared i).line i).acq = none :=
    (((Beside.refl h).losDeclared (W := fun _ => True) (O := True) (L := False) (i := i) id trivial).line i).trans ha
  have e : s.signalLost i = ((s.losDeclared i).frLost i).signalGone i := by
    have hb : Beside (fun _ => True) Line.acq False True (s.losDeclared i) (((s.losDeclared i).frLost i).signalGone i) :=
      ((Beside.refl h.losDeclared).frLost (fun _ _ => trivial) fun _ _ => rfl).signalGone id trivial
    rw [State.signalLost_eq hs, hgd, Option.getD_none, State.losFramed, if_neg (by rw [hfd, hf]; exact Bool.false_ne_true),
      State.losAttempt, (hb.line i).trans had]
  rw [e]
  generalize hu : s.losDeclared i = u at *
  have hgu : u.Good True := hu ▸ h.losDeclared
  have hb {g : Fld} (hg : g.place 0 < 2 ^ 30 ∧ OV_LPRBS_HELD.place 0 ≠ g.place 0) :
      Beside (butFor g i) Line.acq False True (u.frLost i) ((u.frLost i).signalGone i) :=
    (Beside.refl hgu.frLost).signalGone id (Fld.key_ne (by decide) hg.1 hg.2)
  constructor
  · have hl : Beside (fun _ => True) Line.acq True True u (u.frLost i) :=
      (Beside.refl hgu).frLost (fun _ _ => trivial) fun _ _ => rfl
    refine ((hb (g := LINE_STAT_SIG) (by decide)).los trivial i).trans ((hl.los trivial i).trans ?_)
    exact hu ▸ State.los_losDeclared h
  · intro h2
    obtain ⟨h3, h4⟩ := State.frLost_hunts hgu (by omega) (hsd.trans h2)
    exact ⟨(hb (g := FR_STAT_STATE) (by decide)).rd_butFor.trans h3, (hb (g := FR_STAT_CAUSE) (by decide)).rd_butFor.trans h4⟩

/-- A signal that comes shows in SIG and ends LOS (R286). -/
theorem State.signalFound_shows (h : s.Good True) (hi : i < 24) (hs : s.flag LINE_STAT_SIG i = false) :
    let t := s.signalFound i
    (t.rd LINE_STAT_SIG i = 1 ∧ (t.line i).sigSince = some s.clock ∧ (t.ovh i).hw.testBit 1 = false) ∧ t.mem = s.mem := by
  intro t
  have e : t = ((s.showSig i (some s.clock)).hwDefect i 0x01 false).lineFire i := by
    unfold t State.signalFound
    rw [if_neg (by rw [hs]; exact Bool.false_ne_true)]
    rfl
  have hb : Beside (fun _ => False) Line.sigSince True False (s.showSig i (some s.clock)) t :=
    e ▸ ((Beside.refl h.showSig).hwDefect False.elim).lineFire
  have hl : Beside (fun _ => True) Line.acq True True ((s.showSig i (some s.clock)).hwDefect i 0x01 false) t :=
    e ▸ (Beside.refl h.showSig.hwDefect).lineFire
  exact ⟨⟨(hb.rd_slice (by omega) (by unfold Fld.ofSlice; decide) not_false).trans (State.rd_showSig h),
    (hb.line i).trans (State.sigSince_showSig h), (hl.los trivial i).trans (State.los_hwDefect h.showSig false)⟩, hb.mem⟩

end

end Sys2Proof.Machine

end

section
/-! # ACQUIRE, RELEASE_LINE, the stage timer and the signal -/

namespace Sys2Proof.Machine

open Reg

set_option Elab.async false

/-! ### ACQUIRE -/

/-- The ACQUIRE `o` as it takes its slice. -/
def State.acquireBegun (s : State) (n tag : Nat) (o : Op) : Acq :=
  { sess := n, tag := tag, p1 := o.par 1, p2 := o.par 2, furthest := 0, due := none, rem := none, power := s.inMs 2,
    suspended := false, loss := none }

/-- The operation is past its beginning. -/
def Op.begun (o : Op) : Op := { o with stage := 1 }

/-- What ACQUIRE writes of a slice of its own before the first attempt starts. -/
def State.acquireSlice (s : State) (i n tag : Nat) (o : Op) : State :=
  let s := s.modOp n tag Op.begun
  let s := ((s.wr LINE_STAT_FORMAT (o.par 0 % 128) i).wr LINE_STAT_LSTATE 1 i).setLine i
    { s.line i with opts := o.par 2, sigSince := none }
  (s.setLine i { s.line i with acq := some (s.acquireBegun n tag o) }).wr LINE_STAT_RESTARTS 0 i

section
variable {s : State} {i : Nat} {a : Acq} {n : Fin 16} {tag : Nat} {o : Op}

theorem exec_acquire (hr : s.opRuns n tag 0x10 o) (h0 : o.stage = 0) (ho : objSlice? o.obj = some i)
    (hf : fmtBonded (o.par 0 % 128) = false) :
    exec (.acquire n tag) s = .next ((s.acquireSlice i n tag o).startAttempt i).pmScan := by
  refine congrArg Host.Outcome.next ((runOp_of_opRuns (form := fun o => o.stage = 0) hr (decide_eq_true h0) _).trans ?_)
  simp only [ho, groupOf_single hf, List.foldl_cons, List.foldl_nil, if_true]
  rfl

theorem State.Good.acquireTaken (h : s.Good True) : (((((s.modOp n tag Op.begun).wr LINE_STAT_FORMAT (o.par 0 % 128) i).wr
    LINE_STAT_LSTATE 1 i).setLine i { s.line i with opts := o.par 2, sigSince := none })).Good True :=
  .setLine h.modOp.wr.wr h.line.update

theorem State.Good.acquireSlice (h : s.Good True) : (s.acquireSlice i n tag o).Good True :=
  have h1 := h.acquireTaken (i := i) (n := n) (tag := tag) (o := o)
  .wr (.setLine h1 h1.line.update)

theorem State.acq_acquireSlice (h : s.Good True) : ((s.acquireSlice i n tag o).line i).acq = some (s.acquireBegun n tag o) :=
  congrArg Line.acq (State.line_setLine_same ((h.acquireTaken (i := i) (n := n) (tag := tag) (o := o)).lines trivial) ..)

/-- The fields that ACQUIRE writes, and the timer it starts. -/
theorem State.rd_acquireSlice (h : s.Good True) : let t := s.acquireSlice i n tag o
    t.rd LINE_STAT_LSTATE i = 1 ∧ t.rd LINE_STAT_FORMAT i = o.par 0 % 128 ∧ t.rd LINE_STAT_RESTARTS i = 0 ∧
      t.rd ACQ_TMO0_T_SIGNAL i = s.rd ACQ_TMO0_T_SIGNAL i := by
  have hm : (s.modOp n tag Op.begun).Good True := h.modOp
  have e (g : Fld) : (s.acquireSlice i n tag o).rd g i = ((((s.modOp n tag Op.begun).wr LINE_STAT_FORMAT (o.par 0 % 128) i).wr
    LINE_STAT_LSTATE 1 i).wr LINE_STAT_RESTARTS 0 i).rd g i := rfl
  refine ⟨?_, ?_, ?_, ?_⟩
  · rw [e, State.rd_wr_ne hm.wr.wr LINE_STAT_RESTARTS LINE_STAT_LSTATE]
    exact State.rd_wr_same (hm.wr.regs trivial) ..
  · rw [e, State.rd_wr_ne hm.wr.wr LINE_STAT_RESTARTS LINE_STAT_FORMAT, State.rd_wr_ne hm.wr LINE_STAT_LSTATE LINE_STAT_FORMAT]
    exact (State.rd_wr_same (hm.regs trivial) ..).trans (Nat.mod_mod ..)
  · rw [e]
    exact State.rd_wr_same (hm.wr.wr.regs trivial) ..
  · rw [e, State.rd_wr_ne hm.wr.wr LINE_STAT_RESTARTS ACQ_TMO0_T_SIGNAL, State.rd_wr_ne hm.wr LINE_STAT_LSTATE ACQ_TMO0_T_SIGNAL,
      State.rd_wr_ne hm LINE_STAT_FORMAT ACQ_TMO0_T_SIGNAL]
    rfl

/-- ACQUIRE makes its slice ACQUIRING at stage 1 with T_SIGNAL running (R286 to R288). -/
theorem acquire_starts (h : s.Good True) (hi : i < 24) (hr : s.opRuns n tag 0x10 o) (h0 : o.stage = 0)
    (ho : objSlice? o.obj = some i) (hf : fmtBonded (o.par 0 % 128) = false) : DoesWide (.acquire n tag) s fun t =>
      t.rd LINE_STAT_LSTATE i = 1 ∧ t.rd LINE_STAT_FORMAT i = o.par 0 % 128 ∧ t.rd LINE_STAT_STAGE i = 1 ∧
      t.rd LINE_STAT_RESTARTS i = 0 ∧ t.rd LINE_STAT_LOCK i = 0 ∧ t.rd LINE_STAT_SETTLED i = 0 ∧
      t.op? n tag = some o.begun ∧
      (t.line i).acq = some { s.acquireBegun n tag o with furthest := 1, due := some (s.clock + 1000000 * s.stageMs i 1) } := by
  refine ⟨_, exec_acquire hr h0 ho hf, ?_⟩
  obtain ⟨hl, hfmt, hre, hms⟩ := State.rd_acquireSlice (i := i) (n := n) (tag := tag) (o := o) h
  have hua := State.acq_acquireSlice (i := i) (n := n) (tag := tag) (o := o) h
  have hug := h.acquireSlice (i := i) (n := n) (tag := tag) (o := o)
  have hu : (s.acquireSlice i n tag o).clock = s.clock ∧ (s.acquireSlice i n tag o).mem = s.mem ∧
    (s.acquireSlice i n tag o).ops = (s.modOp n tag Op.begun).ops := ⟨rfl, rfl, rfl⟩
  generalize s.acquireSlice i n tag o = u at *
  obtain ⟨hclock, hmem, hops⟩ := hu
  have hs := State.startAttempt_starts hug hi hua
  have hb : Beside (fun _ => False) Line.acq True True (u.startAttempt i) (u.startAttempt i).pmScan := (Beside.refl hs.good).pmScan
  have rd {g : Fld} (hg : g.ofSlice) : (u.startAttempt i).pmScan.rd g i = (u.startAttempt i).rd g i :=
    hb.rd_slice (by omega) hg not_false
  have st {g : Fld} (hg : g ∈ attemptSteady) : (u.startAttempt i).pmScan.rd g i = u.rd g i :=
    (rd (attemptSteady_place hg).1).trans (hs.steady g hg i (by omega))
  have hop : (u.startAttempt i).pmScan.op? n tag = some o.begun := by
    rw [op?_congr ((hb.ops trivial).trans (hs.ops.trans hops)), op?_modOp_same s n tag (f := Op.begun) fun _ => ⟨rfl, rfl, rfl⟩,
      hr.1]
    rfl
  have hacq : ((u.startAttempt i).pmScan.line i).acq =
      some { s.acquireBegun n tag o with furthest := 1, due := some (s.clock + 1000000 * s.stageMs i 1) } := by
    refine (hb.line i).trans ((hs.acq _ hua).trans ?_)
    rw [State.entered_timed rfl]
    simp only [State.stageMs, hms, hclock]
    rfl
  exact ⟨⟨(st (by decide)).trans hl, (st (by decide)).trans hfmt, (rd (by unfold Fld.ofSlice; decide)).trans hs.stage,
    (st (by decide)).trans hre, (rd (by unfold Fld.ofSlice; decide)).trans hs.lock,
    (rd (by unfold Fld.ofSlice; decide)).trans hs.settled, hop, hacq⟩, hb.mem.trans (hs.mem.trans hmem)⟩

/-! ### RELEASE_LINE -/

theorem exec_releaseLine (hr : s.opRuns n tag 0x11 o) (ho : objSlice? o.obj = some i) : exec (.releaseLine n tag) s =
    .next (if s.rd LINE_STAT_LSTATE i = 3 then s.endOp n tag eBusy 0 else (s.releaseLine i doneCancelled).endOp n tag doneOk 0) := by
  refine congrArg Host.Outcome.next ((runOp_of_opRuns (form := fun _ => true) hr rfl _).trans ?_)
  rw [ho]

/-- RELEASE_LINE of a bonded member answers E_BUSY (R274). -/
theorem releaseLine_bonded (h : s.Good True) (hr : s.opRuns n tag 0x11 o) (ho : objSlice? o.obj = some i)
    (h3 : s.rd LINE_STAT_LSTATE i = 3) : OpDoes (.releaseLine n tag) s n tag 0x10 0 [] fun t => t.lines = s.lines := by
  have ⟨hop, _, hfin, hst, _⟩ := hr
  have he : Held [] s (s.endOp n tag eBusy 0) := (Held.refl h).step h.endOp rfl rfl
  exact he.does ((exec_releaseLine hr ho).trans (by rw [if_pos h3])) ⟨ends_endOp hop hfin hst (by decide), rfl⟩

/-- RELEASE_LINE of an ACQUIRED slice powers it down (R294). -/
theorem releaseLine_acquired (h : s.Good True) (hi : i < 24) (hr : s.opRuns n tag 0x11 o) (ho : objSlice? o.obj = some i)
    (h2 : s.rd LINE_STAT_LSTATE i = 2) (ha : (s.line i).acq = none) : DoesWide (.releaseLine n tag) s fun t =>
      Ends s t n tag 0 0 ∧ t.rd LINE_STAT_LSTATE i = 0 ∧ t.rd LINE_STAT_TX_ON i = 0 := by
  have e : s.releaseLine i doneCancelled = s.idleLine i := by
    unfold State.releaseLine
    rw [ha]
    exact if_pos h2
  have ⟨hop, _, hfin, hst, _⟩ := hr
  have hb := State.idleLine_beside (i := i) h
  have idle {f : Fld} (hf : (f, 0) ∈ idledReads) : (s.idleLine i).rd f i = 0 :=
    State.rd_idleLine h hf (by omega) (.inl (s.self_mem_group i))
  have hends : Ends (s.idleLine i) ((s.idleLine i).endOp n tag doneOk 0) n tag 0 0 :=
    ends_endOp ((op?_congr (hb.ops trivial) n tag).trans hop) hfin hst (by decide)
  exact ⟨_, (exec_releaseLine hr ho).trans (by rw [if_neg (by omega), e]),
    ⟨hends.congr rfl hb.tm.symm, idle (by decide), idle (by decide)⟩, hb.mem⟩

/-- RELEASE_LINE ends the ACQUIRE in flight DONE_CANCELLED (R289, R294). -/
theorem releaseLine_acquiring {x : Op} (h : s.Good True) (hi : i < 24) (hr : s.opRuns n tag 0x11 o) (ho : objSlice? o.obj = some i)
    (h1 : s.rd LINE_STAT_LSTATE i = 1) (ha : (s.line i).acq = some a) (hx : s.op? a.sess a.tag = some x) (hfin : x.fin = none)
    (hne : ¬ (a.sess = n.val ∧ a.tag = tag)) : DoesWide (.releaseLine n tag) s fun t =>
      Ends s t n tag 0 0 ∧ EndsAs t a.sess a.tag 1 ∧ t.rd LINE_STAT_LSTATE i = 0 := by
  have e : s.releaseLine i doneCancelled = s.acqEnd i 1 := by
    unfold State.releaseLine
    rw [ha]
    rfl
  have ⟨hop, _, hofin, host, _⟩ := hr
  have hb := State.acqEnd_beside (status := 1) h ha
  have hop' : (s.acqEnd i 1).op? n tag = some o :=
    (State.op?_acqEnd h ha ..).trans ((op?_endOp_other fun e => hne ⟨e.1.symm, e.2.symm⟩).trans hop)
  have hends : Ends (s.acqEnd i 1) ((s.acqEnd i 1).endOp n tag doneOk 0) n tag 0 0 := ends_endOp hop' hofin host (by decide)
  have hacq : EndsAs (s.acqEnd i 1) a.sess a.tag 1 := (endsAs_endOp hx hfin (.inr (by decide))).congr (State.op?_acqEnd h ha ..)
  exact ⟨_, (exec_releaseLine hr ho).trans (by rw [if_neg (by omega), e]),
    ⟨hends.congr rfl hb.tm.symm, hacq.congr (op?_endOp_other hne),
      State.rd_acqEnd h ha (by decide) (by omega) (.inl (s.self_mem_group i))⟩, hb.mem⟩

end

/-! ### The stage timer -/

section
variable {s : State} {i : Fin 24} {a : Acq}

theorem exec_stageTimerExpiry (ha : (s.line i).acq = some a) :
    exec (.stageTimerExpiry i) s = if s.isDue a.due then .next (s.failAttempt i) else .next s := by
  change execStageTimerExpiry i s = _
  unfold execStageTimerExpiry
  simp only [ha]

/-- An attempt that fails restarts while fewer restarts than P1 were made (R287). -/
theorem timer_restarts (h : s.Good True) (ha : (s.line i).acq = some a) (hd : s.isDue a.due = true)
    (hr : s.rd LINE_STAT_RESTARTS i < a.p1 % 16) : DoesWide (.stageTimerExpiry i) s fun t =>
      t.rd LINE_STAT_RESTARTS i = s.rd LINE_STAT_RESTARTS i + 1 ∧ t.rd LINE_STAT_STAGE i = 1 ∧ t.rd LINE_STAT_LOCK i = 0 ∧
      t.frState i = 3 := by
  have e : s.failAttempt i = (s.bump LINE_STAT_RESTARTS i).startAttempt i := by
    unfold State.failAttempt
    rw [ha]
    exact if_pos hr
  have hs := State.startAttempt_starts (h.bump (f := LINE_STAT_RESTARTS) (i := i) (j := 0) (n := 1)) i.isLt ha
  have hb : (s.bump LINE_STAT_RESTARTS i).rd LINE_STAT_RESTARTS i = s.rd LINE_STAT_RESTARTS i + 1 := by
    rw [State.rd_bump_same h, show 2 ^ LINE_STAT_RESTARTS.width = 16 from rfl]
    omega
  exact ⟨_, (exec_stageTimerExpiry ha).trans (by rw [if_pos hd, e]),
    ⟨(hs.steady _ (by decide) i (by omega)).trans hb, hs.stage, hs.lock, hs.framer⟩, hs.mem⟩

/-- With P1 restarts made the ACQUIRE ends E_PARTNER_SILENT (R287, R289). -/
theorem timer_ends {x : Op} (h : s.Good True) (ha : (s.line i).acq = some a) (hd : s.isDue a.due = true)
    (hr : a.p1 % 16 ≤ s.rd LINE_STAT_RESTARTS i) (hx : s.op? a.sess a.tag = some x) (hfin : x.fin = none) :
    DoesWide (.stageTimerExpiry i) s fun t => EndsAs t a.sess a.tag 0x18 ∧ t.rd LINE_STAT_LSTATE i = 0 ∧
      t.rd LINE_STAT_TX_ON i = 0 ∧ t.frState i = 3 := by
  have e : s.failAttempt i = s.acqEnd i 0x18 := by
    unfold State.failAttempt
    rw [ha]
    exact if_neg (by omega)
  have idle {f : Fld} {v : Nat} (hf : (f, v) ∈ idledReads) : (s.acqEnd i 0x18).rd f i = v :=
    State.rd_acqEnd h ha hf (by omega) (.inl (s.self_mem_group i))
  exact ⟨_, (exec_stageTimerExpiry ha).trans (by rw [if_pos hd, e]),
    ⟨(endsAs_endOp hx hfin (.inr (by decide))).congr (State.op?_acqEnd h ha ..), idle (by decide), idle (by decide),
      idle (f := FR_STAT_STATE) (by decide)⟩, (State.acqEnd_beside h ha).mem⟩

end

/-! ### The signal -/

section
variable {s : State} {i : Fin 24}

/-- A powered-down front end reports nothing. -/
theorem signal_idle (h0 : s.rd LINE_STAT_LSTATE i = 0) : Idle (.signalPresent i) s ∧ Idle (.signalAbsent i) s :=
  ⟨if_pos h0, if_pos h0⟩

theorem exec_signalPresent (h0 : s.rd LINE_STAT_LSTATE i ≠ 0) : exec (.signalPresent i) s = .next (s.signalFound i) := if_neg h0

theorem exec_signalAbsent (h0 : s.rd LINE_STAT_LSTATE i ≠ 0) : exec (.signalAbsent i) s = .next (s.signalLost i) := if_neg h0

theorem signal_comes (h : s.Good True) (h0 : s.rd LINE_STAT_LSTATE i ≠ 0) (hs : s.flag LINE_STAT_SIG i = false) :
    (DoesWide (.signalPresent i) s fun t => t.rd LINE_STAT_SIG i = 1 ∧ (t.line i).sigSince = some s.clock ∧
      (t.ovh i).hw.testBit 1 = false) ∧ Idle (.signalAbsent i) s :=
  ⟨⟨_, exec_signalPresent h0, State.signalFound_shows h i.isLt hs⟩,
    (exec_signalAbsent h0).trans (congrArg Host.Outcome.next (if_pos (congrArg not hs)))⟩

theorem signal_goes (h : s.Good True) (h0 : s.rd LINE_STAT_LSTATE i ≠ 0) (hs : s.flag LINE_STAT_SIG i = true) :
    Idle (.signalPresent i) s ∧ DoesWide (.signalAbsent i) s fun t => t.rd LINE_STAT_SIG i = 0 ∧
      (s.groupLead? i = none → fmtBonded (s.fmt i) = false → (s.line i).acq = none → (t.ovh i).hw.testBit 1 = true ∧
        (s.frState i = 2 → t.frState i = 0 ∧ t.rd FR_STAT_CAUSE i = 2)) :=
  have ⟨hsig, hmem⟩ := State.sig_signalLost h i.isLt hs
  ⟨(exec_signalPresent h0).trans (congrArg Host.Outcome.next (if_pos hs)), _, exec_signalAbsent h0,
    ⟨hsig, State.signalLost_acquired h i.isLt hs⟩, hmem⟩

end

end Sys2Proof.Machine

end

section
/-! # The stages of an attempt (Table FE-4) -/

namespace Sys2Proof.Machine

open Reg

set_option Elab.async false

section
variable {s t : State} {keys : List Nat} {i stage : Nat} {a : Acq}

theorem Held.foldl {α : Type} {g : State → α → State} {l : List α} (h : Held keys s t)
    (hg : ∀ {u x}, x ∈ l → Held keys s u → Held keys s (g u x)) : Held keys s (l.foldl g t) :=
  List.foldlRecOn l g h fun _ hu _ hx => hg hx hu

theorem Held.enterStage {timed : Bool} (h : Held keys s t) (hi : i < 24) (hk : LINE_STAT_STAGE.key i 0 ∈ keys) :
    Held keys s (t.enterStage i stage timed) := by
  cases ha : (t.line i).acq with
  | none =>
    unfold State.enterStage
    rwa [ha]
  | some a =>
    rw [State.enterStage_eq ha]
    have hl : Held keys s (t.setLine i { t.line i with acq := some (t.entered i a stage timed) }) :=
      h.step (h.good.setLine h.good.line.update) rfl rfl
    exact (hl.wr hk).fireFree (by simp only [srcReserved, decide_eq_false_iff_not]; omega)

theorem Held.txTiming (h : Held keys s t) (hk : ∀ j ∈ t.group i, LINE_STAT_TXTIME.key j 0 ∈ keys ∧
    LINE_STAT_TX_HOLDOVER.key j 0 ∈ keys) : Held keys s (t.txTiming i) := by
  unfold State.txTiming
  extract_lets p2
  refine h.foldl fun {u j} hj hu => ?_
  obtain ⟨h1, h2⟩ := hk j hj
  split
  · exact hu.wr h1
  · exact .either (.wr (hu.wr h1) h2) (.wr (hu.wr h1) h2)
  · exact hu.wr h1

end

/-! ### SIGNAL -/

section
variable {s : State} {i : Fin 24} {a : Acq} {cs : List (List Nat)}

/-- Every lane has had its signal for 1 ms and the front end is powered. -/
theorem exec_stageComplete_signal (ha : (s.line i).acq = some a) (hs : a.suspended = false) (h1 : s.rd LINE_STAT_STAGE i = 1)
    (hup : ∀ j ∈ s.group i, s.flag LINE_STAT_SIG j = true ∧ ∃ t0, (s.line j).sigSince = some t0 ∧ t0 + 1000000 ≤ s.clock)
    (hp : a.power ≤ s.clock) : exec (.stageComplete i cs) s = .next (s.enterStage i 2) := by
  change execStageComplete i cs s = _
  simp only [execStageComplete, ha, hs, h1, Bool.false_eq_true, if_false]
  refine if_pos ?_
  rw [Bool.and_eq_true, List.all_eq_true]
  refine ⟨fun j hj => ?_, decide_eq_true hp⟩
  obtain ⟨hf, t0, ht, hle⟩ := hup j hj
  simp [hf, ht, hle]

/-- The signal is up for long enough: the front end goes on to LOCK (R287). -/
theorem stage_signal (h : s.Good True) (ha : (s.line i).acq = some a) (hs : a.suspended = false) (h1 : s.rd LINE_STAT_STAGE i = 1)
    (hup : ∀ j ∈ s.group i, s.flag LINE_STAT_SIG j = true ∧ ∃ t0, (s.line j).sigSince = some t0 ∧ t0 + 1000000 ≤ s.clock)
    (hp : a.power ≤ s.clock) : Does (.stageComplete i cs) s [LINE_STAT_STAGE.key i 0] fun t => t.rd LINE_STAT_STAGE i = 2 ∧
      (t.line i).acq = some { a with furthest := max a.furthest 2, due := some (s.clock + 1000000 * s.stageMs i 2), rem := none } := by
  have hh : Held [LINE_STAT_STAGE.key i 0] s (s.enterStage i 2) := (Held.refl h).enterStage i.isLt (by simp)
  refine hh.does (exec_stageComplete_signal ha hs h1 hup hp) ⟨State.rd_stage_enterStage h i.isLt ha (by decide) true, ?_⟩
  rw [State.line_enterStage h i.isLt ha, State.entered_timed hs]

theorem stage_signal_waits (ha : (s.line i).acq = some a) (hs : a.suspended = false) (h1 : s.rd LINE_STAT_STAGE i = 1)
    (hn : (∃ j ∈ s.group i, s.flag LINE_STAT_SIG j = false) ∨ s.clock < a.power) : Idle (.stageComplete i cs) s := by
  change execStageComplete i cs s = _
  simp only [execStageComplete, ha, hs, h1, Bool.false_eq_true, if_false]
  refine if_neg fun hc => ?_
  obtain ⟨hup, hp⟩ := Bool.and_eq_true_iff.mp hc
  rcases hn with ⟨j, hj, hf⟩ | hn
  · have := List.all_eq_true.mp hup j hj
    rw [hf, Bool.false_and] at this
    exact Bool.false_ne_true this
  · exact absurd (of_decide_eq_true hp) (by omega)

/-! ### LOCK -/

theorem exec_stageComplete_lock (ha : (s.line i).acq = some a) (hs : a.suspended = false) (h2 : s.rd LINE_STAT_STAGE i = 2) :
    exec (.stageComplete i cs) s =
      .next (((s.onGroup i fun j s => s.wr LINE_STAT_LOCK 1 j).txTiming i).enterStage i 3) := by
  change execStageComplete i cs s = _
  simp only [execStageComplete, ha, hs, h2, Bool.false_eq_true, if_false]

/-- Lock on every lane shows in LOCK and leads to SETTLE (R287). -/
theorem stage_lock (h : s.Good True) (ha : (s.line i).acq = some a) (hs : a.suspended = false) (h2 : s.rd LINE_STAT_STAGE i = 2) :
    Does (.stageComplete i cs) s (LINE_STAT_STAGE.key i 0 ::
        (s.group i).flatMap fun j => [LINE_STAT_LOCK.key j 0, LINE_STAT_TXTIME.key j 0, LINE_STAT_TX_HOLDOVER.key j 0])
      fun t => t.rd LINE_STAT_STAGE i = 3 ∧ ∀ j ∈ s.group i, t.rd LINE_STAT_LOCK j = 1 := by
  refine Held.does ?_ (exec_stageComplete_lock ha hs h2) ?_
  · have hmem {f : Fld} {j : Nat} (hj : j ∈ s.group i)
        (hf : f.key j 0 ∈ [LINE_STAT_LOCK.key j 0, LINE_STAT_TXTIME.key j 0, LINE_STAT_TX_HOLDOVER.key j 0]) :
        f.key j 0 ∈ LINE_STAT_STAGE.key i 0 ::
          (s.group i).flatMap fun j => [LINE_STAT_LOCK.key j 0, LINE_STAT_TXTIME.key j 0, LINE_STAT_TX_HOLDOVER.key j 0] :=
      List.mem_cons_of_mem _ (List.mem_flatMap.mpr ⟨j, hj, hf⟩)
    have hl : Held _ s (s.onGroup i fun j s => s.wr LINE_STAT_LOCK 1 j) := (Held.refl h).foldl fun hj hu => hu.wr (hmem hj (by simp))
    have hg : (s.onGroup i fun j s => s.wr LINE_STAT_LOCK 1 j).group i = s.group i := by
      have hb : Beside (butFor LINE_STAT_FORMAT i) id True True s (s.onGroup i fun j s => s.wr LINE_STAT_LOCK 1 j) :=
        (Beside.refl h).foldl fun _ hu => hu.wrElse
      exact congrArg (groupOf i) hb.rd_butFor
    exact (hl.txTiming fun j hj => have hj := hg ▸ hj; ⟨hmem hj (by simp), hmem hj (by simp)⟩).enterStage i.isLt (by simp)
  · have hg : (s.onGroup i fun j s => s.wr LINE_STAT_LOCK 1 j).Good True := h.foldl fun h => h.wr
    have hb {W : Nat → Prop} (hW : ∀ j, W (LINE_STAT_TXTIME.key j 0) ∧ W (LINE_STAT_TX_HOLDOVER.key j 0)) :
        Beside W id True True _ ((s.onGroup i fun j s => s.wr LINE_STAT_LOCK 1 j).txTiming i) := (Beside.refl hg).txTiming hW
    have hacq : (((s.onGroup i fun j s => s.wr LINE_STAT_LOCK 1 j).txTiming i).line i).acq = some a := by
      have h0 : Beside (fun _ => True) Line.acq True True s (s.onGroup i fun j s => s.wr LINE_STAT_LOCK 1 j) :=
        (Beside.refl h).foldl fun _ hu => hu.wr trivial
      exact ((h0.txTiming fun _ => ⟨trivial, trivial⟩).line i).trans ha
    have htg := (hb (W := fun _ => True) fun _ => ⟨trivial, trivial⟩).good
    refine ⟨State.rd_stage_enterStage htg i.isLt hacq (by decide) true, fun j hj => ?_⟩
    have hj8 := State.lt_of_mem_group hj i.isLt
    refine (State.rd_enterStage htg hj8 true).trans ((Beside.rd_butFor (hb fun _ => ?_) hj8).trans ?_)
    · exact ⟨Fld.key_ne (by decide) (by decide) (by decide), Fld.key_ne (by decide) (by decide) (by decide)⟩
    · exact rd_foldl_slices h (fun h => h.wr) (fun _ ht hk => State.rd_wr_or ht rfl hk) (.inl hj)

end

/-! ### SETTLE -/

section
variable {s : State} {i : Nat} {a : Acq} {live : List Nat} {hold : Bool} {loss : Nat}

/-- A framer that starts hunts (R329). -/
theorem State.frState_frStart (h : s.Good True) (hi : i < 8192) (hf : familyOf (s.fmt i) ≠ .unframed)
    (hn : familyOf (s.fmt i) ≠ .none) : (s.frStart i).frState i = 0 := by
  unfold State.frStart
  extract_lets fmt t1 t2
  rw [if_neg (not_or.mpr ⟨hf, hn⟩)]
  have h1 : t1.Good True := h.setFramer .init
  have hb : Beside (butFor FR_STAT_STATE i) id True True (t1.wr FR_STAT_STATE 0 i)
      (((t2.wr FR_STAT_OOM (boolNat (fmtMultiframe fmt)) i).linkDown i).frShow i) :=
    .wrElse (.wrElse (.linkDown (.wrElse (.wrElse (.wrElse (.refl h1.wr))))))
  exact hb.rd_butFor.trans (State.rd_wr_same (h1.regs trivial) ..)

/-- The keys the entry to FRAME writes. -/
def ofFrameStage (i k : Nat) : Prop := ofFramer i k ∨ k = LINE_STAT_STAGE.key i 0

theorem not_ofFrameStage {g : Fld} (h : g.place 0 < 2 ^ 30 ∧ ¬ (0x10C * 64 ≤ g.place 0 ∧ g.place 0 < 0x200 * 64) ∧
    g.place 0 ≠ LINE_STAT_STAGE.place 0) : ¬ ofFrameStage i (g.key i 0) := by
  obtain ⟨hp, hf, hn⟩ := h
  rintro (⟨-, hk⟩ | e)
  · rw [Fld.key_mod hp] at hk
    exact hf hk
  · exact Fld.key_ne hp (by decide) hn e

/-- The entry to FRAME of a framed format: stage 4, and the framer hunts. -/
theorem State.enterFrame_hunts (h : s.Good True) (hi : i < 24) (ha : (s.line i).acq = some a)
    (hf : familyOf (s.fmt i) ≠ .unframed) (hn : familyOf (s.fmt i) ≠ .none) : Beside (ofFrameStage i) Line.live True True s (s.enterFrame i) ∧
      (s.enterFrame i).rd LINE_STAT_STAGE i = 4 ∧ (s.enterFrame i).frState i = 0 := by
  have e : s.enterFrame i = (s.enterStage i 4).frStart i := if_neg hf
  have he : Beside (ofFrameStage i) Line.live True True s (s.enterStage i 4) := (Beside.refl h).enterStage (.inr rfl) fun _ _ => rfl
  have hfmt : (s.enterStage i 4).fmt i = s.fmt i := State.rd_enterStage (f := LINE_STAT_FORMAT) h (by omega) true
  rw [e]
  have hst := State.frState_frStart (i := i) he.good (by omega) (by rwa [hfmt]) (by rwa [hfmt])
  refine ⟨he.frStart (fun _ => .inl) fun _ _ => rfl, ?_, hst⟩
  have hs : Beside (butFor LINE_STAT_STAGE i) Line.live True True _ ((s.enterStage i 4).frStart i) :=
    (Beside.refl he.good).frStart (butFor_ofFramer (by decide)) fun _ _ => rfl
  exact hs.rd_butFor.trans (State.rd_stage_enterStage h hi ha (by decide) true)

/-- A slice's coefficients have settled. -/
def State.settleSlice (s : State) (i : Nat) (live : List Nat) (hold : Bool) : State :=
  let s := (s.setLine i { s.line i with live := live, adaptAt := s.tm.device }).wr LINE_STAT_SETTLED 1 i
  if hold then s.wr ADAPT_CTL_FREEZE 1 i else s

/-- An LP slice estimates the loss of its line. -/
def State.estimate (s : State) (i : Nat) (a : Acq) (loss : Nat) : State :=
  let s := s.wr LP_RPT_LOSS_EST (min 0x3FE loss) i
  s.setLine i { s.line i with acq := some { a with loss := some (min 0xFFFE loss) } }

theorem State.settleSlice_settles (h : s.Good True) : let t := s.settleSlice i live hold
    Beside (fun k => k = LINE_STAT_SETTLED.key i 0 ∨ k = ADAPT_CTL_FREEZE.key i 0) Line.acq True True s t ∧
      t.rd LINE_STAT_SETTLED i = 1 ∧ (hold = true → t.rd ADAPT_CTL_FREEZE i = 1) ∧ (t.line i).live = live := by
  have hl : (s.setLine i { s.line i with live := live, adaptAt := s.tm.device }).Good True := h.setLine h.line.update
  have hb : Beside (fun k => k = LINE_STAT_SETTLED.key i 0 ∨ k = ADAPT_CTL_FREEZE.key i 0) Line.acq True True s
      ((s.setLine i { s.line i with live := live, adaptAt := s.tm.device }).wr LINE_STAT_SETTLED 1 i) :=
    .wr ((Beside.refl h).setLine h.line.update rfl) (.inl rfl)
  have hlive : ((s.settleSlice i live hold).line i).live = live := by
    have e : ((s.setLine i { s.line i with live := live, adaptAt := s.tm.device }).line i).live = live :=
      congrArg Line.live (State.line_setLine_same (h.lines trivial) ..)
    unfold State.settleSlice
    split <;> exact e
  have hset : ((s.setLine i { s.line i with live := live, adaptAt := s.tm.device }).wr LINE_STAT_SETTLED 1 i).rd LINE_STAT_SETTLED i
      = 1 := State.rd_wr_same (hl.regs trivial) ..
  refine ⟨.either (hb.wr (.inr rfl)) hb, ?_, ?_, hlive⟩
  · unfold State.settleSlice
    split
    · exact (State.rd_wr_ne hb.good ADAPT_CTL_FREEZE LINE_STAT_SETTLED _ _).trans hset
    · exact hset
  · rintro rfl
    exact State.rd_wr_same (hb.good.regs trivial) ..

/-- The loss estimate shows, and the ACQUIRE keeps it. -/
theorem State.estimate_reports (h : s.Good True) : let t := s.estimate i a loss
    Beside (fun k => k = LP_RPT_LOSS_EST.key i 0) Line.live True True s t ∧
      (t.line i).acq = some { a with loss := some (min 0xFFFE loss) } ∧ t.rd LP_RPT_LOSS_EST i = min 0x3FE loss :=
  ⟨.setLine (.wr (.refl h) rfl) h.line.update rfl,
    congrArg Line.acq (State.line_setLine_same (s := s.wr LP_RPT_LOSS_EST (min 0x3FE loss) i) (h.lines trivial) ..),
    (State.rd_wr_same (s := s) (h.regs trivial) ..).trans (Nat.mod_eq_of_lt ((Nat.min_le_left ..).trans_lt (by decide)))⟩

/-- The coefficients that STAGE_COMPLETE brings for a single slice: six of an HS slice, two of an LP slice. -/
def settledCoeffs (i : Nat) (cs : List (List Nat)) : List Nat :=
  (List.range (if i < 8 then 6 else 2)).map fun k => (cs.getD 0 []).getD k 0

/-- The loss estimate of an LP slice that has settled. -/
def settledLoss (cs : List (List Nat)) (p2 : Nat) : Nat := (cs.getD 0 []).getD 0 0 - (if optRxMode p2 = 2 then 200 else 0)

/-- The single slice of an ACQUIRE has settled. -/
def State.settle (s : State) (i : Nat) (a : Acq) (cs : List (List Nat)) : State :=
  let t := s.settleSlice i (settledCoeffs i cs) (optHold a.p2)
  if 8 ≤ i then t.estimate i a (settledLoss cs a.p2) else t

variable {cs : List (List Nat)}

theorem State.settle_settles (h : s.Good True) (hi : i < 8192) (ha : (s.line i).acq = some a) : let t := s.settle i a cs
    Beside (fun _ => True) (fun _ => ()) True True s t ∧ (∃ b, (t.line i).acq = some b) ∧ t.fmt i = s.fmt i ∧
      t.rd LINE_STAT_SETTLED i = 1 ∧ (optHold a.p2 = true → t.rd ADAPT_CTL_FREEZE i = 1) ∧ (t.line i).live = settledCoeffs i cs ∧
      (8 ≤ i → t.rd LP_RPT_LOSS_EST i = min 0x3FE (settledLoss cs a.p2)) := by
  dsimp only [State.settle]
  obtain ⟨hb, hset, hfrz, hlive⟩ := State.settleSlice_settles (i := i) (live := settledCoeffs i cs) (hold := optHold a.p2) h
  have hfmt := hb.rd_slice (f := LINE_STAT_FORMAT) hi (by unfold Fld.ofSlice; decide) (not_or.mpr
    ⟨Fld.key_ne (by decide) (by decide) (by decide), Fld.key_ne (by decide) (by decide) (by decide)⟩)
  have hacq := (hb.line i).trans ha
  have hw : Beside (fun _ => True) (fun _ => ()) True True s (s.settleSlice i (settledCoeffs i cs) (optHold a.p2)) :=
    { hb with rd := fun _ _ _ _ hn => absurd trivial hn, line := fun _ => rfl }
  generalize s.settleSlice i (settledCoeffs i cs) (optHold a.p2) = u at *
  split
  next h8 =>
    obtain ⟨hl, hacq, hloss⟩ := State.estimate_reports (i := i) (a := a) (loss := settledLoss cs a.p2) hw.good
    have rd {g : Fld} (hg : g.ofSlice ∧ g.place 0 ≠ LP_RPT_LOSS_EST.place 0) := hl.rd_slice (i := i) hi hg.1
      (Fld.key_ne hg.1.2 (by decide) hg.2)
    exact ⟨.setLine (hw.wr trivial) hw.good.line.update rfl, ⟨_, hacq⟩, (rd (by unfold Fld.ofSlice; decide)).trans hfmt,
      (rd (by unfold Fld.ofSlice; decide)).trans hset, fun hh => (rd (by unfold Fld.ofSlice; decide)).trans (hfrz hh),
      (hl.line i).trans hlive, fun _ => hloss⟩
  next h8 => exact ⟨hw, ⟨a, hacq⟩, hfmt, hset, hfrz, hlive, fun h => absurd h h8⟩

end

section
variable {s : State} {i : Fin 24} {a : Acq} {cs : List (List Nat)}

theorem exec_stageComplete_settle (h : s.Good True) (ha : (s.line i).acq = some a) (hs : a.suspended = false)
    (h3 : s.rd LINE_STAT_STAGE i = 3) (hf : fmtBonded (s.fmt i) = false) :
    exec (.stageComplete i cs) s = .next ((s.settle i a cs).enterFrame i) := by
  have hg : (s.group i).zipIdx = [(i.val, 0)] := by rw [State.group, groupOf_single hf]; rfl
  obtain ⟨-, -, -, hlive⟩ := State.settleSlice_settles (i := i) (live := settledCoeffs i cs) (hold := optHold a.p2) h
  change execStageComplete i cs s = _
  unfold execStageComplete State.settle
  rw [ha]
  dsimp only
  rw [if_neg (by rw [hs]; exact Bool.false_ne_true), h3, hg]
  change (if 8 ≤ i.val then .next (((s.settleSlice i (settledCoeffs i cs) (optHold a.p2)).estimate i a
    (((s.settleSlice i (settledCoeffs i cs) (optHold a.p2)).line i).live.headD 0 -
      (if optRxMode a.p2 = 2 then 200 else 0))).enterFrame i)
    else Host.Outcome.next ((s.settleSlice i (settledCoeffs i cs) (optHold a.p2)).enterFrame i)) = _
  split
  next h8 =>
    have hhd : (settledCoeffs i cs).headD 0 = (cs.getD 0 []).getD 0 0 := by
      rw [settledCoeffs, if_neg (by omega)]
      rfl
    rw [hlive, hhd]
    rfl
  next => rfl

/-- Settled coefficients show and lead to FRAME, with the framer in HUNT (R287, R291). -/
theorem stage_settle (h : s.Good True) (ha : (s.line i).acq = some a) (hs : a.suspended = false) (h3 : s.rd LINE_STAT_STAGE i = 3)
    (hf : fmtBonded (s.fmt i) = false) (hu : familyOf (s.fmt i) ≠ .unframed) (hn : familyOf (s.fmt i) ≠ .none) :
    DoesWide (.stageComplete i cs) s fun t => t.rd LINE_STAT_STAGE i = 4 ∧ t.rd LINE_STAT_SETTLED i = 1 ∧ t.frState i = 0 ∧
      (optHold a.p2 = true → t.rd ADAPT_CTL_FREEZE i = 1) ∧ (t.line i).live = settledCoeffs i cs ∧
      (8 ≤ i.val → t.rd LP_RPT_LOSS_EST i = min 0x3FE (settledLoss cs a.p2)) := by
  refine ⟨_, exec_stageComplete_settle h ha hs h3 hf, ?_⟩
  obtain ⟨hb, ⟨b, hacq⟩, hfmt, hset, hfrz, hlive, hloss⟩ := State.settle_settles (cs := cs) h (by omega) ha
  generalize s.settle i a cs = u at *
  rw [← hfmt] at hu hn
  obtain ⟨he, h4, hst⟩ := State.enterFrame_hunts hb.good i.isLt hacq hu hn
  have rd {g : Fld} (hg : g.ofSlice) (hp) := he.rd_slice (i := i) (by omega) hg (not_ofFrameStage (g := g) hp)
  exact ⟨⟨h4, (rd (by unfold Fld.ofSlice; decide) (by decide)).trans hset, hst,
    fun hh => (rd (by unfold Fld.ofSlice; decide) (by decide)).trans (hfrz hh), (he.line i).trans hlive,
    fun h8 => (rd (by unfold Fld.ofSlice; decide) (by decide)).trans (hloss h8)⟩, he.mem.trans hb.mem⟩

end

end Sys2Proof.Machine

end

section
/-! # The end of an attempt in frame, and O44 -/

namespace Sys2Proof.Machine

open Reg

set_option Elab.async false

/-! ### ACQUIRED -/

/-- The charge of an operation has passed on. -/
def Op.uncharged (o : Op) : Op := { o with est := 0 }

/-- The ACQUIRE at stage 6 ends DONE_OK. -/
def State.acquireDone (s : State) (i : Nat) (a : Acq) : State :=
  let s := s.setLine i { s.line i with acq := some { a with furthest := 6 } }
  (s.endOp a.sess a.tag doneOk (s.acqResult i 6)).modOp a.sess a.tag Op.uncharged

/-- The line of an ACQUIRED slice, charged to the session. -/
def Line.taken (x : Line) (a : Acq) (est : Nat) : Line :=
  { x with acq := none, chargeTo := a.sess, charge := est, loop := 0, loopDue := none, loopRem := none }

/-- The slice is ACQUIRED. -/
def State.lineTaken (s : State) (i : Nat) (a : Acq) (est : Nat) : State :=
  let s := s.setLine i ((s.line i).taken a est)
  ((s.wr LINE_STAT_STAGE 6 i).wr LINE_STAT_LSTATE 2 i).wr OV_LPRBS_HELD 0 i

section
variable {s : State} {i : Nat} {a : Acq} {x : Op}

theorem State.acquired_eq (ha : (s.line i).acq = some a) (hx : s.op? a.sess a.tag = some x) :
    s.acquired i = (((s.acquireDone i a).lineTaken i a x.est).lineFire i).pmScan := by
  unfold State.acquired
  rw [ha]
  dsimp only
  rw [hx]
  rfl

theorem State.acquireDone_ends (hx : s.op? a.sess a.tag = some x) (hfin : x.fin = none) (hst : x.st = .running) :
    EndsAs (s.acquireDone i a) a.sess a.tag 0 := by
  unfold State.acquireDone
  generalize hu : s.setLine i _ = u
  have hx' : u.op? a.sess a.tag = some x := by rw [← hu]; exact hx
  obtain ⟨y, e, hy, he, h0⟩ := endsAs_endOp (status := doneOk) (r := u.acqResult i 6) hx' hfin (.inl (by rw [hst]; decide))
  refine ⟨y.uncharged, e, ?_, he, h0⟩
  rw [op?_modOp_same _ _ _ (f := Op.uncharged) fun _ => ⟨rfl, rfl, rfl⟩, hy]
  rfl

/-- Stage 6: the ACQUIRE ends DONE_OK, the slice is ACQUIRED and its charge stays with the session (R289). -/
theorem State.acquired_ends (h : s.Good True) (ha : (s.line i).acq = some a) (hi : i < 24) (hx : s.op? a.sess a.tag = some x)
    (hfin : x.fin = none) (hst : x.st = .running) : let t := s.acquired i
    (t.rd LINE_STAT_STAGE i = 6 ∧ t.rd LINE_STAT_LSTATE i = 2 ∧ EndsAs t a.sess a.tag 0 ∧ (t.line i).acq = none ∧
      (t.line i).chargeTo = a.sess ∧ (t.line i).charge = x.est) ∧ t.mem = s.mem := by
  intro t
  have hd : (s.acquireDone i a).Good True := .modOp (.endOp (h.setLine h.line.update))
  have hends := State.acquireDone_ends (i := i) hx hfin hst
  have hm : (s.acquireDone i a).mem = s.mem := rfl
  have e : t = (((s.acquireDone i a).lineTaken i a x.est).lineFire i).pmScan := State.acquired_eq ha hx
  clear_value t
  subst e
  generalize s.acquireDone i a = u at *
  have hl : (u.setLine i ((u.line i).taken a x.est)).Good True := hd.setLine hd.line.update
  have hb : Beside (fun _ => False) id True True (u.lineTaken i a x.est) ((u.lineTaken i a x.est).lineFire i).pmScan :=
    (Beside.refl hl.wr.wr.wr).lineFire.pmScan
  have hline : (((u.lineTaken i a x.est).lineFire i).pmScan).line i = (u.line i).taken a x.est :=
    (hb.line i).trans (State.line_setLine_same (hd.lines trivial) ..)
  have rd {g : Fld} (hg : g.ofSlice) := hb.rd_slice (i := i) (by omega) hg not_false
  refine ⟨⟨(rd (by unfold Fld.ofSlice; decide)).trans ?_, (rd (by unfold Fld.ofSlice; decide)).trans ?_,
    hends.congr (op?_congr (hb.ops trivial) ..), congrArg Line.acq hline, congrArg Line.chargeTo hline,
      congrArg Line.charge hline⟩, hb.mem.trans hm⟩
  · refine (State.rd_wr_ne hl.wr.wr OV_LPRBS_HELD LINE_STAT_STAGE _ _).trans ?_
    refine (State.rd_wr_ne hl.wr LINE_STAT_LSTATE LINE_STAT_STAGE _ _).trans ?_
    exact State.rd_wr_same (hl.regs trivial) ..
  · refine (State.rd_wr_ne hl.wr.wr OV_LPRBS_HELD LINE_STAT_LSTATE _ _).trans ?_
    exact State.rd_wr_same (hl.wr.regs trivial) ..

/-! ### The loop handshake begins -/

/-- PENDING shows the loop-up that starts. -/
def State.loopPended (s : State) (i kind : Nat) : State :=
  ((s.wr LP_LOOP_PENDING 1 i).wr LP_LOOP_CONFIRMED 0 i).wr LP_LOOP_KIND kind i

theorem Beside.startHsTimer {β : Type} {W : Nat → Prop} {K : Line → β} {O L : Prop} {t : State} (h : Beside W K O L s t)
    (hK : ∀ x y, K x = K y) : Beside W K O L s (t.startHsTimer i) := by
  unfold State.startHsTimer
  extract_lets x ms
  split
  · exact h.setLine h.good.line.update (hK ..)
  · exact h.setLine h.good.line.update (hK ..)

/-- A code starts to be sent: the line is in its phase, the slice transmits. -/
theorem State.loopSend_eq (s : State) (i phase kind ms : Nat) : ∃ y : Line, y.loop = phase ∧ (s.Good True → y.Good True) ∧
    s.loopSend i phase kind ms = ((s.setLine i y).wr LINE_STAT_TX_ON 1 i).emit (.line i (16 * phase + kind)) :=
  ⟨_, rfl, fun h => h.line.update, rfl⟩

/-- A loop-up shows PENDING, is sent and is in phase 2 (R297). -/
theorem State.loopUp_starts (h : s.Good True) (hi : i < 24) (kind : Nat) : let t := s.loopUp i kind
    t.rd LP_LOOP_PENDING i = 1 ∧ t.rd LP_LOOP_CONFIRMED i = 0 ∧ t.rd LINE_STAT_STAGE i = s.rd LINE_STAT_STAGE i ∧
      (t.line i).loop = 2 ∧ t.out = s.out ++ [.line i (32 + kind)] ∧ t.mem = s.mem := by
  intro t
  have hp : (s.loopPended i kind).Good True := h.wr.wr.wr
  have hh : Beside (fun _ => False) (fun _ => ()) True True (s.loopPended i kind) ((s.loopPended i kind).startHsTimer i) :=
    (Beside.refl hp).startHsTimer fun _ _ => rfl
  obtain ⟨y, hy, hyg, e⟩ := ((s.loopPended i kind).startHsTimer i).loopSend_eq i 2 kind ((s.loopPended i kind).upMs i)
  have et : t = (((s.loopPended i kind).startHsTimer i).loopSend i 2 kind ((s.loopPended i kind).upMs i)).loopFire i := rfl
  clear_value t
  generalize (s.loopPended i kind).startHsTimer i = u at *
  rw [e] at et
  have hl : (u.setLine i y).Good True := hh.good.setLine (hyg hh.good)
  have hb : Beside (fun _ => False) id True True (((u.setLine i y).wr LINE_STAT_TX_ON 1 i).emit (.line i (16 * 2 + kind))) t :=
    et ▸ (Beside.refl hl.wr.emit).fireFree
  have tx {g : Fld} (hg : g.key 0 0 ≠ LINE_STAT_TX_ON.key 0 0) : ((u.setLine i y).wr LINE_STAT_TX_ON 1 i).rd g i = u.rd g i :=
    State.rd_wr_ne hl LINE_STAT_TX_ON g 1 i hg
  have rd {g : Fld} (hg : g.ofSlice ∧ g.key 0 0 ≠ LINE_STAT_TX_ON.key 0 0) : t.rd g i = (s.loopPended i kind).rd g i :=
    (hb.rd_slice (by omega) hg.1 not_false).trans ((tx hg.2).trans (hh.rd_slice (by omega) hg.1 not_false))
  have hline : (t.line i).loop = y.loop := congrArg Line.loop ((hb.line i).trans (State.line_setLine_same (hh.good.lines trivial) i y))
  refine ⟨(rd (by unfold Fld.ofSlice; decide)).trans ?_, (rd (by unfold Fld.ofSlice; decide)).trans ?_,
    (rd (by unfold Fld.ofSlice; decide)).trans ?_, hline.trans hy, hb.out.trans (congrArg (· ++ _) hh.out), hb.mem.trans hh.mem⟩
  · rw [State.loopPended, State.rd_wr_ne h.wr.wr LP_LOOP_KIND LP_LOOP_PENDING, State.rd_wr_ne h.wr LP_LOOP_CONFIRMED LP_LOOP_PENDING]
    exact State.rd_wr_same (h.regs trivial) ..
  · rw [State.loopPended, State.rd_wr_ne h.wr.wr LP_LOOP_KIND LP_LOOP_CONFIRMED]
    exact State.rd_wr_same (h.wr.regs trivial) ..
  · rw [State.loopPended, State.rd_wr_ne h.wr.wr LP_LOOP_KIND LINE_STAT_STAGE, State.rd_wr_ne h.wr LP_LOOP_CONFIRMED LINE_STAT_STAGE,
      State.rd_wr_ne h LP_LOOP_PENDING LINE_STAT_STAGE]

end

/-! ### FRAME -/

section
variable {s : State} {i : Fin 24} {a : Acq} {cs : List (List Nat)}

/-- In frame, of the multiframe too where the format has one: the handshake comes next. -/
theorem exec_stageComplete_frame (ha : (s.line i).acq = some a) (hs : a.suspended = false) (h4 : s.rd LINE_STAT_STAGE i = 4)
    (hf : s.frState i = 2) (hm : fmtMultiframe (s.fmt i) = true → s.rd FR_STAT_MF_STATE i = 2) :
    exec (.stageComplete i cs) s = .next (s.enterHandshake i) := by
  change execStageComplete i cs s = _
  simp only [execStageComplete, ha, hs, h4, Bool.false_eq_true, if_false]
  refine if_pos ?_
  rw [hf]
  cases hmf : fmtMultiframe (s.fmt i) with
  | false => rfl
  | true => rw [hm hmf]; rfl

theorem stage_frame_waits (ha : (s.line i).acq = some a) (hs : a.suspended = false) (h4 : s.rd LINE_STAT_STAGE i = 4)
    (hf : s.frState i ≠ 2) : Idle (.stageComplete i cs) s := by
  change execStageComplete i cs s = _
  simp only [execStageComplete, ha, hs, h4, Bool.false_eq_true, if_false]
  exact if_neg fun hc => hf (of_decide_eq_true (Bool.and_eq_true_iff.mp hc).1)

/-- No handshake asked for and no loop-down pending: the slice is ACQUIRED. -/
theorem State.enterHandshake_none (ha : (s.line i).acq = some a) (h0 : optHs a.p2 = 0) (hp : s.loopPending i = false) :
    s.enterHandshake i = s.acquired i := by
  unfold State.enterHandshake
  rw [ha]
  simp only [h0, hp, Bool.false_and]
  rfl

/-- A loop-up asked for and no loop-down pending: stage 5, and the loop-up starts. -/
theorem State.enterHandshake_up (h : s.Good True) (ha : (s.line i).acq = some a) (h1 : optHs a.p2 = 1)
    (hp : s.loopPending i = false) : s.enterHandshake i =
      (((s.enterStage i 5 false).wr OV_LPRBS_HELD 1 i).wr OV_LPRBS_SYNC 0 i).loopUp i (optKind a.p2) := by
  have hl : (((((s.enterStage i 5 false).wr OV_LPRBS_HELD 1 i).wr OV_LPRBS_SYNC 0 i).line i)).acq = some (s.entered i a 5 false) :=
    congrArg Line.acq (State.line_enterStage h i.isLt ha false)
  unfold State.enterHandshake
  rw [ha]
  simp only [h1, hp, Bool.false_and]
  unfold State.hsNext
  rw [if_neg (by decide), if_neg Bool.false_ne_true, hl]
  dsimp only
  rw [show (s.entered i a 5 false).p2 = a.p2 from rfl, h1]
  rfl

/-- With a loop-up asked for, the frame leads to stage 5 (R291, R297). -/
theorem stage_frame_handshake (h : s.Good True) (ha : (s.line i).acq = some a) (hs : a.suspended = false)
    (h4 : s.rd LINE_STAT_STAGE i = 4) (hf : s.frState i = 2)
    (hm : fmtMultiframe (s.fmt i) = true → s.rd FR_STAT_MF_STATE i = 2) (h1 : optHs a.p2 = 1)
    (hp : s.loopPending i = false) : DoesWide (.stageComplete i cs) s fun t => t.rd LINE_STAT_STAGE i = 5 ∧
      t.rd LP_LOOP_PENDING i = 1 ∧ t.rd LP_LOOP_CONFIRMED i = 0 ∧ (t.line i).loop = 2 ∧
      t.out = s.out ++ [.line i (32 + optKind a.p2)] := by
  have he : Beside (fun _ => True) (fun _ => ()) True True s (s.enterStage i 5 false) :=
    (Beside.refl h).enterStage trivial fun _ _ => rfl
  have hg : (((s.enterStage i 5 false).wr OV_LPRBS_HELD 1 i).wr OV_LPRBS_SYNC 0 i).Good True := he.good.wr.wr
  have h5 : (((s.enterStage i 5 false).wr OV_LPRBS_HELD 1 i).wr OV_LPRBS_SYNC 0 i).rd LINE_STAT_STAGE i = 5 := by
    rw [State.rd_wr_ne he.good.wr OV_LPRBS_SYNC LINE_STAT_STAGE, State.rd_wr_ne he.good OV_LPRBS_HELD LINE_STAT_STAGE]
    exact State.rd_stage_enterStage h i.isLt ha (by decide) false
  obtain ⟨hpend, hconf, hst, hloop, hout, hmem⟩ := State.loopUp_starts hg i.isLt (optKind a.p2)
  exact ⟨_, (exec_stageComplete_frame ha hs h4 hf hm).trans (by rw [State.enterHandshake_up h ha h1 hp]),
    ⟨hst.trans h5, hpend, hconf, hloop, hout.trans (congrArg (· ++ _) he.out)⟩, hmem.trans he.mem⟩

/-- With no handshake the frame ends the ACQUIRE (R289). -/
theorem stage_frame_acquired {x : Op} (h : s.Good True) (ha : (s.line i).acq = some a) (hs : a.suspended = false)
    (h4 : s.rd LINE_STAT_STAGE i = 4) (hf : s.frState i = 2) (hm : fmtMultiframe (s.fmt i) = true → s.rd FR_STAT_MF_STATE i = 2)
    (h0 : optHs a.p2 = 0) (hp : s.loopPending i = false) (hx : s.op? a.sess a.tag = some x) (hfin : x.fin = none)
    (hst : x.st = .running) : DoesWide (.stageComplete i cs) s fun t => t.rd LINE_STAT_STAGE i = 6 ∧ t.rd LINE_STAT_LSTATE i = 2 ∧
      EndsAs t a.sess a.tag 0 ∧ (t.line i).acq = none ∧ (t.line i).chargeTo = a.sess ∧ (t.line i).charge = x.est :=
  ⟨_, (exec_stageComplete_frame ha hs h4 hf hm).trans (congrArg Host.Outcome.next (State.enterHandshake_none ha h0 hp)),
    State.acquired_ends h ha i.isLt hx hfin hst⟩

end

/-- Settles O44: every command of an attempt has its lemma above, one for each stage and way it can go. -/
theorem anAttemptGoesThroughItsStages : Obligations.AnAttemptGoesThroughItsStages := by
  unfold Obligations.AnAttemptGoesThroughItsStages
  intro s hwf i
  have h := (State.wf_iff s).mp hwf
  refine ⟨?acquire, ?release, ?stages, ?timer, signal_idle, signal_comes h, signal_goes h⟩
  case acquire => exact fun n tag o hr h0 ho hf => acquire_starts h i.isLt hr h0 ho hf
  case release =>
    exact fun n tag o hr ho => ⟨releaseLine_bonded h hr ho, releaseLine_acquired h i.isLt hr ho,
      fun a x h1 ha hx hfin hne => releaseLine_acquiring h i.isLt hr ho h1 ha hx hfin hne⟩
  case stages =>
    intro a ha hs cs
    refine ⟨fun h1 => ⟨stage_signal h ha hs h1, stage_signal_waits ha hs h1⟩, stage_lock h ha hs, stage_settle h ha hs, ?_,
      stage_frame_waits ha hs⟩
    exact fun h4 hf hm => ⟨fun h0 hp x hx hfin hst => stage_frame_acquired h ha hs h4 hf hm h0 hp hx hfin hst,
      stage_frame_handshake h ha hs h4 hf hm⟩
  case timer =>
    intro a ha
    refine ⟨fun hd => ?_, timer_restarts h ha, fun hd hr x hx hfin => timer_ends h ha hd hr hx hfin⟩
    exact (exec_stageTimerExpiry ha).trans (if_neg (by rw [hd]; exact Bool.false_ne_true))

end Sys2Proof.Machine

end

section
/-! # Scrubbed pages

What a page that a scrub has zeroed reads, and what it leaves (R69). -/

namespace Sys2Proof.Machine

set_option Elab.async false

section
variable {s : State} {p a : Nat}

/-- An entry deleted from a table is found no more, and no other is lost. -/
theorem find?_smDel {α : Type} {m : SMap α} (h : smSorted m = true) (x y : Nat) :
    (smDel m x).find? (fun e => e.1 = y) = if y = x then none else m.find? fun e => e.1 = y := by
  induction m with
  | nil => simp [smDel]
  | cons e m ih =>
    obtain ⟨k, v⟩ := e
    have above (hx : x ≤ k) : m.find? (fun e => e.1 = x) = none := by
      rw [List.find?_eq_none]
      intro e he hex
      have := smSorted_head h e he
      simp only [decide_eq_true_eq] at hex
      dsimp only at this
      omega
    rcases lt_trichotomy x k with hx | rfl | hx
    · by_cases hy : y = x
      · subst hy
        simp [smDel, hx, hx.ne, hx.ne', above hx.le]
      · simp [smDel, hx, hx.ne, hy]
    · by_cases hy : y = x
      · subst hy
        simp [smDel, above le_rfl]
      · simp [smDel, hy, Ne.symm hy]
    · by_cases hk : k = y
      · subst hk
        simp [smDel, hx.ne', hx.not_gt, hx.ne]
      · simp [smDel, hx.ne', hx.not_gt, hk, ih (smSorted_tail h)]

theorem State.undefAt_scrubPage (h : s.mem.wf = true) (p a : Nat) :
    (s.scrubPage p).undefAt a = if a / 4096 = p then none else s.undefAt a := by
  have e := find?_smDel ((MemSt.wf_iff _).mp h).2.2 p (a / 4096)
  simp only [State.undefAt, State.scrubPage, e]
  by_cases hp : a / 4096 = p
  · simp only [hp, if_true]
  · simp only [hp, if_false]

/-- A byte of the page reads 0 after its scrub, every other byte as before. -/
theorem State.byteAt_scrubPage (h : s.mem.wf = true) (p a : Nat) :
    (s.scrubPage p).byteAt a = if a / 4096 = p then 0 else s.byteAt a := by
  obtain ⟨hl, hc, -⟩ := (MemSt.wf_iff _).mp h
  have el := smGet_filter_key (0 : Byte) ((smWf_iff _ _).mp hl).1 (fun k => !decide (p * 4096 ≤ k ∧ k < p * 4096 + 4096)) a
  have ec := smGet_filter_key (0 : Byte) ((smWf_iff _ _).mp hc).1
    (fun k => !decide (p * 4096 ≤ k + cellarBase ∧ k + cellarBase < p * 4096 + 4096)) (a - cellarBase)
  have hin : (p * 4096 ≤ a ∧ a < p * 4096 + 4096) ↔ a / 4096 = p := by omega
  unfold State.byteAt
  rw [State.undefAt_scrubPage h]
  by_cases hla : inLarder a = true
  · rw [if_pos hla, if_pos hla]
    refine el.trans ?_
    by_cases hp : a / 4096 = p <;> simp [hin, hp]
  · rw [if_neg hla, if_neg hla]
    by_cases hca : s.inCellar a = true
    · have hca' : (s.scrubPage p).inCellar a = true := hca
      rw [if_pos hca, if_pos hca']
      have hb : a - cellarBase + cellarBase = a := by
        simp only [State.inCellar, decide_eq_true_eq] at hca
        omega
      rw [hb] at ec
      by_cases hp : a / 4096 = p
      · simp only [hp, if_true]
        refine ec.trans ?_
        simp [hin, hp]
      · simp only [hp, if_false]
        split
        · rfl
        · refine ec.trans ?_
          simp [hin, hp]
    · have hca' : ¬ (s.scrubPage p).inCellar a = true := hca
      rw [if_neg hca, if_neg hca', ite_self]

/-- Pages scrubbed one after another: their bytes read 0, every other byte as before. -/
theorem State.byteAt_scrubPages (l : List Nat) (h : s.mem.wf = true) (a : Nat) :
    (l.foldl (fun s p => s.scrubPage p) s).byteAt a = if a / 4096 ∈ l then 0 else s.byteAt a := by
  induction l generalizing s with
  | nil => simp
  | cons p l ih =>
    rw [List.foldl_cons, ih (scrubPage_wf h p), State.byteAt_scrubPage h]
    by_cases hl : a / 4096 ∈ l <;> by_cases hp : a / 4096 = p <;> simp [hl, hp]

end

end Sys2Proof.Machine

end

section
/-! # Seal keys, map-cache invalidation and background scrubs -/

namespace Sys2Proof.Machine

open Reg

set_option Elab.async false

section
variable {s : State} {n : Fin 16}

/-! ### The seal key -/

theorem State.tlpIn_keyZero (h : s.Good True) (n : Fin 16) : s.tlpIn.keyZero n = s.keyZero n := by
  have hk {j : Nat} (hj : j < 8) : SES_KEY_KEY.key n j ∉ tlpKeys := by
    have e : tlpKeys = [1028, 11 * 2 ^ 43 + 0x610 * 64, 11 * 2 ^ 43 + 0x60C * 64] := rfl
    have hn := n.isLt
    simp only [e, List.mem_cons, List.not_mem_nil, or_false, Fld.key, SES_KEY_KEY, Region.code]
    omega
  rw [Bool.eq_iff_iff]
  simp only [State.keyZero, List.all_eq_true, List.mem_range]
  exact forall₂_congr fun j hj => by rw [State.tlpIn_rd h (hk hj)]

theorem exec_sesKeyCommit (hf : s.fnEnabled n = true) : exec (.sesKeyCommit n) s = s.access fun u => u.keyCommit n := by
  change execSesKeyCommit n s = _
  simp only [execSesKeyCommit, State.access, hf, Bool.and_true]

theorem sesKeyCommit_disabled (hf : s.fnEnabled n = false) : Idle (.sesKeyCommit n) s := by
  change execSesKeyCommit n s = _
  simp [execSesKeyCommit, hf]

/-- COMMIT where a key stands: the write is counted, the key stays (R88). -/
theorem sesKeyCommit_stands (h : s.Good True) (hw : s.working = true) (hf : s.fnEnabled n = true)
    (hs : s.flag SES_KEYC_KEY_SET n = true) :
    Does (.sesKeyCommit n) s (tlpKeys ++ [SES_VIOL_VIOL_COUNT.key n 0, SES_VIOL_VIOL_OFFSET.key n 0]) fun t =>
      t.flag SES_KEYC_KEY_SET n = true := by
  have hu : s.tlpIn.flag SES_KEYC_KEY_SET n = true := (State.tlpIn_flag_block h SES_KEYC_KEY_SET).trans hs
  have e : s.tlpIn.keyCommit n = s.tlpIn.violation n 0x40 := if_pos hu
  refine Does.access _ h hw (exec_sesKeyCommit hf) e
    (.violation (.refl h.tlpIn) n.isLt (by simp) (by simp)) ?_
  have hv : (s.tlpIn.violation n 0x40).rd SES_KEYC_KEY_SET n = s.tlpIn.rd SES_KEYC_KEY_SET n := by
    unfold State.violation State.bump
    rw [State.rd_fireFree _ (srcReserved_violation n.isLt), State.rd_wr_ne h.tlpIn.wr SES_VIOL_VIOL_OFFSET SES_KEYC_KEY_SET,
      State.rd_wr_ne h.tlpIn SES_VIOL_VIOL_COUNT SES_KEYC_KEY_SET]
  exact (congrArg (· != 0) hv).trans hu

/-- COMMIT where it does nothing: the key is zero (R87), or the session is a user's and not KEYLESS (R86). -/
theorem sesKeyCommit_ignored (h : s.Good True) (hw : s.working = true) (hf : s.fnEnabled n = true)
    (hs : s.flag SES_KEYC_KEY_SET n = false) (hz : s.keyZero n = true ∨ (n.val ≠ 0 ∧ s.sesState n ≠ 1)) :
    Does (.sesKeyCommit n) s tlpKeys fun _ => True := by
  have hu := State.tlpIn_flag_block h SES_KEYC_KEY_SET (i := n)
  have hst := State.tlpIn_rd_block h SES_CTL_STATE (i := n)
  have e : s.tlpIn.keyCommit n = s.tlpIn := by
    unfold State.keyCommit
    rw [hu, hs, State.tlpIn_keyZero h]
    rcases hz with hz | ⟨h0, h1⟩
    · rw [if_neg Bool.false_ne_true, if_pos hz]
    · have h1' : ¬ s.tlpIn.sesState n = 1 := by
        rwa [State.sesState, if_neg h0, hst, ← show s.sesState n = s.rd SES_CTL_STATE n from if_neg h0]
      rw [if_neg Bool.false_ne_true, if_neg h0, if_neg h1', ite_self]
  exact Does.access _ h hw (exec_sesKeyCommit hf) e (.refl h.tlpIn) trivial

/-- COMMIT of S0's key locks it (R86). -/
theorem sesKeyCommit_manager (h : s.Good True) (hw : s.working = true) (hf : s.fnEnabled n = true)
    (hs : s.flag SES_KEYC_KEY_SET n = false) (hz : s.keyZero n = false) (h0 : n.val = 0) :
    Does (.sesKeyCommit n) s (tlpKeys ++ [SES_KEYC_KEY_SET.key 0 0]) fun t => t.rd SES_KEYC_KEY_SET 0 = 1 := by
  have e : s.tlpIn.keyCommit n = s.tlpIn.wr SES_KEYC_KEY_SET 1 0 := by
    unfold State.keyCommit
    rw [State.tlpIn_flag_block h SES_KEYC_KEY_SET, hs, State.tlpIn_keyZero h, hz, if_neg Bool.false_ne_true,
      if_neg Bool.false_ne_true, if_pos h0]
  exact Does.access _ h hw (exec_sesKeyCommit hf) e (.wr (.refl h.tlpIn) (by simp))
    (State.rd_wr_same (h.tlpIn.regs trivial) ..)

/-- COMMIT of a KEYLESS session's key locks it and opens the session (Table SES-2). -/
theorem sesKeyCommit_opens (h : s.Good True) (hw : s.working = true) (hf : s.fnEnabled n = true)
    (hs : s.flag SES_KEYC_KEY_SET n = false) (hz : s.keyZero n = false) (h0 : n.val ≠ 0) (h1 : s.sesState n = 1) :
    Does (.sesKeyCommit n) s (tlpKeys ++ [SES_KEYC_KEY_SET.key n 0, SES_CTL_STATE.key n 0]) fun t =>
      t.rd SES_KEYC_KEY_SET n = 1 ∧ t.sesState n = 2 := by
  have e : s.tlpIn.keyCommit n = (s.tlpIn.wr SES_KEYC_KEY_SET 1 n).wr SES_CTL_STATE 2 n := by
    have h1' : s.tlpIn.sesState n = 1 := by
      rw [State.sesState, if_neg h0, State.tlpIn_rd_block h SES_CTL_STATE, ← h1, State.sesState, if_neg h0]
    unfold State.keyCommit
    rw [State.tlpIn_flag_block h SES_KEYC_KEY_SET, hs, State.tlpIn_keyZero h, hz, if_neg Bool.false_ne_true,
      if_neg Bool.false_ne_true, if_neg h0, if_pos h1']
  refine Does.access _ h hw (exec_sesKeyCommit hf) e (.wr (.wr (.refl h.tlpIn) (by simp)) (by simp)) ⟨?_, ?_⟩
  · rw [State.rd_wr_ne h.tlpIn.wr SES_CTL_STATE SES_KEYC_KEY_SET]
    exact State.rd_wr_same (h.tlpIn.regs trivial) ..
  · rw [State.sesState, if_neg h0]
    exact State.rd_wr_same (h.tlpIn.wr.regs trivial) ..

/-! ### The map cache -/

/-- The words of SES_MAPC_INV as the command writes them. -/
def State.mapcWritten (s : State) (n : Fin 16) (all : Bool) (page : BitVec 20) : State :=
  ((s.wr SES_MAPC_INV_SESSION n).setFlag SES_MAPC_INV_ALL all).wr SES_MAPC_INV_PAGE page.toNat

/-- The fields of SES_MAPC_INV that name what leaves. -/
def mapcKeys : List Nat := [SES_MAPC_INV_SESSION.key 0 0, SES_MAPC_INV_ALL.key 0 0, SES_MAPC_INV_PAGE.key 0 0]

theorem Held.mapcWritten (h : s.Good True) (n : Fin 16) (all : Bool) (page : BitVec 20) :
    Held mapcKeys s (s.mapcWritten n all page) :=
  .wrKey (.wrKey (.wrKey (.refl h) (by simp [mapcKeys])) (by simp [mapcKeys])) (by simp [mapcKeys])

theorem State.rd_mapcWritten (h : s.Good True) (n : Fin 16) (all : Bool) (page : BitVec 20) :
    let u := s.mapcWritten n all page
    u.rd SES_MAPC_INV_SESSION = n ∧ u.flag SES_MAPC_INV_ALL = all ∧ u.rd SES_MAPC_INV_PAGE = page.toNat := by
  have h2 : ((s.wr SES_MAPC_INV_SESSION n).setFlag SES_MAPC_INV_ALL all).Good True := h.wr.setFlag
  refine ⟨?_, ?_, ?_⟩
  · refine (State.rd_wr_ne h2 SES_MAPC_INV_PAGE SES_MAPC_INV_SESSION _ 0).trans
      ((State.rd_wr_ne h.wr SES_MAPC_INV_ALL SES_MAPC_INV_SESSION _ 0).trans ((State.rd_wr_same (h.regs trivial) ..).trans ?_))
    exact Nat.mod_eq_of_lt n.isLt
  · have e : (s.mapcWritten n all page).rd SES_MAPC_INV_ALL = boolNat all % 2 ^ 1 :=
      (State.rd_wr_ne h2 SES_MAPC_INV_PAGE SES_MAPC_INV_ALL _ 0).trans (State.rd_wr_same (h.wr.regs trivial) ..)
    unfold State.flag
    rw [e]
    cases all <;> rfl
  · refine (State.rd_wr_same (h2.regs trivial) ..).trans ?_
    exact Nat.mod_eq_of_lt page.isLt

/-- Which entries of the map cache remain (R84). -/
theorem State.mem_mapcInvalidate (s : State) (e : MapEntry) : e ∈ s.mapcInvalidate.own.mapCache ↔
    e ∈ s.own.mapCache ∧ ¬ (e.sess = s.rd SES_MAPC_INV_SESSION ∧ (s.flag SES_MAPC_INV_ALL = true ∨
      (if e.blk then s.rd SES_MAPC_INV_PAGE / 1024 = e.page / 1024 else s.rd SES_MAPC_INV_PAGE = e.page))) := by
  change e ∈ s.own.mapCache.filter _ ↔ _
  rw [List.mem_filter]
  by_cases hb : e.blk = true <;> simp [hb, imp_iff_not_or]

/-- An invalidation removes what it names and waits for the accesses in flight (R84). -/
theorem mapcInvalidate_removes (h : s.Good True) (hw : s.working = true) (hp : s.own.invPending = false) (n : Fin 16)
    (all : Bool) (page : BitVec 20) : Does (.mapcInvalidate n all page) s (tlpKeys ++ mapcKeys) fun t =>
      t.own.invPending = true ∧ ∀ e, e ∈ t.own.mapCache ↔ e ∈ s.own.mapCache ∧
        ¬ (e.sess = n ∧ (all = true ∨ (if e.blk then page.toNat / 1024 = e.page / 1024 else page.toNat = e.page))) := by
  have hu := Held.mapcWritten h.tlpIn n all page
  have hx : exec (.mapcInvalidate n all page) s = s.access fun u =>
      if (u.mapcWritten n all page).own.invPending then u.mapcWritten n all page
      else (u.mapcWritten n all page).mapcInvalidate := by
    change execMapcInvalidate n all page s = _
    rw [execMapcInvalidate, hw, State.access, if_pos hw]
    rfl
  have hpu : ¬ (s.tlpIn.mapcWritten n all page).own.invPending = true := by
    rw [show (s.tlpIn.mapcWritten n all page).own = s.own from s.tlpIn_own, hp]
    exact Bool.false_ne_true
  refine Does.access _ h hw hx (if_neg hpu)
    ((hu.step hu.good.mapcInvalidate rfl rfl).mono (List.subset_append_right ..)) ⟨rfl, fun e => ?_⟩
  obtain ⟨h1, h2, h3⟩ := State.rd_mapcWritten h.tlpIn n all page
  rw [State.mem_mapcInvalidate, h1, h2, h3, show (s.tlpIn.mapcWritten n all page).own = s.own from s.tlpIn_own]

/-! ### Background scrubs -/

/-- A page that waits for no scrub is left alone. -/
theorem backgroundPageScrub_idle (hw : s.working = true) {p : BitVec 28} (hb : s.own.bgPages.contains p.toNat = false)
    (hu : s.unswept p.toNat = false) : Idle (.backgroundPageScrub p) s := by
  change execBackgroundPageScrub p s = _
  unfold execBackgroundPageScrub
  dsimp only
  rw [hw, hb, hu]
  rfl

theorem exec_backgroundPageScrub (hw : s.working = true) {p : BitVec 28} (hb : s.own.bgPages.contains p.toNat = true) :
    exec (.backgroundPageScrub p) s =
      .next { s.scrubPage p.toNat with own := { s.own with bgPages := s.own.bgPages.filter (· ≠ p.toNat) } } := by
  change execBackgroundPageScrub p s = _
  unfold execBackgroundPageScrub
  dsimp only
  rw [hw, if_neg (by decide), if_pos hb]

/-- A page held after a warm reset reads zero and is free, and no other byte changes (R632). -/
theorem backgroundPageScrub_frees (h : s.Good True) (hw : s.working = true) {p : BitVec 28}
    (hb : s.own.bgPages.contains p.toNat = true) : ∃ t, exec (.backgroundPageScrub p) s = .next t ∧
      (∀ i, i < 4096 → t.byteAt (p.toNat * 4096 + i) = 0) ∧ t.own.bgPages.contains p.toNat = false ∧
      (∀ a, a / 4096 ≠ p.toNat → t.byteAt a = s.byteAt a) ∧ SameRegs [] s t := by
  refine ⟨_, exec_backgroundPageScrub hw hb, fun i hi => ?_, by simp, fun a ha => ?_, fun _ _ _ _ => rfl⟩
  · exact (State.byteAt_scrubPage h.mem p.toNat _).trans (if_pos (by omega))
  · exact (State.byteAt_scrubPage h.mem p.toNat a).trans (if_neg ha)

end

/-- Settles O27: each way COMMIT, an invalidation and a background scrub can go has its lemma above. -/
theorem keysMapCacheAndBackgroundScrubs : Obligations.KeysMapCacheAndBackgroundScrubs := by
  unfold Obligations.KeysMapCacheAndBackgroundScrubs
  intro s n hwf hw tlp
  have h := (State.wf_iff s).mp hwf
  refine ⟨sesKeyCommit_disabled, fun hf => ⟨sesKeyCommit_stands h hw hf, fun hs => ⟨?zero, ?manager, ?opens, ?other⟩⟩,
    ?invalidate, ?done, fun p => ⟨backgroundPageScrub_idle hw, backgroundPageScrub_frees h hw⟩⟩
  case zero => exact fun hz => sesKeyCommit_ignored h hw hf hs (.inl hz)
  case manager => exact sesKeyCommit_manager h hw hf hs
  case opens => exact sesKeyCommit_opens h hw hf hs
  case other => exact fun _ h0 h1 => sesKeyCommit_ignored h hw hf hs (.inr ⟨h0, h1⟩)
  case invalidate => exact fun all page hp => mapcInvalidate_removes h hw hp n all page
  case done => exact ⟨_, rfl, rfl, fun _ _ _ _ => rfl, fun _ => rfl⟩

end Sys2Proof.Machine

end

section
/-! # What a new allowance leaves

Limits that GRANT sets, and a session reset that ends, have the allowance reported anew (R573): bays may start and K-die
sources fire. `BesideSessions` says what of the sessions this leaves as it was. -/

namespace Sys2Proof.Machine

open Reg

set_option Elab.async false

/-- The key lies in a block with instances: a session's, an object's or a pool's. -/
def inBlocks (k : Nat) : Prop := 2 ^ 43 ≤ k ∧ k < 11 * 2 ^ 43

section
variable {f : Fld} {i j : Nat}

theorem Fld.inBlocks_key (hf : 1 ≤ f.region.code ∧ f.region.code < 11 ∧ f.place j < 2 ^ 30) (hi : i < 8192) :
    inBlocks (f.key i j) := by
  rw [inBlocks, Fld.key_place]
  omega

theorem not_inBlocks_glob (hf : f.region.code = 0 ∧ f.place j < 2 ^ 30) (hi : i < 8192) : ¬ inBlocks (f.key i j) := by
  rw [inBlocks, Fld.key_place]
  omega

theorem not_inBlocks_kdie (hf : f.region.code = 11) : ¬ inBlocks (f.key i j) := by
  rw [inBlocks, Fld.key_place]
  omega

end

/-- An effect beside the sessions: the state is in good form, and the registers of every block with instances, memory,
device time, operations, ownership, functions and what the sessions hold are as before. -/
structure BesideSessions (s t : State) : Prop where
  good : t.Good True
  rd : ∀ f i j, inBlocks (f.key i j) → t.rd f i j = s.rd f i j
  mem : t.mem = s.mem
  tm : t.tm = s.tm
  ops : t.ops = s.ops
  own : t.own = s.own
  sessions : t.sessions = s.sessions
  fns : t.host.fns = s.host.fns

section
variable {s t u : State} {f : Fld} {i j k b : Nat}

theorem BesideSessions.refl (h : s.Good True) : BesideSessions s s := ⟨h, fun _ _ _ _ => rfl, rfl, rfl, rfl, rfl, rfl, rfl⟩

/-- An update of other tables. -/
theorem BesideSessions.step (h : BesideSessions s t) (hu : u.Good True) (hr : u.regs = t.regs := by rfl)
    (hm : u.mem = t.mem := by rfl) (ht : u.tm = t.tm := by rfl) (ho : u.ops = t.ops := by rfl) (hw : u.own = t.own := by rfl)
    (hs : u.sessions = t.sessions := by rfl) (hf : u.host.fns = t.host.fns := by rfl) : BesideSessions s u where
  good := hu
  rd f i j hk := (congrArg (smGet f.reset · _) hr).trans (h.rd f i j hk)
  mem := hm.trans h.mem
  tm := ht.trans h.tm
  ops := ho.trans h.ops
  own := hw.trans h.own
  sessions := hs.trans h.sessions
  fns := hf.trans h.fns

theorem BesideSessions.either {c : Prop} {_ : Decidable c} (ht : BesideSessions s t) (hu : BesideSessions s u) :
    BesideSessions s (if c then t else u) := by
  split <;> assumption

theorem BesideSessions.wr {v : Nat} (h : BesideSessions s t) (hk : ¬ inBlocks (f.key i j)) :
    BesideSessions s (t.wr f v i j) :=
  { h with
    good := h.good.wr
    rd := fun g k l hg => (State.rd_wr_other (h.good.regs trivial) v i j k l fun e => hk (e ▸ hg)).trans (h.rd g k l hg) }

/-- A write of a K-die register. -/
theorem BesideSessions.wrK {v : Nat} (h : BesideSessions s t) (hf : f.region.code = 11 := by rfl) :
    BesideSessions s (t.wr f v i j) :=
  h.wr (not_inBlocks_kdie hf)

/-- A write of a global register. -/
theorem BesideSessions.wrGlob {v : Nat} (h : BesideSessions s t)
    (hf : f.region.code = 0 ∧ f.place 0 < 2 ^ 30 := by decide) : BesideSessions s (t.wr f v) :=
  h.wr (not_inBlocks_glob hf (by decide))

/-- A session's register, or that of an object, reads as before. -/
theorem BesideSessions.rd_block (h : BesideSessions s t) (hi : i < 8192)
    (hf : 1 ≤ f.region.code ∧ f.region.code < 11 ∧ f.place 0 < 2 ^ 30 := by decide) : t.rd f i = s.rd f i :=
  h.rd f i 0 (Fld.inBlocks_key hf hi)

theorem BesideSessions.fire {cause data : Nat} (h : BesideSessions s t) : BesideSessions s (t.fire k cause data) :=
  .either h.wrGlob (h.step h.good.setSource)

theorem BesideSessions.startWake {src : Nat} (h : BesideSessions s t) : BesideSessions s (t.startWake src) := by
  unfold State.startWake
  extract_lets st u
  have hu : BesideSessions s u := h.wrK.wrK
  exact .either (hu.step hu.good.update) h

theorem BesideSessions.latch {cause data : Nat} (h : BesideSessions s t) : BesideSessions s (t.latch k cause data) := by
  unfold State.latch
  extract_lets first t1 c0 _ b t2 t3 _ t4
  have h1 : BesideSessions s t1 := .either h.wrK.wrK h.wrK
  have h2 : BesideSessions s t2 := h1.step (h1.good.withLatches h1.good.latchData.set h1.good.latchCause.set)
  have h3 : BesideSessions s t3 := h2.wrK
  have h4 : BesideSessions s t4 := .either (h3.step h3.good.update) h3
  exact .either h4.startWake h4

theorem BesideSessions.kfire {cause data : Nat} (h : BesideSessions s t) : BesideSessions s (t.kfire k cause data) :=
  .either (.either (h.fire.step h.fire.good.update) h.fire) h.latch

theorem BesideSessions.shortScan (h : BesideSessions s t) : BesideSessions s t.shortScan :=
  .either (.either h (h.step h.good.update)) (h.step h.good.update)

theorem BesideSessions.setBay {x : Bay} (h : BesideSessions s t) : BesideSessions s (t.setBay b x) := h.step h.good.setBay

/-- A bay that was not ON darkens no slice as it moves. -/
theorem BesideSessions.bayMove {st cause : Nat} (h : BesideSessions s t) (hb : t.bayState b ≠ 5) :
    BesideSessions s (t.bayMove b st cause) := by
  unfold State.bayMove
  extract_lets was x t1 t2 t3
  have h2 : BesideSessions s t2 := .wrK h.setBay
  have h3 : BesideSessions s t3 := by
    rwa [show t3 = t2 from if_neg fun e => hb e.1]
  exact h3.kfire.shortScan

theorem BesideSessions.bayStart (h : BesideSessions s t) (hb : t.bayState b ≠ 5) : BesideSessions s (t.bayStart b) :=
  (h.bayMove hb).setBay

/-- Only a DENIED bay is tried again. -/
theorem BesideSessions.deniedScan (h : BesideSessions s t) : BesideSessions s t.deniedScan := by
  refine List.foldlRecOn [0, 1, 2, 3] _ h fun u hu b _ => ?_
  split
  next hc =>
    obtain ⟨h3, -⟩ := (Bool.and_eq_true _ _).mp hc
    exact hu.bayStart (by rw [of_decide_eq_true h3]; decide)
  next => exact hu

theorem BesideSessions.allowUpdate {extra : Nat} (h : BesideSessions s t) : BesideSessions s (t.allowUpdate extra) := by
  unfold State.allowUpdate
  extract_lets a old d0 t1 _ t2 t3 d1 cause t4
  have h1 : BesideSessions s t1 := h.wrK.wrK
  have h2 : BesideSessions s t2 := .either (h1.step h1.good.update) h1
  have h3 : BesideSessions s t3 := .either (.wrGlob h2.wrGlob) h2
  exact .shortScan (.deniedScan (.either h3 h3.kfire))

end

end Sys2Proof.Machine

end

section
/-! # The list of a GRANT, and what moves -/

namespace Sys2Proof.Machine

open Reg

set_option Elab.async false

/-! ### Rows that end their operation and change nothing else -/

section
variable {s : State} {c : Instr} {n tag opcode status r : Nat} {o : Op}

theorem Held.endOp (h : s.Good True) : Held [] s (s.endOp n tag status r) := (Held.refl h).step h.endOp rfl rfl

theorem State.rd_endOp (s : State) (n tag status r : Nat) (f : Fld) (i j : Nat) :
    (s.endOp n tag status r).rd f i j = s.rd f i j := rfl

theorem State.sess_endOp (s : State) (n tag status r k : Nat) : (s.endOp n tag status r).sess k = s.sess k := rfl

theorem State.byteAt_endOp (s : State) (n tag status r a : Nat) : (s.endOp n tag status r).byteAt a = s.byteAt a :=
  State.byteAt_congr rfl rfl a

theorem onlyOp_endOp (s : State) (n tag status r : Nat) : OnlyOp n tag s (s.endOp n tag status r) :=
  ⟨rfl, fun _ _ h => op?_endOp_other h⟩

theorem opDoes_endOp (h : s.Good True) (hr : s.opRuns n tag opcode o) (e : exec c s = .next (s.endOp n tag status r))
    (hlt : r < 2 ^ 32) : OpDoes c s n tag status r [] fun t => OnlyOp n tag s t := by
  obtain ⟨hop, -, hfin, hst, -⟩ := hr
  exact (Held.endOp h).does e ⟨ends_endOp hop hfin hst hlt, onlyOp_endOp ..⟩

theorem does_endsAs (h : s.Good True) (hr : s.opRuns n tag opcode o) (e : exec c s = .next (s.endOp n tag status r)) :
    Does c s [] fun t => EndsAs t n tag status ∧ OnlyOp n tag s t := by
  obtain ⟨hop, -, hfin, hst, -⟩ := hr
  exact (Held.endOp h).does e ⟨endsAs_endOp hop hfin (.inl (by rw [hst]; decide)), onlyOp_endOp ..⟩

end

/-! ### What applies a list without windows -/

section
variable {s : State} {t n tag r : Nat} {v : Ev}

/-- Engines without work take no time. -/
theorem State.scrubWork_none (s : State) : s.scrubWork [] 0 0 0 0 false = [0, 0, 0, 0, 0] := by
  have hr : 3200 ≤ cellarRate (s.rd MX_CELLAR_RATE) := by unfold cellarRate; split_ifs <;> omega
  have hc : s.cellarNs 0 = 0 := by
    unfold State.cellarNs
    dsimp only
    exact Nat.div_eq_of_lt (by omega)
  simp only [State.scrubWork, larderPages, List.filter_nil, List.length_nil, hc]
  rfl

theorem State.resetObjs_nil (s : State) : s.resetObjs [] = s := by
  simp [State.resetObjs, State.resetRegs]

@[simp] theorem State.resetObjs_mem (s : State) (l : List Nat) : (s.resetObjs l).mem = s.mem := rfl
@[simp] theorem State.resetObjs_ops (s : State) (l : List Nat) : (s.resetObjs l).ops = s.ops := rfl
@[simp] theorem State.resetObjs_tm (s : State) (l : List Nat) : (s.resetObjs l).tm = s.tm := rfl
@[simp] theorem State.resetObjs_own (s : State) (l : List Nat) : (s.resetObjs l).own = s.own := rfl

theorem State.dropMaps_none {p : MapEntry → Bool} (s : State) (h : ∀ e, p e = false) : s.dropMaps p = s := by
  simp [State.dropMaps, h]

/-- Unlon's map, where the list makes one. -/
def State.mapped (s : State) (t : Nat) (base : Option Nat) : State :=
  match base with
  | some b => s.buildMap t b []
  | none => s

theorem State.mapped_none (s : State) (t : Nat) : s.mapped t none = s := rfl

/-- The list moves whole objects to a user session and nothing else. -/
structure Ev.Plain (v : Ev) (s : State) : Prop where
  ranges : v.ranges = s.own.ranges
  outR : v.outR = []
  newR : v.newR = []
  wins : v.wins = []
  freed : v.freed = []
  touched : v.touched = []
  given : ∀ m ∈ v.moves, m.2.2 ≠ 0

/-- The objects of the list, moved. -/
def State.moved (s : State) (v : Ev) : State := v.moves.foldl (fun s m => s.moveObj m.1 m.2.1 m.2.2) s

theorem State.moved_none (s : State) (hv : v.moves = []) : s.moved v = s := by rw [State.moved, hv, List.foldl_nil]

/-- A list that only gives objects leaves the scrub engines without work: the operation ends at once. -/
theorem State.applyMoves_plain (hv : v.Plain (s.moved v)) (base : Option Nat) : s.applyMoves t v base n tag r =
    (((s.moved v).resetObjs (v.moves.map (·.1))).mapped t base).endOp n tag doneOk r := by
  have hg : v.moves.filter (fun m => m.2.2 = 0) = [] := by simpa using hv.given
  have hr : ({ s.moved v with own := { (s.moved v).own with ranges := v.ranges } } : State) = s.moved v := by rw [hv.ranges]
  unfold State.applyMoves
  rw [show v.moves.foldl (fun s m => s.moveObj m.1 m.2.1 m.2.2) s = s.moved v from rfl]
  simp only [hv.outR, hv.newR, hv.wins, hv.freed, hv.touched, hg, List.foldl_nil, List.filter_nil, List.length_nil,
    List.map_nil, List.flatten_nil, List.any_nil, Bool.and_false, ne_eq, not_true, decide_false]
  rw [hr, State.dropMaps_none _ fun _ => rfl]
  refine (if_pos ?_).trans ?_
  · rw [State.scrubWork_none]
    rfl
  · cases base <;> rfl

end

end Sys2Proof.Machine

end

section
/-! # SESSION_OPEN -/

namespace Sys2Proof.Machine

open Reg

set_option Elab.async false

section
variable {s : State} {t : Nat}

/-- What is known of a list before its first entry is read. -/
def State.evStart (s : State) (t : Nat) (pages : List (List Nat)) : Ev :=
  { err := none, unfit := false, objs := [], ranges := s.own.ranges, moves := [], outR := [], newR := [], forced := [],
    wins := (s.sess t).windows, freed := [], touched := [], first3 := none, place := pages }

/-- An empty list asks for nothing. -/
theorem State.evList_zero (s : State) (t : Nat) (force : Bool) (data : List Byte) (pages : List (List Nat)) :
    s.evList t force data 0 pages = s.evStart t pages := rfl

/-! ### An empty map -/

/-- The map of a session without windows: one level-1 table that maps nothing. -/
def State.emptyMap (s : State) (t base : Nat) : State :=
  let s := (s.scrubPage (base / 4096)).scrubPage (base / 4096 + 1)
  let s := ((s.wr SES_MAP_BASE (base / 8192) t).wr SES_WALK_ADDR (base / 8192) t).wr SES_WALK_LIM_ADDR (base / 8192) t
  s.setSess t { s.sess t with windows := [], tables := [base] }

theorem State.buildMap_nil (s : State) (t base : Nat) : s.buildMap t base [] = s.emptyMap t base := by
  have hl : l1Used [] = [] := by simp [l1Used]
  unfold State.buildMap
  rw [hl]
  rfl

@[simp] theorem State.emptyMap_ops (s : State) (t base : Nat) : (s.emptyMap t base).ops = s.ops := rfl
@[simp] theorem State.emptyMap_tm (s : State) (t base : Nat) : (s.emptyMap t base).tm = s.tm := rfl

theorem State.Good.emptyMap {base : Nat} (h : s.Good True) : (s.emptyMap t base).Good True :=
  .setSess h.scrubPage.scrubPage.wr.wr.wr

/-- The fields that point the walk at the map. -/
def walkFlds : List Fld := [SES_MAP_BASE, SES_WALK_ADDR, SES_WALK_LIM_ADDR]

theorem State.rd_emptyMap (h : s.Good True) (t base : Nat) {f : Fld} (hf : ∀ g ∈ walkFlds, f.key 0 0 ≠ g.key 0 0) :
    (s.emptyMap t base).rd f t = s.rd f t := by
  have h1 : ((s.scrubPage (base / 4096)).scrubPage (base / 4096 + 1)).Good True := h.scrubPage.scrubPage
  change (((((s.scrubPage (base / 4096)).scrubPage (base / 4096 + 1)).wr SES_MAP_BASE (base / 8192) t).wr SES_WALK_ADDR
    (base / 8192) t).wr SES_WALK_LIM_ADDR (base / 8192) t).rd f t = _
  rw [State.rd_wr_ne h1.wr.wr SES_WALK_LIM_ADDR f _ t (hf _ (by decide)),
    State.rd_wr_ne h1.wr SES_WALK_ADDR f _ t (hf _ (by decide)), State.rd_wr_ne h1 SES_MAP_BASE f _ t (hf _ (by decide))]
  rfl

theorem State.tables_emptyMap (h : s.Good True) (t base : Nat) : ((s.emptyMap t base).sess t).tables = [base] :=
  congrArg Sess.tables (State.sess_setSess_same (h.sessions trivial) ..)

/-- Memory's size is no field of a session's block. -/
theorem State.byteAt_emptyMap (h : s.Good True) {base : Nat} (hb : base % 8192 = 0) (t a : Nat) :
    (s.emptyMap t base).byteAt a = if base ≤ a ∧ a < base + 8192 then 0 else s.byteAt a := by
  have hm : Held [SES_MAP_BASE.key t 0, SES_WALK_ADDR.key t 0, SES_WALK_LIM_ADDR.key t 0]
      ((s.scrubPage (base / 4096)).scrubPage (base / 4096 + 1)) (s.emptyMap t base) :=
    .step (.wr (.wr (.wr (.refl h.scrubPage.scrubPage) (by simp)) (by simp)) (by simp)) h.emptyMap rfl rfl
  rw [hm.sameMem, State.byteAt_scrubPage (scrubPage_wf h.mem _), State.byteAt_scrubPage h.mem, ← ite_or]
  exact if_congr (by omega) rfl rfl

/-! ### The opened session -/

/-- The registers and limits of a session as SESSION_OPEN leaves them (Table SES-2, R52, R55). -/
def State.opened (s : State) (t : Nat) : State :=
  let s := (s.wr SES_CTL_STATE 1 t).setSess t { Sess.init with windows := (s.sess t).windows, tables := (s.sess t).tables }
  ((s.wr SES_CTL_QUOTA 64 t).wr SES_CTL_MAPC_SHARE 4 t).wr SES_POWER_RESERVE_MW 0 t

@[simp] theorem State.opened_ops (s : State) (t : Nat) : (s.opened t).ops = s.ops := rfl
@[simp] theorem State.opened_tm (s : State) (t : Nat) : (s.opened t).tm = s.tm := rfl

theorem State.Good.opened (h : s.Good True) : (s.opened t).Good True := .wr (.wr (.wr (.setSess h.wr)))

theorem Held.opened (h : s.Good True) (t : Nat) :
    Held [SES_CTL_STATE.key t 0, SES_CTL_QUOTA.key t 0, SES_CTL_MAPC_SHARE.key t 0, SES_POWER_RESERVE_MW.key t 0] s
      (s.opened t) :=
  have h1 : Held _ s (s.wr SES_CTL_STATE 1 t) := .wr (.refl h) (List.mem_cons_self ..)
  .wr (.wr (.wr (h1.step h1.good.setSess rfl rfl) (by simp)) (by simp)) (by simp)

theorem State.rd_opened (h : s.Good True) (t : Nat) : let u := s.opened t
    u.rd SES_CTL_STATE t = 1 ∧ u.rd SES_CTL_QUOTA t = 64 ∧ u.rd SES_CTL_MAPC_SHARE t = 4 ∧
      u.rd SES_POWER_RESERVE_MW t = 0 := by
  generalize hx : ({ Sess.init with windows := (s.sess t).windows, tables := (s.sess t).tables } : Sess) = x
  have h1 : ((s.wr SES_CTL_STATE 1 t).setSess t x).Good True := h.wr.setSess
  have e : s.opened t = ((((s.wr SES_CTL_STATE 1 t).setSess t x).wr SES_CTL_QUOTA 64 t).wr SES_CTL_MAPC_SHARE 4 t).wr
      SES_POWER_RESERVE_MW 0 t := by
    rw [← hx]
    rfl
  rw [e]
  refine ⟨?_, ?_, ?_, State.rd_wr_same (h1.wr.wr.regs trivial) SES_POWER_RESERVE_MW 0 t 0⟩
  · rw [State.rd_wr_ne h1.wr.wr SES_POWER_RESERVE_MW SES_CTL_STATE, State.rd_wr_ne h1.wr SES_CTL_MAPC_SHARE SES_CTL_STATE,
      State.rd_wr_ne h1 SES_CTL_QUOTA SES_CTL_STATE]
    exact State.rd_wr_same (h.regs trivial) SES_CTL_STATE 1 t 0
  · rw [State.rd_wr_ne h1.wr.wr SES_POWER_RESERVE_MW SES_CTL_QUOTA, State.rd_wr_ne h1.wr SES_CTL_MAPC_SHARE SES_CTL_QUOTA]
    exact State.rd_wr_same (h1.regs trivial) ..
  · rw [State.rd_wr_ne h1.wr.wr SES_POWER_RESERVE_MW SES_CTL_MAPC_SHARE]
    exact State.rd_wr_same (h1.wr.regs trivial) ..

/-! ### The command -/

variable {n : Fin 16} {tag base : Nat} {o : Op}

theorem exec_sessionOpen (hr : s.opRuns n tag 1 o) (place : Option Placement) : exec (.sessionOpen n tag place) s =
    .next (if o.par 0 = 0 ∨ 16 ≤ o.par 0 then s.endOp n tag eBadRecord 4
      else if !s.fnEnabled (o.par 0) then s.endOp n tag eUnsupported 5
      else if s.sesState (o.par 0) ≠ 0 then s.endOp n tag eBusy 0
      else s.grantTo o (o.par 0) (o.par 1) true place) := by
  obtain ⟨hs, ht, -⟩ := op?_key hr.1
  refine congrArg Host.Outcome.next ((runOp_of_opRuns (form := fun _ => true) hr rfl _).trans ?_)
  simp only [hs, ht]

/-- SESSION_OPEN with an empty list and a good place for the table. -/
theorem State.grantTo_opens (hw : (s.sess t).windows = []) (hl : s.limitCheck t o true = none) (ha : s.allRuns t [] ≤ 2048)
    (hb : s.baseOk t base [] = true) : s.grantTo o t 0 true (some { base := base, pages := [] }) =
      ((s.opened t).emptyMap t base).endOp o.sess o.tag doneOk 0 := by
  have hv : (s.evStart t []).Plain ((s.opened t).moved (s.evStart t [])) :=
    ⟨rfl, rfl, rfl, hw, rfl, rfl, fun _ hm => absurd hm List.not_mem_nil⟩
  have e : s.grantTo o t 0 true (some { base := base, pages := [] }) =
      (s.opened t).applyMoves t (s.evStart t []) (some base) o.sess o.tag 0 := by
    have hlim : ¬ 2048 < s.allRuns t [] := by omega
    simp [State.grantTo, State.evList_zero, State.evStart, hw, hl, hlim, hb, State.forceOut, State.opened]
  rw [e, State.applyMoves_plain hv]
  change (((s.opened t).resetObjs []).buildMap t base []).endOp _ _ _ _ = _
  rw [State.resetObjs_nil, State.buildMap_nil]

/-- SESSION_OPEN of a closed session (R43, R52, R55, R90). -/
theorem sessionOpen_opens (h : s.Good True) (hr : s.opRuns n tag 1 o) (h1 : 1 ≤ o.par 0) (h16 : o.par 0 < 16)
    (hf : s.fnEnabled (o.par 0) = true) (hc : s.sesState (o.par 0) = 0) (hn : o.par 1 = 0)
    (hw : (s.sess (o.par 0)).windows = []) (hl : s.limitCheck (o.par 0) o true = none)
    (ha : s.allRuns (o.par 0) [] ≤ 2048) (hb : s.baseOk (o.par 0) base [] = true) :
    ∃ t, exec (.sessionOpen n tag (some { base := base, pages := [] })) s = .next t ∧ Ends s t n tag 0 0 ∧
      t.rd SES_CTL_STATE (o.par 0) = 1 ∧ t.rd SES_CTL_QUOTA (o.par 0) = 64 ∧ t.rd SES_CTL_MAPC_SHARE (o.par 0) = 4 ∧
      t.rd SES_POWER_RESERVE_MW (o.par 0) = 0 ∧ (t.sess (o.par 0)).tables = [base] ∧
      (∀ i, i < 8192 → t.byteAt (base + i) = 0) ∧
      (∀ a, a < base ∨ base + 8192 ≤ a → t.byteAt a = s.byteAt a) := by
  have he : exec (.sessionOpen n tag (some { base := base, pages := [] })) s =
      .next (((s.opened (o.par 0)).emptyMap (o.par 0) base).endOp n tag doneOk 0) := by
    obtain ⟨hs, ht, -⟩ := op?_key hr.1
    rw [exec_sessionOpen hr, if_neg (by omega), if_neg (by simp [hf]), if_neg (by simp [hc]), hn,
      State.grantTo_opens hw hl ha hb, hs, ht]
  have hb' : base % 8192 = 0 := by
    have := (Bool.and_eq_true _ _).mp hb
    exact of_decide_eq_true this.1
  generalize o.par 0 = t at *
  have hg : (s.opened t).Good True := h.opened
  have rd {f : Fld} (hf : ∀ g ∈ walkFlds, f.key 0 0 ≠ g.key 0 0) := State.rd_emptyMap hg t base hf
  have htab := State.tables_emptyMap hg t base
  have hbyte := State.byteAt_emptyMap hg hb' t
  have hsame : ((s.opened t).emptyMap t base).ops = s.ops ∧ ((s.opened t).emptyMap t base).tm = s.tm := by simp
  obtain ⟨r1, r2, r3, r4⟩ := State.rd_opened h t
  have hopened := (Held.opened h t).sameMem
  generalize (s.opened t).emptyMap t base = u at *
  obtain ⟨hops, htm⟩ := hsame
  obtain ⟨hop, -, hfin, hst, -⟩ := hr
  have hend : Ends u (u.endOp n tag doneOk 0) n tag 0 0 := ends_endOp ((op?_congr hops ..).trans hop) hfin hst (by decide)
  refine ⟨_, he, ?_, ?_, ?_, ?_, ?_, ?_, fun i hi => ?_, fun a ha => ?_⟩
  · exact hend.congr rfl htm.symm
  · rw [State.rd_endOp, rd (by decide), r1]
  · rw [State.rd_endOp, rd (by decide), r2]
  · rw [State.rd_endOp, rd (by decide), r3]
  · rw [State.rd_endOp, rd (by decide), r4]
  · rw [State.sess_endOp, htab]
  · rw [State.byteAt_endOp, hbyte, if_pos (by omega)]
  · rw [State.byteAt_endOp, hbyte, if_neg (by omega), hopened]

end

end Sys2Proof.Machine

end

section
/-! # GRANT -/

namespace Sys2Proof.Machine

open Reg

set_option Elab.async false

/-! ### Limits -/

section
variable {s : State} {t : Nat} {o : Op}

/-- A quota that passes the check fits its field (R52). -/
theorem quota_le_of_limitCheck (h : s.limitCheck t o false = none) (hb : (o.par 0).testBit 4 = true) : o.par 1 ≤ 512 := by
  by_contra hc
  have hlt : 512 < o.par 1 := by omega
  unfold State.limitCheck at h
  simp [refuse, bad, hb, hlt] at h

/-- The registers of a session that GRANT's parameters set, before the allowance is reported anew. -/
def State.limitRegs (s : State) (t : Nat) (o : Op) : State :=
  let s := if (o.par 0).testBit 4 then s.wr SES_CTL_QUOTA (o.par 1) t else s
  let s := if (o.par 0).testBit 5 then s.wr SES_POWER_RESERVE_MW (o.par 2) t else s
  let s := if (o.par 0).testBit 6 then (s.wr CU_POOL_L_RES (o.par 3) t).wr CU_POOL_C_RES (o.par 3 / 65536) t else s
  if (o.par 0).testBit 7 then s.wr SES_CTL_MAPC_SHARE (o.par 4) t else s

theorem State.setLimits_eq (s : State) (t : Nat) (o : Op) : s.setLimits t o = (s.limitRegs t o).allowUpdate 0 := by
  unfold State.setLimits State.limitRegs
  rfl

@[simp] theorem State.limitRegs_mem (s : State) (t : Nat) (o : Op) : (s.limitRegs t o).mem = s.mem := by
  simp only [State.limitRegs, apply_ite State.mem, State.wr_mem, ite_self]

@[simp] theorem State.limitRegs_tm (s : State) (t : Nat) (o : Op) : (s.limitRegs t o).tm = s.tm := by
  simp only [State.limitRegs, apply_ite State.tm, State.wr_tm, ite_self]

@[simp] theorem State.limitRegs_ops (s : State) (t : Nat) (o : Op) : (s.limitRegs t o).ops = s.ops := by
  simp only [State.limitRegs, apply_ite State.ops, State.wr_ops, ite_self]

@[simp] theorem State.limitRegs_own (s : State) (t : Nat) (o : Op) : (s.limitRegs t o).own = s.own := by
  simp only [State.limitRegs, apply_ite State.own, State.wr_own, ite_self]

theorem State.Good.limitRegs (h : s.Good True) : (s.limitRegs t o).Good True := by
  unfold State.limitRegs
  extract_lets s1 s2 s3
  have h1 : s1.Good True := .either h.wr h
  have h2 : s2.Good True := .either h1.wr h1
  have h3 : s3.Good True := .either h2.wr.wr h2
  exact .either h3.wr h3

theorem State.rd_either {c : Prop} {_ : Decidable c} {f : Fld} {i j v : Nat} {a b : State} (ha : a.rd f i j = v)
    (hb : b.rd f i j = v) : (if c then a else b).rd f i j = v := by
  split <;> assumption

/-- The quota is the one its flag names, or the one before. -/
theorem State.rd_quota_limitRegs (h : s.Good True) (hl : s.limitCheck t o false = none) :
    (s.limitRegs t o).rd SES_CTL_QUOTA t = if (o.par 0).testBit 4 then o.par 1 else s.rd SES_CTL_QUOTA t := by
  unfold State.limitRegs
  extract_lets s1 s2 s3
  have h1 : s1.Good True := .either h.wr h
  have h2 : s2.Good True := .either h1.wr h1
  have h3 : s3.Good True := .either h2.wr.wr h2
  have e1 : s1.rd SES_CTL_QUOTA t = if (o.par 0).testBit 4 then o.par 1 else s.rd SES_CTL_QUOTA t := by
    by_cases hb : (o.par 0).testBit 4 = true
    · have hq := quota_le_of_limitCheck hl hb
      rw [if_pos hb, show s1 = s.wr SES_CTL_QUOTA (o.par 1) t from if_pos hb, State.rd_wr_same (h.regs trivial)]
      exact Nat.mod_eq_of_lt (by rw [show 2 ^ SES_CTL_QUOTA.width = 1024 from rfl]; omega)
    · rw [if_neg hb, show s1 = s from if_neg hb]
  have e2 : s2.rd SES_CTL_QUOTA t = _ := State.rd_either
    ((State.rd_wr_ne h1 SES_POWER_RESERVE_MW SES_CTL_QUOTA (o.par 2) t).trans e1) e1
  have e3 : s3.rd SES_CTL_QUOTA t = _ := State.rd_either
    ((State.rd_wr_ne h2.wr CU_POOL_C_RES SES_CTL_QUOTA (o.par 3 / 65536) t).trans
      ((State.rd_wr_ne h2 CU_POOL_L_RES SES_CTL_QUOTA (o.par 3) t).trans e2)) e2
  exact State.rd_either ((State.rd_wr_ne h3 SES_CTL_MAPC_SHARE SES_CTL_QUOTA (o.par 4) t).trans e3) e3

theorem State.setLimits_beside (h : s.Good True) (t : Nat) (o : Op) : BesideSessions (s.limitRegs t o) (s.setLimits t o) := by
  rw [State.setLimits_eq]
  exact (BesideSessions.refl h.limitRegs).allowUpdate

/-- New limits leave memory, device time, operations and ownership. -/
theorem State.setLimits_frame (h : s.Good True) (t : Nat) (o : Op) :
    (s.setLimits t o).mem = s.mem ∧ (s.setLimits t o).tm = s.tm ∧ (s.setLimits t o).ops = s.ops ∧
      (s.setLimits t o).own = s.own := by
  have hb := State.setLimits_beside h t o
  exact ⟨hb.mem.trans (s.limitRegs_mem t o), hb.tm.trans (s.limitRegs_tm t o), hb.ops.trans (s.limitRegs_ops t o),
    hb.own.trans (s.limitRegs_own t o)⟩

end

/-! ### The list -/

section
variable {s : State} {t k : Nat} {o : Op} {v : Ev}

/-- The list was read to its end without a refusal, names no window and forces nothing out. -/
structure Ev.Passes (v : Ev) : Prop where
  err : v.err = none
  unfit : v.unfit = false
  touched : v.touched = []
  forced : v.forced = []

/-- What GRANT answers as its RESULT: its first Chart range, or none, and the session's crate pool. -/
def Ev.grantResult (v : Ev) (t : Nat) : Nat := v.first3.getD 0xFFFF + (0x6000 + t) * 65536

/-- A GRANT whose list and limits pass is applied. -/
theorem State.grantTo_grants (hv : s.evList t (flagged flagForce o) o.data k [] = v) (hp : v.Passes)
    (hl : s.limitCheck t o false = none) (ha : s.allRuns t v.wins ≤ 2048) : s.grantTo o t k false none =
      (s.setLimits t o).applyMoves t v none o.sess o.tag (v.grantResult t) := by
  have hlim : ¬ 2048 < s.allRuns t v.wins := by omega
  simp [State.grantTo, hv, hp.err, hp.unfit, hp.touched, hp.forced, hl, hlim, State.forceOut, Ev.grantResult]

/-! ### A PM point -/

/-- The object of a PM point. -/
def pointObj (p : Fin 2048) : Nat := 0x8000 + p

theorem objClass_pointObj (p : Fin 2048) : objClass (pointObj p) = 8 := by unfold objClass pointObj; omega

theorem objIndex_pointObj (p : Fin 2048) : objIndex (pointObj p) = p := by unfold objIndex pointObj; omega

theorem objSlice?_pointObj (p : Fin 2048) : objSlice? (pointObj p) = none := by
  unfold objSlice? pointObj
  rw [if_neg (by omega), if_neg (by omega)]

/-- A point that moves is reset and has its new owner (R50, R450). -/
theorem State.moveObj_point (s : State) (p : Fin 2048) (n m : Nat) : s.moveObj (pointObj p) n m =
    { s.pmReset p with own := { s.own with objs := smSet 0 s.own.objs (pointObj p) m } } := by
  have hs : objSources (pointObj p) = [] := by simp only [objSources, objClass_pointObj]
  have hw (u : State) : u.wipeObj (pointObj p) = u.pmReset p := by
    simp only [State.wipeObj, objClass_pointObj, objIndex_pointObj]
  simp only [State.moveObj, objSlice?_pointObj, objClass_pointObj, hs, hw]
  rfl

@[simp] theorem State.pmReset_mem (s : State) (p : Nat) : (s.pmReset p).mem = s.mem := by simp [State.pmReset]
@[simp] theorem State.pmReset_ops (s : State) (p : Nat) : (s.pmReset p).ops = s.ops := by simp [State.pmReset]
@[simp] theorem State.pmReset_tm (s : State) (p : Nat) : (s.pmReset p).tm = s.tm := by simp [State.pmReset]

/-- The bytes of a list with the one entry that gives a point. -/
def pointEntry (p : Fin 2048) : List Byte := leBytes 2 0 ++ leBytes 2 (pointObj p) ++ leBytes 4 1 ++ leBytes 8 0

/-- What the entry asks for. -/
def Ev.withPoint (v : Ev) (p : Fin 2048) (t : Nat) : Ev :=
  { v with objs := smIns v.objs (pointObj p) t, moves := v.moves ++ [(pointObj p, 0, t)] }

theorem leAt_pointEntry (p : Fin 2048) : leAt (pointEntry p) 0 1 = 0 ∧ leAt (pointEntry p) 1 1 = 0 ∧
    leAt (pointEntry p) 2 2 = pointObj p ∧ leAt (pointEntry p) 4 4 = 1 ∧ leAt (pointEntry p) 8 4 = 0 ∧
    leAt (pointEntry p) 12 4 = 0 := by
  refine ⟨rfl, rfl, ?_, rfl, rfl, rfl⟩
  change (BitVec.ofNat 8 (pointObj p)).toNat + 256 * ((BitVec.ofNat 8 (pointObj p / 256)).toNat + 256 * 0) = _
  rw [BitVec.toNat_ofNat, BitVec.toNat_ofNat]
  unfold pointObj
  omega

theorem sliceBytes_pointEntry (p : Fin 2048) : sliceBytes (pointEntry p) 0 16 = pointEntry p := rfl

theorem objValid_pointObj (p : Fin 2048) :
    objValid (pointObj p) = true ∧ objIndex (pointObj p) + 1 ≤ classSize (objClass (pointObj p)) := by
  have := p.isLt
  rw [objValid, objClass_pointObj, objIndex_pointObj]
  simp only [classSize, pointObj, decide_eq_true_eq]
  omega

/-- A free point that nothing uses is given to a user session (R49, R50). -/
theorem evObj_point {p : Fin 2048} (force : Bool) (he : v.err = none) (ht : t ≠ 0)
    (ho : smGet (s.ownerOf (pointObj p)) v.objs (pointObj p) = 0) (hb : s.objBusy (pointObj p) = false)
    (hu : s.inUse 0 (pointObj p) = false) : evObj s t force false v (pointObj p) = v.withPoint p t := by
  unfold evObj
  simp [he, ho, Ne.symm ht, hb, Ev.leave, hu, Ev.withPoint]

theorem evEntry_point {p : Fin 2048} (force : Bool) (he : v.err = none) (ht : t ≠ 0)
    (ho : smGet (s.ownerOf (pointObj p)) v.objs (pointObj p) = 0) (hb : s.objBusy (pointObj p) = false)
    (hu : s.inUse 0 (pointObj p) = false) : evEntry s t force v (pointEntry p) = v.withPoint p t := by
  obtain ⟨e0, e1, e2, e4, e8, e12⟩ := leAt_pointEntry p
  obtain ⟨hval, hsz⟩ := objValid_pointObj p
  have hg : grantable (objClass (pointObj p)) = true := by rw [objClass_pointObj]; rfl
  have hsz' : ¬ classSize (objClass (pointObj p)) < objIndex (pointObj p) + 1 := by omega
  have hobj := evObj_point force he ht ho hb hu
  unfold evEntry
  simp [he, e0, e1, e2, e4, e8, e12, hval, hsz', hg, hobj]

/-- The list that gives one free point. -/
theorem State.evList_point {p : Fin 2048} (s : State) (force : Bool) (ht : t ≠ 0) (ho : s.ownerOf (pointObj p) = 0)
    (hb : s.objBusy (pointObj p) = false) (hu : s.inUse 0 (pointObj p) = false) (pages : List (List Nat)) :
    s.evList t force (pointEntry p) 1 pages = (s.evStart t pages).withPoint p t := by
  change evEntry s t force (s.evStart t pages) (sliceBytes (pointEntry p) 0 16) = _
  rw [sliceBytes_pointEntry]
  exact evEntry_point force rfl ht ho hb hu

end

/-! ### The command -/

section
variable {s : State} {n : Fin 16} {tag : Nat} {o : Op}

/-- No scrub of an earlier pass of this GRANT is under way. -/
def State.noGrantScrub (s : State) (o : Op) : Prop := (s.own.scrubs.any fun r => r.kind = 0 && r.tag = some o.tag) = false

theorem exec_grant (hr : s.opRuns n tag 3 o) (hs : s.noGrantScrub o) (hlt : o.par 0 < 256) (place : Option Placement) :
    exec (.grant n tag place) s = .next (if s.sesState (o.par 0 % 16) = 0 then s.endOp n tag eBadRecord 4
      else if 3 ≤ s.sesState (o.par 0 % 16) then s.endOp n tag eBusy 0
      else s.grantTo o (o.par 0 % 16) (o.par 5) false place) := by
  obtain ⟨hsess, htag, -⟩ := op?_key hr.1
  have hform : (!s.own.scrubs.any fun r => r.kind = 0 && r.tag = some o.tag) = true := by rw [hs]; rfl
  refine congrArg Host.Outcome.next ((runOp_of_opRuns
    (form := fun o => !s.own.scrubs.any fun r => r.kind = 0 && r.tag = some o.tag) hr hform _).trans ?_)
  have hc : (256 ≤ o.par 0 ∨ s.sesState (o.par 0 % 16) = 0) ↔ s.sesState (o.par 0 % 16) = 0 := by omega
  simp only [hsess, htag, hc]

/-- A GRANT of whole objects to an open session: its limits are set, then its objects move, and it ends (R48, R50). -/
theorem grant_plain {v : Ev} (hr : s.opRuns n tag 3 o) (hs : s.noGrantScrub o) (hlt : o.par 0 < 256)
    (hst : s.sesState (o.par 0 % 16) = 1 ∨ s.sesState (o.par 0 % 16) = 2)
    (hl : s.limitCheck (o.par 0 % 16) o false = none) (ha : s.allRuns (o.par 0 % 16) v.wins ≤ 2048)
    (hv : s.evList (o.par 0 % 16) (flagged flagForce o) o.data (o.par 5) [] = v) (hp : v.Passes)
    (hplain : v.Plain ((s.setLimits (o.par 0 % 16) o).moved v)) :
    exec (.grant n tag none) s = .next ((((s.setLimits (o.par 0 % 16) o).moved v).resetObjs (v.moves.map (·.1))).endOp n tag
      doneOk (v.grantResult (o.par 0 % 16))) := by
  obtain ⟨hsess, htag, -⟩ := op?_key hr.1
  rw [exec_grant hr hs hlt, if_neg (by omega), if_neg (by omega), State.grantTo_grants hv hp hl ha,
    State.applyMoves_plain hplain, State.mapped_none, hsess, htag]

theorem Ev.grantResult_none {v : Ev} (hv : v.first3 = none) (t : Nat) : v.grantResult t = 0xFFFF + (0x6000 + t) * 65536 := by
  rw [Ev.grantResult, hv]
  rfl

/-- GRANT with an empty list sets the quota that its flag names (R52). -/
theorem grant_limits (h : s.Good True) (hr : s.opRuns n tag 3 o) (hs : s.noGrantScrub o) (hlt : o.par 0 < 256)
    (hst : s.sesState (o.par 0 % 16) = 1 ∨ s.sesState (o.par 0 % 16) = 2)
    (hl : s.limitCheck (o.par 0 % 16) o false = none) (hw : (s.sess (o.par 0 % 16)).windows = [])
    (ha : s.allRuns (o.par 0 % 16) [] ≤ 2048) (hk : o.par 5 = 0) : DoesWide (.grant n tag none) s fun t =>
      Ends s t n tag 0 (0xFFFF + (0x6000 + o.par 0 % 16) * 65536) ∧
      t.rd SES_CTL_QUOTA (o.par 0 % 16) = (if (o.par 0).testBit 4 then o.par 1 else s.rd SES_CTL_QUOTA (o.par 0 % 16)) ∧
      t.own = s.own := by
  have hm16 : o.par 0 % 16 < 16 := Nat.mod_lt _ (by decide)
  have hq := State.rd_quota_limitRegs h hl
  have hb := State.setLimits_beside h (o.par 0 % 16) o
  obtain ⟨hmem, htm, hops, hown⟩ := State.setLimits_frame h (o.par 0 % 16) o
  have hplain : (s.evStart (o.par 0 % 16) []).Plain ((s.setLimits (o.par 0 % 16) o).moved (s.evStart (o.par 0 % 16) [])) := by
    rw [State.moved_none _ rfl]
    exact ⟨congrArg OwnSt.ranges hown.symm, rfl, rfl, hw, rfl, rfl, fun _ hm => absurd hm List.not_mem_nil⟩
  have he := grant_plain (v := s.evStart (o.par 0 % 16) []) hr hs hlt hst hl (by rwa [State.evStart, hw])
    (by rw [hk]; rfl) ⟨rfl, rfl, rfl, rfl⟩ hplain
  rw [Ev.grantResult_none rfl, State.moved_none _ rfl, show (s.evStart (o.par 0 % 16) []).moves.map (·.1) = [] from rfl,
    State.resetObjs_nil] at he
  have hu := (hb.rd_block (f := SES_CTL_QUOTA) (show o.par 0 % 16 < 8192 by omega)).trans hq
  generalize s.setLimits (o.par 0 % 16) o = u at *
  obtain ⟨hop, -, hfin, hrun, -⟩ := hr
  have hend : Ends u (u.endOp n tag doneOk (0xFFFF + (0x6000 + o.par 0 % 16) * 65536)) n tag 0
      (0xFFFF + (0x6000 + o.par 0 % 16) * 65536) :=
    ends_endOp ((op?_congr hops ..).trans hop) hfin hrun (by omega)
  exact ⟨_, he, ⟨hend.congr rfl htm.symm, (State.rd_endOp ..).trans hu, (State.endOp_own ..).trans hown⟩,
    (State.endOp_mem ..).trans hmem⟩

/-- GRANT of one free point moves it to the session and moves nothing else (R48, R50). -/
theorem grant_point (h : s.Good True) (hr : s.opRuns n tag 3 o) (hs : s.noGrantScrub o) (hlt : o.par 0 < 256)
    (hst : s.sesState (o.par 0 % 16) = 1 ∨ s.sesState (o.par 0 % 16) = 2)
    (hl : s.limitCheck (o.par 0 % 16) o false = none) (hw : (s.sess (o.par 0 % 16)).windows = [])
    (ha : s.allRuns (o.par 0 % 16) [] ≤ 2048) (p : Fin 2048) (hk : o.par 5 = 1) (h1 : 1 ≤ o.par 0 % 16)
    (ho : s.ownerOf (pointObj p) = 0) (hbusy : s.objBusy (pointObj p) = false) (huse : s.inUse 0 (pointObj p) = false)
    (hdata : o.data = pointEntry p) : DoesWide (.grant n tag none) s fun t =>
      Ends s t n tag 0 (0xFFFF + (0x6000 + o.par 0 % 16) * 65536) ∧ t.ownerOf (pointObj p) = o.par 0 % 16 ∧
      ∀ x, x ≠ pointObj p → t.ownerOf x = s.ownerOf x := by
  have hm16 : o.par 0 % 16 < 16 := Nat.mod_lt _ (by decide)
  obtain ⟨hmem, htm, hops, hown⟩ := State.setLimits_frame h (o.par 0 % 16) o
  have hmv : (s.setLimits (o.par 0 % 16) o).moved ((s.evStart (o.par 0 % 16) []).withPoint p (o.par 0 % 16)) =
      { (s.setLimits (o.par 0 % 16) o).pmReset p with
        own := { s.own with objs := smSet 0 s.own.objs (pointObj p) (o.par 0 % 16) } } :=
    (State.moveObj_point _ p 0 _).trans (by rw [hown])
  have hplain : ((s.evStart (o.par 0 % 16) []).withPoint p (o.par 0 % 16)).Plain
      ((s.setLimits (o.par 0 % 16) o).moved ((s.evStart (o.par 0 % 16) []).withPoint p (o.par 0 % 16))) := by
    rw [hmv]
    exact ⟨rfl, rfl, rfl, hw, rfl, rfl, by simpa [Ev.withPoint, State.evStart] using Nat.ne_of_gt h1⟩
  have he := grant_plain (v := (s.evStart (o.par 0 % 16) []).withPoint p (o.par 0 % 16)) hr hs hlt hst hl
    (by rwa [Ev.withPoint, State.evStart, hw])
    (by rw [hk, hdata, State.evList_point s _ (by omega) ho hbusy huse]) ⟨rfl, rfl, rfl, rfl⟩ hplain
  rw [Ev.grantResult_none rfl, hmv] at he
  generalize s.setLimits (o.par 0 % 16) o = u at *
  generalize hl' : ((s.evStart (o.par 0 % 16) []).withPoint p (o.par 0 % 16)).moves.map (·.1) = l at he
  generalize hx : (({ u.pmReset p with own := { s.own with objs := smSet 0 s.own.objs (pointObj p) (o.par 0 % 16) } } :
    State).resetObjs l) = x at he
  have hxo : x.own.objs = smSet 0 s.own.objs (pointObj p) (o.par 0 % 16) := by rw [← hx, State.resetObjs_own]
  have hxm : x.mem = u.mem := by rw [← hx, State.resetObjs_mem, State.pmReset_mem]
  have hxops : x.ops = u.ops := by rw [← hx, State.resetObjs_ops, State.pmReset_ops]
  have hxtm : x.tm = u.tm := by rw [← hx, State.resetObjs_tm, State.pmReset_tm]
  obtain ⟨hop, -, hfin, hrun, -⟩ := hr
  have hend : Ends x (x.endOp n tag doneOk (0xFFFF + (0x6000 + o.par 0 % 16) * 65536)) n tag 0
      (0xFFFF + (0x6000 + o.par 0 % 16) * 65536) :=
    ends_endOp ((op?_congr (hxops.trans hops) ..).trans hop) hfin hrun (by omega)
  have hown' (y : Nat) : (x.endOp n tag doneOk (0xFFFF + (0x6000 + o.par 0 % 16) * 65536)).ownerOf y =
      smGet 0 (smSet 0 s.own.objs (pointObj p) (o.par 0 % 16)) y := by
    rw [State.ownerOf, State.endOp_own, hxo]
  refine ⟨_, he, ⟨hend.congr rfl (hxtm.trans htm).symm, ?_, fun y hy => ?_⟩,
    (State.endOp_mem ..).trans (hxm.trans hmem)⟩
  · rw [hown', smGet_smSet_same 0 (h.objs trivial)]
  · rw [hown', smGet_smSet_other 0 (h.objs trivial) _ hy]
    rfl

end

end Sys2Proof.Machine

end

section
/-! # WATCH_GRANT, and O25 -/

namespace Sys2Proof.Machine

open Reg

set_option Elab.async false

section
variable {s : State} {n i w tag : Nat}

theorem objSlice?_sliceObj (i : Fin 24) : objSlice? (sliceObj i) = some i.val := by
  unfold sliceObj
  split
  · exact if_pos ‹_›
  · unfold objSlice?
    rw [if_neg (by omega), if_pos (by omega)]
    exact congrArg some (by omega)

/-! ### The end of a watch -/

/-- Orphaned points: registers and the points themselves. -/
theorem State.pmOrphanObj_eq (s : State) (n o : Nat) (watchOnly : Bool) : s.pmOrphanObj n o watchOnly =
    { s with regs := (s.pmOrphanObj n o watchOnly).regs, pm := (s.pmOrphanObj n o watchOnly).pm } := by
  unfold State.pmOrphanObj
  refine List.foldlRecOn (motive := fun (t : State) => t = { s with regs := t.regs, pm := t.pm }) _ _ rfl fun t ht e _ => ?_
  split
  · rw [State.pmOrphan, ht]
    rfl
  · exact ht

/-- The machine without the watch. -/
def State.unwatch (s : State) (i w : Nat) : State :=
  { s with own := { s.own with watches := s.own.watches.filter fun x => !(x.1 = i && x.2 = w) } }

/-- A watcher with no operation and no port on the slice loses its points there and nothing else. -/
theorem State.watchEnd_quiet (ho : ∀ y ∈ s.ops, y.sess ≠ w)
    (hp : (s.portsWhere fun h q => s.helmOwner h = w && q.src = sliceObj i && !q.cut) = []) :
    s.watchEnd i w = (s.unwatch i w).pmOrphanObj w (sliceObj i) true := by
  have hops : ((s.unwatch i w).pmOrphanObj w (sliceObj i) true).ops = s.ops := by rw [State.pmOrphanObj_eq]; rfl
  unfold State.watchEnd
  extract_lets o _ s1 s2 s3
  have hp1 : (s1.portsWhere fun h q => s1.helmOwner h = w && q.src = o && !q.cut) = [] := hp
  have e2 : s2 = s1 := congrArg (List.foldl _ s1) hp1
  have e3 : s3 = (s.unwatch i w).pmOrphanObj w (sliceObj i) true := congrArg (State.pmOrphanObj · w o true) e2
  have hnone : (s3.ops.filter fun x => x.sess = w && x.live && x.active && x.started && opObj? x = some o) = [] := by
    rw [e3, hops, List.filter_eq_nil_iff]
    intro y hy
    simp [ho y hy]
  rw [hnone, List.foldl_nil, e3]

theorem State.watches_unwatch (s : State) (i w : Nat) : (s.unwatch i w).watches w i = false := by
  simp only [State.watches, State.unwatch, List.any_filter, List.any_eq_false]
  intro x _
  by_cases hx : x.1 = i <;> simp [hx]

/-! ### The command -/

/-- The machine with the watch. -/
def State.watchAdded (s : State) (i w : Nat) : State := { s with own := { s.own with watches := s.own.watches ++ [(i, w)] } }

theorem State.watches_watchAdded (s : State) (i w v k : Nat) :
    (s.watchAdded i w).watches v k = (s.watches v k || (i = k && w = v)) := by
  simp [State.watches, State.watchAdded]

end

section
variable {s : State} {n : Fin 16} {tag : Nat} {o : Op} {i : Fin 24}

theorem exec_watchGrant (hr : s.opRuns n tag 4 o) (ho : o.obj = sliceObj i) : exec (.watchGrant n tag) s =
    .next (if 32 ≤ o.par 0 then s.endOp n tag eBadRecord 4
      else if (o.par 0).testBit 4 then (if s.watches (o.par 0 % 16) i then s.watchEnd i (o.par 0 % 16) else s).endOp n tag doneOk 0
      else if o.par 0 % 16 = 0 ∨ o.par 0 % 16 = n ∨ (s.sesState (o.par 0 % 16) ≠ 1 ∧ s.sesState (o.par 0 % 16) ≠ 2) then
        s.endOp n tag eBadRecord 4
      else if s.watches (o.par 0 % 16) i then s.endOp n tag doneOk 0
      else if 4 ≤ (s.own.watches.filter fun x => x.1 = i.val).length then s.endOp n tag eBusy 0
      else (s.watchAdded i (o.par 0 % 16)).endOp n tag doneOk 0) := by
  obtain ⟨hsess, htag, -⟩ := op?_key hr.1
  refine congrArg Host.Outcome.next ((runOp_of_opRuns (form := fun _ => true) hr rfl _).trans ?_)
  simp only [ho, objSlice?_sliceObj, hsess, htag]
  rfl

/-- Bit 4 of a parameter below 32 tells giving from ending a watch. -/
theorem testBit_four {x : Nat} : (x < 16 → x.testBit 4 = false) ∧ (16 ≤ x → x < 32 → x.testBit 4 = true) := by
  simp only [Nat.testBit_eq_decide_div_mod_eq, decide_eq_false_iff_not, decide_eq_true_eq]
  omega

/-- What GRANT of a watch does where nothing forbids it (R57). -/
theorem watchGrant_gives (h : s.Good True) (hr : s.opRuns n tag 4 o) (ho : o.obj = sliceObj i) (hlt : o.par 0 < 16)
    (h0 : o.par 0 % 16 ≠ 0) (hn : o.par 0 % 16 ≠ n) (hst : s.sesState (o.par 0 % 16) = 1 ∨ s.sesState (o.par 0 % 16) = 2)
    (hw : s.watches (o.par 0 % 16) i = false) (h4 : (s.own.watches.filter fun x => x.1 = i.val).length < 4) :
    OpDoes (.watchGrant n tag) s n tag 0 0 [] fun t => t.watches (o.par 0 % 16) i = true ∧
      ∀ v k, (v, k) ≠ (o.par 0 % 16, i.val) → t.watches v k = s.watches v k := by
  have e := exec_watchGrant hr ho
  rw [if_neg (by omega), if_neg (by simp [testBit_four.1 hlt]), if_neg (by omega), if_neg (by simp [hw]),
    if_neg (by omega)] at e
  obtain ⟨hop, -, hfin, hrun, -⟩ := hr
  have ha : (s.watchAdded i (o.par 0 % 16)).Good True := h.update
  have hh : Held [] s ((s.watchAdded i (o.par 0 % 16)).endOp n tag doneOk 0) := (Held.refl h).step ha.endOp rfl rfl
  have hend : Ends (s.watchAdded i (o.par 0 % 16)) ((s.watchAdded i (o.par 0 % 16)).endOp n tag doneOk 0) n tag 0 0 :=
    ends_endOp hop hfin hrun (by decide)
  refine hh.does e ⟨hend.congr rfl rfl, ?_, fun v k hne => ?_⟩
  · exact (State.watches_watchAdded s i _ _ _).trans (by simp)
  · refine (State.watches_watchAdded s i _ v k).trans ?_
    have : ¬ (i.val = k ∧ o.par 0 % 16 = v) := fun ⟨hk, hv⟩ => hne (by rw [hk, hv])
    rw [← Bool.decide_and, decide_eq_false this, Bool.or_false]

/-- A watch that the owner ends (R60). -/
theorem watchGrant_ends (hr : s.opRuns n tag 4 o) (ho : o.obj = sliceObj i) (h16 : 16 ≤ o.par 0) (h32 : o.par 0 < 32)
    (hw : s.watches (o.par 0 % 16) i = true) (hops : ∀ y ∈ s.ops, y.sess ≠ o.par 0 % 16)
    (hp : (s.portsWhere fun h q => s.helmOwner h = o.par 0 % 16 && q.src = sliceObj i && !q.cut) = []) :
    DoesWide (.watchGrant n tag) s fun t => Ends s t n tag 0 0 ∧ t.watches (o.par 0 % 16) i = false := by
  have e := exec_watchGrant hr ho
  rw [if_neg (by omega), if_pos (testBit_four.2 h16 h32), if_pos hw, State.watchEnd_quiet hops hp] at e
  have hf := State.pmOrphanObj_eq (s.unwatch i (o.par 0 % 16)) (o.par 0 % 16) (sliceObj i) true
  generalize (s.unwatch i (o.par 0 % 16)).pmOrphanObj (o.par 0 % 16) (sliceObj i) true = u at *
  have hu : u.ops = s.ops ∧ u.tm = s.tm ∧ u.mem = s.mem := by rw [hf]; exact ⟨rfl, rfl, rfl⟩
  have hown : u.own = (s.unwatch i (o.par 0 % 16)).own := by rw [hf]
  obtain ⟨huops, hutm, humem⟩ := hu
  obtain ⟨hop, -, hfin, hrun, -⟩ := hr
  have hend : Ends u (u.endOp n tag doneOk 0) n tag 0 0 :=
    ends_endOp ((op?_congr huops ..).trans hop) hfin hrun (by decide)
  refine ⟨_, e, ⟨hend.congr rfl hutm.symm, ?_⟩, (State.endOp_mem ..).trans humem⟩
  rw [State.watches, State.endOp_own, hown]
  exact State.watches_unwatch s i _

end

/-- Settles O25: each answer of SESSION_OPEN, GRANT and WATCH_GRANT has its lemma above, or is the operation's end alone. -/
theorem sessionsAreOpenedGrantedAndWatched : Obligations.SessionsAreOpenedGrantedAndWatched := by
  unfold Obligations.SessionsAreOpenedGrantedAndWatched
  intro s n tag o hwf
  have h := (State.wf_iff s).mp hwf
  refine ⟨fun hr place => ⟨fun hp => ?openBad, fun h1 h16 => ⟨fun hf => ?openDisabled, fun hf hc => ?openBusy, ?opens⟩⟩,
    fun hr hlt hs place => ⟨fun h0 => ?grantClosed, fun h3 => ?grantBusy, fun hst hl hw ha => ⟨?limits, ?point⟩⟩,
    fun hr i ho => ⟨fun h32 => ?watchBad, fun hlt => ⟨fun hw => ?watchNone, fun h0 hn hst => ⟨fun hw => ?watched,
      fun hw h4 => ?full, ?gives⟩⟩, fun h16 h32 hw => ?unwatched, ?ends⟩⟩
  case openBad => exact opDoes_endOp h hr ((exec_sessionOpen hr place).trans (by rw [if_pos hp]; rfl)) (by decide)
  case openDisabled =>
    exact opDoes_endOp h hr ((exec_sessionOpen hr place).trans (by rw [if_neg (by omega), if_pos (by simp [hf])]; rfl)) (by decide)
  case openBusy =>
    exact does_endsAs (r := 0) h hr
      ((exec_sessionOpen hr place).trans (by rw [if_neg (by omega), if_neg (by simp [hf]), if_pos hc]; rfl))
  case opens => exact fun hf hc hn base => sessionOpen_opens h hr h1 h16 hf hc hn
  case grantClosed => exact opDoes_endOp h hr ((exec_grant hr hs hlt place).trans (by rw [if_pos h0]; rfl)) (by decide)
  case grantBusy =>
    exact does_endsAs (r := 0) h hr ((exec_grant hr hs hlt place).trans (by rw [if_neg (by omega), if_pos h3]; rfl))
  case limits => exact grant_limits h hr hs hlt hst hl hw ha
  case point => exact fun p hk h1 hown hb hu hd => grant_point h hr hs hlt hst hl hw ha p hk h1 hown hb hu hd
  case watchBad => exact opDoes_endOp h hr ((exec_watchGrant hr ho).trans (by rw [if_pos h32]; rfl)) (by decide)
  case watchNone =>
    have hb := testBit_four.1 hlt
    refine opDoes_endOp h hr ((exec_watchGrant hr ho).trans ?_) (by decide)
    rw [if_neg (by omega), if_neg (by simp [hb]), if_pos (by omega)]
    rfl
  case watched =>
    have hb := testBit_four.1 hlt
    refine opDoes_endOp h hr ((exec_watchGrant hr ho).trans ?_) (by decide)
    rw [if_neg (by omega), if_neg (by simp [hb]), if_neg (by omega), if_pos hw]
    rfl
  case full =>
    have hb := testBit_four.1 hlt
    refine does_endsAs (r := 0) h hr ((exec_watchGrant hr ho).trans ?_)
    rw [if_neg (by omega), if_neg (by simp [hb]), if_neg (by omega), if_neg (by simp [hw]), if_pos h4]
    rfl
  case gives => exact watchGrant_gives h hr ho hlt h0 hn hst
  case unwatched =>
    refine opDoes_endOp h hr ((exec_watchGrant hr ho).trans ?_) (by decide)
    rw [if_neg (by omega), if_pos (testBit_four.2 h16 h32), if_neg (by simp [hw])]
    rfl
  case ends => exact fun h16 h32 hw _ => watchGrant_ends hr ho h16 h32 hw

end Sys2Proof.Machine

end

section
/-! # A session reset, close or FLR begins, and the wait for reads -/

namespace Sys2Proof.Machine

open Reg

set_option Elab.async false

/-- A read of Sn's function is outstanding and in time (Table HST-5). -/
def State.ReadHeld (s : State) (n : Nat) : Prop :=
  ∃ r ∈ s.host.reads, r.func = n ∧ r.abandoned = false ∧ s.clock < r.issued + 1000000 * (s.fn n).ctoMs

/-- Sn has no operation, no read and no Helm. -/
structure State.Quiet (s : State) (n : Nat) : Prop where
  ops : ∀ o ∈ s.ops, o.sess ≠ n
  reads : ∀ r ∈ s.host.reads, r.func ≠ n
  helms : s.helmsOf n = []

section
variable {s u : State} {n : Nat}

/-! ### The wait for reads -/

theorem State.drained_of_readHeld (hd : s.clock < (s.sess n).drain) (hr : s.ReadHeld n) : s.drained n = false := by
  obtain ⟨r, hr, hf, ha, hlt⟩ := hr
  unfold State.drained
  rw [decide_eq_false (by omega), Bool.false_or, List.all_eq_false]
  exact ⟨r, List.mem_filter.mpr ⟨hr, by simp [hf, ha]⟩, by simpa using hlt⟩

theorem State.drained_of_quiet (hq : s.Quiet n) : s.drained n = true := by
  unfold State.drained
  have : (s.host.reads.filter fun r => r.func = n && !r.abandoned) = [] := by
    rw [List.filter_eq_nil_iff]
    intro r hr
    simp [hq.reads r hr]
  rw [this, List.all_nil, Bool.or_true]

theorem State.sesAdvance_idle (h1 : (s.sess n).phase ≠ 1) (h2 : (s.sess n).phase ≠ 2) : s.sesAdvance n = s := by
  simp [State.sesAdvance, h1, h2]

theorem State.sesAdvance_waits (h1 : (s.sess n).phase = 1) (hd : s.drained n = false) : s.sesAdvance n = s := by
  simp [State.sesAdvance, h1, hd]

/-! ### The beginning -/

/-- What a session under reset holds. -/
def State.resetSess (s : State) (n : Nat) : Sess := { s.sess n with prev := s.sesState n, phase := 1, drain := s.inMs 60 }

theorem State.startSesReset_eq (s : State) (n : Nat) :
    s.startSesReset n = (s.setSess n (s.resetSess n)).wr SES_CTL_STATE 3 n := rfl

theorem State.sess_startSesReset (h : s.Good True) (n : Nat) : (s.startSesReset n).sess n = s.resetSess n :=
  State.sess_setSess_same (h.sessions trivial) ..

theorem State.rd_startSesReset (h : s.Good True) (n : Nat) : (s.startSesReset n).rd SES_CTL_STATE n = 3 := by
  rw [State.startSesReset_eq]
  exact State.rd_wr_same (h.setSess.regs trivial) SES_CTL_STATE 3 n 0

theorem Held.startSesReset (h : s.Good True) (n : Nat) : Held [SES_CTL_STATE.key n 0] s (s.startSesReset n) := by
  rw [State.startSesReset_eq]
  exact .wr ((Held.refl h).step h.setSess rfl rfl) (by simp)

@[simp] theorem State.startSesReset_ops (s : State) (n : Nat) : (s.startSesReset n).ops = s.ops := rfl
@[simp] theorem State.startSesReset_own (s : State) (n : Nat) : (s.startSesReset n).own = s.own := rfl
@[simp] theorem State.startSesReset_host (s : State) (n : Nat) : (s.startSesReset n).host = s.host := rfl
@[simp] theorem State.startSesReset_clock (s : State) (n : Nat) : (s.startSesReset n).clock = s.clock := rfl

theorem State.ReadHeld.congr (h : s.ReadHeld n) (hr : u.host.reads = s.host.reads) (hf : u.fn n = s.fn n)
    (hc : u.clock = s.clock) : u.ReadHeld n := by
  unfold State.ReadHeld at h ⊢
  rwa [hr, hf, hc]

theorem State.Quiet.congr (h : s.Quiet n) (ho : u.ops = s.ops) (hr : u.host.reads = s.host.reads) (hw : u.own = s.own) :
    u.Quiet n where
  ops := by rw [ho]; exact h.ops
  reads := by rw [hr]; exact h.reads
  helms := by
    have := h.helms
    unfold State.helmsOf State.objsOf at this ⊢
    rwa [hw]

/-- While a read is held, a reset that has begun does nothing more (Table HST-5). -/
theorem State.startSesReset_waits (h : s.Good True) (hr : s.ReadHeld n) :
    (s.startSesReset n).sesAdvance n = s.startSesReset n := by
  have hs := State.sess_startSesReset h n
  refine State.sesAdvance_waits (by rw [hs]; rfl) (State.drained_of_readHeld ?_ (hr.congr rfl rfl rfl))
  rw [hs, State.startSesReset_clock]
  change s.clock < s.clock + 1000000 * 60
  omega

/-! ### The beginning of an FLR -/

/-- An FLR stops the function's DMA, and what its reads bring is discarded (R112). -/
def State.flrBegun (s : State) (n : Nat) : State :=
  let s := s.setFn n { s.fn n with bme := false, flr := some s.clock }
  { s with host := { s.host with reads := s.host.reads.map fun r => if r.func = n then { r with discard := true } else r } }

theorem State.vfFlr_eq (s : State) (n : Nat) : s.vfFlr n =
    (if (s.flrBegun n).sesTakes n then (s.flrBegun n).startSesReset n else s.flrBegun n).sesAdvance n := rfl

theorem State.Good.flrBegun (h : s.Good True) : (s.flrBegun n).Good True := h.setFn.update

theorem Held.flrBegun (h : s.Good True) (n : Nat) : Held [] s (s.flrBegun n) := (Held.refl h).step h.flrBegun rfl rfl

theorem State.fn_flrBegun (h : s.Good True) (n : Nat) :
    (s.flrBegun n).fn n = { s.fn n with bme := false, flr := some s.clock } :=
  State.fn_setFn_same (h.fns trivial) ..

theorem State.fn_flrBegun_other (h : s.Good True) {k : Nat} (hk : k ≠ n) : (s.flrBegun n).fn k = s.fn k :=
  State.fn_setFn_other (h.fns trivial) _ hk

@[simp] theorem State.flrBegun_ops (s : State) (n : Nat) : (s.flrBegun n).ops = s.ops := rfl
@[simp] theorem State.flrBegun_own (s : State) (n : Nat) : (s.flrBegun n).own = s.own := rfl
@[simp] theorem State.flrBegun_clock (s : State) (n : Nat) : (s.flrBegun n).clock = s.clock := rfl
@[simp] theorem State.flrBegun_sess (s : State) (n k : Nat) : (s.flrBegun n).sess k = s.sess k := rfl
@[simp] theorem State.flrBegun_sesState (s : State) (n k : Nat) : (s.flrBegun n).sesState k = s.sesState k := rfl
@[simp] theorem State.flrBegun_sesTakes (s : State) (n k : Nat) : (s.flrBegun n).sesTakes k = s.sesTakes k := rfl

theorem State.flrBegun_reads (s : State) (n : Nat) : (s.flrBegun n).host.reads =
    s.host.reads.map fun r => if r.func = n then { r with discard := true } else r := rfl

theorem State.ReadHeld.flrBegun (hr : s.ReadHeld n) (h : s.Good True) : (s.flrBegun n).ReadHeld n := by
  obtain ⟨r, hmem, hf, ha, hlt⟩ := hr
  refine ⟨{ r with discard := true }, ?_, hf, ha, ?_⟩
  · rw [State.flrBegun_reads]
    exact List.mem_map.mpr ⟨r, hmem, if_pos hf⟩
  · rwa [State.fn_flrBegun h]

theorem State.Quiet.flrBegun (hq : s.Quiet n) : (s.flrBegun n).Quiet n where
  ops := hq.ops
  reads r hr := by
    rw [State.flrBegun_reads] at hr
    obtain ⟨x, hx, rfl⟩ := List.mem_map.mp hr
    rw [if_neg (hq.reads x hx)]
    exact hq.reads x hx
  helms := hq.helms

/-- Every read of the function has its data discarded. -/
theorem State.discard_flrBegun {r : HostRead} (hr : r ∈ (s.flrBegun n).host.reads) (hf : r.func = n) : r.discard = true := by
  rw [State.flrBegun_reads] at hr
  obtain ⟨x, -, rfl⟩ := List.mem_map.mp hr
  by_cases hx : x.func = n
  · rw [if_pos hx]
  · rw [if_neg hx] at hf
    exact absurd hf hx

/-! ### What the arrival of a TLP leaves of a session -/

@[simp] theorem State.tlpIn_reads (s : State) : s.tlpIn.host.reads = s.host.reads := by rw [s.tlpIn_eq]
@[simp] theorem State.tlpIn_sess (s : State) (n : Nat) : s.tlpIn.sess n = s.sess n := by rw [State.sess, tlpIn_sessions]; rfl
@[simp] theorem State.tlpIn_pagesOf (s : State) (n : Nat) : s.tlpIn.pagesOf n = s.pagesOf n := by
  simp only [State.pagesOf, tlpIn_own]

theorem State.tlpIn_sesState (h : s.Good True) (hn : n < 8192) : s.tlpIn.sesState n = s.sesState n := by
  rw [State.sesState, State.tlpIn_rd_block h SES_CTL_STATE]
  rfl

theorem State.tlpIn_sesTakes (h : s.Good True) (hn : n < 8192) : s.tlpIn.sesTakes n = s.sesTakes n := by
  rw [State.sesTakes, State.tlpIn_sesState h hn]
  rfl

end

/-! ### The commands, while a read is held -/

section
variable {s : State} {n : Fin 16}

theorem State.ready_of_working (hw : s.working = true) : s.ready = true := by
  simp only [State.working, Bool.and_eq_true] at hw
  exact hw.1.1.1

theorem exec_sessionReset (hw : s.working = true) : exec (.sessionReset n) s = .next (s.tlpIn.sesResetWrite n) := by
  change execSessionReset n s = _
  rw [execSessionReset, if_pos hw]

theorem State.sesResetWrite_takes (hn : n.val ≠ 0) (ht : s.sesTakes n = true) :
    s.sesResetWrite n = (s.startSesReset n).sesAdvance n := by
  unfold State.sesResetWrite
  rw [if_neg (by simp [hn, ht])]

theorem exec_sessionReset_takes (h : s.Good True) (hw : s.working = true) (hn : n.val ≠ 0) (ht : s.sesTakes n = true) :
    exec (.sessionReset n) s = .next ((s.tlpIn.startSesReset n).sesAdvance n) := by
  rw [exec_sessionReset hw, State.sesResetWrite_takes hn ((State.tlpIn_sesTakes h (by omega)).trans ht)]

/-- A session reset makes the session RESETTING and waits (R45). -/
theorem sessionReset_waits (h : s.Good True) (hw : s.working = true) (hn : n.val ≠ 0) (ht : s.sesTakes n = true)
    (hr : s.ReadHeld n) : Does (.sessionReset n) s
      [SES_CTL_STATE.key n 0, GL_LINK_STAT_LINK.key 0 0, KP_DOM.key 0 0, KP_PWR_STAT_EDIE.key 0 0] fun t =>
        t.rd SES_CTL_STATE n = 3 ∧ (t.sess n).prev = s.sesState n ∧ t.ops = s.ops := by
  have hw' : (s.tlpIn.startSesReset n).sesAdvance n = s.tlpIn.startSesReset n :=
    State.startSesReset_waits h.tlpIn (hr.congr s.tlpIn_reads (s.tlpIn_fn n) s.tlpIn_clock)
  have hh := ((Held.tlpIn h).mono (List.subset_cons_self (SES_CTL_STATE.key n 0) tlpKeys)).trans
    ((Held.startSesReset h.tlpIn n).mono (by simp))
  refine hh.does ((exec_sessionReset_takes h hw hn ht).trans (by rw [hw'])) ⟨State.rd_startSesReset h.tlpIn n, ?_, ?_⟩
  · rw [State.sess_startSesReset h.tlpIn]
    exact State.tlpIn_sesState h (by omega)
  · rw [State.startSesReset_ops, State.tlpIn_ops]

theorem exec_vfFlr (hw : s.working = true) (hn : n.val ≠ 0) (ht : s.sesTakes n = true) (hf : s.fnEnabled n = true)
    (hflr : (s.fn n).flr = none) : exec (.vfFlr n) s = .next (((s.flrBegun n).startSesReset n).sesAdvance n) := by
  change execVfFlr n s = _
  unfold execVfFlr
  rw [if_neg (by simp [hn, State.ready_of_working hw, hf, hflr]), State.vfFlr_eq,
    if_pos ((State.flrBegun_sesTakes ..).trans ht)]

/-- An FLR also stops the function's DMA, and waits (R112). -/
theorem vfFlr_waits (h : s.Good True) (hw : s.working = true) (hn : n.val ≠ 0) (ht : s.sesTakes n = true)
    (hf : s.fnEnabled n = true) (hflr : (s.fn n).flr = none) (hr : s.ReadHeld n) :
    Does (.vfFlr n) s [SES_CTL_STATE.key n 0] fun t => t.rd SES_CTL_STATE n = 3 ∧ (t.fn n).bme = false ∧
      (t.fn n).flr = some s.clock ∧ ∀ r ∈ t.host.reads, r.func = n → r.discard = true := by
  have hg := h.flrBegun (n := n)
  have hh := ((Held.flrBegun h n).mono (List.nil_subset _)).trans (Held.startSesReset hg n)
  have hfn : ((s.flrBegun n).startSesReset n).fn n = { s.fn n with bme := false, flr := some s.clock } :=
    State.fn_flrBegun h n
  refine hh.does ((exec_vfFlr hw hn ht hf hflr).trans (by rw [State.startSesReset_waits hg (hr.flrBegun h)]))
    ⟨State.rd_startSesReset hg n, by rw [hfn], by rw [hfn], fun r hr hf => ?_⟩
  rw [State.startSesReset_host] at hr
  exact State.discard_flrBegun hr hf

/-! ### SESSION_CLOSE -/

variable {m : Fin 16} {tag : Nat} {o : Op}

/-- The session notes that it closes, and for which operation. -/
def Sess.closingFor (x : Sess) (tag : Nat) : Sess := { x with closing := true, closeTag := some tag }

/-- A close of St by the operation of this TAG begins (R46). -/
def State.closeBegun (s : State) (m tag t : Nat) : State :=
  let s1 := s.modOp m tag Op.begun
  let s2 := if s.sesState t = 3 then s1 else s1.startSesReset t
  (s2.wr SES_CTL_STATE 4 t).setSess t ((s2.sess t).closingFor tag)

theorem exec_sessionClose (hr : s.opRuns m tag 2 o) : exec (.sessionClose m tag) s =
    .next (if o.par 0 = 0 ∨ 16 ≤ o.par 0 ∨ s.sesState (o.par 0) = 0 then s.endOp m tag eBadRecord 4
      else if o.stage = 1 then s.sesAdvance (o.par 0)
      else if s.sesState (o.par 0) = 4 then s.endOp m tag eBusy 0
      else (s.closeBegun m tag (o.par 0)).sesAdvance (o.par 0)) := by
  obtain ⟨hsess, htag, -⟩ := op?_key hr.1
  refine congrArg Host.Outcome.next ((runOp_of_opRuns (form := fun _ => true) hr rfl _).trans ?_)
  simp only [hsess, htag]
  rfl

theorem State.sesState_of_takes {t : Nat} (ht : s.sesTakes t = true) : s.sesState t = 1 ∨ s.sesState t = 2 := by
  simpa [State.sesTakes] using ht

/-- A close makes the session CLOSING and waits (R46). -/
theorem sessionClose_waits (h : s.Good True) (hn : n.val ≠ 0) (ht : s.sesTakes n = true) (hr : s.opRuns m tag 2 o)
    (h0 : o.stage = 0) (hp : o.par 0 = n) (hh : s.ReadHeld n) :
    Does (.sessionClose m tag) s [SES_CTL_STATE.key n 0] fun t => t.rd SES_CTL_STATE n = 4 ∧ (t.sess n).closing = true ∧
      t.op? m tag = some { o with stage := 1 } := by
  have hst := State.sesState_of_takes ht
  have hm : (s.modOp m tag Op.begun).Good True := h.modOp
  have hr1 := Held.startSesReset hm n
  generalize hx : ((s.modOp m tag Op.begun).resetSess n).closingFor tag = x
  have e : s.closeBegun m tag n = (((s.modOp m tag Op.begun).startSesReset n).wr SES_CTL_STATE 4 n).setSess n x := by
    unfold State.closeBegun
    extract_lets s1 s2
    have h2 : s2 = s1.startSesReset n := if_neg (by omega)
    rw [h2]
    subst s1
    rw [State.sess_startSesReset hm, hx]
  have hsess : (s.closeBegun m tag n).sess n = x := by
    rw [e]
    exact State.sess_setSess_same (hr1.good.wr.sessions trivial) ..
  have hwait : (s.closeBegun m tag n).sesAdvance n = s.closeBegun m tag n := by
    refine State.sesAdvance_waits (by rw [hsess, ← hx]; rfl) (State.drained_of_readHeld ?_ ?_)
    · rw [hsess, ← hx, e]
      change s.clock < s.clock + 1000000 * 60
      omega
    · rw [e]
      exact hh.congr rfl rfl rfl
  have hheld : Held [SES_CTL_STATE.key n 0] s (s.closeBegun m tag n) := by
    have h1 : Held [SES_CTL_STATE.key n 0] s (s.modOp m tag Op.begun) := (Held.refl h).step hm rfl rfl
    have h2 := (h1.trans hr1).wr (f := SES_CTL_STATE) (v := 4) (i := n) (j := 0) (by simp)
    rw [e]
    exact h2.step h2.good.setSess rfl rfl
  refine hheld.does ((exec_sessionClose hr).trans ?_) ⟨?_, by rw [hsess, ← hx]; rfl, ?_⟩
  · rw [hp, if_neg (by omega), if_neg (by omega), if_neg (by omega), hwait]
  · rw [e]
    exact State.rd_wr_same (hr1.good.regs trivial) SES_CTL_STATE 4 n 0
  · have hops : (s.closeBegun m tag n).ops = (s.modOp m tag Op.begun).ops := by
      rw [e]
      simp
    rw [op?_congr hops, op?_modOp_same s m tag (f := Op.begun) fun _ => ⟨rfl, rfl, rfl⟩, hr.1]
    rfl

end

end Sys2Proof.Machine

end

section
/-! # A session reset without operations, reads and programs enters its scrub at once -/

namespace Sys2Proof.Machine

open Reg

set_option Elab.async false

section
variable {s t u : State} {n : Nat}

/-! ### The wait ends -/

/-- The wait for reads ends, and Sn has neither reads nor programs: its operations and what is staged for it go. -/
def State.drainedOf (s : State) (n : Nat) : State :=
  ({ s with ops := s.ops.filter fun o => o.sess ≠ n,
            host := { s.host with staging := s.host.staging.filter fun x => x.func ≠ n } } : State).setSess n
    { s.sess n with phase := 2, fetched := [[], [], [], []], eqWait := [], eqDropped := 0 }

theorem State.opsOf_quiet (hq : s.Quiet n) : s.opsOf n = [] :=
  List.filter_eq_nil_iff.mpr fun o ho => by simp [hq.ops o ho]

theorem State.drainEnd_quiet (hq : s.Quiet n) : s.drainEnd n = s.drainedOf n := by
  have hr : s.host.reads.filter (fun r => r.func = n && !r.abandoned) = [] :=
    List.filter_eq_nil_iff.mpr fun r hr => by simp [hq.reads r hr]
  have hh : (s.drainedOf n).helmsOf n = [] := hq.helms
  unfold State.drainEnd
  extract_lets t1 t2 y t3 x t4
  have h1 : t1 = s := congrArg (List.foldl _ s) hr
  have h2 : t2 = s := by
    change List.foldl _ t1 ((t1.opsOf n).filter _) = s
    rw [h1, State.opsOf_quiet hq]
    rfl
  have h4 : t4 = s.drainedOf n := by
    subst t4 x t3 y
    rw [h2]
    rfl
  rw [h4]
  exact congrArg (List.foldl (fun s h => s.requestStop h) (s.drainedOf n)) hh

theorem State.Good.drainedOf (h : s.Good True) : (s.drainedOf n).Good True := h.update.setSess

theorem State.sess_drainedOf (h : s.Good True) (n : Nat) : (s.drainedOf n).sess n =
    { s.sess n with phase := 2, fetched := [[], [], [], []], eqWait := [], eqDropped := 0 } :=
  State.sess_setSess_same (h.sessions trivial) ..

theorem State.fn_drainedOf (s : State) (n k : Nat) : (s.drainedOf n).fn k = s.fn k := rfl

/-- The state in which the scrub starts: an FLR has given the function its configuration back. -/
def State.scrubReady (s : State) (n : Nat) : State :=
  if ((s.drainedOf n).fn n).flr.isSome then (s.drainedOf n).setFn n Fn.init else s.drainedOf n

theorem State.sesAdvance_quiet (h : s.Good True) (hq : s.Quiet n) (h1 : (s.sess n).phase = 1)
    (hc : (s.sess n).closing = false) : s.sesAdvance n = (s.scrubReady n).startReset n := by
  have hs := State.sess_drainedOf h n
  have hb : (s.drainedOf n).boundIn n = false := by
    rw [State.boundIn, show (s.drainedOf n).helmsOf n = [] from hq.helms, List.any_nil]
  have hcl : ((s.scrubReady n).sess n).closing = false := by
    have : (s.scrubReady n).sess n = (s.drainedOf n).sess n := by
      unfold State.scrubReady
      split <;> rfl
    rw [this, hs]
    exact hc
  unfold State.sesAdvance
  simp only [h1, State.drained_of_quiet hq, decide_true, Bool.and_true, if_true, State.drainEnd_quiet hq]
  rw [hb, hs]
  simp only [decide_true, Bool.not_false, Bool.and_true, if_true]
  exact if_neg (Bool.eq_false_iff.mp hcl)

theorem State.Good.scrubReady (h : s.Good True) : (s.scrubReady n).Good True := .either h.drainedOf.setFn h.drainedOf

/-- What the reset's scrub finds is what the reset left. -/
theorem State.scrubReady_eq (s : State) (n : Nat) : (s.scrubReady n).regs = s.regs ∧ (s.scrubReady n).own = s.own ∧
    (s.scrubReady n).sess n = (s.drainedOf n).sess n := by
  unfold State.scrubReady
  split <;> exact ⟨rfl, rfl, rfl⟩

/-! ### The scrub -/

/-- Pages scrubbed one after another change memory only. -/
theorem State.scrubPages_eq (s : State) (l : List Nat) : l.foldl (fun s p => s.scrubPage p) s =
    { s with mem := (l.foldl (fun s p => s.scrubPage p) s).mem } := by
  induction l generalizing s with
  | nil => rfl
  | cons p l ih =>
    rw [List.foldl_cons, ih]
    rfl

theorem State.rd_startScrub (s : State) (x : Scrub) (work : List Nat) (f : Fld) (i j : Nat) :
    (s.startScrub x work).rd f i j = s.rd f i j := by
  unfold State.startScrub
  rw [State.scrubPages_eq]
  rfl

theorem State.sess_startScrub (s : State) (x : Scrub) (work : List Nat) (k : Nat) :
    (s.startScrub x work).sess k = s.sess k := by
  unfold State.startScrub
  rw [State.scrubPages_eq]
  rfl

theorem State.fn_startScrub (s : State) (x : Scrub) (work : List Nat) (k : Nat) : (s.startScrub x work).fn k = s.fn k := by
  unfold State.startScrub
  rw [State.scrubPages_eq]
  rfl

/-- The release stands last in the queue. -/
theorem State.mem_startScrub (s : State) (x : Scrub) (work : List Nat) :
    ∃ r ∈ (s.startScrub x work).own.scrubs, r.sess = x.sess ∧ r.kind = x.kind :=
  ⟨_, List.mem_append_right _ (List.mem_singleton_self _), rfl, rfl⟩

/-- Pages of a release read zero from its start on (R72). -/
theorem State.byteAt_startScrub (h : s.Good True) (x : Scrub) (work : List Nat) {a : Nat} (ha : a / 4096 ∈ x.pages) :
    (s.startScrub x work).byteAt a = 0 :=
  (State.byteAt_congr rfl rfl a).trans ((State.byteAt_scrubPages x.pages h.mem a).trans (if_pos ha))

/-- A Helm or a Chute wiped leaves the sessions as they are. -/
theorem BesideSessions.wipeObj {o : Nat} (h : BesideSessions s t) (ho : objClass o = 2 ∨ objClass o = 4) :
    BesideSessions s (t.wipeObj o) := by
  unfold State.wipeObj
  rcases ho with ho | ho
  · rw [ho]
    exact (h.step h.good.dropHelm).wrGlob
  · rw [ho]
    exact h.step { h.good with chutes := h.good.chutes.del }

/-- Sn's scrub has begun in `t`: its pages read zero, its release waits for the engines. -/
structure ScrubBegun (n : Nat) (s t : State) : Prop where
  rd : t.rd SES_CTL_STATE n = s.rd SES_CTL_STATE n
  prev : (t.sess n).prev = (s.sess n).prev
  fn : t.fn n = s.fn n
  pages : ∀ p ∈ s.pagesOf n, ∀ i, i < 4096 → t.byteAt (p * 4096 + i) = 0
  scrub : ∃ r ∈ t.own.scrubs, r.sess = n ∧ r.kind = 1

theorem State.startReset_begins (h : s.Good True) (hn : n < 8192) : ScrubBegun n s (s.startReset n) := by
  unfold State.startReset
  extract_lets objs ch work t1 _ t2
  have h1 : BesideSessions s t1 := by
    refine List.foldlRecOn _ _ (BesideSessions.refl h) fun t ht o ho => ht.wipeObj ?_
    simpa using (List.mem_filter.mp ho).2
  have h2 : t2.Good True := h1.good.dropMaps.setSess
  have hs : t2.sess n = { t1.sess n with phase := 3 } := State.sess_setSess_same (h1.good.sessions trivial) ..
  have hp : t2.pagesOf n = s.pagesOf n := by
    change State.pagesOf t1 n = _
    rw [State.pagesOf, h1.own]
    rfl
  rw [hp]
  refine ⟨?_, ?_, ?_, fun p hp i hi => State.byteAt_startScrub h2 _ _ ?_, State.mem_startScrub ..⟩
  · rw [State.rd_startScrub]
    exact h1.rd_block hn
  · rw [State.sess_startScrub, hs, State.sess, h1.sessions]
    rfl
  · rw [State.fn_startScrub]
    exact congrArg (smGet Fn.init · n) h1.fns
  · rwa [show (p * 4096 + i) / 4096 = p by omega]

/-- A quiet session's reset goes on to its scrub. -/
theorem State.sesAdvance_begins (h : s.Good True) (hn : n < 8192) (hq : s.Quiet n) (h1 : (s.sess n).phase = 1)
    (hc : (s.sess n).closing = false) : ScrubBegun n (s.scrubReady n) (s.sesAdvance n) := by
  rw [State.sesAdvance_quiet h hq h1 hc]
  exact State.startReset_begins h.scrubReady hn

/-- A reset of a quiet session is in its scrub at once. -/
theorem State.startSesReset_scrubs (h : s.Good True) (hn : n < 8192) (hq : s.Quiet n) (hc : (s.sess n).closing = false) :
    let u := s.startSesReset n
    ScrubBegun n (u.scrubReady n) (u.sesAdvance n) ∧ (u.sesAdvance n).rd SES_CTL_STATE n = 3 ∧
      ((u.sesAdvance n).sess n).prev = s.sesState n ∧
      ∀ p ∈ s.pagesOf n, ∀ i, i < 4096 → (u.sesAdvance n).byteAt (p * 4096 + i) = 0 := by
  intro u
  have hu : u.Good True := (Held.startSesReset h n).good
  have hs : u.sess n = s.resetSess n := State.sess_startSesReset h n
  have b := State.sesAdvance_begins hu hn (hq.congr rfl rfl rfl) (by rw [hs]; rfl) (by rw [hs]; exact hc)
  obtain ⟨hregs, hown, hsess⟩ := u.scrubReady_eq n
  refine ⟨b, ?_, ?_, ?_⟩
  · rw [b.rd, State.rd, hregs]
    exact State.rd_startSesReset h n
  · rw [b.prev, hsess, State.sess_drainedOf hu, hs]
    rfl
  · have := b.pages
    rwa [State.pagesOf, hown] at this

end

/-! ### The commands -/

section
variable {s : State} {n : Fin 16}

/-- A session reset of a quiet session enters its scrub, and its windows read zero (R45, R72). -/
theorem sessionReset_scrubs (h : s.Good True) (hw : s.working = true) (hn : n.val ≠ 0) (ht : s.sesTakes n = true)
    (hc : (s.sess n).closing = false) (hq : s.Quiet n) : ∃ t, exec (.sessionReset n) s = .next t ∧
      t.rd SES_CTL_STATE n = 3 ∧ (t.sess n).prev = s.sesState n ∧
      (∀ p ∈ s.pagesOf n, ∀ i, i < 4096 → t.byteAt (p * 4096 + i) = 0) ∧ ∃ r ∈ t.own.scrubs, r.sess = n ∧ r.kind = 1 := by
  obtain ⟨b, hrd, hprev, hpages⟩ := State.startSesReset_scrubs h.tlpIn (by omega : n.val < 8192)
    (hq.congr s.tlpIn_ops s.tlpIn_reads s.tlpIn_own) (by rwa [s.tlpIn_sess])
  rw [State.tlpIn_pagesOf] at hpages
  exact ⟨_, exec_sessionReset_takes h hw hn ht, hrd, hprev.trans (State.tlpIn_sesState h (by omega)), hpages, b.scrub⟩

/-- An FLR of a quiet function has returned its configuration to defaults (Table HST-5). -/
theorem vfFlr_scrubs (h : s.Good True) (hw : s.working = true) (hn : n.val ≠ 0) (ht : s.sesTakes n = true)
    (hc : (s.sess n).closing = false) (hf : s.fnEnabled n = true) (hflr : (s.fn n).flr = none) (hq : s.Quiet n) :
    ∃ t, exec (.vfFlr n) s = .next t ∧ t.rd SES_CTL_STATE n = 3 ∧ t.fn n = Fn.init := by
  have hg := h.flrBegun (n := n)
  have e := exec_vfFlr hw hn ht hf hflr
  obtain ⟨b, hrd, -, -⟩ := State.startSesReset_scrubs hg (by omega : n.val < 8192) hq.flrBegun hc
  have hfn : (s.flrBegun n).fn n = { s.fn n with bme := false, flr := some s.clock } := State.fn_flrBegun h n
  have hu := (Held.startSesReset hg n).good
  replace hfn : ((s.flrBegun n).startSesReset n).fn n = _ := hfn
  generalize (s.flrBegun n).startSesReset n = u at b hrd hu hfn e
  refine ⟨_, e, hrd, b.fn.trans ?_⟩
  unfold State.scrubReady
  rw [if_pos (by rw [State.fn_drainedOf, hfn]; rfl)]
  exact State.fn_setFn_same (hu.drainedOf.fns trivial) ..

end

end Sys2Proof.Machine

end

section
/-! # What ends a release, an FLR and VF Enable -/

namespace Sys2Proof.Machine

open Reg

set_option Elab.async false

section
variable {s t u : State} {k n tag : Nat} {o : Op}

/-! ### What the end of a reset or close resets -/

/-- The blocks of Sn. -/
def sesBlocks (n : Nat) (r i : Nat) : Bool := (r = 2 || r = 1) && i = n

theorem resetKeeps_sqEnable (n : Fin 16) (q : Fin 4) : resetKeeps svSE (sesBlocks n) (SQ_CFG_EN.key n q) = false := by
  revert n q
  decide +kernel

theorem resetKeeps_sesState (n : Fin 16) : resetKeeps 0 (sesBlocks n) (SES_CTL_STATE.key n 0) = false := by
  revert n
  decide +kernel

/-- Sn's Chart selection returns to bank 0 with no swap pending. -/
def State.unselect (s : State) (n : Nat) : State :=
  ((s.wr CH_SEL_ACTIVE 0 0 n).wr CH_SEL_PENDING 0 0 n).wr CH_SEL_KIND 0 0 n

theorem BesideSessions.unselect (h : BesideSessions s t) (n : Fin 16) : BesideSessions s (t.unselect n) := by
  have hk : ∀ f ∈ [CH_SEL_ACTIVE, CH_SEL_PENDING, CH_SEL_KIND], ¬ inBlocks (f.key 0 n) := fun f hf =>
    not_inBlocks_glob (by revert f n; decide) (by decide)
  exact ((h.wr (hk _ (by simp))).wr (hk _ (by simp))).wr (hk _ (by simp))

theorem BesideSessions.sess (h : BesideSessions s t) (k : Nat) : t.sess k = s.sess k := by
  rw [State.sess, h.sessions]
  rfl

theorem BesideSessions.clearSources (h : BesideSessions s t) : BesideSessions s (t.clearSources k) :=
  List.foldlRecOn _ _ h fun _ hu _ _ => hu.step hu.good.clearSource

@[simp] theorem State.resetRegs_mem (s : State) (c : Nat) (reach : Nat → Nat → Bool) : (s.resetRegs c reach).mem = s.mem := rfl

/-! ### A session reset's release -/

/-- The session goes on as it was before the reset. -/
def Sess.resumed (x : Sess) : Sess :=
  { Sess.init with windows := x.windows, tables := x.tables, closing := x.closing, closeTag := x.closeTag, prev := x.prev }

/-- The end of the reset has cleared Sn's sources, blocks and Chart selection. -/
def State.cleared (s : State) (n : Nat) : State := ((s.clearSources n).resetRegs svSE (sesBlocks n)).unselect n

section
variable {n : Fin 16}

theorem State.Good.cleared (h : s.Good True) : (s.cleared n).Good True := h.clearSources.resetRegs.wr.wr.wr

theorem State.sess_cleared (h : s.Good True) : (s.cleared n).sess n = s.sess n :=
  (((BesideSessions.refl h.clearSources.resetRegs).unselect n).sess n).trans ((BesideSessions.refl h).clearSources.sess n)

theorem State.mem_cleared (h : s.Good True) : (s.cleared n).mem = s.mem :=
  ((BesideSessions.refl h.clearSources.resetRegs).unselect n).mem.trans (BesideSessions.refl h).clearSources.mem

theorem inBlocks_sqEnable (n : Fin 16) (q : Fin 4) : inBlocks (SQ_CFG_EN.key n q) :=
  Fld.inBlocks_key ⟨by decide, by decide, by revert q; decide⟩ (by omega)

theorem sqEnable_ne_sesState (n : Fin 16) (q : Fin 4) : SQ_CFG_EN.key n q ≠ SES_CTL_STATE.key n 0 := by
  revert n q
  decide

/-- The submission rings are off. -/
theorem State.sqEnable_cleared (h : s.Good True) (q : Fin 4) : (s.cleared n).rd SQ_CFG_EN n q = 0 := by
  rw [State.cleared, ((BesideSessions.refl h.clearSources.resetRegs).unselect n).rd _ _ _ (inBlocks_sqEnable n q),
    State.rd_resetRegs h.clearSources, resetKeeps_sqEnable, if_neg Bool.false_ne_true]
  rfl

/-- The end of the reset of a session without objects and ranges that no close waits for. -/
theorem State.resetDone_bare (h : s.Good True) (ho : s.objsOf n = []) (hr : ∀ x ∈ s.own.ranges, x.sess ≠ n)
    (hc : (s.sess n).closing = false) : s.resetDone n =
      (((s.cleared n).setSess n (s.sess n).resumed).wr SES_CTL_STATE (s.sess n).prev n).allowUpdate 0 := by
  have hr : s.own.ranges.filter (fun r => r.sess = (n : Nat)) = [] :=
    List.filter_eq_nil_iff.mpr fun r hm => by simp [hr r hm]
  unfold State.resetDone
  rw [ho, hr]
  simp only [List.foldl_nil, State.resetObjs_nil]
  change (if ((s.cleared n).sess n).closing = true then _ else
    (((s.cleared n).setSess n ((s.cleared n).sess n).resumed).wr SES_CTL_STATE ((s.cleared n).sess n).prev n).allowUpdate 0) = _
  rw [State.sess_cleared h, if_neg (by rw [hc]; decide)]

/-- A session whose reset is complete is in its previous state, with its submission rings off (R45 step 4). -/
theorem State.resetDone_resumes (h : s.Good True) (hn : n.val ≠ 0) (ho : s.objsOf n = [])
    (hr : ∀ x ∈ s.own.ranges, x.sess ≠ n) (hc : (s.sess n).closing = false) : let t := s.resetDone n
    t.sesState n = (s.sess n).prev % 8 ∧ (t.sess n).phase = 0 ∧ (∀ q : Fin 4, t.flag SQ_CFG_EN n q = false) ∧
      t.mem = s.mem := by
  have hg := h.cleared (n := n)
  have hq := State.sqEnable_cleared h (n := n)
  have hm := State.mem_cleared h (n := n)
  rw [State.resetDone_bare h ho hr hc]
  generalize s.cleared n = u at hg hq hm
  generalize s.sess n = x
  have hs : (u.setSess n x.resumed).Good True := hg.setSess
  have hsess : (u.setSess n x.resumed).sess n = x.resumed := State.sess_setSess_same (hg.sessions trivial) ..
  replace hm : (u.setSess n x.resumed).mem = s.mem := hm
  replace hq (q : Fin 4) : (u.setSess n x.resumed).rd SQ_CFG_EN n q = 0 := hq q
  generalize u.setSess n x.resumed = v at hs hsess hm hq
  have hw : (v.wr SES_CTL_STATE x.prev n).Good True := hs.wr
  have h1 := (BesideSessions.refl hw).allowUpdate (extra := 0)
  refine ⟨?state, ?phase, fun q => ?rings, ?mem⟩
  case state =>
    rw [State.sesState, if_neg hn, h1.rd_block (by omega)]
    exact State.rd_wr_same (hs.regs trivial) SES_CTL_STATE x.prev n 0
  case phase =>
    rw [h1.sess]
    exact congrArg Sess.phase hsess
  case rings =>
    rw [State.flag, h1.rd _ _ _ (inBlocks_sqEnable n q),
      State.rd_wr_other (hs.regs trivial) _ _ _ _ _ (sqEnable_ne_sesState n q)]
    exact bne_eq_false_iff_eq.mpr (hq q)
  case mem => exact h1.mem.trans hm

end

/-! ### A close's release -/

/-- The session of a close that is complete. -/
def State.closedOf (s : State) (n : Nat) : State :=
  let s := (s.resetRegs 0 (sesBlocks n)).unselect n
  { s with sessions := smDel s.sessions n }

/-- The operation whose release this was ends. -/
def State.endTagged (s : State) (tag : Option Nat) : State :=
  match tag with
  | some t => s.endOp 0 t doneOk 0
  | none => s

theorem State.closeDone_nil (s : State) (n : Nat) (tag : Option Nat) :
    s.closeDone n [] tag = (s.closedOf n).endTagged tag := by
  have : sesBlocks n = fun r i => (r = 1 || r = 2) && i = n := by
    funext r i
    rw [sesBlocks, Bool.or_comm]
  unfold State.closeDone
  rw [State.resetObjs_nil, State.closedOf, this]
  rfl

theorem State.endTagged_frame (s : State) (tag : Option Nat) : (∀ f i j, (s.endTagged tag).rd f i j = s.rd f i j) ∧
    (∀ k, (s.endTagged tag).sess k = s.sess k) ∧ (s.endTagged tag).mem = s.mem := by
  cases tag with
  | none => exact ⟨fun _ _ _ => rfl, fun _ => rfl, rfl⟩
  | some t => exact ⟨fun _ _ _ => State.rd_endOp .., fun _ => State.sess_endOp .., State.endOp_mem ..⟩

/-- An operation that is not HALTED ends as told, its RESULT in 32 bits. -/
theorem ends_endOp_of_live {m status r : Nat} (ho : s.op? m tag = some o) (hfin : o.fin = none) (hst : o.st ≠ .halted) :
    Ends s (s.endOp m tag status r) m tag status (r % 2 ^ 32) :=
  ⟨_, op?_endOp_same ho, finish_fin hfin hst ..⟩

/-- A close that is complete leaves the session closed (R46 step 7). -/
theorem State.closeDone_closes (h : s.Good True) {n : Fin 16} (hn : n.val ≠ 0) (tag : Option Nat) : let t := s.closeDone n [] tag
    t.sesState n = 0 ∧ t.sess n = Sess.init ∧ (∀ x o, tag = some x → s.op? 0 x = some o → o.fin = none → o.st ≠ .halted →
      Ends s t 0 x 0 0) ∧ t.mem = s.mem := by
  have h1 : BesideSessions (s.resetRegs 0 (sesBlocks n)) ((s.resetRegs 0 (sesBlocks n)).unselect n) :=
    (BesideSessions.refl h.resetRegs).unselect n
  obtain ⟨hrd, hsess, hmem⟩ := (s.closedOf n).endTagged_frame tag
  rw [State.closeDone_nil]
  refine ⟨?_, ?_, ?_, hmem.trans h1.mem⟩
  · have : (s.resetRegs 0 (sesBlocks n)).rd SES_CTL_STATE n = 0 := by
      rw [State.rd_resetRegs h, resetKeeps_sesState, if_neg Bool.false_ne_true]
      rfl
    rw [State.sesState, if_neg hn]
    exact ((hrd ..).trans (h1.rd_block (by omega))).trans this
  · exact (hsess n).trans (smGet_smDel_same _ (h1.good.sessions trivial) n)
  · rintro x o rfl ho hfin hst
    have hops : (s.closedOf n).op? 0 x = some o := (op?_congr h1.ops 0 x).trans ho
    have htm : (s.closedOf n).tm = s.tm := h1.tm
    have := ends_endOp_of_live (status := doneOk) (r := 0) hops hfin hst
    rw [Ends, State.stamp, htm] at this
    exact this

/-! ### SCRUB_DONE -/

/-- The release leaves the queue. -/
def State.unqueued (s : State) (k : Nat) : State := { s with own := { s.own with scrubs := s.own.scrubs.eraseIdx k } }

theorem State.Good.unqueued (h : s.Good True) : (s.unqueued k).Good True := h.update

/-- What a release completes when every engine is done with it (R70). -/
def State.released (s : State) (r : Scrub) : State :=
  match r.kind with
  | 0 => (match r.tag with | some t => s.endOp 0 t doneOk r.result | none => s)
  | 1 => s.resetDone r.sess
  | _ => s.closeDone r.sess r.objs r.tag

theorem State.released_grant {r : Scrub} (hk : r.kind = 0) (ht : r.tag = some tag) :
    s.released r = s.endOp 0 tag doneOk r.result := by
  rw [State.released, hk, ht]
  rfl

theorem State.released_reset {r : Scrub} (hk : r.kind = 1) : s.released r = s.resetDone r.sess := by
  rw [State.released, hk]
  rfl

theorem State.released_close {r : Scrub} (hk : r.kind = 2) : s.released r = s.closeDone r.sess r.objs r.tag := by
  rw [State.released, hk]
  rfl

theorem exec_scrubDone {r : Scrub} (hr : s.own.scrubs[k]? = some r) (he : ∀ e ∈ r.ends, e ≤ s.clock) :
    exec (.scrubDone k) s = .next ((s.unqueued k).released r) := by
  have he : r.ends.any (fun e => decide (s.clock < e)) = false := by
    rw [List.any_eq_false]
    intro e hm
    have := he e hm
    simpa using this
  change execScrubDone k s = _
  unfold execScrubDone
  rw [hr]
  dsimp only
  rw [if_neg (by rw [he]; decide)]
  rfl

/-- A release with an engine at work waits (R70). -/
theorem scrubDone_waits {r : Scrub} (hr : s.own.scrubs[k]? = some r) (he : ∃ e ∈ r.ends, s.clock < e) :
    Idle (.scrubDone k) s := by
  obtain ⟨e, hm, hlt⟩ := he
  change execScrubDone k s = _
  unfold execScrubDone
  rw [hr]
  exact if_pos (List.any_eq_true.mpr ⟨e, hm, decide_eq_true hlt⟩)

/-- The GRANT whose release this was ends. -/
theorem scrubDone_grant (h : s.Good True) {r : Scrub} (hr : s.own.scrubs[k]? = some r) (he : ∀ e ∈ r.ends, e ≤ s.clock)
    (hk : r.kind = 0) (ht : r.tag = some tag) (ho : s.op? 0 tag = some o) (hfin : o.fin = none) (hst : o.st ≠ .halted) :
    OpDoes (.scrubDone k) s 0 tag 0 (r.result % 2 ^ 32) [] fun t => t.own.scrubs = s.own.scrubs.eraseIdx k := by
  have hu : Held [] s (s.unqueued k) := (Held.refl h).step h.unqueued rfl rfl
  have e := exec_scrubDone hr he
  rw [State.released_grant hk ht] at e
  exact (hu.trans (Held.endOp hu.good)).does e ⟨ends_endOp_of_live (s := s.unqueued k) ho hfin hst, rfl⟩

/-- The reset whose release this was is complete (R45). -/
theorem scrubDone_reset (h : s.Good True) {r : Scrub} (hr : s.own.scrubs[k]? = some r) (he : ∀ e ∈ r.ends, e ≤ s.clock)
    (n : Fin 16) (hk : r.kind = 1) (hn : r.sess = n) (h0 : n.val ≠ 0) (hc : (s.sess n).closing = false) (ho : s.objsOf n = [])
    (hx : ∀ x ∈ s.own.ranges, x.sess ≠ n) : DoesWide (.scrubDone k) s fun t =>
      t.sesState n = (s.sess n).prev % 8 ∧ (t.sess n).phase = 0 ∧ ∀ q : Fin 4, t.flag SQ_CFG_EN n q = false := by
  have e := exec_scrubDone hr he
  rw [State.released_reset hk, hn] at e
  obtain ⟨hst, hph, hsq, hmem⟩ := State.resetDone_resumes (h.unqueued (k := k)) h0 ho hx hc
  exact ⟨_, e, ⟨hst, hph, hsq⟩, hmem⟩

/-- The close whose release this was is complete (R46). -/
theorem scrubDone_close (h : s.Good True) {r : Scrub} (hr : s.own.scrubs[k]? = some r) (he : ∀ e ∈ r.ends, e ≤ s.clock)
    (n : Fin 16) (hk : r.kind = 2) (hn : r.sess = n) (h0 : n.val ≠ 0) (hl : r.objs = []) : DoesWide (.scrubDone k) s fun t =>
      t.sesState n = 0 ∧ t.sess n = Sess.init ∧
        ∀ tag o, r.tag = some tag → s.op? 0 tag = some o → o.fin = none → o.st ≠ .halted → Ends s t 0 tag 0 0 := by
  have e := exec_scrubDone hr he
  rw [State.released_close hk, hn, hl] at e
  obtain ⟨hst, hss, hop, hmem⟩ := State.closeDone_closes (h.unqueued (k := k)) h0 r.tag
  exact ⟨_, e, ⟨hst, hss, hop⟩, hmem⟩

end

/-! ### S0 and closed sessions -/

section
variable {s : State} {n : Fin 16}

/-- S0 is not reset (R625). -/
theorem sessionReset_manager (h : s.Good True) (hw : s.working = true) : Does (.sessionReset 0) s
    [GL_LINK_STAT_LINK.key 0 0, KP_DOM.key 0 0, KP_PWR_STAT_EDIE.key 0 0] fun t =>
      t.sessions = s.sessions ∧ t.ops = s.ops ∧ t.own = s.own :=
  (Held.tlpIn h).does ((exec_sessionReset hw).trans rfl) ⟨s.tlpIn_sessions, s.tlpIn_ops, s.tlpIn_own⟩

theorem sessionClose_refused (h : s.Good True) {m : Fin 16} {tag : Nat} {o : Op} (hr : s.opRuns m tag 2 o)
    (hp : o.par 0 = 0 ∨ 16 ≤ o.par 0 ∨ s.sesState (o.par 0) = 0) :
    OpDoes (.sessionClose m tag) s m tag 0x14 4 [] fun t => OnlyOp m tag s t :=
  opDoes_endOp h hr ((exec_sessionClose hr).trans (by rw [if_pos hp]; rfl)) (by decide)

/-! ### The end of an FLR's wait -/

theorem flrDrainEnd_returns (h : s.Good True) (hf : (s.fn n).flr.isSome = true) (h1 : (s.sess n).phase ≠ 1)
    (h2 : (s.sess n).phase ≠ 2) : Does (.flrDrainEnd n) s [] fun t => t.fn n = Fn.init ∧ t.ops = s.ops := by
  have hh : Held [] s (s.setFn n Fn.init) := (Held.refl h).step h.setFn rfl rfl
  refine hh.does ?_ ⟨State.fn_setFn_same (h.fns trivial) .., rfl⟩
  change execFlrDrainEnd n s = _
  unfold execFlrDrainEnd
  rw [State.sesAdvance_idle h1 h2]
  exact congrArg Host.Outcome.next (if_pos ⟨hf, h1, h2⟩)

/-! ### VF Enable -/

theorem vfEnableSet_sets (h : s.Good True) (hr : s.ready = true) (k : Fin 16) (ari : Bool) (hv : s.host.vfEnable = false) :
    Does (.vfEnableSet k ari) s [] fun t => t.host = { s.host with vfEnable := true, numVFs := k, ari := ari } := by
  have hh : Held [] s { s with host := { s.host with vfEnable := true, numVFs := k, ari := ari } } :=
    (Held.refl h).step h.update rfl rfl
  refine hh.does ?_ rfl
  change execVfEnableSet k ari s = _
  exact if_neg (by simp [hv, hr])

end

section
variable {s t : State} {m n : Nat}

/-- The FLRs of VF1 to VFn, as the clearing of VF Enable begins them. -/
def State.flrsBegun (s : State) (n : Nat) : State :=
  (List.range n).foldl (fun s k => if (s.fn (k + 1)).flr.isSome then s else s.vfFlr (k + 1)) s

theorem State.flrsBegun_succ (s : State) (n : Nat) : s.flrsBegun (n + 1) =
    if ((s.flrsBegun n).fn (n + 1)).flr.isSome then s.flrsBegun n else (s.flrsBegun n).vfFlr (n + 1) := by
  rw [State.flrsBegun, List.range_succ, List.foldl_append]
  rfl

/-- VF Enable reads 0. -/
def State.vfsOff (s : State) : State := { s with host := { s.host with vfEnable := false } }

theorem State.Good.vfsOff (h : s.Good True) : s.vfsOff.Good True := h.update

theorem Held.vfsOff {keys : List Nat} (h : Held keys s t) : Held keys s t.vfsOff := h.step h.good.vfsOff rfl rfl

theorem exec_vfEnableClear (hr : s.ready = true) (hv : s.host.vfEnable = true) : exec .vfEnableClear s =
    .next (s.flrsBegun s.host.numVFs).vfsOff := by
  change execVfEnableClear s = _
  exact if_neg (by simp [hv, hr])

/-- VFk's session is closed and nothing of it is under way, and its function under no FLR. -/
def State.VfClosed (s : State) (k : Nat) : Prop := s.sesState k = 0 ∧ (s.sess k).phase = 0 ∧ (s.fn k).flr = none

/-- An FLR of a function with a closed session only stops its DMA. -/
theorem State.vfFlr_closed (hc : s.VfClosed n) : s.vfFlr n = s.flrBegun n := by
  obtain ⟨h0, hp, -⟩ := hc
  have ht : (s.flrBegun n).sesTakes n = false := by
    rw [State.flrBegun_sesTakes, State.sesTakes, h0]
    rfl
  rw [State.vfFlr_eq, ht, if_neg Bool.false_ne_true]
  exact State.sesAdvance_idle (by rw [State.flrBegun_sess, hp]; decide) (by rw [State.flrBegun_sess, hp]; decide)

/-- The first `m` functions have stopped their DMA, and nothing else of a register, memory or session has changed. -/
structure DmaStopped (m : Nat) (s t : State) : Prop where
  held : Held [] s t
  sessions : t.sessions = s.sessions
  stopped : ∀ k, 1 ≤ k → k ≤ m → (t.fn k).bme = false
  others : ∀ k, m < k → t.fn k = s.fn k

theorem DmaStopped.next (h : DmaStopped m s t) (hc : s.VfClosed (m + 1)) : DmaStopped (m + 1) s (t.vfFlr (m + 1)) := by
  have hc' : t.VfClosed (m + 1) := by
    unfold State.VfClosed State.sess State.sesState at hc ⊢
    rwa [h.sessions, h.others _ (by omega), h.held.regs SES_CTL_STATE _ _ (List.not_mem_nil)]
  rw [State.vfFlr_closed hc']
  refine ⟨h.held.trans (Held.flrBegun h.held.good _), h.sessions, fun k h1 hk => ?_, fun k hk => ?_⟩
  · by_cases e : k = m + 1
    · rw [e, State.fn_flrBegun h.held.good]
    · rw [State.fn_flrBegun_other h.held.good e]
      exact h.stopped k h1 (by omega)
  · rw [State.fn_flrBegun_other h.held.good (by omega)]
    exact h.others k (by omega)

theorem State.flrsBegun_stops (h : s.Good True) (n : Nat) (hc : ∀ k, 1 ≤ k → k ≤ n → s.VfClosed k) :
    DmaStopped n s (s.flrsBegun n) := by
  induction n with
  | zero => exact ⟨.refl h, rfl, fun k h1 h0 => absurd h1 (by omega), fun _ _ => rfl⟩
  | succ n ih =>
    have ih := ih fun k h1 hk => hc k h1 (by omega)
    have hn := hc (n + 1) (by omega) le_rfl
    have hf : (s.fn (n + 1)).flr = none := hn.2.2
    rw [State.flrsBegun_succ, ih.others _ (by omega), hf, if_neg (by decide)]
    exact ih.next hn

/-- With closed sessions, VF Enable cleared stops every function's DMA and changes nothing else (R96). -/
theorem vfEnableClear_stops (h : s.Good True) (hr : s.ready = true) (hv : s.host.vfEnable = true)
    (hc : ∀ k, 1 ≤ k → k ≤ s.host.numVFs → s.VfClosed k) : Does .vfEnableClear s [] fun t =>
      t.host.vfEnable = false ∧ ∀ k, 1 ≤ k → k ≤ s.host.numVFs → (t.fn k).bme = false := by
  have d := State.flrsBegun_stops h s.host.numVFs hc
  exact d.held.vfsOff.does (exec_vfEnableClear hr hv) ⟨rfl, d.stopped⟩

end

/-! ### The obligation -/

/-- Settles O26: the wait for reads, the scrub and each way it completes have their lemmas above. -/
theorem sessionResetCloseAndFlrWaitAndScrub : Obligations.SessionResetCloseAndFlrWaitAndScrub := by
  unfold Obligations.SessionResetCloseAndFlrWaitAndScrub
  intro s n hwf held quiet
  have h := (State.wf_iff s).mp hwf
  have hquiet (hq : quiet) : s.Quiet n := ⟨hq.1, hq.2.1, hq.2.2⟩
  refine ⟨fun hw hn ht hc => ⟨?resetWaits, ?resetScrubs, ?flr, ?closes⟩, ?refused, sessionReset_manager h,
    fun k r hr => ⟨scrubDone_waits hr, fun he => ⟨?grant, ?reset, ?close⟩⟩, flrDrainEnd_returns h,
    fun hr => ⟨vfEnableSet_sets h hr, fun hv => ⟨⟨_, exec_vfEnableClear hr hv, rfl⟩, vfEnableClear_stops h hr hv⟩⟩⟩
  case resetWaits => exact sessionReset_waits h hw hn ht
  case resetScrubs => exact fun hq => sessionReset_scrubs h hw hn ht hc (hquiet hq)
  case flr =>
    exact fun hf hflr => ⟨vfFlr_waits h hw hn ht hf hflr, fun hq => vfFlr_scrubs h hw hn ht hc hf hflr (hquiet hq)⟩
  case closes => exact fun m tag o hr h0 hp hh => sessionClose_waits h hn ht hr h0 hp hh
  case refused => exact fun m tag o hr hp => sessionClose_refused h hr hp
  case grant => exact fun tag o hk ht ho hfin hst => scrubDone_grant h hr he hk ht ho hfin hst
  case reset => exact fun hk hn h0 hc ho hx => scrubDone_reset h hr he n hk hn h0 hc ho hx
  case close => exact fun hk hn h0 hl => scrubDone_close h hr he n hk hn h0 hl

end Sys2Proof.Machine

end

section
/-! # Reads of host memory that go out

Every command that frees a tag, and every one that lets a session go on, ends with `pump`: `ReadsOut` says what the reads it
sends (R102, R135) change. -/

namespace Sys2Proof.Machine

open Reg

section
variable {s t u : State} {f : Fld} {i j n q : Nat}

/-! ### Use of the link -/

/-- Use of the link writes no register but the link's state. -/
theorem Held.linkUsed_link (h : s.Good True) : Held [GL_LINK_STAT_LINK.key 0 0] s s.linkUsed := by
  unfold State.linkUsed
  extract_lets s1
  have h1 : Held [GL_LINK_STAT_LINK.key 0 0] s s1 := .either ((Held.refl h).wrKey (by simp)) (.refl h)
  exact h1.step h1.good.update rfl rfl

/-- A link that is up is in L0 once it is used (R116, R118). -/
theorem State.rd_link_linkUsed (h : s.Good True) (h1 : 1 ≤ s.rd GL_LINK_STAT_LINK) (h3 : s.rd GL_LINK_STAT_LINK ≤ 3) :
    s.linkUsed.rd GL_LINK_STAT_LINK = 1 := by
  unfold State.linkUsed
  extract_lets s1
  change s1.rd GL_LINK_STAT_LINK = 1
  by_cases hl : (s.rd GL_LINK_STAT_LINK = 2 || s.rd GL_LINK_STAT_LINK = 3) = true
  · rw [show s1 = s.wr GL_LINK_STAT_LINK 1 from if_pos hl]
    exact State.rd_wr_same (h.regs trivial) ..
  · rw [show s1 = s from if_neg hl]
    simp only [Bool.or_eq_true, decide_eq_true_eq] at hl
    omega

theorem Held.tlpOut (h : s.Good True) : Held [GL_LINK_STAT_LINK.key 0 0] s s.tlpOut := (Held.linkUsed_link h).count

theorem State.rd_link_tlpOut (h : s.Good True) (hl : s.rd GL_LINK_STAT_LINK = 1) : s.tlpOut.rd GL_LINK_STAT_LINK = 1 :=
  State.rd_link_linkUsed h hl.ge (by omega)

theorem State.tlpOut_eq (s : State) : s.tlpOut =
    { s with
      regs := s.tlpOut.regs
      cnt := s.tlpOut.cnt
      host := { s.host with idleSince := s.clock, clkreqLow := true } } := by
  unfold State.tlpOut
  rw [s.linkUsed_eq]
  rfl

/-! ### `ReadsOut` -/

/-- From `s` to `t` reads of host memory have gone out: only the link's state among the registers, the counters, the outputs
and the endpoint's reads, idle time and CLKREQ_N have changed; L0 stays L0, and no new read is abandoned. -/
structure ReadsOut (s t : State) : Prop where
  held : Held [GL_LINK_STAT_LINK.key 0 0] s t
  link : s.rd GL_LINK_STAT_LINK = 1 → t.rd GL_LINK_STAT_LINK = 1
  clkreq : s.host.clkreqLow = true → t.host.clkreqLow = true
  reads : ∀ r ∈ t.host.reads, r.abandoned = true → r ∈ s.host.reads
  eq : t = { s with
    regs := t.regs
    cnt := t.cnt
    out := t.out
    host := { s.host with reads := t.host.reads, idleSince := t.host.idleSince, clkreqLow := t.host.clkreqLow } }

theorem ReadsOut.refl (h : s.Good True) : ReadsOut s s := ⟨.refl h, id, id, fun _ hr _ => hr, rfl⟩

theorem ReadsOut.trans (h : ReadsOut s t) (h' : ReadsOut t u) : ReadsOut s u where
  held := h.held.trans h'.held
  link := h'.link ∘ h.link
  clkreq := h'.clkreq ∘ h.clkreq
  reads r hr ha := h.reads r (h'.reads r hr ha) ha
  eq := by rw [h'.eq, h.eq]

theorem ReadsOut.foldl {α : Type} {g : State → α → State} (l : List α) (h : s.Good True)
    (hg : ∀ u x, u.Good True → ReadsOut u (g u x)) : ReadsOut s (l.foldl g s) :=
  List.foldlRecOn l g (.refl h) fun u hu x _ => hu.trans (hg u x hu.held.good)

/-- A read with a free tag is listed and goes out; without one nothing happens (R102). -/
theorem State.issueRead_out (h : s.Good True) (n : Nat) (p : ReadFor) (addr len : Nat) :
    ReadsOut s (s.issueRead n p addr len) := by
  unfold State.issueRead
  split
  next => exact .refl h
  next t _ =>
    extract_lets r
    generalize hv : (({ s with host := { s.host with reads := s.host.reads ++ [r] } } : State).emit
      (.hostRead t n addr len)) = v
    have hg : v.Good True := hv ▸ State.Good.emit h.update
    have hs : Held [GL_LINK_STAT_LINK.key 0 0] s v := (Held.refl h).step hg (by rw [← hv]; rfl) (by rw [← hv]; rfl)
    refine ⟨hs.trans (Held.tlpOut hg), fun hl => State.rd_link_tlpOut hg ?_, fun _ => ?_, fun x hx ha => ?_, ?_⟩
    · rw [← hv]
      exact hl
    · rw [v.tlpOut_eq]
    · rw [v.tlpOut_eq, ← hv] at hx
      rcases List.mem_append.mp hx with hx | hx
      · exact hx
      · rw [List.mem_singleton.mp hx] at ha
        exact absurd ha Bool.false_ne_true
    · rw [v.tlpOut_eq, ← hv]
      rfl

theorem State.pump_out (h : s.Good True) (n : Nat) : ReadsOut s (s.pump n) := by
  have ring (u : State) (q : Nat) (hu : u.Good True) : ReadsOut u (u.fetchRing n q) := by
    unfold State.fetchRing
    split
    · exact u.issueRead_out hu ..
    · exact .refl hu
  have op (u : State) (o : Op) (hu : u.Good True) : ReadsOut u (u.readOp o) := by
    unfold State.readOp
    split
    · exact u.issueRead_out hu ..
    · exact .refl hu
  unfold State.pump
  split
  · have h1 := ReadsOut.foldl [0, 1, 2, 3] h ring
    exact h1.trans (.foldl _ h1.held.good op)
  · exact .refl h

theorem State.pumpAll_out (h : s.Good True) : ReadsOut s s.pumpAll := .foldl _ h fun _ n hu => State.pump_out hu n

/-! ### What it leaves -/

theorem ReadsOut.ops (h : ReadsOut s t) : t.ops = s.ops := by rw [h.eq]
theorem ReadsOut.mem (h : ReadsOut s t) : t.mem = s.mem := by rw [h.eq]
theorem ReadsOut.fn (h : ReadsOut s t) (n : Nat) : t.fn n = s.fn n := by rw [h.eq]; rfl
theorem ReadsOut.sess (h : ReadsOut s t) (n : Nat) : t.sess n = s.sess n := by rw [h.eq]; rfl
theorem ReadsOut.op? (h : ReadsOut s t) (n tag : Nat) : t.op? n tag = s.op? n tag := op?_congr h.ops n tag

/-- Every register but the link's state. -/
theorem ReadsOut.rd (h : ReadsOut s t) (hk : f.key i j ≠ GL_LINK_STAT_LINK.key 0 0) : t.rd f i j = s.rd f i j :=
  h.held.regs f i j (by simpa using hk)

theorem Held.reads {keys : List Nat} (h : Held keys s t) (h' : ReadsOut t u) (hk : GL_LINK_STAT_LINK.key 0 0 ∈ keys) :
    Held keys s u :=
  h.trans (h'.held.mono (by simpa using hk))

end

end Sys2Proof.Machine

end

section
/-! # What ends a read of host memory -/

namespace Sys2Proof.Machine

open Reg

section
variable {s t u : State} {keys : List Nat} {f : Fld} {r : HostRead} {o : Op} {n q tag cause : Nat}

/-! ### Host errors -/

theorem srcReserved_hostErr : srcReserved 704 = false := by decide

theorem State.hostErr_eq (s : State) (f : Fld) : s.hostErr f =
    { s with
      regs := (s.bump f).regs
      freeCtr := (s.hostErr f).freeCtr
      beacon := (s.hostErr f).beacon } := by
  unfold State.hostErr
  rw [State.fireFree_eq _ srcReserved_hostErr]
  rfl

theorem Held.hostErr (h : Held keys s t) (hk : f.key 0 0 ∈ keys)
    (hc : MX_CELLAR_ADDR_MIB.key 0 0 ≠ f.key 0 0 := by decide) : Held keys s (t.hostErr f) :=
  (h.wrKey hk hc).fireFree srcReserved_hostErr

theorem State.rd_hostErr (h : s.Good True) (f : Fld) : (s.hostErr f).rd f = min (2 ^ f.width - 1) (s.rd f + 1) :=
  (State.rd_fireFree _ srcReserved_hostErr ..).trans (State.rd_bump_same h f 0 0 1)

/-! ### Abandoned reads -/

/-- The tag of the read is quarantined (R105). -/
def State.quarantine (s : State) (r : HostRead) : State :=
  { s with host := { s.host with reads := s.host.reads.map fun x => if x.tag = r.tag then { x with abandoned := true } else x } }

theorem State.abandon_data (hp : r.purpose = .data n tag) (hd : r.discard = false) (cause : Nat) :
    s.abandon r cause = (s.quarantine r).endOp n tag eTimeout cause := by
  simp only [State.abandon, hp, hd]
  rfl

theorem State.abandon_fetch (hp : r.purpose = .fetch n q) (cause : Nat) : s.abandon r cause =
    (s.quarantine r).setSess n { s.sess n with fetchHold := setBitsAt (s.sess n).fetchHold q 1 1 } := by
  simp only [State.abandon, hp]
  rfl

theorem State.abandon_frame (s : State) (r : HostRead) (cause : Nat) :
    (s.abandon r cause).regs = s.regs ∧ (s.abandon r cause).mem = s.mem := by
  unfold State.abandon
  extract_lets u
  cases r.purpose with
  | fetch n q => exact ⟨rfl, rfl⟩
  | data n t => dsimp only; split <;> exact ⟨rfl, rfl⟩

theorem Held.abandon (h : Held keys s t) : Held keys s (t.abandon r cause) :=
  have ⟨hr, hm⟩ := t.abandon_frame r cause
  h.step h.good.abandon hr hm

@[simp] theorem State.tlpIn_tm (s : State) : s.tlpIn.tm = s.tm := by rw [s.tlpIn_eq]

theorem Op.fin_of_live (hl : o.live = true) : o.fin = none := by
  simp only [Op.live, Bool.and_eq_true, Option.isNone_iff_eq_none] at hl
  exact hl.1

/-- An operation that is not HALTED ends E_TIMEOUT as its read is abandoned (R103). -/
theorem State.abandon_ends (hp : r.purpose = .data n tag) (hd : r.discard = false) (ho : s.op? n tag = some o)
    (hl : o.live = true) (hst : o.st ≠ .halted) (hc : cause < 2 ^ 32) : Ends s (s.abandon r cause) n tag 0x17 cause := by
  have he := ends_endOp_of_live (s := s.quarantine r) (status := eTimeout) (r := cause) ho (Op.fin_of_live hl) hst
  rw [Nat.mod_eq_of_lt hc] at he
  rw [State.abandon_data hp hd]
  exact he

/-- From `s`, whose TLP has led to `u`, the host error `f` has been counted (R103, R105); operations and sessions are as `u`
has them. -/
structure ErrCounted (f : Fld) (s u t : State) : Prop where
  held : Held (f.key 0 0 :: tlpKeys) s t
  count : t.rd f = min (2 ^ f.width - 1) (s.rd f + 1)
  ops : t.ops = u.ops
  sess : ∀ n, t.sess n = u.sess n

theorem ErrCounted.hostErr (h : Held tlpKeys s u) (hk : f.key 0 0 ∉ tlpKeys := by decide)
    (hc : MX_CELLAR_ADDR_MIB.key 0 0 ≠ f.key 0 0 := by decide) : ErrCounted f s u (u.hostErr f) where
  held := (h.mono (List.subset_cons_self ..)).hostErr (List.mem_cons_self ..) hc
  count := (State.rd_hostErr h.good f).trans (by rw [h.regs f 0 0 hk])
  ops := by rw [State.hostErr_eq]
  sess n := by rw [State.hostErr_eq]; rfl

theorem ErrCounted.counted {i : Nat} (h : ErrCounted f s u t) : ErrCounted f s u (t.count i) :=
  ⟨h.held.count, h.count, h.ops, h.sess⟩

theorem ErrCounted.pumpAll (h : ErrCounted f s u t) (hk : f.key 0 0 ≠ GL_LINK_STAT_LINK.key 0 0 := by decide) :
    ErrCounted f s u t.pumpAll :=
  have ho := State.pumpAll_out h.held.good
  ⟨h.held.reads ho (by simp [tlpKeys]), (ho.rd hk).trans h.count, ho.ops.trans h.ops, fun n => (ho.sess n).trans (h.sess n)⟩

/-- The operation of an abandoned read has ended, and the error is counted. -/
theorem ErrCounted.ends {status : Nat} (h : ErrCounted f s u t) (he : Ends s u n tag status cause) :
    Ends s t n tag status cause ∧ SameMem s t ∧ t.rd f = min (2 ^ f.width - 1) (s.rd f + 1) :=
  ⟨he.congr h.ops rfl, h.held.sameMem, h.count⟩

end

section
variable {s : State} {tag : Fin 64} {r : HostRead} {o : Op} {n q t : Nat}

/-! ### No read waits on the tag -/

theorem submissionFetchDone_idle (hn : s.waiting? tag = none) (d : Option (List Byte)) :
    exec (.submissionFetchDone tag d) s = .next s := by
  change execSubmissionFetchDone tag d s = _
  unfold execSubmissionFetchDone
  rw [hn]

theorem hostReadCompletion_idle (hn : s.waiting? tag = none) (d : List Byte) :
    exec (.hostReadCompletion tag d) s = .next s := by
  change execHostReadCompletion tag d s = _
  unfold execHostReadCompletion
  rw [hn]

theorem completionTimeout_idle (hn : s.waiting? tag = none) : exec (.completionTimeout tag) s = .next s := by
  change execCompletionTimeout tag s = _
  unfold execCompletionTimeout
  rw [hn]

theorem badCompletion_idle (hn : s.waiting? tag = none) (k : Fin 3) : exec (.badCompletion tag k) s = .next s := by
  change execBadCompletion tag k s = _
  unfold execBadCompletion
  rw [hn]

/-! ### The read of an operation ends -/

/-- An operation that has not ended takes `k` bytes of its host data. -/
def Op.receive (k : Nat) (d : List Byte) (o : Op) : Op :=
  if o.live then { o with data := o.data ++ sliceBytes d 0 k, want := o.want - k } else o

theorem Op.receive_keepsKey (k : Nat) (d : List Byte) : KeepsKey (Op.receive k d) := by
  intro o
  unfold Op.receive
  split <;> exact ⟨rfl, rfl, rfl⟩

/-- The machine once the data of the read is here, before other reads go out (R106, R110). -/
def State.dataHere (s : State) (tag n t : Nat) (r : HostRead) (d : List Byte) : State :=
  if r.discard then s.tlpIn.dropRead tag else (s.tlpIn.dropRead tag).modOp n t (Op.receive r.len d)

theorem exec_hostReadCompletion (hw : s.waiting? tag = some r) (hp : r.purpose = .data n t) (d : List Byte) :
    exec (.hostReadCompletion tag d) s = .next (s.dataHere tag n t r d).pumpAll := by
  change execHostReadCompletion tag d s = _
  unfold execHostReadCompletion
  simp only [hw, hp]
  rfl

theorem Held.dataHere (h : s.Good True) (d : List Byte) : Held tlpKeys s (s.dataHere tag n t r d) :=
  have ht := Held.tlpIn h
  .either (ht.step ht.good.dropRead rfl rfl) (ht.step ht.good.dropRead.modOp rfl rfl)

theorem hostReadCompletion_leaves (h : s.Good True) (hw : s.waiting? tag = some r) (hp : r.purpose = .data n t)
    (d : List Byte) : ∃ t', exec (.hostReadCompletion tag d) s = .next t' ∧ SameMem s t' ∧
      t'.op? n t = (s.dataHere tag n t r d).op? n t := by
  have hd := Held.dataHere (tag := tag) (n := n) (t := t) (r := r) h d
  have ho := State.pumpAll_out hd.good
  exact ⟨_, exec_hostReadCompletion hw hp d, (hd.reads ho (List.mem_cons_self ..)).sameMem, ho.op? n t⟩

/-- The data is the operation's (R110). -/
theorem hostReadCompletion_gives (h : s.Good True) (hw : s.waiting? tag = some r) (hp : r.purpose = .data n t)
    (ho : s.op? n t = some o) (hl : o.live = true) (hd : r.discard = false) (d : List Byte) :
    ∃ t', exec (.hostReadCompletion tag d) s = .next t' ∧
      (∃ o', t'.op? n t = some o' ∧ o'.data = o.data ++ sliceBytes d 0 r.len ∧ o'.want = o.want - r.len ∧ o'.fin = none) ∧
      SameMem s t' := by
  obtain ⟨t', e, hm, hop⟩ := hostReadCompletion_leaves h hw hp d
  have hu : (s.tlpIn.dropRead tag).op? n t = some o := (op?_congr s.tlpIn_ops n t).trans ho
  have hr : o.receive r.len d = { o with data := o.data ++ sliceBytes d 0 r.len, want := o.want - r.len } := if_pos hl
  refine ⟨t', e, ⟨o.receive r.len d, ?_, by rw [hr], by rw [hr], by rw [hr]; exact Op.fin_of_live hl⟩, hm⟩
  rw [hop, State.dataHere, if_neg (by simp [hd]), op?_modOp_same _ _ _ (Op.receive_keepsKey _ _), hu]
  rfl

/-- Data to be discarded is not taken (R106). -/
theorem hostReadCompletion_discards (h : s.Good True) (hw : s.waiting? tag = some r) (hp : r.purpose = .data n t)
    (ho : s.op? n t = some o) (hd : r.discard = true) (d : List Byte) :
    ∃ t', exec (.hostReadCompletion tag d) s = .next t' ∧ SameMem s t' ∧ t'.op? n t = some o := by
  obtain ⟨t', e, hm, hop⟩ := hostReadCompletion_leaves h hw hp d
  refine ⟨t', e, hm, ?_⟩
  rw [hop, State.dataHere, if_pos hd]
  exact (op?_congr s.tlpIn_ops n t).trans ho

/-! ### The read of an operation fails -/

theorem completionTimeout_early (hw : s.waiting? tag = some r) (hc : s.clock < r.issued + 1000000 * (s.fn r.func).ctoMs) :
    exec (.completionTimeout tag) s = .next s := by
  change execCompletionTimeout tag s = _
  unfold execCompletionTimeout
  simp only [hw]
  rw [if_pos hc]

theorem exec_completionTimeout (hw : s.waiting? tag = some r)
    (hc : r.issued + 1000000 * (s.fn r.func).ctoMs ≤ s.clock) : exec (.completionTimeout tag) s =
      .next (((s.abandon r 0).hostErr GL_HOST_ERR_CTO).count 218).pumpAll := by
  change execCompletionTimeout tag s = _
  unfold execCompletionTimeout
  simp only [hw]
  rw [if_neg (by omega)]

/-- A read past its time ends its operation (R103). -/
theorem completionTimeout_ends (h : s.Good True) (hw : s.waiting? tag = some r) (hp : r.purpose = .data n t)
    (ho : s.op? n t = some o) (hl : o.live = true) (hc : r.issued + 1000000 * (s.fn r.func).ctoMs ≤ s.clock)
    (hd : r.discard = false) (hst : o.st ≠ .halted) : ∃ t', exec (.completionTimeout tag) s = .next t' ∧
      Ends s t' n t 0x17 0 ∧ SameMem s t' ∧
        t'.rd GL_HOST_ERR_CTO = min (2 ^ GL_HOST_ERR_CTO.width - 1) (s.rd GL_HOST_ERR_CTO + 1) :=
  have ha : Held tlpKeys s (s.abandon r 0) := .abandon (.refl h)
  ⟨_, exec_completionTimeout hw hc, (ErrCounted.hostErr ha).counted.pumpAll.ends
    (State.abandon_ends hp hd ho hl hst (by decide))⟩

theorem exec_badCompletion (hw : s.waiting? tag = some r) (k : Fin 3) : exec (.badCompletion tag k) s =
    .next ((s.tlpIn.abandon r (k.val + 1)).hostErr GL_HOST_ERR_BADCPL).pumpAll := by
  change execBadCompletion tag k s = _
  unfold execBadCompletion
  simp only [hw]

/-- A bad completion ends its operation (R103). -/
theorem badCompletion_ends (h : s.Good True) (hw : s.waiting? tag = some r) (hp : r.purpose = .data n t)
    (ho : s.op? n t = some o) (hl : o.live = true) (k : Fin 3) (hd : r.discard = false) (hst : o.st ≠ .halted) :
    ∃ t', exec (.badCompletion tag k) s = .next t' ∧ Ends s t' n t 0x17 (k.val + 1) ∧ SameMem s t' ∧
      t'.rd GL_HOST_ERR_BADCPL = min (2 ^ GL_HOST_ERR_BADCPL.width - 1) (s.rd GL_HOST_ERR_BADCPL + 1) :=
  have ha : Held tlpKeys s (s.tlpIn.abandon r (k.val + 1)) := .abandon (.tlpIn h)
  have he : Ends s.tlpIn (s.tlpIn.abandon r (k.val + 1)) n t 0x17 (k.val + 1) :=
    State.abandon_ends hp hd ((op?_congr s.tlpIn_ops n t).trans ho) hl hst (by omega)
  ⟨_, exec_badCompletion hw k, (ErrCounted.hostErr ha).pumpAll.ends (he.congr rfl s.tlpIn_tm.symm)⟩

/-! ### A fetch ends or fails -/

theorem sliceBytes_take (l : List Byte) {k : Nat} (hk : k ≤ l.length) : sliceBytes l 0 k = l.take k := by
  apply List.ext_getElem
  · simp [sliceBytes, hk]
  · intro i h1 h2
    have hi : i < l.length := by simp at h2; omega
    simp [sliceBytes, hi]

/-- Records cut from whole data are the data. -/
theorem flatten_cut64 (k : Nat) (l : List Byte) (hl : l.length = 64 * k) : (cut64 k l).flatten = l := by
  induction k generalizing l with
  | zero => exact (List.eq_nil_of_length_eq_zero hl).symm
  | succ k ih =>
    rw [cut64, List.flatten_cons, ih _ (by rw [List.length_drop]; omega), sliceBytes_take l (by omega),
      List.take_append_drop]

/-- The machine once `k` records of the ring are here, before other reads go out (R135). -/
def State.recordsHere (s : State) (n q k : Nat) (d : List Byte) : State :=
  (s.setSess n { s.sess n with
    fetched := (s.sess n).fetched.set q ((s.sess n).fetched.getD q [] ++ cut64 k d) }).wr SQ_STAT_HEAD
      ((s.rd SQ_STAT_HEAD n q + k) % s.sqSize n q) n q

theorem State.sqSize_le (s : State) (n q : Nat) : s.sqSize n q ≤ 2 ^ 12 :=
  Nat.pow_le_pow_right (by decide) (by unfold ringLog2 clamp; omega)

theorem State.rd_recordsHere (h : s.Good True) (n q k : Nat) (d : List Byte) :
    (s.recordsHere n q k d).rd SQ_STAT_HEAD n q = (s.rd SQ_STAT_HEAD n q + k) % s.sqSize n q := by
  have hpos : 0 < s.sqSize n q := Nat.two_pow_pos _
  refine (State.rd_wr_same (h.setSess.regs trivial) ..).trans (Nat.mod_eq_of_lt ?_)
  exact (Nat.mod_lt _ hpos).trans_le (s.sqSize_le n q)

theorem State.fetched_recordsHere (h : s.Good True) {k : Nat} {d : List Byte} (hq : q < (s.sess n).fetched.length)
    (hd : d.length = 64 * k) : (((s.recordsHere n q k d).sess n).fetched.getD q []).flatten =
      ((s.sess n).fetched.getD q []).flatten ++ d := by
  have e : ((s.recordsHere n q k d).sess n).fetched =
      (s.sess n).fetched.set q ((s.sess n).fetched.getD q [] ++ cut64 k d) :=
    congrArg Sess.fetched (State.sess_setSess_same (h.sessions trivial) ..)
  rw [e, List.getD_eq_getElem?_getD, List.getElem?_set_self hq, Option.getD_some, List.flatten_append, flatten_cut64 k d hd]

theorem exec_submissionFetchDone (hw : s.waiting? tag = some r) (hp : r.purpose = .fetch n q) (hd : r.discard = false)
    (he : s.tlpIn.flag SQ_CFG_EN n q = true) (d : List Byte) : exec (.submissionFetchDone tag (some d)) s =
      .next ((s.tlpIn.dropRead tag).recordsHere n q (r.len / 64) d).pumpAll := by
  change execSubmissionFetchDone tag (some d) s = _
  unfold execSubmissionFetchDone
  simp only [hw, hp]
  exact if_neg (by simp [hd, show (s.tlpIn.dropRead tag).flag SQ_CFG_EN n q = true from he])

/-- The records wait in their ring, and HEAD passes them (R135). -/
theorem submissionFetchDone_gives (h : s.Good True) (hw : s.waiting? tag = some r) (hp : r.purpose = .fetch n q)
    (hq : q < 4) (hf : (s.sess n).fetched.length = 4) (d : List Byte) (hd : r.discard = false)
    (he : s.tlpIn.flag SQ_CFG_EN n q = true) (hlen : d.length = r.len) (h64 : r.len % 64 = 0) :
    ∃ t, exec (.submissionFetchDone tag (some d)) s = .next t ∧ SameMem s t ∧
      ((t.sess n).fetched.getD q []).flatten = ((s.sess n).fetched.getD q []).flatten ++ d ∧
      t.rd SQ_STAT_HEAD n q = (s.tlpIn.rd SQ_STAT_HEAD n q + r.len / 64) % s.tlpIn.sqSize n q := by
  have hu : (s.tlpIn.dropRead tag).Good True := h.tlpIn.dropRead
  have hh : Held (SQ_STAT_HEAD.key n q :: tlpKeys) s ((s.tlpIn.dropRead tag).recordsHere n q (r.len / 64) d) :=
    (((Held.tlpIn h).mono (List.subset_cons_self ..)).step hu.setSess rfl rfl).wr (List.mem_cons_self ..)
  have ho := State.pumpAll_out hh.good
  have hsess : (s.tlpIn.dropRead tag).sess n = s.sess n := s.tlpIn_sess n
  have hne : SQ_STAT_HEAD.key n q ≠ GL_LINK_STAT_LINK.key 0 0 := by
    simp only [Fld.key, SQ_STAT_HEAD, GL_LINK_STAT_LINK, Region.code]
    omega
  refine ⟨_, exec_submissionFetchDone hw hp hd he d, (hh.reads ho (by simp [tlpKeys])).sameMem, ?_, ?_⟩
  · rw [ho.sess, State.fetched_recordsHere hu (by rw [hsess]; omega) (by omega), hsess]
  · exact (ho.rd hne).trans (State.rd_recordsHere hu ..)

theorem testBit_setBitsAt_one (v q : Nat) : (setBitsAt v q 1 1).testBit q = true := by
  have hle : 2 ^ q * (v / 2 ^ q % 2) ≤ v :=
    (Nat.mul_le_mul_left _ (Nat.mod_le ..)).trans (Nat.mul_div_le ..)
  have e : setBitsAt v q 1 1 = v - 2 ^ q * (v / 2 ^ q % 2) + 2 ^ q := by
    simp only [setBitsAt, bitsAt, Nat.pow_one, Nat.mul_comm (2 ^ q)]
    omega
  rw [e, Nat.testBit_eq_decide_div_mod_eq, Nat.add_div_right _ (Nat.two_pow_pos q), Nat.sub_mul_div]
  exact decide_eq_true (by omega)

theorem exec_submissionFetchDone_failed (hw : s.waiting? tag = some r) (hp : r.purpose = .fetch n q) :
    exec (.submissionFetchDone tag none) s = .next ((s.tlpIn.abandon r 1).hostErr GL_HOST_ERR_BADCPL).pumpAll := by
  change execSubmissionFetchDone tag none s = _
  unfold execSubmissionFetchDone
  simp only [hw, hp]

/-- A failed fetch waits for the next doorbell (R104). -/
theorem submissionFetchDone_fails (h : s.Good True) (hw : s.waiting? tag = some r) (hp : r.purpose = .fetch n q) :
    ∃ t, exec (.submissionFetchDone tag none) s = .next t ∧ SameMem s t ∧ (t.sess n).fetchHold.testBit q = true ∧
      t.rd GL_HOST_ERR_BADCPL = min (2 ^ GL_HOST_ERR_BADCPL.width - 1) (s.rd GL_HOST_ERR_BADCPL + 1) := by
  have ha : Held tlpKeys s (s.tlpIn.abandon r 1) := .abandon (.tlpIn h)
  have hc := (ErrCounted.hostErr (f := GL_HOST_ERR_BADCPL) ha).pumpAll
  refine ⟨_, exec_submissionFetchDone_failed hw hp, hc.held.sameMem, ?_, hc.count⟩
  have hq : (s.tlpIn.quarantine r).Good True := h.tlpIn.update
  rw [hc.sess, State.abandon_fetch hp, State.sess_setSess_same (hq.sessions trivial)]
  exact testBit_setBitsAt_one ..

/-! ### Quarantine (R105) -/

theorem unexpectedCompletion_counts (h : s.Good True)
    (ha : s.host.reads.any (fun r => decide (r.tag = tag.val) && r.abandoned) = true) :
    ∃ t, exec (.unexpectedCompletion tag) s = .next t ∧ SameMem s t ∧
      t.rd GL_HOST_ERR_UNEXP = min (2 ^ GL_HOST_ERR_UNEXP.width - 1) (s.rd GL_HOST_ERR_UNEXP + 1) := by
  have hc := ErrCounted.hostErr (f := GL_HOST_ERR_UNEXP) (Held.tlpIn h)
  refine ⟨_, ?_, hc.held.sameMem, hc.count⟩
  change execUnexpectedCompletion tag s = _
  rw [execUnexpectedCompletion, if_pos ha]

theorem unexpectedCompletion_idle
    (ha : s.host.reads.any (fun r => decide (r.tag = tag.val) && r.abandoned) = false) :
    exec (.unexpectedCompletion tag) s = .next s := by
  change execUnexpectedCompletion tag s = _
  rw [execUnexpectedCompletion, if_neg (by rw [ha]; exact Bool.false_ne_true)]

theorem exec_tagQuarantineEnd (hr : s.host.reads.find? (fun r => decide (r.tag = tag.val) && r.abandoned) = some r) :
    exec (.tagQuarantineEnd tag) s =
      .next (if s.clock < r.issued + 1000000 * (s.fn r.func).ctoMs then s else (s.dropRead tag).pumpAll) := by
  change execTagQuarantineEnd tag s = _
  unfold execTagQuarantineEnd
  rw [hr]

/-- After the full time the tag is free again. -/
theorem tagQuarantineEnd_frees (h : s.Good True)
    (hr : s.host.reads.find? (fun r => decide (r.tag = tag.val) && r.abandoned) = some r)
    (hc : r.issued + 1000000 * (s.fn r.func).ctoMs ≤ s.clock) : ∃ t, exec (.tagQuarantineEnd tag) s = .next t ∧
      (∀ x ∈ t.host.reads, x.abandoned = true → x.tag ≠ tag.val) ∧ SameMem s t := by
  have hd : (s.dropRead tag).Good True := h.dropRead
  have ho := State.pumpAll_out hd
  have hh : Held [GL_LINK_STAT_LINK.key 0 0] s (s.dropRead tag) := (Held.refl h).step hd rfl rfl
  refine ⟨_, (exec_tagQuarantineEnd hr).trans (by rw [if_neg (by omega)]), fun x hx ha => ?_,
    (hh.reads ho (List.mem_singleton_self _)).sameMem⟩
  exact of_decide_eq_true (List.mem_filter.mp (ho.reads x hx ha)).2

end

/-- Settles O19: what ends a read, by its purpose and by how it ends, has its lemma above. -/
theorem hostReadsCompleteFailAndQuarantineTheirTags : Obligations.HostReadsCompleteFailAndQuarantineTheirTags := by
  unfold Obligations.HostReadsCompleteFailAndQuarantineTheirTags
  intro s tag hwf
  have h := (State.wf_iff s).mp hwf
  refine ⟨fun hn d l k => ?none, fun r n t hw hp o ho hl => ⟨?gives, ?discards, ?early, ?timeout, ?bad⟩,
    fun r n q hw hp hq hf => ⟨?fetched, ?failed⟩, unexpectedCompletion_counts h, unexpectedCompletion_idle,
    fun r hr => ⟨?held, tagQuarantineEnd_frees h hr⟩⟩
  case none => exact ⟨submissionFetchDone_idle hn d, hostReadCompletion_idle hn l, completionTimeout_idle hn,
    badCompletion_idle hn k⟩
  case gives => exact fun d hd => hostReadCompletion_gives h hw hp ho hl hd d
  case discards => exact fun d hd => hostReadCompletion_discards h hw hp ho hd d
  case early => exact completionTimeout_early hw
  case timeout => exact completionTimeout_ends h hw hp ho hl
  case bad => exact badCompletion_ends h hw hp ho hl
  case fetched => exact submissionFetchDone_gives h hw hp hq hf
  case failed => exact submissionFetchDone_fails h hw hp
  case held => exact fun hc => (exec_tagQuarantineEnd hr).trans (by rw [if_pos hc])

end Sys2Proof.Machine

end

section
/-! # The link's states -/

namespace Sys2Proof.Machine

open Reg

section
variable {s : State}

/-! ### Training -/

/-- The link as training leaves it, before reads go out. -/
def State.linkTrained (s : State) (speed : Fin 4) (x2 aspm : Bool) : State :=
  let s := ((s.wr GL_LINK_STAT_LINK 1).wr GL_LINK_STAT_SPEED speed).wr GL_LINK_STAT_WIDTH (if x2 then 2 else 1)
  { s with host := { s.host with idleSince := s.clock, creditAt := s.clock, aspmL1 := aspm, clkreqLow := true } }

/-- The fields of GL_LINK_STAT that training sets. -/
def trainKeys : List Nat := [GL_LINK_STAT_LINK.key 0 0, GL_LINK_STAT_SPEED.key 0 0, GL_LINK_STAT_WIDTH.key 0 0]

theorem Held.linkTrained (h : s.Good True) (speed : Fin 4) (x2 aspm : Bool) :
    Held trainKeys s (s.linkTrained speed x2 aspm) := by
  have hw : Held trainKeys s (((s.wr GL_LINK_STAT_LINK 1).wr GL_LINK_STAT_SPEED speed).wr GL_LINK_STAT_WIDTH
      (if x2 then 2 else 1)) :=
    (((Held.refl h).wrKey (by simp [trainKeys])).wrKey (by simp [trainKeys])).wrKey (by simp [trainKeys])
  exact hw.step hw.good.update rfl rfl

theorem State.rd_linkTrained (h : s.Good True) (speed : Fin 4) (x2 aspm : Bool) : let t := s.linkTrained speed x2 aspm
    t.rd GL_LINK_STAT_LINK = 1 ∧ t.rd GL_LINK_STAT_SPEED = speed ∧ t.rd GL_LINK_STAT_WIDTH = if x2 then 2 else 1 := by
  have h1 : (s.wr GL_LINK_STAT_LINK 1).Good True := h.wr
  have h2 : ((s.wr GL_LINK_STAT_LINK 1).wr GL_LINK_STAT_SPEED speed).Good True := h1.wr
  refine ⟨?_, ?_, ?_⟩
  · exact (State.rd_wr_ne h2 GL_LINK_STAT_WIDTH GL_LINK_STAT_LINK _ 0).trans
      ((State.rd_wr_ne h1 GL_LINK_STAT_SPEED GL_LINK_STAT_LINK _ 0).trans (State.rd_wr_same (h.regs trivial) ..))
  · exact (State.rd_wr_ne h2 GL_LINK_STAT_WIDTH GL_LINK_STAT_SPEED _ 0).trans
      ((State.rd_wr_same (h1.regs trivial) ..).trans (Nat.mod_eq_of_lt speed.isLt))
  · refine (State.rd_wr_same (h2.regs trivial) ..).trans ?_
    cases x2 <;> rfl

theorem exec_linkUp (he : s.eDieOn = true) (hp : s.host.perst = false) (hb : s.boot.phase ≠ 3) (speed : Fin 4)
    (x2 aspm : Bool) : exec (.linkUp speed x2 aspm) s = .next (s.linkTrained speed x2 aspm).pumpAll := by
  change execLinkUp speed x2 aspm s = _
  unfold execLinkUp
  rw [if_neg (by simp [he, hp, hb])]
  rfl

/-- A trained link shows L0 with its speed and width (R116). -/
theorem linkUp_trains (h : s.Good True) (he : s.eDieOn = true) (hp : s.host.perst = false) (hb : s.boot.phase ≠ 3)
    (speed : Fin 4) (x2 aspm : Bool) : Does (.linkUp speed x2 aspm) s trainKeys fun t =>
      t.rd GL_LINK_STAT_LINK = 1 ∧ t.rd GL_LINK_STAT_SPEED = speed ∧ t.rd GL_LINK_STAT_WIDTH = (if x2 then 2 else 1) ∧
        t.host.aspmL1 = aspm := by
  have hu := Held.linkTrained h speed x2 aspm
  have ho := State.pumpAll_out hu.good
  obtain ⟨hl, hs, hw⟩ := State.rd_linkTrained h speed x2 aspm
  refine (hu.reads ho (by simp [trainKeys])).does (exec_linkUp he hp hb speed x2 aspm)
    ⟨ho.link hl, (ho.rd (by decide)).trans hs, (ho.rd (by decide)).trans hw, ?_⟩
  rw [ho.eq]
  rfl

theorem linkUp_idle (hp : s.host.perst = true) (speed : Fin 4) (x2 aspm : Bool) : Idle (.linkUp speed x2 aspm) s := by
  change execLinkUp speed x2 aspm s = _
  unfold execLinkUp
  rw [if_pos (by simp [hp])]

/-! ### ASPM L1, L1.2 and L2/L3 Ready -/

/-- The host has enabled ASPM L1, and the link in L0 has been idle for L1_IDLE (R116). -/
def State.mayIdle (s : State) : Prop :=
  s.host.aspmL1 = true ∧ s.rd GL_LINK_STAT_LINK = 1 ∧ s.host.idleSince + 1000 * max 1 (s.rd GL_HOST_CTL_L1_IDLE) ≤ s.clock

/-- CLKREQ_N is let go. -/
def State.clkreqOff (s : State) : State := { s with host := { s.host with clkreqLow := false } }

theorem exec_l1Entry (hw : s.working = true) (hi : s.mayIdle) (deep : Bool) : exec (.l1Entry deep) s =
    .next (if deep then s.clkreqOff.wr GL_LINK_STAT_LINK 3 else s.wr GL_LINK_STAT_LINK 2) := by
  obtain ⟨ha, hl, hc⟩ := hi
  change execL1Entry deep s = _
  unfold execL1Entry
  rw [if_pos (by simp only [hw, ha, hl, hc, decide_true, Bool.and_self])]
  rfl

/-- An idle link goes to L1 (R116). -/
theorem l1Entry_enters (h : s.Good True) (hw : s.working = true) (hi : s.mayIdle) :
    Does (.l1Entry false) s [GL_LINK_STAT_LINK.key 0 0] fun t => t.rd GL_LINK_STAT_LINK = 2 ∧ t.host = s.host :=
  ((Held.refl h).wrKey (List.mem_singleton_self _)).does (exec_l1Entry hw hi false)
    ⟨State.rd_wr_same (h.regs trivial) .., rfl⟩

/-- On to L1.2, where CLKREQ_N is let go (R118). -/
theorem l1Entry_deepens (h : s.Good True) (hw : s.working = true) (hi : s.mayIdle) :
    Does (.l1Entry true) s [GL_LINK_STAT_LINK.key 0 0] fun t =>
      t.rd GL_LINK_STAT_LINK = 3 ∧ t.host = { s.host with clkreqLow := false } := by
  have hu : s.clkreqOff.Good True := h.update
  exact (((Held.refl h).step hu rfl rfl).wrKey (List.mem_singleton_self _)).does (exec_l1Entry hw hi true)
    ⟨State.rd_wr_same (hu.regs trivial) .., rfl⟩

theorem l1Entry_idle (hn : s.host.aspmL1 = false ∨ s.rd GL_LINK_STAT_LINK ≠ 1) (deep : Bool) : Idle (.l1Entry deep) s := by
  change execL1Entry deep s = _
  unfold execL1Entry
  rw [if_neg (by rcases hn with hn | hn <;> simp [hn])]

theorem exec_l12Exit (hw : s.working = true) (hl : s.rd GL_LINK_STAT_LINK = 3) :
    exec .l12Exit s = .next s.linkUsed.pumpAll := by
  change execL12Exit s = _
  unfold execL12Exit
  rw [if_pos (by simp [hw, hl])]

/-- L1.2 is left for L0 with CLKREQ_N low (R118). -/
theorem l12Exit_leaves (h : s.Good True) (hw : s.working = true) (hl : s.rd GL_LINK_STAT_LINK = 3) :
    Does .l12Exit s [GL_LINK_STAT_LINK.key 0 0] fun t => t.rd GL_LINK_STAT_LINK = 1 ∧ t.host.clkreqLow = true := by
  have hu := Held.linkUsed_link h
  have ho := State.pumpAll_out hu.good
  exact (hu.reads ho (List.mem_singleton_self _)).does (exec_l12Exit hw hl)
    ⟨ho.link (State.rd_link_linkUsed h (by omega) hl.le), ho.clkreq rfl⟩

theorem l12Exit_idle (hl : s.rd GL_LINK_STAT_LINK ≠ 3) : Idle .l12Exit s := by
  change execL12Exit s = _
  unfold execL12Exit
  rw [if_neg (by simp [hl])]

/-- The link carries no request after PME_TO_Ack (R119). -/
theorem l2L3Ready_shows (h : s.Good True) (hw : s.working = true) (h1 : 1 ≤ s.rd GL_LINK_STAT_LINK)
    (h3 : s.rd GL_LINK_STAT_LINK ≤ 3) :
    Does .l2L3Ready s [GL_LINK_STAT_LINK.key 0 0] fun t => t.rd GL_LINK_STAT_LINK = 4 := by
  refine ((Held.refl h).wrKey (f := GL_LINK_STAT_LINK) (v := 4) (List.mem_singleton_self _)).does ?_
    (State.rd_wr_same (h.regs trivial) ..)
  have hoff : s.linkOff = false := by
    simp only [State.linkOff, Bool.or_eq_false_iff, decide_eq_false_iff_not]
    omega
  change execL2L3Ready s = _
  unfold execL2L3Ready
  rw [if_pos (by simp [hw, hoff])]

/-! ### Writes and requests of the host -/

/-- The fields of GL_HOST_CTL. -/
def hostCtlKeys : List Nat := [GL_HOST_CTL_STALL.key 0 0, GL_HOST_CTL_L1_IDLE.key 0 0, GL_HOST_CTL_LTR_US.key 0 0]

theorem Held.hostCtlWrite (h : s.Good True) (v : Nat) : Held hostCtlKeys s (s.hostCtlWrite v) := by
  have hw : Held hostCtlKeys s (((s.wr GL_HOST_CTL_STALL (bitsAt v 0 9)).wr GL_HOST_CTL_L1_IDLE (bitsAt v 9 10)).wr
      GL_HOST_CTL_LTR_US (bitsAt v 19 10)) :=
    (((Held.refl h).wrKey (by simp [hostCtlKeys])).wrKey (by simp [hostCtlKeys])).wrKey (by simp [hostCtlKeys])
  exact hw.step hw.good.emit rfl rfl

theorem State.rd_hostCtlWrite (h : s.Good True) (v : Nat) : let t := s.hostCtlWrite v
    t.rd GL_HOST_CTL_STALL = v % 512 ∧ t.rd GL_HOST_CTL_L1_IDLE = v / 512 % 1024 ∧
      t.rd GL_HOST_CTL_LTR_US = v / 2 ^ 19 % 1024 := by
  have h1 : (s.wr GL_HOST_CTL_STALL (bitsAt v 0 9)).Good True := h.wr
  have h2 : ((s.wr GL_HOST_CTL_STALL (bitsAt v 0 9)).wr GL_HOST_CTL_L1_IDLE (bitsAt v 9 10)).Good True := h1.wr
  have cut (l w : Nat) : bitsAt v l w % 2 ^ w = v / 2 ^ l % 2 ^ w := Nat.mod_mod ..
  refine ⟨?_, ?_, ?_⟩
  · refine (State.rd_wr_ne h2 GL_HOST_CTL_LTR_US GL_HOST_CTL_STALL _ 0).trans
      ((State.rd_wr_ne h1 GL_HOST_CTL_L1_IDLE GL_HOST_CTL_STALL _ 0).trans ((State.rd_wr_same (h.regs trivial) ..).trans ?_))
    exact (cut 0 9).trans (by norm_num)
  · exact (State.rd_wr_ne h2 GL_HOST_CTL_LTR_US GL_HOST_CTL_L1_IDLE _ 0).trans
      ((State.rd_wr_same (h1.regs trivial) ..).trans (cut 9 10))
  · exact (State.rd_wr_same (h2.regs trivial) ..).trans (cut 19 10)

theorem exec_ltrUpdate (hw : s.working = true) (v : Word) :
    exec (.ltrUpdate v) s = .next (s.tlpIn.hostCtlWrite v.toNat) := by
  change execLtrUpdate v s = _
  rw [execLtrUpdate, if_pos hw]

/-- A write of GL_HOST_CTL sets its fields and tells the host the tolerance (R117). -/
theorem ltrUpdate_writes (h : s.Good True) (hw : s.working = true) (v : Word) :
    Does (.ltrUpdate v) s (hostCtlKeys ++ tlpKeys) fun t =>
      t.rd GL_HOST_CTL_STALL = v.toNat % 512 ∧ t.rd GL_HOST_CTL_L1_IDLE = v.toNat / 512 % 1024 ∧
        t.rd GL_HOST_CTL_LTR_US = v.toNat / 2 ^ 19 % 1024 ∧ t.out = s.out ++ [.ltr (v.toNat / 2 ^ 19 % 1024)] := by
  obtain ⟨h1, h2, h3⟩ := State.rd_hostCtlWrite h.tlpIn v.toNat
  refine (((Held.tlpIn h).mono (List.subset_append_right ..)).trans
    ((Held.hostCtlWrite h.tlpIn v.toNat).mono (List.subset_append_left ..))).does (exec_ltrUpdate hw v) ⟨h1, h2, h3, ?_⟩
  change s.tlpIn.out ++ [.ltr (v.toNat / 2 ^ 19 % 1024)] = _
  rw [State.tlpIn_out]

/-- Before the device is ready a configuration request is to be tried again (R122). -/
theorem configRetry_retries (h : s.Good True) (hr : s.ready = false) (he : s.eDieOn = true) (hb : s.boot.phase ≠ 3) :
    Does .configRetry s [] fun t => t = { s with out := s.out ++ [.pcie 1] } := by
  refine ((Held.refl h).step (u := s.emit (.pcie 1)) h.emit rfl rfl).does ?_ rfl
  change execConfigRetry s = _
  unfold execConfigRetry
  rw [if_pos (by simp [hr, he, hb])]

theorem configRetry_idle (hr : s.ready = true) : Idle .configRetry s := by
  change execConfigRetry s = _
  unfold execConfigRetry
  rw [if_neg (by simp [hr])]

/-- An AtomicOp is an Unsupported Request (R517). -/
theorem bar2Atomicop_unsupported (h : s.Good True) (hr : s.ready = true) :
    Does .bar2Atomicop s tlpKeys fun t => t.out = s.out ++ [.pcie 0] := by
  have ht := Held.tlpIn h
  refine (ht.step ht.good.emit rfl rfl).does (t := s.tlpIn.emit (.pcie 0)) ?_ ?_
  · change execBar2Atomicop s = _
    rw [execBar2Atomicop, if_pos hr]
  · change s.tlpIn.out ++ [.pcie 0] = _
    rw [State.tlpIn_out]

/-- A write of PF0's power state sets D3hot and PME_En (R119, R120). -/
theorem dStateWrite_sets (h : s.Good True) (hr : s.ready = true) (d3 pme : Bool) :
    Does (.dStateWrite d3 pme) s [GL_LINK_STAT_LINK.key 0 0] fun t => t.host.d3hot = d3 ∧ t.host.pmeEn = pme := by
  have hu : ({ s with host := { s.host with d3hot := d3, pmeEn := pme } } : State).Good True := h.update
  have ho := State.pump_out hu 0
  refine (((Held.refl h).step hu rfl rfl).reads ho (List.mem_singleton_self _)).does ?_ ?_
  · change execDStateWrite d3 pme s = _
    rw [execDStateWrite, if_pos hr]
  · rw [ho.eq]
    exact ⟨rfl, rfl⟩

end

/-- Settles O22: each state of the link, and each request of the host, has its lemma above. -/
theorem theLinkTrainsSleepsAndWakes : Obligations.TheLinkTrainsSleepsAndWakes := by
  unfold Obligations.TheLinkTrainsSleepsAndWakes
  intro s hwf
  have h := (State.wf_iff s).mp hwf
  refine ⟨fun sp x2 aspm => ⟨fun he hp hb => linkUp_trains h he hp hb sp x2 aspm, fun hp => linkUp_idle hp sp x2 aspm⟩,
    fun hw => ⟨?l1, l12Exit_leaves h hw, l2L3Ready_shows h hw, ltrUpdate_writes h hw⟩, fun deep hn => l1Entry_idle hn deep,
    l12Exit_idle, configRetry_retries h, fun hr => ⟨configRetry_idle hr, bar2Atomicop_unsupported h hr, dStateWrite_sets h hr⟩⟩
  case l1 =>
    intro ha hl hc
    exact ⟨l1Entry_enters h hw ⟨ha, hl, hc⟩, l1Entry_deepens h hw ⟨ha, hl, hc⟩⟩

end Sys2Proof.Machine

end

section
/-! # Loss of the link, and stalls -/

namespace Sys2Proof.Machine

open Reg

section
variable {s t u : State} {k cause data : Nat}

/-! ### Work stops at a device-fatal error (Table LOG-3) -/

/-- Rounds that write registers alone. -/
theorem State.foldl_regs {α : Type} {g : State → α → State} (l : List α) (s : State)
    (hg : ∀ u x, g u x = { u with regs := (g u x).regs }) : l.foldl g s = { s with regs := (l.foldl g s).regs } :=
  List.foldlRecOn (motive := fun u => u = { s with regs := u.regs }) l g rfl fun u hu x _ => by rw [hg, hu]

theorem State.counterSnap_eq (s : State) : s.counterSnap = { s with regs := s.counterSnap.regs } :=
  State.foldl_regs (List.range 256) (s.wr HL_SNAP_TIME s.tm.device) fun _ _ => rfl

/-- What the snapshot and the stop of all work write. -/
def stopKeys : List Nat :=
  [HL_SNAP_TIME.key 0 0, KP_DOM.key 0 0] ++ (List.range 256).map (HL_CNT_VALUE.key 0) ++
    (List.range 24).map (LINE_STAT_LSTATE.key · 0) ++ (List.range 24).map (LINE_STAT_SIG.key · 0)

theorem mem_stopKeys (k : Nat) : k ∈ stopKeys ↔ k = HL_SNAP_TIME.key 0 0 ∨ k = KP_DOM.key 0 0 ∨
    (∃ x < 256, HL_CNT_VALUE.key 0 x = k) ∨ (∃ x < 24, LINE_STAT_LSTATE.key x 0 = k) ∨
      ∃ x < 24, LINE_STAT_SIG.key x 0 = k := by
  simp only [stopKeys, List.mem_append, List.mem_cons, List.not_mem_nil, or_false, List.mem_map, List.mem_range, or_assoc]

theorem lgCount_notin_stopKeys : LG_COUNT.key 0 0 ∉ stopKeys := by
  simp only [mem_stopKeys, Fld.key, LG_COUNT, HL_SNAP_TIME, KP_DOM, HL_CNT_VALUE, LINE_STAT_LSTATE, LINE_STAT_SIG, Region.code]
  omega

theorem link_notin_stopKeys : GL_LINK_STAT_LINK.key 0 0 ∉ stopKeys := by
  simp only [mem_stopKeys, Fld.key, GL_LINK_STAT_LINK, HL_SNAP_TIME, KP_DOM, HL_CNT_VALUE, LINE_STAT_LSTATE, LINE_STAT_SIG,
    Region.code]
  omega

theorem Held.counterSnap (h : s.Good True) : Held stopKeys s s.counterSnap := by
  have h1 : Held stopKeys s (s.wr HL_SNAP_TIME s.tm.device) := (Held.refl h).wrKey (by simp [mem_stopKeys])
  unfold State.counterSnap
  refine List.foldlRecOn (List.range 256) _ h1 fun u hu x hx => hu.wrKey ?_ ?_
  · exact (mem_stopKeys _).mpr (.inr (.inr (.inl ⟨x, List.mem_range.mp hx, rfl⟩)))
  · simp only [Fld.key, HL_CNT_VALUE, MX_CELLAR_ADDR_MIB, Region.code]
    omega

/-- No slice has a line or a signal. -/
def State.linesDark (s : State) : State := (List.range 24).foldl (fun s i => (s.wr LINE_STAT_LSTATE 0 i).wr LINE_STAT_SIG 0 i) s

theorem State.linesDark_eq (s : State) : s.linesDark = { s with regs := s.linesDark.regs } :=
  State.foldl_regs (List.range 24) s fun _ _ => rfl

theorem Held.linesDark (h : Held stopKeys s t) : Held stopKeys s t.linesDark := by
  unfold State.linesDark
  refine List.foldlRecOn (List.range 24) _ h fun u hu x hx => (hu.wr ?_).wr ?_
  · exact (mem_stopKeys _).mpr (.inr (.inr (.inr (.inl ⟨x, List.mem_range.mp hx, rfl⟩))))
  · exact (mem_stopKeys _).mpr (.inr (.inr (.inr (.inr ⟨x, List.mem_range.mp hx, rfl⟩))))

/-- Nothing is at work, and nothing waits for the host. -/
def State.workGone (s : State) : State :=
  { s with ops := [], helms := [], ovhs := [], pats := [], lines := [], host := { s.host with staging := [], reads := [] } }

theorem State.stopWork_eq (s : State) : s.stopWork = s.linesDark.workGone := rfl

/-- The machine that the error stops, with its stream of free values at `c`. -/
def State.stopped (s : State) (c : Nat) : State := ({ s with freeCtr := c } : State).counterSnap.stopWork.wr KP_DOM holdDomains

theorem Held.workGone (h : Held stopKeys s t) : Held stopKeys s t.workGone := h.step h.good.workGone rfl rfl

theorem Held.stopped (h : s.Good True) (c : Nat) : Held stopKeys s (s.stopped c) := by
  have hc : ({ s with freeCtr := c } : State).Good True := h.update
  have h1 : Held stopKeys s { s with freeCtr := c } := (Held.refl h).step hc rfl rfl
  unfold State.stopped
  rw [State.stopWork_eq]
  exact (h1.trans (Held.counterSnap hc)).linesDark.workGone.wrKey ((mem_stopKeys _).mpr (.inr (.inl rfl)))

/-- Nothing is left at work; of the rest only registers and the stream of free values have changed. -/
theorem State.stopped_eq (s : State) (c : Nat) :
    s.stopped c = { s.workGone with regs := (s.stopped c).regs, freeCtr := c } := by
  have h1 := ({ s with freeCtr := c } : State).counterSnap_eq
  have h2 := ({ s with freeCtr := c } : State).counterSnap.linesDark_eq
  unfold State.stopped
  rw [State.stopWork_eq]
  generalize ({ s with freeCtr := c } : State).counterSnap = u at h1 h2 ⊢
  generalize u.linesDark = v at h2 ⊢
  rw [h2, h1]
  rfl

/-- LG_COUNT has counted the error. -/
def State.counted (s : State) : State := s.wr LG_COUNT (s.rd LG_COUNT + 1)

/-- A dump is under way. -/
def State.dumping (s : State) (d : Dump) : State := { s with health := { s.health with dump := some d } }

theorem State.rd_dumping (s : State) (d : Dump) (f : Fld) : (s.dumping d).rd f = s.rd f := rfl

/-! ### The error -/

theorem State.working_iff (s : State) : s.working = true ↔
    s.ready = true ∧ s.health.dump = none ∧ s.flag LG_STAT_HOLD = false ∧ s.boot.phase = 0 := by
  simp [State.working, and_assoc]

/-- Only Stow entry is abandoned. -/
theorem State.stowAbort_idle (he : s.rd KP_PWR_STAT_EDIE ≤ 2) : s.stowAbort = s := by
  unfold State.stowAbort
  rw [if_neg]
  simp only [beq_iff_eq]
  omega

/-- A working device that is not in Stow entry counts the error, stops and begins its dump. -/
theorem State.fatal_eq (hw : s.working = true) (he : s.rd KP_PWR_STAT_EDIE ≤ 2) (cause data : Nat) : ∃ (c : Nat) (d : Dump),
    s.fatal cause data = (s.counted.stopped c).dumping d ∧ d.cause = cause ∧ d.data = data % 2 ^ 32 ∧
      d.dtime = s.tm.device ∧ d.at_ = s.clock ∧ d.count = s.counted.rd LG_COUNT ∧ d.second = none := by
  obtain ⟨-, hd, -⟩ := s.working_iff.mp hw
  unfold State.fatal
  rw [State.stowAbort_idle he]
  simp only [hd, hw]
  exact ⟨_, _, rfl, rfl, rfl, rfl, rfl, rfl, rfl⟩

/-- A machine stopped with its dump under way is in the error that the dump records. -/
theorem Held.fatalIn {v : State} {d : Dump} {c : Nat} (h : s.Good True) (hs : Held stopKeys s.counted v)
    (eq : v = { s.counted.workGone with regs := v.regs, freeCtr := c }) (hd : d.dtime = s.tm.device ∧ d.at_ = s.clock ∧
      d.count = s.counted.rd LG_COUNT ∧ d.second = none) (hdata : d.data = data % 2 ^ 32) :
    FatalIn s (v.dumping d) d.cause data := by
  obtain ⟨htime, hat, hcount, hsecond⟩ := hd
  have hlg : v.rd LG_COUNT = s.counted.rd LG_COUNT := hs.regs _ _ _ lgCount_notin_stopKeys
  have gone : v.ops = [] ∧ v.helms = [] ∧ v.host.staging = [] ∧ v.host.reads = [] := by
    rw [eq]
    exact ⟨rfl, rfl, rfl, rfl⟩
  obtain ⟨hops, hhelms, hstaging, hreads⟩ := gone
  exact ⟨⟨d, rfl, rfl, hdata, htime, hat, hcount.trans hlg.symm, hsecond⟩,
    hlg.trans (State.rd_wr_same (h.regs trivial) ..), hops, hhelms, hstaging, hreads, hs.mem⟩

/-- What a device-fatal error of a working device leaves (Table LOG-3, steps 1 and 2). -/
theorem State.fatal_fatalIn (h : s.Good True) (hw : s.working = true) (he : s.rd KP_PWR_STAT_EDIE ≤ 2) (cause data : Nat) :
    FatalIn s (s.fatal cause data) cause data ∧ (s.fatal cause data).rd GL_LINK_STAT_LINK = s.rd GL_LINK_STAT_LINK ∧
      (s.fatal cause data).host.perst = s.host.perst := by
  obtain ⟨c, d, e, rfl, hdata, hd⟩ := State.fatal_eq hw he cause data
  have hs : Held stopKeys s.counted (s.counted.stopped c) := .stopped h.wr c
  have eq := s.counted.stopped_eq c
  rw [e]
  refine ⟨hs.fatalIn h eq hd hdata, ?_, ?_⟩
  · rw [State.rd_dumping]
    exact (hs.regs _ _ _ link_notin_stopKeys).trans (State.rd_wr_ne h LG_COUNT GL_LINK_STAT_LINK _ 0)
  · exact congrArg (fun u => u.host.perst) eq

/-- The error is as much one of a state that differs elsewhere. -/
theorem FatalIn.congr (h : FatalIn u t cause data) (ht : u.tm = s.tm) (hc : u.clock = s.clock) (hm : u.mem = s.mem)
    (hr : u.rd LG_COUNT = s.rd LG_COUNT) : FatalIn s t cause data := by
  unfold FatalIn at h ⊢
  rwa [← ht, ← hc, ← hm, ← hr]

/-! ### The link goes -/

/-- The link shows that it is down. -/
def State.linkGone (s : State) : State := s.wr GL_LINK_STAT_LINK 0

theorem State.linkGone_eDie (h : s.Good True) : s.linkGone.rd KP_PWR_STAT_EDIE = s.rd KP_PWR_STAT_EDIE :=
  State.rd_wr_ne h GL_LINK_STAT_LINK KP_PWR_STAT_EDIE _ 0

theorem State.linkGone_working (h : s.Good True) : s.linkGone.working = s.working := by
  have hr (f : Fld) (hk : f.key 0 0 ≠ GL_LINK_STAT_LINK.key 0 0) : s.linkGone.rd f = s.rd f :=
    State.rd_wr_ne h GL_LINK_STAT_LINK f _ 0 hk
  unfold State.working State.ready State.eDieOn State.flag
  rw [State.linkGone_eDie h, hr GL_BOOT_READY (by decide), hr LG_STAT_HOLD (by decide)]
  rfl

/-- A working device that loses its link has a fatal error 1, and shows the link down (R124). -/
theorem State.linkGone_fatal (h : s.Good True) (hw : s.working = true) (he : s.rd KP_PWR_STAT_EDIE ≤ 2) (data : Nat) :
    FatalIn s (s.linkGone.fatal 1 data) 1 data ∧ (s.linkGone.fatal 1 data).rd GL_LINK_STAT_LINK = 0 ∧
      (s.linkGone.fatal 1 data).host.perst = s.host.perst := by
  have hg : s.linkGone.Good True := h.wr
  obtain ⟨hf, hl, hp⟩ := State.fatal_fatalIn hg ((State.linkGone_working h).trans hw)
    ((State.linkGone_eDie h).trans_le he) 1 data
  exact ⟨hf.congr rfl rfl rfl (State.rd_wr_ne h GL_LINK_STAT_LINK LG_COUNT _ 0),
    hl.trans (State.rd_wr_same (h.regs trivial) ..), hp⟩

theorem State.eDieOn_of_run (he : s.rd KP_PWR_STAT_EDIE ≤ 2) : s.eDieOn = true := by simp [State.eDieOn, he]

theorem State.linkOff_iff (s : State) : s.linkOff = true ↔ s.rd GL_LINK_STAT_LINK = 0 ∨ s.rd GL_LINK_STAT_LINK = 4 := by
  simp [State.linkOff]

theorem exec_linkDown (he : s.eDieOn = true) (hl : ¬ s.linkOff = true) : exec .linkDown s = .next (s.linkGone.fatal 1 0) := by
  change execLinkDown s = _
  unfold execLinkDown
  rw [if_neg (by simp [he, hl])]
  rfl

theorem linkDown_fatal (h : s.Good True) (hw : s.working = true) (he : s.rd KP_PWR_STAT_EDIE ≤ 2)
    (h1 : 1 ≤ s.rd GL_LINK_STAT_LINK) (h3 : s.rd GL_LINK_STAT_LINK ≤ 3) :
    ∃ t, exec .linkDown s = .next t ∧ FatalIn s t 1 0 ∧ t.rd GL_LINK_STAT_LINK = 0 := by
  obtain ⟨hf, hl, -⟩ := State.linkGone_fatal h hw he 0
  exact ⟨_, exec_linkDown (State.eDieOn_of_run he) (by rw [State.linkOff_iff]; omega), hf, hl⟩

theorem linkDown_idle (hl : s.rd GL_LINK_STAT_LINK = 0 ∨ s.rd GL_LINK_STAT_LINK = 4) : Idle .linkDown s := by
  change execLinkDown s = _
  unfold execLinkDown
  rw [if_pos (by simp [s.linkOff_iff.mpr hl])]

/-! ### PERST_N -/

/-- PERST_N is low. -/
def State.perstLow (s : State) : State := { s with host := { s.host with perst := true } }

theorem exec_perstAssert (he : s.eDieOn = true) (hl : s.rd GL_LINK_STAT_LINK ≠ 4) (hp : s.host.perst = false) :
    exec .perstAssert s = .next (s.perstLow.linkGone.fatal 1 1) := by
  have hn : ¬ (!s.perstLow.eDieOn || s.perstLow.rd GL_LINK_STAT_LINK = 4) = true := by
    rw [show s.perstLow.eDieOn = true from he, show s.perstLow.rd GL_LINK_STAT_LINK = s.rd GL_LINK_STAT_LINK from rfl]
    simp [hl]
  change execPerstAssert s = _
  unfold execPerstAssert
  rw [if_neg (by simp [hp])]
  exact congrArg Host.Outcome.next (if_neg hn)

theorem perstAssert_fatal (h : s.Good True) (hw : s.working = true) (he : s.rd KP_PWR_STAT_EDIE ≤ 2)
    (h3 : s.rd GL_LINK_STAT_LINK ≤ 3) (hp : s.host.perst = false) :
    ∃ t, exec .perstAssert s = .next t ∧ FatalIn s t 1 1 ∧ t.rd GL_LINK_STAT_LINK = 0 ∧ t.host.perst = true := by
  have hu : s.perstLow.Good True := h.update
  obtain ⟨hf, hl, hp'⟩ := State.linkGone_fatal hu hw he 1
  exact ⟨_, exec_perstAssert (State.eDieOn_of_run he) (by omega) hp, hf.congr rfl rfl rfl rfl, hl, hp'⟩

theorem perstAssert_idle (hp : s.host.perst = true) : Idle .perstAssert s := by
  change execPerstAssert s = _
  rw [execPerstAssert, if_pos hp]

theorem perstDeassert_idle (hp : s.host.perst = false) : Idle .perstDeassert s := by
  change execPerstDeassert s = _
  unfold execPerstDeassert State.kEvent
  simp [hp]

/-- With the Beacon up and no Stow entry a K-die source fires at once (R551). -/
theorem State.kfire_up (hb : s.beaconUp = true) (he : s.keep.entry = none) (hk : srcReserved k = false) :
    s.kfire k cause data = s.setSource k ((s.source k).merge cause data s.stamp 1 false) := by
  have hf : s.fire k cause data = s.setSource k ((s.source k).merge cause data s.stamp 1 false) := if_neg (by simp [hk])
  unfold State.kfire
  rw [if_pos hb, hf]
  exact if_neg (by simp [he])

/-- PERST_N is high and WAKE_N let go; source 5 has fired with this CAUSE and DATA. -/
def State.perstHigh (s : State) (cause data : Nat) : State :=
  { s with
    freeCtr := s.freeCtr + 2
    beacon := { s.beacon with
      sources := smSet Source.init s.beacon.sources 5 ((s.source 5).merge cause data s.stamp 1 false) }
    host := { s.host with perst := false, wakeLow := false } }

theorem exec_perstDeassert (hp : s.host.perst = true) (hb : s.beaconUp = true) (he : s.keep.entry = none)
    (hk : s.kDieOn = true) : exec .perstDeassert s = .next (s.perstHigh (s.drawn % 256) s.draw.drawn) := by
  generalize hu : ({ s with host := { s.host with perst := false, wakeLow := false } } : State) = u
  have hf := State.kfire_up (s := u.draw.draw) (k := 5) (cause := u.drawn % 256) (data := u.draw.drawn)
    (by rw [← hu]; exact hb) (by rw [← hu]; exact he) (by decide)
  change execPerstDeassert s = _
  unfold execPerstDeassert State.kEvent
  rw [if_pos hk]
  simp only [hp, Bool.not_true, Bool.false_eq_true, if_false, hu, hf]
  rw [← hu]
  rfl

/-- PERST_N rising fires source 5 and lets WAKE_N go (R120, R121). -/
theorem perstDeassert_fires (h : s.Good True) (hp : s.host.perst = true) (hb : s.beaconUp = true)
    (he : s.keep.entry = none) (hk : s.kDieOn = true) : Does .perstDeassert s [] fun t =>
      t.host.perst = false ∧ t.host.wakeLow = false ∧ ∃ cause data, Fired s t 5 cause data :=
  ⟨_, exec_perstDeassert hp hb he hk, ⟨rfl, rfl, _, _, smGet_smSet_same _ (h.sources trivial) ..⟩, .of_eq rfl,
    State.byteAt_congr rfl rfl⟩

/-! ### Stalls -/

theorem exec_stagingStall (hs : s.host.staging ≠ [])
    (hc : s.host.creditAt + 10000000 * max 10 (s.rd GL_HOST_CTL_STALL) ≤ s.clock) :
    exec .stagingStall s = .next (s.fatal 1 2) := by
  change execStagingStall s = _
  rw [execStagingStall, if_pos ⟨hs, hc⟩]

theorem stagingStall_idle
    (hn : s.host.staging = [] ∨ s.clock < s.host.creditAt + 10000000 * max 10 (s.rd GL_HOST_CTL_STALL)) :
    Idle .stagingStall s := by
  change execStagingStall s = _
  rw [execStagingStall, if_neg]
  rintro ⟨hs, hc⟩
  rcases hn with hn | hn
  · exact hs hn
  · omega

end

/-- Settles O23: every error is `fatal` of a working device, the link's with the link shown down. -/
theorem lossOfTheLinkAndStalledStagingAreFatal : Obligations.LossOfTheLinkAndStalledStagingAreFatal := by
  unfold Obligations.LossOfTheLinkAndStalledStagingAreFatal
  intro s hwf
  have h := (State.wf_iff s).mp hwf
  refine ⟨fun hw he => ⟨?lost, ?staging, ?request⟩, stagingStall_idle, linkDown_idle, perstAssert_idle,
    fun hp _ => perstDeassert_idle hp, perstDeassert_fires h⟩
  case lost => exact fun h1 h3 => ⟨linkDown_fatal h hw he h1 h3, perstAssert_fatal h hw he h3⟩
  case staging => exact fun hs hc => ⟨_, exec_stagingStall hs hc, (State.fatal_fatalIn h hw he 1 2).1⟩
  case request => exact fun m => ⟨_, rfl, (State.fatal_fatalIn h hw he 2 m).1⟩

end Sys2Proof.Machine

end

section
/-! # Bus Master Enable -/

namespace Sys2Proof.Machine

open Reg

section
variable {s t u : State} {n : Nat} {o : Op} {e : OpEnd}

/-! ### Bus Master Enable cleared -/

/-- What a live operation becomes (R106). -/
def Op.haltedBy (n : Nat) (o : Op) : Op :=
  if o.sess = n ∧ o.live ∧ o.st ≠ .halted then { o with st := .halted, prev := o.st } else o

theorem State.bmeClear_ops (s : State) (n : Nat) : (s.bmeClear n).ops = s.ops.map (Op.haltedBy n) := rfl

theorem Op.haltedBy_st (hs : (o.haltedBy n).sess = n) (hl : (o.haltedBy n).live = true) : (o.haltedBy n).st = .halted := by
  unfold Op.haltedBy at hs hl ⊢
  split at hs
  next hc => rw [if_pos hc]
  next hc =>
    rw [if_neg hc] at hl ⊢
    by_contra hst
    exact hc ⟨hs, hl, hst⟩

theorem exec_bmeClear {n : Fin 16} (hb : (s.fn n).bme = true) : exec (.bmeClear n) s = .next (s.bmeClear n) := by
  change execBmeClear n s = _
  rw [execBmeClear, if_pos hb]

theorem bmeClear_idle {n : Fin 16} (hb : (s.fn n).bme = false) : Idle (.bmeClear n) s := by
  change execBmeClear n s = _
  rw [execBmeClear, if_neg (by simp [hb])]

/-- The function's operations halt and its reads are to be discarded (R106). -/
theorem bmeClear_halts (h : s.Good True) {n : Fin 16} (hb : (s.fn n).bme = true) : Does (.bmeClear n) s [] fun t =>
    (t.fn n).bme = false ∧ (∀ r ∈ t.host.reads, r.func = n → r.discard = true) ∧
    (∀ o ∈ t.ops, o.sess = n → o.live = true → o.st = .halted) ∧
    (∀ o ∈ s.ops, o.sess = n → o.live = true → o.st ≠ .halted → { o with st := .halted, prev := o.st } ∈ t.ops) ∧
    (∀ m : Fin 16, m ≠ n → t.fn m = s.fn m) := by
  refine ((Held.refl h).step h.bmeClear rfl rfl).does (exec_bmeClear hb) ⟨?enable, ?reads, ?halted, ?kept, ?others⟩
  case enable => exact congrArg Fn.bme (State.fn_setFn_same (h.fns trivial) n { s.fn n with bme := false })
  case reads => exact fun r hr hf => State.discard_flrBegun (s := s) hr hf
  case halted =>
    intro o ho hs hl
    rw [State.bmeClear_ops] at ho
    obtain ⟨x, -, rfl⟩ := List.mem_map.mp ho
    exact Op.haltedBy_st hs hl
  case kept =>
    intro o ho hs hl hst
    rw [State.bmeClear_ops]
    exact List.mem_map.mpr ⟨o, ho, if_pos ⟨hs, hl, hst⟩⟩
  case others => exact fun m hm => State.fn_setFn_other (h.fns trivial) _ (Fin.val_ne_of_ne hm)

/-! ### Records on their way to the host -/

/-- From `s` to `t` records have gone to staging: memory and the functions are as before, and no operation has changed its
state. -/
structure RecordsOut (s t : State) : Prop where
  mem : t.mem = s.mem
  fns : t.host.fns = s.host.fns
  ops : ∀ o ∈ t.ops, ∃ x ∈ s.ops, x.sess = o.sess ∧ x.st = o.st

theorem RecordsOut.refl (s : State) : RecordsOut s s := ⟨rfl, rfl, fun o ho => ⟨o, ho, rfl, rfl⟩⟩

/-- An update of other parts. -/
theorem RecordsOut.step (h : RecordsOut s t) (hm : u.mem = t.mem := by rfl) (hf : u.host.fns = t.host.fns := by rfl)
    (ho : u.ops = t.ops := by rfl) : RecordsOut s u :=
  ⟨hm.trans h.mem, hf.trans h.fns, fun o hu => h.ops o (ho ▸ hu)⟩

/-- Operations that change, and keep their states. -/
theorem RecordsOut.withOps {l : List Op} (h : RecordsOut s t)
    (hl : ∀ o ∈ l, ∃ x ∈ t.ops, x.sess = o.sess ∧ x.st = o.st) : RecordsOut s { t with ops := l } where
  mem := h.mem
  fns := h.fns
  ops o ho := by
    obtain ⟨x, hx, hs, hst⟩ := hl o ho
    obtain ⟨y, hy, hs', hst'⟩ := h.ops x hx
    exact ⟨y, hy, hs'.trans hs, hst'.trans hst⟩

theorem RecordsOut.mapOps {f : Op → Op} (h : RecordsOut s t) (hf : ∀ x, (f x).sess = x.sess ∧ (f x).st = x.st) :
    RecordsOut s { t with ops := t.ops.map f } :=
  h.withOps fun o ho => by
    obtain ⟨x, hx, rfl⟩ := List.mem_map.mp ho
    exact ⟨x, hx, (hf x).1.symm, (hf x).2.symm⟩

theorem RecordsOut.either {c : Prop} {_ : Decidable c} (ht : RecordsOut s t) (hu : RecordsOut s u) :
    RecordsOut s (if c then t else u) := by
  split <;> assumption

theorem RecordsOut.foldl {α : Type} {g : State → α → State} (l : List α) (h : RecordsOut s t)
    (hg : ∀ u x, RecordsOut s u → RecordsOut s (g u x)) : RecordsOut s (l.foldl g t) :=
  List.foldlRecOn l g h fun u hu x _ => hg u x hu

theorem RecordsOut.wr {f : Fld} {v i j : Nat} (h : RecordsOut s t) : RecordsOut s (t.wr f v i j) := h.step
theorem RecordsOut.setSess {x : Sess} (h : RecordsOut s t) : RecordsOut s (t.setSess n x) := h.step
theorem RecordsOut.count {i k : Nat} (h : RecordsOut s t) : RecordsOut s (t.count i k) := h.step
theorem RecordsOut.pushStage {x : Stage} (h : RecordsOut s t) : RecordsOut s (t.pushStage x) := h.step

theorem RecordsOut.stated (h : RecordsOut s t) : RecordsOut s (t.stated o e).2 := by
  unfold State.stated
  split
  · exact h.step
  · exact h

theorem RecordsOut.pushRecord (h : RecordsOut s t) : RecordsOut s (t.pushRecord o e) := by
  unfold State.pushRecord
  extract_lets n tail ph wrap
  have hs := h.stated (o := o) (e := e)
  generalize t.stated o e = p at hs ⊢
  obtain ⟨e', u⟩ := p
  dsimp only at hs ⊢
  refine RecordsOut.withOps hs.pushStage.pushStage.wr.wr.setSess.count fun x hx => ?_
  split at hx
  · exact ⟨x, (List.mem_filter.mp hx).1, rfl, rfl⟩
  · obtain ⟨y, hy, rfl⟩ := List.mem_map.mp hx
    exact ⟨y, hy, by split <;> rfl, by split <;> rfl⟩

theorem RecordsOut.endNext (h : RecordsOut s t) : RecordsOut s (t.endNext n) := by
  unfold State.endNext
  split
  · exact h
  next o _ =>
    split
    · exact h
    · refine .either h.pushRecord ?_
      extract_lets k t1 o' t2
      have h2 : RecordsOut s t2 := by
        refine (show RecordsOut s t1 from h.pushStage).mapOps fun x => ?_
        split
        next hx => rw [hx]; exact ⟨rfl, rfl⟩
        next => exact ⟨rfl, rfl⟩
      exact .either h (.either h2.pushRecord h2)

theorem RecordsOut.endAll (h : RecordsOut s t) : RecordsOut s (t.endAll n) := .foldl _ h fun _ _ hu => hu.endNext

theorem RecordsOut.eqWrite {r : List Byte} (h : RecordsOut s t) : RecordsOut s (t.eqWrite n r) :=
  .either h.pushStage.wr.wr.setSess.count.pushStage.wr h.pushStage.wr.wr.setSess.count

theorem RecordsOut.eqOverflow (h : RecordsOut s t) : RecordsOut s (t.eqOverflow n) := .either h (.either h.eqWrite.setSess h)

theorem RecordsOut.eqDrop (h : RecordsOut s t) : RecordsOut s (t.eqDrop n) := h.setSess.wr.count

theorem RecordsOut.eqMessage {r : List Byte} (h : RecordsOut s t) : RecordsOut s (t.eqMessage n r) :=
  .either h (.either (.either h.eqOverflow.eqWrite h.eqOverflow.eqDrop) (.either h.setSess h.eqDrop))

theorem RecordsOut.eqFlush (h : RecordsOut s t) : RecordsOut s (t.eqFlush n) :=
  .foldl _ h.setSess fun _ _ hu => hu.eqMessage

/-! ### Bus Master Enable set -/

/-- The function's completion timeout, where the host sets one. -/
def Fn.timed (x : Fn) (cto : Option Nat) : Fn := { x with ctoMs := cto.getD x.ctoMs }

/-- The machine with that timeout. -/
def State.ctoSet (s : State) (n : Nat) (cto : Option Nat) : State :=
  match cto with
  | some t => s.setFn n { s.fn n with ctoMs := t }
  | none => s

theorem State.fn_ctoSet (h : s.Good True) (n : Nat) (cto : Option Nat) : (s.ctoSet n cto).fn n = (s.fn n).timed cto := by
  cases cto with
  | none => rfl
  | some t => exact State.fn_setFn_same (h.fns trivial) ..

theorem State.Good.ctoSet (h : s.Good True) (n : Nat) (cto : Option Nat) : (s.ctoSet n cto).Good True := by
  cases cto with
  | none => exact h
  | some t => exact h.setFn

theorem State.ctoSet_eq (s : State) (n : Nat) (cto : Option Nat) : (s.ctoSet n cto).ops = s.ops ∧
    (s.ctoSet n cto).regs = s.regs ∧ (s.ctoSet n cto).mem = s.mem := by
  cases cto <;> exact ⟨rfl, rfl, rfl⟩

theorem exec_bmeSet {n : Fin 16} (hr : s.ready = true) (hf : s.fnEnabled n = true) (cto : Option Nat) :
    exec (.bmeSet n cto) s =
      .next (if ((s.ctoSet n cto).fn n).bme then s.ctoSet n cto else (s.ctoSet n cto).bmeSet n) := by
  change execBmeSet n cto s = _
  unfold execBmeSet
  rw [if_neg (by simp [hr, hf])]
  rfl

/-- A function that has Bus Master Enable takes the timeout alone. -/
theorem bmeSet_keeps (h : s.Good True) {n : Fin 16} (hr : s.ready = true) (hf : s.fnEnabled n = true)
    (hb : (s.fn n).bme = true) (cto : Option Nat) : Does (.bmeSet n cto) s [] fun t =>
      t.fn n = (s.fn n).timed cto ∧ t.ops = s.ops := by
  obtain ⟨ho, hregs, hmem⟩ := s.ctoSet_eq n cto
  have hfn := State.fn_ctoSet h n cto
  have hb' : ((s.ctoSet n cto).fn n).bme = true := by rw [hfn]; exact hb
  exact ((Held.refl h).step (h.ctoSet n cto) hregs hmem).does ((exec_bmeSet hr hf cto).trans (by rw [if_pos hb'])) ⟨hfn, ho⟩

/-- Bus Master Enable is 1, and operations of the function go on from the state they held (R110). -/
def State.bmeBack (s : State) (n : Nat) : State :=
  let s := s.setFn n { s.fn n with bme := true }
  { s with ops := s.ops.map fun o =>
      if o.sess = n ∧ o.st = .halted then { o with st := o.prev, est := if o.fin.isSome then 0 else o.est } else o }

theorem State.bmeBack_st (hp : ∀ o ∈ s.ops, o.prev ≠ .halted) (ho : o ∈ (s.bmeBack n).ops) (hs : o.sess = n) :
    o.st ≠ .halted := by
  obtain ⟨x, hx, rfl⟩ := List.mem_map.mp ho
  split at hs
  next hc =>
    rw [if_pos hc]
    exact hp x hx
  next hc =>
    rw [if_neg hc]
    exact fun hst => hc ⟨hs, hst⟩

/-- The records that the function owed have gone to staging. -/
def State.bmeRecords (s : State) (n : Nat) : State := (((s.bmeBack n).endAll n).eqOverflow n).eqFlush n

/-- What setting it leaves: memory as before, no operation of the function HALTED. -/
theorem State.bmeSet_resumes (h : s.Good True) (hp : ∀ o ∈ s.ops, o.prev ≠ .halted) (n : Nat) :
    (s.bmeSet n).fn n = { s.fn n with bme := true } ∧ (∀ o ∈ (s.bmeSet n).ops, o.sess = n → o.st ≠ .halted) ∧
      (s.bmeSet n).mem = s.mem := by
  have hback : (s.bmeBack n).Good True := h.setFn.update
  have hrec : RecordsOut (s.bmeBack n) (s.bmeRecords n) := (RecordsOut.refl _).endAll.eqOverflow.eqFlush
  have hout : ReadsOut (s.bmeRecords n) (s.bmeSet n) := State.pump_out hback.endAll.eqOverflow.eqFlush n
  refine ⟨?_, fun o ho hs => ?_, hout.mem.trans hrec.mem⟩
  · exact (hout.fn n).trans ((congrArg (smGet Fn.init · n) hrec.fns).trans (State.fn_setFn_same (h.fns trivial) ..))
  · obtain ⟨x, hx, hxs, hst⟩ := hrec.ops o (hout.ops ▸ ho)
    rw [← hst]
    exact State.bmeBack_st hp hx (hxs.trans hs)

theorem bmeSet_resumes (h : s.Good True) {n : Fin 16} (hr : s.ready = true) (hf : s.fnEnabled n = true)
    (hp : ∀ o ∈ s.ops, o.prev ≠ .halted) (hb : (s.fn n).bme = false) (cto : Option Nat) :
    DoesWide (.bmeSet n cto) s fun t =>
      (t.fn n).bme = true ∧ (∀ k, cto = some k → (t.fn n).ctoMs = k) ∧ ∀ o ∈ t.ops, o.sess = n → o.st ≠ .halted := by
  obtain ⟨ho, -, hmem⟩ := s.ctoSet_eq n cto
  have hfn := State.fn_ctoSet h n cto
  have hb' : ¬ ((s.ctoSet n cto).fn n).bme = true := by
    rw [hfn, show ((s.fn n).timed cto).bme = (s.fn n).bme from rfl, hb]
    exact Bool.false_ne_true
  obtain ⟨hset, hst, hm⟩ := State.bmeSet_resumes (h.ctoSet n cto) (ho ▸ hp) n
  refine ⟨_, (exec_bmeSet hr hf cto).trans (by rw [if_neg hb']), ⟨by rw [hset], ?_, hst⟩, hm.trans hmem⟩
  rintro k rfl
  rw [hset, hfn]
  rfl

end

end Sys2Proof.Machine

end

section
/-! # Posted credits, and O24 -/

namespace Sys2Proof.Machine

open Reg

section
variable {s : State} {k : Nat} {x : Stage} {l : List Stage}

/-- What the host sees of an item of staging. -/
def Stage.sent : Stage → Out
  | .data f a b => .hostWrite f a b
  | .event f a b => .hostWrite f a b
  | .record f a b => .hostWrite f a b
  | .msix f v => .msix f v

/-- An item is delivered over the link; a completion record ends its operation's flight. -/
theorem State.deliver_sends (h : s.Good True) (x : Stage) : Held [GL_LINK_STAT_LINK.key 0 0] s (s.deliver x) ∧
    (s.deliver x).out = s.out ++ [x.sent] ∧ (s.deliver x).host.creditAt = s.host.creditAt := by
  have hs : Held [GL_LINK_STAT_LINK.key 0 0] s (s.emit x.sent).tlpOut :=
    ((Held.refl h).step h.emit rfl rfl).trans (Held.tlpOut h.emit)
  have ho : (s.emit x.sent).tlpOut.out = s.out ++ [x.sent] := by rw [State.tlpOut_eq]; rfl
  have hc : (s.emit x.sent).tlpOut.host.creditAt = s.host.creditAt := by rw [State.tlpOut_eq]; rfl
  cases x with
  | data f a b => exact ⟨hs, ho, hc⟩
  | event f a b => exact ⟨hs, ho, hc⟩
  | msix f v => exact ⟨hs, ho, hc⟩
  | record f a b => exact ⟨hs.step hs.good.recordWritten rfl rfl, ho, hc⟩

/-- Staging holds these items. -/
def State.withStaging (s : State) (l : List Stage) : State := { s with host := { s.host with staging := l } }

theorem State.drain_first (hx : s.funcCarries x.func = true) : s.drain 1 (x :: l) [] = (s.deliver x).withStaging l := by
  unfold State.drain
  rw [if_pos hx]
  cases l <;> rfl

/-- Items of functions that may not send stay (R106). -/
theorem State.drain_none (l kept : List Stage) (hl : ∀ x ∈ l, s.funcCarries x.func = false) (k : Nat) :
    s.drain k l kept = s.withStaging (kept ++ l) := by
  induction l generalizing kept with
  | nil => rw [List.append_nil]; cases k <;> rfl
  | cons x l ih =>
    cases k with
    | zero => rfl
    | succ k =>
      unfold State.drain
      rw [if_neg (by simp [hl x]), ih _ fun y hy => hl y (List.mem_cons_of_mem x hy), List.append_assoc]
      rfl

/-- A posted credit has come back now. -/
def State.credited (s : State) : State := { s with host := { s.host with creditAt := s.clock } }

theorem exec_pcieCreditReturn (hl : s.linkCarries = true) (k : Nat) :
    exec (.pcieCreditReturn k) s = .next (s.credited.drain k s.host.staging []) := by
  change execPcieCreditReturn k s = _
  unfold execPcieCreditReturn
  rw [if_neg (by simp [hl])]
  rfl

theorem pcieCreditReturn_idle (hl : s.linkCarries = false) (k : Nat) : Idle (.pcieCreditReturn k) s := by
  change execPcieCreditReturn k s = _
  unfold execPcieCreditReturn
  rw [if_pos (by simp [hl])]

/-- One credit sends the first item of a function that may send (R526). -/
theorem pcieCreditReturn_sends (h : s.Good True) (hl : s.linkCarries = true) (hs : s.host.staging = x :: l)
    (hx : s.funcCarries x.func = true) : Does (.pcieCreditReturn 1) s [GL_LINK_STAT_LINK.key 0 0] fun t =>
      t.host.staging = l ∧ t.host.creditAt = s.clock ∧ t.out = s.out ++ [x.sent] := by
  have hc : s.credited.Good True := h.update
  obtain ⟨hd, ho, hat⟩ := State.deliver_sends hc x
  have hd' : Held [GL_LINK_STAT_LINK.key 0 0] s ((s.credited.deliver x).withStaging l) :=
    (((Held.refl h).step hc rfl rfl).trans hd).step hd.good.update rfl rfl
  refine hd'.does ?_ ⟨rfl, hat, ho⟩
  rw [exec_pcieCreditReturn hl, hs]
  exact congrArg Host.Outcome.next (State.drain_first (s := s.credited) hx)

theorem pcieCreditReturn_keeps (h : s.Good True) (hl : s.linkCarries = true)
    (hs : ∀ x ∈ s.host.staging, s.funcCarries x.func = false) (k : Nat) :
    Does (.pcieCreditReturn k) s [] fun t => t.out = s.out ∧ t.host.staging = s.host.staging := by
  have hc : (s.credited.withStaging s.host.staging).Good True := h.update
  refine ((Held.refl h).step hc rfl rfl).does ?_ ⟨rfl, rfl⟩
  rw [exec_pcieCreditReturn hl]
  exact congrArg Host.Outcome.next (State.drain_none (s := s.credited) s.host.staging [] hs k)

end

/-- Settles O24: Bus Master Enable cleared and set, and credits, have their lemmas above. -/
theorem busMasterEnableHaltsAndCreditsDrain : Obligations.BusMasterEnableHaltsAndCreditsDrain := by
  unfold Obligations.BusMasterEnableHaltsAndCreditsDrain
  intro s n hwf
  have h := (State.wf_iff s).mp hwf
  refine ⟨bmeClear_idle, bmeClear_halts h, fun hr hf hp cto => ⟨fun hb => ?keeps, fun hb => bmeSet_resumes h hr hf hp hb cto⟩,
    fun hl => ⟨fun x l hs hx => ?sends, pcieCreditReturn_keeps h hl⟩, pcieCreditReturn_idle⟩
  case keeps => cases cto <;> exact bmeSet_keeps h hr hf hb _
  case sends => cases x <;> exact pcieCreditReturn_sends h hl hs hx

end Sys2Proof.Machine

end

section
/-! # NOP and QUERY

An operation that returns data ends in one way, `endsWith_endWithData`; each QUERY code is then its bytes and their number. -/

namespace Sys2Proof.Machine

open Reg

section
variable {s : State} {c : Instr} {n tag len code : Nat} {o : Op} {d : List Byte}

/-! ### Bytes -/

@[simp] theorem leBytes_length (k v : Nat) : (leBytes k v).length = k := by
  induction k generalizing v with
  | zero => rfl
  | succ k ih => exact congrArg (· + 1) (ih _)

theorem State.words_length (s : State) (r : Region) (i : Nat) (offs : List Nat) :
    (s.words r i offs).length = 4 * offs.length := by
  simp [State.words, List.length_flatten, Function.comp_def, Nat.mul_comm]

theorem State.querySession_length (s : State) (n : Nat) : (s.querySession n).length = 24 := by
  simp [State.querySession]

/-! ### The end of an operation with data -/

/-- The operation's data for HADDR. -/
def Op.withData (d : List Byte) (o : Op) : Op := { o with outp := d }

theorem Op.withData_keepsKey (d : List Byte) : KeepsKey (Op.withData d) := fun _ => ⟨rfl, rfl, rfl⟩

theorem State.endWithData_eq (s : State) (n tag : Nat) (d : List Byte) (len : Nat) : s.endWithData n tag d len =
    (s.modOp n tag (Op.withData (d.take len))).endOp n tag (if d.length ≤ len then 0 else 2) d.length := by
  unfold State.endWithData
  split <;> rfl

theorem Op.outp_finish (o : Op) (t status r : Nat) : (o.finish t status r).outp = o.outp := by
  unfold Op.finish
  split <;> rfl

/-- A RUNNING operation ends with the full size of its data as RESULT, and hands over what its buffer takes (R143). -/
theorem endsWith_endWithData (ho : s.op? n tag = some o) (hfin : o.fin = none) (hst : o.st = .running) :
    EndsWith s (s.endWithData n tag d len) n tag (if d.length ≤ len then 0 else 2) (d.length % 2 ^ 32) (d.take len) := by
  have hm : (s.modOp n tag (Op.withData (d.take len))).op? n tag = some (o.withData (d.take len)) :=
    (op?_modOp_same s n tag (Op.withData_keepsKey _)).trans (congrArg (Option.map _) ho)
  rw [State.endWithData_eq]
  refine ⟨_, op?_endOp_same hm, ?_, Op.outp_finish ..⟩
  exact finish_fin (o := o.withData (d.take len)) hfin (fun e => OpState.noConfusion (hst.symm.trans e)) ..

theorem onlyOp_endWithData (s : State) (n tag : Nat) (d : List Byte) (len : Nat) :
    OnlyOp n tag s (s.endWithData n tag d len) := by
  rw [State.endWithData_eq]
  exact ⟨rfl, fun _ _ h => (op?_endOp_other h).trans (op?_modOp_other s (Op.withData_keepsKey _) h)⟩

theorem OnlyOp.sameMem {t : State} (h : OnlyOp n tag s t) : SameMem s t := by
  rw [SameMem, h.1]
  exact State.byteAt_congr rfl rfl

/-! ### The rows -/

/-- The effect of a QUERY row that answers with these bytes. -/
def Queries (c : Instr) (s : State) (n tag : Nat) (o : Op) (size : Nat) (content : List Byte → Prop) : Prop :=
  ∃ t data, exec c s = .next t ∧ data.length = size ∧ content data ∧
    EndsWith s t n tag (if size ≤ o.par 1 then 0 else 2) (size % 2 ^ 32) (data.take (o.par 1)) ∧
    OnlyOp n tag s t ∧ SameMem s t

theorem State.query_runs (hr : s.opRuns n tag 0x3F o) (hc : o.par 0 = code) (f : Op → State → List Byte × State)
    (hf : f o s = (d, s)) : s.query n tag code f = s.endWithData n tag d (o.par 1) := by
  obtain ⟨hs, ht, -⟩ := op?_key hr.1
  unfold State.query
  rw [runOp_of_opRuns hr (decide_eq_true hc), hf, hs, ht]

/-- A QUERY of its code that changes nothing to find its bytes returns them. -/
theorem queries_of_bytes {size : Nat} {content : List Byte → Prop} (c : Instr) (hr : s.opRuns n tag 0x3F o)
    (hc : o.par 0 = code) (f : Op → State → List Byte × State) (e : exec c s = .next (s.query n tag code f))
    (hf : f o s = (d, s)) (hl : d.length = size) (hd : content d) : Queries c s n tag o size content := by
  have hend := onlyOp_endWithData s n tag d (o.par 1)
  obtain ⟨ho, -, hfin, hst, -⟩ := id hr
  rw [State.query_runs hr hc f hf] at e
  exact hl ▸ ⟨_, d, e, rfl, hd, endsWith_endWithData ho hfin hst, hend, hend.sameMem⟩

end

section
variable {s : State} {n : Fin 16} {tag : Nat} {o : Op}

/-- NOP ends DONE_OK (R44). -/
theorem nop_ends (hr : s.opRuns n tag 0 o) :
    ∃ t, exec (.nop n tag) s = .next t ∧ Ends s t n tag 0 0 ∧ OnlyOp n tag s t ∧ SameMem s t := by
  obtain ⟨ho, -, hfin, hst, -⟩ := id hr
  obtain ⟨hs, ht, -⟩ := op?_key ho
  have hend := onlyOp_endOp s n tag 0 0
  refine ⟨s.endOp n tag 0 0, ?_, ends_endOp ho hfin hst (by decide), hend, hend.sameMem⟩
  change execNop n tag s = _
  rw [execNop, runOp_of_opRuns hr rfl, hs, ht]
  rfl

theorem queryGlobal_answers (hr : s.opRuns n tag 0x3F o) (hc : o.par 0 = 0) :
    Queries (.queryGlobal n tag) s n tag o 12 fun _ => True :=
  queries_of_bytes (.queryGlobal n tag) hr hc _ rfl rfl (s.words_length ..) trivial

theorem querySession_answers (hr : s.opRuns n tag 0x3F o) (hc : o.par 0 = 1) :
    Queries (.querySession n tag) s n tag o 24 fun _ => True :=
  queries_of_bytes (.querySession n tag) hr hc _ rfl rfl (s.querySession_length _) trivial

/-- Code 2 of a TAG in flight. -/
theorem queryOperation_answers {x : Op} (hr : s.opRuns n tag 0x3F o) (hc : o.par 0 = 2) (hx : s.op? n (o.par 2) = some x) :
    Queries (.queryOperation n tag) s n tag o 16 fun _ => True := by
  obtain ⟨hs, -⟩ := op?_key hr.1
  refine queries_of_bytes (d := leBytes 4 x.code ++ leBytes 4 x.est ++ leBytes 8 x.admitDev) (.queryOperation n tag) hr hc _ rfl
    ?_ (by simp) trivial
  simp only [hs, hx]

theorem queryObject_answers (hr : s.opRuns n tag 0x3F o) (hc : o.par 0 = 3) :
    Queries (.queryObject n tag) s n tag o (s.queryObject o.obj).length fun d => d = s.queryObject o.obj :=
  queries_of_bytes (.queryObject n tag) hr hc _ rfl rfl rfl rfl

theorem queryLink_answers (hr : s.opRuns n tag 0x3F o) (hc : o.par 0 = 4) :
    Queries (.queryLink n tag) s n tag o 16 fun _ => True :=
  queries_of_bytes (.queryLink n tag) hr hc _ rfl rfl (by simp) trivial

theorem queryPower_answers (hr : s.opRuns n tag 0x3F o) (hc : o.par 0 = 5) :
    Queries (.queryPower n tag) s n tag o 12 fun d =>
      d = leBytes 4 s.allowance ++ leBytes 4 (s.rd SES_POWER_RESERVE_MW n) ++ leBytes 4 (s.charged n) := by
  obtain ⟨hs, -⟩ := op?_key hr.1
  exact queries_of_bytes (.queryPower n tag) hr hc _ rfl (by rw [hs]) (by simp) rfl

end

/-- Settles O17: NOP and each QUERY code have their lemma above. -/
theorem nopAndQueriesAnswerTheirBytes : Obligations.NopAndQueriesAnswerTheirBytes := by
  unfold Obligations.NopAndQueriesAnswerTheirBytes
  intro s n tag o
  refine ⟨nop_ends, fun hr => ⟨queryGlobal_answers hr, querySession_answers hr, fun hx hc => ?operation,
    queryObject_answers hr, queryLink_answers hr, queryPower_answers hr⟩⟩
  case operation =>
    obtain ⟨x, hx⟩ := Option.isSome_iff_exists.mp hx
    exact queryOperation_answers hr hc hx

end Sys2Proof.Machine

end

section
/-! # Doorbells

What each doorbell does once its TLP has arrived, by what becomes of the ring; then the rows. -/

namespace Sys2Proof.Machine

open Reg

section
variable {s t u v : State} {n q tail head size d : Nat}

/-! ### Doorbells that are ignored or counted -/

theorem State.sqBell_off (hb : u.bellOn n = false) : u.sqBell n q tail = u := if_pos (by simp [hb])

theorem State.cqBell_off (hb : u.bellOn n = false) : u.cqBell n head = u := if_pos (by simp [hb])

theorem State.eqBell_off (hb : u.bellOn n = false) : u.eqBell n head = u := if_pos (by simp [hb])

/-- A head beyond the ring moves nothing. -/
theorem headMove_beyond (h : size ≤ head) (r out : Nat) : headMove size r out head = none := if_pos h

/-- The place `d` records on lies `d` ahead in the ring. -/
theorem mod_ahead (r : Nat) (hd : d < size) : ((r + d) % size + size - r % size) % size = d := by
  have hr : r % size < size := Nat.mod_lt _ (by omega)
  rw [Nat.add_mod r, Nat.mod_eq_of_lt hd]
  generalize r % size = a at hr
  rcases lt_or_ge (a + d) size with h | h
  · rw [Nat.mod_eq_of_lt h, show a + d + size - a = d + size by omega, Nat.add_mod_right, Nat.mod_eq_of_lt hd]
  · rw [Nat.mod_eq_sub_mod h, Nat.mod_eq_of_lt (a := a + d - size) (by omega), show a + d - size + size - a = d by omega, Nat.mod_eq_of_lt hd]

/-- A head `d` records on, of the `out` that are out, moves the ring by them. -/
theorem headMove_within {out : Nat} (r : Nat) (hd : d < size) (ho : d ≤ out) :
    headMove size r out ((r + d) % size) = some d := by
  have hlt : (r + d) % size < size := Nat.mod_lt _ (by omega)
  unfold headMove
  rw [if_neg (by omega), mod_ahead r hd]
  exact if_neg (by omega)

theorem State.sqBell_bad (hb : u.bellOn n = true) (h : u.flag SQ_CFG_EN n q = false ∨ u.sqSize n q ≤ tail) :
    u.sqBell n q tail = u.ringErr n q := by
  unfold State.sqBell
  rw [if_neg (by simp [hb]), if_pos (by simpa using h)]

theorem State.cqBell_bad (hb : u.bellOn n = true)
    (h : u.flag CQ_CFG_EN n = false ∨ 2 ^ ringLog2 (u.rd CQ_CFG_LOG2_SIZE n) ≤ head) : u.cqBell n head = u.ringErr n 0 := by
  unfold State.cqBell
  dsimp only
  rw [if_neg (by simp [hb])]
  split
  next => rfl
  next he => rw [headMove_beyond (h.resolve_left (by simpa using he))]

theorem State.eqBell_bad (hb : u.bellOn n = true) (h : u.flag EQ_CFG_EN n = false ∨ u.eqSize n ≤ head) :
    u.eqBell n head = u.ringErr n 0 := by
  unfold State.eqBell
  dsimp only
  rw [if_neg (by simp [hb])]
  split
  next => rfl
  next he => rw [headMove_beyond (h.resolve_left (by simpa using he))]

/-! ### Doorbells that move their ring -/

/-- A field of a block with instances is not the link's state. -/
theorem Fld.key_ne_link {f : Fld} {i j : Nat} (hf : f.region.code ≠ 0) : f.key i j ≠ GL_LINK_STAT_LINK.key 0 0 := by
  have e : GL_LINK_STAT_LINK.key 0 0 = 1028 := rfl
  rw [e]
  unfold Fld.key
  omega

theorem State.sqBell_good (hb : u.bellOn n = true) (he : u.flag SQ_CFG_EN n q = true) (ht : tail < u.sqSize n q) :
    u.sqBell n q tail = ((u.setSess n { u.sess n with fetchHold := 0 }).wr SQ_STAT_TAIL tail n q).pump n := by
  unfold State.sqBell
  rw [if_neg (by simp [hb]), if_neg (by simp [he, ht])]

/-- The ring's TAIL is the doorbell's (R135). -/
theorem State.sqBell_sets (h : u.Good True) (hb : u.bellOn n = true) (he : u.flag SQ_CFG_EN n q = true)
    (ht : tail < u.sqSize n q) : Held [SQ_STAT_TAIL.key n q, GL_LINK_STAT_LINK.key 0 0] u (u.sqBell n q tail) ∧
      (u.sqBell n q tail).rd SQ_STAT_TAIL n q = tail := by
  rw [State.sqBell_good hb he ht]
  have hs : (u.setSess n { u.sess n with fetchHold := 0 }).Good True := h.setSess
  have hw : Held [SQ_STAT_TAIL.key n q, GL_LINK_STAT_LINK.key 0 0] u
      ((u.setSess n { u.sess n with fetchHold := 0 }).wr SQ_STAT_TAIL tail n q) :=
    ((Held.refl h).step hs rfl rfl).wr (by simp)
  have ho := State.pump_out hw.good n
  refine ⟨hw.reads ho (by simp), ?_⟩
  rw [ho.rd (Fld.key_ne_link (by decide)), State.rd_wr_same (hs.regs trivial)]
  exact Nat.mod_eq_of_lt (ht.trans_le (u.sqSize_le n q))

/-- The slots up to the head are free (R136). -/
theorem State.cqBell_frees (h : u.Good True) (hb : u.bellOn n = true) (he : u.flag CQ_CFG_EN n = true)
    (hsz : size = 2 ^ ringLog2 (u.rd CQ_CFG_LOG2_SIZE n)) (hd : (u.sess n).cqRead + d ≤ (u.sess n).cqWritten) (hlt : d < size)
    (hh : head = ((u.sess n).cqRead + d) % size) :
    Held [CQ_STAT_HELD.key n 0, GL_LINK_STAT_LINK.key 0 0] u (u.cqBell n head) ∧
      (u.cqBell n head).sess n = { u.sess n with cqRead := (u.sess n).cqRead + d } := by
  have hs : Held [CQ_STAT_HELD.key n 0, GL_LINK_STAT_LINK.key 0 0] u
      (u.setSess n { u.sess n with cqRead := (u.sess n).cqRead + d }) := (Held.refl h).step h.setSess rfl rfl
  have hx := State.sess_setSess_same (h.sessions trivial) n { u.sess n with cqRead := (u.sess n).cqRead + d }
  unfold State.cqBell
  dsimp only
  rw [if_neg (by simp [hb]), if_neg (by simp [he]), ← hsz, hh, headMove_within _ hlt (by omega)]
  dsimp only
  split
  next => exact ⟨hs, hx⟩
  next =>
    have hw := hs.wr (f := CQ_STAT_HELD) (v := 0) (i := n) (j := 0) (by simp)
    have ho := State.pump_out hw.good n
    exact ⟨hw.reads ho (by simp), (ho.sess n).trans hx⟩

/-! ### What an event queue's head completes -/

/-- A table whose entries that satisfy `p` are changed by `f`, read at a key. -/
theorem smGet_foldl_smSet {α : Type} [DecidableEq α] {dflt : α} (p : α → Prop) [DecidablePred p] (f : α → α) (hp : ¬ p dflt)
    {l m : SMap α} (hl : smSorted l = true) (hm : smSorted m = true) (x : Nat) :
    smGet dflt (l.foldl (fun m e => if p e.2 then smSet dflt m e.1 (f e.2) else m) m) x =
      if p (smGet dflt l x) then f (smGet dflt l x) else smGet dflt m x := by
  induction l generalizing m with
  | nil => exact (if_neg hp).symm
  | cons e l ih =>
    obtain ⟨k, w⟩ := e
    have below {y : Nat} (hy : y ≤ k) : smGet dflt l y = dflt :=
      smGet_below dflt fun a ha => hy.trans_lt (smSorted_head hl a ha)
    have hm' : smSorted (if p w then smSet dflt m k (f w) else m) = true := by
      split
      · exact smSorted_smSet dflt hm k _
      · exact hm
    rw [List.foldl_cons, ih (smSorted_tail hl) hm']
    by_cases hx : x = k
    · rw [below hx.le, if_neg hp, smGet, if_pos hx, hx]
      split
      · exact smGet_smSet_same dflt hm k _
      · rfl
    · have hl' : smGet dflt ((k, w) :: l) x = smGet dflt l x := by
        rw [smGet, if_neg hx]
        split
        next hlt => exact (below hlt.le).symm
        next => rfl
      have hmx : smGet dflt (if p w then smSet dflt m k (f w) else m) x = smGet dflt m x := by
        split
        · exact smGet_smSet_other dflt hm _ hx
        · rfl
      rw [hl', hmx]

/-- The source is active in Sn's event queue, in a record before `upTo`. -/
def Source.passed (n upTo : Nat) (x : Source) : Prop := 2 ≤ x.st ∧ x.holder = n ∧ x.pos < upTo

theorem State.source_eqComplete_of_passed (h : u.Good True) {k upTo : Nat} (hp : (u.source k).passed n upTo) :
    (u.eqComplete n upTo).source k = (u.source k).complete :=
  (smGet_foldl_smSet (fun x : Source => 2 ≤ x.st ∧ x.holder = n ∧ x.pos < upTo) Source.complete (by simp [Source.init])
    (h.sources trivial) (h.sources trivial) k).trans (if_pos hp)

theorem State.source_eqComplete_of_not_passed (h : u.Good True) {k upTo : Nat} (hp : ¬ (u.source k).passed n upTo) :
    (u.eqComplete n upTo).source k = u.source k :=
  (smGet_foldl_smSet (fun x : Source => 2 ≤ x.st ∧ x.holder = n ∧ x.pos < upTo) Source.complete (by simp [Source.init])
    (h.sources trivial) (h.sources trivial) k).trans (if_neg hp)

/-- The registers that a record in Sn's event queue writes. -/
def eqKeys (n : Nat) : List Nat := [EQ_STAT_TAIL.key n 0, EQ_STAT_PHASE.key n 0, EQ_STAT_ARM.key n 0]

/-- From `s` to `t` Sn's event queue has been written: its registers and staging have changed, no source has, and the host
has consumed no more of it. -/
structure QueueWritten (n : Nat) (s t : State) : Prop where
  held : Held (eqKeys n) s t
  beacon : t.beacon = s.beacon
  eqRead : (t.sess n).eqRead = (s.sess n).eqRead

theorem QueueWritten.refl (h : s.Good True) : QueueWritten n s s := ⟨.refl h, rfl, rfl⟩

theorem QueueWritten.either {c : Prop} {_ : Decidable c} (ht : QueueWritten n s t) (hu : QueueWritten n s u) :
    QueueWritten n s (if c then t else u) := by
  split <;> assumption

theorem QueueWritten.pushStage {x : Stage} (h : QueueWritten n s t) : QueueWritten n s (t.pushStage x) :=
  ⟨h.held.step h.held.good.pushStage rfl rfl, h.beacon, h.eqRead⟩

theorem QueueWritten.count {i k : Nat} (h : QueueWritten n s t) : QueueWritten n s (t.count i k) :=
  ⟨h.held.count, h.beacon, h.eqRead⟩

theorem QueueWritten.wr {f : Fld} {x : Nat} (h : QueueWritten n s t) (hk : f.key n 0 ∈ eqKeys n)
    (hf : f.region.code ≠ 0 := by decide) : QueueWritten n s (t.wr f x n) :=
  ⟨h.held.wr hk hf, h.beacon, h.eqRead⟩

theorem QueueWritten.setArm {b : Bool} (h : QueueWritten n s t) : QueueWritten n s (t.setFlag EQ_STAT_ARM b n) :=
  h.wr (by simp [eqKeys])

theorem QueueWritten.setSess {x : Sess} (h : QueueWritten n s t) (hx : x.eqRead = (t.sess n).eqRead) :
    QueueWritten n s (t.setSess n x) where
  held := h.held.step h.held.good.setSess rfl rfl
  beacon := h.beacon
  eqRead := (congrArg Sess.eqRead (State.sess_setSess_same (h.held.good.sessions trivial) ..)).trans (hx.trans h.eqRead)

theorem QueueWritten.eqWrite {r : List Byte} (h : QueueWritten n s t) : QueueWritten n s (t.eqWrite n r) := by
  unfold State.eqWrite
  extract_lets tail ph r' wrap t1 t2 x t3
  have h2 : QueueWritten n s t2 := (h.pushStage.wr (by simp [eqKeys])).wr (by simp [eqKeys])
  have h3 : QueueWritten n s t3 := .count (h2.setSess rfl)
  exact .either h3.pushStage.setArm h3

theorem QueueWritten.eqOverflow (h : QueueWritten n s t) : QueueWritten n s (t.eqOverflow n) :=
  .either h (.either (h.eqWrite.setSess rfl) h)

/-- The machine once Sn's queue is consumed up to record `k` and the sources passed are complete (R537). -/
def State.eqConsumed (s : State) (n k : Nat) : State :=
  (s.setSess n { s.sess n with eqRead := k }).eqComplete n k

theorem State.source_eqConsumed_of_passed (h : u.Good True) {j k : Nat} (hp : (u.source j).passed n k) :
    (u.eqConsumed n k).source j = (u.source j).complete :=
  State.source_eqComplete_of_passed (u := u.setSess n { u.sess n with eqRead := k }) h.setSess hp

theorem State.source_eqConsumed_of_not_passed (h : u.Good True) {j k : Nat} (hp : ¬ (u.source j).passed n k) :
    (u.eqConsumed n k).source j = u.source j :=
  State.source_eqComplete_of_not_passed (u := u.setSess n { u.sess n with eqRead := k }) h.setSess hp

/-- After a good EQ_HEAD the queue is only written: the record due, ARM and vector 0 (R547, R548). -/
theorem State.eqBell_consumes (h : u.Good True) (hb : u.bellOn n = true) (he : u.flag EQ_CFG_EN n = true)
    (hd : (u.sess n).eqRead + d ≤ (u.sess n).eqWritten) (hlt : d < u.eqSize n)
    (hh : head = ((u.sess n).eqRead + d) % u.eqSize n) :
    QueueWritten n (u.eqConsumed n ((u.sess n).eqRead + d)) (u.eqBell n head) := by
  have hc : (u.eqConsumed n ((u.sess n).eqRead + d)).Good True := h.setSess.eqComplete
  have hv := (QueueWritten.refl (n := n) hc).setArm (b := true) |>.eqOverflow
  unfold State.eqBell
  dsimp only
  rw [if_neg (by simp [hb]), if_neg (by simp [he]), hh, headMove_within _ hlt (by unfold Sess.eqUsed; omega)]
  exact .either hv.pushStage.setArm hv

end

/-! ### The rows -/

section
variable {s : State} {n : Fin 16}

/-- The doorbell `c` changes nothing but RING_ERR of ring `q`, which counts, saturating (R136). -/
def Counts (c : Instr) (s : State) (n q : Nat) : Prop :=
  ∃ t, exec c s = .next t ∧
    t = s.tlpIn.wr SQ_STAT_RING_ERR (min (2 ^ SQ_STAT_RING_ERR.width - 1) (s.tlpIn.rd SQ_STAT_RING_ERR n q + 1)) n q ∧
    SameMem s t

theorem counts_of_ringErr {c : Instr} {q : Nat} (h : s.Good True) (e : exec c s = .next (s.tlpIn.ringErr n q)) :
    Counts c s n q := by
  have hb : Held (SQ_STAT_RING_ERR.key n q :: tlpKeys) s (s.tlpIn.ringErr n q) :=
    ((Held.tlpIn h).mono (List.subset_cons_self ..)).bump (List.mem_cons_self ..)
  exact ⟨_, e, rfl, hb.sameMem⟩

theorem exec_sqDoorbell (s : State) (q : Fin 4) (tail : Fin 4096) :
    exec (.sqDoorbell n q tail) s = .next (s.tlpIn.sqBell n q tail) := rfl

theorem exec_cqDoorbell (s : State) (head : Fin 4096) : exec (.cqDoorbell n head) s = .next (s.tlpIn.cqBell n head) := rfl

theorem exec_eqHeadDoorbell (s : State) (head : Fin 4096) :
    exec (.eqHeadDoorbell n head) s = .next (s.tlpIn.eqBell n head) := rfl

theorem sqDoorbell_sets (h : s.Good True) (hb : s.tlpIn.bellOn n = true) {q : Fin 4} {tail : Fin 4096}
    (he : s.tlpIn.flag SQ_CFG_EN n q = true) (ht : tail.val < s.tlpIn.sqSize n q) :
    ∃ t, exec (.sqDoorbell n q tail) s = .next t ∧ t.rd SQ_STAT_TAIL n q = tail ∧ SameMem s t := by
  obtain ⟨hh, hr⟩ := State.sqBell_sets h.tlpIn hb he ht
  exact ⟨_, exec_sqDoorbell .., hr, fun a => (hh.sameMem a).trans ((Held.tlpIn h).sameMem a)⟩

theorem cqDoorbell_frees (h : s.Good True) (hb : s.tlpIn.bellOn n = true) {head : Fin 4096} {d : Nat}
    (he : s.tlpIn.flag CQ_CFG_EN n = true)
    (hd : (s.tlpIn.sess n).cqRead + d ≤ (s.tlpIn.sess n).cqWritten) (hlt : d < 2 ^ ringLog2 (s.tlpIn.rd CQ_CFG_LOG2_SIZE n))
    (hh : head.val = ((s.tlpIn.sess n).cqRead + d) % 2 ^ ringLog2 (s.tlpIn.rd CQ_CFG_LOG2_SIZE n)) :
    ∃ t, exec (.cqDoorbell n head) s = .next t ∧ (t.sess n).cqRead = (s.tlpIn.sess n).cqRead + d ∧
      (t.sess n).cqWritten = (s.tlpIn.sess n).cqWritten ∧ SameMem s t := by
  obtain ⟨hm, hx⟩ := State.cqBell_frees h.tlpIn hb he rfl hd hlt hh
  exact ⟨_, exec_cqDoorbell .., by rw [hx], by rw [hx], fun a => (hm.sameMem a).trans ((Held.tlpIn h).sameMem a)⟩

/-- The sources whose records the head passes complete, the others stay (R537). -/
theorem eqHeadDoorbell_completes (h : s.Good True) (hb : s.tlpIn.bellOn n = true) {head : Fin 4096} {d : Nat}
    (he : s.tlpIn.flag EQ_CFG_EN n = true) (hd : (s.tlpIn.sess n).eqRead + d ≤ (s.tlpIn.sess n).eqWritten)
    (hlt : d < s.tlpIn.eqSize n) (hh : head.val = ((s.tlpIn.sess n).eqRead + d) % s.tlpIn.eqSize n) :
    ∃ t, exec (.eqHeadDoorbell n head) s = .next t ∧ (t.sess n).eqRead = (s.tlpIn.sess n).eqRead + d ∧ SameMem s t ∧
      ∀ k, ((s.tlpIn.source k).passed n ((s.tlpIn.sess n).eqRead + d) → t.source k = (s.tlpIn.source k).complete) ∧
        (¬ (s.tlpIn.source k).passed n ((s.tlpIn.sess n).eqRead + d) → t.source k = s.tlpIn.source k) := by
  have hu := h.tlpIn
  have hq := State.eqBell_consumes hu hb he hd hlt hh
  have hm : Held (eqKeys n) s.tlpIn (s.tlpIn.eqConsumed n ((s.tlpIn.sess n).eqRead + d)) :=
    (Held.refl hu).step hu.setSess.eqComplete rfl rfl
  have hs (k : Nat) : (s.tlpIn.eqBell n head).source k = (s.tlpIn.eqConsumed n ((s.tlpIn.sess n).eqRead + d)).source k :=
    congrArg (fun b : BeaconSt => smGet Source.init b.sources k) hq.beacon
  refine ⟨_, exec_eqHeadDoorbell .., hq.eqRead.trans ?_, fun a => ?_, fun k => ⟨fun hp => ?_, fun hp => ?_⟩⟩
  · exact congrArg Sess.eqRead (State.sess_setSess_same (hu.sessions trivial) ..)
  · exact ((hm.trans hq.held).sameMem a).trans ((Held.tlpIn h).sameMem a)
  · exact (hs k).trans (State.source_eqConsumed_of_passed hu hp)
  · exact (hs k).trans (State.source_eqConsumed_of_not_passed hu hp)

theorem Source.st_complete_of_active {x : Source} (h : x.st = 2) : x.complete.st = 0 := by
  simp [Source.complete, h]

theorem Source.st_complete_of_activePending {x : Source} (h : x.st = 3) : x.complete.st = 1 := by
  simp [Source.complete, h]

end

/-- Settles O18: each doorbell is off, bad or good, and each way has its lemma above. That a bad CQ or EQ head, and a disabled
ring, count in RING_ERR of ring 0 is the model's choice (log 13). -/
theorem doorbellsMoveTheRingsOrAreCounted : Obligations.DoorbellsMoveTheRingsOrAreCounted := by
  unfold Obligations.DoorbellsMoveTheRingsOrAreCounted
  intro s n hwf
  have h := (State.wf_iff s).mp hwf
  refine ⟨fun q tail hb => ?sqOff, fun head hb => ⟨?cqOff, ?eqOff⟩, fun hb => ⟨fun q tail => ⟨fun hbad => ?sqBad,
    sqDoorbell_sets h hb⟩, fun head => ⟨fun hbad => ?cqBad, fun d he _ hd hlt hh => cqDoorbell_frees h hb he hd hlt hh⟩,
    fun head => ⟨fun hbad => ?eqBad, fun d he hd hlt hh => ?eqGood⟩⟩⟩
  case sqOff => rw [exec_sqDoorbell, State.sqBell_off hb]
  case cqOff => rw [exec_cqDoorbell, State.cqBell_off hb]
  case eqOff => rw [exec_eqHeadDoorbell, State.eqBell_off hb]
  case sqBad => exact counts_of_ringErr h (by rw [exec_sqDoorbell, State.sqBell_bad hb hbad])
  case cqBad => exact counts_of_ringErr h (by rw [exec_cqDoorbell, State.cqBell_bad hb hbad])
  case eqBad => exact counts_of_ringErr h (by rw [exec_eqHeadDoorbell, State.eqBell_bad hb hbad])
  case eqGood =>
    obtain ⟨t, e, hr, hm, hs⟩ := eqHeadDoorbell_completes h hb he hd hlt hh
    refine ⟨t, e, hr, hm, fun k h2 hn hp => ?_, fun k h3 hn hp => ?_, fun k hn => (hs k).2 fun hp => hn hp.2.1⟩
    · rw [(hs k).1 ⟨by omega, hn, hp⟩, Source.st_complete_of_active h2]
    · rw [(hs k).1 ⟨by omega, hn, hp⟩, Source.st_complete_of_activePending h3]

end Sys2Proof.Machine

end

section
/-! # Admission, start and end of operations

Each of the three rows is first its effect on the operation store and on staging, then what the statement says of it; the
reads that go out at the end leave both (`ReadsOut`). -/

namespace Sys2Proof.Machine

open Reg

section
variable {s : State} {n q tag : Nat} {b : List Byte} {o : Op}

/-! ### Admission -/

/-- The next record of Sn's ring `q` as an operation, with its place in the order of admission. -/
def State.taken (s : State) (n q : Nat) (b : List Byte) : Op :=
  { parseRec n q b with seq := s.nextSeq, admitTime := s.clock, admitDev := s.tm.device }

/-- Completion slots an operation reserves (R148). -/
def Op.need (o : Op) : Nat := if o.opcode = 0x38 then 2 else 1

/-- The record as it waits, refused, for its completion record (R167). -/
def Op.refusal (o : Op) (r : Nat × Nat) (time : Nat) : Op :=
  { o with refused := true, fin := some { status := r.1, result := r.2, time := time } }

/-- The record is refused. -/
def State.refuseRec (s : State) (o : Op) (r : Nat × Nat) : State :=
  ({ s with ops := s.ops ++ [o.refusal r s.stamp] } : State).count 153

/-- The operation as it enters (R151). -/
def Op.entered (o : Op) : Op :=
  { o with
    est := estimate o, slots := o.need, st := if isControl o.opcode then .running else .queued
    started := isControl o.opcode, stage := 0, due := none }

/-- A record is to be taken: the occasion of ADMIT_RECORD (R147). -/
structure State.Takes (s : State) (n q : Nat) (b : List Byte) : Prop where
  admits : s.admits = true
  session : s.nextSes? = some n
  record : (s.sess n).nextRec? = some (q, b)

/-- What becomes of a record once the checks of Table OPS-7 have answered. -/
def State.judged (s : State) (o : Op) (c : Option (Nat × Nat)) : State :=
  match c with
  | some r => s.refuseRec o r
  | none => s.admitRec o

theorem exec_admitRecord (ht : s.Takes n q b) : exec .admitRecord s =
    .next (if s.slotsFree n < (s.taken n q b).need then s.wr CQ_STAT_HELD 1 n
      else ((s.consume n q).judged (s.taken n q b) (s.admitCheck n b (s.taken n q b))).pump n) := by
  obtain ⟨ha, hn, hr⟩ := ht
  change execAdmitRecord s = _
  simp only [execAdmitRecord, ha, hn, hr]
  by_cases hs : s.slotsFree n < (s.taken n q b).need
  · exact (if_pos hs).trans (by rw [if_pos hs])
  · refine (if_neg hs).trans ?_
    rw [if_neg hs]
    split
    next status cause hc => rw [show s.admitCheck n b (s.taken n q b) = some (status, cause) from hc]; rfl
    next hc => rw [show s.admitCheck n b (s.taken n q b) = none from hc]; rfl

theorem admitRecord_idle (ha : s.admits = false) : exec .admitRecord s = .next s := by
  change execAdmitRecord s = _
  rw [execAdmitRecord, if_pos (by simp [ha])]

theorem State.admitRec_ops (hd : o.deferred = false) : (s.admitRec o).ops = s.ops ++ [o.entered] := by
  unfold State.admitRec
  extract_lets m c o' interim t
  have he : o' = o.entered := by simp [o', c, Op.entered, Op.need, hd]
  have hd' : o'.deferred = false := hd
  rw [hd', he]
  rfl

theorem Held.withOps {keys : List Nat} {t : State} (h : Held keys s t) (l : List Op) : Held keys s { t with ops := l } :=
  h.step h.good.update rfl rfl

theorem Held.judged {keys : List Nat} {t : State} (h : Held keys s t) (c : Option (Nat × Nat)) :
    Held keys s (t.judged o c) := by
  cases c with
  | none =>
    unfold State.judged State.admitRec
    exact h.count.count.withOps _
  | some r =>
    unfold State.judged State.refuseRec
    exact (h.withOps _).count

/-- With no slot free the session is held (R148). -/
theorem admitRecord_holds (ht : s.Takes n q b) (hs : s.slotsFree n < (s.taken n q b).need) :
    ∃ t, exec .admitRecord s = .next t ∧ t = s.wr CQ_STAT_HELD 1 n :=
  ⟨_, (exec_admitRecord ht).trans (by rw [if_pos hs]), rfl⟩

/-- With a slot free the record leaves its ring, and memory stays. -/
theorem admitRecord_takes (h : s.Good True) (ht : s.Takes n q b) (hs : (s.taken n q b).need ≤ s.slotsFree n) :
    ∃ t, exec .admitRecord s = .next t ∧ SameMem s t ∧
      t.ops = ((s.consume n q).judged (s.taken n q b) (s.admitCheck n b (s.taken n q b))).ops := by
  have hh : Held [GL_LINK_STAT_LINK.key 0 0] s
      ((s.consume n q).judged (s.taken n q b) (s.admitCheck n b (s.taken n q b))) :=
    .judged ((Held.refl h).step h.consume rfl rfl) _
  have ho := State.pump_out hh.good n
  exact ⟨_, (exec_admitRecord ht).trans (by rw [if_neg hs.not_gt]), (hh.trans ho.held).sameMem, ho.ops⟩

/-- A refused record waits for its completion record (R167). -/
theorem admitRecord_refuses {r : Nat × Nat} (h : s.Good True) (ht : s.Takes n q b)
    (hs : (s.taken n q b).need ≤ s.slotsFree n) (hc : s.admitCheck n b (s.taken n q b) = some r) :
    ∃ t, exec .admitRecord s = .next t ∧ SameMem s t ∧ (s.taken n q b).refusal r s.stamp ∈ t.ops := by
  obtain ⟨t, e, hm, hops⟩ := admitRecord_takes h ht hs
  refine ⟨t, e, hm, ?_⟩
  rw [hops, hc]
  exact List.mem_append_right _ (List.mem_singleton_self _)

/-- A record that passes is an operation in flight (R151). -/
theorem admitRecord_admits (h : s.Good True) (ht : s.Takes n q b) (hs : (s.taken n q b).need ≤ s.slotsFree n)
    (hc : s.admitCheck n b (s.taken n q b) = none) (hd : (s.taken n q b).deferred = false) :
    ∃ t, exec .admitRecord s = .next t ∧ SameMem s t ∧ (s.taken n q b).entered ∈ t.ops := by
  obtain ⟨t, e, hm, hops⟩ := admitRecord_takes h ht hs
  refine ⟨t, e, hm, ?_⟩
  rw [hops, hc]
  exact State.admitRec_ops hd ▸ List.mem_append_right _ (List.mem_singleton_self _)

end

/-! ### Start -/

section
variable {s : State} {n : Fin 16} {tag : Nat} {o : Op} {e : OpEnd}

/-- The operation as it starts (R151, R154). -/
def Op.starting (o : Op) : Op := { o with st := .running, started := true, want := hostBytes o }

theorem Op.starting_keepsKey : KeepsKey Op.starting := fun _ => ⟨rfl, rfl, rfl⟩

theorem exec_operationStart (ho : s.op? n tag = some o) (hq : o.st = .queued) (hw : o.waits = true) (h8 : o.stage ≠ 8)
    (hk : s.working = true) (hm : s.mayStart o = true) :
    exec (.operationStart n tag) s = .next ((s.modOp n tag Op.starting).pump n) := by
  change execOperationStart n tag s = _
  simp only [execOperationStart, ho]
  exact if_pos (by simp [hq, hw, h8, hk, hm])

theorem operationStart_starts (h : s.Good True) (ho : s.op? n tag = some o) (hq : o.st = .queued) (hw : o.waits = true)
    (h8 : o.stage ≠ 8) (hk : s.working = true) (hm : s.mayStart o = true) :
    ∃ t, exec (.operationStart n tag) s = .next t ∧ SameMem s t ∧ t.op? n tag = some o.starting := by
  have hp := State.pump_out (h.modOp (n := n) (tag := tag) (f := Op.starting)) n
  have hh : Held [GL_LINK_STAT_LINK.key 0 0] s (s.modOp n tag Op.starting) := (Held.refl h).step h.modOp rfl rfl
  refine ⟨_, exec_operationStart ho hq hw h8 hk hm, (hh.trans hp.held).sameMem, ?_⟩
  rw [hp.op?, op?_modOp_same _ _ _ Op.starting_keepsKey, ho]
  rfl

/-! ### End -/

/-- The fields of CQ_STAT that a completion record advances. -/
def cqKeys (n : Nat) : List Nat := [CQ_STAT_TAIL.key n 0, CQ_STAT_PHASE.key n 0]

/-- The size of Sn's completion ring. -/
def State.cqSize (s : State) (n : Nat) : Nat := 2 ^ ringLog2 (s.rd CQ_CFG_LOG2_SIZE n)

/-- The ring's tail, and at its end the phase, move on by one record (R137). -/
def State.cqAdvance (s : State) (n : Nat) : State :=
  let wrap := s.rd CQ_STAT_TAIL n + 1 = s.cqSize n
  (s.wr CQ_STAT_TAIL (if wrap then 0 else s.rd CQ_STAT_TAIL n + 1) n).wr CQ_STAT_PHASE
    (if wrap then 1 - s.rd CQ_STAT_PHASE n else s.rd CQ_STAT_PHASE n) n

theorem State.rd_cqAdvance (h : s.Good True) (n : Nat) (ht : s.rd CQ_STAT_TAIL n < s.cqSize n) :
    (s.cqAdvance n).rd CQ_STAT_TAIL n = (s.rd CQ_STAT_TAIL n + 1) % s.cqSize n := by
  have hle : s.cqSize n ≤ 2 ^ 12 := Nat.pow_le_pow_right (by decide) (by unfold ringLog2 clamp; omega)
  rw [State.cqAdvance, State.rd_wr_ne h.wr CQ_STAT_PHASE CQ_STAT_TAIL, State.rd_wr_same (h.regs trivial)]
  by_cases hw : s.rd CQ_STAT_TAIL n + 1 = s.cqSize n
  · rw [if_pos hw, hw, Nat.mod_self]
    rfl
  · rw [if_neg hw, Nat.mod_eq_of_lt (b := s.cqSize n) (by omega)]
    exact Nat.mod_eq_of_lt (show s.rd CQ_STAT_TAIL n + 1 < 2 ^ 12 by omega)

theorem Held.cqAdvance {t : State} {n : Nat} (h : Held (cqKeys n) s t) : Held (cqKeys n) s (t.cqAdvance n) :=
  (h.wr (by simp [cqKeys])).wr (by simp [cqKeys])

/-- The bytes of a completion record; bit 3 of byte 3 marks the interim one of a deferral (Table OPS-2). -/
theorem complRecord_eq (o : Op) (e : OpEnd) (phase : Nat) : complRecord o e phase =
    leBytes 2 o.tag ++ leBytes 1 e.status ++ leBytes 1 (phase + o.ring % 4 * 2 + if e.status = 0x1B then 8 else 0) ++
      leBytes 4 e.result ++ leBytes 6 e.time ++ leBytes 2 o.obj := by
  unfold complRecord boolNat
  by_cases hd : e.status = eDeferred
  · rw [if_pos (decide_eq_true hd), if_pos (show e.status = 0x1B from hd)]
  · rw [if_neg (by simpa using hd), if_neg (show ¬ e.status = 0x1B from hd)]

/-- Sn's completion record, its MSI-X behind it, in staging (R101, Table OPS-2). -/
def State.recordOut (s : State) (n : Nat) (o : Op) (e : OpEnd) : State :=
  (s.pushStage (.record n (s.rd CQ_BASE_ADDR n * 4096 + 16 * s.rd CQ_STAT_TAIL n)
    (complRecord o e (s.rd CQ_STAT_PHASE n)))).pushStage (.msix n 1)

/-- The record of an operation whose RESULT is stated goes out, and its ring moves on. -/
theorem State.pushRecord_frame (hr : resultOpen o e = false) :
    (s.pushRecord o e).regs = ((s.recordOut o.sess o e).cqAdvance o.sess).regs ∧
      (s.pushRecord o e).host = (s.recordOut o.sess o e).host ∧ (s.pushRecord o e).mem = s.mem := by
  have hs : s.stated o e = (e, s) := if_neg (by simp [hr])
  refine ⟨?_, ?_, (RecordsOut.refl s).pushRecord.mem⟩
  · simp only [State.pushRecord, hs, State.cqAdvance, State.recordOut, State.count_regs, State.setSess_regs]
    rfl
  · simp only [State.pushRecord, hs, State.recordOut, State.count_host, State.setSess_host, State.wr_host]

theorem exec_operationEnd (hn : s.nextEnded? n = some o) (hf : o.fin = some e) (hp : o.outp = []) (hb : (s.fn n).bme = true) :
    exec (.operationEnd n o.tag) s = .next (s.pushRecord o e) := by
  change execOperationEnd n o.tag s = _
  simp only [execOperationEnd, State.endNext, hn, hf, hp, hb, and_self, if_true]

theorem operationEnd_records (h : s.Good True) (hn : s.nextEnded? n = some o) (hf : o.fin = some e) (hp : o.outp = [])
    (hs : o.sess = n) (hb : (s.fn n).bme = true) (hr : resultOpen o e = false) :
    ∃ t, exec (.operationEnd n o.tag) s = .next t ∧ SameMem s t ∧
      t.host.staging = s.host.staging ++ [.record n (s.rd CQ_BASE_ADDR n * 4096 + 16 * s.rd CQ_STAT_TAIL n)
        (complRecord o e (s.rd CQ_STAT_PHASE n)), .msix n 1] ∧
      (s.rd CQ_STAT_TAIL n < s.cqSize n → t.rd CQ_STAT_TAIL n = (s.rd CQ_STAT_TAIL n + 1) % s.cqSize n) := by
  have ho : (s.recordOut n o e).Good True := h.pushStage.pushStage
  have ha : Held (cqKeys n) s ((s.recordOut n o e).cqAdvance n) := .cqAdvance ((Held.refl h).step ho rfl rfl)
  obtain ⟨hregs, hhost, hmem⟩ := State.pushRecord_frame (s := s) hr
  rw [hs] at hregs hhost
  refine ⟨_, exec_operationEnd hn hf hp hb, (ha.step h.pushRecord hregs hmem).sameMem, ?_, fun ht => ?_⟩
  · rw [hhost]
    exact List.append_assoc ..
  · rw [State.rd, hregs]
    exact State.rd_cqAdvance ho n ht

end

/-- Settles O20: admission, start and end have their lemmas above. -/
theorem recordsAreAdmittedStartedAndCompleted : Obligations.RecordsAreAdmittedStartedAndCompleted := by
  unfold Obligations.RecordsAreAdmittedStartedAndCompleted
  refine ⟨fun s n q b hwf ha hn hr => ?admission, fun s => admitRecord_idle, fun s n tag o hwf ho hq hw h8 hk hm => ?start,
    fun s n o e hwf hn hf hp hs hb hr => ?record⟩
  case admission =>
    have h := (State.wf_iff s).mp hwf
    have ht : s.Takes n q b := ⟨ha, hn, hr⟩
    refine ⟨admitRecord_holds ht, fun st cause hs hc => ?_, fun hs hc hd => ?_⟩
    · obtain ⟨t, e, hm, hx⟩ := admitRecord_refuses h ht hs hc
      exact ⟨t, e, hm, _, hx, rfl, rfl, rfl, rfl⟩
    · obtain ⟨t, e, hm, hx⟩ := admitRecord_admits h ht hs hc hd
      exact ⟨t, e, hm, _, hx, rfl, rfl, rfl, rfl, rfl, rfl, rfl, rfl, rfl, rfl, rfl⟩
  case start => exact operationStart_starts ((State.wf_iff s).mp hwf) ho hq hw h8 hk hm
  case record =>
    rw [← complRecord_eq]
    exact operationEnd_records ((State.wf_iff s).mp hwf) hn hf hp hs hb hr

end Sys2Proof.Machine

end

section
/-! # A Helm beyond the device's

`State.wf` lets the table of Helms hold a Helm of any number, and the SUSPEND event of a port reaches every Helm listed. The
statement lists the drop counters of Helms 0 to 31 alone, so it fails in a state in good form that lists a Helm 32, which the
device does not have, with a full queue. -/

namespace Sys2Proof.Machine

open Reg

/-- A running program with a handler for SUSPEND, its queue full, bound to Chute 0. -/
def fullHelm : Helm :=
  { Helm.init with
    ps := .running
    image := some
      { stock := 0, codeWords := 0, handlers := [{ kind := 9, mask := 1, entry := 0, wcet := 0 }], ports := [], timing := 0
        floor := 0, farBase := 0, farLen := 0, data := [] }
    queue := List.replicate 32 { kind := 9, port := 0, cause := 0, set := false, ovf := false, stamp := 0, payload := [] }
    ports := [(0, some
      { src := 0x4000, sel := 0, ro := false, ready := true, bank := [], rateF := 0, rateM := 0, lastF := none, lastM := none
        thin := false, cut := false })] }

/-- A RUNNING CAPTURE of S0 on Chute 0, with TAG 2. -/
def chuteCapture : Op :=
  { parseRec 0 0 [] with tag := 2, opcode := 0x21, obj := 0x4000, st := .running, started := true }

/-- A SUSPEND of TAG 2 by S0, with TAG 1. -/
def captureSuspend : Op :=
  { parseRec 0 0 [] with tag := 1, opcode := 0x30, p := [2], st := .running, started := true, seq := 1 }

/-- The machine that lists Helm 32. -/
def strayHelmState : State := { State.reset with ops := [captureSuspend, chuteCapture], helms := [(32, fullHelm)] }

/-- The machine after the SUSPEND. -/
def strayHelmSuspended : State :=
  strayHelmState.control 0 1 0x30 fun x s => if x.eff = .suspended then (s, 2) else ((s.suspendOp x 0 0).pauseEvent x 9, 0)

theorem exec_suspend_strayHelmState : exec (.suspend 0 1 0 0) strayHelmState = .next strayHelmSuspended := rfl

theorem strayHelmState_wf : strayHelmState.wf = true := by decide +kernel

/-- The SUSPEND event is dropped and counted for Helm 32. -/
theorem rd_drop_strayHelmSuspended : strayHelmSuspended.rd HM_EVQ_DROP 32 = 1 := by decide +kernel

theorem rd_drop_strayHelmState : strayHelmState.rd HM_EVQ_DROP 32 = 0 := by decide +kernel

theorem drop_not_listed : HM_EVQ_DROP.key 32 0 ∉ (List.range 32).map fun h => HM_EVQ_DROP.key h 0 := by decide

/-- Refutes O21: SUSPEND of a RUNNING CAPTURE counts a drop of Helm 32, a register that the statement has unchanged. -/
theorem not_suspendResumeAndCancelReportTheirOutcome : ¬ Obligations.SuspendResumeAndCancelReportTheirOutcome := by
  unfold Obligations.SuspendResumeAndCancelReportTheirOutcome
  intro h
  obtain ⟨-, -, -, hmain⟩ := h strayHelmState 0 1 0 0 captureSuspend strayHelmState_wf (by decide +kernel)
  obtain ⟨-, -, hsuspend, -⟩ := hmain chuteCapture rfl rfl rfl (by decide) (by decide)
  obtain ⟨t, e, -, -, hregs, -⟩ := hsuspend rfl rfl ⟨rfl, rfl, rfl, rfl, rfl, rfl⟩
  obtain rfl : strayHelmSuspended = t := Host.Outcome.next.inj (exec_suspend_strayHelmState.symm.trans e)
  have hdrop := hregs HM_EVQ_DROP 32 0 drop_not_listed
  rw [rd_drop_strayHelmSuspended, rd_drop_strayHelmState] at hdrop
  exact absurd hdrop (by decide)

end Sys2Proof.Machine

end

section
/-! # One instruction of a Helm

What `State.helmStep` comes to when the instruction executes, what it leaves of the rest of the machine, and the writes of
registers and local data that the instructions of chapter 06 are built from. -/

namespace Sys2Proof.Machine

open Reg

set_option Elab.async false

section

variable {s t v : State} {h i k n : Nat} {m : Helm}

/-! ### A Helm and the rest of the machine -/

theorem OnlyHelm.refl (h : Nat) (s : State) : OnlyHelm h s s := ⟨rfl, fun _ _ => rfl⟩

theorem OnlyHelm.trans (ht : OnlyHelm h s t) (hv : OnlyHelm h t v) : OnlyHelm h s v :=
  ⟨by rw [hv.1, ht.1], fun i hi => (hv.2 i hi).trans (ht.2 i hi)⟩

theorem OnlyHelm.setHelm (hs : OnlyHelm h s t) (ht : t.Good True) (m : Helm) : OnlyHelm h s (t.setHelm h m) :=
  hs.trans ⟨rfl, fun _ hi => State.helm_setHelm_other (ht.helms trivial) m hi⟩

theorem OnlyHelm.count (hs : OnlyHelm h s t) (i n : Nat) : OnlyHelm h s (t.count i n) := hs.trans ⟨rfl, fun _ _ => rfl⟩

theorem OnlyHelm.helmCycles (hs : OnlyHelm h s t) (ht : t.Good True) (k : Nat) : OnlyHelm h s (t.helmCycles h k) :=
  (hs.setHelm ht _).count _ _

theorem OnlyHelm.helmNext (hs : OnlyHelm h s t) (ht : t.Good True) : OnlyHelm h s (t.helmNext h) := hs.setHelm ht _

theorem OnlyHelm.regs (hs : OnlyHelm h s t) : t.regs = s.regs := by rw [hs.1]

theorem OnlyHelm.mem (hs : OnlyHelm h s t) : t.mem = s.mem := by rw [hs.1]

theorem OnlyHelm.sameMem (hs : OnlyHelm h s t) : SameMem s t :=
  State.byteAt_congr hs.mem (by simp only [State.cellarSize, State.rd, hs.regs])

/-! ### What a firing and an ECC report leave of the Helms -/

@[simp] theorem State.fire_helms (s : State) (k c d : Nat) : (s.fire k c d).helms = s.helms := by
  unfold State.fire
  split <;> rfl

@[simp] theorem State.fireFree_helms (s : State) (k : Nat) : (s.fireFree k).helms = s.helms := State.fire_helms ..

@[simp] theorem State.eccCorr_helms (s : State) (k d : Nat) : (s.eccCorr k d).helms = s.helms := State.fire_helms ..

@[simp] theorem State.eccUncorr_helms (s : State) (k d : Nat) : (s.eccUncorr k d).helms = s.helms := State.fire_helms ..

theorem State.helm_congr (e : t.helms = s.helms) (i : Nat) : t.helm i = s.helm i := by rw [State.helm, State.helm, e]

/-! ### Cycles and the fall to the next instruction -/

@[simp] theorem State.helmCycles_mem (s : State) (h k : Nat) : (s.helmCycles h k).mem = s.mem := rfl
@[simp] theorem State.helmCycles_regs (s : State) (h k : Nat) : (s.helmCycles h k).regs = s.regs := rfl
@[simp] theorem State.helmNext_mem (s : State) (h : Nat) : (s.helmNext h).mem = s.mem := rfl
@[simp] theorem State.helmNext_regs (s : State) (h : Nat) : (s.helmNext h).regs = s.regs := rfl

/-- The Helm after its cycles. -/
theorem State.helm_helmCycles (hs : s.Good True) (h k : Nat) : (s.helmCycles h k).helm h = (s.helm h).spent k :=
  State.helm_setHelm_same (hs.helms trivial) h _

/-- The Helm after its effect. -/
theorem State.helm_retire (ht : t.Good True) (h : Nat) (m : Helm) :
    ((t.setHelm h m).helmNext h).helm h = m.fallThrough := by
  have e := State.helm_setHelm_same (ht.helms trivial) h m
  rw [State.helmNext, State.helm_setHelm_same (State.setHelm_sorted (ht.helms trivial) h m), e]

theorem OnlyHelm.retire (ht : OnlyHelm h s t) (hg : t.Good True) (hm : m.Good True) :
    OnlyHelm h s ((t.setHelm h m).helmNext h) :=
  (ht.setHelm hg m).helmNext (hg.setHelm hm)

@[simp] theorem Helm.reg_fallThrough (m : Helm) (r : Nat) : m.fallThrough.reg r = m.reg r := rfl

@[simp] theorem Helm.flags_fallThrough (m : Helm) : m.fallThrough.flags = m.flags := rfl

@[simp] theorem Helm.reg_spent (m : Helm) (k r : Nat) : (m.spent k).reg r = m.reg r := rfl

@[simp] theorem Helm.flags_spent (m : Helm) (k : Nat) : (m.spent k).flags = m.flags := rfl

@[simp] theorem Helm.addr_spent (m : Helm) (k : Nat) (x : Word) : (m.spent k).addr x = m.addr x := rfl

@[simp] theorem Helm.local_spent (m : Helm) (k a n : Nat) : (m.spent k).local_ a n = m.local_ a n := rfl

/-! ### When the instruction executes -/

/-- A Helm that runs an instruction has a handler with the cycles for it left, is not stalled, and its word spells it. -/
theorem State.helmRuns_run {op : HOp} (hr : s.helmRuns h op k = true) :
    ∃ r, (s.helm h).run = some r ∧ r.cycles + k ≤ r.limit ∧ (s.helm h).stall = none ∧ helmOp (s.word_ h) = some op := by
  simp only [State.helmRuns, Bool.and_eq_true, beq_iff_eq, Option.isNone_iff_eq_none] at hr
  obtain ⟨⟨hl, hst⟩, hop⟩ := hr
  split at hl
  · rename_i r e
    exact ⟨r, e, of_decide_eq_true hl, hst, hop⟩
  · exact absurd hl (by simp)

variable {op : HOp} {u : Upset} {cost : Word → Helm → Nat} {eff : Word → State → Except (Nat × State) State}

theorem State.helmStep_ok (hr : s.helmRuns h op k = true) (hu : u ≠ .imemParity) (hc : cost (s.word_ h) (s.helm h) = k)
    (he : eff (s.word_ h) (s.helmCycles h k) = .ok t) : s.helmStep h u op cost eff = t := by
  obtain ⟨r, e, hle, hst, hop⟩ := State.helmRuns_run hr
  simp only [State.word_] at hop hc he
  simp [State.helmStep, e, hst, hop, hc, Nat.not_lt.mpr hle, hu, he]

theorem State.helmStep_fault {c : Nat} (hr : s.helmRuns h op k = true) (hu : u ≠ .imemParity)
    (hc : cost (s.word_ h) (s.helm h) = k) (he : eff (s.word_ h) (s.helmCycles h k) = .error (c, t)) :
    s.helmStep h u op cost eff = t.helmFault h c := by
  obtain ⟨r, e, hle, hst, hop⟩ := State.helmRuns_run hr
  simp only [State.word_] at hop hc he
  simp [State.helmStep, e, hst, hop, hc, Nat.not_lt.mpr hle, hu, he]

/-! ### Results in registers -/

theorem Helm.setReg_eq (m : Helm) (r : Nat) (v : Word) : m.setReg r v = { m with g := (m.setReg r v).g } := by
  unfold Helm.setReg
  split <;> rfl

@[simp] theorem Helm.flags_setReg (m : Helm) (r : Nat) (v : Word) : (m.setReg r v).flags = m.flags := by
  rw [m.setReg_eq]
  rfl

theorem Helm.reg_setReg (hm : m.Good True) (r i : Nat) (v : Word) :
    (m.setReg r v).reg i = if i = r ∧ i ≠ 0 then v else m.reg i := by
  by_cases hi : i = r
  · subst hi
    by_cases h0 : i = 0
    · simp [h0]
    · simp [h0, Helm.reg_setReg_same (hm.g trivial) h0]
  · simp [hi, Helm.reg_setReg_other (hm.g trivial) v hi]

theorem Helm.Good.spent (hm : m.Good True) : (m.spent k).Good True := hm.update

/-- A register result that keeps the flags (R171). -/
theorem aluDone_setReg (hs : s.Good True) (h k : Nat) (v : Word) :
    AluDone s h k v (s.helm h).flags
      (((s.helmCycles h k).setHelm h (((s.helmCycles h k).helm h).setReg (wD (s.word_ h)) v)).helmNext h) := by
  have hg := hs.helmCycles (h := h) (k := k)
  have hm : ((s.helm h).spent k).Good True := hs.helm.spent
  have ho := ((OnlyHelm.refl h s).helmCycles hs k).retire hg
    (m := ((s.helmCycles h k).helm h).setReg (wD (s.word_ h)) v) hg.helm.setReg
  refine ⟨?_, fun r hr => ?_, ?_, ?_, ho, ho.sameMem⟩ <;> rw [State.helm_retire hg, State.helm_helmCycles hs]
  · by_cases h0 : wD (s.word_ h) = 0
    · simp [h0]
    · simp [Helm.reg_setReg hm, h0]
  · simp [Helm.reg_setReg hm, hr]
  · simp
  · unfold HelmAdvanced
    rw [Helm.setReg_eq]
    rfl

end

end Sys2Proof.Machine

end

section
/-! # Local loads, stores and TALLY

Local data after a store, the faults of a local access, and each instruction's outcome (Tables MSI-6 and MSI-12). -/

namespace Sys2Proof.Machine

open Reg

set_option Elab.async false

section

variable {m : Helm} {a b n v : Nat} {bs : List Byte}

/-! ### Little-endian numbers -/

theorem leNat_lt (l : List Byte) : leNat l < 2 ^ (8 * l.length) := by
  induction l with
  | nil => simp [leNat]
  | cons b l ih =>
    have hb := b.isLt
    have e : 2 ^ (8 * (b :: l).length) = 256 * 2 ^ (8 * l.length) := by
      rw [List.length_cons, Nat.mul_succ, Nat.pow_add, Nat.mul_comm]
    rw [e, leNat]
    omega

theorem leNat_leBytes (n v : Nat) : leNat (leBytes n v) = v % 2 ^ (8 * n) := by
  induction n generalizing v with
  | zero => simp [leBytes, leNat, Nat.mod_one]
  | succ n ih =>
    rw [leBytes, leNat, ih, BitVec.toNat_ofNat, Nat.mul_succ, Nat.add_comm (8 * n) 8, Nat.pow_add]
    exact (Nat.mod_mul ..).symm

/-- A byte of a number's little-endian spelling. -/
theorem leBytes_getD (n v i : Nat) (hi : i < n) : (leBytes n v).getD i 0 = BitVec.ofNat 8 (v / 2 ^ (8 * i)) := by
  induction n generalizing v i with
  | zero => omega
  | succ n ih =>
    cases i with
    | zero => simp [leBytes]
    | succ i =>
      have e : v / 256 / 2 ^ (8 * i) = v / 2 ^ (8 * (i + 1)) := by
        rw [Nat.div_div_eq_div_mul, Nat.mul_succ, Nat.add_comm (8 * i) 8, Nat.pow_add]
      simpa [leBytes, e] using ih (v / 256) i (by omega)

/-- A byte of a word as its little-endian spelling has it. -/
theorem leBytes_word (x : Word) (n k : Nat) (hk : k < n) : (leBytes n x.toNat).getD k 0 = x.extractLsb' (8 * k) 8 := by
  rw [leBytes_getD n _ k hk]
  apply BitVec.eq_of_toNat_eq
  simp [BitVec.extractLsb'_toNat, Nat.shiftRight_eq_div_pow]

/-- The number of bytes that are each as `v` spells them. -/
theorem leNat_map_range {f : Nat → Byte} (hf : ∀ i, i < n → f i = (leBytes n v).getD i 0) :
    leNat ((List.range n).map f) = v % 2 ^ (8 * n) := by
  have e : (List.range n).map f = leBytes n v := by
    apply List.ext_getElem
    · simp
    · intro i h1 h2
      rw [leBytes_length] at h2
      simp [hf i h2, List.getD_eq_getElem?_getD, leBytes_length, h2]
  rw [e, leNat_leBytes]

/-! ### Local data -/

theorem Helm.setLocal_eq (m : Helm) (a : Nat) (bs : List Byte) : m.setLocal a bs = { m with ram := (m.setLocal a bs).ram } := by
  induction bs generalizing m a with
  | nil => rfl
  | cons b bs ih =>
    rw [Helm.setLocal, ih]

theorem Helm.ram_setLocal_outside (hm : m.Good True) (hb : b < a ∨ a + bs.length ≤ b) :
    smGet 0 (m.setLocal a bs).ram b = smGet 0 m.ram b := by
  induction bs generalizing m a with
  | nil => rfl
  | cons x bs ih =>
    simp only [List.length_cons] at hb
    have hw := hm.ram trivial
    have hm' : ({ m with ram := smSet 0 m.ram a x } : Helm).Good True := { hm with ram := fun _ => smWf_smSet hw a x }
    exact (ih hm' (by omega)).trans (smGet_smSet_other 0 ((smWf_iff 0 _).mp hw).1 x (by omega))

theorem Helm.ram_setLocal_inside (hm : m.Good True) {i : Nat} (hi : i < bs.length) :
    smGet 0 (m.setLocal a bs).ram (a + i) = bs.getD i 0 := by
  induction bs generalizing m a i with
  | nil => exact absurd hi (Nat.not_lt_zero i)
  | cons x bs ih =>
    have hw := hm.ram trivial
    have hm' : ({ m with ram := smSet 0 m.ram a x } : Helm).Good True := { hm with ram := fun _ => smWf_smSet hw a x }
    cases i with
    | zero => exact (Helm.ram_setLocal_outside hm' (by omega)).trans (smGet_smSet_same 0 ((smWf_iff 0 _).mp hw).1 a x)
    | succ i =>
      rw [show a + (i + 1) = a + 1 + i by omega]
      exact ih hm' (Nat.lt_of_succ_lt_succ hi)

/-- A store is of bytes and of the marks of uncorrectable words (R223). -/
theorem Helm.storeLocal_eq (m : Helm) (a n v : Nat) :
    m.storeLocal a n v = { m with ram := (m.storeLocal a n v).ram, badRam := (m.storeLocal a n v).badRam } := by
  unfold Helm.storeLocal
  rw [Helm.setLocal_eq]

theorem Helm.ram_storeLocal_outside (hm : m.Good True) (hb : b < a ∨ a + n ≤ b) :
    smGet 0 (m.storeLocal a n v).ram b = smGet 0 m.ram b :=
  Helm.ram_setLocal_outside hm (by rwa [leBytes_length])

theorem Helm.ram_storeLocal_inside (hm : m.Good True) {i : Nat} (hi : i < n) :
    smGet 0 (m.storeLocal a n v).ram (a + i) = (leBytes n v).getD i 0 :=
  Helm.ram_setLocal_inside hm (by rwa [leBytes_length])

/-- The number stored reads back, cut to its bytes. -/
theorem Helm.local_storeLocal (hm : m.Good True) : (m.storeLocal a n v).local_ a n = v % 2 ^ (8 * n) :=
  leNat_map_range fun _ hi => Helm.ram_storeLocal_inside hm hi

/-- The code of the word stored to is good (R223). -/
theorem Helm.badRam_storeLocal (m : Helm) (a n v : Nat) : ¬ (m.storeLocal a n v).badRam.contains (a / 4) = true := by
  simp [Helm.storeLocal]

theorem Helm.local_lt (m : Helm) (a n : Nat) : m.local_ a n < 2 ^ (8 * n) := by
  have h := leNat_lt ((List.range n).map fun i => smGet 0 m.ram (a + i))
  rwa [List.length_map, List.length_range] at h

/-! ### The faults of a local access -/

theorem localFault_align (h : a % n ≠ 0) : localFault a n = some faultAlign := if_pos h

/-- An aligned access whose last byte is past the data begins past it (R176). -/
theorem localFault_range (hn : n ∣ 0x2000) (h : a % n = 0) (hr : 0x1FFF < a + n - 1) : localFault a n = some faultLocalRange := by
  have hge : 0x2000 ≤ a := by
    by_contra hlt
    obtain ⟨c, hc⟩ := hn
    obtain ⟨d, rfl⟩ := Nat.dvd_of_mod_eq_zero h
    have hd : d < c := Nat.lt_of_mul_lt_mul_left (a := n) (by omega)
    have := Nat.mul_le_mul_left n hd
    rw [Nat.mul_succ] at this
    omega
  rw [localFault, if_neg (by simp [h]), if_pos hge]

theorem localFault_none (h0 : 0 < n) (h : a % n = 0) (hr : a + n ≤ 0x2000) : localFault a n = none := by
  rw [localFault, if_neg (by simp [h]), if_neg (by omega)]

end

section

variable {s : State} {h : Nat} {u : Upset} {a : Nat}

/-- A double-bit error, new or standing. -/
theorem State.localRead_bad (hb : u = .double ∨ (s.helm h).badRam.contains (a / 4) = true) :
    ∃ t, s.localRead h u a = .error (faultLocalEcc, t) :=
  ⟨_, if_pos hb⟩

theorem State.localRead_sound (hb : ¬ (u = .double ∨ (s.helm h).badRam.contains (a / 4) = true)) (hu : u ≠ .single) :
    s.localRead h u a = .ok s :=
  (if_neg hb).trans (if_neg hu)

/-- A single-bit error is corrected and counted; the data is as it was. -/
theorem State.localRead_corrected (hs : s.Good True) (hb : ¬ (u = .double ∨ (s.helm h).badRam.contains (a / 4) = true))
    (hu : u = .single) : ∃ t, s.localRead h u a = .ok t ∧ t.helms = s.helms ∧ t.Good True :=
  ⟨(s.bump HM_ECC_CORR h).eccCorr 3 h, (if_neg hb).trans (if_pos hu), State.eccCorr_helms _ 3 h, hs.bump.eccCorr⟩

end

section

variable {s : State} {h : Fin 32} {u : Upset} {i : Instr} {op : HOp} {n : Nat} {ext ext' : Nat → Word}

/-! ### Loads -/

/-- Sign extension as the statements write it. -/
theorem ofInt_signExt {w v : Nat} (k : Nat) (hw : 0 < w) (hv : v < 2 ^ w) :
    BitVec.ofInt k (signExt w v) = (BitVec.ofNat w v).signExtend k := by
  have e : signExt w v = (BitVec.ofNat w v).toInt := by
    have h2 : 2 ^ w = 2 * 2 ^ (w - 1) := by rw [← Nat.pow_succ', Nat.succ_eq_add_one, Nat.sub_add_cancel hw]
    rw [signExt, BitVec.toInt_eq_toNat_cond, BitVec.toNat_ofNat, Nat.mod_eq_of_lt hv]
    by_cases h : v < 2 ^ (w - 1)
    · rw [if_pos h, if_pos (by omega)]
    · rw [if_neg h, if_neg (by omega)]
      push_cast
      rfl
  rw [e]
  rfl

/-- The offset of a local or far access is sign-extended. -/
theorem Helm.addr_eq (m : Helm) (x : Word) : m.addr x = m.reg (wA x) + (BitVec.ofNat 12 (wImm12 x)).signExtend 32 := by
  have hlt : wImm12 x < 2 ^ 12 := Nat.mod_lt _ (by decide)
  rw [Helm.addr, wSimm12, ofInt_signExt 32 (by decide) hlt]

/-- Halfwords and bytes zero-extended. -/
theorem zext_eq {w v : Nat} (hv : v < 2 ^ w) : zext v = (BitVec.ofNat w v).zeroExtend 32 := by
  apply BitVec.eq_of_toNat_eq
  simp [zext, Nat.mod_eq_of_lt hv]

/-- A load's outcomes (Table MSI-6), for the bytes' extension `ext` as the model has it and `ext'` as the statement has it. -/
theorem load_holds (hs : s.Good True) (hu : u ≠ .imemParity) (hi : exec i s = .next (s.loadStep h u op n ext))
    (hn : n ∣ 0x2000) (he : ∀ v, v < 2 ^ (8 * n) → ext v = ext' v) (hr : s.helmRuns h op 2 = true) {a : Nat}
    (ha : a = ((s.helm h).reg (wA (s.word_ h)) + (BitVec.ofNat 12 (wImm12 (s.word_ h))).signExtend 32).toNat) :
    let bad := u = .double ∨ (s.helm h).badRam.contains (a / 4) = true
    (a % n ≠ 0 → exec i s = .next ((s.helmCycles h 2).helmFault h 5)) ∧
    (a % n = 0 → 0x1FFF < a + n - 1 → exec i s = .next ((s.helmCycles h 2).helmFault h 4)) ∧
    (a % n = 0 → a + n ≤ 0x2000 → bad → ∃ s' : State, exec i s = .next (s'.helmFault h 3)) ∧
    (a % n = 0 → a + n ≤ 0x2000 → ¬bad → u ≠ .single → ∃ t, exec i s = .next t ∧
      AluDone s h 2 (ext' ((s.helm h).local_ a n)) (s.helm h).flags t) ∧
    (a % n = 0 → a + n ≤ 0x2000 → ¬bad → u = .single → ∃ t, exec i s = .next t ∧
      (t.helm h).reg (wD (s.word_ h)) = (if wD (s.word_ h) = 0 then 0 else ext' ((s.helm h).local_ a n))) := by
  rw [← Helm.addr_eq] at ha
  have hm := State.helm_helmCycles hs h 2
  have hg : (s.helmCycles h 2).Good True := hs.helmCycles
  have h0 : 0 < n := Nat.pos_of_dvd_of_pos hn (by decide)
  rw [hi, ← he _ ((s.helm h).local_lt a n)]
  refine ⟨fun hal => ?_, fun hal hrg => ?_, fun hal hrg hb => ?_, fun hal hrg hb hs1 => ?_, fun hal hrg hb hs1 => ?_⟩
  · exact congrArg _ (State.helmStep_fault hr hu rfl (by simp only [hm, Helm.addr_spent, ← ha, localFault_align hal]; rfl))
  · exact congrArg _ (State.helmStep_fault hr hu rfl (by simp only [hm, Helm.addr_spent, ← ha, localFault_range hn hal hrg]; rfl))
  · obtain ⟨t, ht⟩ := State.localRead_bad (s := s.helmCycles h 2) (h := h) (u := u) (a := a) (by rw [hm]; exact hb)
    exact ⟨t, congrArg _ (State.helmStep_fault hr hu rfl
      (by simp only [hm, Helm.addr_spent, ← ha, localFault_none h0 hal hrg, ht]; rfl))⟩
  · have ht := State.localRead_sound (s := s.helmCycles h 2) (h := h) (u := u) (a := a) (by rw [hm]; exact hb) hs1
    refine ⟨_, congrArg _ (State.helmStep_ok hr hu rfl ?_), aluDone_setReg hs h 2 _⟩
    simp only [hm, Helm.addr_spent, Helm.local_spent, ← ha, localFault_none h0 hal hrg, ht]
  · obtain ⟨t, ht, hh, htg⟩ := State.localRead_corrected (s := s.helmCycles h 2) (h := h) (u := u) (a := a) hg (by rw [hm]; exact hb) hs1
    refine ⟨_, congrArg _ (State.helmStep_ok hr hu rfl
      (by simp only [hm, Helm.addr_spent, Helm.local_spent, ← ha, localFault_none h0 hal hrg, ht]; rfl)), ?_⟩
    rw [State.helm_retire htg, Helm.reg_fallThrough, Helm.reg_setReg htg.helm]
    by_cases hd : wD (s.word_ h) = 0 <;> simp [hd]

/-! ### Stores -/

/-- A store's outcomes (Table MSI-6). -/
theorem store_holds (hs : s.Good True) (hu : u ≠ .imemParity) (hi : exec i s = .next (s.storeStep h u op n))
    (hn : n ∣ 0x2000) (hr : s.helmRuns h op 1 = true) {a : Nat}
    (ha : a = ((s.helm h).reg (wA (s.word_ h)) + (BitVec.ofNat 12 (wImm12 (s.word_ h))).signExtend 32).toNat) :
    (a % n ≠ 0 → exec i s = .next ((s.helmCycles h 1).helmFault h 5)) ∧
    (a % n = 0 → 0x1FFF < a + n - 1 → exec i s = .next ((s.helmCycles h 1).helmFault h 4)) ∧
    (a % n = 0 → a + n ≤ 0x2000 → ∃ t, exec i s = .next t ∧ OnlyHelm h s t ∧ SameMem s t ∧
      (∀ k, k < n → smGet 0 (t.helm h).ram (a + k) = ((s.helm h).reg (wD (s.word_ h))).extractLsb' (8 * k) 8) ∧
      (∀ b, b < a ∨ a + n ≤ b → smGet 0 (t.helm h).ram b = smGet 0 (s.helm h).ram b) ∧
      ¬ (t.helm h).badRam.contains (a / 4) = true ∧
      t.helm h = { ((s.helm h).spent 1).fallThrough with ram := (t.helm h).ram, badRam := (t.helm h).badRam }) := by
  rw [← Helm.addr_eq] at ha
  have hm := State.helm_helmCycles hs h 1
  have hg : (s.helmCycles h 1).Good True := hs.helmCycles
  have h0 : 0 < n := Nat.pos_of_dvd_of_pos hn (by decide)
  rw [hi]
  refine ⟨fun hal => ?_, fun hal hrg => ?_, fun hal hrg => ?_⟩
  · exact congrArg _ (State.helmStep_fault hr hu rfl (by simp only [hm, Helm.addr_spent, ← ha, localFault_align hal]; rfl))
  · exact congrArg _ (State.helmStep_fault hr hu rfl (by simp only [hm, Helm.addr_spent, ← ha, localFault_range hn hal hrg]; rfl))
  · have hmg : ((s.helm h).spent 1).Good True := hs.helm.spent
    have ho := ((OnlyHelm.refl h s).helmCycles hs 1).retire hg
      (m := ((s.helm h).spent 1).storeLocal a n ((s.helm h).reg (wD (s.word_ h))).toNat) hmg.storeLocal
    refine ⟨_, congrArg _ (State.helmStep_ok hr hu rfl (by
      simp only [hm, Helm.addr_spent, ← ha, localFault_none h0 hal hrg]; rfl)), ho, ho.sameMem, fun k hk => ?_, fun b hb => ?_, ?_, ?_⟩ <;>
      rw [State.helm_retire hg]
    · exact (Helm.ram_storeLocal_inside hmg hk).trans (leBytes_word _ n k hk)
    · exact Helm.ram_storeLocal_outside hmg hb
    · exact Helm.badRam_storeLocal _ a n ((s.helm h).reg (wD (s.word_ h))).toNat
    · rw [Helm.storeLocal_eq]
      rfl

/-! ### TALLY -/

theorem binOf_pos {x : Nat} (hx : 0 < x) : binOf x = 1 + Nat.log2 (x ^ 8) := if_neg (Nat.ne_of_gt hx)

/-- bin(x) is one past the largest power of two at most x^8 (R232). -/
theorem binOf_spec {x : Nat} (hx : 0 < x) : binOf x ≠ 0 ∧ 2 ^ (binOf x - 1) ≤ x ^ 8 ∧ x ^ 8 < 2 ^ binOf x := by
  have h8 : x ^ 8 ≠ 0 := (Nat.pow_pos hx).ne'
  rw [binOf_pos hx, Nat.add_sub_cancel_left, Nat.add_comm 1]
  exact ⟨Nat.succ_ne_zero _, Nat.log2_self_le h8, Nat.lt_log2_self⟩

theorem binOf_le (x : Word) : binOf x.toNat ≤ 256 := by
  rcases Nat.eq_zero_or_pos x.toNat with h0 | h0
  · simp [h0, binOf]
  · have hlt : x.toNat ^ 8 < 2 ^ 256 := by
      calc x.toNat ^ 8 < (2 ^ 32) ^ 8 := Nat.pow_lt_pow_left x.isLt (by decide)
        _ = 2 ^ 256 := by rw [← Nat.pow_mul]
    have := (Nat.log2_lt (Nat.pow_pos h0).ne').mpr hlt
    rw [binOf_pos h0]
    omega

/-- The Helm after TALLY's count at address `a`, the counter having read `old`, and with bin `k` (R232). -/
def Helm.tallied (m : Helm) (d a old k : Nat) : Helm :=
  (({ m with c := decide (0xFFFFFFFF ≤ old) }).storeLocal a 4 (min 0xFFFFFFFF (old + 1))).setReg d (BitVec.ofNat 32 k)

section

variable {m : Helm} {d a old k : Nat}

theorem Helm.Good.tallied (hm : m.Good True) : (m.tallied d a old k).Good True :=
  .setReg (.storeLocal hm.update)

/-- The result register is apart from local data. -/
theorem Helm.ram_tallied (m : Helm) (d a old k : Nat) : (m.tallied d a old k).ram =
    (({ m with c := decide (0xFFFFFFFF ≤ old) } : Helm).storeLocal a 4 (min 0xFFFFFFFF (old + 1))).ram := by
  rw [Helm.tallied, Helm.setReg_eq]

theorem Helm.local_tallied (hm : m.Good True) : (m.tallied d a old k).local_ a 4 = min (old + 1) 0xFFFFFFFF := by
  have h := Helm.local_storeLocal (m := { m with c := decide (0xFFFFFFFF ≤ old) }) (a := a) (n := 4)
    (v := min 0xFFFFFFFF (old + 1)) hm.update
  rw [Helm.local_, Helm.ram_tallied]
  exact h.trans (by omega)

theorem Helm.ram_tallied_outside (hm : m.Good True) {b : Nat} (hb : b < a ∨ a + 4 ≤ b) :
    smGet 0 (m.tallied d a old k).ram b = smGet 0 m.ram b := by
  rw [Helm.ram_tallied]
  exact Helm.ram_storeLocal_outside (m := { m with c := decide (0xFFFFFFFF ≤ old) }) hm.update hb

theorem Helm.flags_tallied (m : Helm) (d a k : Nat) (ho : old < 2 ^ 32) :
    (m.tallied d a old k).flags = (m.z, m.n, decide (old = 0xFFFFFFFF), m.v) := by
  rw [Helm.tallied, Helm.flags_setReg, Helm.storeLocal_eq]
  have e : decide (0xFFFFFFFF ≤ old) = decide (old = 0xFFFFFFFF) := decide_eq_decide.mpr (by omega)
  exact congrArg (fun c => (m.z, m.n, c, m.v)) e

theorem Helm.reg_tallied (hm : m.Good True) (r : Nat) :
    (m.tallied d a old k).reg r = if r = d ∧ r ≠ 0 then BitVec.ofNat 32 k else m.reg r := by
  rw [Helm.tallied, Helm.reg_setReg (.storeLocal hm.update), Helm.storeLocal_eq]
  rfl

end

/-- TALLY's outcomes. -/
theorem tally_holds (hs : s.Good True) (hu : u = .none) (hr : s.helmRuns h .tally 3 = true) {k a : Nat}
    (hk : k = binOf (s.srcA h).toNat) (ha : a = ((s.srcB h).toNat + 4 * k) % 2 ^ 32) :
    let old := (s.helm h).local_ a 4
    (a % 4 ≠ 0 → exec (.tally h u) s = .next ((s.helmCycles h 3).helmFault h 5)) ∧
    (a % 4 = 0 → 0x1FFF < a + 3 → exec (.tally h u) s = .next ((s.helmCycles h 3).helmFault h 4)) ∧
    (a % 4 = 0 → a + 4 ≤ 0x2000 → (s.helm h).badRam.contains (a / 4) = false → ∃ t, exec (.tally h u) s = .next t ∧
      OnlyHelm h s t ∧ SameMem s t ∧ (t.helm h).local_ a 4 = min (old + 1) 0xFFFFFFFF ∧
      (∀ b, b < a ∨ a + 4 ≤ b → smGet 0 (t.helm h).ram b = smGet 0 (s.helm h).ram b) ∧
      (t.helm h).flags = ((s.helm h).z, (s.helm h).n, decide (old = 0xFFFFFFFF), (s.helm h).v) ∧
      (∀ r, (t.helm h).reg r = if r = wD (s.word_ h) ∧ r ≠ 0 then BitVec.ofNat 32 k else (s.helm h).reg r)) := by
  have hm := State.helm_helmCycles hs h 3
  have hg : (s.helmCycles h 3).Good True := hs.helmCycles
  have hmg : ((s.helm h).spent 3).Good True := hs.helm.spent
  have hu' : u ≠ .imemParity := by simp [hu]
  simp only [State.srcA, State.srcB] at hk ha
  refine ⟨fun hal => ?_, fun hal hrg => ?_, fun hal hrg hb => ?_⟩
  · exact congrArg Host.Outcome.next (State.helmStep_fault hr hu' rfl (by
      simp only [hm, Helm.reg_spent, ← hk, ← ha, localFault_align hal]; rfl))
  · exact congrArg Host.Outcome.next (State.helmStep_fault hr hu' rfl (by
      simp only [hm, Helm.reg_spent, ← hk, ← ha, localFault_range (by decide : 4 ∣ 0x2000) hal hrg]; rfl))
  · have ht := State.localRead_sound (s := s.helmCycles h 3) (h := h) (u := u) (a := a)
      (by rw [hm]; simpa [hu, Helm.spent] using hb) (by simp [hu])
    have ho := ((OnlyHelm.refl h s).helmCycles hs 3).retire hg
      (m := ((s.helm h).spent 3).tallied (wD (s.word_ h)) a ((s.helm h).local_ a 4) k) hmg.tallied
    refine ⟨_, congrArg Host.Outcome.next (State.helmStep_ok hr hu' rfl (by
      simp only [hm, Helm.reg_spent, ← hk, ← ha, localFault_none (by decide : 0 < 4) hal hrg, ht]; rfl)),
      ho, ho.sameMem, ?_, fun b hb => ?_, ?_, fun r => ?_⟩ <;> rw [State.helm_retire hg]
    · exact Helm.local_tallied hmg
    · exact Helm.ram_tallied_outside hmg hb
    · exact Helm.flags_tallied _ _ a k (Helm.local_lt _ a 4)
    · exact Helm.reg_tallied hmg r

end

/-- Settles O10: each load, store and count of TALLY has its outcomes above. -/
theorem helmLocalLoadsStoresAndTally : Obligations.HelmLocalLoadsStoresAndTally := by
  unfold Obligations.HelmLocalLoadsStoresAndTally
  refine ⟨fun s h u hwf hu => ?_, ⟨rfl, fun x => binOf_spec, binOf_le⟩, fun s h u hwf hu hr => ?_⟩
  · have hs := (State.wf_iff s).mp hwf
    refine ⟨fun hr => ?_, fun hr => ?_, fun hr => ?_, fun hr => ?_, fun hr => ?_, fun hr => ?_, fun hr => ?_, fun hr => ?_⟩
    · exact load_holds hs hu rfl (by decide) (fun _ _ => rfl) hr rfl
    · exact load_holds hs hu rfl (by decide) (fun _ => zext_eq) hr rfl
    · exact load_holds hs hu rfl (by decide) (fun _ => ofInt_signExt 32 (by decide)) hr rfl
    · exact load_holds hs hu rfl (by decide) (fun _ => zext_eq) hr rfl
    · exact load_holds hs hu rfl (by decide) (fun _ => ofInt_signExt 32 (by decide)) hr rfl
    · exact store_holds hs hu rfl (by decide) hr rfl
    · exact store_holds hs hu rfl (by decide) hr rfl
    · exact store_holds hs hu rfl (by decide) hr rfl
  · exact tally_holds ((State.wf_iff s).mp hwf) hu hr rfl rfl

end Sys2Proof.Machine

end

section
/-! # Far memory

The translation of a far address, the posted stores of a Helm and the return of a far load (R180 to R183, R224). -/

namespace Sys2Proof.Machine

open Reg

set_option Elab.async false

section

variable {s t : State} {a c n : Nat} {data : List Byte}

/-! ### Memory -/

theorem SameMem.of_eq (hm : t.mem = s.mem) (hr : t.regs = s.regs) : SameMem s t :=
  State.byteAt_congr hm (by simp only [State.cellarSize, State.rd, hr])

theorem State.setBytes_eq (s : State) (a : Nat) (data : List Byte) : s.setBytes a data = { s with mem := (s.setBytes a data).mem } := by
  induction data generalizing s a with
  | nil => rfl
  | cons b data ih =>
    rw [State.setBytes, ih, State.setByte_eq]

theorem SameMem.numAt (h : SameMem s t) (a n : Nat) : t.numAt a n = s.numAt a n :=
  congrArg leNat (List.map_congr_left fun _ _ => h _)

/-! ### A write through the matrix -/

theorem State.farWrite_eq (s : State) (a : Nat) (v : Word) :
    s.farWrite a v = { s with mem := (s.setBytes a (leBytes 4 v.toNat)).mem, cnt := (s.farWrite a v).cnt } := by
  rw [State.farWrite, State.setNum, State.setBytes_eq]
  rfl

@[simp] theorem State.farWrite_helms (s : State) (a : Nat) (v : Word) : (s.farWrite a v).helms = s.helms := by
  rw [State.farWrite_eq]

@[simp] theorem State.farWrite_regs (s : State) (a : Nat) (v : Word) : (s.farWrite a v).regs = s.regs := by
  rw [State.farWrite_eq]

theorem State.farWrite_sameMem (s : State) (a : Nat) (v : Word) : SameMem (s.setBytes a (leBytes 4 v.toNat)) (s.farWrite a v) :=
  .of_eq rfl rfl

theorem State.byteAt_farWrite_outside (h : s.mem.wf = true) {a b : Nat} (hb : b < a ∨ a + 4 ≤ b) (v : Word) :
    (s.farWrite a v).byteAt b = s.byteAt b :=
  (s.farWrite_sameMem a v b).trans (byteAt_setBytes_outside _ h (by rwa [leBytes_length]))

theorem State.byteAt_farWrite_inside (h : s.mem.wf = true) {a k : Nat} (hk : k < 4) (hm : s.inMemory (a + k) = true) (v : Word) :
    (s.farWrite a v).byteAt (a + k) = v.extractLsb' (8 * k) 8 :=
  ((s.farWrite_sameMem a v _).trans (byteAt_setBytes_inside h (by rwa [leBytes_length]) hm)).trans (leBytes_word v 4 k hk)

/-- The word written reads back. -/
theorem State.numAt_farWrite (h : s.mem.wf = true) {a : Nat} (hm : ∀ k, k < 4 → s.inMemory (a + k) = true) (v : Word) :
    (s.farWrite a v).numAt a 4 = v.toNat := by
  refine (leNat_map_range (n := 4) (v := v.toNat) fun k hk => ?_).trans (Nat.mod_eq_of_lt v.isLt)
  exact (s.farWrite_sameMem a v _).trans (byteAt_setBytes_inside h (by rwa [leBytes_length]) (hm k hk))

theorem State.inMemory_larder {a k : Nat} (s : State) (h3 : inLarder (a + 3) = true) (hk : k < 4) : s.inMemory (a + k) = true := by
  have h3 := of_decide_eq_true h3
  have : inLarder (a + k) = true := decide_eq_true (by omega)
  simp [State.inMemory, this]

/-- What a Helm does by itself leaves memory. -/
theorem State.retire_sameMem (t : State) (h : Nat) (m : Helm) : SameMem t ((t.setHelm h m).helmNext h) :=
  .of_eq (by simp) (by simp)

/-! ### Translation -/

/-- A translated access leaves only the map cache and the counters changed. -/
theorem State.translate_frame {swa : Nat} {write : Bool} (e : s.translate n swa write = (.ok a, t)) :
    t.mem = s.mem ∧ t.regs = s.regs ∧ t.helms = s.helms := by
  unfold State.translate at e
  split at e
  · dsimp only at e
    split at e
    · cases e
    · cases e
      exact ⟨rfl, rfl, rfl⟩
  · dsimp only at e
    split at e
    · cases e
    · cases e
      exact ⟨rfl, rfl, rfl⟩

theorem State.farTranslate_ok {h : Nat} {x : Word} {write : Bool}
    (e : s.translate (s.helmOwner h) ((s.helm h).addr x).toNat write = (.ok a, t)) : s.farTranslate h x write = (.ok a, t) := by
  simp only [State.farTranslate, e]

theorem State.Good.translated {swa : Nat} {write : Bool} (hs : s.Good True) (e : s.translate n swa write = (.ok a, t)) :
    t.Good True := by
  have h := hs.translate (n := n) (swa := swa) (write := write)
  rwa [e] at h

end

section

variable {s : State} {h : Fin 32} {u : Upset}

/-! ### Issue of FLD and FADD, and posted stores -/

/-- A load or FADD issued: the Helm stalls on the translated address with nothing else of it changed (R180). -/
theorem farIssue_holds {op : HOp} {i : Instr} {kind : Nat} {write : Bool} (hs : s.Good True) (hu : u ≠ .imemParity)
    (hi : exec i s = .next (s.farIssue h u op kind)) (hw : write = decide (kind = 1)) (hr : s.helmRuns h op 1 = true) {swa : Nat}
    (ha : swa = ((s.helm h).reg (wA (s.word_ h)) + (BitVec.ofNat 12 (wImm12 (s.word_ h))).signExtend 32).toNat) :
    (swa % 4 ≠ 0 → exec i s = .next ((s.helmCycles h 1).helmFault h 5)) ∧
    (∀ a s', swa % 4 = 0 → (s.helmCycles h 1).translate (s.helmOwner h) swa write = (.ok a, s') → (kind = 1 → a < 0x800000) →
      ∃ t, exec i s = .next t ∧ (∃ most, (t.helm h).stall =
        some { kind := kind, dpa := a, d := wD (s.word_ h), val := (s.helm h).reg (wD (s.word_ h)), most := most }) ∧
      (t.helm h).pc = (s.helm h).pc ∧ (∀ r, (t.helm h).reg r = (s.helm h).reg r) ∧ SameMem s t) := by
  subst hw
  rw [← Helm.addr_eq] at ha
  have hm := State.helm_helmCycles hs h 1
  have hg : (s.helmCycles h 1).Good True := hs.helmCycles
  rw [hi]
  refine ⟨fun hal => ?_, fun a s' hal htr hlard => ?_⟩
  · exact congrArg Host.Outcome.next (State.helmStep_fault hr hu rfl (by
      simp only [hm, Helm.addr_spent, ← ha, if_pos hal]; rfl))
  · have hft := State.farTranslate_ok (s := s.helmCycles h 1) (h := h) (x := s.word_ h) (write := decide (kind = 1)) (a := a) (t := s')
      (by rw [hm, Helm.addr_spent, ← ha]; exact htr)
    have hg' := hg.translated htr
    obtain ⟨hmem, hregs, hhelms⟩ := State.translate_frame htr
    have hh : s'.helm h = (s.helm h).spent 1 := (State.helm_congr hhelms h).trans hm
    have hl : ¬ (kind = 1 ∧ (!inLarder a) = true) := fun ⟨hk, hn⟩ => by simp [inLarder, hlard hk] at hn
    refine ⟨_, congrArg Host.Outcome.next (State.helmStep_ok hr hu rfl (by
      simp only [hm, Helm.addr_spent, ← ha, hal, ne_eq, not_true, if_false, hft, if_neg hl]; rfl)), ?_⟩
    rw [State.helm_setHelm_same (hg'.helms trivial)]
    exact ⟨⟨_, rfl⟩, rfl, fun _ => rfl, .of_eq (by simp [hmem]) (by simp [hregs])⟩

/-- A FADD translated into the Cellar faults FAR_MAP (R224). -/
theorem fadd_cellar (hs : s.Good True) (hu : u ≠ .imemParity) (hr : s.helmRuns h .fadd 1 = true) {swa a : Nat} {s' : State}
    (ha : swa = ((s.helm h).reg (wA (s.word_ h)) + (BitVec.ofNat 12 (wImm12 (s.word_ h))).signExtend 32).toNat)
    (hal : swa % 4 = 0) (htr : (s.helmCycles h 1).translate (s.helmOwner h) swa true = (.ok a, s')) (hc : 0x800000 ≤ a) :
    ∃ t : State, exec (.fadd h u) s = .next (t.helmFault h 9) := by
  rw [← Helm.addr_eq] at ha
  have hm := State.helm_helmCycles hs h 1
  have hft := State.farTranslate_ok (s := s.helmCycles h 1) (h := h) (x := s.word_ h) (write := true) (a := a) (t := s')
    (by rw [hm, Helm.addr_spent, ← ha]; exact htr)
  have hl : (!inLarder a) = true := by simp [inLarder, hc]
  exact ⟨_, congrArg Host.Outcome.next (State.helmStep_fault hr hu rfl (by
    simp only [hm, Helm.addr_spent, ← ha, hal, ne_eq, not_true, if_false, decide_true, hft, hl, and_self, if_true]; rfl))⟩

/-- FST behind fewer than four posted stores (R180). -/
theorem fst_holds {w : Fin 65} (hs : s.Good True) (hu : u ≠ .imemParity) (hr : s.helmRuns h .fst 1 = true)
    (hp : (s.helm h).posted.length < 4) {swa : Nat}
    (ha : swa = ((s.helm h).reg (wA (s.word_ h)) + (BitVec.ofNat 12 (wImm12 (s.word_ h))).signExtend 32).toNat) :
    (swa % 4 ≠ 0 → exec (.fst h u w) s = .next ((s.helmCycles h 1).helmFault h 5)) ∧
    (∀ a s', swa % 4 = 0 → (s.helmCycles h 1).translate (s.helmOwner h) swa true = (.ok a, s') →
      ∃ t, exec (.fst h u w) s = .next t ∧
        (∃ f, (t.helm h).posted = (s.helm h).posted ++ [f] ∧ f.dpa = a ∧ f.val = (s.helm h).reg (wD (s.word_ h))) ∧
        (∀ r, (t.helm h).reg r = (s.helm h).reg r) ∧ (t.helm h).flags = (s.helm h).flags ∧ SameMem s t) := by
  rw [← Helm.addr_eq] at ha
  have hm := State.helm_helmCycles hs h 1
  have hg : (s.helmCycles h 1).Good True := hs.helmCycles
  refine ⟨fun hal => ?_, fun a s' hal htr => ?_⟩
  · exact congrArg Host.Outcome.next (State.helmStep_fault hr hu (if_pos hp) (by
      simp only [hm, Helm.addr_spent, ← ha, if_pos hal, faultAlign]))
  · have hft := State.farTranslate_ok (s := s.helmCycles h 1) (h := h) (x := s.word_ h) (write := true) (a := a) (t := s')
      (by rw [hm, Helm.addr_spent, ← ha]; exact htr)
    have hg' := hg.translated htr
    obtain ⟨hmem, hregs, hhelms⟩ := State.translate_frame htr
    have hh : s'.helm h = (s.helm h).spent 1 := (State.helm_congr hhelms h).trans hm
    have hp' : ((s.helm h).spent 1).posted.length < 4 := hp
    refine ⟨_, congrArg Host.Outcome.next (State.helmStep_ok hr hu (if_pos hp) (by
      simp only [hm, Helm.addr_spent, ← ha, hal, ne_eq, not_true, if_false, hft, hh, if_pos hp']; rfl)), ?_⟩
    rw [State.helm_retire hg']
    exact ⟨⟨_, rfl, rfl, rfl⟩, fun _ => rfl, rfl, .of_eq (by simp [hmem]) (by simp [hregs])⟩

/-- With nothing posted there is nothing to drain. -/
theorem State.farDrainAll_nil {i : Nat} (hp : (s.helm i).posted = []) : s.farDrainAll i = s := by
  rw [State.farDrainAll, hp]
  rfl

theorem fsync_holds {w : Fin 65} (hs : s.Good True) (hu : u ≠ .imemParity) (hr : s.helmRuns h .fsync 1 = true)
    (hp : (s.helm h).posted = []) : ∃ t, exec (.fsync h u w) s = .next t ∧
      t.helm h = ((s.helm h).spent 1).fallThrough ∧ OnlyHelm h s t ∧ SameMem s t := by
  have hm := State.helm_helmCycles hs h 1
  have hg : (s.helmCycles h 1).Good True := hs.helmCycles
  have hd := State.farDrainAll_nil (s := s.helmCycles h 1) (i := h) (by rw [hm]; exact hp)
  have ho := ((OnlyHelm.refl h s).helmCycles hs 1).helmNext hg
  refine ⟨_, congrArg Host.Outcome.next (State.helmStep_ok hr hu (if_pos hp) (congrArg (fun t => Except.ok (t.helmNext h)) hd)), ?_,
    ho, ho.sameMem⟩
  rw [State.helmNext, State.helm_setHelm_same (hg.helms trivial), hm]

/-! ### Completions -/

/-- The oldest posted store is performed (R183). -/
theorem farStoreComplete_holds (hs : s.Good True) {f : FarOp} {fs : List FarOp} (hp : (s.helm h).posted = f :: fs) :
    ∃ t, exec (.farStoreComplete h) s = .next t ∧ t.helm h = { s.helm h with posted := fs } ∧
      (f.dpa % 4 = 0 → (∀ k, k < 4 → inLarder (f.dpa + k) = true ∨ s.inCellar (f.dpa + k) = true) →
        ∀ k, k < 4 → t.byteAt (f.dpa + k) = f.val.extractLsb' (8 * k) 8) ∧
      (∀ b, b < f.dpa ∨ f.dpa + 4 ≤ b → t.byteAt b = s.byteAt b) ∧ SameRegs [] s t := by
  have e : s.farDrain h = (s.setHelm h { s.helm h with posted := fs }).farWrite f.dpa f.val := by
    simp only [State.farDrain, hp]
  have hw : (s.setHelm h { s.helm h with posted := fs }).mem.wf = true := hs.mem
  refine ⟨_, rfl, ?_, fun _ hin k hk => ?_, fun b hb => ?_, .of_eq ?_⟩ <;> rw [e]
  · exact (State.helm_congr (State.farWrite_helms ..) h).trans (State.helm_setHelm_same (hs.helms trivial) h _)
  · exact State.byteAt_farWrite_inside hw hk ((Bool.or_eq_true ..).mpr (hin k hk)) f.val
  · exact State.byteAt_farWrite_outside hw hb f.val
  · exact State.farWrite_regs ..

/-- The machine once the data of a far load or FADD of a sound word is there, `k` cycles later, before the Helm goes on. -/
def State.farData (s : State) (h k : Nat) (f : FarOp) : State :=
  let t := (s.helmCycles h k).count (194 + memOf f.dpa)
  if f.kind = 1 then t.farWrite f.dpa (BitVec.ofNat 32 (s.numAt f.dpa 4) + f.val) else t

section

variable {k : Nat} {f : FarOp}

theorem State.Good.farData (hs : s.Good True) : (s.farData h k f).Good True := .either hs.helmCycles.count.farWrite hs.helmCycles.count

theorem State.farData_helms (s : State) (h k : Nat) (f : FarOp) : (s.farData h k f).helms = (s.helmCycles h k).helms := by
  unfold State.farData
  dsimp only
  split
  · exact State.farWrite_helms ..
  · rfl

theorem State.farData_regs (s : State) (h k : Nat) (f : FarOp) : (s.farData h k f).regs = s.regs := by
  unfold State.farData
  dsimp only
  split
  · exact State.farWrite_regs ..
  · rfl

theorem State.farData_load (hk : f.kind ≠ 1) : SameMem s (s.farData h k f) := by
  rw [State.farData, if_neg hk]
  exact .of_eq (by simp) (by simp)

theorem State.farData_fadd (hk : f.kind = 1) : s.farData h k f =
    ((s.helmCycles h k).count (194 + memOf f.dpa)).farWrite f.dpa (BitVec.ofNat 32 (s.numAt f.dpa 4) + f.val) := if_pos hk

/-- FADD's sum replaces the word; a load leaves it (R224). -/
theorem State.numAt_farData (hs : s.Good True) (h3 : inLarder (f.dpa + 3) = true) :
    (s.farData h k f).numAt f.dpa 4 = if f.kind = 1 then (s.numAt f.dpa 4 + f.val.toNat) % 2 ^ 32 else s.numAt f.dpa 4 := by
  by_cases hk : f.kind = 1
  · rw [State.farData_fadd hk, State.numAt_farWrite hs.helmCycles.count.mem fun i hi => State.inMemory_larder _ h3 hi, BitVec.toNat_add,
      BitVec.toNat_ofNat, Nat.mod_add_mod, if_pos hk]
  · rw [(State.farData_load hk).numAt, if_neg hk]

theorem State.byteAt_farData (hs : s.Good True) {b : Nat} (hb : b < f.dpa ∨ f.dpa + 4 ≤ b) :
    (s.farData h k f).byteAt b = s.byteAt b := by
  by_cases hk : f.kind = 1
  · have hm : SameMem s ((s.helmCycles h k).count (194 + memOf f.dpa)) := .of_eq (by simp) (by simp)
    rw [State.farData_fadd hk, State.byteAt_farWrite_outside hs.helmCycles.count.mem hb, hm b]
  · exact State.farData_load hk b

end

/-- The data of a sound word returns with nothing posted (R180, R182). -/
theorem exec_farLoadComplete {f : FarOp} {r : Run} {k : Nat} (hs : s.Good True) (hst : (s.helm h).stall = some f)
    (hrun : (s.helm h).run = some r) (hp : (s.helm h).posted = []) (hu : u = .none) (hk : k ≤ f.most) (hlim : r.cycles + k ≤ r.limit)
    (hb : s.badWord f.dpa = false) :
    exec (.farLoadComplete h u k) s = .next (((s.farData h k f).setHelm h
      (({ (s.farData h k f).helm h with stall := none } : Helm).setReg f.d (BitVec.ofNat 32 (s.numAt f.dpa 4)))).helmNext h) := by
  have hd := State.farDrainAll_nil (s := s.helmCycles h k) (i := h) (by rw [State.helm_helmCycles hs]; exact hp)
  have hb' : ((s.helmCycles h k).count (194 + memOf f.dpa)).badWord f.dpa = false := hb
  change execFarLoadComplete h u k s = _
  simp only [execFarLoadComplete, hst, hrun, Nat.min_eq_left hk, if_neg (Nat.not_lt.mpr hlim), hd, hu, reduceCtorEq, false_and, if_false,
    hb', Bool.false_and, Bool.false_eq_true]
  rfl

theorem farLoadComplete_holds {f : FarOp} {r : Run} {k : Nat} (hs : s.Good True) (hst : (s.helm h).stall = some f)
    (hrun : (s.helm h).run = some r) (hp : (s.helm h).posted = []) (hu : u = .none) (hk : k ≤ f.most) (hlim : r.cycles + k ≤ r.limit)
    (hb : s.badWord f.dpa = false) (h3 : inLarder (f.dpa + 3) = true) :
    ∃ t, exec (.farLoadComplete h u k) s = .next t ∧ (t.helm h).stall = none ∧
      (∀ d, (t.helm h).reg d = if d = f.d ∧ d ≠ 0 then BitVec.ofNat 32 (s.numAt f.dpa 4) else (s.helm h).reg d) ∧
      (t.numAt f.dpa 4 = if f.kind = 1 then (s.numAt f.dpa 4 + f.val.toNat) % 2 ^ 32 else s.numAt f.dpa 4) ∧
      (∀ b, b < f.dpa ∨ f.dpa + 4 ≤ b → t.byteAt b = s.byteAt b) ∧ SameRegs [] s t := by
  have hg : (s.farData h k f).Good True := hs.farData
  have hh : (s.farData h k f).helm h = (s.helm h).spent k :=
    (State.helm_congr (State.farData_helms s h k f) h).trans (State.helm_helmCycles hs h k)
  refine ⟨_, exec_farLoadComplete hs hst hrun hp hu hk hlim hb, ?_, fun d => ?_,
    (SameMem.numAt (State.retire_sameMem _ _ _) f.dpa 4).trans (State.numAt_farData hs h3),
    fun b hb => (State.retire_sameMem _ _ _ b).trans (State.byteAt_farData hs hb), .of_eq (State.farData_regs s h k f)⟩ <;> rw [State.helm_retire hg]
  · rw [Helm.setReg_eq]
    rfl
  · rw [Helm.reg_fallThrough, Helm.reg_setReg hg.helm.update, hh]
    rfl

end

/-- Settles O11: issue, posting and completion have their lemmas above. -/
theorem farAccessesStallPostAndDrain : Obligations.FarAccessesStallPostAndDrain := by
  unfold Obligations.FarAccessesStallPostAndDrain
  intro s h u hwf hu
  have hs := (State.wf_iff s).mp hwf
  refine ⟨fun hr => ?_, fun hr => ?_, fun hr a s' hal htr hc => ?_, fun w hr hp => ?_, fun w hr hp => ?_, fun f fs hp => ?_,
    fun f r k hst hrun hp hn hk hlim hb _ h3 _ => ?_⟩
  · exact farIssue_holds (kind := 0) (write := false) hs hu rfl rfl hr rfl
  · exact farIssue_holds (kind := 1) (write := true) hs hu rfl rfl hr rfl
  · exact fadd_cellar hs hu hr rfl hal htr hc
  · exact fst_holds hs hu hr hp rfl
  · exact fsync_holds hs hu hr hp
  · exact farStoreComplete_holds hs hp
  · exact farLoadComplete_holds hs hst hrun hp hn hk hlim hb h3

end Sys2Proof.Machine

end

section
/-! # Faults of a Helm

What the shared fault operation leaves of a running program that has no port, no defect declared and no UNBIND waiting, and
the faults of reserved words and of the watchdog (R197, R198, R212 to R214). -/

namespace Sys2Proof.Machine

open Reg

set_option Elab.async false

section

variable {s t : State} {h i : Nat} {keys : List Nat} {m : Helm}

theorem srcReserved_helmSrc (hh : h < 32) : srcReserved (helmSrc h) = false := by
  rw [srcReserved, helmSrc, decide_eq_false_iff_not]
  omega

theorem Held.setHelm (hs : Held keys s t) (hm : m.Good True) : Held keys s (t.setHelm i m) :=
  hs.step (hs.good.setHelm hm) rfl rfl

/-! ### A program with no port and no defect declared -/

theorem Helm.portList_nil (hp : m.ports = []) : m.portList = [] := by
  rw [Helm.portList, List.filterMap_eq_nil_iff]
  intro k _
  rw [Helm.port?, hp]
  rfl

theorem State.rewindPorts_nil (hp : (s.helm h).ports = []) : s.rewindPorts h = s := by
  rw [State.rewindPorts, Helm.portList_nil hp]
  rfl

theorem State.dropTxWrites_nil (hp : (s.helm h).ports = []) : s.dropTxWrites h = s := by
  rw [State.dropTxWrites, Helm.portList_nil hp]
  rfl

theorem State.clearProgDefects_nil (hd : (s.helm h).progDef = []) :
    s.clearProgDefects h = s.setHelm h { s.helm h with progDef := [] } := by
  simp only [State.clearProgDefects, hd, List.foldl_nil]

theorem State.dependents_nil (hp : (s.helm h).ports = []) : s.dependents h = [] := by
  simp [State.dependents, Helm.portList_nil hp]

/-- The Helm with no defect declared. -/
def Helm.defectFree (m : Helm) : Helm := { m with progDef := [] }

/-- What a fault discards of such a program (R261). -/
def Helm.discarded (m : Helm) : Helm := { m.defectFree with queue := [], ovf := false, timers := [], bindTag := none }

/-- What a fault makes of the Helm of such a program. -/
def Helm.faulted (m : Helm) : Helm := { m.discarded with ps := .faulted }

theorem Helm.Good.defectFree (hm : m.Good True) : m.defectFree.Good True := hm.update

theorem Helm.Good.discarded (hm : m.Good True) : m.discarded.Good True := { hm.defectFree with timers := .nil }

theorem Helm.Good.faulted (hm : m.Good True) : m.faulted.Good True := hm.discarded.update

theorem State.setPs_changes {p : PState} (hp : (s.helm h).ps ≠ p) :
    s.setPs h p = (s.setHelm h { s.helm h with ps := p }).fireFree (helmSrc h) := if_neg hp

theorem Held.refloor (hs : Held keys s t) (hk : GL_FLOOR_REQUIRED.key 0 0 ∈ keys) : Held keys s t.refloor := hs.wrKey hk

/-- The program of Helm `h` moves to FAULTED from another handler than START's (R262). -/
theorem toFaulted_plain (hs : s.Good True) (hh : h < 32) {cause kind : Nat} (hp : (s.helm h).ports = [])
    (hd : (s.helm h).progDef = []) (hw : (s.helm h).stopWait = false) (hps : (s.helm h).ps ≠ .faulted) (hk : kind ≠ 0) :
    Held [GL_FLOOR_REQUIRED.key 0 0] s (s.toFaulted h cause kind) ∧ (s.toFaulted h cause kind).helm h = (s.helm h).faulted := by
  have h0 := hs.setHelm (k := h) (hs.helm (k := h)).defectFree
  have h1 := h0.setHelm (k := h) (hs.helm (k := h)).discarded
  have e0 := State.helm_setHelm_same (hs.helms trivial) h (s.helm h).defectFree
  have e1 := State.helm_setHelm_same (h0.helms trivial) h (s.helm h).discarded
  have hdrop : (s.clearProgDefects h).dropTxWrites h = s.setHelm h (s.helm h).defectFree := by
    rw [State.clearProgDefects_nil hd]
    exact State.dropTxWrites_nil (by rw [← Helm.defectFree, e0]; exact hp)
  have eps : ((s.setHelm h (s.helm h).defectFree).setHelm h (s.helm h).discarded).setPs h .faulted =
      (((s.setHelm h (s.helm h).defectFree).setHelm h (s.helm h).discarded).setHelm h (s.helm h).faulted).fireFree (helmSrc h) := by
    rw [State.setPs_changes (by rw [e1]; exact hps), e1]
    rfl
  have ef : (((s.setHelm h (s.helm h).defectFree).setHelm h (s.helm h).discarded).setPs h .faulted).refloor.helm h =
      (s.helm h).faulted := by
    rw [eps]
    exact (State.helm_congr (State.fireFree_helms ..) h).trans (State.helm_setHelm_same (h1.helms trivial) h _)
  have et : s.toFaulted h cause kind =
      (((s.setHelm h (s.helm h).defectFree).setHelm h (s.helm h).discarded).setPs h .faulted).refloor := by
    simp only [State.toFaulted, State.dependents_nil hp, hdrop, if_neg hk, List.foldl_nil, e0]
    exact if_neg (by rw [← Helm.discarded, ef]; simp [Helm.faulted, Helm.discarded, Helm.defectFree, hw])
  rw [et]
  refine ⟨.refloor ?_ (List.mem_cons_self ..), ef⟩
  rw [eps]
  exact ((((Held.refl hs).setHelm hs.helm.defectFree).setHelm hs.helm.discarded).setHelm hs.helm.faulted).fireFree
    (srcReserved_helmSrc hh)

/-! ### What a fault records -/

/-- The registers that a fault writes beside HM_FAULT. -/
def faultKeys (h : Nat) : List Nat :=
  GL_FLOOR_REQUIRED.key 0 0 :: ((List.range 16).map (HM_PEAK_PEAK.key h) ++ (List.range 16).map (HM_REGS_G.key h))

theorem mem_faultKeys_peak {k : Nat} (hk : k < 16) : HM_PEAK_PEAK.key h k ∈ faultKeys h :=
  List.mem_cons_of_mem _ (List.mem_append_left _ (List.mem_map_of_mem (List.mem_range.mpr hk)))

theorem mem_faultKeys_regs {k : Nat} (hk : k < 16) : HM_REGS_G.key h k ∈ faultKeys h :=
  List.mem_cons_of_mem _ (List.mem_append_right _ (List.mem_map_of_mem (List.mem_range.mpr hk)))

/-- The fields at the head of a Helm's block are none of them. -/
theorem key_notin_faultKeys {f : Fld} (hf : f.place 0 < 0x30 * 64) : f.key h 0 ∉ faultKeys h := by
  intro hm
  rcases List.mem_cons.mp hm with e | hm
  · exact Fld.key_ne (by omega) (by decide) (by have : GL_FLOOR_REQUIRED.place 0 = 0x30 * 64 := rfl; omega) e
  · rcases List.mem_append.mp hm with hm | hm <;> obtain ⟨k, hk, e⟩ := List.mem_map.mp hm <;> have hk := List.mem_range.mp hk
    · have hp : HM_PEAK_PEAK.place k = (0x80 + 4 * k) * 64 := rfl
      exact Fld.key_ne (by omega) (by omega) (by omega) e
    · have hp : HM_REGS_G.place k = (0x40 + 4 * k) * 64 := rfl
      exact Fld.key_ne (by omega) (by omega) (by omega) e

theorem Held.notePeak {r : Run} (hs : Held (faultKeys h) s t) : Held (faultKeys h) s (t.notePeak h r) := by
  unfold State.notePeak
  split
  · rename_i hr
    exact hs.wr (mem_faultKeys_peak hr)
  · exact hs

theorem Held.snapRegs (hs : Held (faultKeys h) s t) : Held (faultKeys h) s (t.snapRegs h) :=
  hs.foldl fun hx hu => hu.wr (mem_faultKeys_regs (List.mem_range.mp hx))

theorem State.notePeak_helms (s : State) (h : Nat) (r : Run) : (s.notePeak h r).helms = s.helms := by
  unfold State.notePeak
  split <;> rfl

theorem State.snapRegs_helms (s : State) (h : Nat) : (s.snapRegs h).helms = s.helms :=
  List.foldlRecOn (motive := fun (t : State) => t.helms = s.helms) _ _ rfl fun _ ht _ _ => ht

/-- HM_FAULT written (Table MSM-13). -/
def State.faultNoted (s : State) (h cause : Nat) (r : Run) : State :=
  ((s.wr HM_FAULT_CAUSE cause h).wr HM_FAULT_PC (s.helm h).pc h).wr HM_FAULT_KIND r.kind h

/-- The handler stopped by a fault (R197, R240). -/
def Helm.stopped (m : Helm) (r : Run) : Helm :=
  { m with run := none, lastKind := r.kind, loops := [], stall := none, stagedOh := [], stagedDef := [] }

theorem Helm.Good.stopped {r : Run} (hm : m.Good True) : (m.stopped r).Good True := hm.update

section

variable {r : Run} {cause : Nat}

theorem State.Good.faultNoted (hs : s.Good True) : (s.faultNoted h cause r).Good True := hs.wr.wr.wr

theorem State.rd_faultNoted (hs : s.Good True) (hc : cause < 16) (hpc : (s.helm h).pc < 4096) (hk : r.kind < 16) :
    (s.faultNoted h cause r).rd HM_FAULT_CAUSE h = cause ∧ (s.faultNoted h cause r).rd HM_FAULT_PC h = (s.helm h).pc ∧
      (s.faultNoted h cause r).rd HM_FAULT_KIND h = r.kind := by
  refine ⟨?_, ?_, (State.rd_wr_same (hs.wr.wr.regs trivial) ..).trans (Nat.mod_eq_of_lt hk)⟩
  · refine (State.rd_wr_ne hs.wr.wr HM_FAULT_KIND HM_FAULT_CAUSE _ h).trans ((State.rd_wr_ne hs.wr HM_FAULT_PC HM_FAULT_CAUSE _ h).trans ?_)
    exact (State.rd_wr_same (hs.regs trivial) ..).trans (Nat.mod_eq_of_lt hc)
  · refine (State.rd_wr_ne hs.wr.wr HM_FAULT_KIND HM_FAULT_PC _ h).trans ?_
    exact (State.rd_wr_same (hs.wr.regs trivial) ..).trans (Nat.mod_eq_of_lt hpc)

theorem Held.faultNoted (hs : s.Good True) :
    Held [HM_FAULT_CAUSE.key h 0, HM_FAULT_PC.key h 0, HM_FAULT_KIND.key h 0] s (s.faultNoted h cause r) :=
  (((Held.refl hs).wr (by simp)).wr (by simp)).wr (by simp)

/-- A fault of a running program with no port, no defect and no UNBIND waiting: what it records, and the Helm after it. -/
theorem helmFault_plain (hs : s.Good True) (hh : h < 32) (hr : (s.helm h).run = some r) (hps : (s.helm h).ps = .running)
    (hp : (s.helm h).ports = []) (hd : (s.helm h).progDef = []) (hw : (s.helm h).stopWait = false) (hk : r.kind ≠ 0) :
    Held (faultKeys h) (s.faultNoted h cause r) (s.helmFault h cause) ∧
      (s.helmFault h cause).helm h = ((s.helm h).stopped r).faulted := by
  have h0 : (s.faultNoted h cause r).Good True := hs.faultNoted
  have hheld : Held (faultKeys h) (s.faultNoted h cause r) (((s.faultNoted h cause r).notePeak h r).snapRegs h) :=
    (Held.refl h0).notePeak.snapRegs
  have hhelm : (((s.faultNoted h cause r).notePeak h r).snapRegs h).helm h = s.helm h :=
    State.helm_congr ((State.snapRegs_helms ..).trans (State.notePeak_helms ..)) h
  have hstop := State.helm_setHelm_same (hheld.good.helms trivial) h ((s.helm h).stopped r)
  have et : s.helmFault h cause =
      ((((s.faultNoted h cause r).notePeak h r).snapRegs h).setHelm h ((s.helm h).stopped r)).toFaulted h cause r.kind := by
    have hrw := State.rewindPorts_nil (s := ((s.faultNoted h cause r).notePeak h r).snapRegs h) (h := h) (by rw [hhelm]; exact hp)
    rw [State.faultNoted] at hrw hhelm
    simp only [State.helmFault, hr, hps, hrw, hhelm, reduceCtorEq, if_false, State.faultNoted, Helm.stopped]
  obtain ⟨hf, ef⟩ := toFaulted_plain (cause := cause) (kind := r.kind) (hheld.good.setHelm hs.helm.stopped) hh
    (by rw [hstop]; exact hp) (by rw [hstop]; exact hd) (by rw [hstop]; exact hw)
    (by rw [hstop]; simp [Helm.stopped, hps]) hk
  rw [et]
  refine ⟨(hheld.setHelm hs.helm.stopped).trans (hf.mono ?_), by rw [ef, hstop]⟩
  exact List.cons_subset_cons _ (List.nil_subset _)

end

end

section

variable {s : State} {h : Fin 32} {u : Upset} {r : Run}

/-! ### Reserved words and the watchdog -/

/-- A running, unstalled Helm at a reserved word. -/
theorem execReservedEncoding_eq (hr : (s.helm h).run = some r) (hst : (s.helm h).stall = none) (ho : helmOp (s.word_ h) = none) :
    exec (.reservedEncoding h u) s = .next
      (if r.limit < r.cycles + 1 then (s.helmCycles h (r.limit + 1 - r.cycles)).helmFault h 11
       else if u = .imemParity then ((s.helmCycles h 1).eccUncorr 4 h).helmFault h 2
       else (s.helmCycles h 1).helmFault h 1) := by
  change execReservedEncoding h u s = _
  rw [State.word_] at ho
  simp only [execReservedEncoding, hr, hst, ho, Option.isSome_none, Bool.false_eq_true, or_self, if_false]
  split <;> rfl

theorem reservedEncoding_faults (hs : s.Good True) (hr : (s.helm h).run = some r) (hst : (s.helm h).stall = none)
    (ho : helmOp (s.word_ h) = none) :
    (r.limit < r.cycles + 1 → ∃ k, exec (.reservedEncoding h u) s = .next ((s.helmCycles h k).helmFault h 11)) ∧
    (r.cycles + 1 ≤ r.limit → u ≠ .imemParity →
      exec (.reservedEncoding h u) s = .next ((s.helmCycles h 1).helmFault h 1)) ∧
    (r.cycles + 1 ≤ r.limit → u = .imemParity →
      ∃ s' : State, exec (.reservedEncoding h u) s = .next (s'.helmFault h 2) ∧ s'.helm h = (s.helm h).spent 1) := by
  rw [execReservedEncoding_eq hr hst ho]
  refine ⟨fun hl => ⟨_, by rw [if_pos hl]⟩, fun hl hu => ?_, fun hl hu => ⟨(s.helmCycles h 1).eccUncorr 4 h, ?_, ?_⟩⟩
  · rw [if_neg (by omega), if_neg hu]
  · rw [if_neg (by omega), if_pos hu]
  · exact (State.helm_congr (State.eccUncorr_helms ..) h).trans (State.helm_helmCycles hs h 1)

theorem budgetAbort_faults {f : FarOp} (hst : (s.helm h).stall = some f) (hr : (s.helm h).run = some r) :
    exec (.budgetAbort h) s = .next ((s.helmCycles h (r.limit + 1 - r.cycles)).helmFault h 11) := by
  change execBudgetAbort h s = _
  simp only [execBudgetAbort, hst, hr]
  rfl

end

/-- Settles O16: the all-zero word is read off the decoder; the faults and what a fault leaves have their lemmas above. -/
theorem reservedWordsAndTheWatchdogFault : Obligations.ReservedWordsAndTheWatchdogFault := by
  unfold Obligations.ReservedWordsAndTheWatchdogFault
  refine ⟨by decide, fun s h u r hwf hr hst ho => reservedEncoding_faults ((State.wf_iff s).mp hwf) hr hst ho,
    fun s h f r _ hst hr => budgetAbort_faults hst hr, ?_⟩
  intro s h cause r hwf hr hc hpc hkind hps hp hd hw hk
  have hs := (State.wf_iff s).mp hwf
  obtain ⟨hheld, hhelm⟩ := helmFault_plain (cause := cause) hs h.isLt hr hps hp hd hw hk
  obtain ⟨ecause, epc, ekind⟩ := State.rd_faultNoted hs hc hpc hkind
  refine ⟨(hheld.regs _ _ _ (key_notin_faultKeys (by decide))).trans ecause, (hheld.regs _ _ _ (key_notin_faultKeys (by decide))).trans epc,
    (hheld.regs _ _ _ (key_notin_faultKeys (by decide))).trans ekind, ?_, ?_, ?_, ?_, ?_, ?_,
    fun a => (hheld.sameMem a).trans ((Held.faultNoted hs).sameMem a)⟩ <;> rw [hhelm] <;> rfl

end Sys2Proof.Machine

end

section
/-! # The transmitted frame

A transmit frame matures what has waited two microseconds, builds an image for each layer and counts itself (R188, R368,
R386, R389, R390). -/

namespace Sys2Proof.Machine

open Reg

set_option Elab.async false

section

variable {s t v : State} {c l k : Nat} {keys : List Nat} {own : List (Nat × Nat × Byte)} {held ins : Bool} {img : List Byte}

/-! ### What waits for a transmit frame -/

/-- An overhead processor at a transmit frame that starts at `clock` (R188, R382). -/
def Ovh.matured (o : Ovh) (clock : Nat) : Ovh :=
  { o with
    tx := (o.txPend.filter fun p => decide (p.1 + 2000 ≤ clock)).foldl (fun m p => smSet none m p.2.1 p.2.2) o.tx
    csq := match (o.csqPend.filter fun p => decide (p.1 + 2000 ≤ clock)).getLast? with | some p => p.2 | none => o.csq
    txPend := o.txPend.filter fun p => !decide (p.1 + 2000 ≤ clock)
    csqPend := o.csqPend.filter fun p => !decide (p.1 + 2000 ≤ clock) }

theorem Held.setOvh {x : Ovh} (hs : Held keys s t) (hx : x.Good True) : Held keys s (t.setOvh c x) :=
  hs.step (hs.good.setOvh hx) rfl rfl

theorem Held.txMature (hs : s.Good True) : Held keys s (s.txMature c) :=
  (Held.refl hs).step hs.txMature rfl rfl

@[simp] theorem State.txMature_rd (s : State) (c : Nat) (f : Fld) (i j : Nat) : (s.txMature c).rd f i j = s.rd f i j := rfl
@[simp] theorem State.txMature_flag (s : State) (c : Nat) (f : Fld) (i j : Nat) : (s.txMature c).flag f i j = s.flag f i j := rfl

theorem State.ovh_txMature (hs : s.Good True) (c : Nat) : (s.txMature c).ovh c = (s.ovh c).matured s.clock :=
  State.ovh_setOvh_same (hs.ovhs trivial) c _

/-- A program's write that has waited long enough is in force, and waits no more. -/
theorem Ovh.matured_ripe {o : Ovh} (ho : o.Good True) {clock u key : Nat} {x : Option Byte} (hp : o.txPend = [(u, key, x)])
    (hu : u + 2000 ≤ clock) : smGet none (o.matured clock).tx key = x ∧ (o.matured clock).txPend = [] := by
  simp only [Ovh.matured, hp, List.filter_cons, decide_eq_true hu, if_true, List.filter_nil, List.foldl_cons, List.foldl_nil]
  exact ⟨smGet_smSet_same none (ho.tx trivial) key x, rfl⟩

/-! ### The frame -/

/-- The images of the layers of carrier `c`, in their order. -/
def State.txImages (s : State) (c : Nat) (layers : List Nat) (own : List (Nat × Nat × Byte)) (held ins : Bool) : SMap (List Byte) :=
  (layers.map fun l => (l, s.txImage c l (s.ovh c).txN own held ins)).foldl (fun m e => smSet [] m e.1 e.2) []

/-- The machine `v` once the frame that `s` builds for slice `c` has been sent. -/
def State.framed (s : State) (c : Nat) (own : List (Nat × Nat × Byte)) (held ins : Bool) (v : State) : State :=
  v.setOvh c { v.ovh c with
    sent := s.txImages c ((familyLayers (s.family c)).filter (· ≠ 0)) own held ins
    txN := ((s.ovh c).txN + 1) % 65536 }

theorem exec_transmitFrame_none (hc : 8224 ≤ c ∨ (24 ≤ c ∧ c < 32)) : Idle (.transmitFrame c own) s := if_pos hc

theorem exec_transmitFrame_off (hc : c < 24) (ht : s.flag LINE_STAT_TX_ON c = false) :
    exec (.transmitFrame c own) s = .next ((s.txMature c).setOvh c { (s.txMature c).ovh c with sent := [] }) := by
  change execTransmitFrame c own s = _
  rw [execTransmitFrame, if_neg (by omega)]
  simp only [if_pos hc, State.txMature_flag, ht, Bool.false_and, Bool.not_false, if_true]

theorem exec_transmitFrame_unmapped {e : Nat} (he : e < 8192) (hm : wordMap (s.ent e).use0 = 0) :
    exec (.transmitFrame (32 + e) own) s =
      .next ((s.txMature (32 + e)).setOvh (32 + e) { (s.txMature (32 + e)).ovh (32 + e) with sent := [] }) := by
  have hm' : wordMap ((s.txMature (32 + e)).ent (32 + e - 32)).use0 = 0 := by
    rw [Nat.add_sub_cancel_left]
    exact hm
  change execTransmitFrame (32 + e) own s = _
  rw [execTransmitFrame, if_neg (by omega)]
  simp only [if_neg (by omega : ¬ 32 + e < 24), hm', ne_eq, not_true, decide_false, Bool.not_false, if_true]

/-- A slice that transmits with loop codes going out (R302). -/
theorem exec_transmitFrame_held (hc : c < 24) (ht : s.flag LINE_STAT_TX_ON c = true) (hl : s.rd OV_FORCE_LAYER c ≠ 0)
    (hloop : (s.line c).loop ≠ 0) :
    exec (.transmitFrame c own) s = .next ((s.txMature c).framed c own true false (s.txMature c)) := by
  have hloop' : ((s.txMature c).line c).loop ≠ 0 := hloop
  change execTransmitFrame c own s = _
  rw [execTransmitFrame, if_neg (by omega)]
  simp only [State.txMature_flag, State.txMature_rd, ht, hl, hc, hloop', decide_true, decide_false, Bool.false_and, Bool.not_false,
    Bool.and_self, Bool.not_true, Bool.false_eq_true, if_false, ne_eq, not_false_eq_true, if_true]
  rfl

/-- A slice that transmits with none going out. -/
theorem exec_transmitFrame_free (hc : c < 24) (ht : s.flag LINE_STAT_TX_ON c = true) (hl : s.rd OV_FORCE_LAYER c ≠ 0)
    (hloop : (s.line c).loop = 0) (hi : (s.txMature c).txInsert c = (ins, v)) :
    exec (.transmitFrame c own) s = .next ((s.txMature c).framed c own false ins v) := by
  have hloop' : ((s.txMature c).line c).loop = 0 := hloop
  change execTransmitFrame c own s = _
  rw [execTransmitFrame, if_neg (by omega)]
  simp only [State.txMature_flag, State.txMature_rd, ht, hl, hc, hloop', hi, decide_true, decide_false, Bool.false_and,
    Bool.not_false, Bool.and_self, Bool.false_eq_true, if_false, ne_eq, not_true, Bool.and_false]
  rfl

/-! ### What the frame leaves -/

theorem State.txImages_sorted (s : State) (c : Nat) (layers : List Nat) : Sorted True (s.txImages c layers own held ins) :=
  Sorted.fold .nil fun h => h.set

theorem Held.framed (hv : Held keys s v) : Held keys s (t.framed c own held ins v) :=
  hv.setOvh (.withSent hv.good.ovh (t.txImages_sorted c _))

theorem State.ovh_framed (hv : v.Good True) : (s.framed c own held ins v).ovh c = { v.ovh c with
    sent := s.txImages c ((familyLayers (s.family c)).filter (· ≠ 0)) own held ins, txN := ((s.ovh c).txN + 1) % 65536 } :=
  State.ovh_setOvh_same (hv.ovhs trivial) c _

/-- The multiplex section's image in an SDH frame. -/
theorem State.sent_framed_sdh (hv : v.Good True) (hf : s.family c = .sdh) :
    smGet [] ((s.framed c own held ins v).ovh c).sent 2 = s.txImage c 2 (s.ovh c).txN own held ins := by
  rw [State.ovh_framed hv, hf]
  have h1 : smSorted (smSet [] [] 1 (s.txImage c 1 (s.ovh c).txN own held ins)) = true := smSorted_smSet _ rfl _ _
  exact (smGet_smSet_other [] (smSorted_smSet _ h1 _ _) _ (by decide : (2 : Nat) ≠ 3)).trans (smGet_smSet_same [] h1 _ _)

/-! ### Insertion (R386, R389) -/

theorem State.txInsert_single (hc : c < 24) (hm : s.rd OV_INS_MODE c = 1) : s.txInsert c = (true, s.wr OV_INS_MODE 0 c) := by
  rw [State.txInsert, if_neg (by omega)]
  simp only [hm]

theorem State.txInsert_none (hc : c < 24) (hm : s.rd OV_INS_MODE c = 0) : s.txInsert c = (false, s) := by
  rw [State.txInsert, if_neg (by omega)]
  simp only [hm]

/-- A BURST, with more frames of it to come or with its last. -/
theorem State.txInsert_burst (hc : c < 24) (hm : s.rd OV_INS_MODE c = 3) (hk : s.rd OV_INS_COUNT c = k) (hi : s.rd OV_INS_ITEM c ≠ 0)
    (h1 : 1 ≤ k) : s.txInsert c =
      if k ≤ (s.ovh c).insLeft + 1 then (true, (s.setOvh c { s.ovh c with insLeft := 0 }).wr OV_INS_MODE 0 c)
      else (true, s.setOvh c { s.ovh c with insLeft := (s.ovh c).insLeft + 1 }) := by
  have hn : ¬ (k = 0 ∨ s.rd OV_INS_ITEM c = 0) := by simp [hi]; omega
  rw [State.txInsert, if_neg (by omega)]
  simp only [hm, hk, if_neg hn]

/-- An insertion writes no other register than its MODE. -/
theorem Held.txInsert (hs : s.Good True) : Held [OV_INS_MODE.key c 0] s (s.txInsert c).2 := by
  have h0 : Held [OV_INS_MODE.key c 0] s s := .refl hs
  have hovh {x : Ovh} (hx : x.Good True) : Held [OV_INS_MODE.key c 0] s (s.setOvh c x) := h0.setOvh hx
  have hwr {t : State} (ht : Held [OV_INS_MODE.key c 0] s t) : Held [OV_INS_MODE.key c 0] s (t.wr OV_INS_MODE 0 c) :=
    ht.wr (List.mem_singleton_self _)
  unfold State.txInsert
  split
  · exact h0
  · dsimp only
    split
    · exact hwr h0
    · split
      · exact h0
      · split
        · exact hovh hs.ovh.update
        · exact hovh hs.ovh.update
    · split
      · exact hwr h0
      · split
        · exact hwr (hovh hs.ovh.update)
        · exact hovh hs.ovh.update
    · exact h0

/-! ### The image of the multiplex section -/

/-- The image a layer sends, before the forced alarms. -/
def State.txUnforced (s : State) (c l k : Nat) (own : List (Nat × Nat × Byte)) (held ins : Bool) : List Byte :=
  let img := own.foldl (fun m e => if e.1 = l then m.set e.2.1 e.2.2 else m) (s.txDefault c l k)
  let img := if held then img else img.mapIdx fun j b =>
    match smGet none (s.ovh c).tx (l * 256 + j) with
    | some v => BitVec.ofNat 8 (s.txWrite c l j b.toNat v.toNat)
    | none => b
  let img := s.txBack c l img
  if ins ∧ s.rd OV_INS_LAYER c = l then
    (match insByte l (s.rd OV_INS_ITEM c) (s.fmt c) with
     | some (j, b) => setAt img j fun x => Nat.xor x (2 ^ b)
     | none => img)
  else img

theorem State.txImage_eq (s : State) (c l k : Nat) (own : List (Nat × Nat × Byte)) (held ins : Bool) :
    s.txImage c l k own held ins = s.txForce c l (s.txUnforced c l k own held ins) := rfl

@[simp] theorem length_setAt (img : List Byte) (j : Nat) (f : Nat → Nat) : (setAt img j f).length = img.length :=
  List.length_set

theorem length_txDefault_ms (s : State) (c k : Nat) : (s.txDefault c 2 k).length = 45 := by
  simp [State.txDefault]

theorem length_own (own : List (Nat × Nat × Byte)) (l : Nat) (img : List Byte) :
    (own.foldl (fun m e => if e.1 = l then m.set e.2.1 e.2.2 else m) img).length = img.length :=
  List.foldlRecOn (motive := fun (m : List Byte) => m.length = img.length) _ _ rfl fun m hm e _ => by
    split <;> simp [hm]

/-- The back actions on the multiplex section: REI, and RDI while its row is in force (R381). -/
theorem State.txBack_ms (s : State) (hc : c < 24) (img : List Byte) : s.txBack c 2 img =
    if s.flag OV_CONSEQ_BACK_EN c = false then img
    else if (s.ovh c).csq.testBit 0 then (setAt (setAt img 41 fun _ => min (smGet 0 (s.ovh c).viol 2) 255) 6 fun x => setBitsAt x 0 3 6)
    else setAt img 41 fun _ => min (smGet 0 (s.ovh c).viol 2) 255 := by
  simp only [State.txBack, if_pos hc, Bool.not_eq_true']

theorem length_txBack_ms (s : State) (hc : c < 24) (img : List Byte) : (s.txBack c 2 img).length = img.length := by
  rw [s.txBack_ms hc]
  split
  · rfl
  · split <;> simp

theorem length_txUnforced_ms (s : State) (hc : c < 24) (k : Nat) (own : List (Nat × Nat × Byte)) (held ins : Bool) :
    (s.txUnforced c 2 k own held ins).length = 45 := by
  have hown := (length_own own 2 (s.txDefault c 2 k)).trans (length_txDefault_ms s c k)
  have hback {img : List Byte} (h : img.length = 45) : (s.txBack c 2 img).length = 45 := (length_txBack_ms s hc img).trans h
  unfold State.txUnforced
  dsimp only
  split
  · split
    · rw [length_setAt]
      exact hback (by split <;> simp [hown])
    · exact hback (by split <;> simp [hown])
  · exact hback (by split <;> simp [hown])

/-! ### Forced alarms (R390) -/

theorem State.txForce_other (s : State) (hl : s.rd OV_FORCE_LAYER c ≠ l) : s.txForce c l img = img := if_pos (.inr hl)

/-- The multiplex section has no framing byte. -/
theorem State.txFraming_ms (s : State) (c o : Nat) : s.txFraming c 2 o = 0 := by simp [State.txFraming]

theorem getD_setAt {j : Nat} (hj : j < img.length) (f : Nat → Nat) : (setAt img j f).getD j 0 = BitVec.ofNat 8 (f (img.getD j 0).toNat) := by
  simp [setAt, List.getD_eq_getElem?_getD, hj]

/-- A field set to all ones. -/
theorem setBitsAt_ones (x : Nat) : BitVec.toNat (BitVec.ofNat 8 (setBitsAt x 0 3 7)) % 8 = 7 := by
  simp only [setBitsAt, bitsAt, BitVec.toNat_ofNat]
  omega

/-- A corruption of framing leaves a layer without framing bytes as it is. -/
theorem mapIdx_xor_zero (l : List Byte) : (l.mapIdx fun _ b => BitVec.ofNat 8 (Nat.xor b.toNat 0)) = l := by
  apply List.ext_getElem <;> simp

/-- AIS forced on the multiplex section stands over RDI, and no other forced alarm reaches its image. -/
theorem State.txForce_ms_ais (s : State) (hc : c < 24) (hl : s.rd OV_FORCE_LAYER c = 2) (ha : s.flag OV_FORCE_AIS c = true) :
    s.txForce c 2 img =
      setAt (if s.flag OV_FORCE_RDI c then setAt img 6 fun x => setBitsAt x 0 3 6 else img) 6 fun x => setBitsAt x 0 3 7 := by
  rw [State.txForce, if_neg (by simp [hl]; omega)]
  simp only [ha, if_true, State.txFraming_ms, mapIdx_xor_zero, ite_self, Nat.reduceEqDiff, and_false, if_false]

/-- With AIS forced on the multiplex section the K2 status bits are all ones, whatever else was written. -/
theorem State.txImage_ais (s : State) (hc : c < 24) (hl : s.rd OV_FORCE_LAYER c = 2) (ha : s.flag OV_FORCE_AIS c = true) :
    ((s.txImage c 2 k own held ins).getD 6 0).toNat % 8 = 7 := by
  have h45 := length_txUnforced_ms s hc k own held ins
  rw [State.txImage_eq, s.txForce_ms_ais hc hl ha, getD_setAt (by split <;> simp [h45])]
  exact setBitsAt_ones _

/-! ### A program's write (R188, R368) -/

/-- The eight bits of a byte. -/
theorem foldl_testBit (x : Byte) : BitVec.ofNat 8 ((List.range 8).foldl (fun n b => n + boolNat (x.toNat.testBit b) * 2 ^ b) 0) = x := by
  revert x
  decide +kernel

/-- Byte 8 of the multiplex section is neither framing nor computed. -/
theorem State.txWrite_ms (s : State) (c x : Nat) (y : Byte) : BitVec.ofNat 8 (s.txWrite c 2 8 x y.toNat) = y := by
  have e : s.txWrite c 2 8 x y.toNat = (List.range 8).foldl (fun n b => n + boolNat (y.toNat.testBit b) * 2 ^ b) 0 := by
    simp [State.txWrite, State.txComputed, State.txFraming_ms]
  rw [e, foldl_testBit]

/-- With no back action, insertion or forced alarm a write in force goes out. -/
theorem State.txImage_written (s : State) (hc : c < 24) (hb : s.flag OV_CONSEQ_BACK_EN c = false) (hl : s.rd OV_FORCE_LAYER c ≠ 2)
    {y : Byte} (hw : smGet none (s.ovh c).tx (2 * 256 + 8) = some y) : (s.txImage c 2 k [] false false).getD 8 0 = y := by
  have h45 := length_txDefault_ms s c k
  rw [State.txImage_eq, s.txForce_other hl]
  simp only [State.txUnforced, s.txBack_ms hc, hb, if_true, Bool.false_eq_true, false_and, if_false, List.foldl_nil]
  rw [List.getD_eq_getElem?_getD, List.getElem?_mapIdx, List.getElem?_eq_getElem (by omega)]
  simp only [Option.map_some, Option.getD_some, hw, State.txWrite_ms]

end

section

variable {s v : State} {c : Fin 24} {keys : List Nat} {own : List (Nat × Nat × Byte)} {held ins : Bool} {P : State → Prop}

/-! ### What each frame does -/

theorem does_frame_held (hs : s.Good True) (ht : s.flag LINE_STAT_TX_ON c = true) (hl : s.rd OV_FORCE_LAYER c ≠ 0)
    (hloop : (s.line c).loop ≠ 0) (hp : P ((s.txMature c).framed c own true false (s.txMature c))) :
    Does (.transmitFrame c own) s keys P :=
  (Held.txMature hs).framed.does (exec_transmitFrame_held c.isLt ht hl hloop) hp

theorem does_frame_free (ht : s.flag LINE_STAT_TX_ON c = true) (hl : s.rd OV_FORCE_LAYER c ≠ 0) (hloop : (s.line c).loop = 0)
    (hi : (s.txMature c).txInsert c = (ins, v)) (hv : Held keys s v) (hp : P ((s.txMature c).framed c own false ins v)) :
    Does (.transmitFrame c own) s keys P :=
  hv.framed.does (exec_transmitFrame_free c.isLt ht hl hloop hi) hp

theorem State.txN_framed (hs : s.Good True) (hv : v.Good True) :
    (((s.txMature c).framed c own held ins v).ovh c).txN = ((s.ovh c).txN + 1) % 65536 := by
  rw [State.ovh_framed hv, State.ovh_txMature hs]
  rfl

@[simp] theorem State.rd_setOvh (s : State) (c : Nat) (x : Ovh) (f : Fld) (i j : Nat) : (s.setOvh c x).rd f i j = s.rd f i j := rfl

@[simp] theorem State.rd_framed (s v : State) (f : Fld) (i j : Nat) : (s.framed c own held ins v).rd f i j = v.rd f i j := rfl

/-- A frame of a slice that is off, or of an entry with no mapping. -/
theorem does_frame_none {i : Nat} (hs : s.Good True)
    (e : exec (.transmitFrame i own) s = .next ((s.txMature i).setOvh i { (s.txMature i).ovh i with sent := [] })) :
    Does (.transmitFrame i own) s keys fun t => (t.ovh i).sent = [] := by
  have hm := Held.txMature (c := i) (keys := keys) hs
  exact (hm.setOvh (.withSent hm.good.ovh .nil)).does e (congrArg Ovh.sent (State.ovh_setOvh_same (hm.good.ovhs trivial) ..))

variable (hs : s.Good True) (ht : s.flag LINE_STAT_TX_ON c = true) (hl : s.rd OV_FORCE_LAYER c ≠ 0)

include hs ht hl

/-- SINGLE inserts into one frame and returns to off (R389). -/
theorem frame_single (hloop : (s.line c).loop = 0) (hm : s.rd OV_INS_MODE c = 1) :
    Does (.transmitFrame c own) s [OV_INS_MODE.key c 0] fun t =>
      t.rd OV_INS_MODE c = 0 ∧ (t.ovh c).txN = ((s.ovh c).txN + 1) % 65536 := by
  have hv := (Held.txMature (c := c) (keys := [OV_INS_MODE.key c 0]) hs).wr (v := 0) (List.mem_singleton_self _)
  refine does_frame_free ht hl hloop (State.txInsert_single c.isLt hm) hv ⟨?_, State.txN_framed hs hv.good⟩
  rw [State.rd_framed]
  exact (State.rd_wr_same (hs.txMature.regs trivial) ..).trans (Nat.zero_mod _)

/-- A BURST goes on until its last frame (R389). -/
theorem frame_burst {k : Nat} (hloop : (s.line c).loop = 0) (hm : s.rd OV_INS_MODE c = 3) (hk : s.rd OV_INS_COUNT c = k)
    (hi : s.rd OV_INS_ITEM c ≠ 0) (h1 : 1 ≤ k) :
    ((s.ovh c).insLeft + 1 < k → Does (.transmitFrame c own) s [] fun t =>
      t.rd OV_INS_MODE c = 3 ∧ (t.ovh c).insLeft = (s.ovh c).insLeft + 1) ∧
    (k ≤ (s.ovh c).insLeft + 1 → Does (.transmitFrame c own) s [OV_INS_MODE.key c 0] fun t => t.rd OV_INS_MODE c = 0) := by
  have eo := State.ovh_txMature hs c
  have ei : ((s.txMature c).ovh c).insLeft = (s.ovh c).insLeft := by rw [eo]; rfl
  have e := State.txInsert_burst (s := s.txMature c) c.isLt hm hk hi h1
  rw [ei] at e
  refine ⟨fun hlt => ?_, fun hge => ?_⟩
  · rw [if_neg (by omega)] at e
    have hv := (Held.txMature (c := c) (keys := []) hs).setOvh (c := c)
      (x := { (s.txMature c).ovh c with insLeft := (s.ovh c).insLeft + 1 }) hs.txMature.ovh.update
    refine does_frame_free ht hl hloop e hv ⟨by simpa using hm, ?_⟩
    rw [State.ovh_framed hv.good, State.ovh_setOvh_same (hs.txMature.ovhs trivial)]
  · rw [if_pos hge] at e
    have h0 := (Held.txMature (c := c) (keys := [OV_INS_MODE.key c 0]) hs).setOvh (c := c)
      (x := { (s.txMature c).ovh c with insLeft := 0 }) hs.txMature.ovh.update
    refine does_frame_free ht hl hloop e (h0.wr (List.mem_singleton_self _)) ?_
    rw [State.rd_framed]
    exact (State.rd_wr_same (h0.good.regs trivial) ..).trans (Nat.zero_mod _)

/-- Frames are numbered while loop codes go out too. -/
theorem frame_held (hloop : (s.line c).loop ≠ 0) :
    Does (.transmitFrame c own) s [] fun t => (t.ovh c).txN = ((s.ovh c).txN + 1) % 65536 :=
  does_frame_held hs ht hl hloop (State.txN_framed hs hs.txMature)

/-- AIS forced on the multiplex section stands over all (R390). -/
theorem frame_ais (hf : s.family c = .sdh) (hl2 : s.rd OV_FORCE_LAYER c = 2) (ha : s.flag OV_FORCE_AIS c = true) :
    Does (.transmitFrame c own) s [OV_INS_MODE.key c 0] fun t => ((smGet [] (t.ovh c).sent 2).getD 6 0).toNat % 8 = 7 := by
  have hbits (held ins : Bool) {v : State} (hv : v.Good True) :
      ((smGet [] (((s.txMature c).framed c own held ins v).ovh c).sent 2).getD 6 0).toNat % 8 = 7 := by
    rw [State.sent_framed_sdh (s := s.txMature c) hv hf]
    exact (s.txMature c).txImage_ais c.isLt hl2 ha
  by_cases hloop : (s.line c).loop = 0
  · have hv := (Held.txMature (c := c) hs).trans (Held.txInsert (c := c) hs.txMature)
    exact does_frame_free ht hl hloop rfl hv (hbits _ _ hv.good)
  · exact does_frame_held hs ht hl hloop (hbits _ _ hs.txMature)

/-- A program's write to a byte neither framing nor computed goes out once it is 2 us old (R188). -/
theorem frame_written (hf : s.family c = .sdh) {u : Nat} {y : Byte} (hloop : (s.line c).loop = 0) (hm : s.rd OV_INS_MODE c = 0)
    (hl2 : s.rd OV_FORCE_LAYER c ≠ 2) (hb : s.flag OV_CONSEQ_BACK_EN c = false) (hp : (s.ovh c).txPend = [(u, 2 * 256 + 8, some y)])
    (hu : u + 2000 ≤ s.clock) :
    Does (.transmitFrame c []) s [] fun t => (smGet [] (t.ovh c).sent 2).getD 8 0 = y ∧ (t.ovh c).txPend = [] := by
  have eo := State.ovh_txMature hs c
  obtain ⟨htx, hpend⟩ := Ovh.matured_ripe hs.ovh hp hu
  refine does_frame_free ht hl hloop (State.txInsert_none c.isLt hm) (.txMature hs) ⟨?_, ?_⟩
  · rw [State.sent_framed_sdh (s := s.txMature c) hs.txMature hf]
    exact (s.txMature c).txImage_written c.isLt hb hl2 (by rw [eo]; exact htx)
  · rw [State.ovh_framed hs.txMature, eo]
    exact hpend

end

/-- Settles O49: whether a frame goes out, what it leaves and what its images hold have their lemmas above. -/
theorem transmittedFramesAreBuiltInOrder : Obligations.TransmittedFramesAreBuiltInOrder := by
  unfold Obligations.TransmittedFramesAreBuiltInOrder
  intro s hwf
  have hs := (State.wf_iff s).mp hwf
  refine ⟨fun c own hc => exec_transmitFrame_none hc, fun c own ht => does_frame_none hs (exec_transmitFrame_off c.isLt ht),
    fun e own hm => does_frame_none hs (exec_transmitFrame_unmapped e.isLt hm), fun c ht hf hl => ⟨?_, ?_, ?_, ?_, ?_⟩⟩
  · exact fun own hloop hm => frame_single hs ht hl hloop hm
  · exact fun own k hloop hm hk hi h1 => frame_burst hs ht hl hloop hm hk hi h1
  · exact fun own hloop => frame_held hs ht hl hloop
  · exact fun own hl2 ha => frame_ais hs ht hl hf hl2 ha
  · exact fun u y hloop hm hl2 hb hp hu => frame_written hs ht hl hf hloop hm hl2 hb hp hu

end Sys2Proof.Machine

end

section
/-! # A program beyond the device's Helms

`State.wf` lets the table of Helms hold a Helm of any number, and an operation's object names one of 4096. Source 256 + 8h
fires on every change of a program's state; for Helm 52, which the device does not have, that is the reserved source 672, and
a firing of it counts in BC_ERR_RSV_SRC. The statement has no register change when UNBIND stops a running program, so it
fails there. -/

namespace Sys2Proof.Machine

open Reg

/-- A program that runs. -/
def runningHelm : Helm := { Helm.init with ps := .running }

/-- A RUNNING UNBIND by S0 of the program of Helm 52, with TAG 1. -/
def strayUnbind : Op := { parseRec 0 0 [] with tag := 1, opcode := 0x0A, obj := 0x2034, st := .running, started := true, seq := 1 }

/-- The machine that lists Helm 52. -/
def strayProgramState : State := { State.reset with ops := [strayUnbind], helms := [(52, runningHelm)] }

/-- The machine after the UNBIND. -/
def strayProgramStopped : State :=
  (strayProgramState.setHelm 52 { runningHelm with unbindTags := [1] }).requestStop 52

theorem exec_unbind_strayProgramState : exec (.unbind 0 1) strayProgramState = .next strayProgramStopped := rfl

theorem strayProgramState_wf : strayProgramState.wf = true := by decide +kernel

theorem strayUnbind_runs : strayProgramState.opRuns (0 : Fin 16) 1 0x0A strayUnbind := ⟨rfl, rfl, rfl, rfl, rfl, rfl⟩

/-- The change of the program's state fires a reserved source. -/
theorem rd_rsvSrc_strayProgramStopped : strayProgramStopped.rd BC_ERR_RSV_SRC 0 = 1 := by decide +kernel

theorem rd_rsvSrc_strayProgramState : strayProgramState.rd BC_ERR_RSV_SRC 0 = 0 := by decide +kernel

/-- Refutes O52: UNBIND of a running program of Helm 52 counts a firing of a reserved source, a register that the statement
has unchanged. -/
theorem not_programsAreLoadedBoundAndMessaged : ¬ Obligations.ProgramsAreLoadedBoundAndMessaged := by
  unfold Obligations.ProgramsAreLoadedBoundAndMessaged
  intro h
  obtain ⟨-, -, hunbind, -⟩ := h strayProgramState strayProgramState_wf 0 1 strayUnbind
  obtain ⟨-, hrunning, -⟩ := hunbind strayUnbind_runs rfl
  obtain ⟨t, e, -, hregs, -⟩ := hrunning rfl
  obtain rfl : strayProgramStopped = t := Host.Outcome.next.inj (exec_unbind_strayProgramState.symm.trans e)
  have hcount := hregs BC_ERR_RSV_SRC 0 0 List.not_mem_nil
  rw [rd_rsvSrc_strayProgramStopped, rd_rsvSrc_strayProgramState] at hcount
  exact absurd hcount (by decide)

end Sys2Proof.Machine

end

section
/-! # Results and flags of the ALU

What an ALU or compare instruction comes to, its flags (R216) and its immediates. -/

namespace Sys2Proof.Machine

open Reg

set_option Elab.async false

section

variable {m m' : Helm} {h k : Nat} {s : State}

/-! ### A Helm whose flags have changed -/

/-- Nothing but the flags has changed. -/
def FlagsOnly (m m' : Helm) : Prop := m' = { m with z := m'.z, n := m'.n, c := m'.c, v := m'.v }

theorem FlagsOnly.refl (m : Helm) : FlagsOnly m m := rfl

theorem FlagsOnly.good (hf : FlagsOnly m m') (hm : m.Good True) : m'.Good True := by
  rw [hf]
  exact hm.update

theorem FlagsOnly.reg (hf : FlagsOnly m m') (r : Nat) : m'.reg r = m.reg r := by
  rw [hf]
  rfl

/-- The advance of a Helm whose flags and perhaps one register have changed. -/
theorem FlagsOnly.advanced (hf : FlagsOnly (m.spent k) m') (d : Nat) (v : Word) :
    HelmAdvanced m (m'.setReg d v).fallThrough k := by
  rw [Helm.setReg_eq, hf]
  rfl

theorem Helm.flagsOnly_setZN (m : Helm) (r : Word) : FlagsOnly m (m.setZN r) := rfl

theorem Helm.flagsOnly_flagsAdd (m : Helm) (x y : Word) (c : Bool) : FlagsOnly m (m.flagsAdd x y c) := rfl

theorem Helm.flagsOnly_flagsSub (m : Helm) (x y : Word) (c : Bool) : FlagsOnly m (m.flagsSub x y c) := rfl

theorem Helm.flagsOnly_flagsSat (m : Helm) (r : Word) (c : Bool) : FlagsOnly m (m.flagsSat r c) := rfl

theorem Helm.flagsOnly_flagsZ (m : Helm) (r : Word) : FlagsOnly m (m.flagsZ r) := rfl

theorem Helm.flagsOnly_flagsShift (m : Helm) (r : Word) (k : Nat) (c : Bool) : FlagsOnly m (m.flagsShift r k c) := by
  unfold Helm.flagsShift
  split <;> rfl

/-! ### Results with flags -/

/-- A register result with its flags (R171). -/
theorem aluDone_flagged (hs : s.Good True) (v : Word) (hf : FlagsOnly ((s.helm h).spent k) m') :
    AluDone s h k v m'.flags (((s.helmCycles h k).setHelm h (m'.setReg (wD (s.word_ h)) v)).helmNext h) := by
  have hg := hs.helmCycles (h := h) (k := k)
  have hm : m'.Good True := hf.good hs.helm.spent
  have ho := ((OnlyHelm.refl h s).helmCycles hs k).retire hg (m := m'.setReg (wD (s.word_ h)) v) hm.setReg
  refine ⟨?_, fun r hr => ?_, ?_, ?_, ho, ho.sameMem⟩ <;> rw [State.helm_retire hg]
  · by_cases h0 : wD (s.word_ h) = 0
    · simp [h0]
    · simp [Helm.reg_setReg hm, h0]
  · simp [Helm.reg_setReg hm, hr, hf.reg]
  · simp
  · exact hf.advanced _ v

/-- Flags alone (Table MSI-4). -/
theorem cmpDone_flagged (hs : s.Good True) (hf : FlagsOnly ((s.helm h).spent 1) m') :
    CmpDone s h m'.flags (((s.helmCycles h 1).setHelm h m').helmNext h) := by
  have hg := hs.helmCycles (h := h) (k := 1)
  have ho := ((OnlyHelm.refl h s).helmCycles hs 1).retire hg (m := m') (hf.good hs.helm.spent)
  refine ⟨fun r => ?_, ?_, ?_, ho, ho.sameMem⟩ <;> rw [State.helm_retire hg]
  · exact hf.reg r
  · rfl
  · exact hf.advanced 0 0

end

section

variable {s : State} {h : Fin 32} {u : Upset} {i : Instr} {op : HOp} {k : Nat} {v : Word} {F : Bool × Bool × Bool × Bool}
  {val : Helm → Word → Word} {fl : Helm → Word → Word → Helm} {cfl : Helm → Word → Helm}

/-- An ALU instruction's outcome, from its result `v` and flags `F` on the Helm whose cycles have passed. -/
theorem alu_holds (hs : s.Good True) (hu : u ≠ .imemParity) (hi : exec i s = .next (s.aluStep h u op k val fl))
    (hfl : ∀ m x r, FlagsOnly m (fl m x r)) (hv : val ((s.helm h).spent k) (s.word_ h) = v)
    (hF : (fl ((s.helm h).spent k) (s.word_ h) v).flags = F) (hr : s.helmRuns h op k = true) :
    ∃ t, exec i s = .next t ∧ AluDone s h k v F t := by
  refine ⟨_, hi, ?_⟩
  have hm := State.helm_helmCycles hs h k
  have e : s.aluStep h u op k val fl = ((s.helmCycles h k).setHelm h
      ((fl ((s.helm h).spent k) (s.word_ h) v).setReg (wD (s.word_ h)) v)).helmNext h :=
    State.helmStep_ok hr hu rfl (by simp only [hm, hv])
  rw [e, ← hF]
  exact aluDone_flagged hs v (hfl _ _ _)

/-- A compare's outcome. -/
theorem cmp_holds (hs : s.Good True) (hu : u ≠ .imemParity) (hi : exec i s = .next (s.cmpStep h u op cfl))
    (hfl : ∀ m x, FlagsOnly m (cfl m x)) (hF : (cfl ((s.helm h).spent 1) (s.word_ h)).flags = F)
    (hr : s.helmRuns h op 1 = true) : ∃ t, exec i s = .next t ∧ CmpDone s h F t := by
  refine ⟨_, hi, ?_⟩
  have hm := State.helm_helmCycles hs h 1
  have e : s.cmpStep h u op cfl = ((s.helmCycles h 1).setHelm h (cfl ((s.helm h).spent 1) (s.word_ h))).helmNext h :=
    State.helmStep_ok hr hu rfl (by simp only [hm])
  rw [e, ← hF]
  exact cmpDone_flagged hs (hfl _ _)

end

section

variable {x y r : Word} {c : Bool}

/-! ### Flags -/

/-- Signed overflow of an addition shows in the signs (R216). -/
theorem overflows_add (x y : Word) (hr : r = BitVec.ofNat 32 (x.toNat + y.toNat + c.toNat)) :
    (x.msb == y.msb && r.msb != x.msb) = overflows (x.toInt + y.toInt + c.toNat) := by
  have hc : c.toNat ≤ 1 := Bool.toNat_le c
  have hrn : r.toNat = (x.toNat + y.toNat + c.toNat) % 2 ^ 32 := by rw [hr, BitVec.toNat_ofNat]
  have hx := x.isLt
  have hy := y.isLt
  simp only [overflows, BitVec.toInt_eq_toNat_cond, BitVec.msb_eq_decide, hrn]
  rw [Bool.eq_iff_iff]
  simp only [Bool.and_eq_true, beq_iff_eq, bne_iff_ne, ne_eq, decide_eq_decide, decide_eq_true_eq]
  split <;> split <;> omega

/-- Signed overflow of a subtraction shows in the signs (R216). -/
theorem overflows_sub (x y : Word) (hr : r = BitVec.ofInt 32 (x.toInt - y.toInt - c.toNat)) :
    (x.msb != y.msb && r.msb != x.msb) = overflows (x.toInt - y.toInt - c.toNat) := by
  have hc : c.toNat ≤ 1 := Bool.toNat_le c
  have hrn : (r.toNat : Int) = (x.toInt - y.toInt - c.toNat) % 2 ^ 32 := by
    rw [hr, BitVec.toNat_ofInt]
    omega
  have hx := x.isLt
  have hy := y.isLt
  simp only [BitVec.toInt_eq_toNat_cond] at hrn
  simp only [overflows, BitVec.toInt_eq_toNat_cond, BitVec.msb_eq_decide]
  rw [Bool.eq_iff_iff]
  simp only [Bool.and_eq_true, bne_iff_ne, ne_eq, decide_eq_decide, decide_eq_true_eq]
  split at hrn <;> split at hrn <;> simp_all <;> omega

theorem ofNat_boolNat (c : Bool) : BitVec.ofNat 32 (boolNat c) = BitVec.ofNat 32 c.toNat := by cases c <;> rfl

theorem add_eq_ofNat (x y : Word) (c : Bool) :
    x + y + BitVec.ofNat 32 (boolNat c) = BitVec.ofNat 32 (x.toNat + y.toNat + c.toNat) := by
  rw [ofNat_boolNat]
  simp [BitVec.ofNat_add]

theorem sub_eq_ofInt (x y : Word) (c : Bool) :
    x - y - BitVec.ofNat 32 (boolNat c) = BitVec.ofInt 32 (x.toInt - y.toInt - c.toNat) := by
  rw [ofNat_boolNat]
  apply BitVec.eq_of_toInt_eq
  cases c <;> simp [BitVec.toInt_sub, BitVec.toInt_ofInt]

theorem Helm.flags_flagsAdd (m : Helm) (x y : Word) (c : Bool) (hr : BitVec.ofNat 32 (x.toNat + y.toNat + c.toNat) = r) :
    (m.flagsAdd x y c).flags = (r == 0, r.msb, decide (2 ^ 32 ≤ x.toNat + y.toNat + c.toNat),
      overflows (x.toInt + y.toInt + c.toNat)) := by
  rw [← overflows_add x y hr.symm, ← hr, ← add_eq_ofNat]
  cases c <;> rfl

theorem Helm.flags_flagsAdd_false (m : Helm) (x y : Word) :
    (m.flagsAdd x y false).flags =
      (x + y == 0, (x + y).msb, decide (2 ^ 32 ≤ x.toNat + y.toNat), overflows (x.toInt + y.toInt)) := by
  have e : BitVec.ofNat 32 (x.toNat + y.toNat + false.toNat) = x + y := by simp [BitVec.ofNat_add]
  simpa using m.flags_flagsAdd x y false e

theorem Helm.flags_flagsSub (m : Helm) (x y : Word) (c : Bool) (hr : BitVec.ofInt 32 (x.toInt - y.toInt - c.toNat) = r) :
    (m.flagsSub x y c).flags = (r == 0, r.msb, decide (x.toNat < y.toNat + c.toNat),
      overflows (x.toInt - y.toInt - c.toNat)) := by
  rw [← overflows_sub x y hr.symm, ← hr, ← sub_eq_ofInt]
  cases c <;> rfl

theorem beq_eq_sub_beq_zero (x y : Word) : (x == y) = (x - y == 0) := by
  rw [Bool.eq_iff_iff, beq_iff_eq, beq_iff_eq]
  exact sub_eq_zero.symm

theorem Helm.flags_flagsSub_false (m : Helm) (x y : Word) :
    (m.flagsSub x y false).flags =
      (x == y, (x - y).msb, decide (x.toNat < y.toNat), overflows (x.toInt - y.toInt)) := by
  have e : BitVec.ofInt 32 (x.toInt - y.toInt - false.toNat) = x - y := by
    rw [← sub_eq_ofInt]
    exact BitVec.sub_zero _
  rw [beq_eq_sub_beq_zero]
  simpa using m.flags_flagsSub x y false e

theorem Helm.flags_flagsShift (m : Helm) (r : Word) (k : Nat) (c : Bool) :
    (m.flagsShift r k c).flags = (r == 0, r.msb, if k = 0 then m.c else c, m.v) := by
  unfold Helm.flagsShift
  split <;> rfl

end

section

variable {x : Word}

/-! ### Immediates -/

theorem wImm12_lt (x : Word) : wImm12 x < 2 ^ 12 := Nat.mod_lt _ (by decide)

theorem wImm16_lt (x : Word) : wImm16 x < 2 ^ 16 := Nat.mod_lt _ (by decide)

theorem wSimm12_eq (x : Word) : wSimm12 x = (BitVec.ofNat 12 (wImm12 x)).signExtend 32 :=
  ofInt_signExt 32 (by decide) (wImm12_lt x)

theorem zImm12_eq (x : Word) : zImm12 x = (BitVec.ofNat 12 (wImm12 x)).zeroExtend 32 := zext_eq (wImm12_lt x)

theorem zImm16_eq (x : Word) : zImm16 x = (BitVec.ofNat 16 (wImm16 x)).zeroExtend 32 := zext_eq (wImm16_lt x)

/-! ### Saturation -/

theorem satSub_eq (x y : Word) :
    BitVec.ofNat 32 (x.toNat - y.toNat) = if x.toNat < y.toNat then 0 else x - y := by
  split
  · rename_i h
    rw [Nat.sub_eq_zero_of_le h.le]
    rfl
  · rename_i h
    apply BitVec.eq_of_toNat_eq
    rw [BitVec.toNat_ofNat, BitVec.toNat_sub_of_le (BitVec.le_def.mpr (by omega))]
    omega

theorem satAdd_eq (x y : Word) :
    BitVec.ofNat 32 (min 0xFFFFFFFF (x.toNat + y.toNat)) = if 2 ^ 32 ≤ x.toNat + y.toNat then 0xFFFFFFFF else x + y := by
  split
  · rw [Nat.min_eq_left (by omega)]
    rfl
  · rw [Nat.min_eq_right (by omega)]
    simp [BitVec.ofNat_add]

end

end Sys2Proof.Machine

end

section
/-! # Additions, subtractions and compares -/

namespace Sys2Proof.Machine

open Reg

set_option Elab.async false

/-- Settles O5: each row is `alu_holds` or `cmp_holds` with its flags. -/
theorem helmAddsAndSubtracts : Obligations.HelmAddsAndSubtracts := by
  unfold Obligations.HelmAddsAndSubtracts
  intro s h u hwf hu a b i c v
  have hs := (State.wf_iff s).mp hwf
  have hi : wSimm12 (s.word_ h) = i := wSimm12_eq _
  refine ⟨?add, ?adc, ?sub, ?sbc, ?addi, ?adds, ?subs, ?cmp, ?cmpi⟩
  case add => exact alu_holds hs hu rfl (fun m _ _ => m.flagsOnly_flagsAdd _ _ _) rfl (Helm.flags_flagsAdd_false _ a b)
  case adc =>
    exact alu_holds hs hu rfl (fun m _ _ => m.flagsOnly_flagsAdd _ _ _) (add_eq_ofNat a b _) (Helm.flags_flagsAdd _ a b _ rfl)
  case sub => exact alu_holds hs hu rfl (fun m _ _ => m.flagsOnly_flagsSub _ _ _) rfl (Helm.flags_flagsSub_false _ a b)
  case sbc =>
    exact alu_holds hs hu rfl (fun m _ _ => m.flagsOnly_flagsSub _ _ _) (sub_eq_ofInt a b _) (Helm.flags_flagsSub _ a b _ rfl)
  case addi =>
    rw [← hi]
    exact alu_holds hs hu rfl (fun m _ _ => m.flagsOnly_flagsAdd _ _ _) rfl (Helm.flags_flagsAdd_false _ a _)
  case adds => exact alu_holds hs hu rfl (fun m _ _ => m.flagsOnly_flagsSat _ _) (satAdd_eq a b) rfl
  case subs => exact alu_holds hs hu rfl (fun m _ _ => m.flagsOnly_flagsSat _ _) (satSub_eq a b) rfl
  case cmp => exact cmp_holds hs hu rfl (fun m _ => m.flagsOnly_flagsSub _ _ _) (Helm.flags_flagsSub_false _ a b)
  case cmpi =>
    rw [← hi]
    exact cmp_holds hs hu rfl (fun m _ => m.flagsOnly_flagsSub _ _ _) (Helm.flags_flagsSub_false _ a _)

end Sys2Proof.Machine

end

section
/-! # Logic, multiplies, bit counts, shifts and rotates

The results of Tables MSI-2 and MSI-3 as the statements write them. -/

namespace Sys2Proof.Machine

open Reg

set_option Elab.async false

/-! ### Counts of bits -/

/-- A sum of bits is a count. -/
theorem foldl_boolNat (p : Nat → Bool) (l : List Nat) (n : Nat) :
    l.foldl (fun n i => n + boolNat (p i)) n = n + l.countP p := by
  induction l generalizing n with
  | nil => rfl
  | cons i l ih =>
    rw [List.foldl_cons, ih, List.countP_cons]
    cases p i <;> simp [boolNat, Nat.add_assoc, Nat.add_comm 1]

theorem popcount_eq (v : Word) : popcount v = (List.range 32).countP fun k => v.getLsbD k := by
  rw [popcount, foldl_boolNat, Nat.zero_add]

theorem clzOf_spec (v : Word) :
    (v = 0 ∧ clzOf v = 32) ∨ (clzOf v < 32 ∧ 2 ^ (31 - clzOf v) ≤ v.toNat ∧ v.toNat < 2 ^ (32 - clzOf v)) := by
  by_cases h0 : v = 0
  · exact .inl ⟨h0, if_pos h0⟩
  · have hv : v.toNat ≠ 0 := fun e => h0 (BitVec.eq_of_toNat_eq e)
    have hlog : Nat.log2 v.toNat < 32 := (Nat.log2_lt hv).mpr v.isLt
    have e : clzOf v = 31 - Nat.log2 v.toNat := if_neg h0
    refine .inr ⟨by omega, ?_, ?_⟩
    · rw [show 31 - clzOf v = Nat.log2 v.toNat by omega]
      exact Nat.log2_self_le hv
    · rw [show 32 - clzOf v = Nat.log2 v.toNat + 1 by omega]
      exact Nat.lt_log2_self

/-! ### Multiplies and bytes -/

theorem mul_eq_ofNat (x y : Word) : x * y = BitVec.ofNat 32 (x.toNat * y.toNat) := by
  simp [BitVec.ofNat_mul]

/-- The upper half of the product of 64 bits. -/
theorem mulhu_eq (x y : Word) :
    BitVec.ofNat 32 (x.toNat * y.toNat / 2 ^ 32) = (x.zeroExtend 64 * y.zeroExtend 64).extractLsb' 32 32 := by
  apply BitVec.eq_of_toNat_eq
  have hlt : x.toNat * y.toNat < 2 ^ 32 * 2 ^ 32 := Nat.mul_lt_mul'' x.isLt y.isLt
  have hx : x.toNat % 2 ^ 64 = x.toNat := Nat.mod_eq_of_lt (x.isLt.trans (by decide))
  have hy : y.toNat % 2 ^ 64 = y.toNat := Nat.mod_eq_of_lt (y.isLt.trans (by decide))
  rw [BitVec.toNat_ofNat, BitVec.extractLsb'_toNat, BitVec.toNat_mul, BitVec.toNat_setWidth, BitVec.toNat_setWidth, hx, hy, Nat.mod_eq_of_lt (b := 2 ^ 64) hlt, Nat.shiftRight_eq_div_pow]

theorem bswapOf_bytes (v : Word) (k : Nat) (hk : k < 4) :
    (bswapOf v).extractLsb' (8 * k) 8 = v.extractLsb' (8 * (3 - k)) 8 := by
  apply BitVec.eq_of_getLsbD_eq
  intro j hj
  unfold bswapOf
  interval_cases k <;> simp [hj] <;> grind

/-! ### Shifts -/

section

variable (v : Word) {k j : Nat}

theorem getLsbD_shl (hj : j < 32) : (v <<< k).getLsbD j = (decide (k ≤ j) && v.getLsbD (j - k)) := by
  rw [BitVec.getLsbD_shiftLeft, ← decide_not]
  simp [hj]

theorem getLsbD_shr : (v >>> k).getLsbD j = if j + k < 32 then v.getLsbD (j + k) else false := by
  rw [BitVec.getLsbD_ushiftRight, Nat.add_comm k j]
  split
  · rfl
  · exact BitVec.getLsbD_of_ge v _ (by omega)

theorem getLsbD_sar (hj : j < 32) : (v.sshiftRight k).getLsbD j = if j + k < 32 then v.getLsbD (j + k) else v.msb := by
  rw [BitVec.getLsbD_sshiftRight, Nat.add_comm k j]
  simp [Nat.not_le.mpr hj]

theorem getLsbD_ror (hk : k < 32) (hj : j < 32) : (v.rotateRight k).getLsbD j = v.getLsbD ((j + k) % 32) := by
  rw [BitVec.getLsbD_rotateRight, Nat.mod_eq_of_lt hk]
  by_cases h : j < 32 - k
  · rw [Nat.mod_eq_of_lt (by omega : j + k < 32), Nat.add_comm k j]
    simp [h]
  · rw [show (j + k) % 32 = j - (32 - k) by omega]
    simp [h, hj]

end

end Sys2Proof.Machine

end

section
/-! # Logic, multiplies, shifts and rotates

The outcomes of the instructions that set Z and N, and of the shifts and rotates, which set C too. -/

namespace Sys2Proof.Machine

open Reg

set_option Elab.async false

/-- A shift or rotate by `k`: the result's bits are `f`, and C is `out`, the last bit shifted out, unless `k` is 0. -/
def ShiftDone (s : State) (h k : Nat) (f : Nat → Bool) (out : Bool) (t : State) : Prop :=
  ∃ r : Word, (∀ j, j < 32 → r.getLsbD j = f j) ∧
    AluDone s h 1 r (r == 0, r.msb, if k = 0 then (s.helm h).c else out, (s.helm h).v) t

section

variable {s : State} {h : Fin 32} {u : Upset} {i : Instr} {op : HOp} {k : Nat} {r : Word}
  {val : Helm → Word → Word} {amt : Helm → Word → Nat}
  (hs : s.Good True) (hu : u ≠ .imemParity) (hk : amt ((s.helm h).spent 1) (s.word_ h) = k)
include hs hu

/-- A result that sets Z and N alone. -/
theorem zn_holds (hi : exec i s = .next (s.aluStep h u op k val znFlags)) (hv : val ((s.helm h).spent k) (s.word_ h) = r)
    (hr : s.helmRuns h op k = true) : ∃ t, exec i s = .next t ∧ AluDone s h k r (s.znOf h r) t :=
  alu_holds hs hu hi (fun m _ r => m.flagsOnly_setZN r) hv rfl hr

include hk

/-- A shift's or rotate's outcome, for its bits `f` and the last bit shifted out `out` (Table MSI-2). -/
theorem shift_holds {out : Word → Nat → Bool} {f : Nat → Bool}
    (hi : exec i s = .next (s.aluStep h u op 1 val fun m x r => m.flagsShift r (amt m x) (out (opA m x) (amt m x))))
    (hf : ∀ j, j < 32 → (val ((s.helm h).spent 1) (s.word_ h)).getLsbD j = f j) (hr : s.helmRuns h op 1 = true) :
    ∃ t, exec i s = .next t ∧ ShiftDone s h k f (out (s.srcA h) k) t := by
  obtain ⟨t, ht, hd⟩ := alu_holds hs hu hi (fun m _ r => m.flagsOnly_flagsShift r _ _) rfl
    ((Helm.flags_flagsShift ..).trans (by rw [hk])) hr
  exact ⟨t, ht, _, hf, hd⟩

theorem shl_holds (hi : exec i s = .next (s.aluStep h u op 1 (fun m x => opA m x <<< amt m x) fun m x r =>
      m.flagsShift r (amt m x) (shlOut (opA m x) (amt m x)))) (hr : s.helmRuns h op 1 = true) :
    ∃ t, exec i s = .next t ∧ ShiftDone s h k (fun j => decide (k ≤ j) && (s.srcA h).getLsbD (j - k))
      ((s.srcA h).getLsbD (32 - k)) t := by
  subst hk
  exact shift_holds hs hu rfl hi (fun _ hj => getLsbD_shl _ hj) hr

theorem shr_holds (hi : exec i s = .next (s.aluStep h u op 1 (fun m x => opA m x >>> amt m x) fun m x r =>
      m.flagsShift r (amt m x) (shrOut (opA m x) (amt m x)))) (hr : s.helmRuns h op 1 = true) :
    ∃ t, exec i s = .next t ∧ ShiftDone s h k (fun j => if j + k < 32 then (s.srcA h).getLsbD (j + k) else false)
      ((s.srcA h).getLsbD (k - 1)) t := by
  subst hk
  exact shift_holds hs hu rfl hi (fun _ _ => getLsbD_shr _) hr

theorem sar_holds (hi : exec i s = .next (s.aluStep h u op 1 (fun m x => (opA m x).sshiftRight (amt m x)) fun m x r =>
      m.flagsShift r (amt m x) (shrOut (opA m x) (amt m x)))) (hr : s.helmRuns h op 1 = true) :
    ∃ t, exec i s = .next t ∧ ShiftDone s h k
      (fun j => if j + k < 32 then (s.srcA h).getLsbD (j + k) else (s.srcA h).msb) ((s.srcA h).getLsbD (k - 1)) t := by
  subst hk
  exact shift_holds hs hu rfl hi (fun _ hj => getLsbD_sar _ hj) hr

theorem ror_holds (hlt : k < 32) (hi : exec i s = .next (s.aluStep h u op 1 (fun m x => (opA m x).rotateRight (amt m x))
      fun m x r => m.flagsShift r (amt m x) (shrOut (opA m x) (amt m x)))) (hr : s.helmRuns h op 1 = true) :
    ∃ t, exec i s = .next t ∧ ShiftDone s h k (fun j => (s.srcA h).getLsbD ((j + k) % 32))
      ((s.srcA h).getLsbD (k - 1)) t := by
  subst hk
  exact shift_holds hs hu rfl hi (fun _ hj => getLsbD_ror _ hlt hj) hr

end

/-- Settles O6: the results have their lemmas above; the flags are those of `zn_holds` and `shift_holds`. -/
theorem helmLogicMultipliesShiftsAndRotates : Obligations.HelmLogicMultipliesShiftsAndRotates := by
  unfold Obligations.HelmLogicMultipliesShiftsAndRotates
  constructor
  · intro s h u hwf hu a b i
    have hs := (State.wf_iff s).mp hwf
    have hi : zImm12 (s.word_ h) = i := zImm12_eq _
    refine ⟨?and, ?or, ?xor, ?andn, ?andi, ?ori, ?xori, ?tst, ?tsti, ?mul, ?mulhu, ?popc, ?clz, ?bswap⟩
    case and => exact zn_holds hs hu rfl rfl
    case or => exact zn_holds hs hu rfl rfl
    case xor => exact zn_holds hs hu rfl rfl
    case andn => exact zn_holds hs hu rfl rfl
    case andi => exact zn_holds hs hu rfl (congrArg (a &&& ·) hi)
    case ori => exact zn_holds hs hu rfl (congrArg (a ||| ·) hi)
    case xori => exact zn_holds hs hu rfl (congrArg (a ^^^ ·) hi)
    case tst => exact cmp_holds hs hu rfl (fun m _ => m.flagsOnly_setZN _) rfl
    case tsti =>
      rw [← hi]
      exact cmp_holds hs hu rfl (fun m _ => m.flagsOnly_setZN _) rfl
    case mul => exact zn_holds hs hu rfl (mul_eq_ofNat a b)
    case mulhu => exact zn_holds hs hu rfl (mulhu_eq a b)
    case popc => exact zn_holds hs hu rfl (congrArg _ (popcount_eq a))
    case clz =>
      intro hr
      obtain ⟨t, ht, hd⟩ := zn_holds (i := .clz h u) hs hu rfl rfl hr
      exact ⟨t, clzOf a, ht, hd, clzOf_spec a⟩
    case bswap =>
      intro hr
      obtain ⟨t, ht, hd⟩ := zn_holds (i := .bswap h u) hs hu rfl rfl hr
      exact ⟨t, bswapOf a, ht, hd, bswapOf_bytes a⟩
  · intro s h u hwf hu
    have hs := (State.wf_iff s).mp hwf
    dsimp only
    refine ⟨?shl, ?shr, ?sar, ?ror, ?shli, ?shri, ?sari, ?rori⟩
    case shl => exact shl_holds hs hu rfl rfl
    case shr => exact shr_holds hs hu rfl rfl
    case sar => exact sar_holds hs hu rfl rfl
    case ror => exact ror_holds hs hu rfl (Nat.mod_lt _ (by decide)) rfl
    case shli => exact shl_holds hs hu rfl rfl
    case shri => exact shr_holds hs hu rfl rfl
    case sari => exact sar_holds hs hu rfl rfl
    case rori => exact ror_holds hs hu rfl (Nat.mod_lt _ (by decide)) rfl

end Sys2Proof.Machine

end

section
/-! # What the decoder says of a word

Where a field of an instruction has fewer values than its width allows, a word that spells the instruction holds one of
them (R212). -/

namespace Sys2Proof.Machine

open Reg

set_option Elab.async false

/-- The values that the fields of a word have which spells the instruction, where they are fewer than the field's own
(Tables MSI-2, MSI-3, MSI-5, MSI-8, MSI-10 and R238). -/
def HOp.fieldsOk (x : Word) : HOp → Prop
  | .csel => wFnA x < 16
  | .rds => wImm16 x < 4
  | .loop => wKind x ≠ 3
  | .ohrd | .ohwr | .ohwm => wFnE x < 3
  | .crc => wFld x 0 4 ≤ 4 ∧ wFld x 4 2 ≤ 2
  | .raise => 2 ≤ wImm16 x ∧ wImm16 x ≤ 7
  | .raises => wImm16 x ≤ 15
  | _ => True

section

variable {x : Word} {op : HOp}

theorem decodeAluA_fieldsOk (h : decodeAluA x = some op) : op.fieldsOk x := by
  unfold decodeAluA at h
  split at h <;> grind [whenZero, HOp.fieldsOk]

theorem decodeAluI_fieldsOk (h : decodeAluI x = some op) : op.fieldsOk x := by
  unfold decodeAluI at h
  split at h <;> grind [whenZero, HOp.fieldsOk]

theorem decodeCmp_fieldsOk (h : decodeCmp x = some op) : op.fieldsOk x := by
  unfold decodeCmp at h
  split at h <;> grind [whenZero, HOp.fieldsOk]

theorem decodeBranch_fieldsOk (h : decodeBranch x = some op) : op.fieldsOk x := by
  unfold decodeBranch at h
  split at h <;> grind [whenZero, HOp.fieldsOk]

theorem decodeMem_fieldsOk (h : decodeMem x = some op) : op.fieldsOk x := by
  unfold decodeMem at h
  split at h <;> grind [whenZero, HOp.fieldsOk]

theorem decodePort_fieldsOk (h : decodePort x = some op) : op.fieldsOk x := by
  unfold decodePort at h
  split at h <;> grind [whenZero, HOp.fieldsOk]

theorem decodeHelper_fieldsOk (h : decodeHelper x = some op) : op.fieldsOk x := by
  unfold decodeHelper at h
  split at h <;> grind [whenZero, HOp.fieldsOk]

theorem decodeCtl_fieldsOk (h : decodeCtl x = some op) : op.fieldsOk x := by
  unfold decodeCtl at h
  split at h <;> grind [whenZero, HOp.fieldsOk]

/-- A word that spells an instruction holds values of its fields that the instruction has. -/
theorem helmOp_fieldsOk (h : helmOp x = some op) : op.fieldsOk x := by
  simp only [helmOp] at h
  split_ifs at h
  · exact decodeAluA_fieldsOk h
  · exact decodeAluI_fieldsOk h
  · exact decodeCmp_fieldsOk h
  · exact decodeBranch_fieldsOk h
  · exact decodeMem_fieldsOk h
  · exact decodeHelper_fieldsOk h
  · exact decodePort_fieldsOk h
  · exact decodeCtl_fieldsOk h

theorem State.helmRuns_fieldsOk {s : State} {h k : Nat} (hr : s.helmRuns h op k = true) : op.fieldsOk (s.word_ h) := by
  obtain ⟨_, _, _, _, hop⟩ := State.helmRuns_run hr
  exact helmOp_fieldsOk hop

end

end Sys2Proof.Machine

end

section
/-! # Moves, fields and step helpers

The results of Tables MSI-1 to MSI-3 and MSI-10 to MSI-12 as the statements write them. -/

namespace Sys2Proof.Machine

open Reg

set_option Elab.async false

/-! ### Conditions (R217) -/

/-- The tests of Table MSI-1 in their order. -/
def Helm.tests (m : Helm) : List Bool := [true, m.z, m.n, m.c, m.v, m.c || m.z, m.n != m.v, m.z || (m.n != m.v)]

theorem Helm.test_eq (m : Helm) {k : Nat} (hk : k < 8) : m.test k = m.tests.getD k false := by
  interval_cases k <;> rfl

theorem Helm.cond_eq (m : Helm) {c : Nat} (hc : c < 16) :
    m.cond c = if c < 8 then m.tests.getD c false else !(m.tests.getD (c - 8) false) := by
  rw [Helm.cond, Helm.test_eq m (Nat.mod_lt _ (by decide))]
  split
  · rename_i h
    rw [Nat.mod_eq_of_lt h, decide_eq_false (by omega), Bool.bne_false]
  · rename_i h
    rw [show c % 8 = c - 8 by omega, decide_eq_true (by omega), Bool.bne_true]

theorem wFnA_eq_low (x : Word) (h : wFnA x < 16) : wFld x 0 4 = wFnA x := by
  simp only [wFnA, wFld, bitsAt] at *
  omega

/-! ### Moves -/

/-- MOVH keeps the lower half. -/
theorem movh_eq (i : Nat) (d : Word) :
    BitVec.ofNat 32 i <<< 16 ||| (d &&& 0xFFFF) = (BitVec.ofNat 16 i ++ d.extractLsb' 0 16 : BitVec 32) := by
  apply BitVec.eq_of_getLsbD_eq
  intro j hj
  have hm : (0xFFFF : Word).getLsbD j = decide (j < 16) := by
    revert hj
    revert j
    decide
  rw [BitVec.getLsbD_or, BitVec.getLsbD_and, BitVec.getLsbD_shiftLeft, BitVec.getLsbD_append, hm]
  by_cases h : j < 16
  · simp [h]
  · have : j - 16 < 16 := by omega
    simp only [BitVec.getLsbD_ofNat, h, hj, this, decide_true, decide_false, Bool.true_and, Bool.and_false, Bool.or_false,
      Bool.not_false, if_false, (by omega : j - 16 < 32)]

/-- RDS reads the special registers of Table MSM-2; tm as it was before the instruction's cycle. -/
theorem Helm.special_spent (m : Helm) {k : Nat} (hk : k < 4) :
    (m.spent 1).special k = ([BitVec.ofNat 32 m.pc, m.ev, m.fc, m.tm] : List Word).getD k 0 := by
  interval_cases k
  · rfl
  · rfl
  · rfl
  · exact BitVec.add_sub_cancel _ _

/-! ### Bit fields -/

/-- EXTU: the field's bits, and 0 above them. -/
theorem getLsbD_extu (v : Word) (p w j : Nat) (hj : j < 32) :
    (BitVec.ofNat 32 (v.toNat / 2 ^ p % 2 ^ w)).getLsbD j = (decide (j < w) && v.getLsbD (j + p)) := by
  rw [BitVec.getLsbD_ofNat, Nat.testBit_mod_two_pow, Nat.testBit_div_two_pow, decide_eq_true hj, Bool.true_and]
  rfl

theorem getLsbD_fieldMask (x : Word) {j : Nat} (hj : j < 32) :
    (fieldMask x).getLsbD j = decide (fieldPos x ≤ j ∧ j < fieldPos x + fieldWidth x) := by
  rw [fieldMask, BitVec.getLsbD_ofNat, Nat.testBit_mul_two_pow, Nat.testBit_two_pow_sub_one, decide_eq_true hj,
    Bool.true_and, ← Bool.decide_and]
  exact decide_eq_decide.mpr (by omega)

/-- INS: the field is of the source, the rest is kept. -/
theorem getLsbD_ins (x v d : Word) {j : Nat} (hj : j < 32) :
    ((d &&& ~~~(fieldMask x)) ||| ((v <<< fieldPos x) &&& fieldMask x)).getLsbD j =
      if fieldPos x ≤ j ∧ j < fieldPos x + fieldWidth x then v.getLsbD (j - fieldPos x) else d.getLsbD j := by
  simp only [BitVec.getLsbD_or, BitVec.getLsbD_and, BitVec.getLsbD_not, BitVec.getLsbD_shiftLeft, getLsbD_fieldMask x hj, hj]
  split
  · rename_i h
    simp [h, Nat.not_lt.mpr h.1]
  · rename_i h
    simp [h]

/-! ### BIP and BERR -/

theorem getLsbD_bip8 (v d : Word) {j : Nat} (hj : j < 32) :
    (d ^^^ ((v ^^^ (v >>> 8) ^^^ (v >>> 16) ^^^ (v >>> 24)) &&& 0xFF)).getLsbD j =
      xor (d.getLsbD j) (decide (j < 8) && xor (xor (v.getLsbD j) (v.getLsbD (j + 8)))
        (xor (v.getLsbD (j + 16)) (v.getLsbD (j + 24)))) := by
  have hm : (0xFF : Word).getLsbD j = decide (j < 8) := by
    revert hj
    revert j
    decide
  simp only [BitVec.getLsbD_xor, BitVec.getLsbD_and, BitVec.getLsbD_ushiftRight, hm, Nat.add_comm _ j, Bool.xor_assoc]
  rw [Bool.and_comm]

/-- A bit of an xor of many words is the xor of their bits. -/
theorem getLsbD_foldl_xor (f : Nat → Word) (l : List Nat) (r : Word) (j : Nat) :
    (l.foldl (fun r k => r ^^^ f k) r).getLsbD j = l.foldl (fun q k => xor q ((f k).getLsbD j)) (r.getLsbD j) := by
  induction l generalizing r with
  | nil => rfl
  | cons k l ih => rw [List.foldl_cons, ih, BitVec.getLsbD_xor, List.foldl_cons]

theorem getLsbD_bip2Of (v : Word) {j : Nat} (hj : j < 32) : (bip2Of v).getLsbD j =
    (decide (j < 2) && (List.range 16).foldl (fun q k => xor q (v.getLsbD (2 * k + j))) false) := by
  have hm : (3 : Word).getLsbD j = decide (j < 2) := by
    revert hj
    revert j
    decide
  have e : ∀ k, ((v >>> (2 * k)) &&& 3).getLsbD j = (v.getLsbD (2 * k + j) && decide (j < 2)) := fun k => by
    rw [BitVec.getLsbD_and, BitVec.getLsbD_ushiftRight, hm]
  rw [bip2Of, getLsbD_foldl_xor]
  simp only [e]
  by_cases h : j < 2
  · simp [h]
  · simp [h]

theorem popcount_xor (x y : Word) :
    popcount (x ^^^ y) = (List.range 32).countP fun k => x.getLsbD k != y.getLsbD k := by
  simp only [popcount_eq, BitVec.getLsbD_xor]

/-! ### CRC (R230) -/

/-- The CRC over bytes, bit by bit. -/
theorem crcBytes_eq (w g c : Nat) (l : List Byte) :
    crcBytes w g c l = (l.flatMap fun b => [7, 6, 5, 4, 3, 2, 1, 0].map fun j => b.getLsbD j).foldl (crcBit w g) c := by
  rw [crcBytes, List.foldl_flatMap]
  congr 1

/-- The bits of the bytes `l` of a word, most significant first. -/
def crcBits (v : Word) (l : List Nat) : List Bool := l.flatMap fun k => [7, 6, 5, 4, 3, 2, 1, 0].map fun j => v.getLsbD (8 * k + j)

theorem leBytes_eq_map (n : Nat) (v : Word) :
    leBytes n v.toNat = (List.range n).map fun k => v.extractLsb' (8 * k) 8 := by
  apply List.ext_getElem
  · simp [leBytes_length]
  · intro k h1 h2
    rw [leBytes_length] at h1
    have e := leBytes_word v n k h1
    rw [List.getD_eq_getElem _ _ (by rwa [leBytes_length])] at e
    simpa using e

theorem crcBytes_word (w g c : Nat) (v : Word) (l : List Nat) :
    crcBytes w g c (l.map fun k => v.extractLsb' (8 * k) 8) = (crcBits v l).foldl (crcBit w g) c := by
  rw [crcBytes_eq, List.flatMap_map, crcBits]
  simp [BitVec.getLsbD_extractLsb']

/-- Widths and generators of Table MSI-11. -/
theorem crcPoly_eq {p : Nat} (hp : p ≤ 4) :
    crcPoly p = ([4, 6, 8, 16, 32].getD p 0, [0x3, 0x03, 0x07, 0x1021, 0x04C11DB7].getD p 0) := by
  interval_cases p <;> rfl

/-- The data bits of a CRC step: a bit, a byte or four bytes of the word. -/
def crcData (v : Word) (st : Nat) : List Bool :=
  if st = 0 then [v.getLsbD 0] else crcBits v (if st = 1 then [0] else [0, 1, 2, 3])

theorem crcStepOf_eq {p st w g : Nat} (hp : crcPoly p = (w, g)) (hst : st ≤ 2) (crc v : Word) :
    crcStepOf p st crc v = BitVec.ofNat 32 ((crcData v st).foldl (crcBit w g) (crc.toNat % 2 ^ w)) := by
  have hbs : leBytes 4 v.toNat = [0, 1, 2, 3].map fun k => v.extractLsb' (8 * k) 8 := leBytes_eq_map 4 v
  simp only [crcStepOf, hp, hbs]
  interval_cases st
  · rfl
  · exact congrArg _ (crcBytes_word w g _ v [0])
  · exact congrArg _ (crcBytes_word w g _ v [0, 1, 2, 3])

/-! ### Fields within IMM12 -/

theorem wFld_zero_four (x : Word) : wFld x 0 4 = wImm12 x % 16 := by
  simp only [wImm12, wFld, bitsAt]
  omega

theorem wFld_four_two (x : Word) : wFld x 4 2 = wImm12 x / 16 % 4 := by
  simp only [wImm12, wFld, bitsAt]
  omega

theorem fieldWidth_eq (x : Word) : fieldWidth x = wImm12 x / 32 % 32 + 1 := by
  simp only [fieldWidth, wImm12, wFld, bitsAt]
  omega

section

variable {s : State} {h : Fin 32} {u : Upset} {i : Instr} {op : HOp} {k : Nat} {v : Word} {val : Helm → Word → Word}

/-- A result that keeps the flags. -/
theorem move_holds (hs : s.Good True) (hu : u ≠ .imemParity) (hi : exec i s = .next (s.aluStep h u op k val noFlags))
    (hv : val ((s.helm h).spent k) (s.word_ h) = v) (hr : s.helmRuns h op k = true) :
    ∃ t, exec i s = .next t ∧ AluDone s h k v (s.helm h).flags t :=
  alu_holds hs hu hi (fun m _ _ => .refl m) hv rfl hr

theorem csel_holds (hs : s.Good True) (hu : u ≠ .imemParity) (hr : s.helmRuns h .csel 1 = true) :
    ∃ t, exec (.csel h u) s = .next t ∧ AluDone s h 1 (if (if wFnA (s.word_ h) < 8
      then (s.helm h).tests.getD (wFnA (s.word_ h)) false else !((s.helm h).tests.getD (wFnA (s.word_ h) - 8) false))
      then s.srcA h else s.srcB h) (s.helm h).flags t := by
  have hc : wFnA (s.word_ h) < 16 := State.helmRuns_fieldsOk hr
  refine move_holds hs hu rfl ?_ hr
  rw [wFnA_eq_low _ hc, Helm.cond_eq _ hc]
  rfl

theorem tbin_holds (hs : s.Good True) (hu : u ≠ .imemParity) (hr : s.helmRuns h .tbin 1 = true) :
    ∃ t, exec (.tbin h u) s = .next t ∧ AluDone s h 1 (BitVec.ofNat 32 (binOf (s.srcA h).toNat)) (s.helm h).flags t := by
  have hm := State.helm_helmCycles hs h 1
  refine ⟨_, congrArg Host.Outcome.next (State.helmStep_ok hr hu rfl ?_), aluDone_setReg hs h 1 _⟩
  simp only [hm]
  rfl

theorem crc_holds (hs : s.Good True) (hu : u ≠ .imemParity) (hk : k = if wFld (s.word_ h) 4 2 = 2 then 2 else 1)
    (hr : s.helmRuns h .crc k = true)
    (hv : crcStepOf (wFld (s.word_ h) 0 4) (wFld (s.word_ h) 4 2) (s.srcD h) (s.srcA h) = v) :
    ∃ t, exec (.crc h u) s = .next t ∧ AluDone s h k v (v == 0, (s.helm h).n, (s.helm h).c, (s.helm h).v) t := by
  have hm := State.helm_helmCycles hs h k
  refine ⟨_, congrArg Host.Outcome.next (State.helmStep_ok hr hu hk.symm ?_),
    aluDone_flagged (m' := ((s.helm h).spent k).flagsZ v) hs v (Helm.flagsOnly_flagsZ _ v)⟩
  rw [← hv]
  simp only [hm]
  rfl

end

/-- bin as the statement has it (R232). -/
theorem binOf_cases (v : Word) : (v = 0 ∧ binOf v.toNat = 0) ∨
    (binOf v.toNat ≠ 0 ∧ 2 ^ (binOf v.toNat - 1) ≤ v.toNat ^ 8 ∧ v.toNat ^ 8 < 2 ^ binOf v.toNat) := by
  by_cases h0 : v = 0
  · exact .inl ⟨h0, by simp [h0, binOf]⟩
  · exact .inr (binOf_spec (Nat.pos_of_ne_zero fun e => h0 (BitVec.eq_of_toNat_eq e)))

/-- Settles O7: the results have their lemmas above; the flags are those of the forms of instruction. -/
theorem helmMovesFieldsAndStepHelpers : Obligations.HelmMovesFieldsAndStepHelpers := by
  unfold Obligations.HelmMovesFieldsAndStepHelpers
  constructor
  · intro s h u hwf hu a m x i p w tests
    have hs := (State.wf_iff s).mp hwf
    refine ⟨?csel, ?movl, ?movs, ?movh, ?rds, ?extu, ?ins, ?tbin⟩
    case csel => exact csel_holds hs hu
    case movl => exact move_holds hs hu rfl (zImm16_eq x)
    case movs => exact move_holds hs hu rfl (ofInt_signExt 32 (by decide) (wImm16_lt x))
    case movh => exact move_holds hs hu rfl (movh_eq _ _)
    case rds => exact fun hr => move_holds hs hu rfl (Helm.special_spent m (State.helmRuns_fieldsOk hr)) hr
    case extu =>
      intro hr
      obtain ⟨t, ht, hd⟩ := zn_holds (i := .extu h u) hs hu rfl rfl hr
      exact ⟨t, _, ht, hd, fun j hj => (getLsbD_extu a p _ j hj).trans (by rw [fieldWidth_eq])⟩
    case ins =>
      intro hr
      obtain ⟨t, ht, hd⟩ := zn_holds (i := .ins h u) hs hu rfl rfl hr
      exact ⟨t, _, ht, hd, fun j hj => (getLsbD_ins x a (s.srcD h) hj).trans (by rw [fieldWidth_eq]; rfl)⟩
    case tbin =>
      intro hr
      obtain ⟨t, ht, hd⟩ := tbin_holds hs hu hr
      exact ⟨t, _, ht, hd, binOf_cases a⟩
  · intro s h u hwf hu a d m x p st width poly bitStep bits
    have hs := (State.wf_iff s).mp hwf
    refine ⟨?crc, ?bip8, ?bip2, ?berr⟩
    case crc =>
      intro hr
      obtain ⟨hp, hst⟩ : wFld x 0 4 ≤ 4 ∧ wFld x 4 2 ≤ 2 := State.helmRuns_fieldsOk hr
      refine crc_holds hs hu ?_ hr ?_
      · rw [wFld_four_two]
      · refine (crcStepOf_eq (crcPoly_eq hp) hst d a).trans ?_
        rw [wFld_zero_four, wFld_four_two]
        rfl
    case bip8 =>
      intro hr
      obtain ⟨t, ht, hd⟩ := zn_holds (i := .bip8 h u) hs hu rfl rfl hr
      exact ⟨t, _, ht, hd, fun j hj => getLsbD_bip8 a d hj⟩
    case bip2 =>
      intro hr
      obtain ⟨t, ht, hd⟩ := zn_holds (i := .bip2 h u) hs hu rfl rfl hr
      refine ⟨t, _, ht, hd, fun j hj => ?_⟩
      rw [← getLsbD_bip2Of a hj]
      exact BitVec.getLsbD_xor
    case berr =>
      have hn : d.toNat + popcount (a ^^^ s.srcB h) =
          d.toNat + (List.range 32).countP fun k => a.getLsbD k != (s.srcB h).getLsbD k := by rw [popcount_xor]
      dsimp only
      rw [← hn, Nat.min_comm]
      exact alu_holds hs hu rfl (fun m _ _ => m.flagsOnly_flagsSat _ _) rfl rfl

end Sys2Proof.Machine

end

section
/-! # Branches and LOOP

What a taken branch makes of the Helm, the faults of PC_RANGE, and the body of a loop (R200, R218 to R222). -/

namespace Sys2Proof.Machine

open Reg

set_option Elab.async false

section

variable {m : Helm} {x : Word} {t : Nat} {link ends : Bool}

/-! ### The Helm after a taken branch -/

/-- The Helm at its target, linked and with the loops left where the branch links and leaves them. -/
def Helm.jumped (m : Helm) (t : Nat) (link ends : Bool) : Helm :=
  let m := if link then m.setReg 15 (BitVec.ofNat 32 (m.pc + 1)) else m
  let m := if ends then { m with loops := loopsKept t m.loops } else m
  { m with pc := t }

theorem Helm.Good.jumped (hm : m.Good True) : (m.jumped t link ends).Good True :=
  .update (.either (.update (.either hm.setReg hm)) (.either hm.setReg hm))

theorem Helm.jumped_eq (m : Helm) (t : Nat) (link ends : Bool) :
    m.jumped t link ends = { m with
      pc := t, loops := if ends then loopsKept t m.loops else m.loops
      g := if link then (m.setReg 15 (BitVec.ofNat 32 (m.pc + 1))).g else m.g } := by
  cases link <;> cases ends <;> simp [Helm.jumped, Helm.setReg]

theorem Helm.reg_jumped (hm : m.Good True) (k : Nat) :
    (m.jumped t link ends).reg k = if link ∧ k = 15 then BitVec.ofNat 32 (m.pc + 1) else m.reg k := by
  rw [Helm.jumped_eq]
  cases link
  · rfl
  · refine (Helm.reg_setReg hm 15 k (BitVec.ofNat 32 (m.pc + 1))).trans ?_
    have hk : (k = 15 ∧ k ≠ 0) ↔ k = 15 := by omega
    simp [hk]

theorem Helm.inCode_iff (m : Helm) (t : Int) : m.inCode t = true ↔ 0 ≤ t ∧ t < (m.codeWords : Int) := decide_eq_true_iff

/-- The signed offset of a branch or LOOP (R200). -/
theorem wTarget_eq (x : Word) (pc : Nat) : wTarget x pc = (pc : Int) + (BitVec.ofNat 20 (wOff20 x)).toInt := by
  have hlt : wOff20 x < 2 ^ 20 := Nat.mod_lt _ (by decide)
  have e : signExt 20 (wOff20 x) = (BitVec.ofNat 20 (wOff20 x)).toInt := by
    rw [BitVec.toInt_eq_toNat_cond, BitVec.toNat_ofNat, signExt]
    split <;> split <;> omega
  rw [wTarget, e]

end

/-- A branch not taken: the Helm falls through after a cycle. -/
def Passed (s : State) (h : Nat) (t : State) : Prop :=
  t.helm h = ((s.helm h).spent 1).fallThrough ∧ OnlyHelm h s t ∧ SameMem s t

/-- A branch taken to `target`: pc, the loops and, linked, g15 are the target's; nothing else has changed but the cycles. -/
def Jumped (s : State) (h : Nat) (target : Int) (ends link : Bool) (t : State) : Prop :=
  OnlyHelm h s t ∧ SameMem s t ∧ ((t.helm h).pc : Int) = target ∧
    (t.helm h).loops = (if ends then loopsKept target.toNat (s.helm h).loops else (s.helm h).loops) ∧
    (∀ k, (t.helm h).reg k = if link ∧ k = 15 then BitVec.ofNat 32 ((s.helm h).pc + 1) else (s.helm h).reg k) ∧
    t.helm h = { (s.helm h).spent 2 with pc := (t.helm h).pc, loops := (t.helm h).loops, g := (t.helm h).g }

section

variable {s : State} {h : Fin 32} {u : Upset} {i : Instr} {op : HOp} {taken : Helm → Word → Bool} {target : Helm → Word → Int}
  {link ends b : Bool} {tg : Int}
  (hs : s.Good True) (hu : u ≠ .imemParity)
include hs

/-- What a taken branch within the code leaves. -/
theorem jumped_spent (htg : 0 ≤ tg) :
    Jumped s h tg ends link ((s.helmCycles h 2).setHelm h (((s.helm h).spent 2).jumped tg.toNat link ends)) := by
  have hg := hs.helmCycles (h := h) (k := 2)
  have ho := ((OnlyHelm.refl (h : Nat) s).helmCycles hs 2).setHelm hg (((s.helm h).spent 2).jumped tg.toNat link ends)
  refine ⟨ho, ho.sameMem, ?_, ?_, fun k => ?_, ?_⟩ <;> rw [State.helm_setHelm_same (hg.helms trivial)]
  · rw [Helm.jumped_eq]
    exact Int.toNat_of_nonneg htg
  · rw [Helm.jumped_eq]
    rfl
  · exact Helm.reg_jumped hs.helm.spent k
  · rw [Helm.jumped_eq]

include hu

/-- A branch's outcomes: not taken, taken within the code, and PC_RANGE (R218). -/
theorem branch_holds (hi : exec i s = .next (s.branchStep h u op taken target link ends))
    (hb : taken (s.helm h) (s.word_ h) = b) (hb' : ∀ k, taken ((s.helm h).spent k) (s.word_ h) = b)
    (htg : target ((s.helm h).spent 2) (s.word_ h) = tg) (hr : s.helmRuns h op (if b then 2 else 1) = true) :
    if b then
      if 0 ≤ tg ∧ tg < ((s.helm h).codeWords : Int) then ∃ t, exec i s = .next t ∧ Jumped s h tg ends link t
      else exec i s = .next ((s.helmCycles h 2).helmFault h 6)
    else ∃ t, exec i s = .next t ∧ Passed s h t := by
  rw [hi]
  cases b
  · replace hr : s.helmRuns h op 1 = true := hr
    have hm := State.helm_helmCycles hs h 1
    have ho := ((OnlyHelm.refl (h : Nat) s).helmCycles hs 1).helmNext hs.helmCycles
    refine ⟨_, congrArg _ (State.helmStep_ok hr hu (by simp [hb]) (by simp only [hm, hb']; rfl)), ?_, ho, ho.sameMem⟩
    rw [State.helmNext, State.helm_setHelm_same (hs.helmCycles.helms trivial), hm]
  · replace hr : s.helmRuns h op 2 = true := hr
    have hm := State.helm_helmCycles hs h 2
    rw [if_pos rfl]
    split
    · rename_i hin
      have hc := (Helm.inCode_iff ((s.helm h).spent 2) tg).mpr hin
      exact ⟨_, congrArg _ (State.helmStep_ok hr hu (by simp [hb]) (by simp only [hm, hb', htg, hc]; rfl)), jumped_spent hs hin.1⟩
    · rename_i hout
      have hc := Bool.eq_false_iff.mpr (mt (Helm.inCode_iff ((s.helm h).spent 2) tg).mp hout)
      exact congrArg _ (State.helmStep_fault hr hu (by simp [hb]) (by simp only [hm, hb', htg, hc]; rfl))

end

/-- Settles O8: each branch is `branch_holds` with its condition and target. -/
theorem helmBranchesAndTheirRange : Obligations.HelmBranchesAndTheirRange := by
  unfold Obligations.HelmBranchesAndTheirRange
  intro s h u hwf hu m x far back passes goesTo branch
  have hs := (State.wf_iff s).mp hwf
  have hfar : wTarget x m.pc = far := wTarget_eq _ _
  have hback : (((m.reg 15).toNat % 4096 : Nat) : Int) = back := by
    simp [back, BitVec.extractLsb'_toNat]
  refine ⟨?b, ?bl, ?ret, ?cbz, ?cbnz⟩
  case b => exact branch_holds hs hu rfl rfl (fun _ => rfl) hfar
  case bl => exact branch_holds hs hu rfl rfl (fun _ => rfl) hfar
  case ret => exact branch_holds hs hu rfl rfl (fun _ => rfl) hback
  case cbz => exact branch_holds hs hu rfl rfl (fun _ => rfl) hfar
  case cbnz => exact branch_holds hs hu rfl rfl (fun _ => rfl) hfar

/-! ### LOOP -/

section

variable {m : Helm} {l : LoopSt} {ls : List LoopSt}

/-- At the end of the innermost body with iterations left the body runs again (R222). -/
theorem Helm.fallThrough_again (hl : m.loops = l :: ls) (hp : l.last = m.pc) (h0 : l.left ≠ 0) :
    m.fallThrough = { m with pc := l.first, loops := { l with left := l.left - 1 } :: ls } := by
  simp [Helm.fallThrough, hl, loopEnd, hp, h0]

/-- The only loop ends with its last iteration. -/
theorem Helm.fallThrough_ends (hl : m.loops = [l]) (hp : l.last = m.pc) (h0 : l.left = 0) :
    m.fallThrough = { m with pc := (m.pc + 1) % 4096, loops := [] } := by
  simp [Helm.fallThrough, hl, loopEnd, hp, h0]

/-- Away from the end of every body no loop changes. -/
theorem loopEnd_away {p : Nat} (h : ∀ l ∈ ls, l.last ≠ p) : loopEnd p ls = (ls, none) := by
  induction ls with
  | nil => rfl
  | cons l ls ih =>
    rw [loopEnd, if_neg (h l (List.mem_cons_self ..)), ih fun l hl => h l (List.mem_cons_of_mem _ hl)]

theorem Helm.fallThrough_away (h : ∀ l ∈ m.loops, l.last ≠ m.pc) : m.fallThrough = { m with pc := (m.pc + 1) % 4096 } := by
  rw [Helm.fallThrough, loopEnd_away h]

end

section

variable {s : State} {h : Fin 32} {u : Upset} {n k : Nat} {e : Int}

/-- LOOP's outcomes (R220, R221), for its count `n` and end `e`. -/
theorem loop_holds (hs : s.Good True) (hu : u ≠ .imemParity) (hn : loopCount (s.helm h) (s.word_ h) = n)
    (he : wTarget (s.word_ h) (s.helm h).pc = e) (hk : k = if n = 0 then 2 else 1) (hr : s.helmRuns h .loop k = true) :
    if 4 ≤ (s.helm h).loops.length then exec (.loop h u) s = .next ((s.helmCycles h k).helmFault h 1)
    else if e ≤ (s.helm h).pc ∨ ((s.helm h).codeWords : Int) ≤ e then
      exec (.loop h u) s = .next ((s.helmCycles h k).helmFault h 6)
    else ∃ t, exec (.loop h u) s = .next t ∧ OnlyHelm h s t ∧ SameMem s t ∧
      if n = 0 then t.helm h = { (s.helm h).spent 2 with pc := (e.toNat + 1) % 4096 }
      else t.helm h = { (s.helm h).spent 1 with
                          pc := ((s.helm h).pc + 1) % 4096
                          loops := { first := (s.helm h).pc + 1, last := e.toNat, left := n - 1 } :: (s.helm h).loops } := by
  have hc : (if loopCount (s.helm h) (s.word_ h) = 0 then 2 else 1) = k := by rw [hn, hk]
  have hm := State.helm_helmCycles hs h k
  have hn' : loopCount ((s.helm h).spent k) (s.word_ h) = n := hn
  have he' : wTarget (s.word_ h) ((s.helm h).spent k).pc = e := he
  have hg : (s.helmCycles h k).Good True := hs.helmCycles
  split
  · rename_i h4
    have h4' : 4 ≤ ((s.helm h).spent k).loops.length := h4
    exact congrArg Host.Outcome.next (State.helmStep_fault hr hu hc (by simp only [hm, if_pos h4']))
  rename_i h4
  have h4' : ¬ 4 ≤ ((s.helm h).spent k).loops.length := h4
  split
  · rename_i hout
    have hout' : e ≤ ((s.helm h).spent k).pc ∨ (((s.helm h).spent k).codeWords : Int) ≤ e := hout
    exact congrArg Host.Outcome.next (State.helmStep_fault hr hu hc (by simp only [hm, he', if_neg h4', if_pos hout']))
  rename_i hin
  have hin' : ¬ (e ≤ ((s.helm h).spent k).pc ∨ (((s.helm h).spent k).codeWords : Int) ≤ e) := hin
  have ho := ((OnlyHelm.refl (h : Nat) s).helmCycles hs k).setHelm hg
  split
  · rename_i h0
    refine ⟨_, congrArg Host.Outcome.next (State.helmStep_ok hr hu hc (by
      simp only [hm, hn', he', if_neg h4', if_neg hin', if_pos h0]; rfl)), ho _, (ho _).sameMem, ?_⟩
    rw [State.helm_setHelm_same (hg.helms trivial), hk, if_pos h0]
  · rename_i h0
    refine ⟨_, congrArg Host.Outcome.next (State.helmStep_ok hr hu hc (by
      simp only [hm, hn', he', if_neg h4', if_neg hin', if_neg h0]; rfl)), ho _, (ho _).sameMem, ?_⟩
    rw [State.helm_setHelm_same (hg.helms trivial), hk, if_neg h0]
    rfl

/-- The caps of Table MSI-5's KINDs. -/
theorem loopCap_eq {k : Nat} (hk : k < 3) : loopCap k = [16, 256, 4096].getD k 0 := by
  interval_cases k <;> rfl

theorem wKind_lt (x : Word) : wKind x < 4 := Nat.mod_lt _ (by decide)

end

/-- Settles O9: LOOP's outcomes and the end of a body have their lemmas above. -/
theorem helmLoopRunsItsBodyBounded : Obligations.HelmLoopRunsItsBodyBounded := by
  unfold Obligations.HelmLoopRunsItsBodyBounded
  refine ⟨?_, fun m l ls hl hp h0 => Helm.fallThrough_again hl hp h0,
    fun m l hl hp h0 => Helm.fallThrough_ends hl hp h0, fun m h => Helm.fallThrough_away h⟩
  intro s h u hwf hu m x e n k hr
  have h3 : wKind x ≠ 3 := State.helmRuns_fieldsOk hr
  have hkind : wKind x < 3 := by have := wKind_lt x; omega
  exact ⟨hkind, loop_holds ((State.wf_iff s).mp hwf) hu (by rw [loopCount, loopCap_eq hkind]) (wTarget_eq _ _) rfl hr⟩

end Sys2Proof.Machine

end

section
/-! # Timers

Arming and cancelling a timer, and its expiry (R195, R237). -/

namespace Sys2Proof.Machine

open Reg

set_option Elab.async false

section

variable {m : Helm} {n now us : Nat} {per : Bool}

/-! ### The Helm's timers -/

/-- An armed timer as R237 has it; a delay of 0 cancels. -/
def armedTimer (now us : Nat) (per : Bool) : Option Timer :=
  if us = 0 then none else some { periodic := per, due := now + us, period := us }

/-- The event is the undispatched TIMER of timer `n`. -/
def timerEvent (n : Nat) (e : Event) : Bool := decide (e.kind = 6) && decide (e.cause = n)

/-- The queue once a timer is armed, which leaves it alone, or cancelled. -/
def Helm.queueArmed (m : Helm) (n us : Nat) : List Event := if us = 0 then m.queue.filter fun e => !timerEvent n e else m.queue

theorem Helm.cancelTimer_eq (m : Helm) (n now : Nat) (per : Bool) : m.cancelTimer n = m.armTimer n now 0 per := (if_pos rfl).symm

theorem Helm.armTimer_eq (m : Helm) (n now us : Nat) (per : Bool) : m.armTimer n now us per =
    { m with timers := smSet none m.timers n (armedTimer now us per), queue := m.queueArmed n us } := by
  unfold Helm.armTimer armedTimer Helm.queueArmed
  split <;> rfl

/-- Every timer after a write of one. -/
theorem timers_smSet (hm : m.Good True) (n k : Nat) (x : Option Timer) :
    smGet none (smSet none m.timers n x) k = if k = n then x else smGet none m.timers k := by
  split
  · rename_i h
    rw [h, smGet_smSet_same none (hm.timers trivial)]
  · rename_i h
    exact smGet_smSet_other none (hm.timers trivial) x h

end

section

variable {s : State} {h : Fin 32} {u : Upset} {i : Instr} {op : HOp} {us : Nat} {per : Bool}
  {f : Helm → Word → Nat → Nat → Helm}

/-- What arming or cancelling a timer leaves (R237). -/
theorem timer_holds (hs : s.Good True) (hu : u ≠ .imemParity) (hi : exec i s = .next (s.timerStep h u op f))
    (hf : f ((s.helm h).spent 1) (s.word_ h) (wFld (s.word_ h) 16 2) s.usUp =
      ((s.helm h).spent 1).armTimer (wFld (s.word_ h) 16 2) s.usUp us per)
    (hr : s.helmRuns h op 1 = true) :
    ∃ t, exec i s = .next t ∧ OnlyHelm h s t ∧ SameMem s t ∧
      (∀ k, smGet none (t.helm h).timers k =
        if k = wFld (s.word_ h) 16 2 then armedTimer s.usUp us per else smGet none (s.helm h).timers k) ∧
      (t.helm h).queue = (s.helm h).queueArmed (wFld (s.word_ h) 16 2) us ∧
      t.helm h = { ((s.helm h).spent 1).fallThrough with timers := (t.helm h).timers, queue := (t.helm h).queue } := by
  have hm := State.helm_helmCycles hs h 1
  have hg : (s.helmCycles h 1).Good True := hs.helmCycles
  have hmg : ((s.helm h).spent 1).Good True := hs.helm.spent
  have ho := ((OnlyHelm.refl (h : Nat) s).helmCycles hs 1).retire hg
    (m := ((s.helm h).spent 1).armTimer (wFld (s.word_ h) 16 2) s.usUp us per) hmg.armTimer
  refine ⟨_, hi.trans (congrArg _ (State.helmStep_ok hr hu rfl (by simp only [hm]; rfl))), ?_⟩
  rw [show (s.helmCycles h 1).usUp = s.usUp from rfl, hf]
  refine ⟨ho, ho.sameMem, fun k => ?_, ?_, ?_⟩ <;> rw [State.helm_retire hg, Helm.armTimer_eq]
  · exact timers_smSet hmg _ _ _
  · rfl
  · rfl

end

section

variable {s : State} {h : Fin 32} {k : Fin 4} {x : Timer}

/-! ### Expiry -/

theorem helmTimerExpiry_early (hx : smGet none (s.helm h).timers k = some x) (ht : s.tm.device < 1000 * x.due) :
    exec (.helmTimerExpiry h k) s = .next s := by
  change execHelmTimerExpiry h k s = _
  simp only [execHelmTimerExpiry, hx, if_pos ht]

/-- The Helm with its expired timer run on, or gone. -/
def Helm.timerRun (m : Helm) (k : Nat) (x : Timer) : Helm :=
  { m with timers := smSet none m.timers k (if x.periodic then some { x with due := x.due + x.period } else none) }

theorem Helm.Good.timerRun {m : Helm} {k : Nat} (hm : m.Good True) : (m.timerRun k x).Good True :=
  { hm with timers := hm.timers.set }

/-- The Helm with the undispatched events of its timer marked (R195). -/
def Helm.timerOvf (m : Helm) (k : Nat) : Helm :=
  { m with queue := m.queue.map fun e => if e.kind = 6 ∧ e.cause = k then { e with ovf := true } else e }

theorem helmTimerExpiry_waiting (hx : smGet none (s.helm h).timers k = some x) (ht : 1000 * x.due ≤ s.tm.device)
    (hq : (s.helm h).queue.any (timerEvent k) = true) :
    exec (.helmTimerExpiry h k) s = .next (s.setHelm h (((s.helm h).timerRun k x).timerOvf k)) := by
  change execHelmTimerExpiry h k s = _
  simp only [execHelmTimerExpiry, hx, if_neg (Nat.not_lt.mpr ht)]
  exact if_pos hq

theorem helmTimerExpiry_enqueues (hx : smGet none (s.helm h).timers k = some x) (ht : 1000 * x.due ≤ s.tm.device)
    (hq : (s.helm h).queue.any (timerEvent k) = false) :
    exec (.helmTimerExpiry h k) s = .next ((s.setHelm h ((s.helm h).timerRun k x)).enqueue h 6 0 k false []) := by
  change execHelmTimerExpiry h k s = _
  simp only [execHelmTimerExpiry, hx, if_neg (Nat.not_lt.mpr ht)]
  exact if_neg (by rw [← Bool.not_eq_true] at hq; exact hq)

/-- An event that a handler takes and the queue has room for is appended to it (R190, R192). -/
theorem State.enqueue_room {m : Helm} {h kind port cause : Nat} {set ovf : Bool} {payload : List Byte} (e : s.helm h = m)
    (ht : m.takesEvents = true) (hh : (m.handlerFor kind port).isSome = true) (hl : m.queue.length < 32) :
    s.enqueue h kind port cause set payload ovf = s.setHelm h { m with queue := m.queue ++
      [{ kind := kind, port := if kindCarriesPort kind then port else 0, cause := cause, set := set, ovf := ovf,
         stamp := m.fc.toNat % 2 ^ 15, payload := payload }] } := by
  subst e
  simp only [State.enqueue, ht, hh, Bool.and_self, if_true, if_neg (Nat.not_le.mpr hl)]

theorem Helm.timerOvf_marks (m : Helm) {k : Nat} {e : Event} (he : e ∈ (m.timerOvf k).queue) (h6 : e.kind = 6) (hk : e.cause = k) :
    e.ovf = true := by
  obtain ⟨e', -, rfl⟩ := List.mem_map.mp he
  by_cases hc : e'.kind = 6 ∧ e'.cause = k
  · rw [if_pos hc]
  · rw [if_neg hc] at h6 hk
    exact absurd ⟨h6, hk⟩ hc

end

/-- Settles O14: arming, cancelling and expiry have their lemmas above. -/
theorem helmTimersArmReplaceAndCancel : Obligations.HelmTimersArmReplaceAndCancel := by
  unfold Obligations.HelmTimersArmReplaceAndCancel
  constructor
  · intro s h u hwf hu m x n r tno us armed
    have hs := (State.wf_iff s).mp hwf
    refine ⟨?tarm, ?tarmr, ?tper, ?tcan⟩
    case tarm => exact timer_holds hs hu rfl rfl
    case tarmr => exact timer_holds hs hu rfl rfl
    case tper => exact timer_holds hs hu rfl rfl
    case tcan => exact timer_holds hs hu rfl (Helm.cancelTimer_eq _ _ _ _)
  · intro s h k x hwf hx
    have hs := (State.wf_iff s).mp hwf
    refine ⟨helmTimerExpiry_early hx, fun ht hq => ?_, fun ht hq htk hh hl => ?_⟩
    · have hm : ((s.helm h).timerRun k x).Good True := hs.helm.timerRun
      refine ⟨_, helmTimerExpiry_waiting hx ht hq, .of_eq rfl rfl, .of_eq rfl, ?_, ?_, ?_⟩ <;>
        rw [State.helm_setHelm_same (hs.helms trivial)]
      · exact List.length_map _
      · exact fun e he => Helm.timerOvf_marks _ he
      · exact (timers_smSet hs.helm k k _).trans (if_pos rfl)
    · have e := State.helm_setHelm_same (hs.helms trivial) h ((s.helm h).timerRun k x)
      refine ⟨_, (helmTimerExpiry_enqueues hx ht hq).trans (congrArg _ (State.enqueue_room e htk hh hl)),
        .of_eq rfl rfl, .of_eq rfl, ?_⟩
      rw [State.helm_setHelm_same (State.setHelm_sorted (hs.helms trivial) ..)]
      rfl

end Sys2Proof.Machine

end

section
/-! # Effects of an instruction beside its Helm

An instruction that acts on a Chute, a pattern unit, the Beacon or an event queue leaves every Helm, and memory, alone until it
falls through (`Aside`). -/

namespace Sys2Proof.Machine

open Reg

set_option Elab.async false

/-- From `s` to `t` no Helm and no byte of memory has changed. -/
structure Aside (s t : State) : Prop where
  good : t.Good True
  helms : t.helms = s.helms
  mem : t.mem = s.mem
  cellar : t.cellarSize = s.cellarSize

section

variable {s t v : State} {f : Fld} {i j n k x : Nat}

theorem Aside.refl (h : s.Good True) : Aside s s := ⟨h, rfl, rfl, rfl⟩

/-- An update of other tables. -/
theorem Aside.step (h : Aside s t) (hv : v.Good True) (hh : v.helms = t.helms := by rfl) (hr : v.regs = t.regs := by rfl)
    (hm : v.mem = t.mem := by rfl) : Aside s v :=
  have hc : v.cellarSize = t.cellarSize := by simp only [State.cellarSize, State.rd, hr]
  ⟨hv, hh.trans h.helms, hm.trans h.mem, hc.trans h.cellar⟩

/-- A write of a register that is not memory's size. -/
theorem Aside.wrKey (h : Aside s t) (hc : MX_CELLAR_ADDR_MIB.key 0 0 ≠ f.key i j) : Aside s (t.wr f x i j) where
  good := h.good.wr
  helms := h.helms
  mem := h.mem
  cellar := by
    rw [← h.cellar]
    unfold State.cellarSize
    rw [State.rd_wr_other (h.good.regs trivial) x i j 0 0 hc]

/-- A write of a register of a block of which there are several. -/
theorem Aside.wr (h : Aside s t) (hf : f.region.code ≠ 0 := by decide) : Aside s (t.wr f x i j) := h.wrKey (Fld.cellar_ne_key hf)

theorem Aside.either {c : Prop} {_ : Decidable c} (ht : Aside s t) (hv : Aside s v) : Aside s (if c then t else v) := by
  split <;> assumption

theorem Aside.count (h : Aside s t) : Aside s (t.count n k) := h.step h.good.count
theorem Aside.setSess {y : Sess} (h : Aside s t) : Aside s (t.setSess n y) := h.step h.good.setSess
theorem Aside.setChute {y : Chute} (h : Aside s t) : Aside s (t.setChute n y) := h.step h.good.setChute
theorem Aside.setPat {y : PatUnit} (h : Aside s t) : Aside s (t.setPat n y) := h.step h.good.setPat
theorem Aside.pushStage {y : Stage} (h : Aside s t) : Aside s (t.pushStage y) := h.step h.good.pushStage

theorem Aside.fireFree (h : Aside s t) : Aside s (t.fireFree k) := by
  unfold State.fireFree State.fire
  have h2 : Aside s t.draw.draw := h.step h.good.draw.draw
  exact .either (h2.wrKey (by decide)) (h2.step h2.good.setSource)

theorem Aside.helm (h : Aside s t) (i : Nat) : t.helm i = s.helm i := State.helm_congr h.helms i

theorem Aside.sameMem (h : Aside s t) : SameMem s t := State.byteAt_congr h.mem h.cellar

/-! ### After the instruction's cycles -/

/-- The Helm falls through, and no other Helm and no memory has changed. -/
theorem Aside.helm_helmNext (hs : s.Good True) (h : Aside (s.helmCycles n k) t) :
    (t.helmNext n).helm n = ((s.helm n).spent k).fallThrough := by
  rw [State.helmNext, State.helm_setHelm_same (h.good.helms trivial), h.helm, State.helm_helmCycles hs]

theorem Aside.helm_helmNext_other (hs : s.Good True) (h : Aside (s.helmCycles n k) t) (hi : i ≠ n) :
    (t.helmNext n).helm i = s.helm i := by
  rw [State.helmNext, State.helm_setHelm_other (h.good.helms trivial) _ hi, h.helm]
  exact State.helm_setHelm_other (hs.helms trivial) _ hi

theorem Aside.sameMem_update (h : Aside (s.helmCycles n k) t) (hm : v.mem = t.mem := by rfl) (hr : v.regs = t.regs := by rfl) :
    SameMem s v :=
  have hc : v.cellarSize = t.cellarSize := by simp only [State.cellarSize, State.rd, hr]
  State.byteAt_congr (hm.trans h.mem) (hc.trans h.cellar)

theorem Aside.sameMem_helmNext (h : Aside (s.helmCycles n k) t) : SameMem s (t.helmNext n) := h.sameMem_update

end

end Sys2Proof.Machine

end

section
/-! # POST, RAISE, END and the dispatch of events

Records and firings of a handler, its end and the start of the next (R190, R193, R238, R239, R545). -/

namespace Sys2Proof.Machine

open Reg

set_option Elab.async false

section

variable {s t : State} {n : Nat} {r : List Byte}

/-! ### Records in an event queue -/

theorem Aside.eqWrite (h : Aside s t) : Aside s (t.eqWrite n r) :=
  .either h.pushStage.wr.wr.setSess.count.pushStage.wr h.pushStage.wr.wr.setSess.count

theorem Aside.eqOverflow (h : Aside s t) : Aside s (t.eqOverflow n) := .either h (.either h.eqWrite.setSess h)

theorem Aside.eqDrop (h : Aside s t) : Aside s (t.eqDrop n) := h.setSess.wr.count

theorem Aside.eqMessage (h : Aside s t) : Aside s (t.eqMessage n r) :=
  .either h (.either (.either h.eqOverflow.eqWrite h.eqOverflow.eqDrop) (.either h.setSess h.eqDrop))

end

section

variable {s : State} {h : Fin 32} {u : Upset} {k : Nat}

/-- Whether the session discards what a STOP handler sends does not change with its cycles (R245). -/
theorem State.muted_helmCycles (hs : s.Good True) (h k : Nat) : (s.helmCycles h k).muted h = s.muted h := by
  unfold State.muted
  rw [State.helm_helmCycles hs]
  have e : (s.helmCycles h k).sesState ((s.helmCycles h k).helmOwner h) = s.sesState (s.helmOwner h) := rfl
  rw [e]
  cases hr : (s.helm h).run <;> simp [Helm.spent, hr]

/-- The record that POST hands to its owner (R545). -/
def State.postRecord (s : State) (h : Nat) : List Byte :=
  leBytes 2 (256 + 8 * h + 1) ++ [0, 8] ++ leBytes 4 (s.srcD h).toNat ++ leBytes 4 (s.srcA h).toNat ++
    leBytes 2 (wImm12 (s.word_ h)) ++ [0, 0]

theorem exec_post (hs : s.Good True) (hu : u ≠ .imemParity) (hr : s.helmRuns h .post 1 = true) (hm : s.muted h = false) :
    exec (.post h u) s =
      .next (((s.helmCycles h 1).eqMessage (s.helmOwner h) (s.postRecord h)).helmNext h) := by
  have hh := State.helm_helmCycles hs h 1
  have hm' : (s.helmCycles h 1).muted h = false := (State.muted_helmCycles hs h 1).trans hm
  refine congrArg Host.Outcome.next (State.helmStep_ok hr hu rfl ?_)
  simp only [hh, hm', Bool.false_eq_true, if_false]
  rfl

/-! ### Firings -/

theorem exec_raise (hu : u ≠ .imemParity) (hr : s.helmRuns h .raise 1 = true) :
    exec (.raise h u) s = .next (((s.helmCycles h 1).fireFree (256 + 8 * h + wImm16 (s.word_ h))).helmNext h) :=
  congrArg Host.Outcome.next (State.helmStep_ok hr hu rfl rfl)

theorem exec_raises (hs : s.Good True) (hu : u ≠ .imemParity) (hr : s.helmRuns h .raises 1 = true) (hm : s.muted h = false) :
    exec (.raises h u) s =
      .next (((s.helmCycles h 1).fireFree (768 + 16 * s.helmOwner h + wImm16 (s.word_ h))).helmNext h) := by
  have hm' : (s.helmCycles h 1).muted h = false := (State.muted_helmCycles hs h 1).trans hm
  refine congrArg Host.Outcome.next (State.helmStep_ok hr hu rfl ?_)
  simp only [hm', Bool.false_eq_true, if_false]
  rfl

theorem Source.st_merge (x : Source) (cause data time n : Nat) (l : Bool) :
    (x.merge cause data time n l).st = if x.st = 0 ∨ x.st = 2 then x.st + 1 else x.st := by
  unfold Source.merge
  split <;> rfl

/-- A firing makes its source pending, or active and pending; no other source changes (R534). -/
theorem State.st_fireFree (hs : s.Good True) (hk : srcReserved k = false) :
    ((s.fireFree k).source k).st = if (s.source k).st = 0 ∨ (s.source k).st = 2 then (s.source k).st + 1 else (s.source k).st := by
  have hg := hs.draw.draw
  rw [State.fireFree, State.fire, if_neg (by simp [hk]), State.source_setSource_same (hg.sources trivial), Source.st_merge]
  rfl

theorem State.source_fireFree_other (hs : s.Good True) (hk : srcReserved k = false) {j : Nat} (hj : j ≠ k) :
    (s.fireFree k).source j = s.source j := by
  have hg := hs.draw.draw
  rw [State.fireFree, State.fire, if_neg (by simp [hk]), State.source_setSource_other (hg.sources trivial) _ hj]
  rfl

/-- What RAISE and RAISES leave of the sources and the registers. -/
theorem raised (hs : s.Good True) (h c k : Nat) (hk : srcReserved k = false) :
    ((((s.helmCycles h c).fireFree k).helmNext h).source k).st =
        (if (s.source k).st = 0 ∨ (s.source k).st = 2 then (s.source k).st + 1 else (s.source k).st) ∧
      (∀ j, j ≠ k → (((s.helmCycles h c).fireFree k).helmNext h).source j = s.source j) ∧
      SameRegs [] s (((s.helmCycles h c).fireFree k).helmNext h) := by
  have hg : (s.helmCycles h c).Good True := hs.helmCycles
  refine ⟨State.st_fireFree hg hk, fun j hj => State.source_fireFree_other hg hk hj, fun f i j _ => ?_⟩
  exact State.rd_fireFree (s.helmCycles h c) hk f i j

/-! ### END -/

/-- Nothing staged: a commit leaves the Helm. -/
theorem State.commitOh_nil (he : (s.helm h).stagedOh = []) : s.commitOh h = s.setHelm h (s.helm h) := by
  have e : { s.helm h with stagedOh := [] } = s.helm h := by rw [← he]
  simp only [State.commitOh, he, e, List.foldl_nil]

theorem State.commitDef_nil (he : (s.helm h).stagedDef = []) : s.commitDef h = s.setHelm h (s.helm h) := by
  have e : { s.helm h with stagedDef := [] } = s.helm h := by rw [← he]
  simp only [State.commitDef, he, e, List.map_nil, List.dedup_nil, List.foldl_nil]

/-- The Helm returned to dispatch (R239). -/
def Helm.returned (m : Helm) (kind : Nat) : Helm := { m with loops := [], run := none, lastKind := kind }

theorem Helm.Good.returned {m : Helm} (hm : m.Good True) : (m.returned k).Good True := hm.update

/-- The machine at the END of a handler of Helm `h` that has committed what it staged. -/
def State.ended (s : State) (h : Nat) (r : Run) : State :=
  ((s.notePeak h r).snapRegs h).setHelm h ((((s.notePeak h r).snapRegs h).helm h).returned r.kind)

/-- Registers of the Helm's block alone are written. -/
theorem Aside.notePeak {r : Run} {t : State} (hs : Aside s t) : Aside s (t.notePeak h r) := .either hs.wr hs

theorem Aside.snapRegs {t : State} (hs : Aside s t) : Aside s (t.snapRegs h) :=
  List.foldlRecOn (motive := Aside s) _ _ hs fun _ ht _ _ => ht.wr

theorem HM_REGS_G_key_ne {i j : Nat} (hij : i ≠ j) : HM_REGS_G.key h i ≠ HM_REGS_G.key h j := by
  simp only [Fld.key, HM_REGS_G]
  omega

/-- HM_REGS after some general registers are written to it. -/
theorem State.rd_snapRegs_of_mem (hs : s.Good True) {l : List Nat} (hk : k ∈ l) :
    (l.foldl (fun s r => s.wr HM_REGS_G ((s.helm h).reg r).toNat h r) s).rd HM_REGS_G h k = ((s.helm h).reg k).toNat := by
  induction l using List.reverseRecOn with
  | nil => exact absurd hk List.not_mem_nil
  | append_singleton l r ih =>
    have hg : Aside s (l.foldl (fun s r => s.wr HM_REGS_G ((s.helm h).reg r).toNat h r) s) :=
      List.foldlRecOn (motive := Aside s) _ _ (.refl hs) fun _ ht _ _ => ht.wr
    rw [List.foldl_append, List.foldl_cons, List.foldl_nil]
    by_cases h0 : k = r
    · subst h0
      rw [State.rd_wr_same (hg.good.regs trivial), hg.helm]
      exact Nat.mod_eq_of_lt (BitVec.isLt _)
    · rw [State.rd_wr_other (hg.good.regs trivial) _ _ _ _ _ (HM_REGS_G_key_ne h0)]
      exact ih ((List.mem_append.mp hk).resolve_right fun e => h0 (List.mem_singleton.mp e))

theorem State.byteAt_setHelm (s : State) (h : Nat) (m : Helm) (a : Nat) : (s.setHelm h m).byteAt a = s.byteAt a := rfl

theorem State.rd_setHelm (s : State) (h : Nat) (m : Helm) (f : Fld) (i j : Nat) : (s.setHelm h m).rd f i j = s.rd f i j := rfl

theorem State.ended_spec (hs : s.Good True) (r : Run) :
    (s.ended h r).helm h = (s.helm h).returned r.kind ∧ SameMem s (s.ended h r) ∧
      ∀ k, k < 16 → (s.ended h r).rd HM_REGS_G h k = ((s.helm h).reg k).toNat := by
  have hp : Aside s (s.notePeak h r) := (Aside.refl hs).notePeak
  have ha : Aside s ((s.notePeak h r).snapRegs h) := hp.snapRegs
  refine ⟨?_, fun a => ?_, fun k hk => ?_⟩
  · rw [State.ended, State.helm_setHelm_same (ha.good.helms trivial), ha.helm]
  · rw [State.ended, State.byteAt_setHelm, ha.sameMem a]
  · rw [State.ended, State.rd_setHelm, ← hp.helm]
    exact State.rd_snapRegs_of_mem hp.good (List.mem_range.mpr hk)

/-- END with nothing posted or staged commits nothing and returns to dispatch (R239). -/
theorem exec_helmEnd (hs : s.Good True) (hu : u ≠ .imemParity) {w : Fin 65} {r : Run} {m : Helm} (hm : (s.helm h).spent 1 = m)
    (hr : s.helmRuns h .fin 1 = true) (hp : m.posted = []) (ho : m.stagedOh = []) (hd : m.stagedDef = [])
    (hrun : m.run = some r) (h0 : r.kind ≠ 0) (h1 : r.kind ≠ 1) :
    exec (.helmEnd h u w) s = .next ((((s.helmCycles h 1).setHelm h m).setHelm h m).ended h r) := by
  have e0 : (s.helmCycles h 1).helm h = m := (State.helm_helmCycles hs h 1).trans hm
  have hg0 : (s.helmCycles h 1).Good True := hs.helmCycles
  have e1 := State.helm_setHelm_same (hg0.helms trivial) h m
  have hg1 := State.setHelm_sorted (hg0.helms trivial) h m
  have e2 := State.helm_setHelm_same hg1 h m
  have hoh : (s.helmCycles h 1).commitOh h = (s.helmCycles h 1).setHelm h m := by
    rw [State.commitOh_nil (by rw [e0, ho]), e0]
  have hdef : ((s.helmCycles h 1).setHelm h m).commitDef h = ((s.helmCycles h 1).setHelm h m).setHelm h m := by
    rw [State.commitDef_nil (by rw [e1, hd]), e1]
  have hcost : (s.helm h).posted = [] := by rw [← hp, ← hm]; rfl
  refine congrArg Host.Outcome.next (State.helmStep_ok hr hu (if_pos hcost) ?_)
  simp only [State.farDrainAll_nil (s := s.helmCycles h 1) (i := h) (by rw [e0, hp]), hoh, hdef, e2, hrun, if_neg h0, if_neg h1]
  rfl

/-- What END of a handler other than START and STOP leaves (R239). -/
theorem helmEnd_holds (hs : s.Good True) (hu : u ≠ .imemParity) {w : Fin 65} {r : Run} (hr : s.helmRuns h .fin 1 = true)
    (hp : (s.helm h).posted = []) (ho : (s.helm h).stagedOh = []) (hd : (s.helm h).stagedDef = [])
    (hrun : (s.helm h).run = some r) (h0 : r.kind ≠ 0) (h1 : r.kind ≠ 1) :
    ∃ t, exec (.helmEnd h u w) s = .next t ∧ SameMem s t ∧ t.helm h = ((s.helm h).spent 1).returned r.kind ∧
      ∀ k, k < 16 → t.rd HM_REGS_G h k = ((s.helm h).reg k).toNat := by
  have hg : (s.helmCycles h 1).Good True := hs.helmCycles
  have hmg : ((s.helm h).spent 1).Good True := hs.helm.spent
  have hg1 := hg.setHelm (k := h) hmg
  have hg2 := hg1.setHelm (k := h) hmg
  have honly := (((OnlyHelm.refl h s).helmCycles hs 1).setHelm hg ((s.helm h).spent 1)).setHelm hg1 ((s.helm h).spent 1)
  have e2 := State.helm_setHelm_same (State.setHelm_sorted (hg.helms trivial) h ((s.helm h).spent 1)) h ((s.helm h).spent 1)
  have hrun' : ((s.helm h).spent 1).run = some { r with cycles := r.cycles + 1 } := by simp [Helm.spent, hrun]
  obtain ⟨hh, hmem, hregs⟩ := State.ended_spec (h := h) hg2 { r with cycles := r.cycles + 1 }
  rw [e2] at hh hregs
  exact ⟨_, exec_helmEnd hs hu rfl hr hp ho hd hrun' h0 h1, fun a => (hmem a).trans (honly.sameMem a), hh, hregs⟩

end

/-! ### The dispatch of an event (R193) -/

/-- The word `ev` of a dispatched event. -/
def eventWord (e : Event) (ovf : Bool) : Nat :=
  e.kind + 16 * e.port + 128 * boolNat ovf + 256 * e.cause + 65536 * boolNat e.set + 2 ^ 17 * e.stamp

theorem toNat_append_add {n k : Nat} (x : BitVec n) (y : BitVec k) : (x ++ y).toNat = x.toNat * 2 ^ k + y.toNat := by
  rw [BitVec.toNat_append, Nat.shiftLeft_eq, Nat.mul_comm, Nat.two_pow_add_eq_or_of_lt y.isLt]

theorem boolNat_eq_toNat (b : Bool) : (BitVec.ofBool b).toNat = boolNat b := by cases b <;> rfl

theorem eventWord_eq (e : Event) (ovf : Bool) (hk : e.kind < 16) (hp : e.port < 8) (hc : e.cause < 256) :
    BitVec.ofNat 32 (eventWord e ovf) = BitVec.ofNat 15 e.stamp ++ BitVec.ofBool e.set ++ BitVec.ofNat 8 e.cause ++
      BitVec.ofBool ovf ++ BitVec.ofNat 3 e.port ++ BitVec.ofNat 4 e.kind := by
  apply BitVec.eq_of_toNat_eq
  have hb : ∀ b, boolNat b ≤ 1 := fun b => by cases b <;> decide
  have h1 := hb ovf
  have h2 := hb e.set
  simp only [toNat_append_add, BitVec.toNat_ofNat, boolNat_eq_toNat, eventWord]
  omega

/-- The Helm that has taken event `e` and runs handler `k` with entry and budget of `hd`. -/
def Helm.taken (m : Helm) (idle : Nat) (e : Event) (q : List Event) (k : Nat) (hd : Handler) : Helm :=
  { m with queue := q, tm := m.tm + BitVec.ofNat 32 idle, ev := BitVec.ofNat 32 (eventWord e (e.ovf || m.ovf)), pc := hd.entry
           ovf := false, lastKind := e.kind
           run := some { entry := k, kind := e.kind, port := e.port, cycles := 0, limit := hd.wcet + hd.wcet / 8 } }

/-- The mailbox of a MESSAGE filled (R193). -/
def Helm.mailed (m : Helm) (e : Event) : Helm :=
  if e.kind = 7 then
    { m.setLocal 0x1FE0 e.payload with badRam := m.badRam.filter fun w => !decide (0x7F8 ≤ w ∧ w ≤ 0x7FF) } else m

/-- The read bank of a frame event's port filled (R187). -/
def Helm.banked (m : Helm) (e : Event) : Helm :=
  if e.kind = 2 ∨ e.kind = 3 then
    (match m.port? e.port with | some p => m.setPort e.port { p with bank := e.payload } | none => m) else m

section

variable {m : Helm} {e : Event} {idle k : Nat} {q : List Event} {hd : Handler}

theorem Helm.Good.taken (hm : m.Good True) : (m.taken idle e q k hd).Good True := hm.update

theorem Helm.Good.mailed (hm : m.Good True) : (m.mailed e).Good True := .either hm.setLocal.update hm

theorem Helm.Good.banked (hm : m.Good True) : (m.banked e).Good True := by
  unfold Helm.banked
  split
  · split
    · exact hm.setPort
    · exact hm
  · exact hm

theorem Helm.mailed_eq (m : Helm) (e : Event) : m.mailed e = { m with ram := (m.mailed e).ram, badRam := (m.mailed e).badRam } := by
  unfold Helm.mailed
  split
  · rw [Helm.setLocal_eq]
  · rfl

theorem Helm.banked_eq (m : Helm) (e : Event) : m.banked e = { m with ports := (m.banked e).ports } := by
  unfold Helm.banked
  split
  · split <;> rfl
  · rfl

theorem Helm.ram_mailed_message (hm : m.Good True) (h7 : e.kind = 7) {j : Nat} (hj : j < e.payload.length) :
    smGet 0 (m.mailed e).ram (0x1FE0 + j) = e.payload.getD j 0 := by
  rw [Helm.mailed, if_pos h7]
  exact Helm.ram_setLocal_inside hm hj

theorem Helm.ram_mailed_other (h7 : e.kind ≠ 7) : (m.mailed e).ram = m.ram := by
  rw [Helm.mailed, if_neg h7]

end

section

variable {s : State} {h : Fin 32} {idle k : Nat} {im : Image} {e : Event} {q : List Event}

/-- A free Helm takes an event that its image has a handler for (R193). -/
theorem exec_eventDispatch {hd : Handler} (hr : (s.helm h).run = none) (hi : (s.helm h).image = some im)
    (hq : (s.helm h).queue = e :: q) (hps : (s.helm h).ps ≠ .faulted) (h0 : e.kind ≠ 0)
    (hk : im.handlerFor e.kind e.port = some k) (hhd : im.handlers[k]? = some hd) :
    exec (.eventDispatch h idle) s =
      .next (((s.setHelm h ((((s.helm h).taken idle e q k hd).mailed e).banked e)).helmCycles h 4).count (8 + h)) := by
  change execEventDispatch h idle s = _
  have hgd : im.handlers.getD k { kind := 0, mask := 0, entry := 0, wcet := 0 } = hd := by
    rw [List.getD_eq_getElem?_getD, hhd, Option.getD_some]
  have hgo : ¬((s.helm h).ps = .faulted ∨ (e.kind = 0 ∧ levelMhz (s.rd GL_FLOOR_LEVEL) < im.floor)) :=
    fun ho => ho.elim hps fun hw => h0 hw.1
  simp only [execEventDispatch]
  split
  next im' e' q' _ hi' hq' =>
    obtain rfl : im' = im := Option.some.inj (hi'.symm.trans hi)
    obtain ⟨rfl, rfl⟩ : e' = e ∧ q' = q := List.cons.inj (hq'.symm.trans hq)
    simp only [if_neg hgo, hk, hgd]
    rfl
  next hne => exact absurd hq (hne im e q hr hi)

/-- The dispatch of an event changes its Helm alone: what it has taken, the mailbox and a read bank, and its four cycles. -/
theorem eventDispatch_holds {hd : Handler} (hs : s.Good True) (hr : (s.helm h).run = none) (hi : (s.helm h).image = some im)
    (hq : (s.helm h).queue = e :: q) (hps : (s.helm h).ps ≠ .faulted) (h0 : e.kind ≠ 0)
    (hk : im.handlerFor e.kind e.port = some k) (hhd : im.handlers[k]? = some hd) :
    ∃ (t : State) (m : Helm), exec (.eventDispatch h idle) s = .next t ∧ OnlyHelm h s t ∧ t.helm h = m.spent 4 ∧
      m = { (s.helm h).taken idle e q k hd with ram := (((s.helm h).taken idle e q k hd).mailed e).ram
                                                badRam := m.badRam, ports := m.ports } := by
  have hm : ((((s.helm h).taken idle e q k hd).mailed e).banked e).Good True := hs.helm.taken.mailed.banked
  have hg := hs.setHelm (k := h) hm
  refine ⟨_, (((s.helm h).taken idle e q k hd).mailed e).banked e, exec_eventDispatch hr hi hq hps h0 hk hhd,
    ((OnlyHelm.refl h s).setHelm hs _ |>.helmCycles hg 4).count _ _, ?_, ?_⟩
  · exact (State.helm_helmCycles hg h 4).trans (congrArg (Helm.spent · 4) (State.helm_setHelm_same (hs.helms trivial) h _))
  · rw [Helm.banked_eq, Helm.mailed_eq]

end

/-- Settles O15: records, firings, END and dispatch have their lemmas above. -/
theorem postRaiseAndEndOfAHandler : Obligations.PostRaiseAndEndOfAHandler := by
  unfold Obligations.PostRaiseAndEndOfAHandler
  constructor
  · intro s h u hwf hu m x n fired
    have hs := (State.wf_iff s).mp hwf
    have hg : Aside (s.helmCycles h 1) (s.helmCycles h 1) := .refl hs.helmCycles
    refine ⟨?post, ?raise, ?raises, ?fin⟩
    case post =>
      intro hr hm _
      have ha := hg.eqMessage (n := n) (r := s.postRecord h)
      refine ⟨_, _, exec_post hs hu hr hm, rfl, rfl, ha.sameMem_helmNext, fun r => ?_⟩
      rw [ha.helm_helmNext hs]
      rfl
    case raise =>
      intro hr
      have ha := hg.fireFree (k := 256 + 8 * h + wImm16 x)
      obtain ⟨hlo, hhi⟩ : 2 ≤ wImm16 x ∧ wImm16 x ≤ 7 := State.helmRuns_fieldsOk hr
      exact ⟨_, exec_raise hu hr, ha.helm_helmNext hs, ha.sameMem_helmNext, raised hs h 1 _, hlo, hhi⟩
    case raises =>
      intro hr hm
      have ha := hg.fireFree (k := 768 + 16 * n + wImm16 x)
      have hhi : wImm16 x ≤ 15 := State.helmRuns_fieldsOk hr
      exact ⟨_, exec_raises hs hu hr hm, ha.helm_helmNext hs, ha.sameMem_helmNext, raised hs h 1 _, hhi⟩
    case fin => exact fun w r hr hp ho hd hrun h0 h1 => helmEnd_holds hs hu hr hp ho hd hrun h0 h1
  · intro s h idle im e q k hwf m hr hi hq hps h0 hk hlt
    have hs := (State.wf_iff s).mp hwf
    have hhd : im.handlers[k]? = some im.handlers[k] := List.getElem?_eq_getElem hlt
    have ht : ((m.taken idle e q k im.handlers[k]).Good True) := hs.helm.taken
    obtain ⟨t, m', he, honly, hh, hm'⟩ := eventDispatch_holds (idle := idle) hs hr hi hq hps h0 hk hhd
    have hram : (m'.spent 4).ram = ((m.taken idle e q k im.handlers[k]).mailed e).ram := by rw [hm']; rfl
    refine ⟨t, _, he, hhd, ?queue, ?pc, ?run, ?flags, fun r => ?reg, fun hki hp hc _ => ?ev, fun h7 hlen j hj => ?mailbox,
      fun h7 => ?ram, honly.sameMem, .of_eq honly.regs⟩ <;> rw [hh]
    case ev => exact hm' ▸ eventWord_eq e _ hki hp hc
    case mailbox => rw [hram]; exact Helm.ram_mailed_message ht h7 (by rwa [hlen])
    case ram => rw [hram]; exact Helm.ram_mailed_other h7
    all_goals rw [hm']; rfl

end Sys2Proof.Machine

end

section
/-! # Overhead on line and Chart ports

What an instruction makes of its port (R185, R227), and OHRD, OHWR, OHWM and BIPX (R226, R228, R231). -/

namespace Sys2Proof.Machine

open Reg

set_option Elab.async false

section

variable {m : Helm} {x : Word} {q : Port} {kinds : List PortKind}

/-! ### The port of an instruction -/

@[simp] theorem Helm.usePort_spent (m : Helm) (k : Nat) : (m.spent k).usePort x kinds = m.usePort x kinds := rfl

@[simp] theorem Helm.writePort_spent (m : Helm) (k : Nat) : (m.spent k).writePort x = m.writePort x := rfl

theorem Helm.usePort_unbound (hq : ∀ q, m.port? (wPt x) = some q → q.kind ∉ kinds) :
    m.usePort x kinds = .error faultUnbound := by
  unfold Helm.usePort
  split
  next => rfl
  next q e => exact if_neg (by simpa using hq q e)

theorem Helm.usePort_ok (hq : m.port? (wPt x) = some q) (hk : q.kind ∈ kinds) : m.usePort x kinds = .ok q := by
  unfold Helm.usePort
  rw [hq]
  exact if_pos (List.contains_iff_mem.mpr hk)

/-- The kinds of port that have overhead. -/
abbrev ohKinds : List PortKind := [.sliceRx, .sliceTx, .chart]

theorem Helm.writePort_unbound (hq : ∀ q, m.port? (wPt x) = some q → q.kind ∉ ohKinds) :
    m.writePort x = .error faultUnbound := by
  rw [Helm.writePort, Helm.usePort_unbound hq]

theorem Helm.writePort_ro (hq : m.port? (wPt x) = some q) (hk : q.kind ∈ ohKinds) (hr : q.ro = true ∨ q.kind = .sliceRx) :
    m.writePort x = .error faultRo := by
  have ht : q.transmits = false := by
    rcases hr with hr | hr <;> simp [Port.transmits, hr]
  rw [Helm.writePort, Helm.usePort_ok hq hk]
  simp only [ht, Bool.false_eq_true, if_false]

theorem Helm.writePort_ok (hq : m.port? (wPt x) = some q) (hk : q.kind ∈ ohKinds) (hr : q.ro = false)
    (hx : q.kind ≠ .sliceRx) : m.writePort x = .ok q := by
  have ht : q.transmits = true := by
    have hk' : q.kind = .sliceTx ∨ q.kind = .chart := by simpa [hx] using hk
    simpa [Port.transmits, hr] using hk'
  rw [Helm.writePort, Helm.usePort_ok hq hk]
  simp only [ht, if_true]

end

section

variable {s : State} {h : Fin 32} {u : Upset} {q : Port} {n o : Nat} {l : List Byte} {b : Nat → Byte}

/-! ### Bytes of an access -/

theorem ohLen_eq {x : Word} (hx : wFnE x < 3) : ohLen x = [1, 2, 4].getD (wFnE x) 0 := by
  unfold ohLen
  match wFnE x, hx with
  | 0, _ | 1, _ | 2, _ => rfl

/-- A byte beyond the image reads 0 (R226). -/
theorem State.ohByte_beyond (ho : s.portImage q ≤ o) : s.ohByte q o = 0 := by
  simp [State.ohByte, ho]

theorem length_leBytes (n v : Nat) : (leBytes n v).length = n := by
  induction n generalizing v with
  | zero => rfl
  | succ n ih => simp [leBytes, ih]

/-- The bytes that an overhead write stages: those within the image (R226). -/
def stagedBytes (p o image n : Nat) (b : Nat → Byte) : List (Nat × Nat × Byte) :=
  ((List.range n).filter fun i => o + i < image).map fun i => (p, o + i, b i)

theorem stagedBytes_eq (p image : Nat) (hl : l.length = n) (hb : ∀ i, i < n → l.getD i 0 = b i) :
    (l.mapIdx fun i b => (p, o + i, b)).filter (fun e => e.2.1 < image) = stagedBytes p o image n b := by
  have e : l.mapIdx (fun i b => (p, o + i, b)) = (List.range n).map fun i => (p, o + i, b i) := by
    refine List.ext_getElem (by simp [hl]) fun i h1 h2 => ?_
    have hi : i < l.length := by simpa using h1
    simp [← hb i (hl ▸ hi), hi]
  rw [e, List.filter_map]
  rfl

/-- A write of overhead has staged bytes and done nothing else (R188). -/
def OhStaged (s : State) (h : Fin 32) (q : Port) (o n : Nat) (b : Nat → Byte) (t : State) : Prop :=
  OnlyHelm h s t ∧ SameMem s t ∧
    t.helm h = { ((s.helm h).spent 1).fallThrough with
      stagedOh := (s.helm h).stagedOh ++ stagedBytes (wPt (s.word_ h)) o (s.portImage q) n b }

theorem ohStaged_stageOh (hs : s.Good True) (hl : l.length = n) (hb : ∀ i, i < n → l.getD i 0 = b i) :
    OhStaged s h q o n b (((s.helmCycles h 1).stageOh h (wPt (s.word_ h)) q o l).helmNext h) := by
  have hg := hs.helmCycles (h := h) (k := 1)
  have e : (s.helmCycles h 1).stageOh h (wPt (s.word_ h)) q o l = (s.helmCycles h 1).setHelm h
      { (s.helm h).spent 1 with
        stagedOh := (s.helm h).stagedOh ++ stagedBytes (wPt (s.word_ h)) o (s.portImage q) n b } := by
    rw [← stagedBytes_eq _ _ hl hb, State.stageOh, State.helm_helmCycles hs]
    rfl
  have ho : OnlyHelm h s _ := ((OnlyHelm.refl h s).helmCycles hs 1).retire hg (m := { (s.helm h).spent 1 with
    stagedOh := (s.helm h).stagedOh ++ stagedBytes (wPt (s.word_ h)) o (s.portImage q) n b }) hs.helm.update
  rw [e]
  exact ⟨ho, ho.sameMem, State.helm_retire hg h _⟩

/-! ### OHRD -/

theorem exec_ohrd_unbound (hs : s.Good True) (hu : u ≠ .imemParity) (hr : s.helmRuns h .ohrd 2 = true)
    (hq : ∀ q, (s.helm h).port? (wPt (s.word_ h)) = some q → q.kind ∉ ohKinds) :
    exec (.ohrd h u) s = .next ((s.helmCycles h 2).helmFault h faultUnbound) :=
  congrArg Host.Outcome.next (State.helmStep_fault hr hu rfl (by
    simp only [State.helm_helmCycles hs, Helm.usePort_spent, Helm.usePort_unbound hq]))

theorem ohrd_holds (hs : s.Good True) (hu : u ≠ .imemParity) (hr : s.helmRuns h .ohrd 2 = true)
    (hq : (s.helm h).port? (wPt (s.word_ h)) = some q) (hk : q.kind ∈ ohKinds)
    (hn : ohLen (s.word_ h) = n) (ho : (s.srcA h + BitVec.ofNat 32 (wImm12 (s.word_ h))).toNat = o) :
    ∃ t, exec (.ohrd h u) s = .next t ∧
      AluDone s h 2 (BitVec.ofNat 32 (leNat ((List.range n).map fun i => s.ohByte q (o + i)))) (s.helm h).flags t := by
  have ho' : ((s.srcA h).toNat + wImm12 (s.word_ h)) % 2 ^ 32 = o := by
    rw [← ho, BitVec.toNat_add, BitVec.toNat_ofNat, Nat.add_mod_mod]
  have hh := State.helm_helmCycles hs h 2
  refine ⟨_, congrArg Host.Outcome.next (State.helmStep_ok hr hu rfl ?_), aluDone_setReg hs h 2 _⟩
  simp only [hh, Helm.usePort_spent, Helm.usePort_ok hq hk, Helm.reg_spent, ← ho', ← hn]
  rfl

/-! ### OHWR and OHWM -/

theorem exec_ohwr_fault {f : Nat} (hs : s.Good True) (hu : u ≠ .imemParity) (hr : s.helmRuns h .ohwr 1 = true)
    (hf : (s.helm h).writePort (s.word_ h) = .error f) :
    exec (.ohwr h u) s = .next ((s.helmCycles h 1).helmFault h f) :=
  congrArg Host.Outcome.next (State.helmStep_fault hr hu rfl (by
    simp only [State.helm_helmCycles hs, Helm.writePort_spent, hf]))

theorem ohwr_holds (hs : s.Good True) (hu : u ≠ .imemParity) (hr : s.helmRuns h .ohwr 1 = true)
    (hq : (s.helm h).writePort (s.word_ h) = .ok q)
    (hn : ohLen (s.word_ h) = n) (ho : (s.srcA h + BitVec.ofNat 32 (wImm12 (s.word_ h))).toNat = o) :
    ∃ t, exec (.ohwr h u) s = .next t ∧ OhStaged s h q o n (fun i => (s.srcD h).extractLsb' (8 * i) 8) t := by
  have ho' : ((s.srcA h).toNat + wImm12 (s.word_ h)) % 2 ^ 32 = o := by
    rw [← ho, BitVec.toNat_add, BitVec.toNat_ofNat, Nat.add_mod_mod]
  have hh := State.helm_helmCycles hs h 1
  refine ⟨_, congrArg Host.Outcome.next (State.helmStep_ok hr hu rfl ?_),
    ohStaged_stageOh hs (length_leBytes n (s.srcD h).toNat) fun i hi => leBytes_word _ _ _ hi⟩
  simp only [hh, Helm.writePort_spent, hq, Helm.reg_spent, ← ho', ← hn]
  rfl

theorem exec_ohwm_fault {f : Nat} {own : List (Nat × Nat × Byte)} (hs : s.Good True) (hu : u ≠ .imemParity)
    (hr : s.helmRuns h .ohwm 1 = true) (hf : (s.helm h).writePort (s.word_ h) = .error f) :
    exec (.ohwm h u own) s = .next ((s.helmCycles h 1).helmFault h f) :=
  congrArg Host.Outcome.next (State.helmStep_fault hr hu rfl (by
    simp only [State.helm_helmCycles hs, Helm.writePort_spent, hf]))

/-! A Helm's cycles leave what a transmitter sends. -/

theorem State.txDefault_helmCycles (s : State) (h k c l n : Nat) : (s.helmCycles h k).txDefault c l n = s.txDefault c l n := rfl

theorem State.txWrite_helmCycles (s : State) (h k c l o x v : Nat) :
    (s.helmCycles h k).txWrite c l o x v = s.txWrite c l o x v := rfl

theorem State.txBack_helmCycles (s : State) (h k c l : Nat) (img : List Byte) :
    (s.helmCycles h k).txBack c l img = s.txBack c l img := rfl

theorem State.txForce_helmCycles (s : State) (h k c l : Nat) (img : List Byte) :
    (s.helmCycles h k).txForce c l img = s.txForce c l img := rfl

theorem State.txImage_helmCycles (s : State) (h k c l n : Nat) (own : List (Nat × Nat × Byte)) (held ins : Bool) :
    (s.helmCycles h k).txImage c l n own held ins = s.txImage c l n own held ins := by
  unfold State.txImage
  simp only [State.txDefault_helmCycles, State.txWrite_helmCycles, State.txBack_helmCycles, State.txForce_helmCycles]
  rfl

theorem State.ohBase_helmCycles (hs : s.Good True) (k p : Nat) (own : List (Nat × Nat × Byte)) :
    (s.helmCycles h k).ohBase h p q own o = s.ohBase h p q own o := by
  unfold State.ohBase
  simp only [State.helm_helmCycles hs, State.txImage_helmCycles]
  rfl

/-- The byte that OHWM stages: g[d] over the base under the mask g[a] (R228). -/
def State.ohMixed (s : State) (h : Nat) (q : Port) (own : List (Nat × Nat × Byte)) (o i : Nat) : Byte :=
  (s.ohBase h (wPt (s.word_ h)) q own (o + i) &&& ~~~((s.srcA h).extractLsb' (8 * i) 8)) |||
    ((s.srcD h).extractLsb' (8 * i) 8 &&& (s.srcA h).extractLsb' (8 * i) 8)

theorem ohwm_holds {own : List (Nat × Nat × Byte)} (hs : s.Good True) (hu : u ≠ .imemParity)
    (hr : s.helmRuns h .ohwm 1 = true) (hq : (s.helm h).writePort (s.word_ h) = .ok q) (hn : ohLen (s.word_ h) = n) :
    ∃ t, exec (.ohwm h u own) s = .next t ∧
      OhStaged s h q (wImm12 (s.word_ h)) n (s.ohMixed h q own (wImm12 (s.word_ h))) t := by
  have hh := State.helm_helmCycles hs h 1
  have hl : (List.range n).map (s.ohMixed h q own (wImm12 (s.word_ h))) = (List.range n).map fun i =>
      ((s.helmCycles h 1).ohBase h (wPt (s.word_ h)) q own (wImm12 (s.word_ h) + i) &&&
        ~~~((leBytes n (s.srcA h).toNat).getD i 0)) |||
        ((leBytes n (s.srcD h).toNat).getD i 0 &&& (leBytes n (s.srcA h).toNat).getD i 0) := by
    refine List.map_congr_left fun i hi => ?_
    have hi' := List.mem_range.mp hi
    rw [leBytes_word _ _ _ hi', leBytes_word _ _ _ hi', State.ohBase_helmCycles hs, State.ohMixed]
  have he : exec (.ohwm h u own) s = .next (((s.helmCycles h 1).stageOh h (wPt (s.word_ h)) q (wImm12 (s.word_ h))
      ((List.range n).map (s.ohMixed h q own (wImm12 (s.word_ h))))).helmNext h) := by
    refine congrArg Host.Outcome.next (State.helmStep_ok hr hu rfl ?_)
    rw [hl]
    simp only [hh, Helm.writePort_spent, hq, Helm.reg_spent, hn]
    rfl
  refine ⟨_, he, ohStaged_stageOh hs (by rw [List.length_map, List.length_range]) fun i hi => ?_⟩
  rw [List.getD_eq_getElem?_getD, List.getElem?_map, List.getElem?_range hi]
  rfl

/-! ### BIPX -/

theorem exec_bipx_unbound (hs : s.Good True) (hu : u ≠ .imemParity) (hr : s.helmRuns h .bipx 2 = true)
    (hq : ∀ q, (s.helm h).port? (wPt (s.word_ h)) = some q → q.kind ∉ [PortKind.sliceRx, .chart]) :
    exec (.bipx h u) s = .next ((s.helmCycles h 2).helmFault h faultUnbound) :=
  congrArg Host.Outcome.next (State.helmStep_fault hr hu rfl (by
    simp only [State.helm_helmCycles hs, Helm.usePort_spent, Helm.usePort_unbound hq]))

theorem exec_bipx_no_item (hs : s.Good True) (hu : u ≠ .imemParity) (hr : s.helmRuns h .bipx 2 = true)
    (hq : (s.helm h).port? (wPt (s.word_ h)) = some q) (hk : q.kind ∈ [PortKind.sliceRx, .chart])
    (hi : wImm12 (s.word_ h) ∉ s.portItems q) :
    exec (.bipx h u) s = .next ((s.helmCycles h 2).helmFault h faultUnbound) := by
  have hi' : ((s.helmCycles h 2).portItems q).contains (wImm12 (s.word_ h)) = false :=
    Bool.eq_false_iff.mpr fun hc => hi (List.contains_iff_mem.mp hc)
  refine congrArg Host.Outcome.next (State.helmStep_fault hr hu rfl ?_)
  simp only [State.helm_helmCycles hs, Helm.usePort_spent, Helm.usePort_ok hq hk, hi', Bool.not_false, if_true]

theorem bipx_holds (hs : s.Good True) (hu : u ≠ .imemParity) (hr : s.helmRuns h .bipx 2 = true)
    (hq : (s.helm h).port? (wPt (s.word_ h)) = some q) (hk : q.kind ∈ [PortKind.sliceRx, .chart])
    (hi : wImm12 (s.word_ h) ∈ s.portItems q) :
    ∃ t r, exec (.bipx h u) s = .next t ∧ AluDone s h 2 r (s.znOf h r) t ∧ (s.portShows q = false → r = 0) ∧
      (s.portShows q = true → r = BitVec.ofNat 32 (leAt q.bank (3 * wImm12 (s.word_ h)) 3)) := by
  have hi' : ((s.helmCycles h 2).portItems q).contains (wImm12 (s.word_ h)) = true := List.contains_iff_mem.mpr hi
  refine ⟨_, BitVec.ofNat 32 (if s.portShows q then leAt q.bank (3 * wImm12 (s.word_ h)) 3 else 0),
    congrArg Host.Outcome.next (State.helmStep_ok hr hu rfl ?_),
    aluDone_flagged hs _ (Helm.flagsOnly_setZN _ _), fun he => by simp [he], fun he => by simp [he]⟩
  simp only [State.helm_helmCycles hs, Helm.usePort_spent, Helm.usePort_ok hq hk, hi', Bool.not_true, Bool.false_eq_true, if_false]
  rfl

end

end Sys2Proof.Machine

end

section
/-! # Chute ports

What a producer's push, commit and rewind come to, and what they leave alone (R227, R229, R481, R484). -/

namespace Sys2Proof.Machine

open Reg

set_option Elab.async false

section

variable {s t : State} {c i n p v : Nat} {o : OpenPkt} {x : Chute} {f : Fld}

/-! ### Beside the Helms -/

theorem Aside.bump (h : Aside s t) (hf : f.region.code ≠ 0 := by decide) : Aside s (t.bump f i c n) := h.wr hf

theorem Aside.draw (h : Aside s t) : Aside s t.draw := h.step h.good.draw

theorem Aside.chuteDraw (h : Aside s t) : Aside s (t.chuteDraw x) := .either h h.draw

theorem Aside.putGap (h : Aside s t) : Aside s (t.putGap c) := h.setChute.bump.count

theorem Aside.pushMore (h : Aside s t) : Aside s (t.pushMore c p o v) :=
  .either h.setChute (.either h.setChute (Aside.setChute (.either h.chuteDraw.count h.chuteDraw)))

theorem Aside.pushFirst (h : Aside s t) : Aside s (t.pushFirst c p v) :=
  .either h.setChute (.either (Aside.setChute (Aside.count (.either h.chuteDraw.putGap h.chuteDraw))) h.chuteDraw.setChute)

theorem Aside.chutePush (h : Aside s t) : Aside s (t.chutePush c p v) := by
  unfold State.chutePush
  split
  · exact h.pushMore
  · exact h.pushFirst

theorem Aside.chuteCommit (h : Aside s t) : Aside s (t.chuteCommit c p) := by
  dsimp only [State.chuteCommit]
  split
  · exact h
  · exact .either h.setChute (.either h.setChute.bump.count.bump h.setChute.bump.count)

theorem Aside.chuteRewind (h : Aside s t) : Aside s (t.chuteRewind c p) := h.setChute

/-! ### Beside the other Chutes -/

/-- From `s` to `t` no Chute but `c` has changed. -/
structure OnlyChute (c : Nat) (s t : State) : Prop where
  good : t.Good True
  others : ∀ i, i ≠ c → t.chute i = s.chute i

theorem OnlyChute.refl (h : s.Good True) : OnlyChute c s s := ⟨h, fun _ _ => rfl⟩

theorem OnlyChute.setChute {y : Chute} (h : OnlyChute c s t) : OnlyChute c s (t.setChute c y) :=
  ⟨h.good.setChute, fun i hi => (State.chute_setChute_other (h.good.chutes trivial) y hi).trans (h.others i hi)⟩

theorem OnlyChute.either {q : Prop} {_ : Decidable q} {w : State} (ht : OnlyChute c s t) (hw : OnlyChute c s w) :
    OnlyChute c s (if q then t else w) := by
  split <;> assumption

theorem OnlyChute.count {k : Nat} (h : OnlyChute c s t) : OnlyChute c s (t.count k n) := ⟨h.good.count, h.others⟩

theorem OnlyChute.bump {j : Nat} (h : OnlyChute c s t) : OnlyChute c s (t.bump f i j n) := ⟨h.good.bump, h.others⟩

theorem OnlyChute.chuteDraw (h : OnlyChute c s t) : OnlyChute c s (t.chuteDraw x) := .either h ⟨h.good.draw, h.others⟩

theorem OnlyChute.putGap (h : OnlyChute c s t) : OnlyChute c s (t.putGap c) := h.setChute.bump.count

theorem OnlyChute.pushMore (h : OnlyChute c s t) : OnlyChute c s (t.pushMore c p o v) :=
  .either h.setChute (.either h.setChute (OnlyChute.setChute (.either h.chuteDraw.count h.chuteDraw)))

theorem OnlyChute.pushFirst (h : OnlyChute c s t) : OnlyChute c s (t.pushFirst c p v) :=
  .either h.setChute (.either (OnlyChute.setChute (OnlyChute.count (.either h.chuteDraw.putGap h.chuteDraw))) h.chuteDraw.setChute)

theorem OnlyChute.chutePush (h : OnlyChute c s t) : OnlyChute c s (t.chutePush c p v) := by
  unfold State.chutePush
  split
  · exact h.pushMore
  · exact h.pushFirst

theorem OnlyChute.chuteCommit (h : OnlyChute c s t) : OnlyChute c s (t.chuteCommit c p) := by
  dsimp only [State.chuteCommit]
  split
  · exact h
  · exact .either h.setChute (.either h.setChute.bump.count.bump h.setChute.bump.count)

theorem OnlyChute.chuteRewind (h : OnlyChute c s t) : OnlyChute c s (t.chuteRewind c p) := h.setChute

/-! ### A push and a commit into a Chute with room -/

/-- The open packet of one entry. -/
def onePkt (p v : Nat) : OpenPkt := { producer := p, entries := [v], count := 1, cause := 0 }

/-- The Chute has no open packet and no GAP pending, and takes an entry whatever R480 leaves open. -/
structure Chute.Fresh (x : Chute) : Prop where
  opened : x.opened = []
  gapDue : x.gapDue = false
  room : 12 < x.room

theorem State.chute_chutePush_fresh (hs : s.Good True) (hx : (s.chute c).Fresh) (hv : v < 2 ^ 64) :
    (s.chutePush c p v).chute c = { s.chute c with opened := [onePkt p v] } := by
  have hopen : (s.chute c).openCount = 0 := by simp [Chute.openCount, hx.opened]
  have hroom := hx.room
  have htakes : s.chuteTakes (s.chute c) 1 = true := by
    simp only [State.chuteTakes, Bool.and_eq_true, Bool.or_eq_true, decide_eq_true_eq]
    omega
  have hdraw : s.chuteDraw (s.chute c) = s := if_pos (.inl hroom)
  have e : s.chutePush c p v = (s.count 208).setChute c { s.chute c with opened := [onePkt p v] } := by
    simp only [State.chutePush, hx.opened, List.find?_nil, State.pushFirst, hopen, hx.gapDue, hdraw, htakes, Nat.mod_eq_of_lt hv,
      Bool.false_eq_true, if_false, if_true, List.nil_append, if_neg (show ¬8 ≤ 0 by decide)]
    simp only [show (s.count 208).chute c = s.chute c from rfl, hx.opened, List.nil_append, onePkt]
  rw [e]
  exact State.chute_setChute_same (hs.count.chutes trivial) c _

theorem State.chute_chuteCommit_onePkt (hs : s.Good True) (hx : (s.chute c).opened = [onePkt p v]) :
    (s.chuteCommit c p).chute c =
      { s.chute c with opened := [], hidden := (s.chute c).hidden ++ [[{ data := v, sop := true, eop := true, gap := false }]] } := by
  have e : s.chuteCommit c p = s.setChute c
      { s.chute c with opened := [], hidden := (s.chute c).hidden ++ [[{ data := v, sop := true, eop := true, gap := false }]] } := by
    simp [State.chuteCommit, hx, onePkt, packetOf]
  rw [e]
  exact State.chute_setChute_same (hs.chutes trivial) c _

theorem State.chute_chuteRewind (hs : s.Good True) :
    (s.chuteRewind c p).chute c = { s.chute c with opened := (s.chute c).opened.filter fun o => o.producer ≠ p } :=
  State.chute_setChute_same (hs.chutes trivial) c _

end

section

variable {s : State} {h : Fin 32} {u : Upset} {q : Port} {op : HOp} {f : Word → Nat → Nat → State → State} {t : State}

/-! ### An instruction on a Chute port -/

theorem State.chuteStep_unbound (hs : s.Good True) (hu : u ≠ .imemParity) (hr : s.helmRuns h op 1 = true)
    (hq : ∀ q, (s.helm h).port? (wPt (s.word_ h)) = some q → q.kind ≠ .chute) :
    s.chuteStep h u op f = (s.helmCycles h 1).helmFault h faultUnbound :=
  State.helmStep_fault hr hu rfl (by
    simp only [State.helm_helmCycles hs, Helm.usePort_spent, Helm.usePort_unbound (kinds := [.chute]) (by simpa using hq)])

theorem State.chuteStep_ro (hs : s.Good True) (hu : u ≠ .imemParity) (hr : s.helmRuns h op 1 = true)
    (hq : (s.helm h).port? (wPt (s.word_ h)) = some q) (hk : q.kind = .chute) (hro : q.ro = true) :
    s.chuteStep h u op f = (s.helmCycles h 1).helmFault h faultRo :=
  State.helmStep_fault hr hu rfl (by
    simp only [State.helm_helmCycles hs, Helm.usePort_spent, Helm.usePort_ok (kinds := [.chute]) hq (by simp [hk]), hro, if_true])

theorem State.chuteStep_ok (hs : s.Good True) (hu : u ≠ .imemParity) (hr : s.helmRuns h op 1 = true)
    (hq : (s.helm h).port? (wPt (s.word_ h)) = some q) (hk : q.kind = .chute) (hro : q.ro = false)
    (hf : f (s.word_ h) (objIndex q.src) (prodHelm h (wPt (s.word_ h))) (s.helmCycles h 1) = t) :
    s.chuteStep h u op f = t.helmNext h :=
  State.helmStep_ok hr hu rfl (by
    simp only [State.helm_helmCycles hs, Helm.usePort_spent, Helm.usePort_ok (kinds := [.chute]) hq (by simp [hk]), hro, hf,
      Bool.false_eq_true, if_false])

/-- What the clauses of an instruction on a Chute port say, from what it makes of the Chute (R227, R229). -/
theorem chute_row {i : Instr} {after : Chute → Chute → Prop} (hs : s.Good True) (hu : u ≠ .imemParity)
    (hi : exec i s = .next (s.chuteStep h u op f)) (ha : ∀ x c p, Aside (s.helmCycles h 1) (f x c p (s.helmCycles h 1)))
    (hc : ∀ x c p, OnlyChute c (s.helmCycles h 1) (f x c p (s.helmCycles h 1)))
    (hf : ∀ c, after (s.chute c) ((f (s.word_ h) c (prodHelm h (wPt (s.word_ h))) (s.helmCycles h 1)).chute c))
    (hr : s.helmRuns h op 1 = true) :
    ((∀ q, (s.helm h).port? (wPt (s.word_ h)) = some q → q.kind ≠ .chute) →
        exec i s = .next ((s.helmCycles h 1).helmFault h 7)) ∧
      ∀ q, (s.helm h).port? (wPt (s.word_ h)) = some q → q.kind = .chute →
        (q.ro = true → exec i s = .next ((s.helmCycles h 1).helmFault h 8)) ∧
        (q.ro = false → ∃ t, exec i s = .next t ∧ t.helm h = ((s.helm h).spent 1).fallThrough ∧
          (∀ k, k ≠ h → t.helm k = s.helm k) ∧ SameMem s t ∧
          (∀ c, c ≠ objIndex q.src → t.chute c = s.chute c) ∧
          after (s.chute (objIndex q.src)) (t.chute (objIndex q.src))) := by
  refine ⟨fun hq => ?_, fun q hq hk => ⟨fun hro => ?_, fun hro => ?_⟩⟩
  · rw [hi, State.chuteStep_unbound hs hu hr hq]
    rfl
  · rw [hi, State.chuteStep_ro hs hu hr hq hk hro]
    rfl
  · refine ⟨_, hi.trans (congrArg _ (State.chuteStep_ok hs hu hr hq hk hro rfl)), (ha _ _ _).helm_helmNext hs,
      fun k hk' => (ha _ _ _).helm_helmNext_other hs fun e => hk' (Fin.ext e), (ha _ _ _).sameMem_helmNext, (hc _ _ _).others, hf _⟩

theorem Helm.item_lt (m : Helm) (x : Word) : m.item x < 2 ^ 64 := by
  have ha := (m.reg (wA x)).isLt
  have hd := (m.reg (wD x)).isLt
  simp only [Helm.item]
  omega

end

/-- Settles O12: each instruction's lemmas stand above. -/
theorem helmOverheadAndChutePorts : Obligations.HelmOverheadAndChutePorts := by
  unfold Obligations.HelmOverheadAndChutePorts
  constructor
  · intro s h u hwf hu m x n off kinds unused staged
    have hs := (State.wf_iff s).mp hwf
    refine ⟨fun hr => ⟨exec_ohrd_unbound hs hu hr, fun q hq hk => ?ohrd⟩, fun q o => State.ohByte_beyond,
      fun hr => ⟨fun hq => exec_ohwr_fault hs hu hr (Helm.writePort_unbound hq), fun q hq hk => ⟨fun hro => ?_, fun hro hx => ?ohwr⟩⟩,
      fun own hr => ⟨fun hq => exec_ohwm_fault hs hu hr (Helm.writePort_unbound hq), fun q hq hk => ⟨fun hro => ?_, fun hro hx => ?ohwm⟩⟩,
      fun hr => ⟨exec_bipx_unbound hs hu hr, fun q hq hk => ⟨exec_bipx_no_item hs hu hr hq hk, bipx_holds hs hu hr hq hk⟩⟩⟩
    case ohrd => exact ohrd_holds hs hu hr hq hk (ohLen_eq (State.helmRuns_fieldsOk hr)) rfl
    case ohwr => exact ohwr_holds hs hu hr (Helm.writePort_ok hq hk hro hx) (ohLen_eq (State.helmRuns_fieldsOk hr)) rfl
    case ohwm => exact ohwm_holds hs hu hr (Helm.writePort_ok hq hk hro hx) (ohLen_eq (State.helmRuns_fieldsOk hr))
    · exact exec_ohwr_fault hs hu hr (Helm.writePort_ro hq hk hro)
    · exact exec_ohwm_fault hs hu hr (Helm.writePort_ro hq hk hro)
  · intro s h u hwf hu m x p item row fresh
    have hs := (State.wf_iff s).mp hwf
    have hg : (s.helmCycles h 1).Good True := hs.helmCycles
    have hitem : ((s.helmCycles h 1).helm h).item x = item := by rw [State.helm_helmCycles hs]; rfl
    have hlt : item < 2 ^ 64 := m.item_lt x
    have hpush : ∀ c, fresh (s.chute c) → ((s.helmCycles h 1).chutePush c p item).chute c =
        { s.chute c with opened := [onePkt p item] } := fun c hf =>
      State.chute_chutePush_fresh hg ⟨hf.1, hf.2.1, hf.2.2⟩ hlt
    refine ⟨?push, ?pushc, ?rwd⟩
    case push =>
      refine chute_row (f := fun x c p s => s.chutePush c p ((s.helm h).item x))
        (after := fun c c' => fresh c → c' = { c with opened := [onePkt p item] }) hs hu rfl
        (fun _ _ _ => (Aside.refl hg).chutePush) (fun _ _ _ => (OnlyChute.refl hg).chutePush) fun c hf => ?_
      rw [hitem]
      exact hpush c hf
    case pushc =>
      refine chute_row (f := fun x c p s => (s.chutePush c p ((s.helm h).item x)).chuteCommit c p)
        (after := fun c c' => fresh c →
          c' = { c with hidden := c.hidden ++ [[{ data := item, sop := true, eop := true, gap := false }]] }) hs hu rfl
        (fun _ _ _ => (Aside.refl hg).chutePush.chuteCommit) (fun _ _ _ => (OnlyChute.refl hg).chutePush.chuteCommit)
        fun c hf => ?_
      rw [hitem, State.chute_chuteCommit_onePkt hg.chutePush (by rw [hpush c hf]), hpush c hf, ← hf.1]
    case rwd =>
      exact chute_row (f := fun _ c p s => s.chuteRewind c p)
        (after := fun c c' => c' = { c with opened := c.opened.filter fun o => o.producer ≠ p }) hs hu rfl
        (fun _ _ _ => (Aside.refl hg).chuteRewind) (fun _ _ _ => (OnlyChute.refl hg).chuteRewind)
        fun c => State.chute_chuteRewind hg

end Sys2Proof.Machine

end

section
/-! # Defects and pattern control

DSET and DCLR (R233, R234), and what the pattern instructions make of a pattern unit (R235, R236). -/

namespace Sys2Proof.Machine

open Reg

set_option Elab.async false

section

variable {s : State} {h : Fin 32} {u : Upset} {q : Port} {op : HOp} {set : Bool}

/-! ### DSET and DCLR -/

theorem State.defStep_no_code (hu : u ≠ .imemParity) (hr : s.helmRuns h op 1 = true)
    (hc : wImm12 (s.word_ h) % 256 ∉ progCodes) :
    s.defStep h u op set = (s.helmCycles h 1).helmFault h faultIllegal := by
  have hc' : progCodes.contains (wImm12 (s.word_ h) % 256) = false :=
    Bool.eq_false_iff.mpr fun e => hc (List.contains_iff_mem.mp e)
  refine State.helmStep_fault hr hu rfl ?_
  simp only [hc', Bool.not_false, if_true]

theorem State.defStep_unbound (hs : s.Good True) (hu : u ≠ .imemParity) (hr : s.helmRuns h op 1 = true)
    (hc : wImm12 (s.word_ h) % 256 ∈ progCodes)
    (hq : ∀ q, (s.helm h).port? (wPt (s.word_ h)) = some q → q.kind ∉ ohKinds) :
    s.defStep h u op set = (s.helmCycles h 1).helmFault h faultUnbound := by
  refine State.helmStep_fault hr hu rfl ?_
  simp only [List.contains_iff_mem.mpr hc, Bool.not_true, Bool.false_eq_true, if_false, State.helm_helmCycles hs,
    Helm.usePort_spent, Helm.usePort_unbound hq]

theorem State.defStep_not_driven (hs : s.Good True) (hu : u ≠ .imemParity) (hr : s.helmRuns h op 1 = true)
    (hc : wImm12 (s.word_ h) % 256 ∈ progCodes) (hq : (s.helm h).port? (wPt (s.word_ h)) = some q) (hk : q.kind ∈ ohKinds)
    (hd : wImm12 (s.word_ h) % 256 ∉ s.portProgDefects q) :
    s.defStep h u op set = (s.helmCycles h 1).helmFault h faultIllegal := by
  have hd' : ((s.helmCycles h 1).portProgDefects q).contains (wImm12 (s.word_ h) % 256) = false :=
    Bool.eq_false_iff.mpr fun e => hd (List.contains_iff_mem.mp e)
  refine State.helmStep_fault hr hu rfl ?_
  simp only [List.contains_iff_mem.mpr hc, Bool.not_true, Bool.false_eq_true, if_false, State.helm_helmCycles hs,
    Helm.usePort_spent, Helm.usePort_ok hq hk, hd', Bool.not_false, if_true]

section

variable (hs : s.Good True) (hu : u ≠ .imemParity) (hr : s.helmRuns h op 1 = true)
  (hc : wImm12 (s.word_ h) % 256 ∈ progCodes) (hq : (s.helm h).port? (wPt (s.word_ h)) = some q) (hk : q.kind ∈ ohKinds)
  (hd : wImm12 (s.word_ h) % 256 ∈ s.portProgDefects q)
include hs hu hr hc hq hk hd

theorem State.defStep_ro (hro : q.ro = true) : s.defStep h u op set = (s.helmCycles h 1).helmFault h faultRo := by
  have hd' : ((s.helmCycles h 1).portProgDefects q).contains (wImm12 (s.word_ h) % 256) = true :=
    List.contains_iff_mem.mpr hd
  refine State.helmStep_fault hr hu rfl ?_
  simp only [List.contains_iff_mem.mpr hc, Bool.not_true, Bool.false_eq_true, if_false, State.helm_helmCycles hs,
    Helm.usePort_spent, Helm.usePort_ok hq hk, hd', hro, if_true]

/-- The change waits, behind those staged before it, for END (R233). -/
theorem State.defStep_ok (hro : q.ro = false) :
    OnlyHelm h s (s.defStep h u op set) ∧ (s.defStep h u op set).helm h = { ((s.helm h).spent 1).fallThrough with
      stagedDef := (s.helm h).stagedDef ++ [(wPt (s.word_ h), wImm12 (s.word_ h) % 256, set)] } := by
  have hg := hs.helmCycles (h := h) (k := 1)
  have hd' : ((s.helmCycles h 1).portProgDefects q).contains (wImm12 (s.word_ h) % 256) = true :=
    List.contains_iff_mem.mpr hd
  have e : s.defStep h u op set = ((s.helmCycles h 1).setHelm h { (s.helm h).spent 1 with
      stagedDef := (s.helm h).stagedDef ++ [(wPt (s.word_ h), wImm12 (s.word_ h) % 256, set)] }).helmNext h := by
    refine State.helmStep_ok hr hu rfl ?_
    simp only [List.contains_iff_mem.mpr hc, Bool.not_true, Bool.false_eq_true, if_false, State.helm_helmCycles hs,
      Helm.usePort_spent, Helm.usePort_ok hq hk, hd', hro]
    rfl
  rw [e]
  exact ⟨((OnlyHelm.refl h s).helmCycles hs 1).retire hg hs.helm.update, State.helm_retire hg h _⟩

end

/-- What the clauses of DSET and DCLR say (R234). -/
theorem def_row {i : Instr} (hs : s.Good True) (hu : u ≠ .imemParity) (hi : exec i s = .next (s.defStep h u op set))
    (hr : s.helmRuns h op 1 = true) :
    (wImm12 (s.word_ h) % 256 ∉ progCodes → exec i s = .next ((s.helmCycles h 1).helmFault h 1)) ∧
      (wImm12 (s.word_ h) % 256 ∈ progCodes →
        (∀ q, (s.helm h).port? (wPt (s.word_ h)) = some q → q.kind ∉ ohKinds) →
        exec i s = .next ((s.helmCycles h 1).helmFault h 7)) ∧
      ∀ q, (s.helm h).port? (wPt (s.word_ h)) = some q → q.kind ∈ ohKinds → wImm12 (s.word_ h) % 256 ∈ progCodes →
        (wImm12 (s.word_ h) % 256 ∉ s.portProgDefects q → exec i s = .next ((s.helmCycles h 1).helmFault h 1)) ∧
        (wImm12 (s.word_ h) % 256 ∈ s.portProgDefects q → q.ro = true →
          exec i s = .next ((s.helmCycles h 1).helmFault h 8)) ∧
        (wImm12 (s.word_ h) % 256 ∈ s.portProgDefects q → q.ro = false → ∃ t, exec i s = .next t ∧ OnlyHelm h s t ∧
          SameMem s t ∧ t.helm h = { ((s.helm h).spent 1).fallThrough with
            stagedDef := (s.helm h).stagedDef ++ [(wPt (s.word_ h), wImm12 (s.word_ h) % 256, set)] }) := by
  rw [hi]
  refine ⟨fun hc => congrArg _ (State.defStep_no_code hu hr hc), fun hc hq => congrArg _ (State.defStep_unbound hs hu hr hc hq),
    fun q hq hk hc => ⟨fun hd => congrArg _ (State.defStep_not_driven hs hu hr hc hq hk hd),
      fun hd hro => congrArg _ (State.defStep_ro hs hu hr hc hq hk hd hro), fun hd hro => ?_⟩⟩
  obtain ⟨honly, hh⟩ := State.defStep_ok (set := set) hs hu hr hc hq hk hd hro
  exact ⟨_, rfl, honly, honly.sameMem, hh⟩

end

section

variable {s t : State} {v sides code bits errs b : Nat} {f : Fld}

/-! ### Pattern units -/

theorem Aside.patSeed (h : Aside s t) : Aside s (t.patSeed v) := h.wr

theorem Aside.patStart (h : Aside s t) : Aside s (t.patStart v sides code) :=
  .either (Aside.patSeed (.either h.wr.wr.setPat h.wr.wr)) (.either h.wr.wr.setPat h.wr.wr)

theorem Aside.patStop (h : Aside s t) : Aside s (t.patStop v sides) :=
  .either (Aside.patSeed (.either h.wr.setPat h.wr)) (.either h.wr.setPat h.wr)

theorem Aside.patCount (h : Aside s t) : Aside s (t.patCount v bits errs) := .either h.wr.wr.setPat h

/-- Out of sync nothing is counted (R385). -/
theorem State.patCount_out_of_sync (hf : s.flag PU_STAT_SYNC v = false) : s.patCount v bits errs = s := by
  simp [State.patCount, hf]

/-- What a pattern unit's state and sync leave of its other registers. -/
theorem State.rd_seeded (hs : s.Good True) (hf : f.key 0 0 ≠ PU_STAT_SYNC.key 0 0) (p q : Prop) [Decidable p] [Decidable q]
    (y : PatUnit) :
    (if q then (if p then s.setPat v y else s).patSeed v else (if p then s.setPat v y else s)).rd f v = s.rd f v := by
  have hp : (if p then s.setPat v y else s).rd f v = s.rd f v := by split <;> rfl
  split
  · rw [State.patSeed, State.rd_wr_ne (hs.setPat.either hs) _ _ _ _ hf, hp]
  · exact hp

theorem State.rd_code_patStart (hs : s.Good True) (hc : code < 16) : (s.patStart v sides code).rd PU_CTL_CODE v = code := by
  rw [State.patStart, State.rd_seeded hs.wr.wr (by decide), State.rd_wr_ne hs.wr PU_CTL_RUN PU_CTL_CODE,
    State.rd_wr_same (hs.regs trivial)]
  exact Nat.mod_eq_of_lt hc

/-- A started side runs. -/
theorem State.run_patStart (hs : s.Good True) (hb : b < 2) (hside : sides.testBit b = true) :
    (s.patStart v sides code).maskBit PU_CTL_RUN b v = true := by
  rw [State.maskBit, State.patStart, State.rd_seeded hs.wr.wr (by decide), State.rd_wr_same (hs.wr.regs trivial)]
  change ((s.rd PU_CTL_RUN v ||| sides) % 2 ^ 2).testBit b = true
  rw [Nat.testBit_mod_two_pow, Nat.testBit_or, hside, Bool.or_true, Bool.and_true, decide_eq_true hb]

/-- A stopped side does not run. -/
theorem State.run_patStop (hs : s.Good True) (hside : (3 - sides % 4).testBit b = false) :
    (s.patStop v sides).maskBit PU_CTL_RUN b v = false := by
  rw [State.maskBit, State.patStop, State.rd_seeded hs.wr (by decide), State.rd_wr_same (hs.regs trivial)]
  change ((s.rd PU_CTL_RUN v &&& (3 - sides % 4)) % 2 ^ 2).testBit b = false
  rw [Nat.testBit_mod_two_pow, Nat.testBit_and, hside, Bool.and_false, Bool.and_false]

theorem State.rd_code_patStop (hs : s.Good True) : (s.patStop v sides).rd PU_CTL_CODE v = s.rd PU_CTL_CODE v := by
  rw [State.patStop, State.rd_seeded hs.wr (by decide), State.rd_wr_ne hs PU_CTL_RUN PU_CTL_CODE]

/-- The bit of a pattern port's side in PU_CTL.RUN. -/
def Port.sideBit (q : Port) : Nat := if q.sel = 0 then 0 else 1

theorem Port.sideBit_lt (q : Port) : q.sideBit < 2 := by
  unfold Port.sideBit
  split <;> decide

theorem Port.testBit_side (q : Port) : q.side.testBit q.sideBit = true := by
  unfold Port.side Port.sideBit
  split <;> decide

theorem Port.testBit_other_side (q : Port) : (3 - q.side % 4).testBit q.sideBit = false := by
  unfold Port.side Port.sideBit
  split <;> decide

end

section

variable {s t v : State} {h : Fin 32} {u : Upset} {op : HOp} {ctl : Bool} {bad : Word → Bool}
  {f : Word → Nat → Port → State → State} {q : Port} {w : Word} {g : Nat → Word}

/-! ### An instruction on a pattern port -/

/-- A pattern instruction has left its Helm with the registers `g`. -/
structure PatDone (s : State) (h : Fin 32) (g : Nat → Word) (t : State) : Prop where
  flags : (t.helm h).flags = (s.helm h).flags
  mem : SameMem s t
  pc : (t.helm h).pc = ((s.helm h).spent 1).fallThrough.pc
  regs : ∀ r, (t.helm h).reg r = g r

/-- It has changed no register. -/
theorem Aside.patDone (hs : s.Good True) (ha : Aside (s.helmCycles h 1) v) : PatDone s h (s.helm h).reg (v.helmNext h) := by
  have hh := ha.helm_helmNext hs
  exact ⟨by rw [hh]; rfl, ha.sameMem_helmNext, by rw [hh], fun r => by rw [hh]; rfl⟩

/-- The registers with `w` written to the instruction's g[d] (R171). -/
def State.regsWith (s : State) (h : Nat) (w : Word) (r : Nat) : Word :=
  if r = wD (s.word_ h) ∧ r ≠ 0 then w else (s.helm h).reg r

/-- It has written its result. -/
theorem Aside.patDone_setReg (hs : s.Good True) (ha : Aside (s.helmCycles h 1) v) (w : Word) :
    PatDone s h (s.regsWith h w) ((v.setHelm h (((s.helm h).spent 1).setReg (wD (s.word_ h)) w)).helmNext h) := by
  have hh := State.helm_retire ha.good h (((s.helm h).spent 1).setReg (wD (s.word_ h)) w)
  refine ⟨?_, ha.sameMem_update, ?_, fun r => ?_⟩ <;> rw [hh]
  · rw [Helm.flags_fallThrough, Helm.flags_setReg, Helm.flags_spent]
  · rw [Helm.setReg_eq]
    rfl
  · rw [Helm.reg_fallThrough, Helm.reg_setReg hs.helm.spent]
    rfl

theorem State.patStep_unbound (hs : s.Good True) (hu : u ≠ .imemParity) (hr : s.helmRuns h op 1 = true)
    (hb : bad (s.word_ h) = false)
    (hq : ∀ q, (s.helm h).port? (wPt (s.word_ h)) = some q → q.kind ≠ .pattern) :
    s.patStep h u op ctl bad f = (s.helmCycles h 1).helmFault h faultUnbound :=
  State.helmStep_fault hr hu rfl (by
    simp only [hb, Bool.false_eq_true, if_false, State.helm_helmCycles hs, Helm.usePort_spent,
      Helm.usePort_unbound (kinds := [.pattern]) (by simpa using hq)])

theorem State.patStep_ro (hs : s.Good True) (hu : u ≠ .imemParity) (hr : s.helmRuns h op 1 = true)
    (hb : bad (s.word_ h) = false) (hq : (s.helm h).port? (wPt (s.word_ h)) = some q) (hk : q.kind = .pattern)
    (hc : ctl = true) (hro : q.ro = true) :
    s.patStep h u op ctl bad f = (s.helmCycles h 1).helmFault h faultRo :=
  State.helmStep_fault hr hu rfl (by
    simp only [hb, Bool.false_eq_true, if_false, State.helm_helmCycles hs, Helm.usePort_spent,
      Helm.usePort_ok (kinds := [.pattern]) hq (by simp [hk]), hc, hro, and_self, if_true])

theorem State.patStep_ok (hs : s.Good True) (hu : u ≠ .imemParity) (hr : s.helmRuns h op 1 = true)
    (hb : bad (s.word_ h) = false) (hq : (s.helm h).port? (wPt (s.word_ h)) = some q) (hk : q.kind = .pattern)
    (hro : ctl = true → q.ro = false) :
    s.patStep h u op ctl bad f = (f (s.word_ h) (objIndex q.src) q (s.helmCycles h 1)).helmNext h := by
  have hro' : ¬(ctl = true ∧ q.ro = true) := fun hc => by simp [hro hc.1] at hc
  refine State.helmStep_ok hr hu rfl ?_
  simp only [hb, Bool.false_eq_true, if_false, State.helm_helmCycles hs, Helm.usePort_spent,
    Helm.usePort_ok (kinds := [.pattern]) hq (by simp [hk]), if_neg hro']

/-- What the clauses of a pattern instruction say, from what it makes of the unit (R235, R236). -/
theorem pat_row {i : Instr} {ok : Bool} {after : Nat → Port → State → Prop} (hs : s.Good True) (hu : u ≠ .imemParity)
    (hi : exec i s = .next (s.patStep h u op ctl bad f)) (hok : ok = true → bad (s.word_ h) = false)
    (hf : ok = true → ∀ n q, (∃ g, PatDone s h g ((f (s.word_ h) n q (s.helmCycles h 1)).helmNext h)) ∧
      after n q ((f (s.word_ h) n q (s.helmCycles h 1)).helmNext h))
    (hr : s.helmRuns h op 1 = true) (h1 : ok = true) :
    ((∀ q, (s.helm h).port? (wPt (s.word_ h)) = some q → q.kind ≠ .pattern) →
        exec i s = .next ((s.helmCycles h 1).helmFault h 7)) ∧
      ∀ q, (s.helm h).port? (wPt (s.word_ h)) = some q → q.kind = .pattern →
        (ctl = true → q.ro = true → exec i s = .next ((s.helmCycles h 1).helmFault h 8)) ∧
        ((ctl = true → q.ro = false) → ∃ t, exec i s = .next t ∧ (t.helm h).flags = (s.helm h).flags ∧ SameMem s t ∧
          (t.helm h).pc = ((s.helm h).spent 1).fallThrough.pc ∧ after (objIndex q.src) q t) := by
  have hb := hok h1
  refine ⟨fun hq => ?_, fun q hq hk => ⟨fun hc hro => ?_, fun hro => ?_⟩⟩
  · rw [hi, State.patStep_unbound hs hu hr hb hq]
    rfl
  · rw [hi, State.patStep_ro hs hu hr hb hq hk hc hro]
    rfl
  · obtain ⟨⟨g, hd⟩, ha⟩ := hf h1 (objIndex q.src) q
    exact ⟨_, hi.trans (congrArg _ (State.patStep_ok hs hu hr hb hq hk hro)), hd.flags, hd.mem, hd.pc, ha⟩

end

/-! ### What each pattern instruction makes of its unit -/

/-- PERR on a pattern port: a generator is to spoil words, a checker is left alone. -/
def perrOn (x : Word) (v : Nat) (q : Port) (s : State) : State :=
  if q.sel = 0 then s.setPat v { s.pat v with perrLeft := max (s.pat v).perrLeft (wImm12 x) } else s

/-- PRDC on a pattern port. -/
def prdcOn (h : Fin 32) (bits errs : Nat) (x : Word) (v : Nat) (q : Port) (s : State) : State :=
  if q.sel = 0 then s.setHelm h ((s.helm h).setReg (wD x) 0)
  else
    let s := s.patCount v bits errs
    (s.setPat v { s.pat v with progErr := 0 }).setHelm h ((s.helm h).setReg (wD x) (BitVec.ofNat 32 (s.pat v).progErr))

/-- PSTAT on a pattern port. -/
def pstatOn (h : Fin 32) (x : Word) (v : Nat) (q : Port) (s : State) : State :=
  if q.sel = 0 then s.setHelm h ((s.helm h).setReg (wD x) 0)
  else (s.setPat v { s.pat v with lostSince := false }).setHelm h
    ((s.helm h).setReg (wD x) (BitVec.ofNat 32 (s.rd PU_STAT_SYNC v + 2 * boolNat (s.pat v).lostSince)))

section

variable {s : State} {h : Fin 32} {q : Port} {n : Nat}

theorem State.pat_setHelm (s : State) (h : Nat) (m : Helm) (n : Nat) : (s.setHelm h m).pat n = s.pat n := rfl

theorem State.rd_setPat (s : State) (n : Nat) (y : PatUnit) (f : Fld) (i j : Nat) : (s.setPat n y).rd f i j = s.rd f i j := rfl

theorem State.rd_helmCycles (s : State) (h k : Nat) (f : Fld) (i j : Nat) : (s.helmCycles h k).rd f i j = s.rd f i j := rfl

theorem State.pat_helmCycles (s : State) (h k n : Nat) : (s.helmCycles h k).pat n = s.pat n := rfl

theorem pstart_done (hs : s.Good True) (n c : Nat) (q : Port) :
    PatDone s h (s.helm h).reg (((s.helmCycles h 1).patStart n q.side c).helmNext h) :=
  (Aside.refl hs.helmCycles).patStart.patDone hs

theorem pstop_done (hs : s.Good True) (n : Nat) (q : Port) :
    PatDone s h (s.helm h).reg (((s.helmCycles h 1).patStop n q.side).helmNext h) :=
  (Aside.refl hs.helmCycles).patStop.patDone hs

theorem perr_done (hs : s.Good True) (x : Word) (n : Nat) (q : Port) :
    PatDone s h (s.helm h).reg ((perrOn x n q (s.helmCycles h 1)).helmNext h) :=
  have ha := Aside.refl hs.helmCycles
  (Aside.either ha.setPat ha).patDone hs

theorem perr_sameRegs (x : Word) (n : Nat) (q : Port) : SameRegs [] s ((perrOn x n q (s.helmCycles h 1)).helmNext h) := by
  refine .of_eq ?_
  unfold perrOn
  split <;> rw [State.helmNext_regs, ← State.helmCycles_regs s h 1]
  rfl

/-- A generator has at least the words of PERR left to spoil (R235). -/
theorem perr_left (hs : s.Good True) (x : Word) (h0 : q.sel = 0) :
    (((perrOn x n q (s.helmCycles h 1)).helmNext h).pat n).perrLeft = max (s.pat n).perrLeft (wImm12 x) := by
  rw [perrOn, if_pos h0, State.helmNext, State.pat_setHelm, State.pat_setPat_same (hs.helmCycles.pats trivial)]
  rfl

theorem perr_checker (x : Word) (h0 : q.sel ≠ 0) : ((perrOn x n q (s.helmCycles h 1)).helmNext h).pat n = s.pat n := by
  rw [perrOn, if_neg h0, State.helmNext, State.pat_setHelm, State.pat_helmCycles]

theorem prdc_generator_done (hs : s.Good True) (bits errs n : Nat) (h0 : q.sel = 0) :
    PatDone s h (s.regsWith h 0) ((prdcOn h bits errs (s.word_ h) n q (s.helmCycles h 1)).helmNext h) := by
  rw [prdcOn, if_pos h0, State.helm_helmCycles hs]
  exact (Aside.refl hs.helmCycles).patDone_setReg hs 0

theorem prdc_generator_pat (bits errs n : Nat) (h0 : q.sel = 0) :
    ((prdcOn h bits errs (s.word_ h) n q (s.helmCycles h 1)).helmNext h).pat n = s.pat n := by
  rw [prdcOn, if_pos h0, State.helmNext, State.pat_setHelm, State.pat_setHelm, State.pat_helmCycles]

theorem prdc_checker_done (hs : s.Good True) (bits errs n : Nat) (h0 : q.sel ≠ 0) :
    PatDone s h (s.regsWith h (BitVec.ofNat 32 (((s.helmCycles h 1).patCount n bits errs).pat n).progErr))
      ((prdcOn h bits errs (s.word_ h) n q (s.helmCycles h 1)).helmNext h) := by
  have ha : Aside (s.helmCycles h 1) ((s.helmCycles h 1).patCount n bits errs) := (Aside.refl hs.helmCycles).patCount
  simp only [prdcOn, if_neg h0, ha.helm, State.helm_helmCycles hs]
  exact ha.setPat.patDone_setReg hs _

/-- A checker out of sync: its program count is cleared and its operation count stays (R236). -/
theorem prdc_checker_counts (hs : s.Good True) (bits errs n : Nat) (h0 : q.sel ≠ 0) (hf : s.flag PU_STAT_SYNC n = false) :
    (((prdcOn h bits errs (s.word_ h) n q (s.helmCycles h 1)).helmNext h).pat n).progErr = 0 ∧
      ((prdcOn h bits errs (s.word_ h) n q (s.helmCycles h 1)).helmNext h).rd PU_ERR n = s.rd PU_ERR n := by
  simp only [prdcOn, if_neg h0, State.patCount_out_of_sync (s := s.helmCycles h 1) hf, State.pat_setHelm, State.helmNext,
    State.pat_setPat_same (hs.helmCycles.pats trivial), State.rd_setHelm, State.rd_setPat, State.rd_helmCycles, and_self]

theorem pstat_generator_done (hs : s.Good True) (n : Nat) (h0 : q.sel = 0) :
    PatDone s h (s.regsWith h 0) ((pstatOn h (s.word_ h) n q (s.helmCycles h 1)).helmNext h) := by
  rw [pstatOn, if_pos h0, State.helm_helmCycles hs]
  exact (Aside.refl hs.helmCycles).patDone_setReg hs 0

theorem pstat_generator_pat (n : Nat) (h0 : q.sel = 0) :
    ((pstatOn h (s.word_ h) n q (s.helmCycles h 1)).helmNext h).pat n = s.pat n := by
  rw [pstatOn, if_pos h0, State.helmNext, State.pat_setHelm, State.pat_setHelm, State.pat_helmCycles]

theorem pstat_checker_done (hs : s.Good True) (n : Nat) (h0 : q.sel ≠ 0) :
    PatDone s h (s.regsWith h (BitVec.ofNat 32 (s.rd PU_STAT_SYNC n + if (s.pat n).lostSince then 2 else 0)))
      ((pstatOn h (s.word_ h) n q (s.helmCycles h 1)).helmNext h) := by
  have hlost : (if (s.pat n).lostSince then 2 else 0) = 2 * boolNat (s.pat n).lostSince := by
    cases (s.pat n).lostSince <;> rfl
  rw [pstatOn, if_neg h0, hlost, State.helm_helmCycles hs]
  exact (Aside.refl hs.helmCycles).setPat.patDone_setReg hs _

theorem pstat_checker_lostSince (hs : s.Good True) (n : Nat) (h0 : q.sel ≠ 0) :
    (((pstatOn h (s.word_ h) n q (s.helmCycles h 1)).helmNext h).pat n).lostSince = false := by
  rw [pstatOn, if_neg h0, State.helmNext, State.pat_setHelm, State.pat_setHelm,
    State.pat_setPat_same (hs.helmCycles.pats trivial)]

theorem pword_done (hs : s.Good True) (w n : Nat) :
    PatDone s h (s.helm h).reg (((s.helmCycles h 1).wr PU_WORD_WORD w n).helmNext h) :=
  ((Aside.refl hs.helmCycles).wr).patDone hs

theorem pword_word (hs : s.Good True) (n : Nat) :
    (((s.helmCycles h 1).wr PU_WORD_WORD (((s.helmCycles h 1).helm h).reg (wD (s.word_ h))).toNat n).helmNext h).rd
      PU_WORD_WORD n = (s.srcD h).toNat := by
  rw [State.helm_helmCycles hs, State.helmNext, State.rd_setHelm, State.rd_wr_same (hs.helmCycles.regs trivial)]
  exact Nat.mod_eq_of_lt (BitVec.isLt _)

end

/-- Settles O13: DSET and DCLR by `def_row`, each pattern instruction by `pat_row` and what it makes of the unit. -/
theorem helmDefectsAndPatternControl : Obligations.HelmDefectsAndPatternControl := by
  unfold Obligations.HelmDefectsAndPatternControl
  constructor
  · intro s h u hwf hu m x code kinds faults row
    have hs := (State.wf_iff s).mp hwf
    exact ⟨def_row hs hu rfl, def_row hs hu rfl⟩
  · intro s h u hwf hu m x row kept gets bit
    have hs := (State.wf_iff s).mp hwf
    have hg : (s.helmCycles h 1).Good True := hs.helmCycles
    refine ⟨?pstart, ?pstop, ?perr, fun bits errs => ?prdc, ?pstat, ?pword⟩
    case pstart =>
      refine pat_row (f := fun x v q s => s.patStart v q.side (wImm12 x % 16)) (after := fun v q t =>
        kept t ∧ t.rd PU_CTL_CODE v = wImm12 x % 16 ∧ t.maskBit PU_CTL_RUN (bit q) v = true) hs hu rfl
        (fun hc => decide_eq_false (Nat.not_le.mpr (of_decide_eq_true hc))) fun _ v q => ?_
      have hd := pstart_done (h := h) hs v (wImm12 x % 16) q
      exact ⟨⟨_, hd⟩, hd.regs, State.rd_code_patStart hg (Nat.mod_lt _ (by decide)),
        State.run_patStart hg q.sideBit_lt q.testBit_side⟩
    case pstop =>
      refine pat_row (f := fun _ v q s => s.patStop v q.side) (after := fun v q t =>
        kept t ∧ t.maskBit PU_CTL_RUN (bit q) v = false ∧ t.rd PU_CTL_CODE v = s.rd PU_CTL_CODE v) hs hu rfl
        (fun _ => rfl) fun _ v q => ?_
      have hd := pstop_done (h := h) hs v q
      exact ⟨⟨_, hd⟩, hd.regs, State.run_patStop hg q.testBit_other_side, State.rd_code_patStop hg⟩
    case perr =>
      refine pat_row (f := perrOn) (after := fun v q t => kept t ∧ SameRegs [] s t ∧
          if q.sel = 0 then wImm12 x ≤ (t.pat v).perrLeft ∧ (s.pat v).perrLeft ≤ (t.pat v).perrLeft else t.pat v = s.pat v)
        hs hu rfl (fun _ => rfl) fun _ v q => ?_
      have hd := perr_done (h := h) hs x v q
      refine ⟨⟨_, hd⟩, hd.regs, perr_sameRegs x v q, ?_⟩
      split
      next h0 => rw [perr_left hs _ h0]; exact ⟨Nat.le_max_right .., Nat.le_max_left ..⟩
      next h0 => exact perr_checker x h0
    case prdc =>
      refine pat_row (f := prdcOn h bits errs) (after := fun v q t => if q.sel = 0 then gets t 0 ∧ t.pat v = s.pat v
          else s.flag PU_STAT_SYNC v = false → gets t (s.pat v).progErr ∧ (t.pat v).progErr = 0 ∧ t.rd PU_ERR v = s.rd PU_ERR v)
        hs hu rfl (fun _ => rfl) fun _ v q => ?_
      split
      next h0 =>
        have hd := prdc_generator_done (h := h) hs bits errs v h0
        exact ⟨⟨_, hd⟩, hd.regs, prdc_generator_pat bits errs v h0⟩
      next h0 =>
        have hd := prdc_checker_done (h := h) hs bits errs v h0
        refine ⟨⟨_, hd⟩, fun hf => ⟨?_, prdc_checker_counts hs bits errs v h0 hf⟩⟩
        rw [State.patCount_out_of_sync (s := s.helmCycles h 1) hf] at hd
        exact hd.regs
    case pstat =>
      refine pat_row (f := pstatOn h) (after := fun v q t => if q.sel = 0 then gets t 0 ∧ t.pat v = s.pat v
          else gets t (s.rd PU_STAT_SYNC v + if (s.pat v).lostSince then 2 else 0) ∧ (t.pat v).lostSince = false)
        hs hu rfl (fun _ => rfl) fun _ v q => ?_
      split
      next h0 =>
        have hd := pstat_generator_done (h := h) hs v h0
        exact ⟨⟨_, hd⟩, hd.regs, pstat_generator_pat v h0⟩
      next h0 =>
        have hd := pstat_checker_done (h := h) hs v h0
        exact ⟨⟨_, hd⟩, hd.regs, pstat_checker_lostSince hs v h0⟩
    case pword =>
      refine pat_row (f := fun x v _ s => s.wr PU_WORD_WORD ((s.helm h).reg (wD x)).toNat v)
        (after := fun v _ t => kept t ∧ t.rd PU_WORD_WORD v = (s.srcD h).toNat) hs hu rfl (fun _ => rfl) fun _ v q => ?_
      have hd := pword_done (h := h) hs (((s.helmCycles h 1).helm h).reg (wD x)).toNat v
      exact ⟨⟨_, hd⟩, hd.regs, pword_word hs v⟩

end Sys2Proof.Machine

end
